-- ==== Sys2Proof/Word.lean ====
section
/-! DEFINITION. The words of the Ivsyn block: bytes, 32-bit and 64-bit words, eight-word entries and digests (R4, R5). -/

namespace Sys2Proof

/-- A byte (R4). -/
abbrev Byte := BitVec 8

/-- A word: 32 bits (R4). -/
abbrev Word := BitVec 32

/-- A 64-bit value: IV time as presented, host addresses, masks. -/
abbrev DWord := BitVec 64

/-- The eight words of a 32-byte entry (R96, R254). -/
abbrev Words8 := Vector Word 8

/-- The sixteen words of a stage, a mirror or a journal record (R263, R337). -/
abbrev Words16 := Vector Word 16

/-- A SHA-384 digest as twelve words, byte 4n in bits [31:24] of word n (R102). -/
abbrev Digest := Vector Word 12

end Sys2Proof
end

