-- ==== Sys2Proof/Syntax.lean ====
section
/-! DEFINITION. The commands of the Ivsyn block: one constructor per row of spec/opcode_table.json, in the table's
order. The table gives no operand fields; the operands are those the rows' rules name (assumption log 4). -/

namespace Sys2Proof

/-- The two parties of a two-party change (R14): M on the management port, S on the security port. -/
inductive Party where
  | M
  | S
deriving DecidableEq, Repr

/-- Who makes a register access: a management access, a tenant-tagged access, or the security port (R36, R43). -/
inductive Port where
  | mgmt
  | tenant (t : BitVec 12)
  | sec
deriving DecidableEq, Repr

/-- The location a management write of a class M register arrives at: the register itself or one of its aliases (R349). -/
inductive Form where
  | plain
  | set
  | clear
  | toggle
deriving DecidableEq, Repr

/-- An entry-access unit: that of the management port, or that of a tenant window (R253, R256). -/
inductive EaId where
  | mgmt
  | tw (t : BitVec 12)
deriving DecidableEq, Repr

/-- The seq-clear status registers (R352). -/
inductive ScReg where
  | status
  | furnStatus
  | ea (u : EaId)
  | tw (t : BitVec 12)
  | dc (p : Party)
  | fltSum
deriving DecidableEq, Repr

/-- One beat as the switch presents it on a lane (R44); its KIND is the command's own row. -/
structure Beat where
  /-- IV_IN_OFF. -/
  off : BitVec 26
  /-- IV_IN_RID. -/
  rid : BitVec 16
  /-- IV_IN_PORT. -/
  port : BitVec 8
  /-- IV_IN_TENANT. -/
  tenant : BitVec 12
  /-- IV_IN_DATA. -/
  data : Word
  /-- IV_IN_LEN. -/
  len : BitVec 13
  /-- IV_IN_POISON. -/
  poison : Bool
deriving DecidableEq, Repr

/-- A copy of the aperture (R59). -/
inductive Copy where
  | primary
  | secondary
deriving DecidableEq, Repr

/-- The crossings that can disagree, with the codes of R307. -/
inductive Crossing where
  | time
  | regTime
  | throttle
  | counted
  | aoReg
  | fabReg
deriving DecidableEq, Repr

/-- How the two planes compare in a ranking round (R165, R166). -/
inductive PlaneCheck where
  /-- The results agree; the residue check passes where one plane decides. -/
  | agree
  /-- They differ, and the second run agrees. -/
  | retryAgrees
  /-- They differ twice. -/
  | disagree
  /-- One plane decides and its residue check fails. -/
  | residueError
deriving DecidableEq, Repr

/-- What the ECC of a refreshed row shows (R289). -/
inductive Ecc where
  | clean
  | single
  | double
deriving DecidableEq, Repr

/-- A read through a port (R36, R43). -/
structure ReadAccess where
  port : Port
  /-- The byte address. -/
  addr : BitVec 22
deriving DecidableEq, Repr

/-- A frame of the board controller on the sideband (R78). -/
structure SbFrame where
  /-- The address byte. -/
  addr : Byte
  /-- The line changes that the board controller makes, two for each bit and two for the turnaround, before it falls silent
  (R77, R83). -/
  moves : Nat
deriving DecidableEq, Repr

/-- The commands, one constructor per row of the table. -/
inductive Instr where
  | regWrite (port : Port) (addr : BitVec 22) (wdata : Word)
  | accessGuardTimeout (port : Port)
  | memoryWriteBeat (lane : Fin 4) (beat : Beat)
  | assertIntx (lane : Fin 4) (beat : Beat)
  | deassertIntx (lane : Fin 4) (beat : Beat)
  | rouse (lane : Fin 4) (beat : Beat)
  | wakeBeat (lane : Fin 4)
  | vteReadReturn (tag : BitVec 8) (data : Words8)
  | apertureReadError (tag : BitVec 8)
  | apertureReadTimeout (tag : BitVec 8)
  | apertureWriteAck (tag : BitVec 8) (copy : Copy)
  | apertureWriteError (tag : BitVec 8) (copy : Copy)
  | egressAccept (tag : BitVec 8)
  | egressReject (tag : BitVec 8)
  | levelLineChange (n : Fin 3840) (high : Bool)
  | sampledEdge (n : Fin 3840)
  | countedStep (m : Fin 256) (gray : BitVec 4)
  | cdcRetry (code : Crossing) (line : BitVec 16)
  | cdcDeferred (code : Crossing) (line : BitVec 16)
  | timeAccept (ivTime : DWord)
  | timeValidLoss
  | throttleChange (level : BitVec 3)
  | vddOkFall
  | pwrAck (ivTime : Option DWord)
  | linkUp (host : BitVec 8) (tenant : BitVec 12)
  | linkDown (host : BitVec 8) (tenant : BitVec 12)
  | lowPower (host : BitVec 8) (tenant : BitVec 12)
  | hostReset (host : BitVec 8) (tenant : BitVec 12)
  | quarAck
  | wakePin
  | wiredLevelWake (n : Fin 3840)
  | aoWakeComparator
  | porstFall
  | porstRelease (aPass bPass : Bool)
  | ping (frame : SbFrame)
  | sbWake (frame : SbFrame)
  | readPoll (frame : SbFrame) (n : BitVec 4)
  | readAo (frame : SbFrame) (index : BitVec 16)
  | sbReset (frame : SbFrame) (key : BitVec 16)
  | badCmd (frame : SbFrame) (cmd : Byte)
  | sbFrameTimeout
  | resetCmd (port : Port) (wdata : Word)
  | blockResetComplete (aPass bPass : Bool)
  | modeReqWrite (form : Form) (wdata : Word)
  | engineEnSet
  | engineEnClear
  | ingressEnClear
  | ingressEnSet
  | deliverEnClear
  | deliverEnSet
  | freezeSet
  | freezeClear
  | lockSet (bits : Word)
  | load
  | reform (tenant : BitVec 12)
  | abandon
  | warmForm
  | fetchComplete (image : List Byte)
  | approvalTimeout
  | validateComplete
  | reformDrainComplete
  | reformAcceptTimeout (target : BitVec 16)
  | formCommit (stored : List (Nat × Words8))
  | acquire (port : Port) (u : EaId) (lease : BitVec 16)
  | read (port : Port) (u : EaId)
  | stage (port : Port) (u : EaId)
  | apply (port : Port) (u : EaId)
  | release (port : Port) (u : EaId)
  | fence (port : Port) (u : EaId)
  | leaseExpiry (timer : Fin 64)
  | propose (p : Party)
  | withdraw (p : Party)
  | veto (p : Party) (idLo : Word)
  | approve (p : Party) (idHi : Word)
  | dcStageWrite (p : Party) (form : Form) (n : Fin 16) (wdata : Word)
  | dcWindowExpiry (p : Party)
  | injectPlaneAMismatch (key : BitVec 16)
  | injectFenceA (key : BitVec 16)
  | injectFenceB (key : BitVec 16)
  | injectEccSingle (key : BitVec 16)
  | injectEccDouble (key : BitVec 16)
  | injectCdcDisagree (key : BitVec 16)
  | injectApertureReadError (key : BitVec 16)
  | injectHeartbeatStop (key : BitVec 16)
  | injectCollectorParity (key : BitVec 16)
  | resync
  | resyncComplete
  | jnlHeadWrite (form : Form) (wdata : Word)
  | seqClear (port : Port) (reg : ScReg) (wdata : Word)
  | timeLoRead (access : ReadAccess)
  | sleepElapsedLoRead (port : Port)
  | amaskLoRead (port : Port) (target : BitVec 16)
  | tEoi (port : Port) (target : BitVec 16) (wdata : Word)
  | tHead (port : Port) (target : BitVec 16) (wdata : Word)
  | tRearm (port : Port) (target : BitVec 16) (wdata : Word)
  | tHint (port : Port) (target : BitVec 16) (wdata : Word)
  | tCprio (port : Port) (target : BitVec 16) (wdata : Word)
  | rankingRound (h : BitVec 24) (check : PlaneCheck)
  | selfTest (aPass bPass thirdAgrees : Bool)
  | arbiterRound
  | holdoffWindowEnd (g : BitVec 12)
  | deadlineArrival (h : BitVec 24)
  | couchTimeLimit (g : BitVec 12)
  | sweep
  | batchTimeout (target : BitVec 16)
  | watchdogExpiry (target : BitVec 16)
  | creditRefill
  | strangerWindowEnd
  | journalBucketRefill
  | hwFieldWriteback
  | aliveToggle
  | heartbeat
  | wedged
  | pollRefresh
  | clkFabLoss
  | clkRegLoss
  | aoClockStop
  | refresh (hot : Bool) (array : BitVec 8) (row : BitVec 16) (copied : Bool) (ecc : Ecc)
  | safeEntry (parity completes : Bool)
  | lastGasp
  | idleEntry
  | entryAttempt
  | entryRetry
  | entryDrainComplete
  | entryDeliveryTimeout
  | entryCommit
  | sbFrameAbandonBothRails
  | aoEdgeSeenAgain
deriving DecidableEq, Repr

end Sys2Proof
end

