-- ==== Sys2Proof/Decode.lean ====
section
/-! DEFINITION. The commands that the words of spec/opcode_table.json spell: its rows give no bits, so no word spells a command. -/

namespace Sys2Proof

/-- The command that a word of the table's bits spells: no row of the table gives bits. -/
def decodeTableWord (_nbits _w : Nat) : Option Instr := none

end Sys2Proof
end

