-- ==== Sys2Proof/Config.lean ====
section
/-! DEFINITION. What the spec leaves free: constants without a body, so that no proof can see a value of them (assumption log 7). -/

namespace Sys2Proof.Config

/-- The n-th word drawn from the protection unit's random source: ID_LO of a proposal (R266). A free value. -/
opaque randomWord : Nat → Word

/-- The self-test signature that PLANE_FENCED carries in word 5 (R340); the spec gives no value. A free value. -/
opaque selfTestSignature : Nat → Word

/-- The n-th word that an entry-access READ shows of a VTE whose aperture read failed; the spec states none (R132, R255). A free value. -/
opaque unreadWord : Nat → Word

/-- The n-th byte of a local ring memory slot that an uncorrectable error left corrupt (R316). A free value. -/
opaque corruptByte : Nat → Byte

/-- Whether the n-th clock edge is one of IV_CLK_AO; otherwise it is a cycle of IV_CLK_FAB. The clocks share no phase (R42). A free value. -/
opaque nextEdgeAo : Nat → Bool

end Sys2Proof.Config
end

