-- ==== Sys2Proof/Machine/Map.lean ====
section
/-! DEFINITION. Sparse tables as key-sorted lists, bit-field helpers, byte order (R5, R6) and the Gray code (R62). -/

namespace Sys2Proof.Machine

/-- The value listed at a key. -/
def find {α : Type} (m : List (Nat × α)) (k : Nat) : Option α :=
  match m with
  | [] => none
  | (k', v) :: r => if k' = k then some v else find r k

/-- The table with a value at a key, keys kept in rising order. -/
def put {α : Type} (m : List (Nat × α)) (k : Nat) (v : α) : List (Nat × α) :=
  match m with
  | [] => [(k, v)]
  | (k', v') :: r => if k = k' then (k, v) :: r else if k < k' then (k, v) :: (k', v') :: r else (k', v') :: put r k v

/-- The table without a key. -/
def erase {α : Type} (m : List (Nat × α)) (k : Nat) : List (Nat × α) :=
  m.filter fun e => e.1 ≠ k

/-- Insertion of a number into a rising list without repeats. -/
def insertNat (l : List Nat) (k : Nat) : List Nat :=
  match l with
  | [] => [k]
  | x :: r => if k = x then x :: r else if k < x then k :: x :: r else x :: insertNat r k

/-- A bit of a Bool, in a word of any width. -/
def bit {w : Nat} (b : Bool) (i : Nat) : BitVec w :=
  if b then BitVec.ofNat w (2 ^ i) else 0

/-- Bits [lo + n - 1 : lo] of a value (R5). -/
def fld {w : Nat} (v : BitVec w) (lo n : Nat) : BitVec n :=
  v.extractLsb' lo n

/-- A field placed at bit lo of a word. -/
def at_ {n : Nat} (w lo : Nat) (f : BitVec n) : BitVec w :=
  (f.setWidth w) <<< lo

/-- The four bytes of a word, least significant first (R6). -/
def wordBytes (w : Word) : List Byte :=
  [fld w 0 8, fld w 8 8, fld w 16 8, fld w 24 8]

/-- Bytes read little-endian (R6). -/
def leNat (bs : List Byte) : Nat :=
  match bs with
  | [] => 0
  | b :: r => b.toNat + 256 * leNat r

/-- Bytes of words in memory order (R6). -/
def wordsBytes (ws : List Word) : List Byte :=
  ws.flatMap wordBytes

/-- Addition to a counter that saturates (R11). -/
def satAdd {w : Nat} (a : BitVec w) (n : Nat) : BitVec w :=
  if a.toNat + n < 2 ^ w then a + BitVec.ofNat w n else BitVec.allOnes w

/-- The largest value of IV time (R204). -/
def u64Max : Nat := 18446744073709551615

/-- Addition of a duration to an instant, saturating at 2^64 - 1 (R204). -/
def satTime (a b : Nat) : Nat :=
  if a + b ≤ u64Max then a + b else u64Max

/-- The count that a 4-bit Gray value stands for (R62). -/
def grayCount (g : BitVec 4) : Nat :=
  (g ^^^ (g >>> 1) ^^^ (g >>> 2) ^^^ (g >>> 3)).toNat

/-- The number of the highest set bit of a mask, or 0 for an empty one (R151). -/
def topBit (m : DWord) : Nat :=
  if m = 0 then 0 else m.toNat.log2

/-- A set of one bit in a mask. -/
def setBit {w : Nat} (m : BitVec w) (i : Nat) : BitVec w := m ||| BitVec.ofNat w (2 ^ i)

/-- A clear of one bit in a mask. -/
def clrBit {w : Nat} (m : BitVec w) (i : Nat) : BitVec w := m &&& ~~~(BitVec.ofNat w (2 ^ i))

/-- An element of a list that has the least key under a relation, the first among equals. -/
def leastBy {α : Type} (lt : α → α → Bool) (l : List α) : Option α :=
  match l with
  | [] => none
  | x :: r =>
    match leastBy lt r with
    | none => some x
    | some y => if lt y x then some y else some x

/-- A fold that changes a state along a list. -/
def forEach {α σ : Type} (l : List α) (s : σ) (f : σ → α → σ) : σ :=
  match l with
  | [] => s
  | x :: r => forEach r (f s x) f

end Sys2Proof.Machine
end

