-- ==== Sys2Proof/Machine/Crypto.lean ====
section
/-! DEFINITION. The three published functions the spec uses: CRC-32 (R121), SipHash-2-4 (R195, R273) and SHA-384 (R102). -/

namespace Sys2Proof.Machine

/-- One bit of the reflected CRC-32 division. -/
def crcBit (c : Word) : Word :=
  if c.getLsbD 0 then (c >>> 1) ^^^ 0xEDB88320 else c >>> 1

/-- One byte of the CRC-32. -/
def crcByte (c : Word) (b : Byte) : Word :=
  crcBit (crcBit (crcBit (crcBit (crcBit (crcBit (crcBit (crcBit (c ^^^ b.setWidth 32))))))))

/-- The CRC-32 of IEEE 802.3 over bytes in memory order (R121). -/
def crc32 (bs : List Byte) : Word :=
  (bs.foldl crcByte 0xFFFFFFFF) ^^^ 0xFFFFFFFF

/-- The four words of SipHash's internal state. -/
structure Sip where
  v0 : DWord
  v1 : DWord
  v2 : DWord
  v3 : DWord

/-- One SipRound. -/
def sipRound (s : Sip) : Sip :=
  let a0 := s.v0 + s.v1
  let a1 := (s.v1.rotateLeft 13) ^^^ a0
  let b0 := a0.rotateLeft 32
  let a2 := s.v2 + s.v3
  let a3 := (s.v3.rotateLeft 16) ^^^ a2
  let c0 := b0 + a3
  let c3 := (a3.rotateLeft 21) ^^^ c0
  let c2 := a2 + a1
  let c1 := (a1.rotateLeft 17) ^^^ c2
  { v0 := c0, v1 := c1, v2 := c2.rotateLeft 32, v3 := c3 }

/-- The compression of one 64-bit message word: two rounds. -/
def sipWord (s : Sip) (m : DWord) : Sip :=
  let t := sipRound (sipRound { s with v3 := s.v3 ^^^ m })
  { t with v0 := t.v0 ^^^ m }

/-- The message words: eight bytes each, the last padded and topped with the length. -/
def sipWords (len : Nat) (bs : List Byte) : List DWord :=
  match bs with
  | a :: b :: c :: d :: e :: f :: g :: h :: r => BitVec.ofNat 64 (leNat [a, b, c, d, e, f, g, h]) :: sipWords len r
  | r => [BitVec.ofNat 64 (leNat r + (len % 256) * 2 ^ 56)]

/-- SipHash-2-4 under a 128-bit key, K[0] in bits [7:0] (R195). -/
def sipHash (key : BitVec 128) (bs : List Byte) : DWord :=
  let k0 : DWord := fld key 0 64
  let k1 : DWord := fld key 64 64
  let s0 : Sip := { v0 := k0 ^^^ 0x736f6d6570736575, v1 := k1 ^^^ 0x646f72616e646f6d,
                    v2 := k0 ^^^ 0x6c7967656e657261, v3 := k1 ^^^ 0x7465646279746573 }
  let s1 := (sipWords bs.length bs).foldl sipWord s0
  let s2 := sipRound (sipRound (sipRound (sipRound { s1 with v2 := s1.v2 ^^^ 0xFF })))
  s2.v0 ^^^ s2.v1 ^^^ s2.v2 ^^^ s2.v3

/-- The low 32 bits of SipHash-2-4: the watermark and the key check value (R195, R273). -/
def sipTag (key : BitVec 128) (bs : List Byte) : Word :=
  fld (sipHash key bs) 0 32

/-! ### SHA-384

FIPS 180-4 names its constants by what they are: the first 64 bits of the fractional parts of roots of primes. They are computed here
from that. -/

/-- The greatest number below x + 2^n whose k-th power is at most m, found bit by bit from bit n - 1 down. -/
def rootFrom (k m n x : Nat) : Nat :=
  match n with
  | 0 => x
  | b + 1 => rootFrom k m b (if (x + 2 ^ b) ^ k ≤ m then x + 2 ^ b else x)

/-- The first 64 bits of the fractional part of the k-th root of p, for a root below 512. -/
def rootBits (k p : Nat) : DWord := BitVec.ofNat 64 (rootFrom k (p * 2 ^ (64 * k)) 73 0)

/-- The primes below 410: the first eighty (FIPS 180-4). -/
def shaPrimes : List Nat :=
  (List.range 410).filter fun p => decide (2 ≤ p) && (List.range 21).all fun d => decide (d < 2) || decide (p ≤ d) || decide (p % d ≠ 0)

/-- The constant of each of the eighty rounds: cube roots of the first eighty primes (FIPS 180-4). -/
def shaRoundKeys : List DWord := shaPrimes.map (rootBits 3)

/-- The hash value before the first block: square roots of the ninth to sixteenth primes (FIPS 180-4). -/
def shaStart : List DWord := ((shaPrimes.drop 8).take 8).map (rootBits 2)

/-- The exclusive or of three rotations to the right. -/
def spin (x : DWord) (i j k : Nat) : DWord := x.rotateRight i ^^^ x.rotateRight j ^^^ x.rotateRight k

/-- The exclusive or of two rotations and one shift to the right. -/
def slide (x : DWord) (i j k : Nat) : DWord := x.rotateRight i ^^^ x.rotateRight j ^^^ (x >>> k)

/-- A run of the compression function. The eight working variables of FIPS 180-4 are the last four values of two sequences: `head`
holds those that start as a, b, c, d and `tail` those that start as e, f, g, h, newest first. `sched` is the schedule's window of
sixteen words, the next one first. -/
structure ShaRun where
  head : List DWord
  tail : List DWord
  sched : List DWord

/-- The term that the tail sequence gives a round: its newest word mixed, the choice among its newest three, and its oldest word. -/
def shaTail (l : List DWord) : DWord :=
  match l with
  | [p, q, r, o] => spin p 14 18 41 + (r ^^^ (p &&& (q ^^^ r))) + o
  | _ => 0

/-- The term that the head sequence gives a round: its newest word mixed, and the majority of its newest three. -/
def shaHead (l : List DWord) : DWord :=
  match l with
  | [p, q, r, _] => spin p 28 34 39 + ((p &&& (q ||| r)) ||| (q &&& r))
  | _ => 0

/-- The window moved on by one word, which enters it at the far end. -/
def shaAdvance (w : List DWord) : List DWord :=
  w.drop 1 ++ [w.headD 0 + slide (w.getD 1 0) 1 8 7 + w.getD 9 0 + slide (w.getD 14 0) 19 61 6]

/-- One round under its constant. -/
def shaTurn (r : ShaRun) (key : DWord) : ShaRun :=
  let x := shaTail r.tail + key + r.sched.headD 0
  { head := (x + shaHead r.head) :: r.head.take 3, tail := (r.head.getD 3 0 + x) :: r.tail.take 3, sched := shaAdvance r.sched }

/-- A byte string cut into pieces of k bytes, at most n of them. -/
def pieces (k n : Nat) (bs : List Byte) : List (List Byte) := (List.range n).map fun i => (bs.drop (k * i)).take k

/-- A big-endian 64-bit word. -/
def bigWord (bs : List Byte) : DWord := BitVec.ofNat 64 (leNat bs.reverse)

/-- The hash value carried over one 128-byte block. -/
def shaFold (v : List DWord) (block : List Byte) : List DWord :=
  let r := shaRoundKeys.foldl shaTurn { head := v.take 4, tail := v.drop 4, sched := (pieces 8 16 block).map bigWord }
  List.zipWith (fun x y => x + y) v (r.head ++ r.tail)

/-- The message closed: a one bit, zeros, and the length in bits as sixteen big-endian bytes, to a whole number of blocks. -/
def shaClose (bs : List Byte) : List Byte :=
  let short := bs ++ [0x80]
  short ++ List.replicate ((240 - short.length % 128) % 128) 0
    ++ ((List.range 16).map fun i => BitVec.ofNat 8 (8 * bs.length / 256 ^ i)).reverse

/-- SHA-384 of a byte string, byte 4n in bits [31:24] of word n (R102): the first six words of the last hash value. -/
def sha384 (bs : List Byte) : Digest :=
  let m := shaClose bs
  let v := (pieces 128 (m.length / 128) m).foldl shaFold shaStart
  Vector.ofFn fun i : Fin 12 => fld (v.getD (i.val / 2) 0) (32 - 32 * (i.val % 2)) 32

end Sys2Proof.Machine
end

