-- ==== Sys2Proof/Machine/State.lean ====
section
/-! DEFINITION. The state of the Ivsyn block as plain data, its faults and refusals, and the state after reset
(R86, R362, R373, R379, R381). INVENTORY.md lists every field with its rule and reset value. -/

namespace Sys2Proof.Machine

/-- The modes (R276). -/
inductive Mode where
  | off
  | dormant
  | rest
  | idle
  | unformed
  | serving
  | draining
  | safe
deriving DecidableEq, Repr

/-- A seq-clear status register: its SEQ and its flags at their bit positions (R352, R353). -/
structure Sc where
  seq : BitVec 8
  flags : BitVec 24
deriving DecidableEq, Repr

/-- The mode register, ENGINE_EN and the lock bits (R275, R276, R364). -/
structure ModeUnit where
  mode : Mode
  seq : BitVec 8
  prev : Mode
  engineEn : Bool
  lock : BitVec 8
  /-- LOCK_BITS of the present form have been taken (R275). -/
  lockTaken : Bool
deriving DecidableEq, Repr

/-- The control registers that software sets (R362). -/
structure CtlRegs where
  ingressEn : Bool
  deliverEn : Bool
  planeCheckEn : Bool
  journalEn : Bool
  quarEn : Bool
  cfgCount : BitVec 8
  cfgOffset : BitVec 18
  batchMax : BitVec 4
  waitLim : BitVec 8
  preemptEn : Bool
  freeze : Bool
  maxResend : BitVec 4
  periodUs : BitVec 20
  /-- IV_CLASS_BUDGETk, bits [30:24] zero (R205). -/
  budgets : Vector Word 16
  elasticEn : Bool
  couchEn : Bool
  nowakeLevel : BitVec 3
  graceUs : BitVec 16
  deferFatal : Bool
  aperWerrFatal : Bool
  degradeEn : Bool
  halfUs : BitVec 16
  dcWindow : BitVec 16
  sbTrace : Bool
  wakeEn : BitVec 5
  allow : BitVec 4
  idleAfter : BitVec 16
deriving DecidableEq, Repr

/-- The event counters (R371). -/
structure Counters where
  ingress : DWord
  delivered : Word
  stranger : Word
  noise : Word
  late : Word
  parked : Word
  coalesced : Word
  overdraft : Word
  eoiStray : Word
deriving DecidableEq, Repr

/-- The last multiple of its period at which each periodic tick acted (R243). -/
structure Ticks where
  /-- CREDIT_REFILL, 1,000,000 ns (R180). -/
  credit : Nat
  /-- STRANGER_WINDOW_END, 1,048,576 ns (R127). -/
  stranger : Nat
  /-- JOURNAL_BUCKET_REFILL, 1,000,000,000 ns (R126). -/
  bucket : Nat
  /-- HW_FIELD_WRITEBACK, 1,024,000 ns (R131). -/
  writeback : Nat
  /-- SWEEP, 1,024 ns (R242). -/
  sweep : Nat
deriving DecidableEq, Repr

/-- The time unit (R235 to R248). Instants are counts of nanoseconds of IV time. -/
structure TimeUnit where
  /-- Local time (R235). -/
  now : Nat
  /-- A value has been accepted since power-on reset (R238). -/
  accepted : Bool
  /-- The last accepted IV time (R65). -/
  lastAcc : Nat
  /-- The AO count at which it was accepted (R250). -/
  lastAo : Word
  /-- IV_MODE.TIME_ESTIMATED. -/
  estimated : Bool
  /-- IV_TIME_VALID as last seen. -/
  ivValid : Bool
  aoCount : Word
  aoCal : Word
  /-- The estimate's fraction of a nanosecond, in units of 2^-16 (R245). -/
  estFrac : BitVec 16
  /-- The value that local time is interpolated from: the last accepted one, or the last that AO ticks gave an estimate (R235, R245). -/
  base : Nat
  /-- IV_CLK_FAB cycles since that value, as far as interpolation counts them (R235, R245). -/
  cycles : Nat
  /-- IV_CLK_FAB cycles that have passed, as far as the model sees them: the count that the batch limit and the aperture's read timeout
  run on (R240, assumption log 72). -/
  fab : Nat
  /-- That count at the last accepted IV time. -/
  fabAcc : Nat
  /-- IV_CLK_AO has stopped and its deferred fault is in force (R312). -/
  aoStopped : Bool
  /-- IV_SLEEP_ELAPSED. -/
  elapsed : DWord
  tEntry : Nat
  aEntry : Word
  aWake : Word
  /-- The latch of IV_TIME_HI. -/
  latchM : Word
  /-- The latch of IV_S_TIME_HI. -/
  latchS : Word
  /-- The latch of IV_SLEEP_ELAPSED_HI. -/
  latchSleep : Word
  leasePeak : BitVec 7
  ticks : Ticks
deriving DecidableEq, Repr

/-- The target of an entry attempt (R281). -/
inductive SleepTarget where
  | rest
  | dormant
  | off
deriving DecidableEq, Repr

/-- How far an entry attempt has come (R283, R287, R293). -/
inductive EntryStep where
  /-- IV_IN_HOLD is raised and writes in flight are awaited (steps 2 and 3). -/
  | draining
  /-- The copies are refreshed and the latches armed (steps 4 and 5). -/
  | armed
  /-- Committed; the MODE_CHANGE record's write is awaited (step 7). -/
  | committed
  /-- IV_PWR_REQ is REST and IV_PWR_ACK is awaited (step 8). -/
  | askedRest
  /-- IV_PWR_REQ is DORMANT and IV_PWR_ACK is awaited (step 10). -/
  | askedDormant
  /-- IV_PWR_REQ is OFF (step 11). -/
  | askedOff
deriving DecidableEq, Repr

/-- An entry attempt in progress. -/
structure Entry where
  target : SleepTarget
  step : EntryStep
  /-- The mode it started from. -/
  origin : Mode
  /-- The instant at which it started (R283). -/
  since : Nat
  /-- The instant at which the sampler stopped and the line latches were armed (R283 step 5, R286). -/
  armedAt : Nat
deriving DecidableEq, Repr

/-- A write the front end queues in sleep (R160, R176, R217): port rights are decided when it is accepted. -/
inductive Queued where
  | eoi (target : BitVec 16) (h : BitVec 24)
  | hint (target : BitVec 16) (v : BitVec 2)
  | head (target : BitVec 16) (w : Word)
  | rearm (target : BitVec 16) (mgmt : Bool)
deriving DecidableEq, Repr

/-- The kinds of a host-state event (R72). -/
inductive HostKind where
  | linkUp
  | linkDown
  | lowPower
  | reset
deriving DecidableEq, Repr

/-- A host-state event held through a sleep (R291). -/
structure HostEvt where
  host : BitVec 8
  tenant : BitVec 12
  kind : HostKind
deriving DecidableEq, Repr

/-- The power and mode controller (R277, R281 to R300). -/
structure PowerUnit where
  req : BitVec 4
  entry : Option Entry
  retryAt : Option Nat
  /-- Ivsyn has entered IDLE and makes an attempt (R281). -/
  due : Bool
  pwrReq : BitVec 3
  /-- A request has been made and IV_PWR_ACK has not yet risen (R68). -/
  ackWait : Bool
  pwrState : BitVec 3
  /-- IV_VDD_OK fell in the present sleep (R69). -/
  vddFell : Bool
  /-- A wake has been detected, with this cause (R292 step 1). -/
  wakeReq : Option (BitVec 4)
  /-- Ivsyn has been quiet only since a wake with IDLE_AFTER 0 (R281). -/
  woke : Bool
  /-- The copies that an entry attempt took of control-window registers (R283 step 4, R290, R168). -/
  copies : List (Nat × Word)
  wakeCause : BitVec 4
  wakes : BitVec 16
  retLost : Bool
  refreshHot : Bool
  refSeq : BitVec 8
  refTarget : BitVec 4
  refCode : BitVec 4
  refCnt : Vector Word 8
  throttle : BitVec 3
  /-- The level that the switch presents on IV_THROTTLE (R70, R300). -/
  thrPin : BitVec 3
  thrChanges : BitVec 16
  eoiQ : List Queued
  hintQ : List Queued
  /-- Writes that a full queue holds without an answer, oldest first (R160, R176). -/
  heldWrites : List Queued
  hostQ : List HostEvt
  /-- Offsets [19:2] of the writes ignored in the present sleep, newest first (R290). -/
  ignored : List (BitVec 18)
  /-- Accesses that the guard ended in the present sleep (R41). -/
  hungs : Nat
  /-- Faults found in the present sleep, newest first: source, ARG, whether injected, and the time (R289, R340). -/
  faultsHeld : List (BitVec 8 × BitVec 24 × Bool × Nat)
  comparator : Option Word
  saves : BitVec 8
  saveValid : Bool
  savePrev : BitVec 4
  /-- Save word 1: `IV_PWR_REFUSE_LAST` at the last refusal. -/
  saveRefuse : Word
  /-- Words 32 to 83 of the AO save area (R288). -/
  ret : List Word
deriving DecidableEq, Repr

/-- One journal or last-gasp record: sixteen words (R337). -/
abbrev Rec := Words16

/-- A response frame of the sideband (R78, R80). -/
structure SbResp where
  status : Byte
  data : List (BitVec 16)
deriving DecidableEq, Repr

/-- What a fatal fault asks of the AO island (R324, R339). -/
structure Fatal where
  source : BitVec 8
  detail : BitVec 24
  /-- Words 4 and 5 of the last-gasp record read zero: the collector itself failed (R323). -/
  blind : Bool
  /-- The fault came from `IV_FLT_INJECT` (R321). -/
  injected : Bool
deriving DecidableEq, Repr

/-- What Ivsyn does with one of the sideband's wires (R76, R77, R83). -/
inductive Drive where
  /-- It leaves the wire to the weak pull-down or to the board controller. -/
  | released
  | low
  | high
deriving DecidableEq, Repr

/-- Where the handshake of the sideband stands between two line changes of the board controller (R77, R83). -/
inductive SbPhase where
  /-- Ivsyn receives, IV_SB_ACK is 0, and it awaits the rise of a data line (R77 step 1). -/
  | receive
  /-- Ivsyn has raised IV_SB_ACK for a bit of this value, and awaits the fall of the data line (R77 step 3). -/
  | held (v : Bool)
  /-- The request is complete and IV_SB_ACK released: Ivsyn awaits its rise by the board controller (R83 step 2). -/
  | turning
  /-- Ivsyn drives the data lines to 0, and awaits the fall of IV_SB_ACK (R83 step 4). -/
  | turned
  /-- Ivsyn has raised a data line for the next response bit, and awaits the rise of IV_SB_ACK (R77 step 2). -/
  | sending
  /-- Ivsyn has lowered the data line, and awaits the fall of IV_SB_ACK (R77 step 4). -/
  | sent
deriving DecidableEq, Repr

/-- The sideband's wires and the frame on them (R77, R78, R83). -/
structure SbUnit where
  d0 : Drive
  d1 : Drive
  ack : Drive
  phase : SbPhase
  /-- Bits of the request frame received so far, first bit first. -/
  rx : List Bool
  /-- Bits of the response frame that the board controller has not yet taken, next bit first. -/
  tx : List Bool
  /-- AO edges since a line last changed in a frame (R81). -/
  quiet : Nat
  /-- The response being sent is that of a RESET that acts (R82). -/
  resetDue : Bool
deriving DecidableEq, Repr

/-- A write of an AO register that waits for the next AO edge (R307). -/
structure AoWrite where
  form : Form
  /-- The register's address in the control window. -/
  a : Nat
  w : Word
  /-- The address as written. -/
  addr : BitVec 22
deriving DecidableEq, Repr

/-- The always-on island (R85, R288, R320, R327, R328, R339, R367). -/
structure AoUnit where
  alive : Bool
  toggles : Word
  /-- AO time toward the next toggle, in units of 2^-16 ns (R327). -/
  sinceToggle : Nat
  /-- IV_ALIVE may toggle: it stops in SAFE (R324). -/
  aliveRun : Bool
  token : Bool
  missed : Nat
  sbAddr : Byte
  sbKey : BitVec 16
  sbWrong : Nat
  /-- The response that is being sent or was sent last; none once its frame is abandoned. -/
  sbResp : Option SbResp
  sb : SbUnit
  /-- Poll words 2, 4, 5, 6, 7, 8, 10 and 11 as last refreshed (R368). -/
  poll : Vector Word 8
  safeCause : BitVec 8
  safeCount : BitVec 8
  pollFenced : BitVec 2
  pollFlags : BitVec 8
  /-- The four last-gasp slots (R339). -/
  lg : Vector (Option Rec) 4
  /-- The number of the newest last-gasp record; 0 before the first. -/
  lgNum : Nat
  /-- A last-gasp record to be written at the next AO edge. -/
  lgDue : Option Rec
  /-- The retained furnish digest (R109). -/
  digest : Option Digest
  /-- The proposal number that the next proposal takes (R266). -/
  propNum : Word
  /-- IV_PORST_N is low (R86). -/
  porst : Bool
  /-- A block reset has been requested and has not completed (R87). -/
  resetting : Bool
  /-- Writes of AO registers that wait, oldest first, for an AO edge while IV_CLK_AO stands still (R307). -/
  heldPuts : List AoWrite
deriving DecidableEq, Repr

/-- Why an aperture request was made. -/
inductive Purpose where
  | vteRead (h : Nat)
  /-- Words 0 to 3 of an entry whose row on chip is corrupt (R316). -/
  | vteReload (h : Nat)
  /-- Words 0 to 5 of a descriptor whose row on chip is corrupt (R316). -/
  | tdReload (t : Nat)
  | spillRead (h : Nat)
  | image
  | journal
  | modeChange
  | tenantJournal (t : Nat)
  | lastGasp
  | vteWrite (h : Nat)
  | tdWrite (t : Nat)
  | groupWrite (i : Nat)
  | couchWrite (g : Nat)
  | spillWrite (h : Nat)
  | form
  | resync
  /-- Its cause is gone: the outcome changes nothing. -/
  | void
deriving DecidableEq, Repr

/-- A run of equal beats of table traffic: `count` beats of 32 bytes from an aperture offset. The words are those written; none where
Ivsyn reads, or copies what it has read. -/
structure Run where
  offset : Nat
  count : Nat
  words : List Word
deriving DecidableEq, Repr

/-- An aperture request: aperture offset, words, and the copies whose completion is awaited (R58, R59). -/
structure AperReq where
  purpose : Purpose
  write : Bool
  offset : Nat
  data : List Word
  /-- The beats of a request that stands for table traffic (assumption log 46); none for one beat at `offset`. -/
  runs : List Run
  onPrimary : Bool
  onSecondary : Bool
  /-- The IV_CLK_FAB count at which it took its tag: the read timeout runs from it (R59, R240). -/
  since : Nat
deriving DecidableEq, Repr

/-- The aperture port and its registers (R58, R59, R330, R369). -/
structure AperUnit where
  /-- Base address bits [63:30]. -/
  base : BitVec 34
  base2 : BitVec 34
  log2 : BitVec 6
  mirrorEn : Bool
  state : BitVec 2
  readSec : Bool
  pct : BitVec 7
  /-- Outstanding requests by tag. -/
  reqs : List (BitVec 8 × AperReq)
  /-- Requests that wait for a tag, oldest first. -/
  waiting : List AperReq
deriving DecidableEq, Repr

/-- GEOMETRY (R93). -/
structure Geometry where
  handleTop : Nat
  targetTop : Nat
  groupTop : Nat
  couchTop : Nat
  pinMax : Nat
deriving DecidableEq, Repr

/-- One SLICES entry (R94). -/
structure Slice where
  tenant : Nat
  sizeClass : Nat
  base : Nat
  vecCount : Nat
  targetBase : Nat
  targetCount : Nat
  groupBase : Nat
  groupCount : Nat
  couchBase : Nat
  couchCount : Nat
  bucket : Nat
  refill : Nat
deriving DecidableEq, Repr

/-- One APERTURE entry (R95). -/
structure Region where
  kind : Nat
  tenant : Nat
  size4k : Nat
  offset : Nat
deriving DecidableEq, Repr

/-- A furnish image read into its fields (R89 to R102). -/
structure Furnish where
  buildId : DWord
  geometry : Geometry
  slices : List Slice
  regions : List Region
  leaseTimers : Nat
  slots : List Nat
  classes : List Word
  lockBits : BitVec 8
  dcScope : BitVec 8
  dcWindowMs : Nat
  leaseDefaultMs : Nat
  allowed : BitVec 8
  wakeSrc : BitVec 8
  idleAfterUs : BitVec 16
  /-- WIRED_WAKE, bit n for level line n. -/
  wiredWake : BitVec 3840
  /-- BASE_REC and LOG2 of each local target. -/
  localRings : List (Nat × Nat)
deriving DecidableEq, Repr

/-- The loader's operations (R104). -/
inductive FurnOp where
  | load
  | reform (t : BitVec 12)
  | warm
deriving DecidableEq, Repr

/-- The loader's phases (R105). -/
inductive Phase where
  | empty
  | fetch
  | await
  | validate
  | drain
  | form
  | formed
deriving DecidableEq, Repr

/-- An approved digest not yet consumed (R108). -/
inductive Approved where
  | furnish (d : Digest)
  | reform (d : Digest) (t : BitVec 12)
deriving DecidableEq, Repr

/-- The furnish loader (R103 to R115). -/
structure FurnUnit where
  /-- Image offset in the aperture, bits [36:6]. -/
  off : BitVec 31
  len : BitVec 21
  status : Sc
  err : BitVec 8
  errSection : BitVec 8
  phase : Phase
  op : Option FurnOp
  image : List Byte
  computed : Option Digest
  approved : Option Approved
  /-- Instant of the entry into AWAIT. -/
  awaitAt : Nat
  formed : Option Furnish
  formedImage : List Byte
  formedOff : Nat
  /-- The new structure that validation read. -/
  next : Option Furnish
  /-- Events discarded and messages dropped by the re-form in progress (R115). -/
  discarded : Nat
  /-- The instant at which re-form drain began. -/
  drainAt : Nat
  /-- The tables that a warm form has read, while its rewrites are outstanding (R112). -/
  stored : Option (List (Nat × Words8))
deriving DecidableEq, Repr

/-- Words 0 to 3 of a vector table entry (R118). -/
structure VteCfg where
  kind : BitVec 4
  tenant : BitVec 12
  pin : Bool
  groupTarget : Bool
  cls : BitVec 4
  prio : BitVec 6
  polarity : Bool
  level : Bool
  mask : Bool
  valid : Bool
  couch : BitVec 12
  target : BitVec 16
  originCheck : Bool
  originPort : BitVec 8
  originRid : BitVec 16
  data : Word
deriving DecidableEq, Repr

/-- A vector table entry on chip (R118). STATE is computed from the vector (R141), CRC from the words (R121). -/
structure Vte where
  cfg : VteCfg
  lastTarget : BitVec 8
  epoch : BitVec 16
  delivered : Word
  dropped : Word
  /-- STATE as the aperture holds it (R131). -/
  stored : BitVec 3
deriving DecidableEq, Repr

/-- A snapshot: the entry's words 0 to 3 and its EPOCH (R134). -/
structure Snap where
  cfg : VteCfg
  epoch : BitVec 16
deriving DecidableEq, Repr

/-- A merged event that is not granted (R128, R140). -/
structure Ev where
  snap : Snap
  time : Nat
  deadline : Nat
  /-- The class from which the deadline was computed (R192). -/
  cls : BitVec 4
  /-- COUNT, at most 65,535. -/
  count : Nat
  data : Word
  truncated : Bool
  /-- LEVEL_STILL_ASSERTED (R148). -/
  stillOn : Bool
  /-- The coalescing group it entered (R226). -/
  couch : BitVec 12
  /-- Its group has released it, or never held it. -/
  released : Bool
  /-- Its group held it before it released it (R230). -/
  wasHeld : Bool
  /-- The target whose stream it is in (R207). -/
  stream : Option (BitVec 16)
  /-- The first member of its present group whose stream it joined (R186). -/
  first : Option (BitVec 16)
deriving DecidableEq, Repr

/-- The active record of a vector (R140). -/
structure Active where
  target : BitVec 16
  prio : BitVec 6
  /-- The record has been accepted (R145 row 6). -/
  accepted : Bool
  ev : Ev
deriving DecidableEq, Repr

/-- Who asks for a change of an entry (R119, R172, R184). -/
inductive Caller where
  | mgmt
  | tenant (t : BitVec 12)
  | party (mask : Word)
deriving DecidableEq, Repr

/-- A committed change that waits for its entry's boundary (R134, R255, R268). -/
structure Change where
  caller : Caller
  /-- The unit whose APPLY it is; none for a two-party change. -/
  u : Option EaId
  /-- The staged words; none for an APPLY with nothing staged (R255). -/
  words : Option Words8
deriving DecidableEq, Repr

/-- What the ranking core keeps of one vector, and the inputs gathered for its next round (R140, R143). -/
structure Vec where
  ev : Option Ev
  /-- The new generation held behind an old one (R136). -/
  evNew : Option Ev
  active : Option Active
  /-- The state of a level source as the ranking core knows it (R146). -/
  lineOn : Bool
  changes : List Change
  /-- Gathered EOIs: the targets they were written at. -/
  eois : List (BitVec 16)
  /-- A gathered egress outcome of `active`, accepted or refused, that waits for its lane (R142, R143, R165). -/
  outcome : Option Bool
  /-- `ev` and `active` belong to the generation before the latest change of TENANT (R136). -/
  oldGen : Bool
  /-- The EPOCH of the APPLY that opened the present generation, while an old one is left (R136). -/
  genEpoch : BitVec 16
  /-- Gathered edges or counted steps of a wired line. -/
  steps : Nat
  /-- Wired events that a sleep, DRAINING or UNFORMED latched (R25, R214, R285). -/
  slept : Nat
  /-- The time that they take: that of the first ranking round afterwards. -/
  sleptAt : Option Nat
deriving DecidableEq, Repr

/-- What the hardware fields of an entry off chip still owe (R118, R125): it is added when the entry is next on chip. -/
structure Owed where
  dropped : Word
  delivered : Word
  lastTarget : Option (BitVec 8)
deriving DecidableEq, Repr

/-- The vector store (R129 to R131). -/
structure VecStore where
  /-- Entries on chip, by handle. -/
  vtes : List (Nat × Vte)
  /-- Per-vector state, by handle; a vector not listed holds nothing. -/
  vecs : List (Nat × Vec)
  /-- Cached message handles in scan order, with the reference bit. -/
  ring : List (Nat × Bool)
  /-- Pinned handles. -/
  pinned : List Nat
  /-- Vectors whose merge state lies in the SPILL region, with the places of their records. -/
  spilled : List (Nat × Nat)
  /-- Entries of the instant calendar: handles, and 2^24 + g for coalescing group g (R242). -/
  calendar : List Nat
  /-- Entries that wait because the calendar is full. -/
  sweepList : List Nat
  /-- Entries whose hardware fields have changed since they were last written to the aperture (R131). -/
  dirty : List Nat
  /-- What is owed to the hardware fields of entries off chip, by handle. -/
  owed : List (Nat × Owed)
  /-- Words 0 to 3 and EPOCH of entries off chip, as Ivsyn last wrote them to the aperture (R131, assumption log 20); an entry not listed
  stands there at its reset value. -/
  away : List (Nat × Snap)
  /-- Vectors whose inputs wait for a ranking round, in the order in which the inputs reached the core (R142). -/
  queue : List Nat
  /-- Vectors that wait for the reload of a corrupt row (R316). -/
  reload : List Nat
deriving DecidableEq, Repr

/-- A coalescing group: entry fields and running state (R223, R226 to R229). -/
structure Couch where
  elastic : Bool
  mode : BitVec 2
  countMax : BitVec 10
  timeMax : BitVec 24
  holdoff : BitVec 24
  timer : BitVec 8
  /-- The instant at which a running hold-off window ends. -/
  window : Option Nat
  held : BitVec 11
  /-- Committed changes that wait for the group's next decision (R227, R354). -/
  changes : List Change
deriving DecidableEq, Repr

/-- An open batch (R212). -/
structure Batch where
  progress : Nat
  /-- The IV_CLK_FAB count at its first grant (R212, R240). -/
  start : Nat
  /-- The ring was empty with nothing in transfer at its first grant (R216). -/
  wasEmpty : Bool
deriving DecidableEq, Repr

/-- A target: descriptor fields and hardware state (R169, R151, R194 to R221). -/
structure Tgt where
  baseLo : Word
  baseHi : Word
  tenant : BitVec 12
  threshold : BitVec 6
  /-- The bits of THRESHOLD that `IV_T_CPRIO` has written since the reload of the descriptor's row began: they win over the words that
  return (R149, R316). -/
  thrKeep : BitVec 6
  autoCprio : Bool
  enable : Bool
  ringLog2 : BitVec 5
  dbLo : Word
  dbHi : Word
  dbData : Word
  head : BitVec 20
  /-- Pass parity of HEAD. -/
  headPar : Bool
  tail : BitVec 20
  tailPar : Bool
  seq : Word
  pstate : BitVec 2
  unreach : Bool
  /-- UNREACH was set by a host event, not by refusals alone (R57). -/
  hostUnreach : Bool
  stalled : Bool
  cprio : BitVec 6
  amask : DWord
  amaskLatch : Word
  graceEnd : Nat
  arm : Bool
  resend : Nat
  /-- MAX_RESEND as the running watchdog took it at its start (R220). -/
  maxResend : BitVec 4
  /-- The instant at which the running watchdog expires (R219). -/
  wdog : Option Nat
  /-- The IV time of the last doorbell; of a polled target, of the watchdog's last start. -/
  lastDb : Nat
  rearm : Bool
  dbOwed : Bool
  fullEpisode : Bool
  batch : Option Batch
  /-- Losses in a row (R210). -/
  wait : BitVec 8
  /-- A committed change that waits for the record in transfer (R173). -/
  changes : List Change
deriving DecidableEq, Repr

/-- A target group: 64 slots and the rotating pointer (R184, R185). -/
structure Group where
  slots : Vector (BitVec 16) 64
  ptr : BitVec 6
  /-- Committed changes of its parts that wait for the group's next choice, oldest first (R184, R354). -/
  changes : List (Nat × Change)
deriving DecidableEq, Repr

/-- Per-tenant state (R181, R252, R374). -/
structure TenantSt where
  credits : BitVec 16
  strangers : Word
  denied : Word
  status : Sc
deriving DecidableEq, Repr

/-- The target store, the coalescing stage and the per-tenant state. Entries not listed stand as the form wrote them. -/
structure TargetStore where
  targets : List (Nat × Tgt)
  groups : List (Nat × Group)
  couches : List (Nat × Couch)
  tenants : List (Nat × TenantSt)
  /-- Watermark keys: K[0] in bits [7:0] (R263, R274). -/
  keys : List (Nat × BitVec 128)
  /-- Local ring memory, 256 KiB by byte (R19, R174). -/
  lmem : List Host.Cell
  /-- Targets whose descriptor's words 6 and 7 have changed since they were last written to TDTAB (R169). -/
  dirty : List Nat
  /-- Targets that wait for the reload of a corrupt row (R316). -/
  reload : List Nat
deriving DecidableEq, Repr

/-- One record of a write: what the grant fixed (R191, R192). -/
structure Out where
  h : Nat
  ev : Ev
  prio : BitVec 6
  heldFull : Bool
  degraded : Bool
  rerouted : Bool
deriving DecidableEq, Repr

/-- The write under construction (R211). -/
structure OpenWrite where
  target : BitVec 16
  recs : List Out
deriving DecidableEq, Repr

/-- A write issued on the egress port and not yet accepted or refused (R56, R57). -/
structure EgWrite where
  /-- KIND: a doorbell, or a record write. -/
  doorbell : Bool
  tenant : BitVec 12
  addr : DWord
  data : List Byte
  target : BitVec 16
  /-- Handles of its records, first slot first. -/
  handles : List Nat
  /-- The re-form took its records back; the outcome is ignored (R114). -/
  void : Bool
deriving DecidableEq, Repr

/-- The deadline arbiter and the delivery engine (R207 to R217). -/
structure ArbUnit where
  heap : List (BitVec 16)
  /-- Targets that wait for a heap entry (R207). -/
  heapWait : List (BitVec 16)
  open_ : Option OpenWrite
  flight : List (BitVec 8 × EgWrite)
  /-- Doorbells that wait for a tag, oldest first (R209). -/
  bells : List EgWrite
  /-- Pulses of the trace strobe on IV_SB_ACK (R84). -/
  strobes : Nat
  /-- The instant at which a record last drove the strobe (R84). -/
  strobeAt : Option Nat
  /-- The last instant at which Ivsyn is known not to have been quiet (R279, R280). -/
  busyAt : Nat
deriving DecidableEq, Repr

/-- The states of an occupied vat slot that a step can leave (R122); STAGED never outlives its step. -/
inductive SlotSt where
  | parked
  | fetching (h : Nat)
  | checked (h : Nat) (snap : Snap)
deriving DecidableEq, Repr

/-- The beats that occupy a slot. -/
inductive BeatKind where
  | memWrite
  | assert
  | deassert
  | rouse
deriving DecidableEq, Repr

/-- An occupied vat slot (R122). -/
structure Slot where
  /-- Its place in the order in which beats were taken (R46, R122). -/
  no : Nat
  lane : Fin 4
  kind : BeatKind
  beat : Beat
  stamp : Nat
  st : SlotSt
deriving DecidableEq, Repr

/-- The stranger window of one port (R127). -/
structure PortWin where
  count : Nat
  /-- A request has been raised and the rate has not fallen below the limit since. -/
  raised : Bool
deriving DecidableEq, Repr

/-- The ingress stage (R46, R122, R127). -/
structure VatUnit where
  /-- Occupied slots in take order. -/
  slots : List Slot
  /-- How many beats have been taken: the place that the next one has in take order (R122). -/
  taken : Nat
  /-- Credits the switch holds, per lane. -/
  credits : Vector Nat 4
  ports : List (Nat × PortWin)
  /-- Quarantine requests: the first is presented on IV_QUAR_REQ (R73). -/
  quar : List (BitVec 8)
deriving DecidableEq, Repr

/-- The wired sampler and its AO latches (R60 to R62, R285). -/
structure WireUnit where
  high : BitVec 3840
  latch : BitVec 3840
  /-- Accepted Gray value of each counted line. -/
  gray : Vector (BitVec 4) 256
  /-- The value a counted line presents while the sampler is stopped. -/
  grayNow : Vector (BitVec 4) 256
  /-- Latched events were passed to their vectors, and no ranking round has run since (R214, R285). -/
  roundDue : Bool
deriving DecidableEq, Repr

/-- An entry-access lock (R257, R258). -/
structure Lock where
  kind : BitVec 3
  index : BitVec 24
  staged : Option Words8
  leaseMs : BitVec 16
  timer : Nat
  expiry : Nat
deriving DecidableEq, Repr

/-- What holds BUSY at 1 (R255). -/
inductive Busy where
  | reading (h : Nat)
  /-- A READ of a descriptor whose row is being reloaded (R316). -/
  | readingTd (t : Nat)
  | applying
  | fencing (h : Nat) (epoch : BitVec 16)
  /-- A FENCE whose entry is being read, for its EPOCH (R138). -/
  | fenceRead (h : Nat)
deriving DecidableEq, Repr

/-- An entry-access unit (R256). -/
structure EaUnit where
  kind : BitVec 3
  index : BitVec 24
  data : Words8
  lock : Option Lock
  broken : Bool
  busy : Option Busy
  status : Sc
deriving DecidableEq, Repr

/-- The states of a proposal (R268). -/
inductive PropSt where
  | empty
  | open
  | approved
deriving DecidableEq, Repr

/-- One party's side of two-party change (R263 to R271). -/
structure PartyUnit where
  stage : Words16
  st : PropSt
  /-- The stage as proposed: what the approval binds. -/
  bound : Words16
  idLo : Word
  idHi : Word
  windowEnd : Nat
  status : Sc
  approveLo : Word
deriving DecidableEq, Repr

/-- A ranking round held by a self-test (R165). -/
structure HeldRound where
  h : BitVec 24
deriving DecidableEq, Repr

/-- What the receiver of a crossing into IV_CLK_REG had last accepted: local time, and control-window registers by address (R310). -/
structure Seen where
  time : Nat
  regs : List (Nat × Word)
deriving DecidableEq, Repr

/-- The fault collector (R315 to R323). -/
structure FaultUnit where
  sum : Sc
  fenced : BitVec 2
  corr : Word
  defer : Word
  first : Word
  inject : Option (BitVec 4)
  fatal : Option Fatal
  selfTest : Option HeldRound
  /-- The self-test failure armed by WHAT 2 or 3: the plane that fails (1 A, 2 B). -/
  failPlane : BitVec 2
  /-- Crossings in deferred fault, with their line. -/
  cdc : List (Crossing × BitVec 16)
  /-- What crossings 0x2, 0x5 and 0x6 had last accepted at each CDC_RETRY of the present run of disagreements, newest first (R310). -/
  runs : List (Crossing × Seen)
  /-- The heartbeat is stopped by an injection. -/
  beatStopped : Bool
  /-- IV_CLK_REG has stopped (R312). -/
  regStopped : Bool
  /-- The last accepted value of local time at the ports, while crossing 0x2 is in deferred fault (R310). -/
  timeHeld : Option Nat
  /-- The last accepted values of control-window registers, by address, while crossing 0x5 or 0x6 is in deferred fault (R310). -/
  regHeld : List (Nat × Word)
deriving DecidableEq, Repr

/-- One rate bucket of a tenant and code (R126). -/
structure Bucket where
  tokens : Nat
  skipped : Word
deriving DecidableEq, Repr

/-- A tenant's JOURNAL region (R338). -/
structure TenantJnl where
  offset : Nat
  slots : Nat
  next : Nat
  wraps : Word
deriving DecidableEq, Repr

/-- The journal (R335, R336, R126, R338). -/
structure JnlUnit where
  base : BitVec 25
  log2 : BitVec 6
  tail : BitVec 31
  head : BitVec 31
  /-- Buckets by tenant × 256 + code; one not listed is full. -/
  buckets : List (Nat × Bucket)
  tenants : List (Nat × TenantJnl)
deriving DecidableEq, Repr

/-- What the ports drive (R36, R43, R71). -/
structure PortUnit where
  rdata : Word
  err : Bool
  secRdata : Word
  secErr : Bool
  /-- Pulses of IV_HOST_EVT_ACK. -/
  hostAcks : Nat
deriving DecidableEq, Repr

/-- The state of the block. -/
structure State where
  md : ModeUnit
  ctl : CtlRegs
  status : Sc
  cnt : Counters
  tm : TimeUnit
  pw : PowerUnit
  ao : AoUnit
  ap : AperUnit
  fu : FurnUnit
  eaM : EaUnit
  eaT : List (Nat × EaUnit)
  dcM : PartyUnit
  dcS : PartyUnit
  flt : FaultUnit
  jn : JnlUnit
  vat : VatUnit
  ws : WireUnit
  vs : VecStore
  ts : TargetStore
  ar : ArbUnit
  io : PortUnit
  /-- The model's own: how many free values have been drawn (assumption log 7). -/
  free : Nat
  /-- The commands that wait, first in, first out. -/
  pending : List Instr
deriving DecidableEq, Repr

/-- The ways a step stops with a fault: none. Every command has a next state in every state (assumption log 6). -/
inductive Fault where
deriving DecidableEq, Repr

/-- The ways a step is refused. -/
inductive Refusal where
  /-- A row of the table that the model gives no meaning. Raised by no arm of exec. Safe. -/
  | notModelled (mnemonic : String)
deriving DecidableEq, Repr

namespace State

/-- A seq-clear register after reset. -/
def scReset : Sc := { seq := 0, flags := 0 }

/-- IV_CTL to IV_PWR_CTL at their reset values (R362). -/
def ctlReset : CtlRegs :=
  { ingressEn := true, deliverEn := true, planeCheckEn := true, journalEn := true, quarEn := false,
    cfgCount := 0, cfgOffset := 0,
    batchMax := 8, waitLim := 0x20, preemptEn := true, freeze := false,
    maxResend := 8, periodUs := 0x3E8,
    budgets := Vector.replicate 16 0,
    elasticEn := true, couchEn := true,
    nowakeLevel := 0, graceUs := 0x64,
    deferFatal := false, aperWerrFatal := true, degradeEn := true,
    halfUs := 0x64, dcWindow := 0x7D0,
    sbTrace := false, wakeEn := 0, allow := 0, idleAfter := 0 }

/-- The counters after reset (R371). -/
def cntReset : Counters :=
  { ingress := 0, delivered := 0, stranger := 0, noise := 0, late := 0, parked := 0, coalesced := 0,
    overdraft := 0, eoiStray := 0 }

/-- The mode unit after a reset that ended in UNFORMED (R276). -/
def mdReset : ModeUnit :=
  { mode := .unformed, seq := 0, prev := .unformed, engineEn := false, lock := 0, lockTaken := false }

/-- No tick has acted. -/
def ticksReset : Ticks := { credit := 0, stranger := 0, bucket := 0, writeback := 0, sweep := 0 }

/-- The time unit after power-on reset (R238, R248). -/
def tmReset : TimeUnit :=
  { now := 0, accepted := false, lastAcc := 0, lastAo := 0, estimated := false, ivValid := false,
    aoCount := 0, aoCal := 0x77359400, estFrac := 0, base := 0, cycles := 0, fab := 0, fabAcc := 0, aoStopped := false,
    elapsed := 0, tEntry := 0, aEntry := 0, aWake := 0, latchM := 0, latchS := 0, latchSleep := 0, leasePeak := 0, ticks := ticksReset }

/-- The power unit after power-on reset (R88, R277, R298, R299). -/
def pwReset : PowerUnit :=
  { req := 0, entry := none, retryAt := none, due := false, pwrReq := 0, ackWait := false, pwrState := 4,
    vddFell := false, wakeReq := none, woke := false, copies := [], wakeCause := 0, wakes := 0, retLost := false, refreshHot := false,
    refSeq := 0, refTarget := 0, refCode := 0, refCnt := Vector.replicate 8 0,
    throttle := 0, thrPin := 0, thrChanges := 0, eoiQ := [], hintQ := [], heldWrites := [], hostQ := [], ignored := [], hungs := 0,
    faultsHeld := [], comparator := none, saves := 0, saveValid := false, savePrev := 0, saveRefuse := 0, ret := [] }

/-- The sideband at rest: Ivsyn is the receiver and holds IV_SB_ACK at 0 (R76, R77). -/
def sbReset : SbUnit :=
  { d0 := .released, d1 := .released, ack := .low, phase := .receive, rx := [], tx := [], quiet := 0, resetDue := false }

/-- The AO island after power-on reset (R85, R88, R320, R339, R266). -/
def aoReset : AoUnit :=
  { alive := false, toggles := 0, sinceToggle := 0, aliveRun := true, token := false, missed := 0,
    sbAddr := 0, sbKey := 0, sbWrong := 0, sbResp := none, sb := sbReset,
    poll := Vector.replicate 8 0, safeCause := 0, safeCount := 0, pollFenced := 0, pollFlags := 0,
    lg := Vector.replicate 4 none, lgNum := 0, lgDue := none, digest := none, propNum := 1,
    porst := false, resetting := false, heldPuts := [] }

/-- The aperture unit after power-on reset (R369, R330). -/
def apReset : AperUnit :=
  { base := 0, base2 := 0, log2 := 0, mirrorEn := false, state := 0, readSec := false, pct := 0,
    reqs := [], waiting := [] }

/-- The furnish loader after power-on reset (R103, R105). -/
def fuReset : FurnUnit :=
  { off := 0, len := 0, status := scReset, err := 0, errSection := 0, phase := .empty, op := none, image := [],
    computed := none, approved := none, awaitAt := 0, formed := none, formedImage := [], formedOff := 0, next := none,
    discarded := 0, drainAt := 0, stored := none }

/-- An entry-access unit after reset (R256). -/
def eaReset : EaUnit :=
  { kind := 0, index := 0, data := Vector.replicate 8 0, lock := none, broken := false, busy := none, status := scReset }

/-- One party's side after reset (R268, R271). -/
def dcReset : PartyUnit :=
  { stage := Vector.replicate 16 0, st := .empty, bound := Vector.replicate 16 0, idLo := 0, idHi := 0, windowEnd := 0,
    status := scReset, approveLo := 0 }

/-- The fault collector after reset (R319, R320). -/
def fltReset : FaultUnit :=
  { sum := scReset, fenced := 0, corr := 0, defer := 0, first := 0, inject := none, fatal := none, selfTest := none,
    failPlane := 0, cdc := [], runs := [], beatStopped := false, regStopped := false,
    timeHeld := none, regHeld := [] }

/-- The journal after reset: none configured (R335). -/
def jnReset : JnlUnit :=
  { base := 0, log2 := 0, tail := 0, head := 0, buckets := [], tenants := [] }

/-- The ingress stage in UNFORMED after reset: all slots FREE and 2,048 credits issued to each lane (R46). -/
def vatReset : VatUnit :=
  { slots := [], taken := 0, credits := Vector.replicate 4 2048, ports := [], quar := [] }

/-- The wired sampler after reset. -/
def wsReset : WireUnit :=
  { high := 0, latch := 0, gray := Vector.replicate 256 0, grayNow := Vector.replicate 256 0, roundDue := false }

/-- The vector store after reset. -/
def vsReset : VecStore :=
  { vtes := [], vecs := [], ring := [], pinned := [], spilled := [], calendar := [], sweepList := [], dirty := [], owed := [], away := [],
    queue := [], reload := [] }

/-- The target store after reset. -/
def tsReset : TargetStore :=
  { targets := [], groups := [], couches := [], tenants := [], keys := [], lmem := [], dirty := [], reload := [] }

/-- The arbiter after reset. -/
def arReset : ArbUnit :=
  { heap := [], heapWait := [], open_ := none, flight := [], bells := [], strobes := 0, strobeAt := none, busyAt := 0 }

/-- The port answers before the first access. -/
def ioReset : PortUnit := { rdata := 0, err := false, secRdata := 0, secErr := false, hostAcks := 0 }

/-- The block right after power-on reset: UNFORMED with no aperture configured (R86). -/
def reset : State :=
  { md := mdReset, ctl := ctlReset, status := scReset, cnt := cntReset, tm := tmReset, pw := pwReset, ao := aoReset,
    ap := apReset, fu := fuReset, eaM := eaReset, eaT := [], dcM := dcReset, dcS := dcReset, flt := fltReset,
    jn := jnReset, vat := vatReset, ws := wsReset, vs := vsReset, ts := tsReset, ar := arReset, io := ioReset,
    free := 0, pending := [] }

end State

end Sys2Proof.Machine
end

