-- ==== Sys2Proof/Machine/Operands.lean ====
section
/-! DEFINITION. The operand forms: the words of table entries, event records and journal records, and the codes of modes
(R118, R169, R184, R191, R223, R276, R337). -/

namespace Sys2Proof.Machine

/-- A natural number as a word, modulo 2^32. -/
def w32 (n : Nat) : Word := BitVec.ofNat 32 n

/-- The upper half of a 64-bit value as a word. -/
def w32hi (n : Nat) : Word := BitVec.ofNat 32 (n / 4294967296)

/-- Word i of an eight-word entry. -/
def wd8 (w : Words8) (i : Nat) : Word := w.getD i 0

/-- Word i of a sixteen-word stage or record. -/
def wd16 (w : Words16) (i : Nat) : Word := w.getD i 0

/-- Eight words from a list, missing words zero. -/
def mk8 (l : List Word) : Words8 := Vector.ofFn fun i : Fin 8 => l.getD i.val 0

/-- Sixteen words from a list, missing words zero. -/
def mk16 (l : List Word) : Words16 := Vector.ofFn fun i : Fin 16 => l.getD i.val 0

/-- The code of a mode (R276). -/
def Mode.code (m : Mode) : BitVec 4 :=
  match m with
  | .off => 0
  | .dormant => 1
  | .rest => 2
  | .idle => 3
  | .unformed => 4
  | .serving => 5
  | .draining => 6
  | .safe => 7

/-- The code of a loader phase (R105). -/
def Phase.code (p : Phase) : BitVec 4 :=
  match p with
  | .empty => 0
  | .fetch => 1
  | .await => 2
  | .validate => 3
  | .drain => 4
  | .form => 5
  | .formed => 6

/-- The target of an entry attempt as a mode code (R299). -/
def SleepTarget.code (t : SleepTarget) : BitVec 4 :=
  match t with
  | .rest => 2
  | .dormant => 1
  | .off => 0

/-- The code of a crossing (R307). -/
def crossingCode (c : Crossing) : BitVec 8 :=
  match c with
  | .time => 1
  | .regTime => 2
  | .throttle => 3
  | .counted => 4
  | .aoReg => 5
  | .fabReg => 6

/-- A seq-clear register as its word, with status fields below the flags (R352). -/
def Sc.word (r : Sc) (low : Word) : Word := at_ 32 24 r.seq ||| at_ 32 0 r.flags ||| low

/-- Words 0 to 3 of a VTE (R118). -/
def vteCfgWords (c : VteCfg) : List Word :=
  [at_ 32 28 c.kind ||| at_ 32 16 c.tenant ||| bit c.pin 15 ||| bit c.groupTarget 14 ||| at_ 32 10 c.cls ||| at_ 32 4 c.prio
     ||| bit c.polarity 3 ||| bit c.level 2 ||| bit c.mask 1 ||| bit c.valid 0,
   at_ 32 16 c.couch ||| at_ 32 0 c.target,
   bit c.originCheck 24 ||| at_ 32 16 c.originPort ||| at_ 32 0 c.originRid,
   c.data]

/-- The fields that words 0 to 3 of a VTE hold (R118). -/
def vteCfgOf (w : Words8) : VteCfg :=
  let a := wd8 w 0
  let b := wd8 w 1
  let c := wd8 w 2
  { kind := fld a 28 4, tenant := fld a 16 12, pin := a.getLsbD 15, groupTarget := a.getLsbD 14, cls := fld a 10 4,
    prio := fld a 4 6, polarity := a.getLsbD 3, level := a.getLsbD 2, mask := a.getLsbD 1, valid := a.getLsbD 0,
    couch := fld b 16 12, target := fld b 0 16,
    originCheck := c.getLsbD 24, originPort := fld c 16 8, originRid := fld c 0 16, data := wd8 w 3 }

/-- The VTE that a LOAD writes: words 0 to 6 zero (R111). -/
def vteZero : Vte :=
  { cfg := vteCfgOf (mk8 []), lastTarget := 0, epoch := 0, delivered := 0, dropped := 0, stored := 0 }

/-- Words 0 to 6 of a VTE with a given STATE (R118). -/
def vteWords7 (v : Vte) (st : Nat) : List Word :=
  vteCfgWords v.cfg ++ [at_ 32 24 v.lastTarget ||| at_ 32 16 (BitVec.ofNat 3 st) ||| at_ 32 0 v.epoch, v.delivered, v.dropped]

/-- The eight words of a VTE, CRC included (R118, R121). -/
def vteWords (v : Vte) (st : Nat) : Words8 :=
  mk8 (vteWords7 v st ++ [crc32 (wordsBytes (vteWords7 v st))])

/-- Whether the CRC of eight VTE words is right (R121). -/
def vteCrcOk (w : Words8) : Bool :=
  crc32 (wordsBytes (w.toList.take 7)) = wd8 w 7

/-- The entry that eight words from the aperture hold; its stored STATE is only noted (R112, R131). -/
def vteOf (w : Words8) : Vte :=
  { cfg := vteCfgOf w, lastTarget := fld (wd8 w 4) 24 8, epoch := fld (wd8 w 4) 0 16, delivered := wd8 w 5, dropped := wd8 w 6,
    stored := fld (wd8 w 4) 16 3 }

/-- The eight words of a TD; DECKLE is given (R169). -/
def tdWords (g : Tgt) (deckle : Bool) : Words8 :=
  mk8 [g.baseLo, g.baseHi,
    at_ 32 16 g.tenant ||| at_ 32 10 g.threshold ||| bit g.autoCprio 9 ||| bit g.enable 8 ||| at_ 32 0 g.ringLog2,
    g.dbLo, g.dbHi, g.dbData, at_ 32 0 g.head,
    bit deckle 24 ||| bit g.unreach 23 ||| bit g.stalled 22 ||| at_ 32 20 g.pstate ||| at_ 32 0 g.tail]

/-- The configuration fields of a TD taken from eight words; hardware fields keep their values (R169). -/
def tdPutCfg (g : Tgt) (w : Words8) : Tgt :=
  let c := wd8 w 2
  { g with baseLo := wd8 w 0, baseHi := wd8 w 1, tenant := fld c 16 12, threshold := fld c 10 6, autoCprio := c.getLsbD 9,
           enable := c.getLsbD 8, ringLog2 := fld c 0 5, dbLo := wd8 w 3, dbHi := wd8 w 4, dbData := wd8 w 5 }

/-- The eight words of part p of a group (R184). -/
def groupWords (g : Group) (p : Nat) : Words8 :=
  Vector.ofFn fun i : Fin 8 => at_ 32 16 (g.slots.getD (16 * p + 2 * i.val + 1) 0xFFFF) ||| at_ 32 0 (g.slots.getD (16 * p + 2 * i.val) 0xFFFF)

/-- Slot s of a part, as eight words name it (R184). -/
def partSlot (w : Words8) (s : Nat) : BitVec 16 :=
  fld (wd8 w (s / 2)) (if s % 2 = 0 then 0 else 16) 16

/-- The eight words of a coalescing group; EFF_MODE is given (R223). -/
def couchWords (c : Couch) (eff : Nat) : Words8 :=
  mk8 [bit c.elastic 4 ||| at_ 32 0 c.mode, at_ 32 0 c.countMax, at_ 32 0 c.timeMax, at_ 32 0 c.holdoff, at_ 32 0 c.timer,
    at_ 32 18 (BitVec.ofNat 2 eff) ||| bit c.window.isSome 16 ||| at_ 32 0 c.held]

/-- A coalescing group with the fields that a caller may change taken from eight words (R224). -/
def couchPutCfg (c : Couch) (w : Words8) : Couch :=
  { c with elastic := (wd8 w 0).getLsbD 4, mode := fld (wd8 w 0) 0 2, countMax := fld (wd8 w 1) 0 10,
           timeMax := fld (wd8 w 2) 0 24, holdoff := fld (wd8 w 3) 0 24 }

/-- Words 0 to 6 of the slice view (R378). -/
def sliceWords (e : Slice) : Words8 :=
  mk8 [w32 (e.sizeClass * 65536 + e.tenant), w32 e.base, w32 e.vecCount, w32 (e.targetCount * 65536 + e.targetBase),
    w32 (e.groupCount * 65536 + e.groupBase), w32 (e.couchCount * 65536 + e.couchBase), w32 (e.refill * 65536 + e.bucket)]

/-- A journal record: CODE, ARG, TIME and the words its layout names (R337). -/
def mkRec (code : Byte) (arg : BitVec 24) (w1 : Word) (t : Nat) (ws : List (Nat × Word)) : Rec :=
  Vector.ofFn fun i : Fin 16 =>
    if i.val = 0 then at_ 32 24 code ||| at_ 32 0 arg
    else if i.val = 1 then w1
    else if i.val = 2 then w32 t
    else if i.val = 3 then w32hi t
    else (find ws i.val).getD 0

/-- The bytes of a 16-bit value, least significant first (R6). -/
def halfBytes (n : Nat) : List Byte := [BitVec.ofNat 8 n, BitVec.ofNat 8 (n / 256)]

/-- FLAGS of a record (R193). -/
def recFlags (o : Out) (late even : Bool) : Byte :=
  bit (o.ev.wasHeld && decide (1 < o.ev.count)) 0 ||| bit o.heldFull 1 ||| bit o.ev.stillOn 2 ||| bit o.degraded 3
    ||| bit o.rerouted 4 ||| bit late 5 ||| bit (decide (o.ev.count = 65535) || o.ev.truncated) 6 ||| bit even 7

/-- LAG of a record: sixteenths of the time from TIME to the write issue, saturating (R191). -/
def recLag (issue time : Nat) : Nat := min ((issue - time) / 16) 65535

/-- Bytes 4 to 31 of a record (R191). -/
def recBody (o : Out) (seq : Word) (issue : Nat) (even : Bool) : List Byte :=
  wordBytes seq ++ [BitVec.ofNat 8 o.h, BitVec.ofNat 8 (o.h / 256), BitVec.ofNat 8 (o.h / 65536),
    recFlags o (decide (o.ev.deadline < issue)) even]
    ++ wordBytes o.ev.data ++ wordBytes (w32 o.ev.time) ++ wordBytes (w32hi o.ev.time) ++ halfBytes o.ev.count
    ++ [o.prio.setWidth 8, at_ 8 4 o.ev.snap.cfg.kind ||| at_ 8 0 o.ev.cls]
    ++ halfBytes o.ev.snap.cfg.tenant.toNat ++ halfBytes (recLag issue o.ev.time)

/-- The 32 bytes of a record under a tenant's key (R191, R195). -/
def recBytes (key : BitVec 128) (o : Out) (seq : Word) (issue : Nat) (even : Bool) : List Byte :=
  wordBytes (sipTag key (recBody o seq issue even)) ++ recBody o seq issue even

/-- The new value that an alias write forms from the present one (R349). -/
def formValue (f : Form) (cur w : Word) : Word :=
  match f with
  | .plain => w
  | .set => cur ||| w
  | .clear => cur &&& ~~~w
  | .toggle => cur ^^^ w

end Sys2Proof.Machine
end

