-- ==== Sys2Proof/Machine/Flags.lean ====
section
/-! DEFINITION. Seq-clear flags and their bit places (R252, R256, R271, R319, R352, R353, R366), and rejected writes (R357). -/

namespace Sys2Proof.Machine

/-- Hardware sets one flag: SEQ advances by 1 (R353). -/
def Sc.raise (r : Sc) (f : Nat) : Sc := { seq := r.seq + 1, flags := setBit r.flags f }

/-- Hardware sets several flags together: SEQ advances once (R375). -/
def Sc.raiseAll (r : Sc) (m : BitVec 24) : Sc := { seq := r.seq + 1, flags := r.flags ||| m }

/-- The seq-clear write: it clears the selected flags only if its SEQ equals the register's (R352). -/
def Sc.clear (r : Sc) (w : Word) : Sc :=
  if fld w 24 8 = r.seq then { r with flags := r.flags &&& ~~~(fld w 0 24) } else r

/-- A flag of a seq-clear register reads 1. -/
def Sc.has (r : Sc) (f : Nat) : Bool := r.flags.getLsbD f

/-- Flag places of IV_STATUS (R366). -/
def stCfgRej : Nat := 0
/-- IV_STATUS.HUNG. -/
def stHung : Nat := 1
/-- IV_STATUS.PARK_OVF. -/
def stParkOvf : Nat := 2
/-- IV_STATUS.STRANGER. -/
def stStranger : Nat := 3
/-- IV_STATUS.NOISE. -/
def stNoise : Nat := 4
/-- IV_STATUS.LOCK_BROKEN. -/
def stLockBroken : Nat := 5
/-- IV_STATUS.DC_EVENT. -/
def stDcEvent : Nat := 6
/-- IV_STATUS.JOURNAL_WRAP. -/
def stJnlWrap : Nat := 7
/-- IV_STATUS.TIME_JUMP. -/
def stTimeJump : Nat := 8

/-- Flag places of IV_EA_STATUS (R256). -/
def eaDone : Nat := 0
/-- IV_EA_STATUS.RANGE. -/
def eaRange : Nat := 1
/-- IV_EA_STATUS.REFUSED. -/
def eaRefused : Nat := 2
/-- IV_EA_STATUS.CRC_BAD. -/
def eaCrcBad : Nat := 3
/-- IV_EA_STATUS.NO_LOCK. -/
def eaNoLock : Nat := 4
/-- IV_EA_STATUS.CONTENDED. -/
def eaContended : Nat := 5
/-- IV_EA_STATUS.NO_TIMER. -/
def eaNoTimer : Nat := 6
/-- IV_EA_STATUS.LOCK_BROKEN. -/
def eaLockBroken : Nat := 7
/-- IV_EA_STATUS.BUSY_REJ. -/
def eaBusyRej : Nat := 8

/-- Flag places of IV_DC_STATUS (R271). -/
def dcPeerOpened : Nat := 0
/-- IV_DC_STATUS.INVALIDATED. -/
def dcInvalidated : Nat := 1
/-- IV_DC_STATUS.WITHDRAWN. -/
def dcWithdrawn : Nat := 2
/-- IV_DC_STATUS.EXPIRED. -/
def dcExpired : Nat := 3
/-- IV_DC_STATUS.VETOED. -/
def dcVetoed : Nat := 4
/-- IV_DC_STATUS.APPLIED. -/
def dcApplied : Nat := 5
/-- IV_DC_STATUS.REFUSED. -/
def dcRefused : Nat := 6
/-- IV_DC_STATUS.BAD_ID. -/
def dcBadId : Nat := 7
/-- IV_DC_STATUS.PROPOSE_REJ. -/
def dcProposeRej : Nat := 8

/-- Flag places of IV_FURN_STATUS (R105). -/
def fuDone : Nat := 8
/-- IV_FURN_STATUS.ERROR. -/
def fuError : Nat := 9
/-- IV_FURN_STATUS.ABANDONED. -/
def fuAbandoned : Nat := 10
/-- IV_FURN_STATUS.CMD_REJ. -/
def fuCmdRej : Nat := 11

/-- Hardware sets a flag of IV_STATUS (R366). -/
def raiseStatus (s : State) (f : Nat) : State := { s with status := s.status.raise f }

/-- A management write is rejected: CFGREJ, COUNT and OFFSET (R357). -/
def rejectWrite (s : State) (addr : BitVec 22) : State :=
  { s with status := s.status.raise stCfgRej,
           ctl := { s.ctl with cfgCount := satAdd s.ctl.cfgCount 1, cfgOffset := fld addr 2 18 } }

/-- The entry-access unit by its name; a tenant unit not listed stands at its reset value (R256). -/
def eaOf (s : State) (u : EaId) : EaUnit :=
  match u with
  | .mgmt => s.eaM
  | .tw t => (find s.eaT t.toNat).getD State.eaReset

/-- The state with an entry-access unit replaced. -/
def eaPut (s : State) (u : EaId) (e : EaUnit) : State :=
  match u with
  | .mgmt => { s with eaM := e }
  | .tw t => { s with eaT := put s.eaT t.toNat e }

/-- Hardware sets flags of a unit's EA_STATUS together; what held BUSY, if anything, has ended, so that Ivsyn was not quiet (R256, R279). -/
def eaRaise (s : State) (u : EaId) (m : BitVec 24) : State :=
  let e := eaOf s u
  eaPut { s with ar := { s.ar with busyAt := s.tm.now } } u { e with status := e.status.raiseAll m }

/-- A party's side of two-party change. -/
def dcOf (s : State) (p : Party) : PartyUnit :=
  match p with
  | .M => s.dcM
  | .S => s.dcS

/-- The state with a party's side replaced. -/
def dcPut (s : State) (p : Party) (d : PartyUnit) : State :=
  match p with
  | .M => { s with dcM := d }
  | .S => { s with dcS := d }

/-- The other party. -/
def otherParty (p : Party) : Party :=
  match p with
  | .M => .S
  | .S => .M

/-- Hardware sets a flag of a party's status, and with it IV_STATUS.DC_EVENT (R271). -/
def dcRaise (s : State) (p : Party) (f : Nat) : State :=
  let d := dcOf s p
  raiseStatus (dcPut s p { d with status := d.status.raise f }) stDcEvent

/-- The per-tenant state; a tenant not listed has no counts, and its credits are zero (R373). -/
def tnOf (s : State) (t : Nat) : TenantSt :=
  (find s.ts.tenants t).getD { credits := 0, strangers := 0, denied := 0, status := State.scReset }

/-- The state with a tenant's state replaced. -/
def tnPut (s : State) (t : Nat) (x : TenantSt) : State :=
  { s with ts := { s.ts with tenants := put s.ts.tenants t x } }

/-- Flag places of IV_TW_STATUS (R252). -/
def twDenied : Nat := 0
/-- IV_TW_STATUS.STRANGER. -/
def twStranger : Nat := 1
/-- IV_TW_STATUS.CFGREJ. -/
def twCfgRej : Nat := 2
/-- IV_TW_STATUS.LOCK_BROKEN. -/
def twLockBroken : Nat := 3

/-- Hardware sets a flag of a tenant's IV_TW_STATUS. -/
def twRaise (s : State) (t : Nat) (f : Nat) : State :=
  let x := tnOf s t
  tnPut s t { x with status := x.status.raise f }

/-- The AO copies of FENCED and of IV_FLT_SUM [7:0] in poll word 1 (R320). -/
def pollSum (s : State) : State :=
  { s with ao := { s.ao with pollFenced := s.flt.fenced, pollFlags := fld s.flt.sum.flags 0 8 } }

/-- Hardware sets flags of IV_FLT_SUM together (R319). -/
def fltRaise (s : State) (m : BitVec 24) : State :=
  pollSum { s with flt := { s.flt with sum := s.flt.sum.raiseAll m } }

end Sys2Proof.Machine
end

