-- ==== Sys2Proof/Machine/Memory.lean ====
section
/-! DEFINITION. Local ring memory (R19, R101, R174): bytes 0 to 262,143 as a canonical list of cells. A byte not listed
reads 0 (assumption log 8). -/

namespace Sys2Proof.Machine

/-- The size of local ring memory in bytes (R19). -/
def lmemSize : Nat := 262144

/-- What an unlisted byte reads as (assumption log 8). -/
def lmemDefault : Byte := 0

/-- The byte at an address of local ring memory. -/
def Memory.read (m : List Host.Cell) (a : Nat) : Byte :=
  match m with
  | [] => lmemDefault
  | (k, b) :: r => if k = a then b else Memory.read r a

/-- The canonical insertion of one byte: addresses rise, and no cell holds the default. -/
def Memory.write (m : List Host.Cell) (a : Nat) (b : Byte) : List Host.Cell :=
  match m with
  | [] => if b = lmemDefault then [] else [(a, b)]
  | (k, c) :: r =>
    if a < k then (if b = lmemDefault then (k, c) :: r else (a, b) :: (k, c) :: r)
    else if a = k then (if b = lmemDefault then r else (a, b) :: r)
    else (k, c) :: Memory.write r a b

/-- Bytes written at consecutive addresses, lowest first. -/
def Memory.writeBytes (m : List Host.Cell) (a : Nat) (bs : List Byte) : List Host.Cell :=
  match bs with
  | [] => m
  | b :: r => Memory.writeBytes (Memory.write m a b) (a + 1) r

/-- Every cell's address is above a bound and rises, and no cell holds the default. -/
def Memory.wfFrom (lo : Nat) (m : List Host.Cell) : Bool :=
  match m with
  | [] => true
  | (k, b) :: r => decide (lo ≤ k) && decide (b ≠ lmemDefault) && Memory.wfFrom (k + 1) r

/-- The canonical form of the memory. -/
def Memory.wf (m : List Host.Cell) : Bool := Memory.wfFrom 0 m

end Sys2Proof.Machine
end

