-- ==== Sys2Proof/Machine/Ops.lean ====
section
/-! DEFINITION. The named operations that the families share: modes (R276, R278), the journal (R126, R335 to R338), aperture
requests (R58, R59), fault classification (R315 to R320), activity and refusals (R279 to R284, R299), wake requests (R291),
and access to the sparse tables. -/

namespace Sys2Proof.Machine

/-- Local time (R235). -/
def now (s : State) : Nat := s.tm.now

/-- The count of IV_CLK_FAB cycles (R240). -/
def fabNow (s : State) : Nat := s.tm.fab

/-- Ivsyn is powered, out of reset and not in SAFE. -/
def live (s : State) : Bool :=
  !s.ao.porst && !s.ao.resetting && decide (s.md.mode ≠ .off) && decide (s.md.mode ≠ .safe)

/-- Nothing answers: power-on reset or OFF. -/
def mute (s : State) : Bool := s.ao.porst || decide (s.md.mode = .off)

/-- The two register ports do not answer: IV_CLK_REG has stopped, or nothing does (R312, R385). -/
def portsDead (s : State) : Bool := mute s || s.flt.regStopped

/-- What a command does where Ivsyn is live; elsewhere it changes nothing (R325, R87, log 1). -/
def whenLive (s : State) (f : State → State) : State := if live s then f s else s

/-- REST or DORMANT. -/
def sleeping (s : State) : Bool := decide (s.md.mode = .rest) || decide (s.md.mode = .dormant)

/-- SERVING or DRAINING. -/
def ranking (s : State) : Bool := decide (s.md.mode = .serving) || decide (s.md.mode = .draining)

/-- The core runs: UNFORMED, SERVING, DRAINING or IDLE. -/
def awake (s : State) : Bool := live s && !sleeping s

/-- IV_INGRESS_DEAD (R47, R88). -/
def ingressDead (s : State) : Bool := !live s

/-- IV_IN_HOLD (R48, R88, R283). -/
def inHold (s : State) : Bool := s.ao.porst || sleeping s || decide (s.md.mode = .idle) || s.pw.entry.isSome

/-- The AO estimate of local time from a saved pair (R245). -/
def estimateTime (s : State) : Nat :=
  s.tm.tEntry + ((s.tm.aoCount - s.tm.aEntry).toNat * s.tm.aoCal.toNat) / 65536

/-- Local time as a port reads it: the AO estimate in REST and DORMANT (R239). -/
def readTime (s : State) : Nat := if sleeping s then estimateTime s else s.tm.now

/-- Local time as the protection unit's lease and commit timers see it: the last agreed value while its crossing is in deferred fault
(R236, R237). -/
def regTime (s : State) : Nat := s.flt.timeHeld.getD s.tm.now

/-- Local time as the ports show it: the last accepted value while its crossing is in deferred fault (R310). -/
def seenTime (s : State) : Nat := if sleeping s then estimateTime s else s.flt.timeHeld.getD s.tm.now

/-- A frame is in progress on the sideband: a line has changed for it, and lines are still to change (R81, R84). -/
def sbBusy (s : State) : Bool := decide (s.ao.sb.phase ≠ .receive) || !s.ao.sb.rx.isEmpty

/-- A plane is fenced (R322). -/
def degraded (s : State) : Bool := decide (s.flt.fenced ≠ 0)

/-- IV_MODE (R276). -/
def modeWord (s : State) : Word :=
  at_ 32 24 s.md.seq ||| at_ 32 8 s.md.prev.code ||| bit s.tm.estimated 5 ||| bit (degraded s) 4 ||| at_ 32 0 s.md.mode.code

/-- A change of mode: SEQ advances and PREV takes the mode before (R276). -/
def setMode (s : State) (m : Mode) : State :=
  { s with md := { s.md with mode := m, prev := s.md.mode, seq := s.md.seq + 1 }, ar := { s.ar with busyAt := now s } }

/-- Ivsyn is not quiet at this instant (R279, R280). -/
def noteBusy (s : State) : State := { s with ar := { s.ar with busyAt := now s } }

/-- FREEZE or REQ 6 holds DRAINING (R214, R277). -/
def drainHeld (s : State) : Bool := s.ctl.freeze || decide (s.pw.req = 6)

/-! ### Locks on registers -/

/-- Bit places of `IV_LOCK` (R275). -/
def lkAperture : Nat := 7
/-- `IV_LOCK.FAULT_POLICY`. -/
def lkFault : Nat := 6
/-- `IV_LOCK.COUCH`. -/
def lkCouch : Nat := 5
/-- `IV_LOCK.ARB`. -/
def lkArb : Nat := 4
/-- `IV_LOCK.TIMEBASE`. -/
def lkTimebase : Nat := 3
/-- `IV_LOCK.POWER`. -/
def lkPower : Nat := 2
/-- `IV_LOCK.ALIVE`. -/
def lkAlive : Nat := 1
/-- `IV_LOCK.CTL`. -/
def lkCtl : Nat := 0

/-- A register group is frozen (R275, R358). -/
def frozenBy (s : State) (b : Nat) : Bool := s.md.lock.getLsbD b

/-! ### Tables -/

/-- The slice of a tenant (R94). -/
def sliceOf (s : State) (t : Nat) : Option Slice :=
  match s.fu.formed with
  | none => none
  | some f => f.slices.find? fun e => e.tenant = t

/-- A handle is one of a slice's vectors; wired handles are tenant 0's (R94). -/
def sliceHas (e : Slice) (h : Nat) : Bool :=
  (decide (e.base ≤ h) && decide (h < e.base + e.vecCount)) || (decide (e.tenant = 0) && decide (h < 4096))

/-- The slice that holds a handle. -/
def handleSlice (s : State) (h : Nat) : Option Slice :=
  match s.fu.formed with
  | none => none
  | some f => f.slices.find? fun e => sliceHas e h

/-- The slice whose target range holds a target. -/
def targetSlice (s : State) (t : Nat) : Option Slice :=
  match s.fu.formed with
  | none => none
  | some f => f.slices.find? fun e => decide (e.targetBase ≤ t) && decide (t < e.targetBase + e.targetCount)

/-- The slice whose group range holds a group. -/
def groupSlice (s : State) (g : Nat) : Option Slice :=
  match s.fu.formed with
  | none => none
  | some f => f.slices.find? fun e => decide (e.groupBase ≤ g) && decide (g < e.groupBase + e.groupCount)

/-- The slice whose coalescing range holds a group. -/
def couchSlice (s : State) (g : Nat) : Option Slice :=
  match s.fu.formed with
  | none => none
  | some f => f.slices.find? fun e => decide (e.couchBase ≤ g) && decide (g < e.couchBase + e.couchCount)

/-- The GEOMETRY ceilings in force; none without a structure. -/
def geometry (s : State) : Geometry :=
  match s.fu.formed with
  | none => { handleTop := 0, targetTop := 0, groupTop := 0, couchTop := 0, pinMax := 0 }
  | some f => f.geometry

/-- The aperture region of a kind and tenant (R95). -/
def regionOf (f : Furnish) (kind tenant : Nat) : Option Region :=
  f.regions.find? fun r => decide (r.kind = kind) && decide (r.tenant = tenant)

/-- A structure serves entry access and two-party change: PHASE 6, or 1 to 5 of a REFORM (R265, R388). -/
def structured (s : State) : Bool :=
  s.fu.formed.isSome &&
    match s.fu.phase with
    | .formed => true
    | .empty => false
    | _ => match s.fu.op with
      | some (.reform _) => true
      | _ => false

/-- The tenant whose slice is in re-form drain (R114). -/
def drainTenant (s : State) : Option Nat :=
  match s.fu.op, s.fu.phase with
  | some (.reform t), .drain => some t.toNat
  | some (.reform t), .form => some t.toNat
  | _, _ => none

/-- The vector of a handle that holds nothing. -/
def vecZero : Vec :=
  { ev := none, evNew := none, active := none, lineOn := false, changes := [], eois := [], outcome := none, oldGen := false, genEpoch := 0, steps := 0, slept := 0, sleptAt := none }

/-- Per-vector state (R140). -/
def vecOf (s : State) (h : Nat) : Vec := (find s.vs.vecs h).getD vecZero

/-- The state with a vector's state replaced. -/
def vecPut (s : State) (h : Nat) (v : Vec) : State := { s with vs := { s.vs with vecs := put s.vs.vecs h v } }

/-- The entry on chip: a wired entry always, a message entry while it is cached (R129). -/
def vteOn (s : State) (h : Nat) : Option Vte :=
  if h < 4096 then some ((find s.vs.vtes h).getD vteZero) else find s.vs.vtes h

/-- The snapshot of an entry (R134). -/
def snapOf (e : Vte) : Snap := { cfg := e.cfg, epoch := e.epoch }

/-- Words 0 to 3 and EPOCH of an entry off chip, as Ivsyn last wrote them to the aperture (R131, assumption log 20). -/
def awaySnap (s : State) (h : Nat) : Snap := (find s.vs.away h).getD (snapOf vteZero)

/-- Words 0 to 3 and EPOCH of an entry, on chip or off (R119, R131, assumption log 20). -/
def snapAt (s : State) (h : Nat) : Snap :=
  match vteOn s h with
  | some v => snapOf v
  | none => awaySnap s h

/-- Words 0 to 3 and EPOCH of an entry are written to the aperture. -/
def awayPut (s : State) (h : Nat) (x : Snap) : State := { s with vs := { s.vs with away := put s.vs.away h x } }

/-- An entry leaves the chip: its words stand in the aperture alone (R131). -/
def vteAway (s : State) (h : Nat) : State :=
  match find s.vs.vtes h with
  | none => s
  | some v => awayPut { s with vs := { s.vs with vtes := erase s.vs.vtes h } } h (snapOf v)

/-- The state with an entry on chip replaced. -/
def vtePut (s : State) (h : Nat) (v : Vte) : State := { s with vs := { s.vs with vtes := put s.vs.vtes h v } }

/-- An entry's hardware fields change: they reach the aperture later (R131). -/
def vteHw (s : State) (h : Nat) (v : Vte) : State :=
  let s := vtePut s h v
  { s with vs := { s.vs with dirty := insertNat s.vs.dirty h } }

/-- What is owed to an entry off chip. -/
def owedOf (s : State) (h : Nat) : Owed := (find s.vs.owed h).getD { dropped := 0, delivered := 0, lastTarget := none }

/-- The state with what is owed to an entry replaced. -/
def owedPut (s : State) (h : Nat) (o : Owed) : State := { s with vs := { s.vs with owed := put s.vs.owed h o } }

/-- DROPPED counts against a handle, at once or when its entry is next on chip (R125, R137). -/
def addDropped (s : State) (h n : Nat) : State :=
  match vteOn s h with
  | none => owedPut s h { owedOf s h with dropped := (owedOf s h).dropped + w32 n }
  | some v => vteHw s h { v with dropped := v.dropped + w32 n }

/-- DELIVERED and LAST_TARGET_LOW of a handle at an acceptance, at once or when its entry is next on chip (R118, R145 row 6). -/
def addDelivered (s : State) (h t : Nat) : State :=
  match vteOn s h with
  | none => owedPut s h { owedOf s h with delivered := (owedOf s h).delivered + 1, lastTarget := some (BitVec.ofNat 8 t) }
  | some v => vteHw s h { v with delivered := v.delivered + 1, lastTarget := BitVec.ofNat 8 t }

/-- An entry with what is owed to it. -/
def vteOwed (s : State) (h : Nat) (v : Vte) : Vte :=
  let o := owedOf s h
  { v with dropped := v.dropped + o.dropped, delivered := v.delivered + o.delivered, lastTarget := o.lastTarget.getD v.lastTarget }

/-- An entry comes on chip from the aperture; what is owed to it is added (R125, R130). -/
def vteLoad (s : State) (h : Nat) (v : Vte) : State :=
  match find s.vs.owed h with
  | none => vtePut s h v
  | some _ =>
    let s1 := vteHw s h (vteOwed s h v)
    { s1 with vs := { s1.vs with owed := erase s1.vs.owed h } }

/-- The descriptor that a LOAD writes for a target (R111, R101). -/
def tgtForm (f : Furnish) (t : Nat) : Tgt :=
  let owner := match f.slices.find? fun e => decide (e.targetBase ≤ t) && decide (t < e.targetBase + e.targetCount) with
    | none => 0
    | some e => e.tenant
  let loc := if t < 32 then f.localRings.getD t (0, 0) else (0, 0)
  { baseLo := w32 (32 * loc.1), baseHi := 0, tenant := BitVec.ofNat 12 owner, threshold := 0, thrKeep := 0, autoCprio := false, enable := false,
    ringLog2 := BitVec.ofNat 5 loc.2, dbLo := 0, dbHi := 0, dbData := 0,
    head := 0, headPar := false, tail := 0, tailPar := false, seq := 0, pstate := 0, unreach := false, hostUnreach := false,
    stalled := false, cprio := 0, amask := 0, amaskLatch := 0, graceEnd := 0, arm := true, resend := 0, maxResend := 0, wdog := none, lastDb := 0,
    rearm := false, dbOwed := false, fullEpisode := false, batch := none, wait := 0, changes := [] }

/-- The descriptor of a target while no structure is formed: every field zero. -/
def tgtNone : Tgt :=
  { baseLo := 0, baseHi := 0, tenant := 0, threshold := 0, thrKeep := 0, autoCprio := false, enable := false,
    ringLog2 := 0, dbLo := 0, dbHi := 0, dbData := 0,
    head := 0, headPar := false, tail := 0, tailPar := false, seq := 0, pstate := 0, unreach := false, hostUnreach := false,
    stalled := false, cprio := 0, amask := 0, amaskLatch := 0, graceEnd := 0, arm := false, resend := 0, maxResend := 0, wdog := none, lastDb := 0,
    rearm := false, dbOwed := false, fullEpisode := false, batch := none, wait := 0, changes := [] }

/-- A target; one not listed stands as the form wrote it. -/
def tgtOf (s : State) (t : Nat) : Tgt :=
  match find s.ts.targets t with
  | some g => g
  | none => match s.fu.formed with
    | some f => tgtForm f t
    | none => tgtNone

/-- The state with a target replaced. -/
def tgtPut (s : State) (t : Nat) (g : Tgt) : State :=
  { s with ts := { s.ts with targets := put s.ts.targets t g, dirty := insertNat s.ts.dirty t } }

/-- A target group; one not listed has 64 empty slots (R184). -/
def groupOf (s : State) (g : Nat) : Group :=
  (find s.ts.groups g).getD { slots := Vector.replicate 64 0xFFFF, ptr := 0, changes := [] }

/-- The state with a target group replaced. -/
def groupPut (s : State) (g : Nat) (x : Group) : State :=
  { s with ts := { s.ts with groups := put s.ts.groups g x } }

/-- The fine timer that the TIMERS section gives a coalescing group, or 0 (R97). -/
def couchTimer (f : Furnish) (g : Nat) : Nat :=
  match f.slots.findIdx? (· = g) with
  | some i => 64 + i
  | none => 0

/-- A coalescing group; one not listed stands as LOAD writes it (R97, R111). -/
def couchOf (s : State) (g : Nat) : Couch :=
  match find s.ts.couches g with
  | some c => c
  | none => { elastic := false, mode := 0, countMax := 0, timeMax := 0, holdoff := 0,
              timer := match s.fu.formed with
                | some f => BitVec.ofNat 8 (couchTimer f g)
                | none => 0,
              window := none, held := 0, changes := [] }

/-- The state with a coalescing group replaced. -/
def couchPut (s : State) (g : Nat) (c : Couch) : State :=
  { s with ts := { s.ts with couches := put s.ts.couches g c } }

/-- The watermark key of a tenant; one not loaded is all zero (R196). -/
def keyOf (s : State) (t : Nat) : BitVec 128 := (find s.ts.keys t).getD 0

/-- An input of a vector waits for its ranking round, after those that reached the core before it (R142). -/
def enqueue (s : State) (h : Nat) : State :=
  if s.vs.queue.any (· = h) then s else { s with vs := { s.vs with queue := s.vs.queue ++ [h] } }

/-- Multiples of a tick's period that local time has passed since the tick last acted (R243). -/
def ticksDue (s : State) (period last : Nat) : Nat := now s / period - last

/-! ### Aperture requests -/

/-- The lowest tag not in use. -/
def freeTag {α : Type} (l : List (BitVec 8 × α)) : Option (BitVec 8) :=
  ((List.range 256).find? fun i => !(l.any fun e => decide (e.1.toNat = i))).map (BitVec.ofNat 8)

/-- What a tag stands for. -/
def tagOf {α : Type} (l : List (BitVec 8 × α)) (tag : BitVec 8) : Option α :=
  match l with
  | [] => none
  | (t, a) :: r => if t = tag then some a else tagOf r tag

/-- The list without a tag. -/
def tagErase {α : Type} (l : List (BitVec 8 × α)) (tag : BitVec 8) : List (BitVec 8 × α) :=
  l.filter fun e => decide (e.1 ≠ tag)

/-- The copies are mirrored or being resynchronised, so writes go to both (R59, R331). -/
def dualWrites (s : State) : Bool := decide (s.ap.state = 2) || decide (s.ap.state = 3)

/-- A request takes the lowest free tag, or waits for one. -/
def apPut (s : State) (r : AperReq) : State :=
  match freeTag s.ap.reqs with
  | some t => { s with ap := { s.ap with reqs := s.ap.reqs ++ [(t, { r with since := fabNow s })] } }
  | none => { s with ap := { s.ap with waiting := s.ap.waiting ++ [r] } }

/-- A request on the copies it concerns: the copy in use, and for a write both while mirrored (R58, R59). -/
def apForm (s : State) (p : Purpose) (write : Bool) (offset : Nat) (data : List Word) (runs : List Run) : AperReq :=
  let both := write && dualWrites s
  { purpose := p, write := write, offset := offset, data := data, runs := runs,
    onPrimary := both || !s.ap.readSec, onSecondary := both || s.ap.readSec, since := fabNow s }

/-- An aperture request of one beat is made (R58, R59). -/
def apRequest (s : State) (p : Purpose) (write : Bool) (offset : Nat) (data : List Word) : State :=
  apPut s (apForm s p write offset data [])

/-- An aperture request that stands for table traffic is made, where there is any (R111, R112, R115). -/
def apBulk (s : State) (p : Purpose) (write : Bool) (runs : List Run) : State :=
  match runs with
  | [] => s
  | r :: _ => apPut s (apForm s p write r.offset [] runs)

/-- The beats of a request: the aperture offset of each and the words it writes. -/
def apBeats (r : AperReq) : List (Nat × List Word) :=
  match r.runs with
  | [] => [(r.offset, r.data)]
  | l => l.flatMap fun x => (List.range x.count).map fun i => (x.offset + 32 * i, x.words)

/-- The base of a copy (R59). -/
def apBase (s : State) (c : Copy) : DWord :=
  match c with
  | .primary => s.ap.base ++ (0 : BitVec 30)
  | .secondary => s.ap.base2 ++ (0 : BitVec 30)

/-- IV_AP_ADDR of a beat: the aperture base in use plus the aperture offset (R58). -/
def apAddr (s : State) (c : Copy) (offset : Nat) : DWord := apBase s c + BitVec.ofNat 64 offset

/-- IV_AP_LEN of a request's beats: 1 for the 64 bytes of a journal record, else 0 (R58). -/
def apLen (r : AperReq) : Bool := decide (r.data.length = 16)

/-- A request ends: its tag goes to the oldest request that waits for one. -/
def apDone (s : State) (tag : BitVec 8) : State :=
  let s := noteBusy s
  let rest := tagErase s.ap.reqs tag
  match s.ap.waiting with
  | [] => { s with ap := { s.ap with reqs := rest } }
  | r :: ws => { s with ap := { s.ap with reqs := rest ++ [(tag, { r with since := fabNow s })], waiting := ws } }

/-- An outstanding or waiting request for a purpose. -/
def apHas (s : State) (p : Purpose) : Bool :=
  (s.ap.reqs.any fun e => decide (e.2.purpose = p)) || (s.ap.waiting.any fun r => decide (r.purpose = p))

/-- The request is the copying of a resync. -/
def isResync (p : Purpose) : Bool := decide (p = .resync)

/-- No aperture request is outstanding. -/
def apIdle (s : State) : Bool := s.ap.reqs.isEmpty && s.ap.waiting.isEmpty

/-- The aperture offset of a handle's VTE (R96). -/
def vteOffset (s : State) (h : Nat) : Nat :=
  match s.fu.formed, handleSlice s h with
  | some f, some e =>
    match regionOf f 1 e.tenant with
    | none => 0
    | some r =>
      if e.tenant = 0 then (if h < 4096 then r.offset + 32 * h else r.offset + 32 * (4096 + h - e.base))
      else r.offset + 32 * (h - e.base)
  | _, _ => 0

/-- The aperture offset of a system table's entry (R96). -/
def tableOffset (s : State) (kind size i : Nat) : Nat :=
  match s.fu.formed with
  | none => 0
  | some f => match regionOf f kind 0 with
    | none => 0
    | some r => r.offset + size * i

/-- A VTE is read from the aperture, unless a read of it is outstanding (R130). -/
def fetchVte (s : State) (h : Nat) : State :=
  if apHas s (.vteRead h) then s else apRequest s (.vteRead h) false (vteOffset s h) []

/-! ### The journal -/

/-- A record that arises now is written: JOURNAL_EN 1 and a journal configured (R336). -/
def journalOn (s : State) : Bool := s.ctl.journalEn && decide (s.jn.log2 ≠ 0)

/-- The slots of the journal. -/
def jnlSlots (s : State) : Nat := 2 ^ s.jn.log2.toNat / 64

/-- One record written to slot TAIL; a full journal loses its oldest record (R336). -/
def jnlPut (s : State) (p : Purpose) (r : Rec) : State :=
  if journalOn s then
    let n := jnlSlots s
    let full := decide ((s.jn.tail.toNat + 1) % n = s.jn.head.toNat)
    let s1 := apRequest s p true (s.jn.base.toNat * 4096 + 64 * s.jn.tail.toNat) r.toList
    let s2 := { s1 with jn := { s1.jn with tail := BitVec.ofNat 31 ((s.jn.tail.toNat + 1) % n),
                                           head := if full then BitVec.ofNat 31 ((s.jn.head.toNat + 1) % n) else s.jn.head } }
    if full then raiseStatus s2 stJnlWrap else s2
  else s

/-- The tenant that a record is copied to (R341); 0 for none. -/
def recTenant (r : Rec) : Nat :=
  let code := fld (wd16 r 0) 24 8
  let arg := (fld (wd16 r 0) 0 12).toNat
  if code = 0x20 then (fld (wd16 r 5) 16 12).toNat
  else if code = 0x21 || code = 0x22 || code = 0x42 || code = 0x44 || code = 0x45 || code = 0x61 || code = 0xA2 then arg
  else if code = 0x40 || code = 0x41 || code = 0x43 then (fld (wd16 r 4) 0 12).toNat
  else if code = 0x60 then (fld (wd16 r 6) 0 12).toNat
  else 0

/-- The copy of a record in its tenant's JOURNAL region, with the region's header (R338); its number of wraps counts modulo 2^32
(assumption log 73). -/
def jnlCopy (s : State) (r : Rec) : State :=
  let t := recTenant r
  if journalOn s && decide (t ≠ 0) then
    match find s.jn.tenants t with
    | none => s
    | some j =>
      let wrap := decide (j.slots ≤ j.next + 1)
      let j' : TenantJnl := { j with next := if wrap then 1 else j.next + 1, wraps := if wrap then j.wraps + 1 else j.wraps }
      let s1 := apRequest s (.tenantJournal t) true (j.offset + 64 * j.next) r.toList
      let s2 := apRequest s1 (.tenantJournal t) true j.offset (w32 j'.next :: j'.wraps :: List.replicate 14 0)
      { s2 with jn := { s2.jn with tenants := put s2.jn.tenants t j' } }
  else s

/-- A record is journaled, with its tenant copy. -/
def jnl (s : State) (code : Byte) (arg : BitVec 24) (t : Nat) (ws : List (Nat × Word)) : State :=
  let r := mkRec code arg 0 t ws
  jnlCopy (jnlPut s .journal r) r

/-- A full bucket (R126). -/
def bucketFull : Bucket := { tokens := 64, skipped := 0 }

/-- A record under the rate limit of a tenant and code; word 8 counts those not journaled since the last, modulo 2^32 (R126, assumption
log 73). -/
def jnlRatedW1 (s : State) (tenant : Nat) (code : Byte) (arg : BitVec 24) (w1 : Word) (t : Nat) (ws : List (Nat × Word)) : State :=
  if journalOn s then
    let k := tenant * 256 + code.toNat
    let b := (find s.jn.buckets k).getD bucketFull
    if b.tokens = 0 then
      { s with jn := { s.jn with buckets := put s.jn.buckets k { b with skipped := b.skipped + 1 } } }
    else
      let s1 := { s with jn := { s.jn with buckets := put s.jn.buckets k { tokens := b.tokens - 1, skipped := 0 } } }
      let r := mkRec code arg w1 t (ws ++ [(8, b.skipped)])
      jnlCopy (jnlPut s1 .journal r) r
  else s

/-- A rate-limited record whose word 1 is zero. -/
def jnlRated (s : State) (tenant : Nat) (code : Byte) (arg : BitVec 24) (t : Nat) (ws : List (Nat × Word)) : State :=
  jnlRatedW1 s tenant code arg 0 t ws

/-- A CFG_REJECT record (R340): entry index, KIND, reason, caller code and the owning tenant. -/
def jnlCfgReject (s : State) (index kind reason caller owner : Nat) : State :=
  jnlRated s owner 0x60 (BitVec.ofNat 24 index) (now s)
    [(4, w32 (kind + 256 * reason)), (5, w32 caller), (6, w32 owner)]

/-! ### Faults -/

/-- The word that IV_FLT_FIRST captures (R320). -/
def firstWord (cls : BitVec 2) (src : BitVec 8) (arg : BitVec 24) : Word :=
  at_ 32 30 cls ||| at_ 32 24 (fld src 0 6) ||| at_ 32 0 arg

/-- A corrected or deferred fault is counted: IV_FLT_FIRST, the counter and the flags (R319, R320). -/
def faultCount (s : State) (cls : BitVec 2) (src : BitVec 8) (arg : BitVec 24) (m : BitVec 24) (inj : Bool) : State :=
  let first := if fld s.flt.sum.flags 0 8 = 0 then firstWord cls src arg else s.flt.first
  let s1 := { s with flt := { s.flt with
                first := first, corr := if cls = 1 then satAdd s.flt.corr 1 else s.flt.corr,
                defer := if cls = 2 then satAdd s.flt.defer 1 else s.flt.defer } }
  fltRaise s1 (m ||| (if cls = 1 then 1 else 2) ||| bit inj 8)

/-- A fatal fault: IV_FLT_FIRST captures it and, where no other one has, it raises the SAFE request (R318, R320, R324 step 1). -/
def fatalFault (s : State) (src : BitVec 8) (detail : BitVec 24) (inj : Bool) : State :=
  let f : Fatal := { source := src, detail := detail, blind := false, injected := inj }
  let s1 := { s with flt := { s.flt with first := firstWord 3 src detail, fatal := some (s.flt.fatal.getD f) } }
  if inj then fltRaise s1 0x100 else s1

/-- An error in the collector itself: SAFE without classification (R323). -/
def collectorFault (s : State) (inj : Bool) : State :=
  if s.flt.fatal.isSome then s
  else { s with flt := { s.flt with fatal := some { source := 0x24, detail := 0, blind := true, injected := inj } } }

/-- The FLT_SUM flag of a source besides CORRECTED and DEFERRED (R319). -/
def sourceFlag (src : BitVec 8) : BitVec 24 :=
  if src = 0x03 || src = 0x13 || src = 0x14 then 0x10
  else if src = 0x04 || src = 0x12 then 0x08
  else if src = 0x10 || src = 0x11 || src = 0x15 then 0x04
  else if src = 0x05 then 0x40
  else if src = 0x17 then 0x20
  else if src = 0x18 then 0x80
  else 0

/-- Sources whose records share the rate limit of tenant 0 (R340). -/
def sourceRated (src : BitVec 8) : Bool := decide (src = 0x03) || decide (src = 0x04) || decide (src = 0x12)

/-- A fault record FLT_CORRECTED or FLT_DEFERRED, stamped with a time (R340). -/
def jnlFault (s : State) (t : Nat) (code : Byte) (src : BitVec 8) (arg : BitVec 24) (w5 w6 : Word) (inj : Bool) : State :=
  let ws : List (Nat × Word) := [(4, at_ 32 0 src), (5, w5), (6, w6)]
  if sourceRated src then jnlRatedW1 s 0 code arg (bit inj 0) t ws
  else jnlPut s .journal (mkRec code arg (bit inj 0) t ws)

/-- A corrected fault found at a time, with its record (R316). -/
def correctedAt (s : State) (t : Nat) (src : BitVec 8) (arg : BitVec 24) (inj : Bool) : State :=
  jnlFault (faultCount s 1 src arg (sourceFlag src) inj) t 0x80 src arg 0 0 inj

/-- A corrected fault found now (R316). -/
def corrected (s : State) (src : BitVec 8) (arg : BitVec 24) (inj : Bool) : State := correctedAt s (readTime s) src arg inj

/-- A deferred fault is counted, or fatal while DEFER_FATAL is 1 (R316, R317). -/
def deferredCount (s : State) (src : BitVec 8) (arg : BitVec 24) (inj : Bool) : State :=
  if s.ctl.deferFatal then fatalFault s 0x2B arg inj else faultCount s 2 src arg (sourceFlag src) inj

/-- A deferred fault found at a time, with its record (R316, R340); one that DEFER_FATAL raises keeps its own ARG as the detail of source
0x2B (assumption log 44). -/
def deferredAt (s : State) (t : Nat) (src : BitVec 8) (arg : BitVec 24) (w5 w6 : Word) (inj : Bool) : State :=
  if s.ctl.deferFatal then fatalFault s 0x2B arg inj
  else jnlFault (deferredCount s src arg inj) t 0x81 src arg w5 w6 inj

/-- A deferred fault found now (R316, R340). -/
def deferred (s : State) (src : BitVec 8) (arg : BitVec 24) (w5 w6 : Word) (inj : Bool) : State :=
  deferredAt s (readTime s) src arg w5 w6 inj

/-- An array or crossing fault found at a time, corrected or deferred by its source (R316). -/
def faultAt (s : State) (t : Nat) (src : BitVec 8) (arg : BitVec 24) (inj : Bool) : State :=
  if src = 0x03 || src = 0x04 then correctedAt s t src arg inj else deferredAt s t src arg 0 0 inj

/-- An array or crossing fault is found: reported at once or, while Ivsyn sleeps, at the wake (R289, assumption log 52). -/
def faultFound (s : State) (src : BitVec 8) (arg : BitVec 24) (inj : Bool) : State :=
  if sleeping s then { s with pw := { s.pw with faultsHeld := (src, arg, inj, readTime s) :: s.pw.faultsHeld } }
  else faultAt s (readTime s) src arg inj

/-! ### Refusals, activity, wake -/

/-- IV_PWR_REFUSE_LAST (R299). -/
def refuseWord (s : State) : Word := at_ 32 24 s.pw.refSeq ||| at_ 32 16 s.pw.refTarget ||| at_ 32 0 s.pw.refCode

/-- One millisecond. -/
def oneMs : Nat := 1000000

/-- An attempt is refused: it is counted and journaled, and a retry is due 1 ms later (R282, R299, R301). -/
def refuse (s : State) (t : SleepTarget) (code : BitVec 4) (detail : Word) : State :=
  let n := code.toNat
  let s1 := { s with pw := { s.pw with
                refSeq := s.pw.refSeq + 1, refTarget := t.code, refCode := code,
                refCnt := s.pw.refCnt.setIfInBounds n (s.pw.refCnt.getD n 0 + 1),
                entry := none, due := false, retryAt := some (now s + oneMs) } }
  let s2 := { s1 with pw := { s1.pw with saveRefuse := refuseWord s1 } }
  jnlRated s2 0 0x02 (at_ 24 4 t.code ||| at_ 24 0 code) (now s) [(4, detail), (5, s1.pw.refCnt.getD n 0)]

/-- The entry attempt has not committed (R284). -/
def EntryStep.undoable (e : EntryStep) : Bool := decide (e = .draining) || decide (e = .armed)

/-- An entry attempt that has not committed is in progress (R284). -/
def entryUndoable (s : State) : Bool :=
  match s.pw.entry with
  | some e => e.step.undoable
  | none => false

/-- Vat slots occupied. -/
def occupied (s : State) : Nat := s.vat.slots.length

/-- An attempt that has not committed is abandoned: 1 ms later a new one is made (R281, R284). -/
def abandonEntry (s : State) : State := { s with pw := { s.pw with entry := none, due := false, retryAt := some (now s + oneMs) } }

/-- Activity abandons an entry attempt before its commit, and returns Ivsyn from IDLE to SERVING (R280, R284). -/
def activity (s0 : State) (beat : Bool) : State :=
  let s := noteBusy s0
  let s1 := match s.pw.entry with
    | none => if s.pw.due then abandonEntry s else s
    | some e =>
      if e.step.undoable then
        (if beat then refuse s e.target 2 (w32 (occupied s + 1)) else abandonEntry s)
      else s
  if s1.md.mode = .idle then { setMode s1 .serving with pw := { s1.pw with pwrState := 4 } } else s1

/-- A wake source in REST or DORMANT: it is recorded, and RUN is requested unless a step of the entry is in progress; the first step of
the wake records WAKE_CAUSE (R284, R292). One that arrives during step 7 itself waits for step 8 (assumption log 80). -/
def wakeSource (s : State) (cause : BitVec 4) : State :=
  if sleeping s then
    match s.pw.wakeReq with
    | some _ => s
    | none =>
      match s.pw.entry with
      | some _ => { s with pw := { s.pw with wakeReq := some cause } }
      | none => { s with pw := { s.pw with wakeReq := some cause, wakeCause := cause, pwrReq := 0, ackWait := true } }
  else s

/-- The row of a vector's entry is corrupt and waits for its reload (R316). -/
def reloading (s : State) (h : Nat) : Bool := s.vs.reload.any (· = h)

/-- The row of a target's descriptor is corrupt and waits for its reload (R316). -/
def tdReloading (s : State) (t : Nat) : Bool := s.ts.reload.any (· = t)

/-- Two vectors share a lane (R142). -/
def sameLane (a b : Nat) : Bool := decide (a % 4 = b % 4)

/-- The lane of a handle has a round that waits for a self-test (R165, R318). -/
def laneHeld (s : State) (h : Nat) : Bool :=
  match s.flt.selfTest with
  | some r => sameLane r.h.toNat h
  | none => false

/-! ### The comparison of the planes -/

/-- The lane of a handle (R142). -/
def laneOf (h : Nat) : BitVec 24 := BitVec.ofNat 24 (h % 4)

/-- Both planes rank and are compared (R165, R167). -/
def bothPlanes (s : State) : Bool := decide (s.flt.fenced = 0) && s.ctl.planeCheckEn

/-- The injection is spent (R321). -/
def injectSpent (s : State) : State := { s with flt := { s.flt with inject := none } }

/-- A round of both planes that differ twice waits for the self-test (R165). -/
def holdRound (s : State) (h : BitVec 24) (fail : BitVec 2) : State :=
  { s with flt := { s.flt with selfTest := some { h := h }, failPlane := fail } }

/-- The comparison of the planes for a round: what it leaves, and whether the round commits now (R164 to R167, R318, R321). -/
def roundCompare (s : State) (h : BitVec 24) (check : PlaneCheck) : State × Bool :=
  let n := h.toNat
  if !bothPlanes s then
    if check = .residueError then (fatalFault s 0x22 (laneOf n) false, false) else (s, true)
  else
    match s.flt.selfTest with
    | some _ => (s, !laneHeld s n && decide (check = .agree))
    | none =>
      if s.flt.inject = some 1 then (corrected (injectSpent s) 0x01 (laneOf n) true, true)
      else if s.flt.inject = some 2 then (holdRound (injectSpent s) h 1, false)
      else if s.flt.inject = some 3 then (holdRound (injectSpent s) h 2, false)
      else match check with
        | .agree => (s, true)
        | .residueError => (s, true)
        | .retryAgrees => (corrected s 0x01 (laneOf n) false, true)
        | .disagree => (holdRound s h 0, false)

/-- The core decides nothing more after a fatal fault (R318). -/
def unlessFatal (s : State) (f : State → State) : State := if s.flt.fatal.isSome then s else f s

/-- A credit returns to a lane (R46). -/
def creditBack (s : State) (lane : Fin 4) : State :=
  { s with vat := { s.vat with credits := s.vat.credits.set lane (s.vat.credits[lane] + 1) } }

end Sys2Proof.Machine
end

