-- ==== Sys2Proof/Machine/Furnish.lean ====
section
/-! DEFINITION. The furnish image: its binary layout (R89 to R102), its reading into fields, and the checks of R110 in the order of
R392, R113 included. -/

namespace Sys2Proof.Machine

/-- A failed check: code, ERR_SECTION and word 6 of FURN_ERROR (R392). -/
structure FurnErr where
  code : Nat
  sect : Nat
  word : Nat
deriving DecidableEq, Repr

/-- The first error of a list of checks. -/
def firstErr (l : List (Option FurnErr)) : Option FurnErr :=
  match l with
  | [] => none
  | some e :: _ => some e
  | none :: r => firstErr r

/-- An error where a condition fails. -/
def need (ok : Bool) (code sect word : Nat) : Option FurnErr :=
  if ok then none else some { code := code, sect := sect, word := word }

/-- A little-endian field of the image (R6, R89). -/
def rd (im : List Byte) (off n : Nat) : Nat := leNat ((im.drop off).take n)

/-- One section: where its header lies, its body length and COUNT. -/
structure Section where
  hdr : Nat
  len : Nat
  count : Nat
deriving DecidableEq, Repr

/-- Where a section's body starts. -/
def bodyAt (x : Section) : Nat := x.hdr + 16

/-- The nine section types in order (R89). -/
def sectTypes : List Nat := [1, 2, 3, 4, 5, 6, 7, 8, 0xFF]

/-- The COUNT range and the body length of a section type (R92). -/
def sectFits (type count len : Nat) : Bool :=
  if type = 1 then decide (count = 1) && decide (len = 32)
  else if type = 2 then decide (1 ≤ count) && decide (count ≤ 4096) && decide (len = 32 * count)
  else if type = 3 then decide (5 ≤ count) && decide (count ≤ 8197) && decide (len = 16 * count)
  else if type = 4 then decide (count ≤ 192) && decide (len = (16 + 2 * count + 15) / 16 * 16)
  else if type = 5 then decide (count = 16) && decide (len = 64)
  else if type = 6 then decide (count = 1) && decide (len = 16)
  else if type = 7 then decide (count = 1) && decide (len = 496)
  else if type = 8 then decide (count = 32) && decide (len = 128)
  else decide (count = 0) && decide (len = 48)

/-- A section header is one of its type, in place (R91, R92). -/
def headFits (im : List Byte) (total pos t : Nat) : Bool :=
  decide (pos + 16 ≤ total) && decide (rd im pos 1 = t) && decide (rd im (pos + 2) 2 = 0) && sectFits t (rd im (pos + 8) 4) (rd im (pos + 4) 4)

/-- A section ends where it may: END exactly at LENGTH, another no later (R89, R91). -/
def endFits (total pos len t : Nat) : Bool :=
  if t = 0xFF then decide (pos + 16 + len = total) else decide (pos + 16 + len ≤ total)

/-- The section walk (R91, R92, code 0x07): the sections, or the error; an END that does not end exactly at LENGTH has no ordinal (R392). -/
def walk (im : List Byte) (total pos k : Nat) (types : List Nat) : Except FurnErr (List Section) :=
  match types with
  | [] => .ok []
  | t :: r =>
    let len := rd im (pos + 4) 4
    let count := rd im (pos + 8) 4
    if headFits im total pos t && endFits total pos len t then
      match walk im total (pos + 16 + len) (k + 1) r with
      | .error e => .error e
      | .ok l => .ok ({ hdr := pos, len := len, count := count } :: l)
    else .error { code := 0x07, sect := if decide (t = 0xFF) && headFits im total pos t then 0 else k, word := pos }

/-- The header checks (R90, R392 orders 1, 3 and 4). -/
def headerErr (im : List Byte) (total : Nat) : Option FurnErr :=
  firstErr [need (decide (rd im 8 4 = total)) 0x01 0 0, need (decide (rd im 0 4 = 0x4655524E)) 0x04 0 0,
    need (decide (rd im 4 2 = 1)) 0x05 0 4, need (decide (rd im 6 2 = 0x0960)) 0x06 0 6, need (decide (rd im 12 2 = 9)) 0x07 0 12]

/-- The sections of an image that passes the header checks and the walk (R90, R392 orders 1, 3 and 4). -/
def sections (im : List Byte) (total : Nat) : Except FurnErr (List Section) :=
  match headerErr im total with
  | some e => .error e
  | none =>
    walk im total 64 1 sectTypes

/-- The walk over the section headers that have arrived (R392 order 4). -/
def walkPart (im : List Byte) (total pos k : Nat) (types : List Nat) : Option FurnErr :=
  match types with
  | [] => none
  | t :: r =>
    if im.length < pos + 16 then none
    else
      match walk im total pos k [t] with
      | .error e => some e
      | .ok _ => walkPart im total (pos + 16 + rd im (pos + 4) 4) (k + 1) r

/-- The checks that the part of an image that has arrived allows (R392 orders 3 and 4). -/
def partErr (im : List Byte) (total : Nat) : Option FurnErr :=
  if im.length < 64 then none
  else match headerErr im total with
    | some e => some e
    | none => walkPart im total 64 1 sectTypes

/-- The ordinal of the section that holds a byte, from the section headers that have arrived before it; 0 for the header. -/
def partSection (im : List Byte) (n pos k : Nat) (types : List Nat) : Nat :=
  match types with
  | [] => k - 1
  | _ :: r => if n < pos + 16 + rd im (pos + 4) 4 || n < pos + 16 then k else partSection im n (pos + 16 + rd im (pos + 4) 4) (k + 1) r

/-- The first unread byte of an image: its section and its offset (R392). -/
def unreadAt (im : List Byte) : Nat × Nat :=
  (if im.length < 64 then 0 else partSection im im.length 64 1 sectTypes, im.length)

/-- A section by its position, from 0. -/
def sectAt (l : List Section) (i : Nat) : Section := l.getD i { hdr := 0, len := 0, count := 0 }

/-- BUILD_ID (R90); zero until the header has been read (R111). -/
def buildId (im : List Byte) : DWord := if im.length < 64 then 0 else BitVec.ofNat 64 (rd im 16 8)

/-- The computed digest (R102). -/
def imageDigest (im : List Byte) (total : Nat) : Digest := sha384 (im.take (total - 48))

/-- Byte 4n of the END body in bits [31:24] of word n (R102). -/
def endDigest (im : List Byte) (total : Nat) : Digest :=
  Vector.ofFn fun i : Fin 12 =>
    let b := (im.drop (total - 48 + 4 * i.val)).take 4
    BitVec.ofNat 32 (leNat b.reverse)

/-! ### Reserved bytes (0x0B) -/

/-- Reserved places of one entry: byte offset and mask (R89 to R101). -/
def reservedOf (type : Nat) : List (Nat × Nat) :=
  let run (a b m : Nat) : List (Nat × Nat) := (List.range (b - a)).map fun i => (a + i, m)
  if type = 1 then run 20 32 0xFF
  else if type = 2 then [(1, 0xF0), (3, 0xFF), (7, 0xFF)] ++ run 28 32 0xFF
  else if type = 3 then [(1, 0xFF), (3, 0xF0)]
  else if type = 6 then [(1, 0xC0), (2, 0xFF), (3, 0xFF)] ++ run 12 16 0xFF
  else if type = 7 then [(0, 0xF0), (1, 0xE0)] ++ run 4 16 0xFF
  else if type = 8 then [(3, 0xFF)]
  else []

/-- The size of one entry of a section type. -/
def entrySize (type : Nat) : Nat :=
  if type = 1 then 32 else if type = 2 then 32 else if type = 3 then 16 else if type = 5 then 4 else if type = 7 then 496
  else if type = 8 then 4 else 16

/-- The reserved places of a section, header included, in image order. -/
def sectReserved (type : Nat) (x : Section) : List (Nat × Nat) :=
  let hdr := [x.hdr + 1, x.hdr + 12, x.hdr + 13, x.hdr + 14, x.hdr + 15].map fun b => (b, 0xFF)
  let body :=
    if type = 4 then
      ((List.range 12).map fun i => (bodyAt x + 4 + i, 0xFF))
        ++ (List.range (x.len - 16 - 2 * x.count)).map fun i => (bodyAt x + 16 + 2 * x.count + i, 0xFF)
    else (List.range x.count).flatMap fun e => (reservedOf type).map fun p => (bodyAt x + e * entrySize type + p.1, p.2)
  hdr ++ body

/-- The first non-zero reserved byte among places. -/
def reservedErr (im : List Byte) (k : Nat) (ps : List (Nat × Nat)) : Option FurnErr :=
  match ps.find? fun p => decide (rd im p.1 1 &&& p.2 ≠ 0) with
  | some p => some { code := 0x0B, sect := k, word := p.1 }
  | none => none

/-- The reserved check over the whole image. -/
def checkReserved (im : List Byte) (l : List Section) : Option FurnErr :=
  let hdr := ([14, 15] ++ (List.range 40).map fun i => 24 + i).map fun b => (b, 0xFF)
  firstErr (reservedErr im 0 hdr
    :: (List.range 9).map fun i => reservedErr im (i + 1) (sectReserved (sectTypes.getD i 0) (sectAt l i)))

/-! ### Fields -/

/-- GEOMETRY (R93). -/
def geoOf (im : List Byte) (x : Section) : Geometry :=
  let b := bodyAt x
  { handleTop := rd im b 4, targetTop := rd im (b + 4) 4, groupTop := rd im (b + 8) 4, couchTop := rd im (b + 12) 4,
    pinMax := rd im (b + 16) 4 }

/-- One SLICES entry (R94). -/
def sliceAt (im : List Byte) (b : Nat) : Slice :=
  { tenant := rd im b 2 % 4096, sizeClass := rd im (b + 2) 1, base := rd im (b + 4) 4 % 16777216, vecCount := rd im (b + 8) 4,
    targetBase := rd im (b + 12) 2, targetCount := rd im (b + 14) 2, groupBase := rd im (b + 16) 2, groupCount := rd im (b + 18) 2,
    couchBase := rd im (b + 20) 2, couchCount := rd im (b + 22) 2, bucket := rd im (b + 24) 2, refill := rd im (b + 26) 2 }

/-- One APERTURE entry (R95). -/
def regionAt (im : List Byte) (b : Nat) : Region :=
  { kind := rd im b 1, tenant := rd im (b + 2) 2 % 4096, size4k := rd im (b + 4) 4, offset := rd im (b + 8) 8 }

/-- The entries of a section. -/
def entriesOf {α : Type} (f : Nat → α) (x : Section) (size : Nat) : List α := (List.range x.count).map fun i => f (bodyAt x + size * i)

/-- An image read into its fields. -/
def furnishOf (im : List Byte) (l : List Section) : Furnish :=
  let prot := bodyAt (sectAt l 5)
  let pow := bodyAt (sectAt l 6)
  let loc := bodyAt (sectAt l 7)
  let tim := bodyAt (sectAt l 3)
  { buildId := buildId im, geometry := geoOf im (sectAt l 0), slices := entriesOf (sliceAt im) (sectAt l 1) 32,
    regions := entriesOf (regionAt im) (sectAt l 2) 16, leaseTimers := rd im tim 2,
    slots := (List.range (sectAt l 3).count).map fun i => rd im (tim + 16 + 2 * i) 2,
    classes := (List.range 16).map fun k => w32 (rd im (bodyAt (sectAt l 4) + 4 * k) 4),
    lockBits := BitVec.ofNat 8 (rd im prot 1), dcScope := BitVec.ofNat 8 (rd im (prot + 1) 1), dcWindowMs := rd im (prot + 4) 4,
    leaseDefaultMs := rd im (prot + 8) 4, allowed := BitVec.ofNat 8 (rd im pow 1), wakeSrc := BitVec.ofNat 8 (rd im (pow + 1) 1),
    idleAfterUs := BitVec.ofNat 16 (rd im (pow + 2) 2), wiredWake := BitVec.ofNat 3840 (rd im (pow + 16) 480),
    localRings := (List.range 32).map fun n => (rd im (loc + 4 * n) 2, rd im (loc + 4 * n + 2) 1) }

/-! ### Checks 0x10 to 0x19 -/

/-- Two ranges share a number. -/
def rangesMeet (b1 c1 b2 c2 : Nat) : Bool := decide (c1 ≠ 0) && decide (c2 ≠ 0) && decide (b1 < b2 + c2) && decide (b2 < b1 + c1)

/-- GEOMETRY ranges (0x10). -/
def checkGeometry (g : Geometry) (at_ : Nat) : Option FurnErr :=
  need (decide (4096 ≤ g.handleTop) && decide (g.handleTop ≤ 16777216) && decide (32 ≤ g.targetTop) && decide (g.targetTop ≤ 65536)
    && decide (g.groupTop ≤ 16384) && decide (g.couchTop ≤ 4096) && decide (g.pinMax ≤ 61440)) 0x10 1 at_

/-- One SLICES entry against R94 and the ceilings (0x11). -/
def sliceOk (g : Geometry) (prev : Option Nat) (e : Slice) : Bool :=
  (match prev with
    | some p => decide (p < e.tenant)
    | none => true)
  && (if e.tenant = 0 then
        decide (e.sizeClass = 2) && decide (e.targetBase = 0) && decide (32 ≤ e.targetCount)
          && (decide (e.vecCount = 0) || decide (4096 ≤ e.base))
      else decide (1 ≤ e.vecCount) && decide (e.sizeClass = if e.vecCount ≤ 4096 then 0 else 1) && decide (4096 ≤ e.base))
  && decide (e.base + e.vecCount ≤ g.handleTop) && decide (e.targetBase + e.targetCount ≤ g.targetTop)
  && decide (e.groupBase + e.groupCount ≤ g.groupTop) && decide (e.couchBase + e.couchCount ≤ g.couchTop)

/-- The slice checks in image order (0x11). -/
def checkSlices (g : Geometry) (prev : Option Nat) (at_ : Nat) (l : List Slice) : Option FurnErr :=
  match l with
  | [] => none
  | e :: r => if sliceOk g prev e then checkSlices g (some e.tenant) (at_ + 32) r else some { code := 0x11, sect := 2, word := at_ }

/-- Two slices share a resource. -/
def slicesMeet (a b : Slice) : Bool :=
  rangesMeet a.base a.vecCount b.base b.vecCount || rangesMeet a.targetBase a.targetCount b.targetBase b.targetCount
    || rangesMeet a.groupBase a.groupCount b.groupBase b.groupCount || rangesMeet a.couchBase a.couchCount b.couchBase b.couchCount

/-- The first entry that fails against those before it. -/
def checkPrior {α : Type} (bad : List α → α → Bool) (code sect size : Nat) (seen : List α) (at_ : Nat) (l : List α) : Option FurnErr :=
  match l with
  | [] => none
  | e :: r => if bad seen e then some { code := code, sect := sect, word := at_ } else checkPrior bad code sect size (seen ++ [e]) (at_ + size) r

/-- The smallest size of a region (R95). -/
def regionMin (f : Furnish) (r : Region) : Nat :=
  let vecs := match f.slices.find? fun e => decide (e.tenant = r.tenant) with
    | some e => e.vecCount
    | none => 0
  if r.kind = 1 then (if r.tenant = 0 then 32 * (4096 + vecs) else 32 * vecs)
  else if r.kind = 2 then 32 * f.geometry.targetTop
  else if r.kind = 3 then 128 * f.geometry.groupTop
  else if r.kind = 4 then 32 * f.geometry.couchTop
  else if r.kind = 5 then 16777216
  else if r.kind = 6 then 65536
  else 2097152

/-- A region's size in bytes. -/
def regionSize (r : Region) : Nat := 4096 * r.size4k

/-- A region that the image may hold, by its kind and tenant (R95). -/
def regionAllowed (f : Furnish) (r : Region) : Bool :=
  if r.kind = 1 then
    (match f.slices.find? fun e => decide (e.tenant = r.tenant) with
      | some e => decide (r.tenant = 0) || decide (e.vecCount ≠ 0)
      | none => false)
  else if r.kind = 6 then true
  else decide (2 ≤ r.kind) && decide (r.kind ≤ 7) && decide (r.tenant = 0) && (decide (r.kind ≠ 3) || decide (f.geometry.groupTop ≠ 0))
    && (decide (r.kind ≠ 4) || decide (f.geometry.couchTop ≠ 0))

/-- A number is a power of two. -/
def isPow2 (n : Nat) : Bool := decide (n ≠ 0) && decide (2 ^ n.log2 = n)

/-- One APERTURE entry breaks R95, alone or against an earlier one (0x13). -/
def regionBad (f : Furnish) (seen : List Region) (r : Region) : Bool :=
  !(regionAllowed f r && decide (r.offset % 4096 = 0) && decide (r.offset < 2 ^ 37) && decide (1 ≤ r.size4k)
    && decide (regionMin f r ≤ regionSize r) && (decide (r.kind ≠ 6) || isPow2 (regionSize r)))
    || seen.any fun q => (decide (q.kind = r.kind) && decide (q.tenant = r.tenant)) || rangesMeet q.offset (regionSize q) r.offset (regionSize r)

/-- The regions that an image must hold (R95). -/
def regionsNeeded (f : Furnish) : List (Nat × Nat) :=
  [(7, 0), (6, 0), (2, 0), (5, 0), (1, 0)] ++ (if f.geometry.groupTop = 0 then [] else [(3, 0)])
    ++ (if f.geometry.couchTop = 0 then [] else [(4, 0)])
    ++ f.slices.filterMap fun e => if e.vecCount = 0 then none else some (1, e.tenant)

/-- The image lies inside the FURNISH region (0x13). -/
def checkPlace (f : Furnish) (off len at_ : Nat) : Option FurnErr :=
  match f.regions.findIdx? fun r => decide (r.kind = 7) with
  | none => none
  | some i =>
    match f.regions[i]? with
    | none => none
    | some r => need (decide (r.offset ≤ off) && decide (off + len ≤ r.offset + regionSize r)) 0x13 0xFF (at_ + 16 * i)

/-- A TIMERS slot is good (R97). -/
def slotBad (f : Furnish) (seen : List Nat) (g : Nat) : Bool :=
  !(decide (g = 0xFFFF) ||
    (decide (g < f.geometry.couchTop) && !(seen.any (· = g)) &&
      match f.slices.find? fun e => decide (e.couchBase ≤ g) && decide (g < e.couchBase + e.couchCount) with
      | some e => decide (e.sizeClass ≠ 1)
      | none => false))

/-- A LOCAL entry is bad, alone or against an earlier one (R101). -/
def ringBad (seen : List (Nat × Nat)) (x : Nat × Nat) : Bool :=
  !(decide (x.1 ≤ 8191) && (decide (x.2 = 0) ||
    (decide (4 ≤ x.2) && decide (x.2 ≤ 13) && decide (x.1 % 2 ^ x.2 = 0) && decide (x.1 + 2 ^ x.2 ≤ 8192)
      && !(seen.any fun y => decide (y.2 ≠ 0) && rangesMeet y.1 (2 ^ y.2) x.1 (2 ^ x.2)))))

/-- ALLOWED and WAKE_SRC (R100, 0x18). -/
def powerOk (f : Furnish) : Bool :=
  let a := (fld f.allowed 0 4).toNat
  (decide (a = 0) || decide (a = 1) || decide (a = 3) || decide (a = 7) || decide (a = 15)) && (decide (a ≠ 15) || f.wakeSrc.getLsbD 0)

/-- The checks 0x10 to 0x19 in code order (R392 order 11). -/
def checkFields (im : List Byte) (l : List Section) (f : Furnish) (off len log2 : Nat) : Option FurnErr :=
  let sl := bodyAt (sectAt l 1)
  let ap := bodyAt (sectAt l 2)
  let tm := bodyAt (sectAt l 3)
  firstErr
    [checkGeometry f.geometry (bodyAt (sectAt l 0)),
     checkSlices f.geometry none sl f.slices,
     need (f.slices.any fun e => decide (e.tenant = 0)) 0x11 0xFF 0,
     checkPrior (fun seen e => seen.any fun q => slicesMeet q e) 0x12 2 32 [] sl f.slices,
     checkPrior (regionBad f) 0x13 3 16 [] ap f.regions,
     need ((regionsNeeded f).all fun k => f.regions.any fun r => decide (r.kind = k.1) && decide (r.tenant = k.2)) 0x13 0xFF 0,
     checkPlace f off len ap,
     checkPrior (fun _ r => decide (2 ^ log2 < r.offset + regionSize r)) 0x14 3 16 [] ap f.regions,
     need (decide (f.leaseTimers = 64) && decide (rd im (tm + 2) 2 = (sectAt l 3).count)) 0x15 4 tm,
     checkPrior (slotBad f) 0x15 4 2 [] (tm + 16) f.slots,
     checkPrior (fun _ (w : Word) => decide (fld w 24 7 ≠ 0)) 0x16 5 4 [] (bodyAt (sectAt l 4)) f.classes,
     need (decide (fld f.dcScope 0 4 = 0xF) && decide (100 ≤ f.dcWindowMs) && decide (f.dcWindowMs ≤ 60000) && decide (10 ≤ f.leaseDefaultMs)
       && decide (f.leaseDefaultMs ≤ 60000)) 0x17 6 (bodyAt (sectAt l 5)),
     need (powerOk f) 0x18 7 (bodyAt (sectAt l 6)),
     checkPrior ringBad 0x19 8 4 [] (bodyAt (sectAt l 7)) f.localRings]

/-! ### The scope of a re-form (0x20) -/

/-- The bytes of an image from an offset. -/
def bytesAt (im : List Byte) (off n : Nat) : List Byte := (im.drop off).take n

/-- The place of the first difference of two byte lists, in the new image. -/
def firstDiff (a b : List Byte) (at_ : Nat) : Option Nat :=
  match a, b with
  | [], [] => none
  | x :: r, y :: q => if x = y then firstDiff r q (at_ + 1) else some at_
  | _, _ => some at_

/-- Two bodies of equal shape differ. -/
def bodyDiff (old new : List Byte) (lo ln : List Section) (i : Nat) : Option FurnErr :=
  let a := sectAt lo i
  let b := sectAt ln i
  (firstDiff (bytesAt old (bodyAt a) a.len) (bytesAt new (bodyAt b) b.len) (bodyAt b)).map fun w => { code := 0x20, sect := i + 1, word := w }

/-- The entries of a section with their bytes and places, those of the re-formed tenant left out. -/
def keptEntries (im : List Byte) (x : Section) (size : Nat) (mine : Nat → Bool) : List (Nat × List Byte) :=
  ((List.range x.count).map fun i => bodyAt x + size * i).filterMap fun b => if mine b then none else some (b, bytesAt im b size)

/-- Entry lists differ outside the re-formed tenant. -/
def entriesDiff (stop : Nat) (a b : List (Nat × List Byte)) : Option Nat :=
  match a, b with
  | [], [] => none
  | x :: r, y :: q =>
    match firstDiff x.2 y.2 y.1 with
    | some w => some w
    | none => entriesDiff stop r q
  | [], y :: _ => some y.1
  | _ :: _, [] => some stop

/-- The first byte in which a section differs, its header taken first: where another tenant's last entry has gone, nothing of the entry is
left in the new image to name (R392 order 12). -/
def sectionDiff (old new : List Byte) (a b : Section) : Nat :=
  (firstDiff (bytesAt old a.hdr 16) (bytesAt new b.hdr 16) b.hdr).getD
    ((firstDiff (bytesAt old (bodyAt a) a.len) (bytesAt new (bodyAt b) b.len) (bodyAt b)).getD b.hdr)

/-- A TIMERS slot changes only as R113 permits: both values name a group of the tenant, in the formed or the new slice, or none. -/
def slotMay (t : Nat) (fo fn : Furnish) (a b : Nat) : Bool :=
  let of (f : Furnish) (g : Nat) : Bool := f.slices.any fun e => decide (e.tenant = t) && decide (e.couchBase ≤ g) && decide (g < e.couchBase + e.couchCount)
  let mine (g : Nat) : Bool := decide (g = 0xFFFF) || of fo g || of fn g
  decide (a = b) || (mine a && mine b)

/-- The first byte of a TIMERS slot that changes otherwise. -/
def slotsDiff (t : Nat) (fo fn : Furnish) (at_ : Nat) (a b : List Nat) : Option Nat :=
  match a, b with
  | [], [] => none
  | x :: r, y :: q => if slotMay t fo fn x y then slotsDiff t fo fn (at_ + 2) r q else some (if x % 256 = y % 256 then at_ + 1 else at_)
  | _, _ => some at_

/-- The first difference of the TIMERS sections: their headers where the number of slots differs, else a slot (R113). -/
def timersDiff (t : Nat) (old new : List Byte) (a b : Section) (fo fn : Furnish) : Option Nat :=
  if a.count = b.count then slotsDiff t fo fn (bodyAt b + 16) fo.slots fn.slots
  else firstDiff (bytesAt old a.hdr 16) (bytesAt new b.hdr 16) b.hdr

/-- A region of the re-formed tenant is as formed, or clear of every formed region (R113). -/
def ownRegionBad (fo : Furnish) (t : Nat) (r : Region) : Bool :=
  decide (r.tenant = t) && (decide (r.kind = 1) || decide (r.kind = 6)) && !(fo.regions.any fun q => decide (q = r))
    && fo.regions.any fun q => rangesMeet q.offset (regionSize q) r.offset (regionSize r)

/-- The first byte in which the first such region differs from the formed entry of its kind and tenant. -/
def ownRegionDiff (t : Nat) (old new : List Byte) (a b : Section) (fo : Furnish) : Option Nat :=
  let at_ (x : Section) (i : Nat) : Nat := bodyAt x + 16 * i
  ((List.range b.count).find? fun i => ownRegionBad fo t (regionAt new (at_ b i))).map fun i =>
    let r := regionAt new (at_ b i)
    match (List.range a.count).find? fun j =>
        decide ((regionAt old (at_ a j)).kind = r.kind) && decide ((regionAt old (at_ a j)).tenant = r.tenant) with
    | some j => (firstDiff (bytesAt old (at_ a j) 16) (bytesAt new (at_ b i) 16) (at_ b i)).getD (at_ b i)
    | none => at_ b i

/-- The lower of two places. -/
def firstOf (a b : Option Nat) : Option Nat :=
  match a, b with
  | some x, some y => some (min x y)
  | some x, none => some x
  | none, y => y

/-- The entries of a section that are the re-formed tenant's own. -/
def ownCount (x : Section) (size : Nat) (mine : Nat → Bool) : Nat :=
  ((List.range x.count).filter fun i => mine (bodyAt x + size * i)).length

/-- The first byte in which n bytes of two images differ, unless their change is one that R113 implies. -/
def fieldDiff (old new : List Byte) (a b n : Nat) (implied : Bool) : Option Nat :=
  if implied then none else firstDiff (bytesAt old a n) (bytesAt new b n) b

/-- What a REFORM image may not change, in image order (R113, R392 order 12): LENGTH, and the LENGTH and COUNT of SLICES and APERTURE, change by
the tenant's own entries alone. -/
def checkScope (t : Nat) (old new : List Byte) (lo ln : List Section) (fo fn : Furnish) : Option FurnErr :=
  let mineS (im : List Byte) (b : Nat) : Bool := decide ((sliceAt im b).tenant = t)
  let mineR (im : List Byte) (b : Nat) : Bool :=
    let r := regionAt im b
    decide (r.tenant = t) && (decide (r.kind = 1) || decide (r.kind = 6))
  let s1 := sectAt ln 1
  let s2 := sectAt ln 2
  let ownS (im : List Byte) (l : List Section) : Nat := ownCount (sectAt l 1) 32 (mineS im)
  let ownR (im : List Byte) (l : List Section) : Nat := ownCount (sectAt l 2) 16 (mineR im)
  let head (i : Nat) (implied : Bool) : Option FurnErr :=
    (fieldDiff old new ((sectAt lo i).hdr + 4) ((sectAt ln i).hdr + 4) 8 implied).map fun w => { code := 0x20, sect := i + 1, word := w }
  firstErr
    [(fieldDiff old new 8 8 4 (decide (new.length + 32 * ownS old lo + 16 * ownR old lo = old.length + 32 * ownS new ln + 16 * ownR new ln))).map
       fun w => { code := 0x20, sect := 0, word := w },
     bodyDiff old new lo ln 0,
     head 1 (decide (s1.count + ownS old lo = (sectAt lo 1).count + ownS new ln)),
     (entriesDiff (sectionDiff old new (sectAt lo 1) s1) (keptEntries old (sectAt lo 1) 32 (mineS old)) (keptEntries new s1 32 (mineS new))).map
       fun w => { code := 0x20, sect := 2, word := w },
     head 2 (decide (s2.count + ownR old lo = (sectAt lo 2).count + ownR new ln)),
     (firstOf (entriesDiff (sectionDiff old new (sectAt lo 2) s2) (keptEntries old (sectAt lo 2) 16 (mineR old)) (keptEntries new s2 16 (mineR new)))
       (ownRegionDiff t old new (sectAt lo 2) s2 fo)).map fun w => { code := 0x20, sect := 3, word := w },
     (timersDiff t old new (sectAt lo 3) (sectAt ln 3) fo fn).map fun w => { code := 0x20, sect := 4, word := w },
     bodyDiff old new lo ln 4, bodyDiff old new lo ln 5, bodyDiff old new lo ln 6, bodyDiff old new lo ln 7]

end Sys2Proof.Machine
end

