-- ==== Sys2Proof/Machine/Rings.lean ====
section
/-! DEFINITION. Rings, running priority, eligibility and member choice at a target (R151, R154, R170, R178, R179, R185, R189,
R200, R202), and the STATE of a vector (R140, R141). -/

namespace Sys2Proof.Machine

/-- Local targets are 0 to 31 (R174). -/
def isLocal (t : Nat) : Bool := decide (t < 32)

/-- The target has a ring: a local target whose LOCAL entry has LOG2 0 has none (R170). -/
def hasRing (t : Nat) (g : Tgt) : Bool := !isLocal t || decide (g.ringLog2 ≠ 0)

/-- The log2 of the effective ring size (R170). -/
def effLog2 (t : Nat) (log2 : BitVec 5) : Nat :=
  if log2.toNat < 4 then 4 else if isLocal t then min log2.toNat 13 else min log2.toNat 20

/-- The effective ring size in records (R170). -/
def ringSize (t : Nat) (g : Tgt) : Nat := 2 ^ effLog2 t g.ringLog2

/-- TD DECKLE (R170). -/
def deckle (t : Nat) (log2 : BitVec 5) : Bool :=
  if isLocal t then decide (13 < log2.toNat) else decide (20 < log2.toNat)

/-- A position: the slot index with the pass parity, modulo two ring sizes (R200). -/
def ringPos (size : Nat) (i : BitVec 20) (par : Bool) : Nat := i.toNat + (if par then size else 0)

/-- The distance from one position to another. -/
def ringDist (size a b : Nat) : Nat := (b + 2 * size - a) % (2 * size)

/-- Slots from HEAD to TAIL (R202). -/
def unread (t : Nat) (g : Tgt) : Nat :=
  let n := ringSize t g
  ringDist n (ringPos n g.head g.headPar) (ringPos n g.tail g.tailPar)

/-- Records of the open write at a target. -/
def openRecs (s : State) (t : Nat) : Nat :=
  match s.ar.open_ with
  | some w => if w.target.toNat = t then w.recs.length else 0
  | none => 0

/-- The record write in flight to a target (R57). -/
def inFlight (s : State) (t : Nat) : Nat :=
  match s.ar.flight.find? fun e => !e.2.doorbell && !e.2.void && decide (e.2.target.toNat = t) with
  | some e => e.2.handles.length
  | none => 0

/-- A target's ring occupancy (R202). -/
def occupancy (s : State) (t : Nat) : Nat := unread t (tgtOf s t) + openRecs s t + inFlight s t

/-- The ring is full (R202). -/
def ringFull (s : State) (t : Nat) : Bool := decide (ringSize t (tgtOf s t) ≤ occupancy s t)

/-- The target has a record in transfer: granted and neither accepted nor refused (R173). -/
def inTransfer (s : State) (t : Nat) : Bool := decide (0 < openRecs s t + inFlight s t)

/-- The running priority (R151, R154). -/
def runPrio (g : Tgt) : Nat := max g.cprio.toNat (if g.autoCprio then topBit g.amask else 0)

/-- The priority test of R154. -/
def eligibleOn (ev : Ev) (g : Tgt) : Bool := decide (max g.threshold.toNat (runPrio g) < ev.snap.cfg.prio.toNat)

/-- The target is in a grace period (R178). -/
def inGrace (s : State) (g : Tgt) : Bool := decide (now s < g.graceEnd)

/-- The event waits for a wake credit at a target (R179, R185). -/
def waitsForCredit (s : State) (ev : Ev) (t : Nat) (g : Tgt) : Bool :=
  !isLocal t && decide (g.pstate = 2) && !inGrace s g && decide ((tnOf s ev.snap.cfg.tenant.toNat).credits = 0)
    && decide (now s < ev.deadline)

/-- The target conditions of R141. -/
def blockedAt (s : State) (ev : Ev) (t : Nat) : Bool :=
  let g := tgtOf s t
  !g.enable || g.unreach || decide (g.pstate = 3) || ringFull s t || waitsForCredit s ev t g || !hasRing t g

/-- The throttle rule for groups (R185, R189). -/
def passedOver (s : State) (ev : Ev) (t : Nat) : Bool :=
  let g := tgtOf s t
  decide (s.ctl.nowakeLevel ≠ 0) && decide (s.ctl.nowakeLevel.toNat ≤ s.pw.throttle.toNat) && !isLocal t
    && decide (g.pstate = 2) && !inGrace s g && decide (now s < ev.deadline)

/-- A member qualifies for a group event (R185). -/
def memberOk (s : State) (ev : Ev) (t : Nat) : Bool :=
  !blockedAt s ev t && eligibleOn ev (tgtOf s t) && !passedOver s ev t

/-- The non-empty slots of a group: slot number and target (R184). -/
def groupMembers (g : Group) : List (Nat × Nat) :=
  (List.range 64).filterMap fun i =>
    let t := (g.slots.getD i 0xFFFF).toNat
    if t = 0xFFFF then none else some (i, t)

/-- The key that R185 minimises: power state, running priority, distance from the pointer. -/
def memberKey (s : State) (ptr : Nat) (m : Nat × Nat) : Nat :=
  let g := tgtOf s m.2
  (g.pstate.toNat * 64 + runPrio g) * 64 + (m.1 + 64 - ptr) % 64

/-- The choice of a member: slot and target, own members before borrowed (R185). -/
def chooseMember (s : State) (ev : Ev) (gi : Nat) : Option (Nat × Nat) :=
  let g := groupOf s gi
  let ok := (groupMembers g).filter fun m => memberOk s ev m.2
  let own := ok.filter fun m => decide ((tgtOf s m.2).tenant = ev.snap.cfg.tenant)
  let pool := if own.isEmpty then ok else own
  leastBy (fun a b => decide (memberKey s g.ptr.toNat a < memberKey s g.ptr.toNat b)) pool

/-- The group an event names. -/
def evGroup (ev : Ev) : Nat := (fld ev.snap.cfg.target 0 14).toNat

/-- The HELD conditions of R141 that concern the target or the group. -/
def targetBlocks (s : State) (ev : Ev) : Bool :=
  if ev.snap.cfg.groupTarget then
    let ms := groupMembers (groupOf s (evGroup ev))
    !(ms.any fun m => memberOk s ev m.2) && (ms.isEmpty || ms.any fun m => blockedAt s ev m.2 || passedOver s ev m.2)
  else blockedAt s ev ev.snap.cfg.target.toNat

/-- VTE STATE (R140, R141). -/
def vteState (s : State) (h : Nat) : Nat :=
  let v := vecOf s h
  if v.evNew.isSome then 4
  else match v.active, v.ev with
    | some _, some _ => 3
    | some _, none => 2
    | none, none => 0
    | none, some ev =>
      if ev.snap.cfg.mask || decide (ev.snap.cfg.prio = 0) || targetBlocks s ev then 4 else 1

/-- `IV_T_STAT` (R201). -/
def tStat (s : State) (t : Nat) : Word :=
  let g := tgtOf s t
  at_ 32 24 (fld g.seq 0 8) ||| bit g.unreach 22 ||| bit g.stalled 21
    ||| bit (ranking s || decide (s.md.mode = .idle)) 20 ||| at_ 32 0 g.tail

/-- IV_MC_IRQ[n] (R63, R88). -/
def mcIrq (s : State) (n : Nat) : Bool :=
  let g := tgtOf s n
  live s && (ranking s || decide (s.md.mode = .idle)) && isLocal n && hasRing n g && g.arm && decide (unread n g ≠ 0)

end Sys2Proof.Machine
end

