-- ==== Sys2Proof/Machine/Streams.lean ====
section
/-! DEFINITION. Streams and the deadline heap (R155, R207), writes under construction and their issue (R211, R191 to R197),
acceptance (R57), batches and doorbells (R212, R216), UNREACH and the watchdog's running (R187, R219). -/

namespace Sys2Proof.Machine

/-- The heap's entries (R207). -/
def heapMax : Nat := 16384

/-- Egress tags (R56). -/
def tagMax : Nat := 256

/-! ### Streams -/

/-- The events in a target's stream, with their handles. -/
def streamOf (s : State) (t : Nat) : List (Nat × Ev) :=
  s.vs.vecs.filterMap fun e =>
    match e.2.ev with
    | some ev => if ev.stream = some (BitVec.ofNat 16 t) then some (e.1, ev) else none
    | none => none

/-- The order of R155: highest PRIO, earliest deadline, lowest handle. -/
def streamBefore (a b : Nat × Ev) : Bool :=
  decide (b.2.snap.cfg.prio.toNat < a.2.snap.cfg.prio.toNat)
    || (decide (a.2.snap.cfg.prio = b.2.snap.cfg.prio)
        && (decide (a.2.deadline < b.2.deadline) || (decide (a.2.deadline = b.2.deadline) && decide (a.1 < b.1))))

/-- Grants of an event at a target have stopped for a re-form (R114). -/
def drainStops (s : State) (t : Nat) (ev : Ev) : Bool :=
  match drainTenant s with
  | none => false
  | some d => decide (ev.snap.cfg.tenant.toNat = d) || decide ((targetSlice s t).map (fun e => e.tenant) = some d)

/-- The head event of a stream (R155), among those whose grants a re-form has not stopped (R26, R114). -/
def streamHead (s : State) (t : Nat) : Option (Nat × Ev) :=
  leastBy streamBefore ((streamOf s t).filter fun e => !drainStops s t e.2)

/-- The deadline with which a stream requests (R155). -/
def streamDeadline (s : State) (t : Nat) : Nat :=
  match streamHead s t with
  | some e => e.2.deadline
  | none => u64Max

/-- A freed heap entry goes to the waiting target with the earliest head deadline, then the lower ID (R207). -/
def heapRefill (s : State) : State :=
  if s.ar.heap.length < heapMax then
    match leastBy (fun a b : BitVec 16 => decide (streamDeadline s a.toNat < streamDeadline s b.toNat)
        || (decide (streamDeadline s a.toNat = streamDeadline s b.toNat) && decide (a.toNat < b.toNat))) s.ar.heapWait with
    | none => s
    | some t => { s with ar := { s.ar with heap := s.ar.heap ++ [t], heapWait := s.ar.heapWait.filter fun x => decide (x ≠ t) } }
  else s

/-- An event joins the stream of a target (R155, R207), and a group event notes its first member (R186). -/
def joinStream (s : State) (h : Nat) (t : Nat) : State :=
  let v := vecOf s h
  match v.ev with
  | none => s
  | some ev =>
    let tb := BitVec.ofNat 16 t
    let first := if ev.snap.cfg.groupTarget then (match ev.first with
      | some f => some f
      | none => some tb) else none
    let s1 := vecPut s h { v with ev := some { ev with stream := some tb, first := first } }
    if s1.ar.heap.any (· = tb) || s1.ar.heapWait.any (· = tb) then s1
    else if s1.ar.heap.length < heapMax then { s1 with ar := { s1.ar with heap := s1.ar.heap ++ [tb] } }
    else { s1 with ar := { s1.ar with heapWait := s1.ar.heapWait ++ [tb] } }

/-! ### Doorbells and the watchdog -/

/-- Egress tags not in use, one reserved by an open remote write. -/
def tagsFree (s : State) : Nat :=
  let res := match s.ar.open_ with
    | some w => if isLocal w.target.toNat then 0 else 1
    | none => 0
  tagMax - s.ar.flight.length - res

/-- The doorbell address is set (R216). -/
def hasDb (g : Tgt) : Bool := decide (g.dbLo ≠ 0) || decide (g.dbHi ≠ 0)

/-- The watchdog of a remote target may run: the ring holds unread records, and the target is reachable and enabled (R219). -/
def wdogRuns (t : Nat) (g : Tgt) : Bool := !isLocal t && decide (unread t g ≠ 0) && !g.unreach && g.enable

/-- The period of a watchdog in nanoseconds, 10 to 1,000,000 µs (R220). -/
def wdogPeriod (s : State) : Nat := 1000 * min (max s.ctl.periodUs.toNat 10) 1000000

/-- A watchdog starts: it takes its fields and holds the instant of its expiry, and a polled target notes its start (R219, R220). -/
def wdogStart (s : State) (g : Tgt) : Tgt :=
  { g with wdog := some (now s + wdogPeriod s), maxResend := s.ctl.maxResend, lastDb := if hasDb g then g.lastDb else now s }

/-- The watchdog follows the conditions under which it runs; a stalled target's does not start again (R219). -/
def wdogFix (s : State) (t : Nat) : State :=
  let g := tgtOf s t
  if wdogRuns t g then (if g.wdog.isSome || g.stalled then s else tgtPut s t (wdogStart s g))
  else (if g.wdog.isSome then tgtPut s t { g with wdog := none } else s)

/-- A doorbell of a target is presented: its watchdog restarts, of a stalled target too (R219). -/
def bellSent (s : State) (t : Nat) : State :=
  let g := { tgtOf s t with lastDb := now s, wdog := none }
  tgtPut s t (if wdogRuns t g then wdogStart s g else g)

/-- The doorbell of a target under its descriptor (R173, R216). -/
def bellOf (s : State) (t : Nat) : EgWrite :=
  let g := tgtOf s t
  { doorbell := true, tenant := g.tenant, addr := g.dbHi ++ g.dbLo, data := wordBytes g.dbData,
    target := BitVec.ofNat 16 t, handles := [], void := false }

/-- A doorbell may be presented: its target's descriptor is not being reloaded (R316). -/
def bellReady (s : State) (b : EgWrite) : Bool := !tdReloading s b.target.toNat

/-- Waiting doorbells take free tags, oldest first, under the descriptors then in force (R173, R209); that of a target whose descriptor is
being reloaded waits (R316). -/
def pumpBells (n : Nat) (s : State) : State :=
  match n with
  | 0 => s
  | k + 1 =>
    match s.ar.bells.find? (bellReady s), freeTag s.ar.flight with
    | some b, some tag =>
      let t := b.target.toNat
      let s1 := { s with ar := { s.ar with bells := s.ar.bells.eraseP (bellReady s) } }
      if !hasDb (tgtOf s t) then pumpBells k s1
      else if tagsFree s = 0 then s
      else pumpBells k (bellSent { s1 with ar := { s1.ar with flight := s1.ar.flight ++ [(tag, bellOf s1 t)] } } t)
    | _, _ => s

/-- One doorbell of a remote target; while UNREACH it is owed (R216). Whether a descriptor that is being reloaded has an address is seen after
the reload (R316). -/
def sendBell (s : State) (t : Nat) : State :=
  let g := tgtOf s t
  if isLocal t || (!hasDb g && !tdReloading s t) then s
  else if g.unreach then tgtPut s t { g with dbOwed := true }
  else pumpBells tagMax { s with ar := { s.ar with bells := s.ar.bells ++ [bellOf s t] } }

/-! ### Writes -/

/-- A LATE record is counted and journaled (R206). -/
def lateRec (s : State) (t : Nat) (o : Out) (issue : Nat) : State :=
  if o.ev.deadline < issue then
    let s1 := { s with cnt := { s.cnt with late := s.cnt.late + 1 } }
    let ten := o.ev.snap.cfg.tenant
    jnlRated s1 ten.toNat 0x42 (ten.setWidth 24) issue
      [(4, w32 o.h), (5, w32 t), (6, w32 o.ev.deadline), (7, w32hi o.ev.deadline)]
  else s

/-- A COALESCED record adds COUNT - 1 to the saved events (R231), at each issue (assumption log 62). -/
def coalRec (s : State) (o : Out) : State :=
  if o.ev.wasHeld && decide (1 < o.ev.count) then
    { s with cnt := { s.cnt with coalesced := s.cnt.coalesced + w32 (o.ev.count - 1) } }
  else s

/-- The bytes of a write: its records with consecutive SEQ, under the keys in force at the issue (R194, R196). -/
def writeBytes (s : State) (g : Tgt) (recs : List Out) (i issue : Nat) : List Byte :=
  match recs with
  | [] => []
  | o :: r => recBytes (keyOf s o.ev.snap.cfg.tenant.toNat) o (g.seq + w32 i) issue (!g.tailPar) ++ writeBytes s g r (i + 1) issue

/-- The active record of a vector is accepted (R145 row 6). -/
def acceptVec (s : State) (h : Nat) : State :=
  let v := vecOf s h
  match v.active with
  | some a => vecPut s h { v with active := some { a with accepted := true } }
  | none => s

/-- An egress outcome is gathered for the vector's next round, for as long as a self-test or a fatal fault stops its lane (R142, R143, R165,
R318). -/
def outcomeGather (s : State) (h : Nat) (ok : Bool) : State := enqueue (vecPut s h { vecOf s h with outcome := some ok }) h

/-- The lane of a vector takes no round: a self-test holds it, or a fatal fault has been detected (R165, R318). -/
def laneStopped (s : State) (h : Nat) : Bool := laneHeld s h || s.flt.fatal.isSome

/-- An egress outcome reaches its vector's lane, in a round that is compared like any other: it acts where the round commits, and is gathered
where it does not (R142, R143 step 1, R164, R165, R318). -/
def outcomeAt (s : State) (h : Nat) (ok : Bool) (act : State → Nat → State) : State :=
  if laneStopped s h then outcomeGather s h ok
  else
    let x := roundCompare s (BitVec.ofNat 24 h) .agree
    if x.2 then act x.1 h else outcomeGather x.1 h ok

/-- The record of a vector is accepted: its counters at once (R57), its state by its lane (R142, R145 row 6). An entry off chip is read, so that
it takes its new fields (R118, R131). -/
def acceptOne (t : Nat) (s : State) (h : Nat) : State :=
  let s1 := outcomeAt s h true acceptVec
  let s2 := addDelivered { s1 with cnt := { s1.cnt with delivered := s1.cnt.delivered + 1 } } h t
  if (vteOn s2 h).isNone && (handleSlice s2 h).isSome then fetchVte s2 h else s2

/-- The records of a write are accepted: TAIL, SEQ, DELIVERED and the watchdog (R57, R194, R219). -/
def acceptRecs (s : State) (t : Nat) (hs : List Nat) : State :=
  let s1 := forEach hs s (acceptOne t)
  let g := tgtOf s1 t
  let n := ringSize t g
  let p := g.tail.toNat + hs.length
  let wrap := decide (n ≤ p)
  wdogFix (tgtPut s1 t { g with tail := BitVec.ofNat 20 (if wrap then p - n else p), tailPar := g.tailPar != wrap,
                                seq := g.seq + w32 hs.length }) t

/-- The trace strobe pulses for a record written; pulses less than 20 ns apart merge (R84). It is on in Run while SB_TRACE is 1 and no
frame is on the sideband. -/
def strobe (s : State) : State :=
  if awake s && s.ctl.sbTrace && !sbBusy s then
    let merged := match s.ar.strobeAt with
      | some t => decide (now s < t + 20)
      | none => false
    { s with ar := { s.ar with strobes := if merged then s.ar.strobes else s.ar.strobes + 1, strobeAt := some (now s) } }
  else s

/-- The open write closes and is issued on the egress port, or written to local ring memory (R211); one whose target's descriptor is being
reloaded waits for the reload (R316). -/
def closeWrite (s : State) : State :=
  match s.ar.open_ with
  | none => s
  | some w =>
    let t := w.target.toNat
    if tdReloading s t then s else
    let g := tgtOf s t
    let issue := now s
    let bytes := writeBytes s g w.recs 0 issue
    let s1 := forEach w.recs { s with ar := { s.ar with open_ := none } } fun x o => strobe (coalRec (lateRec x t o issue) o)
    let hs := w.recs.map fun o => o.h
    if isLocal t then
      let a := g.baseLo.toNat + 32 * g.tail.toNat
      acceptRecs { s1 with ts := { s1.ts with lmem := Memory.writeBytes s1.ts.lmem a bytes } } t hs
    else
      match freeTag s1.ar.flight with
      | some tag =>
        let e : EgWrite := { doorbell := false, tenant := g.tenant, addr := (g.baseHi ++ g.baseLo) + BitVec.ofNat 64 (32 * g.tail.toNat),
                             data := bytes, target := w.target, handles := hs, void := false }
        { s1 with ar := { s1.ar with flight := s1.ar.flight ++ [(tag, e)] } }
      | none => s

/-- The open write of a target closes. -/
def closeWriteOf (s : State) (t : Nat) : State :=
  match s.ar.open_ with
  | some w => if w.target.toNat = t then closeWrite s else s
  | none => s

/-- A target's batch ends: its open write closes and the doorbell rule is applied (R212, R216). -/
def batchEnd (s : State) (t : Nat) : State :=
  match (tgtOf s t).batch with
  | none => s
  | some b =>
    let s1 := closeWriteOf s t
    let g := tgtOf s1 t
    let s2 := tgtPut s1 t { g with batch := none }
    if !isLocal t && (b.wasEmpty || g.rearm) then sendBell (tgtPut s2 t { g with batch := none, rearm := false }) t
    else s2

/-- Every open batch ends (R214, R365). -/
def batchEndAll (s : State) : State :=
  forEach (s.ts.targets.filterMap fun e => if e.2.batch.isSome then some e.1 else none) s batchEnd

/-- A stream that holds no event leaves the heap, with its wait counter at 0 (assumption log 71), and its target's batch ends (R207, R212). -/
def settleStream (s : State) (t : Nat) : State :=
  if (streamOf s t).isEmpty then
    let tb := BitVec.ofNat 16 t
    let inHeap := s.ar.heap.any (· = tb)
    let s1 := { s with ar := { s.ar with heap := s.ar.heap.filter fun x => decide (x ≠ tb),
                                         heapWait := s.ar.heapWait.filter fun x => decide (x ≠ tb) } }
    let s2 := if inHeap then tgtPut s1 t { tgtOf s1 t with wait := 0 } else s1
    heapRefill (batchEnd s2 t)
  else s

/-- The vector's event leaves its stream and returns to vector state (R155). -/
def leaveStream (s : State) (h : Nat) : State :=
  let v := vecOf s h
  match v.ev with
  | none => s
  | some ev =>
    match ev.stream with
    | none => s
    | some t => settleStream (vecPut (noteBusy s) h { v with ev := some { ev with stream := none } }) t.toNat

/-- The vector's event is dropped from vector state. -/
def dropEv (s : State) (h : Nat) : State :=
  let s1 := leaveStream s h
  vecPut s1 h { vecOf s1 h with ev := none }

/-- An epoch lies behind another within the window of 32,768 (R133). -/
def epochOlder (e ref : BitVec 16) : Bool := decide (0 < (ref - e).toNat) && decide ((ref - e).toNat < 32768)

/-- A message of a vector is CHECKED under an EPOCH older than a given one. -/
def checkedOlder (s : State) (h : Nat) (ep : BitVec 16) : Bool :=
  s.vat.slots.any fun x => match x.st with
    | .checked k sn => decide (k = h) && epochOlder sn.epoch ep
    | _ => false

/-- Something of a vector's old generation is left: an event, a record or a CHECKED message (R136). -/
def oldLeft (s : State) (h : Nat) : Bool :=
  let v := vecOf s h
  v.oldGen && (v.ev.isSome || v.active.isSome || checkedOlder s h v.genEpoch)

/-- A new generation becomes the vector's own once nothing of the old one is left (R136). -/
def promote (s : State) (h : Nat) : State :=
  let v := vecOf s h
  if v.oldGen && !oldLeft s h then vecPut s h { v with ev := v.evNew, evNew := none, oldGen := false } else s

/-! ### Unreachable targets -/

/-- The events held at a target: those that name it, and those in its stream (R188). -/
def heldAt (s : State) (t : Nat) : Nat :=
  (s.vs.vecs.filter fun e =>
    match e.2.ev with
    | some ev => (!ev.snap.cfg.groupTarget && decide (ev.snap.cfg.target.toNat = t)) || decide (ev.stream = some (BitVec.ofNat 16 t))
    | none => false).length

/-- UNREACH is set at a target with its cause, and a doorbell that waits for a tag is owed (R216); TARGET_UNREACH is journaled when it goes from 0 to 1 (R72, R57, R188). -/
def setUnreach (s : State) (t cause : Nat) (host : Word) : State :=
  let g := tgtOf s t
  let byHost := g.hostUnreach || decide (cause ≤ 3)
  if isLocal t then s
  else if g.unreach then tgtPut s t { g with hostUnreach := byHost }
  else
    let n := heldAt s t
    let bells := s.ar.bells.filter fun b => decide (b.target.toNat ≠ t)
    let owed := decide (bells.length ≠ s.ar.bells.length)
    let s0 := { s with ar := { s.ar with bells := bells } }
    let s1 := tgtPut s0 t { g with unreach := true, hostUnreach := byHost, wdog := none, dbOwed := g.dbOwed || owed }
    let s2 := batchEnd s1 t
    jnl s2 0x41 (BitVec.ofNat 24 (cause * 65536 + t)) (now s) [(4, w32 g.tenant.toNat), (5, host), (6, w32 n)]

/-- UNREACH clears: the watchdog starts, and a doorbell that is owed is sent if the ring holds unread records (R57, R72). -/
def clearUnreach (s : State) (t : Nat) (always : Bool) : State :=
  let g := tgtOf s t
  let s1 := wdogFix (tgtPut s t { g with unreach := false, hostUnreach := false, dbOwed := false }) t
  if (g.dbOwed || always) && decide (unread t g ≠ 0) then sendBell s1 t else s1

/-- The ring restarts (R173, R194, R197). An open batch goes on with its was-empty mark, and an outstanding rearm and a full episode end
(assumption log 77). -/
def ringRestart (g : Tgt) : Tgt :=
  { g with head := 0, headPar := false, tail := 0, tailPar := false, seq := 0, stalled := false, resend := 0, wdog := none,
           rearm := false, dbOwed := false, fullEpisode := false }

end Sys2Proof.Machine
end

