-- ==== Sys2Proof/Machine/Couch.lean ====
section
/-! DEFINITION. The coalescing stage (R223 to R234) and the instant calendar (R242). -/

namespace Sys2Proof.Machine

/-- EFF_MODE of a group (R223, R225, R234); without an allocated timer it cannot run hold-off (R30, R97). -/
def effMode (s : State) (g : Nat) : Nat :=
  let c := couchOf s g
  if !s.ctl.couchEn then 0
  else if 2 ≤ c.mode.toNat then 2
  else if decide (c.mode = 1) && decide (c.timer ≠ 0) then 1
  else 0

/-- The group that an event of a snapshot enters; none where the tenant's slice owns no group (R120, R226). -/
def couchFor (s : State) (c : VteCfg) : Option Nat :=
  match sliceOf s c.tenant.toNat with
  | none => none
  | some e => if e.couchCount = 0 then none else some c.couch.toNat

/-- A group holds an event (R226). -/
def evHeldBy (g : Nat) (ev : Ev) : Bool := !ev.released && decide (ev.couch.toNat = g)

/-- The events a group holds. -/
def couchHeld (s : State) (g : Nat) : List Ev :=
  s.vs.vecs.flatMap fun e => ((e.2.ev.toList) ++ (e.2.evNew.toList)).filter (evHeldBy g)

/-- The oldest event a group holds (R229); of equal times the first by handle (assumption log 71). -/
def oldestHeld (s : State) (g : Nat) : Option Ev := leastBy (fun a b => decide (a.time < b.time)) (couchHeld s g)

/-- An event leaves its group's hold. -/
def evRelease (g : Nat) (ev : Ev) : Ev := if evHeldBy g ev then { ev with released := true } else ev

/-- A release: every event the group holds may go, and HELD_COUNT is 0 (R226). -/
def couchRelease (s : State) (g : Nat) : State :=
  let s1 := { s with vs := { s.vs with vecs := s.vs.vecs.map fun e =>
    (e.1, { e.2 with ev := e.2.ev.map (evRelease g), evNew := e.2.evNew.map (evRelease g) }) } }
  couchPut s1 g { couchOf s1 g with held := 0 }

/-- The end of a hold-off window opened at an instant. -/
def windowEnd (c : Couch) (t : Nat) : Nat := t + 8 * c.holdoff.toNat

/-- The hold-off decision (R228); merged is the earliest TIME merged in this round. -/
def holdoffDecision (s : State) (g : Nat) (merged : Option Nat) : State :=
  let c := couchOf s g
  let s1 := match c.window with
    | some e =>
      if e ≤ now s then
        if c.held ≠ 0 then
          let s2 := couchRelease s g
          couchPut s2 g { couchOf s2 g with window := some (windowEnd c e) }
        else couchPut s g { c with window := none }
      else s
    | none => s
  match (couchOf s1 g).window, merged with
  | none, some t =>
    let s2 := couchRelease s1 g
    couchPut s2 g { couchOf s2 g with window := some (windowEnd c t) }
  | _, _ => s1

/-- The count limit (R229, R28). -/
def countLimit (s : State) (g : Nat) : Nat :=
  let c := couchOf s g
  let n := if c.countMax = 0 then 1024 else c.countMax.toNat
  match oldestHeld s g with
  | none => n
  | some f =>
    if decide (0 < s.pw.throttle.toNat) && c.elastic && s.ctl.elasticEn && (s.ctl.budgets.getD f.snap.cfg.cls.toNat 0).getLsbD 31 then
      min (n * 2 ^ s.pw.throttle.toNat) 1024
    else n

/-- The instant at which a count/time group that holds events releases by time: its limit or its oldest event's deadline (R229, R242). -/
def couchInstant (s : State) (g : Nat) : Option Nat :=
  match oldestHeld s g with
  | none => none
  | some f =>
    let c := couchOf s g
    some (if c.timeMax = 0 then f.deadline else min f.deadline (f.time + 8 * c.timeMax.toNat))

/-- The count/time decision (R229). -/
def countTimeDecision (s : State) (g : Nat) : State :=
  let c := couchOf s g
  if c.held = 0 then s
  else match oldestHeld s g with
    | none => if countLimit s g ≤ c.held.toNat then couchRelease s g else s
    | some f =>
      if decide (countLimit s g ≤ c.held.toNat) || (decide (c.timeMax ≠ 0) && decide (f.time + 8 * c.timeMax.toNat ≤ now s))
          || decide (f.deadline ≤ now s) then couchRelease s g
      else s

/-- An entry leaves the calendar; the oldest waiting entry takes a freed place (R242, assumption log 71). -/
def calLeave (s : State) (id : Nat) : State :=
  if s.vs.calendar.any (· = id) then
    let cal := s.vs.calendar.filter (· ≠ id)
    match s.vs.sweepList with
    | [] => { s with vs := { s.vs with calendar := cal } }
    | x :: r => { s with vs := { s.vs with calendar := cal ++ [x], sweepList := r } }
  else if s.vs.sweepList.any (· = id) then
    { s with vs := { s.vs with sweepList := s.vs.sweepList.filter (· ≠ id) } }
  else s

/-- The calendar's entries (R242). -/
def calMax : Nat := 65536

/-- An entry enters the calendar, or the sweep list while the calendar is full (R242). -/
def calEnter (s : State) (id : Nat) : State :=
  if s.vs.calendar.any (· = id) || s.vs.sweepList.any (· = id) then s
  else if s.vs.calendar.length < calMax then { s with vs := { s.vs with calendar := s.vs.calendar ++ [id] } }
  else { s with vs := { s.vs with sweepList := s.vs.sweepList ++ [id] } }

/-- The calendar entry of a coalescing group. -/
def calCouch (g : Nat) : Nat := 16777216 + g

/-- A count/time group stands in the calendar while it holds events (R242). -/
def couchCalendar (s : State) (g : Nat) : State :=
  if decide (effMode s g = 2) && !(couchHeld s g).isEmpty then calEnter s (calCouch g) else calLeave s (calCouch g)

/-- A group's decision under the fields in force (R227). -/
def couchDecide (s : State) (g : Nat) (merged : Option Nat) : State :=
  let m := effMode s g
  let s1 := if m = 1 then holdoffDecision s g merged
    else if m = 2 then countTimeDecision s g
    else
      let s2 := couchRelease s g
      couchPut s2 g { couchOf s2 g with window := none }
  couchCalendar s1 g

/-- A merge's contribution to HELD_COUNT, which saturates at 2,047 (R223, R226). -/
def couchCount (s : State) (g n : Nat) : State :=
  let c := couchOf s g
  couchPut s g { c with held := satAdd c.held n }

/-- The changes a group entry takes: a change of EFF_MODE releases what is held and starts the new mode afresh (R232). -/
def couchChange (s : State) (g : Nat) (c : Couch) : State :=
  let before := effMode s g
  let s1 := couchPut s g c
  if effMode s1 g = before then couchCalendar s1 g
  else
    let s2 := couchRelease s1 g
    couchCalendar (couchPut s2 g { couchOf s2 g with window := none, held := 0 }) g

end Sys2Proof.Machine
end

