-- ==== Sys2Proof/Machine/Proposals.lean ====
section
/-! DEFINITION. The proposal of each party: its layout (R263), its records (R272), its end (R268), the key check value (R273)
and what the mirror shows (R266, R273). -/

namespace Sys2Proof.Machine

/-- The DC kind of a proposed stage (R263). -/
def propKind (d : PartyUnit) : Nat := (fld (wd16 d.bound 0) 0 4).toNat

/-- The key that words 2 to 5 of a stage hold, K[0] in bits [7:0] (R263). -/
def stageKey (w : Words16) : BitVec 128 := wd16 w 5 ++ wd16 w 4 ++ wd16 w 3 ++ wd16 w 2

/-- The eight ASCII bytes "IVSYNKCV". -/
def kcvText : List Byte := [0x49, 0x56, 0x53, 0x59, 0x4E, 0x4B, 0x43, 0x56]

/-- The key check value of a staged key (R273). -/
def keyCheck (w : Words16) : Word := sipTag (stageKey w) kcvText

/-- The digest in words 1 to 12 of a stage (R263). -/
def stageDigest (w : Words16) : Digest := Vector.ofFn fun i : Fin 12 => wd16 w (i.val + 1)

/-- The tenant that a stage of kind 4 or 5 names (R263). -/
def stageTenant (w : Words16) : Nat :=
  if fld (wd16 w 0) 0 4 = 4 then (fld (wd16 w 13) 0 12).toNat else (fld (wd16 w 1) 0 12).toNat

/-- The number of a party in the records of R272. -/
def partyNum (p : Party) : Nat :=
  match p with
  | .M => 1
  | .S => 2

/-- Word 6 of a dual-control record (R272). -/
def dcWord6 (d : PartyUnit) : Word :=
  let k := propKind d
  if k ≤ 3 then wd16 d.bound 1 else if k ≤ 5 then w32 (stageTenant d.bound) else 0

/-- Word 7 of DC_PROPOSED and DC_APPLIED (R272). -/
def dcWord7 (d : PartyUnit) : Word :=
  let k := propKind d
  if k ≤ 3 then wd16 d.bound 2 else if k = 5 then keyCheck d.bound else wd16 d.bound 1

/-- A dual-control record: code, the party's proposal, ARG [19:16], and whether words 7 and 8 are carried (R272). -/
def jnlDc (s : State) (p : Party) (d : PartyUnit) (code : Byte) (cause : Nat) (w7 : Bool) (result : Nat) : State :=
  jnl s code (BitVec.ofNat 24 (partyNum p * 1048576 + cause * 65536 + propKind d)) (now s)
    [(4, d.idLo), (5, d.idHi), (6, dcWord6 d), (7, if w7 then dcWord7 d else 0), (8, w32 result)]

/-- A stage whose key words are zero (R268). -/
def zeroKeyWords (w : Words16) : Words16 :=
  Vector.ofFn fun i : Fin 16 => if decide (2 ≤ i.val) && decide (i.val ≤ 5) then 0 else wd16 w i.val

/-- A proposal moves to EMPTY: identifiers and mirror read zero, and a kind 5 stage loses its key words (R266, R268). -/
def propEnd (s : State) (p : Party) : State :=
  let d := dcOf s p
  dcPut (noteBusy s) p { d with st := .empty, idLo := 0, idHi := 0, bound := Vector.replicate 16 0,
                                stage := if propKind d = 5 then zeroKeyWords d.stage else d.stage }

/-- An OPEN proposal ends with a flag at its proposer and a record (R268). -/
def propClose (s : State) (p : Party) (flag : Nat) (code : Byte) (cause : Nat) : State :=
  let d := dcOf s p
  if d.st = .open then jnlDc (dcRaise (propEnd s p) p flag) p d code cause false 0 else s

/-- A committed proposal is applied or refused (R268). -/
def propDone (s : State) (p : Party) (ok : Bool) : State :=
  let d := dcOf s p
  if d.st = .empty then s
  else jnlDc (dcRaise (propEnd s p) p (if ok then dcApplied else dcRefused)) p d 0x63 0 true (if ok then 0 else 1)

/-- OWN_STATE and PEER_STATE codes (R271). -/
def PropSt.code (x : PropSt) : BitVec 4 :=
  match x with
  | .empty => 0
  | .open => 1
  | .approved => 2

/-- `IV_DC_STATUS` and `IV_S_DC_STATUS` (R271). -/
def dcStatusWord (s : State) (p : Party) : Word :=
  (dcOf s p).status.word (at_ 32 20 (dcOf s p).st.code ||| at_ 32 16 (dcOf s (otherParty p)).st.code)

/-- A word of the mirror that a party reads: the other party's proposed stage (R266, R273). -/
def mirrorWord (s : State) (p : Party) (i : Nat) : Word :=
  let d := dcOf s (otherParty p)
  if d.st = .empty then 0
  else if propKind d = 5 then
    (if i ≤ 1 then wd16 d.bound i else if i = 6 then keyCheck d.bound else 0)
  else wd16 d.bound i

end Sys2Proof.Machine
end

