-- ==== Sys2Proof/Machine/Entries.lean ====
section
/-! DEFINITION. Changes of entries: what each caller may change (R119, R172, R184, R224, R264), the checks (R120, R171, R184,
R225, R270), and what a change does at its boundary (R129, R133 to R137, R173, R184, R232). -/

namespace Sys2Proof.Machine

/-! ### Homes and reach -/

/-- The entry's slice is under re-form drain; a slice view is its tenant's (R114, R254, R378). -/
def inDrain (s : State) (kind i : Nat) : Bool :=
  match drainTenant s with
  | none => false
  | some t =>
    match sliceOf s t with
    | none => false
    | some e =>
      if kind = 1 then sliceHas e i
      else if kind = 2 then decide (e.targetBase ≤ i) && decide (i < e.targetBase + e.targetCount)
      else if kind = 3 then decide (e.groupBase ≤ i / 4) && decide (i / 4 < e.groupBase + e.groupCount)
      else if kind = 4 then decide (e.couchBase ≤ i) && decide (i < e.couchBase + e.couchCount)
      else decide (kind = 6) && decide (i = t)

/-- The entry has a home under the formed image (R254). -/
def hasHome (s : State) (kind i : Nat) : Bool :=
  if kind = 1 then decide (i < 4096) || (handleSlice s i).isSome
  else if kind = 2 then decide (i < (geometry s).targetTop)
  else if kind = 3 then decide (i < 4 * (geometry s).groupTop)
  else if kind = 4 then decide (i < (geometry s).couchTop)
  else false

/-- The tenant whose slice holds an entry; none for an entry in no slice. -/
def entryOwner (s : State) (kind i : Nat) : Option Nat :=
  ((if kind = 1 then handleSlice s i
    else if kind = 2 then targetSlice s i
    else if kind = 3 then groupSlice s (i / 4)
    else couchSlice s i).map fun e => e.tenant)

/-- A TD with TENANT 0 in another tenant's range (R171). -/
def tdWithdrawn (s : State) (t : Nat) (g : Tgt) : Bool :=
  decide (g.tenant = 0) && (match entryOwner s 2 t with
    | some o => decide (o ≠ 0)
    | none => false)

/-- The entry is one of a tenant's own (R254): a VTE of its slice that its TENANT names (R119), a TD that its TENANT names (R172), or a group
of its slice; a TD withdrawn to TENANT 0 is nobody's (R171, R376). -/
def tenantOwns (s : State) (t kind i : Nat) : Bool :=
  if kind = 1 then decide (entryOwner s 1 i = some t) && decide ((snapAt s i).cfg.tenant.toNat = t)
  else if kind = 2 then decide (i < (geometry s).targetTop) && decide ((tgtOf s i).tenant.toNat = t) && !tdWithdrawn s i (tgtOf s i)
  else decide (entryOwner s kind i = some t)

/-- The entry that a unit names lies in its caller's reach (R251, R254). -/
def eaReach (s : State) (u : EaId) (kind i : Nat) : Bool :=
  match u with
  | .mgmt => if kind = 6 then (sliceOf s i).isSome else hasHome s kind i && !inDrain s kind i
  | .tw t =>
    if kind = 6 then (sliceOf s t.toNat).isSome && !inDrain s 6 t.toNat
    else decide (1 ≤ kind) && decide (kind ≤ 4) && tenantOwns s t.toNat kind i && !inDrain s kind i

/-! ### Reports -/

/-- A refused or rejected entry is reported: CFGREJ and CFG_REJECT with its caller code (R120, R340). -/
def entryReject (s : State) (kind i reason code : Nat) : State :=
  jnlCfgReject (raiseStatus s stCfgRej) i kind reason code ((entryOwner s kind i).getD 0)

/-- The caller code of a change (R340): 0 management port, 1 tenant window, 2 two-party change. -/
def changeCode (c : Change) : Nat :=
  match c.u with
  | none => 2
  | some .mgmt => 0
  | some (.tw _) => 1

/-- A change completes or is refused: its unit or its proposal hears of it (R255, R256, R268). -/
def changeReport (s : State) (c : Change) (ok : Bool) : State :=
  match c.u with
  | none => propDone s .M ok
  | some u =>
    let s1 := eaPut s u { eaOf s u with busy := none }
    let s2 := eaRaise s1 u (bit true (if ok then eaDone else eaRefused))
    match u, ok with
    | .tw t, false => twRaise s2 t.toNat twCfgRej
    | _, _ => s2

/-- A change is refused by its checks (R120, R268). -/
def changeRefused (s : State) (c : Change) (kind i : Nat) : State :=
  let reason := match c.caller with
    | .party _ => 6
    | _ => 1
  changeReport (entryReject s kind i reason (changeCode c)) c false

/-- An APPLY that a tenant no longer reaches, because the entry turns out to be another's: RANGE, and nothing else (R119, R254). -/
def changeForeign (s : State) (c : Change) : State :=
  match c.u with
  | none => s
  | some u => eaRaise (eaPut s u { eaOf s u with busy := none }) u (bit true eaRange)

/-- A change came through a tenant window to whose tenant the entry does not belong, whoever wrote it there (R119, R134, R251, R270). -/
def callerForeign (c : Change) (e : VteCfg) : Bool :=
  match c.u with
  | some (.tw t) => decide (e.tenant ≠ t)
  | _ => false

/-! ### Vector table entries -/

/-- A bit of a FIELD_MASK. -/
def mbit (m : Word) (i : Nat) : Bool := m.getLsbD i

/-- A target is among a tenant's own destinations (R119). -/
def ownDest (s : State) (t : Nat) (group : Bool) (x : BitVec 16) : Bool :=
  if group then decide (fld x 14 2 = 0) && tenantOwns s t 3 (4 * x.toNat) else tenantOwns s t 2 x.toNat

/-- The change retires the vector (R270). -/
def retires (s : State) (h : Nat) (c : Caller) (n : VteCfg) : Bool :=
  match c with
  | .party m => mbit m 8 && decide (n.tenant = 0) && decide (entryOwner s 1 h ≠ some 0)
  | _ => false

/-- The fields that a caller's staged words change (R119, R264, R270). -/
def vteTake (s : State) (h : Nat) (c : Caller) (o n : VteCfg) : VteCfg :=
  match c with
  | .mgmt =>
    let scope := match s.fu.formed with
      | some f => f.dcScope.getLsbD 4
      | none => false
    { n with tenant := o.tenant,
             originCheck := if scope then o.originCheck else n.originCheck,
             originPort := if scope then o.originPort else n.originPort,
             originRid := if scope then o.originRid else n.originRid }
  | .tenant t =>
    let dest := ownDest s t.toNat n.groupTarget n.target
    { o with prio := n.prio, mask := n.mask, cls := n.cls,
             target := if dest then n.target else o.target,
             groupTarget := if dest then n.groupTarget else o.groupTarget,
             couch := if tenantOwns s t.toNat 4 n.couch.toNat then n.couch else o.couch }
  | .party m =>
    let r := retires s h c n
    { kind := if mbit m 9 then n.kind else o.kind, tenant := if mbit m 8 then n.tenant else o.tenant,
      pin := if mbit m 7 then n.pin else o.pin,
      groupTarget := if mbit m 6 && !r then n.groupTarget else o.groupTarget,
      cls := if mbit m 5 then n.cls else o.cls, prio := if mbit m 4 then n.prio else o.prio,
      polarity := if mbit m 3 then n.polarity else o.polarity, level := if mbit m 2 then n.level else o.level,
      mask := if mbit m 1 then n.mask else o.mask, valid := if mbit m 0 then n.valid else o.valid,
      couch := if mbit m 11 && !r then n.couch else o.couch,
      target := if mbit m 10 && !r then n.target else o.target,
      originCheck := if mbit m 14 then n.originCheck else o.originCheck,
      originPort := if mbit m 13 then n.originPort else o.originPort,
      originRid := if mbit m 12 then n.originRid else o.originRid,
      data := if mbit m 15 then n.data else o.data }

/-- KIND fits the handle (R116, R120). -/
def kindFits (s : State) (h : Nat) (k : BitVec 4) : Bool :=
  if h < 3840 then decide (k = 0)
  else if h < 4096 then decide (k = 5)
  else decide (1 ≤ k.toNat) && decide (k.toNat ≤ 4) && (decide (k ≠ 4) || decide (entryOwner s 1 h = some 0))

/-- LEVEL fits KIND (R120). -/
def levelFits (k : BitVec 4) (level : Bool) : Bool :=
  if k = 3 then level else if k = 0 then true else !level

/-- TARGET lies in the range of the slice of VTE TENANT (R120). -/
def targetFits (e : Slice) (c : VteCfg) : Bool :=
  let x := c.target.toNat
  if c.groupTarget then decide (fld c.target 14 2 = 0) && decide (e.groupBase ≤ x) && decide (x < e.groupBase + e.groupCount)
  else decide (e.targetBase ≤ x) && decide (x < e.targetBase + e.targetCount)

/-- COUCH lies in the coalescing range of the slice of VTE TENANT, or that slice owns none (R120). -/
def couchFits (e : Slice) (c : VteCfg) : Bool :=
  decide (e.couchCount = 0) || (decide (e.couchBase ≤ c.couch.toNat) && decide (c.couch.toNat < e.couchBase + e.couchCount))

/-- The checks of R120, with the waiver of R270. -/
def vteCheck (s : State) (h : Nat) (c : VteCfg) (retire : Bool) : Bool :=
  decide (c.kind.toNat ≤ 5) &&
    (!c.valid || (kindFits s h c.kind && levelFits c.kind c.level &&
      match sliceOf s c.tenant.toNat with
      | none => false
      | some e => retire || (targetFits e c && couchFits e c)))

/-- Epochs of what a vector has inside Ivsyn: events, a record in transfer, messages in CHECKED (R133, R138). -/
def epochsInside (s : State) (h : Nat) : List (BitVec 16) :=
  let v := vecOf s h
  (v.ev.toList.map fun e => e.snap.epoch) ++ (v.evNew.toList.map fun e => e.snap.epoch)
    ++ (match v.active with
      | some a => if a.accepted then [] else [a.ev.snap.epoch]
      | none => [])
    ++ s.vat.slots.filterMap fun x => match x.st with
      | .checked k sn => if k = h then some sn.epoch else none
      | _ => none

/-- The change cannot complete yet (R133, R136). -/
def vteWaits (s : State) (h : Nat) (e : Vte) (n : VteCfg) : Bool :=
  (epochsInside s h).any (fun x => decide (32767 ≤ (e.epoch - x).toNat)) || (oldLeft s h && decide (n.tenant ≠ e.cfg.tenant))

/-- The COUNT of an event that may be absent. -/
def evCount (e : Option Ev) : Nat :=
  match e with
  | some x => x.count
  | none => 0

/-- VALID 0 discards every event not granted, and counts it in DROPPED (R137). -/
def vteDiscard (s : State) (h : Nat) : State :=
  let v := vecOf s h
  let n := evCount v.ev + evCount v.evNew
  let s1 := dropEv s h
  let v1 := vecOf s1 h
  let s2 := vecPut s1 h { v1 with evNew := none, lineOn := if h < 4096 then v1.lineOn else false,
                                  oldGen := v1.oldGen && v1.active.isSome }
  addDropped s2 h n

/-- Two configurations name the same target or group. -/
def sameTarget (a b : VteCfg) : Bool := decide (a.target = b.target) && decide (a.groupTarget = b.groupTarget)

/-- An event takes a new snapshot; a new TARGET forgets the first member (R135, R186). -/
def evResnap (sn : Snap) (ev : Ev) : Ev :=
  if sameTarget ev.snap.cfg sn.cfg then { ev with snap := sn } else { ev with snap := sn, first := none }

/-- A vector's event leaves its stream where a change of its TARGET or GROUP_TARGET follows (R186, R190). -/
def vteRetarget (s : State) (h : Nat) (n : VteCfg) : State :=
  let v := vecOf s h
  match v.ev with
  | none => s
  | some ev => if v.oldGen || sameTarget ev.snap.cfg n then s else leaveStream s h

/-- The vector's generations at a boundary (R135, R136): without a change of TENANT the present generation is re-snapshot; with one,
what is inside becomes the old generation. -/
def vteGens (s : State) (h : Nat) (sn : Snap) (sameTenant : Bool) : State :=
  if sameTenant then
    let s1 := vteRetarget s h sn.cfg
    let v := vecOf s1 h
    vecPut s1 h (if v.oldGen then { v with evNew := v.evNew.map (evResnap sn) } else { v with ev := v.ev.map (evResnap sn) })
  else
    let v := vecOf s h
    vecPut s h { v with oldGen := v.ev.isSome || v.active.isSome || checkedOlder s h sn.epoch, genEpoch := sn.epoch }

/-- The pin of an entry at an APPLY, and whether it was refused (R129). An APPLY that leaves PIN at 1 on an entry whose pin is still refused asks
for it again, and is reported again (DESIGN CHOICE, assumption log 86). -/
def pinChange (s : State) (h : Nat) (pin : Bool) : State × Bool :=
  if h < 4096 then (s, false)
  else if pin then
    if s.vs.pinned.any (· = h) then (s, false)
    else if s.vs.pinned.length < (geometry s).pinMax then ({ s with vs := { s.vs with pinned := s.vs.pinned ++ [h] } }, false)
    else (s, true)
  else ({ s with vs := { s.vs with pinned := s.vs.pinned.filter (· ≠ h) } }, false)

/-! ### Outcomes of records -/

/-- COUNT saturates at 65,535 (R128). -/
def countSat (n : Nat) : Nat := min n 65535

/-- The event of a refused record over the vector's present event (R145 rows 7 and 8); the merged event is held as the refused one was (assumption
log 62). -/
def refusedEv (old : Ev) (p : Option Ev) : Ev :=
  match p with
  | none => old
  | some e =>
    { e with time := old.time, deadline := old.deadline, cls := old.cls, count := countSat (old.count + e.count),
             truncated := old.truncated || e.truncated, couch := old.couch, released := old.released, wasHeld := old.wasHeld || e.wasHeld,
             first := if sameTarget old.snap.cfg e.snap.cfg then old.first else none }

/-- A refused event takes the entry's present snapshot, on chip or off, unless TENANT has changed since (R135, R136, R162). -/
def refusedSnap (s : State) (h : Nat) (ev : Ev) : Ev :=
  let sn := snapAt s h
  if sn.cfg.tenant = ev.snap.cfg.tenant then evResnap sn ev else ev

/-- The active record of a vector returns to pending (R145 rows 7 and 8, R151), whatever VALID is by now (assumption log 62). -/
def returnOne (s : State) (h : Nat) : State :=
  let v := vecOf s h
  match v.active with
  | none => s
  | some a =>
    let t := a.target.toNat
    let g := tgtOf s t
    let s1 := tgtPut s t { g with amask := clrBit g.amask a.prio.toNat }
    let s2 := match v.ev with
      | some e => if e.stream.isSome then leaveStream s1 h else s1
      | none => s1
    let v2 := vecOf s2 h
    vecPut s2 h { v2 with active := none, ev := some (refusedSnap s2 h (refusedEv a.ev v2.ev)) }

/-- A gathered egress outcome enters the round of its vector (R143 step 1, R145 rows 6 to 8). -/
def outcomeIn (s : State) (h : Nat) : State :=
  match (vecOf s h).outcome with
  | none => s
  | some ok =>
    let s1 := vecPut s h { vecOf s h with outcome := none }
    if ok then acceptVec s1 h else returnOne s1 h

/-- The refusal of a vector's record reaches its lane (R57, R142, R145 rows 7 and 8). -/
def refuseOne (s : State) (h : Nat) : State := outcomeAt s h false returnOne

/-! ### The change of an entry -/

/-- The entry is written to its aperture home (R121, R131). -/
def vteStore (s : State) (h : Nat) : State :=
  match vteOn s h with
  | none => s
  | some v =>
    let n := vteState s h
    let s1 := vtePut (apRequest s (.vteWrite h) true (vteOffset s h) (vteWords v n).toList) h { v with stored := BitVec.ofNat 3 n }
    { s1 with vs := { s1.vs with dirty := s1.vs.dirty.filter (· ≠ h) } }

/-- A checked change of a VTE is installed: EPOCH advances, and the vector's events follow R135 to R137. -/
def vteInstall (s : State) (h : Nat) (e : Vte) (n : VteCfg) (c : Change) : State :=
  let ep := e.epoch + 1
  let s1 := vtePut s h { e with cfg := n, epoch := ep }
  let s2 := vteGens s1 h { cfg := n, epoch := ep } (decide (n.tenant = e.cfg.tenant))
  let s3 := if n.valid then s2 else vteDiscard s2 h
  let p := pinChange s3 h n.pin
  let s4 := vteStore p.1 h
  changeReport (if p.2 then entryReject s4 1 h 2 (changeCode c) else s4) c true

/-- A change of a VTE at its boundary; none where it must wait (R133, R134, R136). An APPLY with nothing staged on an entry that no longer
passes the checks is refused like any other (R120, R255, assumption log 78). -/
def vteApply (s : State) (h : Nat) (c : Change) : Option State :=
  match vteOn s h with
  | none => none
  | some e =>
    let w := match c.words with
      | some w => vteCfgOf w
      | none => e.cfg
    let n := match c.words with
      | some _ => vteTake s h c.caller e.cfg w
      | none => e.cfg
    if callerForeign c e.cfg then some (changeForeign s c)
    else if vteWaits s h e n then none
    else if vteCheck s h n (retires s h c.caller w) then some (vteInstall s h e n c)
    else some (changeRefused s c 1 h)

/-- The changes of a vector that its boundary takes, in order, until one waits; a row that is being reloaded takes none before the reload
has returned (R316). -/
def vteBoundary (k : Nat) (s : State) (h : Nat) : State :=
  match k with
  | 0 => s
  | n + 1 =>
    if reloading s h then s
    else match (vecOf s h).changes with
    | [] => s
    | c :: r =>
      match vteApply s h c with
      | none => s
      | some s1 => vteBoundary n (vecPut s1 h { vecOf s1 h with changes := r }) h

/-- Nothing of the vector is inside Ivsyn (R134). -/
def vecQuiet (s : State) (h : Nat) : Bool :=
  let v := vecOf s h
  v.ev.isNone && v.evNew.isNone && v.active.isNone && v.eois.isEmpty && decide (v.steps + v.slept = 0)
    && !(s.vat.slots.any fun x => match x.st with
      | .checked k _ => decide (k = h)
      | _ => false)

/-- A vector with nothing inside is at its boundary at once; an entry not on chip is read first (R134, R130). -/
def vteTry (s : State) (h : Nat) : State :=
  if (vecOf s h).changes.isEmpty then s
  else if (vteOn s h).isNone then fetchVte s h
  else if vecQuiet s h || decide (s.md.mode = .unformed) then vteBoundary (vecOf s h).changes.length s h
  else enqueue s h

/-! ### Target descriptors -/

/-- DC_SCOPE[5]: only two parties change THRESHOLD, ENABLE and AUTO_CPRIO of a local target (R172, R262, R376). -/
def localScope (s : State) : Bool :=
  match s.fu.formed with
  | some f => f.dcScope.getLsbD 5
  | none => false

/-- The fields of a TD that a caller's words change (R172, R262, R264, R265, R376). -/
def tdTake (s : State) (t : Nat) (c : Caller) (g : Tgt) (w : Words8) : Tgt :=
  let n := tdPutCfg g w
  match c with
  | .tenant _ => if isLocal t && localScope s then g else { g with threshold := n.threshold }
  | .mgmt =>
    if isLocal t && localScope s then g
    else { g with threshold := n.threshold, enable := n.enable, autoCprio := n.autoCprio }
  | .party m =>
    let r := !isLocal t
    { g with baseLo := if mbit m 0 && r then n.baseLo else g.baseLo,
             baseHi := if mbit m 1 && r then n.baseHi else g.baseHi,
             ringLog2 := if mbit m 2 && r then n.ringLog2 else g.ringLog2,
             enable := if mbit m 3 then n.enable else g.enable,
             autoCprio := if mbit m 4 then n.autoCprio else g.autoCprio,
             threshold := if mbit m 5 then n.threshold else g.threshold,
             tenant := if mbit m 6 then n.tenant else g.tenant,
             dbLo := if mbit m 7 && r then n.dbLo else g.dbLo,
             dbHi := if mbit m 8 && r then n.dbHi else g.dbHi,
             dbData := if mbit m 9 && r then n.dbData else g.dbData }

/-- The checks of R171. -/
def tdCheck (s : State) (t : Nat) (g : Tgt) : Bool :=
  (decide (g.tenant = 0) || decide (entryOwner s 2 t = some g.tenant.toNat))
    && !(tdWithdrawn s t g && g.enable)
    && (if isLocal t then !g.enable || hasRing t g
        else decide ((g.baseHi ++ g.baseLo).toNat % min (32 * ringSize t g) 4096 = 0) && decide (fld g.dbLo 0 2 = 0))

/-- The ring base or its effective size changes (R173). -/
def ringMoves (t : Nat) (a b : Tgt) : Bool :=
  decide (a.baseLo ≠ b.baseLo) || decide (a.baseHi ≠ b.baseHi) || decide (ringSize t a ≠ ringSize t b)

/-- The change alters a field that clears UNREACH set by refusals alone (R57). -/
def tdClears (a b : Tgt) : Bool :=
  decide (a.enable ≠ b.enable) || decide (a.baseLo ≠ b.baseLo) || decide (a.baseHi ≠ b.baseHi) || decide (a.ringLog2 ≠ b.ringLog2)
    || decide (a.dbLo ≠ b.dbLo) || decide (a.dbHi ≠ b.dbHi) || decide (a.dbData ≠ b.dbData) || decide (a.tenant ≠ b.tenant)

/-- The TD is written to TDTAB (R169). -/
def tdStore (s : State) (t : Nat) : State :=
  let g := tgtOf s t
  let s1 := apRequest s (.tdWrite t) true (tableOffset s 2 32 t) (tdWords g (deckle t g.ringLog2)).toList
  { s1 with ts := { s1.ts with dirty := s1.ts.dirty.filter (· ≠ t) } }

/-- A checked change of a TD is installed with the effects of R173 and R57. -/
def tdInstall (s : State) (t : Nat) (g n : Tgt) : State :=
  let s1 := tgtPut s t (if ringMoves t g n then ringRestart n else n)
  let s2 := if g.enable && !n.enable then batchEnd s1 t else s1
  let s3 := if n.unreach && !n.hostUnreach && tdClears g n then clearUnreach s2 t false else wdogFix s2 t
  tdStore s3 t

/-- A change of a TD at its boundary. -/
def tdApply (s : State) (t : Nat) (c : Change) : State :=
  let g := tgtOf s t
  let n := match c.words with
    | some w => tdTake s t c.caller g w
    | none => g
  if tdCheck s t n then changeReport (tdInstall s t g n) c true else changeRefused s c 2 t

/-- The waiting changes of a target, once it has no record in transfer (R173) and its row is not being reloaded (R316). -/
def tdBoundary (k : Nat) (s : State) (t : Nat) : State :=
  match k with
  | 0 => s
  | n + 1 =>
    if inTransfer s t || tdReloading s t then s
    else match (tgtOf s t).changes with
      | [] => s
      | c :: r => tdBoundary n (tdApply (tgtPut s t { tgtOf s t with changes := r }) t c) t

/-! ### Groups and coalescing groups -/

/-- A target is a borrowed member of a group with this owner, which is none for a group that lies in no slice (R184, R254). -/
def borrowed (owner : Option Nat) (x : BitVec 16) : Bool := decide (x.toNat < 32) && decide (owner ≠ some 0)

/-- The slot that a caller's words give (R184, R264): in entry access a slot whose change would add or remove a borrowed member keeps its value,
whatever the change names besides, and the rest is applied (DEDUCED, assumption log 87). -/
def slotTake (owner : Option Nat) (c : Caller) (i : Nat) (o n : BitVec 16) : BitVec 16 :=
  match c with
  | .party m => if mbit m i then n else o
  | _ => if decide (o ≠ n) && (borrowed owner o || borrowed owner n) then o else n

/-- A non-empty slot names an own or a borrowed member (R184). -/
def slotOk (s : State) (owner : Option Nat) (x : BitVec 16) : Bool :=
  decide (x = 0xFFFF) ||
    (decide (x.toNat < (geometry s).targetTop) && (decide (owner = some (tgtOf s x.toNat).tenant.toNat) || borrowed owner x))

/-- A change of a group part at the group's boundary (R184): the 16 slots of the part are checked, changed or not (assumption log 75). -/
def groupApply (s : State) (i : Nat) (c : Change) : State :=
  let gi := i / 4
  let p := i % 4
  let g := groupOf s gi
  let owner := entryOwner s 3 i
  let part : List (BitVec 16) := (List.range 16).map fun k =>
    let o := g.slots.getD (16 * p + k) 0xFFFF
    match c.words with
    | some w => slotTake owner c.caller k o (partSlot w k)
    | none => o
  if part.all (slotOk s owner) then
    let slots : Vector (BitVec 16) 64 := Vector.ofFn fun k : Fin 64 =>
      if k.val / 16 = p then part.getD (k.val % 16) 0xFFFF else g.slots[k]
    let s1 := groupPut s gi { g with slots := slots, ptr := 0 }
    let s2 := apRequest s1 (.groupWrite i) true (tableOffset s1 3 32 i) (groupWords (groupOf s1 gi) p).toList
    changeReport s2 c true
  else changeRefused s c 3 i

/-- The waiting changes of a group's parts at its next choice, in order (R184, R354). -/
def groupBoundary (k : Nat) (s : State) (gi : Nat) : State :=
  match k with
  | 0 => s
  | n + 1 =>
    match (groupOf s gi).changes with
    | [] => s
    | c :: r => groupBoundary n (groupApply (groupPut s gi { groupOf s gi with changes := r }) c.1 c.2) gi

/-- Every change that waits at a group. -/
def groupSettle (s : State) (gi : Nat) : State := groupBoundary (groupOf s gi).changes.length s gi

/-- An event names a group. -/
def namesGroup (gi : Nat) (e : Option Ev) : Bool :=
  match e with
  | some ev => ev.snap.cfg.groupTarget && decide (evGroup ev = gi)
  | none => false

/-- A group that no event in Ivsyn names has no choice to wait for: it is at its boundary at once, and so is every group in UNFORMED
(R184, R388, assumption log 13). -/
def groupTry (s : State) (gi : Nat) : State :=
  if decide (s.md.mode = .unformed) || !(s.vs.vecs.any fun e => namesGroup gi e.2.ev || namesGroup gi e.2.evNew) then groupSettle s gi
  else s

/-- The size class row of R225: MODE is accepted; for a group that no slice owns, MODE 0 alone (assumption log 60). -/
def modeFits (s : State) (g : Nat) (c : Couch) : Bool :=
  if c.mode = 0 then true
  else match couchSlice s g with
    | none => false
    | some e =>
      if e.sizeClass = 0 then decide (c.mode = 1) && decide (c.timer ≠ 0)
      else if e.sizeClass = 1 then decide (c.mode ≠ 1)
      else if c.mode = 1 then decide (c.timer ≠ 0) else true

/-- A change of a coalescing group (R225, R227, R232). -/
def couchApply (s : State) (g : Nat) (c : Change) : State :=
  let o := couchOf s g
  let n := match c.words with
    | some w => couchPutCfg o w
    | none => o
  if modeFits s g n then
    let s1 := couchChange s g n
    let s2 := apRequest s1 (.couchWrite g) true (tableOffset s1 4 32 g) (couchWords (couchOf s1 g) (effMode s1 g)).toList
    changeReport (if n.mode = 3 then entryReject s2 4 g 3 (changeCode c) else s2) c true
  else changeRefused s c 4 g

/-- The waiting changes of a group at its boundary, in order (R227). -/
def couchBoundary (k : Nat) (s : State) (g : Nat) : State :=
  match k with
  | 0 => s
  | n + 1 =>
    match (couchOf s g).changes with
    | [] => s
    | c :: r => couchBoundary n (couchApply (couchPut s g { couchOf s g with changes := r }) g c) g

/-- A group's decision: the changes that wait, then the decision under them (R227, R232). A window that has run out keeps its own
instant (R241); the next takes the new length. -/
def couchDecision (s : State) (g : Nat) (merged : Option Nat) : State :=
  couchDecide (couchBoundary (couchOf s g).changes.length s g) g merged

/-- A group that holds nothing and runs no window is at its boundary at once, and so is every group in UNFORMED (R227, R388). -/
def couchTry (s : State) (g : Nat) : State :=
  if ((couchHeld s g).isEmpty && (couchOf s g).window.isNone) || decide (s.md.mode = .unformed) then
    couchBoundary (couchOf s g).changes.length s g
  else s

/-- A committed change goes to its entry's boundary (R255, R354). -/
def submitOne (s : State) (kind i : Nat) (c : Change) : State :=
  if !hasHome s kind i then changeRefused s c kind i
  else if kind = 1 then
    let v := vecOf s i
    vteTry (vecPut s i { v with changes := v.changes ++ [c] }) i
  else if kind = 2 then
    let g := tgtOf s i
    tdBoundary (g.changes.length + 1) (tgtPut s i { g with changes := g.changes ++ [c] }) i
  else if kind = 3 then
    let g := groupOf s (i / 4)
    groupTry (groupPut s (i / 4) { g with changes := g.changes ++ [(i, c)] }) (i / 4)
  else couchTry (couchPut s i { couchOf s i with changes := (couchOf s i).changes ++ [c] }) i

/-! ### Fences -/

/-- The EPOCH of a vector's entry, on chip or off (R133, R138). -/
def epochOf (s : State) (h : Nat) : BitVec 16 := (snapAt s h).epoch

/-- Nothing older than the fence is left (R138). -/
def fenceClear (s : State) (h : Nat) (ep : BitVec 16) : Bool :=
  !((epochsInside s h).any fun x => epochOlder x ep)

/-- A unit's fence completes once it is clear (R138). -/
def fenceCheck (s : State) (u : EaId) : State :=
  match (eaOf s u).busy with
  | some (.fencing h ep) =>
    if fenceClear s h ep then eaRaise (eaPut s u { eaOf s u with busy := none }) u (bit true eaDone) else s
  | _ => s

/-- An entry on chip is another tenant's than the unit's (R119, R254). -/
def entryForeign (s : State) (h : Nat) (u : EaId) : Bool :=
  match u, vteOn s h with
  | .tw t, some v => decide (v.cfg.tenant ≠ t)
  | _, _ => false

/-- A fence that waited for its entry starts, under the EPOCH that the entry shows, or turns out to be out of reach (R138, R254). -/
def fenceBegin (h : Nat) (s : State) (u : EaId) : State :=
  if decide ((eaOf s u).busy = some (.fenceRead h)) then
    if entryForeign s h u then eaRaise (eaPut s u { eaOf s u with busy := none }) u (bit true eaRange)
    else fenceCheck (eaPut s u { eaOf s u with busy := some (.fencing h (epochOf s h)) }) u
  else s

/-- Every waiting fence is tested (R138). -/
def fenceAll (s : State) : State :=
  forEach (s.eaT.map fun e => EaId.tw (BitVec.ofNat 12 e.1)) (fenceCheck s .mgmt) fenceCheck

/-- Boundaries of targets, groups, coalescing groups and fences, after records and events have moved (R173, R184, R227, R138). -/
def settleAll (s : State) : State :=
  let ts := s.ts.targets.filterMap fun e => if e.2.changes.isEmpty then none else some e.1
  let gs := s.ts.groups.filterMap fun e => if e.2.changes.isEmpty then none else some e.1
  let cs := s.ts.couches.filterMap fun e => if e.2.changes.isEmpty then none else some e.1
  fenceAll (forEach cs (forEach gs (forEach ts s fun x t => tdBoundary (tgtOf x t).changes.length x t) groupTry) couchTry)

/-- A committed change, and the fences that it completes (R138, R255). -/
def submit (s : State) (kind i : Nat) (c : Change) : State := fenceAll (submitOne s kind i c)

/-! ### Instants of a coalescing group -/

/-- A hold-off window's end is due (R228). -/
def windowDue (s : State) (g : Nat) : Bool :=
  match (couchOf s g).window with
  | some e => decide (e ≤ now s)
  | none => false

/-- A command for a hold-off window's end (R228, R233); after a fatal fault nothing is decided (R318). -/
def holdoffEnd (s : State) (g : Nat) : State :=
  unlessFatal s fun s => if windowDue s g then couchDecision (activity s false) g none else s

/-- A count/time group's instant is due (R229). -/
def limitDue (s : State) (g : Nat) : Bool :=
  match couchInstant s g with
  | some e => decide (e ≤ now s)
  | none => false

/-- A command for a count/time group's instant (R229, R242); after a fatal fault nothing is decided (R318). -/
def timeLimit (s : State) (g : Nat) : State :=
  unlessFatal s fun s =>
    if s.vs.calendar.any (· = calCouch g) && limitDue s g then couchDecision (activity s false) g none else s

/-- HOLDOFF_WINDOW_END: a hold-off window's instant has come (R228). -/
def execHoldoffWindowEnd (g : BitVec 12) (s : State) : Host.Outcome State Fault Refusal :=
  .next (if awake s && decide (s.md.mode ≠ .unformed) then holdoffEnd s g.toNat else s)

/-- COUCH_TIME_LIMIT: a count/time group's time limit or oldest deadline has come (R229). -/
def execCouchTimeLimit (g : BitVec 12) (s : State) : Host.Outcome State Fault Refusal :=
  .next (if awake s && decide (s.md.mode ≠ .unformed) then timeLimit s g.toNat else s)

end Sys2Proof.Machine
end

