-- ==== Sys2Proof/Machine/Store.lean ====
section
/-! DEFINITION. The vector cache: installation, the second-chance scan, eviction, spill and write-back (R129 to R132). -/

namespace Sys2Proof.Machine

/-- Cache entries for message VTEs (R129). -/
def cacheMax : Nat := 61440

/-- A message of the handle stands in FETCHING or CHECKED (R131). -/
def vatHolds (s : State) (h : Nat) : Bool :=
  s.vat.slots.any fun x => match x.st with
    | .parked => false
    | .fetching k => decide (k = h)
    | .checked k _ => decide (k = h)

/-- The vector holds merge state (R131). -/
def hasMerge (v : Vec) : Bool := v.ev.isSome || v.evNew.isSome

/-- The merge state of a vector lies in the SPILL region. -/
def isSpilled (s : State) (h : Nat) : Bool := (find s.vs.spilled h).isSome

/-- Spill records that the SPILL region holds (R131). -/
def spillMax (s : State) : Nat :=
  match s.fu.formed with
  | none => 0
  | some f => match regionOf f 5 0 with
    | none => 0
    | some r => r.size4k * 128

/-- The scan may evict an entry (R131). -/
def evictable (s : State) (h : Nat) : Bool :=
  let v := vecOf s h
  !(s.vs.pinned.any (· = h)) && !vatHolds s h && v.changes.isEmpty && !reloading s h
    && (!hasMerge v || decide (s.vs.spilled.length < spillMax s))

/-- The aperture offset of a place in the SPILL region, 32 bytes to a record (R131; Ivsyn's own layout, assumption log 50). -/
def spillOffset (s : State) (i : Nat) : Nat :=
  match s.fu.formed with
  | none => 0
  | some f => match regionOf f 5 0 with
    | none => 0
    | some r => r.offset + 32 * i

/-- The lowest free place in the SPILL region. -/
def spillPlace (s : State) : Nat :=
  ((List.range (s.vs.spilled.length + 1)).find? fun i => !(s.vs.spilled.any fun e => decide (e.2 = i))).getD s.vs.spilled.length

/-- The words of an event in a spill record: TIME, DATA, COUNT with the flags and the EPOCH of its snapshot. -/
def spillEv (ev : Ev) : List Word :=
  [w32 ev.time, ev.data,
   at_ 32 16 (BitVec.ofNat 16 ev.count) ||| bit ev.truncated 3 ||| bit ev.stillOn 2 ||| bit ev.wasHeld 1 ||| bit ev.released 0,
   at_ 32 16 ev.snap.cfg.tenant ||| at_ 32 0 ev.snap.epoch]

/-- A spill record: the vector's event and, where it holds two generations, the new one (R131; Ivsyn's own layout, assumption log 50). -/
def spillWords (v : Vec) : List Word := ((v.ev.toList ++ v.evNew.toList).flatMap spillEv ++ List.replicate 8 0).take 8

/-- The merge state of a vector goes to a spill record (R131). -/
def spill (s : State) (h : Nat) : State :=
  if hasMerge (vecOf s h) then
    let i := spillPlace s
    let x := apRequest s (.spillWrite h) true (spillOffset s i) (spillWords (vecOf s h))
    { x with vs := { x.vs with spilled := put x.vs.spilled h i } }
  else s

/-- An entry is evicted: its hardware fields are written back, and merge state goes to a spill record (R131). -/
def evict (s : State) (h : Nat) : State :=
  let s2 := vteAway (spill (vteStore s h) h) h
  { s2 with vs := { s2.vs with ring := s2.vs.ring.filter fun e => decide (e.1 ≠ h) } }

/-- The rotating second-chance scan (R131); none where no entry can be evicted. -/
def scanVictim (k : Nat) (s : State) (ring : List (Nat × Bool)) : Option (Nat × List (Nat × Bool)) :=
  match k with
  | 0 => none
  | n + 1 =>
    match ring with
    | [] => none
    | (h, ref) :: r =>
      if !evictable s h then scanVictim n s (r ++ [(h, ref)])
      else if ref then scanVictim n s (r ++ [(h, false)])
      else some (h, (h, ref) :: r)

/-- An access to a cached entry sets its reference bit. -/
def touch (s : State) (h : Nat) : State :=
  { s with vs := { s.vs with ring := s.vs.ring.map fun e => if e.1 = h then (h, true) else e } }

/-- An entry read from the aperture is installed; none where no entry can be evicted (R130, R131). -/
def install (s : State) (h : Nat) (v : Vte) : Option State :=
  if h < 4096 then some (vteLoad s h v)
  else if (find s.vs.vtes h).isSome then some (vteLoad s h v)
  else if s.vs.ring.length < cacheMax then
    some (vteLoad { s with vs := { s.vs with ring := s.vs.ring ++ [(h, true)] } } h v)
  else match scanVictim (2 * s.vs.ring.length + 1) s s.vs.ring with
    | none => none
    | some (k, ring) =>
      let s1 := evict { s with vs := { s.vs with ring := ring } } k
      some (vteLoad { s1 with vs := { s1.vs with ring := s1.vs.ring ++ [(h, true)] } } h v)

/-- The spill record of a reloaded entry is read (R131). -/
def spillFetch (s : State) (h : Nat) : State :=
  match find s.vs.spilled h with
  | none => s
  | some i => if apHas s (.spillRead h) then s else apRequest s (.spillRead h) false (spillOffset s i) []

/-! ### Corrupt rows -/

/-- The vector whose entry stands in a row: of the vector cache in scan order, of the wired state by handle (R316, assumption log 53). -/
def rowHandle (s : State) (array : BitVec 8) (row : BitVec 16) : Option Nat :=
  if array = 1 then s.vs.ring[row.toNat]?.map fun e => e.1
  else if decide (array = 3) && decide (row.toNat < 4096) then some row.toNat
  else none

/-- The row of the vector cache in which an entry stands (assumption log 53). -/
def cacheRow (s : State) (h : Nat) : BitVec 16 := BitVec.ofNat 16 ((s.vs.ring.findIdx? fun e => decide (e.1 = h)).getD 0)

/-- Words 0 to 3 of an entry are read from the aperture again, and its vector waits (R316). -/
def vteReload (s : State) (h : Nat) : State :=
  if reloading s h then s
  else apRequest { s with vs := { s.vs with reload := insertNat s.vs.reload h } } (.vteReload h) false (vteOffset s h) []

/-- Words 0 to 5 of a descriptor are read from the aperture again, and its target waits (R316). -/
def tdReload (s : State) (t : Nat) : State :=
  if tdReloading s t then s
  else apRequest { s with ts := { s.ts with reload := insertNat s.ts.reload t } } (.tdReload t) false (tableOffset s 2 32 t) []

/-- A corrupt row that has an aperture copy is reloaded, where a structure is formed (R316, assumption log 53). -/
def rowReload (s : State) (array : BitVec 8) (row : BitVec 16) : State :=
  if s.fu.formed.isNone then s
  else match rowHandle s array row with
    | some h => vteReload s h
    | none => if decide (array = 2) && decide (row.toNat < (geometry s).targetTop) then tdReload s row.toNat else s

/-! ### Write-back -/

/-- Entries on chip whose STATE has changed since it was last written (R131). -/
def staleVtes (s : State) : List Nat :=
  s.vs.vtes.filterMap fun e => if decide (vteState s e.1 ≠ e.2.stored.toNat) then some e.1 else none

/-- Hardware fields that have changed are written to the aperture (R131, R169). -/
def writeback (s : State) : State :=
  let s1 := forEach ((staleVtes s).foldl insertNat s.vs.dirty) s vteStore
  let s2 := { s1 with vs := { s1.vs with dirty := [] } }
  let s3 := forEach s2.ts.dirty s2 tdStore
  { s3 with ts := { s3.ts with dirty := [] } }

/-- The write-back tick, at every multiple of 1.024 ms (R131, R243). -/
def writebackTick (s : State) : State :=
  if ticksDue s 1024000 s.tm.ticks.writeback = 0 then s
  else
    let s1 := { s with tm := { s.tm with ticks := { s.tm.ticks with writeback := now s / 1024000 } } }
    if s.fu.formed.isSome then writeback s1 else s1

end Sys2Proof.Machine
end

