-- ==== Sys2Proof/Machine/Ranking.lean ====
section
/-! DEFINITION. The ranking round (R142 to R168): merges (R128, R144, R145), EOIs (R157 to R159), level changes (R146 to R148),
the group's decision (R227), candidates (R154 to R156, R186, R190), and the two planes (R164 to R167). -/

namespace Sys2Proof.Machine

/-! ### Events -/

/-- The deadline that a class gives an arrival (R204). -/
def deadlineOf (s : State) (cls : BitVec 4) (time : Nat) : Nat :=
  satTime time (fld (s.ctl.budgets.getD cls.toNat 0) 0 24).toNat

/-- A new event of a vector (R145 rows 1, 2, 9, 12). -/
def newEv (s : State) (sn : Snap) (time count : Nat) (data : Word) (trunc still : Bool) : Ev :=
  let g := couchFor s sn.cfg
  { snap := sn, time := time, deadline := deadlineOf s sn.cfg.cls time, cls := sn.cfg.cls, count := countSat count, data := data,
    truncated := trunc, stillOn := still,
    couch := match g with
      | some _ => sn.cfg.couch
      | none => 0,
    released := g.isNone, wasHeld := false, stream := none, first := none }

/-- An event merges into a pending one (R128). -/
def foldEv (p : Ev) (time count : Nat) (data : Word) (trunc : Bool) : Ev :=
  { p with count := countSat (p.count + count), time := min p.time time, data := data, truncated := p.truncated || trunc }

/-- What a round carries besides the state: the merges of the round by group, and whether what it made eligible waits (R156). -/
structure Round where
  st : State
  /-- Groups with the TIME of each merge. -/
  merges : List (Nat × Nat)
  /-- An accepted EOI, or a change applied to an event that was already pending: a candidate in the next round only. -/
  defer : Bool

/-- The group that an event entered; none where it entered none. -/
def evCouch (s : State) (ev : Ev) : Option Nat := (couchFor s ev.snap.cfg).map fun _ => ev.couch.toNat

/-- A merge is counted in the group of its own snapshot (R226, R232). -/
def noteMerge (r : Round) (sn : Snap) (n time : Nat) : Round :=
  match couchFor r.st sn.cfg with
  | none => r
  | some g => { r with st := couchCount r.st g n, merges := (g, time) :: r.merges }

/-- An event's snapshot belongs to the vector's old generation: it names another TENANT, or an EPOCH before the change that opened the
present one (R136, R144). -/
def snapOld (s : State) (h : Nat) (e : Vte) (sn : Snap) : Bool :=
  decide (sn.cfg.tenant ≠ e.cfg.tenant) || ((vecOf s h).oldGen && epochOlder sn.epoch (vecOf s h).genEpoch)

/-- The snapshot that an event merges under (R144). -/
def mergeSnap (s : State) (h : Nat) (e : Vte) (sn : Snap) : Snap := if snapOld s h e sn then sn else snapOf e

/-- A vector with an event in the old generation or in the present one (R136). -/
def placeEv (v : Vec) (old : Bool) (ep : BitVec 16) (ev : Ev) : Vec :=
  if v.oldGen && !old then { v with evNew := some ev }
  else { v with ev := some ev, oldGen := v.oldGen || old, genEpoch := if v.oldGen then v.genEpoch else ep }

/-- The event of the generation that an input belongs to (R136). -/
def genEv (v : Vec) (old : Bool) : Option Ev := if v.oldGen && !old then v.evNew else v.ev

/-- An edge event finds a row of R145: a level vector takes one while it is idle only (rows 1, 3 and 9); in any other state the message
has no effect (assumption log 69). -/
def edgeRow (v : Vec) (old : Bool) (sn : Snap) : Bool := !sn.cfg.level || ((genEv v old).isNone && v.active.isNone)

/-- An event merges into its vector (R128, R136, R137, R144, R145 rows 1, 3, 9, 14). -/
def mergeIn (r : Round) (h : Nat) (sn0 : Snap) (time count : Nat) (data : Word) (trunc : Bool) : Round :=
  let s := r.st
  match vteOn s h with
  | none => r
  | some e =>
    if !e.cfg.valid then { r with st := addDropped s h count }
    else
      let v := vecOf s h
      let old := snapOld s h e sn0
      let sn := mergeSnap s h e sn0
      let ev := match genEv v old with
        | none => newEv s sn time count data trunc false
        | some p => foldEv p time count data trunc
      if edgeRow v old sn then noteMerge { r with st := vecPut s h (placeEv v old e.epoch ev) } sn count time else r

/-- A vector notes the state of its level source (R145 row 10). -/
def lineNote (s : State) (h : Nat) (on : Bool) : State := vecPut s h { vecOf s h with lineOn := on }

/-- A level source becomes active at its vector (R145 rows 2 and 10), with the TIME of a new event: a message's stamp, or a line's round
(R17, R122, R147, assumption log 84). Where VALID is 0 the event is dropped (R137). A vector whose LEVEL is 0 takes no level change (assumption
log 69). -/
def levelOn (r : Round) (h : Nat) (e : Vte) (sn0 : Snap) (time : Nat) : Round :=
  if !e.cfg.valid then { r with st := addDropped r.st h 1 }
  else if !(mergeSnap r.st h e sn0).cfg.level then r
  else
    let s := lineNote r.st h true
    let v := vecOf s h
    if v.active.isNone && v.ev.isNone && v.evNew.isNone then
      let sn := mergeSnap s h e sn0
      let ev := newEv s sn time 1 e.cfg.data false false
      noteMerge { r with st := vecPut s h (placeEv v (snapOld s h e sn0) e.epoch ev) } sn 1 time
    else { r with st := s }

/-- An event of a LEVEL 1 snapshot. -/
def isLevelEv (e : Option Ev) : Bool :=
  match e with
  | some ev => ev.snap.cfg.level
  | none => false

/-- The level events of a vector are withdrawn (R145 row 4). -/
def levelWithdraw (s : State) (h : Nat) : State :=
  let s1 := if isLevelEv (vecOf s h).ev then dropEv s h else s
  let v := vecOf s1 h
  if isLevelEv v.evNew then vecPut s1 h { v with evNew := none } else s1

/-- A level source becomes inactive at its vector (R50, R145 rows 4 and 10): without an assertion it has no effect. -/
def levelOff (r : Round) (h : Nat) : Round :=
  if (vecOf r.st h).lineOn then
    let s := lineNote r.st h false
    { r with st := if (vecOf s h).active.isNone then levelWithdraw s h else s }
  else r

/-- A level source becomes active or inactive, under the snapshot of its message (R144, R145). -/
def levelIn (r : Round) (h : Nat) (sn : Snap) (time : Nat) (on : Bool) : Round :=
  match vteOn r.st h with
  | none => r
  | some e => if on then levelOn r h e sn time else levelOff r h

/-! ### EOIs -/

/-- A stray EOI is counted and journaled (R159). -/
def eoiStray (s : State) (h t reason : Nat) (active : Word) : State :=
  let s1 := { s with cnt := { s.cnt with eoiStray := s.cnt.eoiStray + 1 } }
  let ten := (tgtOf s t).tenant
  jnlRated s1 ten.toNat 0x45 (BitVec.ofNat 24 (reason * 1048576) ||| at_ 24 0 ten) (now s) [(4, w32 h), (5, w32 t), (6, active)]

/-- The active record of a vector ends: its mask bit clears, and a held new generation follows (R151, R136). -/
def activeEnd (s : State) (h : Nat) (a : Active) : State :=
  let g := tgtOf s a.target.toNat
  let s1 := tgtPut s a.target.toNat { g with amask := clrBit g.amask a.prio.toNat }
  promote (vecPut s1 h { vecOf s1 h with active := none }) h

/-- One EOI written at a target for a vector (R158, R145 rows 11, 12, 13, 15): what it asks of the entry is known on chip and off. -/
def eoiIn (h : Nat) (r : Round) (t : BitVec 16) : Round :=
  let s := r.st
  let v := vecOf s h
  match v.active with
  | none => { r with st := eoiStray s h t.toNat (if (snapAt s h).cfg.valid then 1 else 4) 0xFFFFFFFF }
  | some a =>
    if a.target ≠ t then { r with st := eoiStray s h t.toNat 2 (w32 a.target.toNat) }
    else if !a.accepted then { r with st := eoiStray s h t.toNat 3 (w32 a.target.toNat) }
    else
      let s1 := activeEnd s h a
      let v1 := vecOf s1 h
      let sn := snapAt s1 h
      if sn.cfg.valid && sn.cfg.level && v1.lineOn && v1.ev.isNone && v1.evNew.isNone then
        let ev := newEv s1 sn (now s) 1 sn.cfg.data false true
        noteMerge { r with st := vecPut s1 h (placeEv v1 false sn.epoch ev), defer := true } sn 1 (now s)
      else { r with st := s1, defer := true }

/-- Every gathered EOI of a vector, in order (R143). -/
def eoisIn (r : Round) (h : Nat) : Round :=
  let es := (vecOf r.st h).eois
  forEach es { r with st := vecPut r.st h { vecOf r.st h with eois := [] } } (eoiIn h)

/-! ### Inputs of wired lines and of the vat -/

/-- A level line is active under its polarity (R61). -/
def lineActive (s : State) (c : VteCfg) (h : Nat) : Bool := s.ws.high.getLsbD h != c.polarity

/-- New wired input is taken: in SERVING (R214), and in the rounds of step 5 of a wake, whatever mode it ends in, for as long as IV_PWR_STATE
shows the sleep (R285, R292). -/
def wiredTaken (s : State) : Bool :=
  decide (s.md.mode = .serving) || (decide (s.md.mode = .draining) && (decide (s.pw.pwrState = 1) || decide (s.pw.pwrState = 2)))

/-- The level of a wired level line as the round samples it (R146, R214, R285). A vector that is no level vector notes no assertion. -/
def wiredLevel (r : Round) (h : Nat) : Round :=
  let s := r.st
  match vteOn s h with
  | none => r
  | some e =>
    if wiredTaken s && decide (h < 3840) && decide (e.cfg.kind = 0) then
      let noted := (vecOf s h).lineOn
      if e.cfg.valid && e.cfg.level then
        let on := lineActive s e.cfg h
        if on = noted then r else levelIn r h (snapOf e) (now s) on
      else if noted then { r with st := lineNote s h false }
      else r
    else r

/-- Merges of a wired line's gathered events: latched ones at the IV time of the first round after the latches were read, then those
gathered since at this round's (R147, R214, R285). A LEVEL 1 vector takes none. -/
def wiredMerge (r : Round) (h : Nat) : Round :=
  let s := r.st
  let v := vecOf s h
  match vteOn s h with
  | none => r
  | some e =>
    if decide (h < 4096) && decide (0 < v.slept + v.steps) then
      let r0 := { r with st := vecPut s h { v with steps := 0, slept := 0, sleptAt := none } }
      if decide (h < 3840) && e.cfg.level then r0
      else
        let r1 := if v.slept = 0 then r0 else mergeIn r0 h (snapOf e) (v.sleptAt.getD (now s)) v.slept e.cfg.data false
        if v.steps = 0 then r1 else mergeIn r1 h (snapOf e) (now s) v.steps e.cfg.data false
    else r

/-- The first ranking round after the latches were read gives its IV time to the events that they held (R214, R285). -/
def stampSlept (s : State) : State :=
  if s.ws.roundDue then
    let stamp (v : Vec) : Vec := if decide (0 < v.slept) && v.sleptAt.isNone then { v with sleptAt := some (now s) } else v
    { s with vs := { s.vs with vecs := s.vs.vecs.map fun e => (e.1, stamp e.2) }, ws := { s.ws with roundDue := false } }
  else s

/-- A slot that is CHECKED for a vector, with its snapshot. -/
def checkedAs (h : Nat) (x : Slot) : Option (Slot × Snap) :=
  match x.st with
  | .checked k sn => if k = h then some (x, sn) else none
  | _ => none

/-- The CHECKED slots of a vector, in take order. -/
def checkedOf (s : State) (h : Nat) : List (Slot × Snap) := s.vat.slots.filterMap (checkedAs h)

/-- The CHECKED slots of a vector free, and their credits return (R46, R122). -/
def checkedFree (s : State) (h : Nat) : State :=
  let keep := s.vat.slots.filter fun x => (checkedAs h x).isNone
  forEach (checkedOf s h) { s with vat := { s.vat with slots := keep } } fun t x => creditBack t x.1.lane

/-- One CHECKED message: an edge event, or a level change of an INTx vector (R116, R50). -/
def messageIn (h : Nat) (r : Round) (x : Slot × Snap) : Round :=
  match x.1.kind with
  | .memWrite => mergeIn r h x.2 x.1.stamp 1 x.1.beat.data (decide (4 < x.1.beat.len.toNat))
  | .assert => levelIn r h x.2 x.1.stamp true
  | .deassert => levelIn r h x.2 x.1.stamp false
  | .rouse => r

/-- A slot brings a level change. -/
def isLevelMsg (x : Slot × Snap) : Bool :=
  match x.1.kind with
  | .assert => true
  | .deassert => true
  | _ => false

/-- The messages of a vector enter the round: level changes, then merges, each in take order (R143 steps 4 and 5, R365). -/
def vatIn (r : Round) (h : Nat) : Round :=
  if r.st.ctl.ingressEn then
    let xs := checkedOf r.st h
    let r1 := { r with st := checkedFree r.st h }
    let r2 := forEach (xs.filter isLevelMsg) r1 (messageIn h)
    forEach (xs.filter fun x => !isLevelMsg x) r2 (messageIn h)
  else r

/-! ### The group's decision -/

/-- The groups whose vector is considered, without repeats. -/
def roundCouches (r : Round) (h : Nat) : List Nat :=
  let s := r.st
  let v := vecOf s h
  let c := (snapAt s h).cfg
  let own := ((couchFor s c).map fun _ => c.couch.toNat).toList
  (own ++ (v.ev.toList.filterMap (evCouch s)) ++ (v.evNew.toList.filterMap (evCouch s)) ++ r.merges.map fun m => m.1).foldl insertNat []

/-- The earliest TIME merged into a group in this round. -/
def earliestMerge (ms : List (Nat × Nat)) (g : Nat) : Option Nat :=
  leastBy (fun a b => decide (a < b)) ((ms.filter fun m => decide (m.1 = g)).map fun m => m.2)

/-- An event that its group still holds after the decision carries that it was held (R230). -/
def evMarkHeld (ev : Ev) : Ev := if ev.released then ev else { ev with wasHeld := true }

/-- The decisions of a round (R227), after which what is held is marked so. -/
def roundDecide (r : Round) (h : Nat) : State :=
  let s := forEach (roundCouches r h) r.st fun s g => couchDecision s g (earliestMerge r.merges g)
  let v := vecOf s h
  if hasMerge v then vecPut s h { v with ev := v.ev.map evMarkHeld, evNew := v.evNew.map evMarkHeld } else s

/-! ### Candidates -/

/-- The event may stay in the stream it is in (R155, R186, R190). -/
def mayStay (s : State) (ev : Ev) (t : Nat) : Bool :=
  let c := ev.snap.cfg
  let named := if c.groupTarget then (groupOf s (evGroup ev)).slots.toList.any fun x => decide (x.toNat = t)
    else decide (c.target.toNat = t)
  named && !c.mask && !blockedAt s ev t && eligibleOn ev (tgtOf s t)

/-- The event waits for its deadline: for a credit, or passed over under throttle (R179, R189, R242). -/
def waitsForInstant (s : State) (ev : Ev) : Bool :=
  if ev.snap.cfg.groupTarget then
    (chooseMember s ev (evGroup ev)).isNone
      && ((groupMembers (groupOf s (evGroup ev))).any fun m => waitsForCredit s ev m.2 (tgtOf s m.2) || passedOver s ev m.2)
  else waitsForCredit s ev ev.snap.cfg.target.toNat (tgtOf s ev.snap.cfg.target.toNat)

/-- A full ring blocks a fixed-target event, whatever its priority: the full episode starts and is journaled (R154, R202, R203), unless the
target is barred in another way at the same time (assumption log 76). -/
def heldFull (s : State) (ev : Ev) : State :=
  let t := ev.snap.cfg.target.toNat
  let g := tgtOf s t
  if !ev.snap.cfg.groupTarget && ringFull s t && !g.fullEpisode && g.enable && !g.unreach && decide (g.pstate ≠ 3)
      && hasRing t g then
    let s1 := tgtPut s t { g with fullEpisode := true }
    jnlRated s1 g.tenant.toNat 0x43 (BitVec.ofNat 24 t) (now s)
      [(4, w32 g.tenant.toNat), (5, w32 g.head.toNat), (6, w32 g.tail.toNat)]
  else s

/-- A waiting event joins the stream of its target or of the member chosen for it, after the changes that wait for its group's choice
(R154, R184, R185). -/
def joinChosen (s : State) (h : Nat) (ev : Ev) : State :=
  if ev.snap.cfg.groupTarget then
    let gi := evGroup ev
    let s0 := groupSettle s gi
    match chooseMember s0 ev gi with
    | none => s0
    | some (slot, t) =>
      let s1 := groupPut s0 gi { groupOf s0 gi with ptr := BitVec.ofNat 6 (slot + 1) }
      joinStream s1 h t
  else
    let t := ev.snap.cfg.target.toNat
    if blockedAt s ev t || !eligibleOn ev (tgtOf s t) then s else joinStream s h t

/-- The calendar entry of a vector whose event waits for its deadline (R242). -/
def vecCalendar (s : State) (h : Nat) : State :=
  let v := vecOf s h
  let need := match v.ev with
    | some ev => v.active.isNone && ev.released && !ev.snap.cfg.mask && decide (ev.snap.cfg.prio ≠ 0) && ev.stream.isNone
        && waitsForInstant s ev
    | none => false
  if need then calEnter s h else calLeave s h

/-- An event may be a candidate as far as its vector goes (R154). -/
def mayJoin (v : Vec) (ev : Ev) : Bool := v.active.isNone && ev.released && !ev.snap.cfg.mask && decide (ev.snap.cfg.prio ≠ 0)

/-- An event stays in the stream it is in (R155). -/
def stays (s : State) (v : Vec) (ev : Ev) : Bool :=
  match ev.stream with
  | some t => mayJoin v ev && mayStay s ev t.toNat
  | none => false

/-- Step 6 of R143: eligibility, target choice and the update of the stream. -/
def candidate (s : State) (h : Nat) : State :=
  let v := vecOf s h
  match v.ev with
  | none => vecCalendar s h
  | some ev =>
    if stays s v ev then s
    else
      let s1 := leaveStream s h
      vecCalendar (if mayJoin v ev then joinChosen (heldFull s1 ev) h ev else s1) h

/-- Step 6 of R143 for what this round made eligible: an event that may not stay leaves its stream, and none joins one (R156). -/
def retreat (s : State) (h : Nat) : State :=
  let v := vecOf s h
  match v.ev with
  | none => vecCalendar s h
  | some ev => if stays s v ev then s else vecCalendar (leaveStream s h) h

/-! ### The round -/

/-- CHECKED messages of a vector that the round takes: none while INGRESS_EN is 0 (R365). -/
def takesMessages (s : State) (h : Nat) : Bool := s.ctl.ingressEn && !(checkedOf s h).isEmpty

/-- The round needs an entry that is not on chip (R130, R131). -/
def roundNeeds (s : State) (h : Nat) : Bool :=
  let v := vecOf s h
  decide (4096 ≤ h) && (vteOn s h).isNone && (handleSlice s h).isSome
    && (hasMerge v || !v.changes.isEmpty || takesMessages s h)

/-- The vector's inputs are taken by its round; one whose CHECKED messages INGRESS_EN 0 holds keeps its place in the lane (R365). -/
def dequeue (s : State) (h : Nat) : State :=
  if s.vs.queue.any (· = h) then
    { noteBusy s with vs := { s.vs with queue := if s.ctl.ingressEn || (checkedOf s h).isEmpty then s.vs.queue.filter (· ≠ h) else s.vs.queue } }
  else s

/-- Steps 1 to 5 of R143: the egress outcome, the applied change, EOIs, the level change, and the merges. A change applied to an event that
was pending makes it a candidate in the next round only (R156). -/
def roundInputs (s0 : State) (h : Nat) : Round :=
  let s := outcomeIn s0 h
  let v := vecOf s h
  let s1 := vteBoundary v.changes.length s h
  let changed := v.ev.isSome && decide ((vecOf s1 h).changes.length ≠ v.changes.length)
  wiredMerge (vatIn (wiredLevel (eoisIn { st := s1, merges := [], defer := changed } h) h) h) h

/-- What follows the inputs: the group's decision, the new generation where the old one is gone, and a change that waited for that
(R227, R136). What they make eligible waits for the next round. -/
def roundSettle (r : Round) (h : Nat) : Round :=
  let s2 := roundDecide r h
  let s3 := promote s2 h
  let s4 := vteBoundary (vecOf s3 h).changes.length s3 h
  let moved := ((vecOf s2 h).oldGen && !(vecOf s3 h).oldGen) || decide ((vecOf s4 h).changes.length ≠ (vecOf s3 h).changes.length)
  { r with st := s4, defer := r.defer || moved }

/-- What follows the inputs of a round: candidates, or none yet where what it made eligible waits (R143 step 6, R156). -/
def roundEnd (r : Round) (h : Nat) : State := settleAll (if r.defer then retreat r.st h else candidate r.st h)

/-- A round that takes every gathered EOI of a vector without its entry, and the decision of the vector's group (R143 step 3, R158, R227). -/
def roundEois (s : State) (h : Nat) : State :=
  settleAll (retreat (roundSettle (eoisIn { st := s, merges := [], defer := false } h) h).st h)

/-- What a round does that needs nothing of an entry off chip: a gathered outcome and, where no change comes before them, every gathered EOI
and the decision of the vector's group (R143 steps 1 and 3, R160, R227). -/
def roundEarly (s0 : State) (h : Nat) : State :=
  let s := outcomeIn s0 h
  if (vecOf s h).changes.isEmpty then roundEois s h else s

/-- What a round lacks on chip is read, once the inputs that need nothing of it have acted (R130, R131). -/
def roundFetch (s : State) (h : Nat) : State :=
  let s1 := roundEarly s h
  if roundNeeds s1 h then fetchVte s1 h else if isSpilled s1 h then spillFetch s1 h else s1

/-- One ranking round commits for a vector (R143); one whose row is being reloaded waits, with its inputs (R316). -/
def roundCommit (s : State) (h : Nat) : State :=
  let s0 := stampSlept (dequeue s h)
  if reloading s h then s
  else if (vteOn s0 h).isNone || isSpilled s0 h then roundFetch s0 h
  else roundEnd (roundSettle (roundInputs s0 h) h) h

/-- A waiting event would join a stream now. -/
def rises (s : State) (v : Vec) : Bool :=
  match v.ev with
  | none => false
  | some ev => mayJoin v ev && ev.stream.isNone && (if ev.snap.cfg.groupTarget then (chooseMember s ev (evGroup ev)).isSome
      else !blockedAt s ev ev.snap.cfg.target.toNat && eligibleOn ev (tgtOf s ev.snap.cfg.target.toNat))

/-- The PRIO of an event that may be absent. -/
def evPrio (e : Option Ev) : Nat :=
  match e with
  | some x => x.snap.cfg.prio.toNat
  | none => 0

/-- Insertion by falling PRIO. -/
def prioInsert (x : Nat × Nat) (l : List (Nat × Nat)) : List (Nat × Nat) :=
  match l with
  | [] => [x]
  | y :: r => if y.2 < x.2 then x :: y :: r else y :: prioInsert x r

/-- The PRIO with which a vector comes to its round: that of its event or, where none waits, of the entry under which an input that has reached
the core would merge (R128, R156). -/
def comingPrio (s : State) (h : Nat) : Nat :=
  let v := vecOf s h
  if v.ev.isSome then evPrio v.ev
  else if takesMessages s h || decide (0 < v.steps + v.slept) then (snapAt s h).cfg.prio.toNat
  else 0

/-- Waiting events that would join a stream now and have a higher PRIO than the one a vector comes with, highest first: they are candidates
before it, in its lane and in the others (R156, assumption log 64). -/
def risen (s : State) (h : Nat) : List Nat :=
  ((s.vs.vecs.filterMap fun e =>
    if !laneHeld s e.1 && decide (comingPrio s h < evPrio e.2.ev) && rises s e.2 then some (e.1, evPrio e.2.ev) else none).foldr
      prioInsert []).map fun e => e.1

/-- The vectors of a lane whose inputs reached the core before those of one that has inputs (R142). -/
def laneAhead (s : State) (h : Nat) : List Nat :=
  if s.vs.queue.any (· = h) then (s.vs.queue.takeWhile (· ≠ h)).filter (sameLane h) else []

/-- ARG of an array fault: array and row (R316). -/
def eccArg (array : BitVec 8) (row : BitVec 16) : BitVec 24 := at_ 24 16 array ||| at_ 24 0 row

/-- An access reads an entry's row of the vector cache: a pending injection of WHAT 4 or 5 acts on it (R321). -/
def cacheRead (s : State) (h : Nat) : State :=
  if (find s.vs.vtes h).isNone || decide (h < 4096) then s
  else if s.flt.inject = some 4 then faultFound (injectSpent s) 0x03 (eccArg 1 (cacheRow s h)) true
  else if decide (s.flt.inject = some 5) && !hasMerge (vecOf s h) then
    vteReload (faultFound (injectSpent s) 0x13 (eccArg 1 (cacheRow s h)) true) h
  else s

/-- One round of a lane: the row it reads, and then what it commits; a fatal fault stops it (R318, R321). -/
def roundAt (s : State) (h : Nat) : State := unlessFatal s fun s => unlessFatal (cacheRead s h) fun s => roundCommit s h

/-- One round of a lane, after those of the waiting events that R156 puts before it. -/
def roundRisen (s : State) (h : Nat) : State := roundAt (forEach (risen s h) s roundAt) h

/-- The rounds of a lane up to the one that considers a vector, each after those that R156 puts before it (R142). -/
def laneRounds (s : State) (h : Nat) : State := forEach (laneAhead s h ++ [h]) s roundRisen

/-- A ranking round: its comparison, and then the rounds of its lane up to it (R142, R164). -/
def rankRound (s : State) (h : BitVec 24) (check : PlaneCheck) : State :=
  let x := roundCompare s h check
  if x.2 then laneRounds x.1 h.toNat else x.1

/-- A round that no command names, for an input that waits: it is compared like any other, and after a fatal fault none commits (R164, R318). -/
def inputRound (s : State) (h : Nat) : State := unlessFatal s fun s => rankRound s (BitVec.ofNat 24 h) .agree

/-- What a round of a vector does where it commits, compared like any other; else its inputs wait in their lane (R164, R165, R318). -/
def comparedRound (s : State) (h : Nat) (f : State → State) : State :=
  unlessFatal s fun s =>
    let x := roundCompare s (BitVec.ofNat 24 h) .agree
    if x.2 then f x.1 else enqueue x.1 h

/-- The inputs that reached the lane of a vector before one that reaches it now are taken first, where the core ranks (R142, assumption log
64). -/
def laneBefore (s : State) (h : Nat) : State :=
  if ranking s then forEach ((s.vs.queue.takeWhile (· ≠ h)).filter (sameLane h)) s inputRound else s

/-- A plane is fenced (R165, R322): DEGRADED, source 0x17, PLANE_FENCED; fatal while DEGRADE_EN or DEFER_FATAL says so. -/
def fencePlane (s : State) (plane : BitVec 2) (arg : BitVec 24) (lane handle : Word) (inj : Bool) : State :=
  if !s.ctl.degradeEn then fatalFault s 0x23 0 inj
  else
    let drop := match s.flt.inject with
      | some w => decide (w.toNat ≤ 3)
      | none => false
    let s0 := { s with flt := { s.flt with fenced := plane, inject := if drop then none else s.flt.inject } }
    let s1 := deferredCount (pollSum s0) 0x17 arg inj
    if s1.flt.fatal.isSome then s1
    else
      let sig := Config.selfTestSignature s1.free
      jnlPut { s1 with free := s1.free + 1 } .journal (mkRec 0x82 (at_ 24 0 plane) (bit inj 0) (now s1)
        [(4, lane), (5, sig), (6, handle)])

/-- The self-test of both planes ends (R165, R318). -/
def selfTestEnd (s : State) (aPass bPass third : Bool) : State :=
  match s.flt.selfTest with
  | none => s
  | some r =>
    let inj := decide (s.flt.failPlane ≠ 0)
    let a := aPass && decide (s.flt.failPlane ≠ 1)
    let b := bPass && decide (s.flt.failPlane ≠ 2)
    let n := r.h.toNat
    let s1 := { s with flt := { s.flt with selfTest := none, failPlane := 0 } }
    if a && b then
      (if third then laneRounds (corrected s1 0x02 (laneOf n) inj) n else fatalFault s1 0x20 0 inj)
    else if !a && !b then fatalFault s1 0x21 0 inj
    else
      let s2 := fencePlane s1 (if a then 2 else 1) (laneOf n) (w32 (n % 4)) (w32 n) inj
      if s2.flt.fatal.isSome then s2 else laneRounds s2 n

/-- Rounds commit: SERVING or DRAINING, and no fatal fault detected (R318). -/
def rounding (s : State) : Bool := live s && ranking s && s.flt.fatal.isNone

/-- RANKING_ROUND: one lane considers one vector (R143). -/
def execRankingRound (h : BitVec 24) (check : PlaneCheck) (s : State) : Host.Outcome State Fault Refusal :=
  .next (if rounding s then rankRound s h check else s)

/-- SELF_TEST: the known-answer self-test of both planes finishes (R165). -/
def execSelfTest (aPass bPass thirdAgrees : Bool) (s : State) : Host.Outcome State Fault Refusal :=
  .next (if rounding s then selfTestEnd s aPass bPass thirdAgrees else s)

end Sys2Proof.Machine
end

