-- ==== Sys2Proof/Machine/Delivery.lean ====
section
/-! DEFINITION. The deadline arbiter and the delivery engine: rounds and grants (R145 row 5, R178, R179, R183, R207 to R211), egress
outcomes (R57, R145 rows 6 to 8), batches (R212), the watchdog (R219, R221), and the mode changes that wait for a transfer
(R278 rows 6 to 8). -/

namespace Sys2Proof.Machine

/-! ### Modes in service -/

/-- A change of mode that MODE_CHANGE records (R301): causes 1 to 4. -/
def modeChange (s : State) (m : Mode) (cause : Nat) : State :=
  let s1 := setMode s m
  jnlPut s1 .journal (mkRec 0x01 (at_ 24 4 s.md.mode.code ||| at_ 24 0 m.code) 0 (now s) [(4, w32 cause), (5, modeWord s1)])

/-- Nothing is left in transfer: no open write, no write in flight, no doorbell that waits (R214). -/
def transferNone (s : State) : Bool := s.ar.open_.isNone && s.ar.flight.isEmpty && s.ar.bells.isEmpty

/-- `IV_ARB_STAT.FROZEN` (R214). -/
def frozen (s : State) : Bool := s.ctl.freeze && transferNone s

/-- No record is in transfer. -/
def recordsNone (s : State) : Bool := s.ar.open_.isNone && !(s.ar.flight.any fun e => !e.2.doorbell)

/-- In UNFORMED every entry is at its boundary at once (R388). -/
def unformedSettle (s : State) : State :=
  let hs := s.vs.vecs.filterMap fun v => if v.2.changes.isEmpty then none else some v.1
  let gs := s.ts.couches.filterMap fun c => if c.2.changes.isEmpty then none else some c.1
  settleAll (forEach gs (forEach hs s vteTry) couchTry)

/-- An entry attempt ends with the mode it was made from (R278, R284). -/
def entryOver (s : State) : State := { s with pw := { s.pw with entry := none, due := false } }

/-- ENGINE_EN cleared takes Ivsyn to UNFORMED once the record in transfer completes (R278 row 8). -/
def engineSettle (s : State) : State :=
  if ranking s && !s.md.engineEn && recordsNone s then unformedSettle (modeChange (entryOver s) .unformed 2) else s

/-! ### The arbiter -/

/-- The arbiter makes grants: SERVING with FREEZE 0, DELIVER_EN 1 and no entry attempt under way (R209, R283, R318, R365). -/
def arbiterOn (s : State) : Bool :=
  live s && decide (s.md.mode = .serving) && !s.ctl.freeze && s.ctl.deliverEn && s.md.engineEn && s.pw.entry.isNone && s.flt.fatal.isNone

/-- An egress tag is free for a remote target's write; an open write holds its own (R209). -/
def tagFor (s : State) (t : Nat) : Bool :=
  isLocal t || decide (0 < tagsFree s) || (match s.ar.open_ with
    | some w => decide (w.target.toNat = t)
    | none => false)

/-- The entry of a vector and its merge state are on chip (R131), and its row does not wait for a reload (R316). -/
def onChip (s : State) (h : Nat) : Bool := (vteOn s h).isSome && !isSpilled s h && !reloading s h

/-- The open write waits for the reload of its target's descriptor (R316). -/
def openWaits (s : State) : Bool :=
  match s.ar.open_ with
  | some w => tdReloading s w.target.toNat
  | none => false

/-- The stream of a target could request a grant: its head may be granted there, the target can take a record, and no write waits for the
reload of a descriptor (R209, R316). -/
def mayRequest (s : State) (t : Nat) : Bool :=
  match streamHead s t with
  | none => false
  | some (_, ev) => mayStay s ev t && decide (inFlight s t = 0) && tagFor s t && !tdReloading s t && !openWaits s

/-- The stream of a target requests a grant (R209): the vector of its head is on chip (R131). -/
def requests (s : State) (t : Nat) : Bool :=
  mayRequest s t && (match streamHead s t with
    | some (h, _) => onChip s h
    | none => false)

/-- What the head of a stream lacks on chip is read (R131). -/
def headFetch (s : State) (t : Nat) : State :=
  match streamHead s t with
  | none => s
  | some (h, _) =>
    if !mayRequest s t || onChip s h then s
    else if (vteOn s h).isNone then fetchVte s h
    else spillFetch s h

/-- Events that can no longer be delivered where they are leave their streams (R155, R186). -/
def pruneStream (s : State) (t : Nat) : State :=
  forEach (streamOf s t) s fun s e => if mayStay s e.2 t then s else vecCalendar (leaveStream s e.1) e.1

/-- The streams that request, in heap order. -/
def requesters (s : State) : List Nat := (s.ar.heap.map fun t => t.toNat).filter (requests s)

/-- The key order of R210: earliest deadline, longest wait, lowest target. -/
def beats (s : State) (a b : Nat) : Bool :=
  let da := streamDeadline s a
  let db := streamDeadline s b
  let wa := (tgtOf s a).wait.toNat
  let wb := (tgtOf s b).wait.toNat
  decide (da < db) || (decide (da = db) && (decide (wb < wa) || (decide (wa = wb) && decide (a < b))))

/-- A requesting stream has lost WAITLIM rounds (R210). -/
def atLimit (s : State) (t : Nat) : Bool := decide (s.ctl.waitLim ≠ 0) && decide (s.ctl.waitLim.toNat ≤ (tgtOf s t).wait.toNat)

/-- The stream whose write is open. -/
def openTarget (s : State) : Option Nat := s.ar.open_.map fun w => w.target.toNat

/-- The winner of a round (R210). -/
def winner (s : State) (req : List Nat) : Option Nat :=
  match openTarget s with
  | some w =>
    if req.any (· = w) && !s.ctl.preemptEn then some w
    else
      let lim := req.filter (atLimit s)
      leastBy (beats s) (if lim.isEmpty then req else lim)
  | none =>
    let lim := req.filter (atLimit s)
    leastBy (beats s) (if lim.isEmpty then req else lim)

/-- The wait counters after a round (R210). -/
def countWaits (s : State) (req : List Nat) (win : Nat) : State :=
  forEach req s fun s t =>
    let g := tgtOf s t
    tgtPut s t { g with wait := if t = win then 0 else satAdd g.wait 1 }

/-- A grant to a deep remote target is charged outside its grace period (R178). -/
def charged (s : State) (t : Nat) : Bool :=
  let g := tgtOf s t
  !isLocal t && decide (g.pstate = 2) && !inGrace s g

/-- A charged grant spends a credit or is an overdraft, and opens the grace period (R178, R183). -/
def charge (s : State) (t h : Nat) (ev : Ev) : State :=
  if charged s t then
    let ten := ev.snap.cfg.tenant.toNat
    let x := tnOf s ten
    let s1 := if x.credits ≠ 0 then tnPut s ten { x with credits := x.credits - 1 }
      else
        jnlRated { s with cnt := { s.cnt with overdraft := s.cnt.overdraft + 1 } } ten 0x44 (BitVec.ofNat 24 ten) (now s)
          [(4, w32 h), (5, w32 t), (6, w32 ev.deadline), (7, w32hi ev.deadline)]
    tgtPut s1 t { tgtOf s1 t with graceEnd := now s + 1000 * s.ctl.graceUs.toNat }
  else s

/-- DATA of the record: configured data for the kinds whose events carry none (R192). -/
def grantData (ev : Ev) : Ev :=
  let k := ev.snap.cfg.kind
  if decide (k = 0) || decide (k = 3) || decide (k = 5) then { ev with data := ev.snap.cfg.data } else ev

/-- The target's ring is empty with nothing in transfer (R216). -/
def ringIdle (s : State) (t : Nat) : Bool := decide (occupancy s t = 0)

/-- A record joins the open write of its target, which opens if none is open (R211), and its batch (R212). -/
def openAdd (s : State) (t : Nat) (o : Out) : State :=
  let g := tgtOf s t
  let b : Batch := match g.batch with
    | some b => { b with progress := b.progress + 1 }
    | none => { progress := 1, start := fabNow s, wasEmpty := ringIdle s t }
  let s1 := tgtPut s t { g with batch := some b, fullEpisode := false }
  let w : OpenWrite := match s1.ar.open_ with
    | some w => { w with recs := w.recs ++ [o] }
    | none => { target := BitVec.ofNat 16 t, recs := [o] }
  { s1 with ar := { s1.ar with open_ := some w } }

/-- Row 5 of R145: the event becomes the active record, its mask bit sets (R151), and its record joins the open write. -/
def grantOne (s : State) (t h : Nat) (ev : Ev) : State :=
  let s1 := charge s t h ev
  let g := tgtOf s1 t
  let ev' := { grantData ev with stream := none }
  let o : Out := { h := h, ev := ev', prio := ev.snap.cfg.prio, heldFull := g.fullEpisode, degraded := degraded s1,
                   rerouted := ev.snap.cfg.groupTarget && decide (ev.first ≠ some (BitVec.ofNat 16 t)) }
  let s2 := openAdd s1 t o
  let s3 := tgtPut s2 t { tgtOf s2 t with amask := setBit (tgtOf s2 t).amask ev.snap.cfg.prio.toNat }
  vecPut s3 h { vecOf s3 h with ev := none,
                                active := some { target := BitVec.ofNat 16 t, prio := ev.snap.cfg.prio, accepted := false, ev := ev' } }

/-- The open write is complete: 16 records, the ring end, or a new 4 KiB page (R211). -/
def writeFull (s : State) (t : Nat) : Bool :=
  let g := tgtOf s t
  let n := openRecs s t
  let next := (g.tail.toNat + n) % ringSize t g
  decide (16 ≤ n) || decide (next = 0)
    || (!isLocal t && decide (((g.baseHi ++ g.baseLo).toNat + 32 * next) % 4096 = 0))

/-- Records per batch (R213). -/
def batchMax (s : State) : Nat := if s.ctl.batchMax = 0 then 16 else s.ctl.batchMax.toNat

/-- The batch of a target is complete: BATCH_MAX or a full ring (R212). -/
def batchFull (s : State) (t : Nat) : Bool :=
  (match (tgtOf s t).batch with
    | some b => decide (batchMax s ≤ b.progress)
    | none => false) || ringFull s t

/-- The grant of a round and what closes after it (R210 to R212). -/
def roundGrant (s : State) (req : List Nat) (t : Nat) : State :=
  let s1 := countWaits (noteBusy s) req t
  let s2 := if openTarget s1 = some t then s1 else closeWrite s1
  match streamHead s2 t with
  | none => s2
  | some (h, ev) =>
    let s3 := grantOne s2 t h ev
    let s4 := if writeFull s3 t then closeWriteOf s3 t else s3
    settleStream (if batchFull s4 t then batchEnd s4 t else s4) t

/-- One arbiter round (R210). -/
def arbiterStep (s : State) : State :=
  let s0 := forEach (s.ar.heap ++ s.ar.heapWait) s fun s t => pruneStream s t.toNat
  let s1 := forEach s0.ar.heap s0 fun s t => headFetch s t.toNat
  let req := requesters s1
  match winner s1 req with
  | none => settleAll s1
  | some t => settleAll (roundGrant s1 req t)

/-- ARBITER_ROUND (R210). -/
def execArbiterRound (s : State) : Host.Outcome State Fault Refusal :=
  .next (if arbiterOn s then arbiterStep s else s)

/-! ### Egress outcomes -/

/-- A tag is free again. -/
def flightDrop (s : State) (tag : BitVec 8) : State :=
  { s with ar := { s.ar with flight := tagErase s.ar.flight tag, busyAt := now s } }

/-- An outcome has been taken: waiting doorbells, boundaries, fences and a pending ENGINE_EN clear follow. -/
def egressSettle (s : State) : State := engineSettle (settleAll (pumpBells tagMax s))

/-- What reached the lanes of a write's records before its outcome is taken first; a doorbell has none (R142, assumption log 64). -/
def lanesBefore (s : State) (w : EgWrite) : State := if w.void then s else forEach w.handles s laneBefore

/-- What an accepted write does (R57, R145 row 6). -/
def accepted (s : State) (tag : BitVec 8) (w : EgWrite) : State :=
  let s1 := flightDrop (lanesBefore s w) tag
  egressSettle (if w.void || w.doorbell then s1 else acceptRecs s1 w.target.toNat w.handles)

/-- A record of a write carries HELD_FULL (R193). -/
def heldFullByte (w : EgWrite) (i : Nat) : Bool := (w.data.getD (32 * i + 11) 0).getLsbD 1

/-- A refused record write: its records return, its batch ends without a doorbell, and a doorbell is owed (R57, R212). -/
def recordsRefused (s : State) (w : EgWrite) : State :=
  let t := w.target.toNat
  let s1 := forEach w.handles s refuseOne
  let g := tgtOf s1 t
  let full := g.fullEpisode || (List.range w.handles.length).any (heldFullByte w)
  let s2 := tgtPut s1 t { g with batch := none, rearm := false, dbOwed := true, fullEpisode := full }
  let s3 := { s2 with ar := { s2.ar with bells := s2.ar.bells.filter fun b => decide (b.target ≠ w.target) } }
  setUnreach s3 t 4 0xFFFFFFFF

/-- A refused doorbell is owed (R57). -/
def bellRefused (s : State) (w : EgWrite) : State :=
  let t := w.target.toNat
  setUnreach (tgtPut s t { tgtOf s t with dbOwed := true }) t 5 0xFFFFFFFF

/-- What a refused write does (R57). -/
def refused (s : State) (tag : BitVec 8) (w : EgWrite) : State :=
  let s1 := flightDrop (lanesBefore s w) tag
  egressSettle (if w.void then s1 else if w.doorbell then bellRefused s1 w else recordsRefused s1 w)

/-- An egress outcome: in SAFE it is taken and ignored (R325); a tag that names no write has nothing to act on (assumption log 6). -/
def egressOutcome (s : State) (tag : BitVec 8) (f : State → BitVec 8 → EgWrite → State) : State :=
  if live s then
    match tagOf s.ar.flight tag with
    | some w => f s tag w
    | none => s
  else if s.md.mode = .safe then flightDrop s tag
  else s

/-- EGRESS_ACCEPT (R57). -/
def execEgressAccept (tag : BitVec 8) (s : State) : Host.Outcome State Fault Refusal := .next (egressOutcome s tag accepted)

/-- EGRESS_REJECT (R57). -/
def execEgressReject (tag : BitVec 8) (s : State) : Host.Outcome State Fault Refusal := .next (egressOutcome s tag refused)

/-! ### Batches and watchdogs in time -/

/-- The batch limit: 2 µs in IV_CLK_FAB cycles of 0.5 ns (R212, R240). -/
def batchCycles : Nat := 4000

/-- The batch of a target has lasted 2 µs, by the count of IV_CLK_FAB cycles (R212, R240). -/
def batchDue (s : State) (t : Nat) : Bool :=
  match (tgtOf s t).batch with
  | some b => decide (b.start + batchCycles ≤ fabNow s)
  | none => false

/-- BATCH_TIMEOUT (R212). -/
def execBatchTimeout (target : BitVec 16) (s : State) : Host.Outcome State Fault Refusal :=
  .next (if awake s && batchDue s target.toNat then engineSettle (settleAll (batchEnd s target.toNat)) else s)

/-- A target's watchdog has expired (R219). -/
def wdogDue (s : State) (t : Nat) : Bool :=
  match (tgtOf s t).wdog with
  | some e => decide (e ≤ now s) && !s.ctl.freeze
  | none => false

/-- STALLED sets and is journaled (R221). -/
def stall (s : State) (t : Nat) : State :=
  let g := tgtOf s t
  let s1 := tgtPut s t { g with stalled := true, wdog := none }
  if g.stalled then s1
  else jnl s1 0x40 (BitVec.ofNat 24 t) (now s)
    [(4, w32 g.tenant.toNat), (5, w32 g.head.toNat), (6, w32 g.tail.toNat), (7, w32 g.resend), (8, w32 g.lastDb), (9, w32hi g.lastDb)]

/-- An expired watchdog resends the doorbell, or sets STALLED (R219). -/
def wdogExpire (s : State) (t : Nat) : State :=
  let g := tgtOf s t
  if decide (g.maxResend ≠ 0) && decide (g.maxResend.toNat ≤ g.resend) then stall s t
  else sendBell (tgtPut s t { wdogStart s g with resend := g.resend + 1 }) t

/-- WATCHDOG_EXPIRY (R219). -/
def execWatchdogExpiry (target : BitVec 16) (s : State) : Host.Outcome State Fault Refusal :=
  .next (if awake s && wdogDue s target.toNat then wdogExpire (activity s false) target.toNat else s)

end Sys2Proof.Machine
end

