-- ==== Sys2Proof/Machine/Access.lean ====
section
/-! DEFINITION. How the register ports take an access: reach and denial (R40, R251, R252, R380), writes that sleep ignores (R290),
and the answer of a read (R36). -/

namespace Sys2Proof.Machine

/-- What a port drives as it completes an access (R36, R43). -/
def portAnswer (s : State) (p : Port) (w : Word) (err : Bool) : State :=
  match p with
  | .sec => { s with io := { s.io with secRdata := w, secErr := err } }
  | _ => { s with io := { s.io with rdata := w, err := err } }

/-- A write through a port completes without an error response (R36, R39). -/
def portDone (s : State) (p : Port) : State := portAnswer s p 0 false

/-- An access at a port that answers (R312, R385). -/
def portServe (s : State) (f : State → State) : State := if portsDead s then s else f s

/-- A write that a command names, at its port (R36, R43). -/
def writeAt (s : State) (p : Port) (f : State → State) : State := portServe s fun s => portDone (f s) p

/-- The port of a party (R14). -/
def partyPort (p : Party) : Port :=
  match p with
  | .M => .mgmt
  | .S => .sec

/-- A denied tenant access is counted while Ivsyn is awake (R252, R290). -/
def denied (s : State) (t : Nat) : State :=
  if awake s then
    let x := tnOf s t
    twRaise (tnPut s t { x with denied := x.denied + 1 }) t twDenied
  else s

/-- A denied tenant write is activity too (R40, R252, R279). -/
def deniedWrite (s : State) (t : Nat) : State := if awake s then denied (activity s false) t else s

/-- A management write that sleep ignores is noted for the report at wake (R290, R357). -/
def sleepIgnore (s : State) (addr : BitVec 22) : State :=
  { s with pw := { s.pw with ignored := fld addr 2 18 :: s.pw.ignored } }

/-- The locations of class M at which a register lies, as runs of byte addresses (R362). -/
def classMRuns : List (Nat × Nat) :=
  [(0x00, 0x24), (0x40, 0x80), (0x100, 0x12C), (0x130, 0x160), (0x200, 0x214), (0x220, 0x240), (0x300, 0x308), (0x310, 0x314), (0x320, 0x360),
   (0x400, 0x404), (0x500, 0x51C), (0x600, 0x60C), (0x620, 0x64C), (0x700, 0x71C), (0x800, 0x810), (0x900, 0x928), (0xA00, 0xA24),
   (0xA40, 0xAC0), (0xC00, 0xD00), (0x1000, 0x1200)]

/-- A register lies at an address of the register port (R345, R350, R359, R362, R373, R379); an alias lies where its register does. -/
def located (addr : BitVec 22) : Bool :=
  let a := addr.toNat
  if a < 0x80000 then decide (a < 0x4000 ∨ (0x40000 ≤ a ∧ a % 0x10000 < 0x4000 ∧ a < 0x70000))
    && classMRuns.any fun r => decide (r.1 ≤ a % 0x4000) && decide (a % 0x4000 < r.2)
  else if a < 0x100000 then decide (a % 128 < 0x4C) && decide (a % 128 / 4 ≠ 7)
  else decide (0x200000 ≤ a)

/-- A target window is reached (R380). -/
def targetReach (s : State) (p : Port) (t : Nat) : Bool :=
  s.fu.formed.isSome && decide (t < (geometry s).targetTop) &&
    match p with
    | .mgmt => true
    | .tenant n => decide (n ≠ 0) && decide ((tgtOf s t).tenant = n)
    | .sec => false

/-- A tenant window is reached (R251, R374). -/
def windowReach (s : State) (p : Port) (t : BitVec 12) : Bool :=
  (sliceOf s t.toNat).isSome &&
    match p with
    | .mgmt => true
    | .tenant n => decide (n = t)
    | .sec => false

/-- A write at a location of class T or of the management window: out of reach it is denied or ignored (R40, R359, R374), asleep it is
ignored (R290) and, where a register lies there (R359), noted for the report at wake, and awake it is activity and then acts (R280). A management
write is activity at a reserved location too (R279; DEDUCED, assumption log 54). -/
def portWrite (s : State) (p : Port) (reach : Bool) (addr : BitVec 22) (f : State → State) : State :=
  if live s then
    match p with
    | .mgmt => if sleeping s then (if reach && located addr then sleepIgnore s addr else s) else if reach then f (activity s false) else activity s false
    | .tenant t => if !reach then deniedWrite s t.toNat else if sleeping s then s else f (activity s false)
    | .sec => s
  else s

/-- The byte address of a target-window register (R38). -/
def targetAddr (t off : Nat) : BitVec 22 := BitVec.ofNat 22 (0x200000 + 32 * t + off)

/-- The byte address of a register of an entry-access unit, by its offset from the LOCK register (R251, R256). -/
def eaAddr (u : EaId) (off : Nat) : BitVec 22 :=
  match u with
  | .mgmt => BitVec.ofNat 22 (0x200 + off)
  | .tw t => BitVec.ofNat 22 (0x80000 + 128 * t.toNat + 8 + off)

end Sys2Proof.Machine
end

