-- ==== Sys2Proof/Machine/EntryAccess.lean ====
section
/-! DEFINITION. Entry access: locks and leases (R257 to R261), the commands of R255, fences (R138), and the data words (R375 to R378). -/

namespace Sys2Proof.Machine

/-! ### Locks -/

/-- The units of entry access. -/
def units (s : State) : List EaId := .mgmt :: s.eaT.map fun e => EaId.tw (BitVec.ofNat 12 e.1)

/-- Every unit with its lock. -/
def locksHeld (s : State) : List (EaId × Lock) :=
  (s.eaM.lock.toList.map fun l => (EaId.mgmt, l))
    ++ s.eaT.filterMap fun e => e.2.lock.map fun l => (EaId.tw (BitVec.ofNat 12 e.1), l)

/-- Lease timers in use (R244). -/
def leaseBusy (s : State) : Nat := (locksHeld s).length

/-- The index by which a unit's entry is known: a tenant's slice view is its own (R254). -/
def entryIndex (u : EaId) (e : EaUnit) : Nat :=
  match u with
  | .mgmt => e.index.toNat
  | .tw t => if e.kind = 6 then t.toNat else e.index.toNat

/-- A lock is on the entry of a kind and index. -/
def lockOn (l : Lock) (kind : BitVec 3) (i : Nat) : Bool := decide (l.kind = kind) && decide (l.index.toNat = i)

/-- The unit holds the lock on the entry that its KIND and INDEX name (R255). -/
def holdsLock (u : EaId) (e : EaUnit) : Bool :=
  match e.lock with
  | some l => lockOn l e.kind (entryIndex u e)
  | none => false

/-- The entry that a unit names is in reach, and a structure is formed (R254, R388). -/
def entryReach (s : State) (u : EaId) (e : EaUnit) : Bool :=
  structured s && eaReach s u e.kind.toNat (entryIndex u e)

/-- The lease in milliseconds that LEASE_MS asks for (R256, R258). -/
def leaseOf (s : State) (ms : BitVec 16) : Nat :=
  let n := if ms = 0 then (match s.fu.formed with
    | some f => f.leaseDefaultMs
    | none => 0) else ms.toNat
  min (max n 10) 60000

/-- The lease timer that a unit's lock would take (R258). -/
def freeTimer (s : State) (u : EaId) : Option Nat :=
  let used := (locksHeld s).map fun l => l.2.timer
  match u with
  | .mgmt => some 0
  | .tw _ => (List.range 64).find? fun i => decide (1 ≤ i) && !(used.any (· = i))

/-- A lease restarts (R258). -/
def leaseRestart (s : State) (l : Lock) : Lock := { l with expiry := satTime (regTime s) (oneMs * l.leaseMs.toNat) }

/-- A unit takes the lock on an entry in its reach (R257). -/
def lockTake (s : State) (u : EaId) (kind : BitVec 3) (i : Nat) (lease : BitVec 16) : State :=
  let e := eaOf s u
  if e.lock.isSome || (locksHeld s).any (fun l => lockOn l.2 kind i) then eaRaise s u (bit true eaContended)
  else match freeTimer s u with
    | none => eaRaise s u (bit true eaNoTimer)
    | some n =>
      let l : Lock := { kind := kind, index := BitVec.ofNat 24 i, staged := none, leaseMs := BitVec.ofNat 16 (leaseOf s lease),
                        timer := n, expiry := 0 }
      let s1 := eaPut s u { e with lock := some (leaseRestart s l), broken := false }
      { s1 with tm := { s1.tm with leasePeak := BitVec.ofNat 7 (max s1.tm.leasePeak.toNat (leaseBusy s1)) } }

/-- A command that a unit's BUSY refuses (R255). -/
def ifIdle (u : EaId) (s : State) (f : State → State) : State :=
  if (eaOf s u).busy.isSome then eaRaise s u (bit true eaBusyRej) else f s

/-- ACQUIRE (R257). -/
def acquire (u : EaId) (lease : BitVec 16) (s : State) : State :=
  let e := eaOf s u
  if !entryReach s u e then eaRaise s u (bit true eaRange) else lockTake s u e.kind (entryIndex u e) lease

/-- The tenant that owns a unit's locks (R257); 0 for the management port. -/
def unitTenant (u : EaId) : Nat :=
  match u with
  | .mgmt => 0
  | .tw t => t.toNat

/-- A waiting fence is abandoned (R138, R260). -/
def fenceDrop (e : EaUnit) : EaUnit :=
  match e.busy with
  | some (.fencing _ _) => { e with busy := none }
  | some (.fenceRead _) => { e with busy := none }
  | _ => e

/-- A lock is broken (R260, R261). -/
def lockBreak (s : State) (u : EaId) (cause : Nat) : State :=
  let e := eaOf s u
  match e.lock with
  | none => s
  | some l =>
    let s1 := eaPut s u { fenceDrop e with lock := none, broken := true }
    let s2 := raiseStatus (eaRaise s1 u (bit true eaLockBroken)) stLockBroken
    let s3 := match u with
      | .mgmt => s2
      | .tw t => twRaise s2 t.toNat twLockBroken
    let port := match u with
      | .mgmt => 0
      | .tw _ => 1
    jnl s3 0x61 (BitVec.ofNat 24 (cause * 65536 + unitTenant u)) (now s)
      [(4, w32 l.kind.toNat), (5, w32 l.index.toNat), (6, w32 port), (7, if l.staged.isSome then 1 else 0)]

/-! ### Commands -/

/-- The eight words of an entry as applied (R375, R377, R378); none for a VTE that is not on chip. -/
def entryWords (s : State) (kind i : Nat) : Option Words8 :=
  if kind = 1 then (vteOn s i).map fun v => vteWords v (vteState s i)
  else if kind = 2 then
    let g := tgtOf s i
    some (tdWords g (deckle i g.ringLog2))
  else if kind = 3 then some (groupWords (groupOf s (i / 4)) (i % 4))
  else if kind = 4 then some (couchWords (couchOf s i) (effMode s i))
  else (sliceOf s i).map sliceWords

/-- A command reads the row of the VTE that its unit names (R321). -/
def rowRead (s : State) (u : EaId) : State :=
  let e := eaOf s u
  if e.kind = 1 then cacheRead s (entryIndex u e) else s

/-- A READ of an entry that is not in a VTE row ends with its words, or with zeros and RANGE where it lies out of reach (R254, R255). -/
def readEnd (s : State) (u : EaId) (kind i : Nat) : State :=
  let e := { eaOf s u with busy := none }
  match entryWords s kind i, eaReach s u kind i with
  | some w, true => eaRaise (eaPut s u { e with data := w }) u (bit true eaDone)
  | _, _ => eaRaise (eaPut s u { e with data := Vector.replicate 8 0 }) u (bit true eaRange ||| bit true eaDone)

/-- The READs that wait for the reload of a descriptor end (R255, R316). -/
def tdReadsEnd (s : State) (t : Nat) : State :=
  forEach ((units s).filter fun u => decide ((eaOf s u).busy = some (.readingTd t))) s fun s u => readEnd s u 2 t

/-- READ (R255, R375, R388); an entry whose row is being reloaded is waited for (R316). -/
def eaRead (u : EaId) (s : State) : State :=
  ifIdle u s fun s =>
    let e := eaOf s u
    let i := entryIndex u e
    if !structured s then eaRaise s u (bit true eaRange)
    else if !entryReach s u e then
      eaRaise (eaPut s u { e with data := Vector.replicate 8 0 }) u (bit true eaRange ||| bit true eaDone)
    else
      let s := rowRead s u
      if decide (e.kind = 1) && reloading s i then eaPut s u { e with busy := some (.reading i) }
      else if decide (e.kind = 2) && tdReloading s i then eaPut s u { e with busy := some (.readingTd i) }
      else match entryWords s e.kind.toNat i with
        | some w => eaRaise (eaPut (if e.kind = 1 then touch s i else s) u { e with data := w }) u (bit true eaDone)
        | none => fetchVte (eaPut s u { e with busy := some (.reading i) }) i

/-- A lease whose instant has passed expires before a command of its owner acts (R241); one whose instant is now does not, since the
command then acts first (R360). -/
def leaseLapse (s : State) (u : EaId) : State :=
  match (eaOf s u).lock with
  | some l => if l.expiry < regTime s then lockBreak s u 1 else s
  | none => s

/-- What the lock on an entry lets a command do; without it NO_LOCK (R255). -/
def withLock (s : State) (u : EaId) (kind : BitVec 3) (i : Nat) (f : State → Lock → State) : State :=
  match (eaOf s u).lock with
  | some l => if lockOn l kind i then f s l else eaRaise s u (bit true eaNoLock)
  | none => eaRaise s u (bit true eaNoLock)

/-- A command that needs reach and the lock (R254, R255). -/
def ifLocked (u : EaId) (s0 : State) (ok : Bool) (f : State → Lock → State) : State :=
  ifIdle u (leaseLapse s0 u) fun s =>
    let e := eaOf s u
    if !(ok && entryReach s u e) then eaRaise s u (bit true eaRange) else withLock s u e.kind (entryIndex u e) f

/-- Words go to a lock's staging buffer, and the lease restarts (R255, R258). -/
def stageTake (w : Words8) (u : EaId) (s : State) (l : Lock) : State :=
  eaPut s u { eaOf s u with lock := some (leaseRestart s { l with staged := some w }) }

/-- STAGE (R255). -/
def eaStage (u : EaId) (s : State) : State :=
  ifLocked u s (decide ((eaOf s u).kind ≠ 6)) fun s l => stageTake (eaOf s u).data u s l

/-- Who asks for a unit's change: in a tenant window the fabric manager's field rules hold for a management access (R251). -/
def callerOf (p : Port) : Caller :=
  match p with
  | .tenant t => .tenant t
  | _ => .mgmt

/-- APPLY (R255, R354). -/
def eaApply (p : Port) (u : EaId) (s : State) : State :=
  ifLocked u s (decide ((eaOf s u).kind ≠ 6)) fun s l =>
    let e := eaOf s u
    let s0 := rowRead s u
    let s1 := eaPut s0 u { e with lock := some (leaseRestart s { l with staged := none }), busy := some .applying }
    submit s1 e.kind.toNat (entryIndex u e) { caller := callerOf p, u := some u, words := l.staged }

/-- RELEASE (R138, R255): the entry's reach is judged first, so that a lock on an entry that has left it since the ACQUIRE stays until its lease
ends (R119, R254, assumption log 79). -/
def eaRelease (u : EaId) (s : State) : State :=
  let e := eaOf s u
  let waits := match e.busy with
    | some (.fencing _ _) => false
    | some (.fenceRead _) => false
    | some _ => true
    | none => false
  if waits then eaRaise s u (bit true eaBusyRej)
  else if structured s && !entryReach s u e then eaRaise s u (bit true eaRange)
  else if holdsLock u e then eaPut s u { fenceDrop e with lock := none }
  else eaRaise s u (bit true eaNoLock)

/-- FENCE (R138, R255); an entry off chip is read for its EPOCH. -/
def eaFence (u : EaId) (s : State) : State :=
  ifLocked u s (decide ((eaOf s u).kind = 1)) fun s _ =>
    let e := eaOf s u
    let h := entryIndex u e
    let s := rowRead s u
    match vteOn s h with
    | some v => fenceCheck (eaPut s u { e with busy := some (.fencing h v.epoch) }) u
    | none => fetchVte (eaPut s u { e with busy := some (.fenceRead h) }) h

/-- A write at a unit's registers reaches it (R251, R374). -/
def unitReach (s : State) (p : Port) (u : EaId) : Bool :=
  match u with
  | .mgmt => decide (p = .mgmt)
  | .tw t => windowReach s p t

/-- A command register write of a unit: LOCK at offset 0, CMD at offset 12 (R256). -/
def unitWrite (s : State) (p : Port) (u : EaId) (off : Nat) (f : State → State) : State :=
  portWrite s p (unitReach s p u) (eaAddr u off) f

/-- ACQUIRE (R257). -/
def execAcquire (port : Port) (u : EaId) (lease : BitVec 16) (s : State) : Host.Outcome State Fault Refusal :=
  .next (writeAt s port fun s => unitWrite s port u 0 (acquire u lease))

/-- READ (R255). -/
def execRead (port : Port) (u : EaId) (s : State) : Host.Outcome State Fault Refusal :=
  .next (writeAt s port fun s => unitWrite s port u 12 (eaRead u))

/-- STAGE (R255). -/
def execStage (port : Port) (u : EaId) (s : State) : Host.Outcome State Fault Refusal :=
  .next (writeAt s port fun s => unitWrite s port u 12 (eaStage u))

/-- APPLY (R255). -/
def execApply (port : Port) (u : EaId) (s : State) : Host.Outcome State Fault Refusal :=
  .next (writeAt s port fun s => unitWrite s port u 12 (eaApply port u))

/-- RELEASE (R255). -/
def execRelease (port : Port) (u : EaId) (s : State) : Host.Outcome State Fault Refusal :=
  .next (writeAt s port fun s => unitWrite s port u 12 (eaRelease u))

/-- FENCE (R138). -/
def execFence (port : Port) (u : EaId) (s : State) : Host.Outcome State Fault Refusal :=
  .next (writeAt s port fun s => unitWrite s port u 12 (eaFence u))

/-- The unit whose lock runs on a lease timer and has run out (R258, R259). -/
def leaseDue (s : State) (n : Nat) : Option EaId :=
  ((locksHeld s).find? fun l => decide (l.2.timer = n) && decide (l.2.expiry ≤ regTime s)).map fun l => l.1

/-- LEASE_EXPIRY (R259). -/
def execLeaseExpiry (timer : Fin 64) (s : State) : Host.Outcome State Fault Refusal :=
  .next (if awake s then
      match leaseDue s timer.val with
      | some u => lockBreak (activity s false) u 1
      | none => s
    else s)

end Sys2Proof.Machine
end

