-- ==== Sys2Proof/Machine/Targets.lean ====
section
/-! DEFINITION. The target window's writes (R149, R157, R160, R175, R176, R199, R200, R217), the mask latch (R153), and the
per-target and per-tenant instants (R179, R180, R242). -/

namespace Sys2Proof.Machine

/-! ### What the writes do -/

/-- An EOI enters its handle's lane, or is stray where the handle has no vector (R157, R159). -/
def applyEoi (s : State) (t h : Nat) : State :=
  if decide (h < 4096) || (handleSlice s h).isSome then
    let v := vecOf s h
    enqueue (vecPut s h { v with eois := v.eois ++ [BitVec.ofNat 16 t] }) h
  else eoiStray s h t 4 0xFFFFFFFF

/-- Group events in the stream of a member whose PSTATE becomes 2 or 3 leave it, to be chosen again (R186). -/
def memberSleeps (s : State) (t : Nat) : State :=
  forEach ((streamOf s t).filter fun e => e.2.snap.cfg.groupTarget) s fun s e => leaveStream s e.1

/-- A hint: a change of PSTATE ends the grace period (R175, R178). -/
def applyHint (s : State) (t : Nat) (v : BitVec 2) : State :=
  let g := tgtOf s t
  let s1 := tgtPut s t { g with pstate := v, graceEnd := if g.pstate = v then g.graceEnd else 0 }
  if decide (g.pstate ≠ v) && decide (2 ≤ v.toNat) then settleAll (memberSleeps s1 t) else s1

/-- The position that a HEAD write names is accepted (R200). -/
def headOk (t : Nat) (g : Tgt) (i : BitVec 20) (par : Bool) : Bool :=
  let n := ringSize t g
  decide (i.toNat < n) && decide (ringDist n (ringPos n g.head g.headPar) (ringPos n i par) ≤ unread t g)

/-- A HEAD write (R63, R199, R200, R219, R221): PHASE 1 names a pass of parity 0. -/
def applyHead (s : State) (t : Nat) (w : Word) : State :=
  let g0 := tgtOf s t
  let g := if isLocal t then { g0 with arm := false } else g0
  let i := fld w 0 20
  let par := !w.getLsbD 20
  if headOk t g i par then
    if decide (i = g.head) && decide (par = g.headPar) then tgtPut s t g
    else wdogFix (tgtPut s t { g with head := i, headPar := par, stalled := false, resend := 0, wdog := none }) t
  else tgtPut s t g

/-- A rearm (R57, R63, R217). -/
def applyRearm (s : State) (t : Nat) (mgmt : Bool) : State :=
  let g := tgtOf s t
  if isLocal t then tgtPut s t { g with arm := true, stalled := false, resend := 0 }
  else
    let s1 := tgtPut s t { g with stalled := false, resend := 0 }
    let s2 := if unread t g = 0 then s1
      else if g.batch.isSome then tgtPut s1 t { tgtOf s1 t with rearm := true }
      else sendBell s1 t
    let s3 := if mgmt && g.unreach && !g.hostUnreach then clearUnreach s2 t false else s2
    wdogFix s3 t

/-- THRESHOLD of a target is for two parties to change: a local target under DC_SCOPE[5] (R172, R262). -/
def thresholdKept (s : State) (p : Port) (t : Nat) : Bool :=
  decide (p = .mgmt) && isLocal t && localScope s

/-- A masked CPRIO write (R149, R351): mask bit n of the upper half selects bit n. THRESHOLD stays where the writer may not change it
(R172), and a descriptor's row in reload keeps what was written (R316). -/
def applyCprio (s : State) (p : Port) (t : Nat) (w : Word) : State :=
  let g := tgtOf s t
  let m : BitVec 16 := fld w 16 16 &&& (if thresholdKept s p t then 0x003F else 0xFFFF)
  let d : BitVec 16 := fld w 0 16
  tgtPut s t { g with threshold := (g.threshold &&& ~~~(fld m 8 6)) ||| (fld d 8 6 &&& fld m 8 6),
                      thrKeep := if tdReloading s t then g.thrKeep ||| fld m 8 6 else g.thrKeep,
                      cprio := (g.cprio &&& ~~~(fld m 0 6)) ||| (fld d 0 6 &&& fld m 0 6) }

/-! ### Queues in sleep -/

/-- Places of the EOI queue and of the hint queue (R160, R176). -/
def queueMax : Nat := 64

/-- A write finds its queue full: it is held, and a wake starts whatever is enabled (R160). -/
def queueHold (s : State) (q : Queued) : State := wakeSource { s with pw := { s.pw with heldWrites := s.pw.heldWrites ++ [q] } } 8

/-- A queue takes a write: it has a place, and no write before it is held (R160, R176, assumption log 70). -/
def queueOpen (s : State) (q : List Queued) : Bool := decide (q.length < queueMax) && s.pw.heldWrites.isEmpty

/-- An EOI is queued (R160). -/
def queueEoi (s : State) (q : Queued) : State :=
  if queueOpen s s.pw.eoiQ then { s with pw := { s.pw with eoiQ := s.pw.eoiQ ++ [q] } } else queueHold s q

/-- A hint, head or rearm write is queued (R176, R217). -/
def queueHint (s : State) (q : Queued) : State :=
  if queueOpen s s.pw.hintQ then { s with pw := { s.pw with hintQ := s.pw.hintQ ++ [q] } } else queueHold s q

/-- A queued write applies (R246). -/
def applyQueued (s : State) (q : Queued) : State :=
  match q with
  | .eoi t h => applyEoi s t.toNat h.toNat
  | .hint t v => applyHint s t.toNat v
  | .head t w => applyHead s t.toNat w
  | .rearm t m => applyRearm s t.toNat m

/-- The queue that a write takes in sleep. -/
def queueWrite (s : State) (q : Queued) : State :=
  match q with
  | .eoi _ _ => queueEoi s q
  | _ => queueHint s q

/-- A write that sleep queues (R160, R176, R217, R290). -/
def queuedWrite (s : State) (p : Port) (t : BitVec 16) (off : Nat) (q : Queued) : State :=
  if live s && sleeping s && targetReach s p t.toNat then queueWrite s q
  else portWrite s p (targetReach s p t.toNat) (targetAddr t.toNat off) fun s => applyQueued s q

/-- The answer to a write: none while the front end holds it (R160, R176). -/
def doneUnlessHeld (s t : State) (p : Port) : State := if t.pw.heldWrites.length = s.pw.heldWrites.length then portDone t p else t

/-- A write of a register whose writes sleep queues, at its port (R36, R160). -/
def queuedAt (s : State) (p : Port) (f : State → State) : State := portServe s fun s => doneUnlessHeld s (f s) p

/-- T_EOI (R157, R158). -/
def execTEoi (port : Port) (target : BitVec 16) (wdata : Word) (s : State) : Host.Outcome State Fault Refusal :=
  .next (queuedAt s port fun s => queuedWrite s port target 4 (.eoi target (fld wdata 0 24)))

/-- T_HEAD (R200). -/
def execTHead (port : Port) (target : BitVec 16) (wdata : Word) (s : State) : Host.Outcome State Fault Refusal :=
  .next (queuedAt s port fun s => queuedWrite s port target 8 (.head target wdata))

/-- T_REARM (R217). -/
def execTRearm (port : Port) (target : BitVec 16) (_wdata : Word) (s : State) : Host.Outcome State Fault Refusal :=
  .next (queuedAt s port fun s => queuedWrite s port target 0x14 (.rearm target (decide (port = .mgmt))))

/-- T_HINT (R176). -/
def execTHint (port : Port) (target : BitVec 16) (wdata : Word) (s : State) : Host.Outcome State Fault Refusal :=
  .next (queuedAt s port fun s => queuedWrite s port target 0x0C (.hint target (fld wdata 0 2)))

/-- T_CPRIO (R149). -/
def execTCprio (port : Port) (target : BitVec 16) (wdata : Word) (s : State) : Host.Outcome State Fault Refusal :=
  .next (writeAt s port fun s =>
    portWrite s port (targetReach s port target.toNat) (targetAddr target.toNat 0) fun s => applyCprio s port target.toNat wdata)

/-- A read of `IV_T_AMASK_LO` (R153). -/
def amaskRead (s : State) (p : Port) (t : Nat) : State :=
  if live s && targetReach s p t then
    let g := tgtOf s t
    portAnswer { s with ts := { s.ts with targets := put s.ts.targets t { g with amaskLatch := fld g.amask 32 32 } } } p (fld g.amask 0 32) false
  else match p with
    | .tenant n => portAnswer (denied s n.toNat) p 0 false
    | _ => portAnswer s p 0 false

/-- AMASK_LO_READ (R153). -/
def execAmaskLoRead (port : Port) (target : BitVec 16) (s : State) : Host.Outcome State Fault Refusal :=
  .next (portServe s fun s => amaskRead s port target.toNat)

/-! ### Instants -/

/-- Wake credits refill a number of times, up to each tenant's bucket (R180, R243). -/
def creditRefill (s : State) (n : Nat) : State :=
  match s.fu.formed with
  | none => s
  | some f => forEach f.slices s fun s e =>
      let x := tnOf s e.tenant
      tnPut s e.tenant { x with credits := BitVec.ofNat 16 (min (x.credits.toNat + n * e.refill) e.bucket) }

/-- The credit tick, once for every multiple of 1,000,000 ns (R180, R243). -/
def creditTick (s : State) : State :=
  let n := ticksDue s 1000000 s.tm.ticks.credit
  if n = 0 then s
  else creditRefill { s with tm := { s.tm with ticks := { s.tm.ticks with credit := now s / 1000000 } } } n

/-- A vector's event that waits for its deadline is due (R242). -/
def deadlineDue (s : State) (h : Nat) : Bool :=
  match (vecOf s h).ev with
  | some ev => decide (ev.deadline ≤ now s)
  | none => true

/-- A waiting event's deadline arrives: it is an input of its lane, and considered again in a round (R164, R179, R189, R241). -/
def deadlineAct (s : State) (h : Nat) : State := unlessFatal s fun s => inputRound (enqueue (calLeave s h) h) h

/-- A calendar entry's instant has come (R242). -/
def calDue (s : State) (id : Nat) : Bool :=
  if id < 16777216 then deadlineDue s id
  else limitDue s (id - 16777216)

/-- A calendar entry acts once its instant has come (R242); after a fatal fault nothing is decided (R318). -/
def calendarAct (s : State) (id : Nat) : State :=
  unlessFatal s fun s =>
    if calDue s id then (if id < 16777216 then deadlineAct s id else couchDecision s (id - 16777216) none) else s

/-- DEADLINE_ARRIVAL (R179). -/
def execDeadlineArrival (h : BitVec 24) (s : State) : Host.Outcome State Fault Refusal :=
  .next (if live s && s.vs.calendar.any (· = h.toNat) && deadlineDue s h.toNat && (ranking s || decide (s.md.mode = .idle))
      && s.flt.fatal.isNone then deadlineAct (activity s false) h.toNat else s)

/-- The sweep of entries that found the calendar full, at every multiple of 1,024 ns: due entries act, which is activity
(R233, R242, R243, R279). -/
def sweepTick (s : State) : State :=
  if ticksDue s 1024 s.tm.ticks.sweep = 0 then s
  else
    let s1 := { s with tm := { s.tm with ticks := { s.tm.ticks with sweep := now s / 1024 } } }
    let due := s1.vs.sweepList.filter (calDue s1)
    if due.isEmpty then s1 else forEach due (activity s1 false) calendarAct

/-- SWEEP (R242, R243). -/
def execSweep (s : State) : Host.Outcome State Fault Refusal :=
  .next (if live s && (ranking s || decide (s.md.mode = .idle)) && s.flt.fatal.isNone then sweepTick s else s)

end Sys2Proof.Machine
end

