-- ==== Sys2Proof/Machine/Hosts.lean ====
section
/-! DEFINITION. Host-state events (R71, R72): reachability of a tenant's remote targets and the locks of its window, and their hold
through sleep (R291). -/

namespace Sys2Proof.Machine

/-- The remote targets whose TD TENANT is a tenant's (R72): those of its slice, and others whose stored descriptor names it (R112). -/
def tenantTargets (s : State) (t : Nat) : List Nat :=
  match sliceOf s t with
  | none => []
  | some e =>
    let own := (List.range e.targetCount).map fun i => e.targetBase + i
    let others := (s.ts.targets.map fun g => g.1).filter fun x => decide (x < e.targetBase) || decide (e.targetBase + e.targetCount ≤ x)
    (own ++ others).filter fun x => !isLocal x && decide ((tgtOf s x).tenant.toNat = t)

/-- The cause that TARGET_UNREACH and LOCK_BROKEN carry for an event kind (R188, R261). -/
def hostCause (k : HostKind) : Nat :=
  match k with
  | .linkUp => 0
  | .linkDown => 1
  | .lowPower => 2
  | .reset => 3

/-- What an event does to the locks of its tenant's window (R72, R259). -/
def hostLocks (s : State) (t : BitVec 12) (k : HostKind) : State :=
  match k with
  | .linkDown => lockBreak s (.tw t) 2
  | .reset => lockBreak s (.tw t) 3
  | _ => s

/-- A host-state event applies: its tenant's locks, and then its targets in rising order (R72, R260). -/
def applyHost (s : State) (e : HostEvt) : State :=
  let t := e.tenant.toNat
  if decide (t = 0) || (sliceOf s t).isNone then s
  else
    let s1 := hostLocks s e.tenant e.kind
    engineSettle (settleAll (forEach (tenantTargets s1 t) s1 fun s x =>
      match e.kind with
      | .linkUp => clearUnreach s x true
      | _ => setUnreach s x (hostCause e.kind) (e.host.setWidth 32)))

/-- IV_HOST_EVT_ACK pulses for an event that has been applied, or ignored (R71). -/
def hostAck (s : State) : State := { s with io := { s.io with hostAcks := s.io.hostAcks + 1 } }

/-- A host-state event applies and is acknowledged (R71, R291). -/
def hostTake (s : State) (e : HostEvt) : State := hostAck (applyHost s e)

/-- A host-state event arrives (R71, R291). -/
def hostEvent (s : State) (e : HostEvt) : State :=
  if live s then
    if sleeping s then wakeSource { s with pw := { s.pw with hostQ := s.pw.hostQ ++ [e] } } 7
    else hostTake (activity s false) e
  else s

/-- LINK_UP (R72). -/
def execLinkUp (host : BitVec 8) (tenant : BitVec 12) (s : State) : Host.Outcome State Fault Refusal :=
  .next (hostEvent s { host := host, tenant := tenant, kind := .linkUp })

/-- LINK_DOWN (R72). -/
def execLinkDown (host : BitVec 8) (tenant : BitVec 12) (s : State) : Host.Outcome State Fault Refusal :=
  .next (hostEvent s { host := host, tenant := tenant, kind := .linkDown })

/-- LOW_POWER (R72). -/
def execLowPower (host : BitVec 8) (tenant : BitVec 12) (s : State) : Host.Outcome State Fault Refusal :=
  .next (hostEvent s { host := host, tenant := tenant, kind := .lowPower })

/-- HOST_RESET (R72). -/
def execHostReset (host : BitVec 8) (tenant : BitVec 12) (s : State) : Host.Outcome State Fault Refusal :=
  .next (hostEvent s { host := host, tenant := tenant, kind := .reset })

end Sys2Proof.Machine
end

