-- ==== Sys2Proof/Machine/Ingress.lean ====
section
/-! DEFINITION. Message intake: taking a beat (R44 to R50), classification (R122 to R126), parking, strangers and quarantine
(R73, R127), and the arrival of an entry that messages wait for (R130, R132). -/

namespace Sys2Proof.Machine

/-- Vat slots (R122). -/
def vatMax : Nat := 8192

/-- The reason field of a NOISE record's ARG (R126). -/
def noiseArg (reason : Nat) : Nat := if reason = 11 then 0 else reason % 16

/-- A noise beat is counted and journaled (R125, R126). -/
def noise (s : State) (b : Beat) (stamp reason : Nat) (h : Option Nat) : State :=
  let s1 := raiseStatus { s with cnt := { s.cnt with noise := s.cnt.noise + 1 } } stNoise
  let s2 := match h with
    | some h => addDropped s1 h 1
    | none => s1
  jnlRated s2 b.tenant.toNat 0x21 (BitVec.ofNat 24 (noiseArg reason * 1048576 + b.port.toNat * 4096 + b.tenant.toNat)) stamp
    [(4, b.off.setWidth 32), (5, at_ 32 16 b.len ||| at_ 32 0 b.rid),
     (6, match h with
       | some h => w32 h
       | none => 0xFFFFFFFF), (7, w32 reason)]

/-- The stranger window of a port. -/
def portOf (s : State) (p : Nat) : PortWin := (find s.vat.ports p).getD { count := 0, raised := false }

/-- A stranger counts against its port, and may raise a quarantine request (R73, R127). -/
def quarCount (s : State) (p : BitVec 8) (sender : BitVec 12) : State :=
  let w := portOf s p.toNat
  let n := w.count + 1
  let req := s.ctl.quarEn && decide (n = 1024) && !w.raised
  let s1 := { s with vat := { s.vat with
    ports := put s.vat.ports p.toNat { count := n, raised := w.raised || req },
    quar := if req && !(s.vat.quar.any (· = p)) then s.vat.quar ++ [p] else s.vat.quar } }
  if req then jnl s1 0x23 (p.setWidth 24) (now s) [(4, w32 n), (5, sender.setWidth 32)] else s1

/-- A stranger is counted in three places and journaled (R125, R126). -/
def stranger (s : State) (b : Beat) (stamp reason h : Nat) (e : Vte) : State :=
  let s1 := raiseStatus { s with cnt := { s.cnt with stranger := s.cnt.stranger + 1 } } stStranger
  let s2 := addDropped s1 h 1
  let t := b.tenant.toNat
  let x := tnOf s2 t
  let s3 := twRaise (tnPut s2 t { x with strangers := x.strangers + 1 }) t twStranger
  let s4 := jnlRated s3 t 0x20 (BitVec.ofNat 24 (reason * 1048576 + b.port.toNat * 4096 + t)) stamp
    [(4, w32 h), (5, at_ 32 16 e.cfg.tenant ||| at_ 32 0 b.rid), (6, b.data), (7, at_ 32 0 e.epoch)]
  quarCount s4 b.port b.tenant

/-- A slot among others, in take order (R122). -/
def slotInsert (x : Slot) (l : List Slot) : List Slot :=
  match l with
  | [] => [x]
  | y :: r => if x.no < y.no then x :: y :: r else y :: slotInsert x r

/-- A slot takes its place in the vat (R122). -/
def vatPut (s : State) (x : Slot) : State := { s with vat := { s.vat with slots := slotInsert x s.vat.slots } }

/-- A beat that is taken occupies a slot as STAGED; PARK_OVF where it is the last one free (R23, R122, R366). -/
def vatStage (s : State) : State := if vatMax ≤ s.vat.slots.length + 1 then raiseStatus s stParkOvf else s

/-- The beat kinds that a vector accepts (R116). -/
def accepts (k : BitVec 4) (b : BeatKind) : Bool :=
  match b with
  | .memWrite => decide (k = 1) || decide (k = 2) || decide (k = 4)
  | .assert => decide (k = 3)
  | .deassert => decide (k = 3)
  | .rouse => false

/-- The origin checks of R123: 0 passes, else the stranger reason of R126. -/
def originReason (e : VteCfg) (b : Beat) : Nat :=
  if !e.originCheck then 0
  else if b.rid ≠ e.originRid then 2
  else if b.port ≠ e.originPort then 3
  else if (decide (e.kind = 2) || decide (e.kind = 4)) && decide (b.data ≠ e.data) then 4
  else if decide (e.kind = 1) && decide (b.data >>> 5 ≠ e.data >>> 5) then 4
  else 0

/-- The post-resolution checks on an entry that is on chip (R123): the slot is CHECKED, or frees as noise or stranger. -/
def postResolve (s : State) (x : Slot) (h : Nat) (e : Vte) : State :=
  let b := x.beat
  if !e.cfg.valid then creditBack (noise s b x.stamp 9 (some h)) x.lane
  else if !accepts e.cfg.kind x.kind then creditBack (noise s b x.stamp 10 (some h)) x.lane
  else if e.cfg.tenant ≠ b.tenant then creditBack (stranger s b x.stamp 1 h e) x.lane
  else if originReason e.cfg b ≠ 0 then creditBack (stranger s b x.stamp (originReason e.cfg b) h e) x.lane
  else
    let s1 := enqueue (vatPut s { x with st := .checked h (snapOf e) }) h
    if decide (x.kind = .memWrite) && decide (4 < b.len.toNat) then
      jnlRated s1 b.tenant.toNat 0x22 (BitVec.ofNat 24 (b.port.toNat * 4096 + b.tenant.toNat)) x.stamp
        [(4, w32 h), (5, at_ 32 16 b.len ||| at_ 32 0 b.rid), (6, b.data), (7, at_ 32 0 e.epoch)]
    else s1

/-- The checks that need the slice table, and the vector store's answer, which reads the entry's row (R117, R123, R130, R321). The slot is
not in the vat. -/
def resolve (s : State) (x : Slot) : State :=
  let b := x.beat
  match sliceOf s b.tenant.toNat with
  | none => creditBack (noise s b x.stamp 4 none) x.lane
  | some e =>
    if e.vecCount = 0 then creditBack (noise s b x.stamp 4 none) x.lane
    else
      let idx := b.off.toNat / 4
      if e.vecCount ≤ idx then creditBack (noise s b x.stamp 5 none) x.lane
      else
        let h := e.base + idx
        let s := cacheRead s h
        match vteOn s h with
        | some v => if reloading s h then vatPut s { x with st := .fetching h } else postResolve (touch s h) x h v
        | none => fetchVte (vatPut s { x with st := .fetching h }) h

/-- The structure-free checks (R123): the noise reason, or 0. -/
def freeReason (k : BeatKind) (b : Beat) : Nat :=
  if b.poison then 1
  else if k = .memWrite then
    (if b.len.toNat < 4 then 2 else if 4096 < b.len.toNat then 12 else if b.off.toNat % 4 ≠ 0 then 3 else 0)
  else 0

/-- Parked slots of a tenant. -/
def parkedOf (s : State) (t : BitVec 12) : Nat :=
  (s.vat.slots.filter fun x => decide (x.st = .parked) && decide (x.beat.tenant = t)).length

/-- A beat is taken on a lane (R45, R46, R122, R123). -/
def takeBeat (s : State) (lane : Fin 4) (k : BeatKind) (b : Beat) : State :=
  let s1 := { s with cnt := { s.cnt with ingress := s.cnt.ingress + 1 } }
  let n : Nat := s1.vat.credits[lane]
  if n = 0 then noise s1 b (now s) 11 none
  else
    let s0 := { s1 with vat := { s1.vat with credits := s1.vat.credits.set lane (n - 1), taken := s1.vat.taken + 1 } }
    let s2 := if decide (k = .rouse) && !b.poison then s0 else vatStage s0
    let x : Slot := { no := s.vat.taken, lane := lane, kind := k, beat := b, stamp := now s, st := .parked }
    if decide (k = .rouse) && !b.poison then creditBack s2 lane
    else if freeReason k b ≠ 0 then creditBack (noise s2 b (now s) (freeReason k b) none) lane
    else if decide (drainTenant s2 = some b.tenant.toNat) && decide (1024 ≤ parkedOf s2 b.tenant) then
      creditBack (noise { s2 with fu := { s2.fu with discarded := s2.fu.discarded + 1 } } b (now s) 6 none) lane
    else if decide (s2.md.mode ≠ .serving) || decide (drainTenant s2 = some b.tenant.toNat) then
      vatPut { s2 with cnt := { s2.cnt with parked := s2.cnt.parked + 1 } } x
    else resolve s2 x

/-- Fabric-message wake is enabled (R291). -/
def fabricWake (s : State) : Bool := s.ctl.wakeEn.getLsbD 2

/-- A beat is presented: taken, or held at its lane while IV_IN_HOLD is 1; in REST and DORMANT it may wake Ivsyn (R45, R48, R280, R284,
R296). -/
def present (s : State) (lane : Fin 4) (k : BeatKind) (b : Beat) : State :=
  if !live s then s
  else if sleeping s then (if fabricWake s then wakeSource s 3 else s)
  else
    let s1 := activity s true
    if inHold s1 then s1 else takeBeat s1 lane k b

/-- MEMORY_WRITE_BEAT (R49). -/
def execMemoryWriteBeat (lane : Fin 4) (beat : Beat) (s : State) : Host.Outcome State Fault Refusal :=
  .next (present s lane .memWrite beat)

/-- ASSERT_INTX (R50). -/
def execAssertIntx (lane : Fin 4) (beat : Beat) (s : State) : Host.Outcome State Fault Refusal :=
  .next (present s lane .assert beat)

/-- DEASSERT_INTX (R50). -/
def execDeassertIntx (lane : Fin 4) (beat : Beat) (s : State) : Host.Outcome State Fault Refusal :=
  .next (present s lane .deassert beat)

/-- ROUSE (R48). -/
def execRouse (lane : Fin 4) (beat : Beat) (s : State) : Host.Outcome State Fault Refusal :=
  .next (present s lane .rouse beat)

/-- A beat presented while IV_IN_HOLD is 1 is a wake request (R48). -/
def wakeBeat (s : State) : State :=
  if sleeping s then (if fabricWake s then wakeSource s 3 else s) else activity s true

/-- WAKE_BEAT (R48). -/
def execWakeBeat (_lane : Fin 4) (s : State) : Host.Outcome State Fault Refusal :=
  .next (if live s && inHold s then wakeBeat s else s)

/-- IV_QUAR_REQ with IV_QUAR_PORT: the request that stands on the port (R73, R88). -/
def quarReq (s : State) : Option (BitVec 8) :=
  if live s && (ranking s || decide (s.md.mode = .idle)) then s.vat.quar.head? else none

/-- QUAR_ACK: the request on the port is withdrawn and the next is presented (R73). -/
def execQuarAck (s : State) : Host.Outcome State Fault Refusal :=
  .next (if (quarReq s).isSome then { s with vat := { s.vat with quar := s.vat.quar.drop 1 } } else s)

/-- Every port's window ends (R127). -/
def windowsEnd (s : State) : State :=
  { s with vat := { s.vat with ports := s.vat.ports.map fun e =>
      (e.1, { count := 0, raised := e.2.raised && decide (1024 ≤ e.2.count) }) } }

/-- The stranger-window tick, at every multiple of 1,048,576 ns (R127, R243). -/
def strangerTick (s : State) : State :=
  if ticksDue s 1048576 s.tm.ticks.stranger = 0 then s
  else windowsEnd { s with tm := { s.tm with ticks := { s.tm.ticks with stranger := now s / 1048576 } } }

/-- STRANGER_WINDOW_END (R127, R243). -/
def execStrangerWindowEnd (s : State) : Host.Outcome State Fault Refusal := .next (if awake s then strangerTick s else s)

/-- Parked messages that satisfy a condition are released in take order (R122). -/
def releaseParked (s : State) (p : Slot → Bool) : State :=
  let go := s.vat.slots.filter fun x => decide (x.st = .parked) && p x
  let stay := s.vat.slots.filter fun x => !(decide (x.st = .parked) && p x)
  forEach go { s with vat := { s.vat with slots := stay } } resolve

/-- Parked messages are released where the mode is SERVING and their tenant is not in re-form drain (R122). -/
def releaseAll (s : State) : State :=
  if s.md.mode = .serving then
    releaseParked s fun x => decide (drainTenant s ≠ some x.beat.tenant.toNat)
  else s

/-- A slot waits in FETCHING for a handle. -/
def isFetching (h : Nat) (x : Slot) : Bool :=
  match x.st with
  | .fetching k => decide (k = h)
  | _ => false

/-- The slots in FETCHING for a handle, in take order. -/
def fetchingOf (s : State) (h : Nat) : List Slot := s.vat.slots.filter (isFetching h)

/-- The vat without the slots in FETCHING for a handle. -/
def fetchingDrop (s : State) (h : Nat) : State :=
  { s with vat := { s.vat with slots := s.vat.slots.filter fun x => !isFetching h x } }

/-- The waiting messages of an entry that arrived are resolved in take order (R130). -/
def fetchResolve (s : State) (h : Nat) (v : Vte) : State :=
  forEach (fetchingOf s h) (fetchingDrop s h) fun s x => postResolve s x h v

/-- The waiting messages of an entry that could not be had are noise (R132). -/
def fetchNoise (s : State) (h reason : Nat) : State :=
  forEach (fetchingOf s h) (fetchingDrop s h) fun s x => creditBack (noise s x.beat x.stamp reason (some h)) x.lane

end Sys2Proof.Machine
end

