-- ==== Sys2Proof/Machine/Loader.lean ====
section
/-! DEFINITION. The furnish loader: its commands (R103 to R107), the fetch, the wait for approval (R108 to R110, R392), form (R111,
R112), slice re-form (R113 to R115), and its registers (R105). -/

namespace Sys2Proof.Machine

/-! ### The loader's parts -/

/-- Requests for a purpose leave the port; waiting requests take the tags that fall free. -/
def apDrop (s : State) (p : Purpose → Bool) : State :=
  let keep := s.ap.reqs.filter fun e => !p e.2.purpose
  let wait := s.ap.waiting.filter fun r => !p r.purpose
  forEach wait { s with ap := { s.ap with reqs := keep, waiting := [] } } apPut

/-- The purpose is the image's fetch. -/
def isImage (p : Purpose) : Bool := decide (p = .image)

/-- The purpose is the table traffic of a form. -/
def isForm (p : Purpose) : Bool := decide (p = .form)

/-- The number of a command (R104). -/
def opCode (o : Option FurnOp) : Nat :=
  match o with
  | none => 0
  | some .load => 1
  | some (.reform _) => 2
  | some .warm => 4

/-- The aperture offset of the image (R103). -/
def imageOff (s : State) : Nat := s.fu.off.toNat * 64

/-- PHASE while no operation runs (R105). -/
def restPhase (s : State) : Phase := if s.fu.formed.isSome then .formed else .empty

/-- An operation ends without effect on the structure: PHASE returns, and what it held is let go. -/
def opOver (s0 : State) : State :=
  let s := noteBusy s0
  { s with fu := { s.fu with phase := restPhase s, op := none, image := [], computed := none, next := none, discarded := 0,
                                stored := none } }

/-- An operation fails: ERROR, ERR, ERR_SECTION and FURN_ERROR (R110, R111, R392). -/
def fuFail (s : State) (op : Option FurnOp) (e : FurnErr) (bid : DWord) : State :=
  let s1 := opOver s
  let s2 := { s1 with fu := { s1.fu with status := s1.fu.status.raise fuError, err := BitVec.ofNat 8 e.code,
                                         errSection := BitVec.ofNat 8 e.sect } }
  releaseAll (jnl s2 0xA1 (BitVec.ofNat 24 (opCode op * 65536 + e.sect * 256 + e.code)) (now s2)
    [(4, fld bid 0 32), (5, fld bid 32 32), (6, w32 e.word)])

/-- The operation in progress fails. -/
def opFail (s : State) (e : FurnErr) : State := fuFail s s.fu.op e (buildId s.fu.image)

/-- A command is rejected (R106). -/
def cmdRej (s : State) : State := { s with fu := { s.fu with status := s.fu.status.raise fuCmdRej } }

/-- A write of `IV_FURN_CMD` (R106). -/
def furnCmd (s : State) (ok : Bool) (f : State → State) : State :=
  if live s then (if sleeping s then cmdRej s else if ok then f (activity s false) else cmdRej (activity s false)) else s

/-! ### Commands -/

/-- The image that a REFORM names overlaps the formed image's bytes (R110). -/
def imageMeets (s : State) : Bool := rangesMeet (imageOff s) s.fu.len.toNat s.fu.formedOff s.fu.formedImage.length

/-- The checks at the command (R392 orders 1 and 2). -/
def commandErr (s : State) (op : FurnOp) : Option FurnErr :=
  let n := s.fu.len.toNat
  let meets := match op with
    | .reform _ => imageMeets s
    | _ => false
  firstErr [need (decide (64 ≤ n) && decide (n ≤ 1048576) && decide (n % 16 = 0)) 0x01 0 0,
    need (decide (s.ap.log2 ≠ 0) && decide (imageOff s + n ≤ 2 ^ s.ap.log2.toNat) && !meets) 0x02 0 0]

/-- An accepted command starts its fetch, or fails at once (R111 steps 1 and 2). -/
def opStart (op : FurnOp) (s : State) : State :=
  match commandErr s op with
  | some e => fuFail s (some op) e 0
  | none =>
    let s1 := { s with fu := { s.fu with phase := .fetch, op := some op, image := [], computed := none, next := none, discarded := 0 } }
    apBulk s1 .image false [{ offset := imageOff s, count := (s.fu.len.toNat + 31) / 32, words := [] }]

/-- LOAD and WARM_FORM are accepted (R106). -/
def loadOk (s : State) : Bool :=
  decide (s.md.mode = .unformed) && !s.md.engineEn && (decide (s.fu.phase = .empty) || decide (s.fu.phase = .formed))

/-- REFORM is accepted (R106). -/
def reformOk (s : State) (t : BitVec 12) : Bool :=
  (decide (s.md.mode = .unformed) || ranking s || decide (s.md.mode = .idle)) && decide (s.fu.phase = .formed) && decide (t ≠ 0)

/-- ABANDON is accepted (R106). -/
def abandonOk (s : State) : Bool :=
  match s.fu.phase with
  | .fetch => true
  | .await => true
  | .validate => true
  | .drain => true
  | _ => false

/-- ABANDON (R108, R114). -/
def abandon (s : State) : State :=
  let s1 := opOver (apDrop s isImage)
  releaseAll { s1 with fu := { s1.fu with approved := none, status := s1.fu.status.raise fuAbandoned } }

/-- LOAD (R104, R106, R111). -/
def execLoad (s : State) : Host.Outcome State Fault Refusal := .next (writeAt s .mgmt fun s => furnCmd s (loadOk s) (opStart .load))

/-- REFORM (R104, R106, R114). -/
def execReform (tenant : BitVec 12) (s : State) : Host.Outcome State Fault Refusal :=
  .next (writeAt s .mgmt fun s => furnCmd s (reformOk s tenant) (opStart (.reform tenant)))

/-- ABANDON (R106, R108). -/
def execAbandon (s : State) : Host.Outcome State Fault Refusal := .next (writeAt s .mgmt fun s => furnCmd s (abandonOk s) abandon)

/-- WARM_FORM (R104, R106, R112). -/
def execWarmForm (s : State) : Host.Outcome State Fault Refusal := .next (writeAt s .mgmt fun s => furnCmd s (loadOk s) (opStart .warm))

/-! ### Fetch and approval -/

/-- The place of the END body: the last 48 bytes (R102). -/
def endBody (s : State) : Nat := s.fu.image.length - 48

/-- The image as fetched: the bytes that arrived before and those that arrive now, LEN in all. -/
def imageBytes (s : State) (image : List Byte) : List Byte :=
  let n := s.fu.len.toNat
  let im := s.fu.image ++ image
  (im ++ List.replicate (n - im.length) 0).take n

/-- An approved digest that serves the operation is taken and compared (R108, R392 orders 8 and 9). -/
def takeDigest (s : State) (d : Digest) (tenantOk : Bool) : State :=
  let s1 := { s with fu := { s.fu with approved := none } }
  if !tenantOk then opFail s1 { code := 0x21, sect := 0, word := 0 }
  else if s1.fu.computed ≠ some d then opFail s1 { code := 0x0A, sect := 9, word := endBody s1 }
  else { s1 with fu := { s1.fu with phase := .validate } }

/-- In AWAIT the loader takes an approved digest whose kind serves the operation (R108). -/
def loaderTake (s : State) : State :=
  if s.fu.phase = .await then
    match s.fu.op, s.fu.approved with
    | some (.reform t), some (.reform d t') => takeDigest s d (decide (t = t'))
    | some .load, some (.furnish d) => takeDigest s d true
    | some .warm, some (.furnish d) => takeDigest s d true
    | _, _ => s
  else s

/-- The end of FETCH (R392 orders 3 to 6). -/
def fetchEnd (s : State) : State :=
  let im := s.fu.image
  match sections im im.length with
  | .error e => opFail s e
  | .ok _ =>
    let d := imageDigest im im.length
    let warm := decide (s.fu.op = some .warm) && s.ao.digest.isSome && decide (s.ao.digest ≠ some d)
    match firstErr [need (decide (endDigest im im.length = d)) 0x08 9 (endBody s), need (!warm) 0x22 9 (endBody s)] with
    | some e => opFail s e
    | none => loaderTake { s with fu := { s.fu with phase := .await, computed := some d, awaitAt := now s } }

/-- The image has arrived whole (R111 step 3). -/
def imageArrive (s : State) (image : List Byte) : State :=
  let s1 := apDrop s isImage
  fetchEnd { s1 with fu := { s1.fu with image := imageBytes s1 image } }

/-- The next bytes of the image arrive: what they allow to be checked is checked (R111 step 3, R392 orders 3 and 4). -/
def imagePart (s : State) (w : Words8) : State :=
  let im := (s.fu.image ++ wordsBytes w.toList).take s.fu.len.toNat
  let s1 := { s with fu := { s.fu with image := im } }
  match partErr im s.fu.len.toNat with
  | some e => opFail (apDrop s1 isImage) e
  | none => s1

/-- The image could not be read: ERR_SECTION and word 6 name the first unread byte (R392). -/
def imageLost (s : State) : State :=
  let u := unreadAt s.fu.image
  opFail (apDrop s isImage) { code := 0x03, sect := u.1, word := u.2 }

/-- The wait for approval in nanoseconds: 10 s (R110). -/
def awaitMax : Nat := 10000000000

/-- APPROVAL_TIMEOUT (R110). -/
def execApprovalTimeout (s : State) : Host.Outcome State Fault Refusal :=
  .next (if awake s && decide (s.fu.phase = .await) && decide (s.fu.awaitAt + awaitMax ≤ now s) then
      opFail s { code := 0x09, sect := 0, word := 0 }
    else s)

/-! ### The start of FORM -/

/-- The base-2 logarithm of a region's size. -/
def regionLog2 (r : Region) : Nat := (regionSize r).log2

/-- A tenant's JOURNAL region is placed: its header reads next slot 1 and no wraps (R335, R338). -/
def placeJournal (s : State) (r : Region) : State :=
  let j : TenantJnl := { offset := r.offset, slots := regionSize r / 64, next := 1, wraps := 0 }
  let s1 := apRequest s (.tenantJournal r.tenant) true r.offset (1 :: List.replicate 15 0)
  { s1 with jn := { s1.jn with tenants := put s1.jn.tenants r.tenant j } }

/-- The journal registers at the start of FORM (R335). -/
def formJournal (s : State) (f : Furnish) : State :=
  match regionOf f 6 0 with
  | none => s
  | some r =>
    let s1 := { s with jn := { s.jn with base := BitVec.ofNat 25 (r.offset / 4096), log2 := BitVec.ofNat 6 (regionLog2 r), tail := 0, head := 0,
                                         tenants := [] } }
    forEach (f.regions.filter fun r => decide (r.kind = 6) && decide (r.tenant ≠ 0)) s1 placeJournal

/-- What an aperture request stands for once its structure is discarded. -/
def reqVoid (r : AperReq) : AperReq :=
  match r.purpose with
  | .vteRead _ => { r with purpose := .void }
  | .spillRead _ => { r with purpose := .void }
  | .vteReload _ => { r with purpose := .void }
  | .tdReload _ => { r with purpose := .void }
  | _ => r

/-- A unit's command that the discarded structure cannot end. -/
def eaOver (s : State) (u : EaId) : State :=
  if (eaOf s u).busy.isSome then eaRaise (eaPut s u { eaOf s u with busy := none }) u (bit true eaRange) else s

/-- An approved change whose entry's structure is discarded is refused at that boundary: CFG_REJECT with reason 6, then DC_APPLIED with
result 1 (R268). -/
def approvedOver (s : State) : State :=
  if s.dcM.st = .approved then
    changeRefused s { caller := .party (wd16 s.dcM.bound 2), u := none, words := none } (propKind s.dcM) (wd16 s.dcM.bound 1).toNat
  else s

/-- Any formed structure is discarded (R111 step 6). -/
def discardFormed (s : State) : State :=
  let s2 := approvedOver (forEach (units s) s eaOver)
  { s2 with fu := { s2.fu with formed := none, formedImage := [] },
            vs := State.vsReset,
            ts := { State.tsReset with lmem := s2.ts.lmem,
                                       tenants := s2.ts.tenants.map fun e => (e.1, { e.2 with strangers := 0, denied := 0 }) },
            ap := { s2.ap with reqs := s2.ap.reqs.map fun e => (e.1, reqVoid e.2), waiting := s2.ap.waiting.map reqVoid },
            ar := { s2.ar with heap := [], heapWait := [], open_ := none, bells := [],
                               flight := s2.ar.flight.map fun e => (e.1, { e.2 with void := true }) } }

/-! ### The tables that a form writes and reads -/

/-- The region of a kind and tenant starts here. -/
def regionBase (f : Furnish) (kind tenant : Nat) : Nat :=
  match regionOf f kind tenant with
  | some r => r.offset
  | none => 0

/-- The VTEs of a slice's region: tenant 0's holds the wired ones first (R96). -/
def sliceVtes (e : Slice) : Nat := if e.tenant = 0 then 4096 + e.vecCount else e.vecCount

/-- Beats over a table of 32-byte entries, from one index. -/
def tableRun (base first count : Nat) (words : List Word) : Run := { offset := base + 32 * first, count := count, words := words }

/-- Every VTE at its reset value (R111 step 7). -/
def vteRuns (f : Furnish) (words : List Word) : List Run :=
  (f.slices.filter fun e => decide (sliceVtes e ≠ 0)).map fun e => tableRun (regionBase f 1 e.tenant) 0 (sliceVtes e) words

/-- The words of a TD as a LOAD writes it (R111 step 7, R101). -/
def tdFormWords (f : Furnish) (t : Nat) : List Word :=
  let g := tgtForm f t
  (tdWords g (deckle t g.ringLog2)).toList

/-- The words of a coalescing entry as a LOAD writes it: zero but for TIMER (R97, R111 step 7). -/
def couchFormWords (f : Furnish) (g : Nat) : List Word := (List.replicate 8 (0 : Word)).set 4 (w32 (couchTimer f g))

/-- The words of a group part with no member (R111 step 7). -/
def groupFormWords : List Word := List.replicate 8 0xFFFFFFFF

/-- What a LOAD writes (R111 step 7). -/
def loadRuns (f : Furnish) : List Run :=
  vteRuns f (vteWords vteZero 0).toList
    ++ (List.range f.geometry.targetTop).map (fun t => tableRun (regionBase f 2 0) t 1 (tdFormWords f t))
    ++ (if f.geometry.groupTop = 0 then [] else [tableRun (regionBase f 3 0) 0 (4 * f.geometry.groupTop) groupFormWords])
    ++ (List.range f.geometry.couchTop).map fun g => tableRun (regionBase f 4 0) g 1 (couchFormWords f g)

/-- What a WARM_FORM reads (R112). -/
def warmRuns (f : Furnish) : List Run :=
  vteRuns f [] ++ [tableRun (regionBase f 2 0) 0 f.geometry.targetTop []]
    ++ (if f.geometry.groupTop = 0 then [] else [tableRun (regionBase f 3 0) 0 (4 * f.geometry.groupTop) []])
    ++ (if f.geometry.couchTop = 0 then [] else [tableRun (regionBase f 4 0) 0 f.geometry.couchTop []])

/-- PHASE goes to FORM (R111 step 6, R112, R335). -/
def formStart (s : State) (f : Furnish) : State :=
  let s1 := discardFormed s
  let s2 := { s1 with fu := { s1.fu with phase := .form, next := some f },
                      ao := { s1.ao with digest := if s1.fu.op = some .load then none else s1.ao.digest } }
  let s3 := formJournal s2 f
  if s3.fu.op = some .load then apBulk s3 .form true (loadRuns f) else apBulk s3 .form false (warmRuns f)

/-! ### Validation and re-form drain -/

/-- A proposal's entry or tenant lies in re-form drain (R268). -/
def proposalDrains (s : State) (d : PartyUnit) : Bool :=
  let k := propKind d
  if k ≤ 3 then inDrain s k (wd16 d.bound 1).toNat
  else decide (k ≤ 5) && decide (drainTenant s = some (stageTenant d.bound))

/-- An open proposal in re-form drain is withdrawn (R114, R268). -/
def drainProposal (s : State) (p : Party) : State :=
  if proposalDrains s (dcOf s p) then propClose s p dcWithdrawn 0x64 4 else s

/-- The locks on entries in re-form drain are broken (R114, R261). -/
def drainLocks (s : State) : State :=
  forEach ((locksHeld s).filter fun l => inDrain s l.2.kind.toNat l.2.index.toNat) s fun s l => lockBreak s l.1 4

/-- PHASE goes to DRAIN (R114 step 3). -/
def drainStart (s : State) (f : Furnish) : State :=
  let s1 := { s with fu := { s.fu with phase := .drain, next := some f, drainAt := now s, discarded := 0 } }
  drainProposal (drainProposal (drainLocks s1) .M) .S

/-- The checks of VALIDATE, in order (R392 orders 10 to 12), and what follows a pass. -/
def validate (s : State) : State :=
  let im := s.fu.image
  match sections im im.length, s.fu.op with
  | .ok l, some op =>
    let f := furnishOf im l
    let scope := match op with
      | .reform t =>
        (match sections s.fu.formedImage s.fu.formedImage.length, s.fu.formed with
          | .ok lo, some fo => checkScope t.toNat s.fu.formedImage im lo l fo f
          | _, _ => none)
      | _ => none
    match firstErr [checkReserved im l, checkFields im l f (imageOff s) im.length s.ap.log2.toNat, scope] with
    | some e => opFail s e
    | none =>
      match op with
      | .reform _ => drainStart s f
      | _ => formStart s f
  | .error e, _ => opFail s e
  | _, none => s

/-- VALIDATE_COMPLETE (R111 step 5). -/
def execValidateComplete (s : State) : Host.Outcome State Fault Refusal :=
  .next (if awake s && decide (s.fu.phase = .validate) then validate s else s)

/-- A write concerns the re-formed tenant: its target or one of its vectors. -/
def writeOf (s : State) (t target : Nat) (hs : List Nat) : Bool :=
  decide ((targetSlice s target).map (fun e => e.tenant) = some t)
    || hs.any fun h => decide ((handleSlice s h).map (fun e => e.tenant) = some t)

/-- A record of the re-formed tenant is in transfer (R114 step 4). -/
def drainBusy (s : State) (t : Nat) : Bool :=
  (match s.ar.open_ with
    | some w => writeOf s t w.target.toNat (w.recs.map fun o => o.h)
    | none => false)
  || s.ar.flight.any fun e => !e.2.doorbell && !e.2.void && writeOf s t e.2.target.toNat e.2.handles

/-- Vectors of a slice with committed changes. -/
def drainVecs (s : State) (e : Slice) : List Nat :=
  s.vs.vecs.filterMap fun v => if sliceHas e v.1 && !v.2.changes.isEmpty then some v.1 else none

/-- Targets of a slice with committed changes. -/
def drainTargets (s : State) (e : Slice) : List Nat :=
  s.ts.targets.filterMap fun g =>
    if decide (e.targetBase ≤ g.1) && decide (g.1 < e.targetBase + e.targetCount) && !g.2.changes.isEmpty then some g.1 else none

/-- Committed changes in the slice are brought to their boundaries (R114 step 4). -/
def drainChanges (s : State) (e : Slice) : State :=
  let s1 := forEach (drainVecs s e) s fun s h => if ranking s then inputRound s h else vteTry s h
  let s2 := forEach (drainTargets s1 e) s1 fun s t => tdBoundary (tgtOf s t).changes.length s t
  let s3 := forEach ((List.range e.groupCount).map fun i => e.groupBase + i) s2 groupSettle
  forEach ((List.range e.couchCount).map fun i => e.couchBase + i) s3 fun s g => couchBoundary (couchOf s g).changes.length s g

/-- Vectors of a slice with a CHECKED message, or with an egress outcome that a self-test had gathered. -/
def drainChecked (s : State) (e : Slice) : List Nat :=
  ((s.vat.slots.filterMap fun x => match x.st with
    | .checked h _ => if sliceHas e h then some h else none
    | _ => none) ++ s.vs.vecs.filterMap fun v => if sliceHas e v.1 && v.2.outcome.isSome then some v.1 else none).foldl insertNat []

/-- The messages that were CHECKED for the slice before re-form drain enter their vectors, where the core ranks (R122). -/
def drainMessages (s : State) (e : Slice) : State := if ranking s then forEach (drainChecked s e) s inputRound else s

/-- The approved changes of a vector that step 4 cannot bring to a boundary are refused there (R114 step 4). -/
def drainRefuse (s : State) (h : Nat) : State :=
  let v := vecOf s h
  forEach (v.changes.filter fun c => c.u.isNone) (vecPut s h { v with changes := v.changes.filter fun c => c.u.isSome }) fun s c =>
    changeRefused s c 1 h

/-- A hold-off window on a timer whose slot changes ends and releases (R115). -/
def drainWindow (old new : Furnish) (s : State) (g : Nat) : State :=
  if decide (couchTimer old g ≠ couchTimer new g) && (couchOf s g).window.isSome then
    let s1 := couchRelease s g
    couchPut s1 g { couchOf s1 g with window := none }
  else s

/-- Vectors of a slice with an approved two-party change. -/
def drainApproved (s : State) (e : Slice) : List Nat :=
  s.vs.vecs.filterMap fun v => if sliceHas e v.1 && v.2.changes.any (fun c => c.u.isNone) then some v.1 else none

/-- A range of numbers. -/
def numbers (base count : Nat) : List Nat := (List.range count).map fun i => base + i

/-- A number lies in a range. -/
def inRange (base count i : Nat) : Bool := decide (base ≤ i) && decide (i < base + count)

/-- The slice of a tenant in an image; an empty one where it has none. -/
def sliceIn (f : Furnish) (t : Nat) : Slice :=
  (f.slices.find? fun e => decide (e.tenant = t)).getD
    { tenant := t, sizeClass := 0, base := 0, vecCount := 0, targetBase := 0, targetCount := 0, groupBase := 0, groupCount := 0,
      couchBase := 0, couchCount := 0, bucket := 0, refill := 0 }

/-- The vectors that a re-form keeps (R115). -/
def keptCount (a b : Slice) : Nat := if a.base = b.base then min a.vecCount b.vecCount else 0

/-- The VTAB region of a tenant moves. -/
def vtabMoves (old new : Furnish) (t : Nat) : Bool := decide (regionBase old 1 t ≠ regionBase new 1 t)

/-- The targets, groups or coalescing groups of one slice that the other has not. -/
def onlyIn (base count base' count' : Nat) : List Nat := (numbers base count).filter fun i => !inRange base' count' i

/-- The table writes for the targets, groups and coalescing groups of one slice that the other has not: as a LOAD writes them (R115). -/
def movedRuns (f : Furnish) (a b : Slice) : List Run :=
  ((onlyIn a.targetBase a.targetCount b.targetBase b.targetCount).map fun t => tableRun (regionBase f 2 0) t 1 (tdFormWords f t))
    ++ ((onlyIn a.groupBase a.groupCount b.groupBase b.groupCount).map fun g => tableRun (regionBase f 3 0) (4 * g) 4 groupFormWords)
    ++ (onlyIn a.couchBase a.couchCount b.couchBase b.couchCount).map fun g => tableRun (regionBase f 4 0) g 1 (couchFormWords f g)

/-- A run, unless it is empty. -/
def someRun (r : Run) : List Run := if r.count = 0 then [] else [r]

/-- What a re-form reads to copy: the kept VTEs of a VTAB region that moves (R115). -/
def reformReads (old new : Furnish) (t : Nat) : List Run :=
  if vtabMoves old new t then someRun (tableRun (regionBase old 1 t) 0 (keptCount (sliceIn old t) (sliceIn new t)) []) else []

/-- What a re-form writes before its commit: entries that the formed image does not rely on (R114 step 5, R115). -/
def reformWrites (old new : Furnish) (t : Nat) : List Run :=
  let a := sliceIn old t
  let b := sliceIn new t
  let k := if vtabMoves old new t then keptCount a b else a.vecCount
  (if vtabMoves old new t then someRun (tableRun (regionBase new 1 t) 0 k []) else [])
    ++ someRun (tableRun (regionBase new 1 t) k (b.vecCount - k) (vteWords vteZero 0).toList) ++ movedRuns new b a

/-- What a re-form writes after its commit: entries given up in a region that is kept, and those that start afresh there (R114 step 7). -/
def reformResets (old new : Furnish) (t : Nat) : List Run :=
  let a := sliceIn old t
  let b := sliceIn new t
  let k := keptCount a b
  (if vtabMoves old new t then [] else someRun (tableRun (regionBase old 1 t) k (a.vecCount - k) (vteWords vteZero 0).toList))
    ++ movedRuns new a b

/-- Re-form drain ends and FORM begins with its table traffic (R114 step 5). -/
def drainForm (s : State) (old new : Furnish) (t : Nat) : State :=
  let s1 := { s with fu := { s.fu with phase := .form } }
  apBulk (apBulk s1 .form false (reformReads old new t)) .form true (reformWrites old new t)

/-- Re-form drain ends once nothing of the tenant is in transfer and every approved change is applied or refused: one whose entry is still
being read, whose row is being reloaded or whose round waits for a self-test holds the drain (R114 steps 4 and 5, R165, R316). -/
def drainEnd (s : State) : State :=
  match drainTenant s, s.fu.formed, s.fu.next with
  | some t, some old, some new =>
    if drainBusy s t then s
    else
      match sliceOf s t with
      | none => drainForm s old new t
      | some e =>
        let s1 := drainChanges (drainMessages s e) e
        if s1.flt.fatal.isSome || s1.flt.selfTest.isSome || !(drainTargets s1 e).isEmpty then s1 else
        let left := drainApproved s1 e
        let s2 := forEach (left.filter fun h => (vteOn s1 h).isSome && !reloading s1 h) s1 drainRefuse
        if (drainApproved s2 e).isEmpty then
          drainForm (forEach (numbers e.couchBase e.couchCount) s2 (drainWindow old new)) old new t
        else s2
  | _, _, _ => s

/-- REFORM_DRAIN_COMPLETE (R114 step 4); after a fatal fault no round commits (R318), and a round that waits for a self-test holds the drain
(R165). -/
def execReformDrainComplete (s : State) : Host.Outcome State Fault Refusal :=
  .next (if awake s && decide (s.fu.phase = .drain) && s.flt.fatal.isNone && s.flt.selfTest.isNone then drainEnd s else s)

/-- The records of a write that re-form drain no longer awaits return to pending (R114 step 4). -/
def drainReturn (t : Nat) (s : State) (e : BitVec 8 × EgWrite) : State :=
  if !e.2.doorbell && !e.2.void && decide (e.2.target.toNat = t) then
    let s1 := forEach e.2.handles s refuseOne
    tgtPut { s1 with ar := { s1.ar with flight := s1.ar.flight.map fun x => if x.1 = e.1 then (x.1, { x.2 with void := true }) else x } }
      t { tgtOf s1 t with batch := none, rearm := false }
  else s

/-- REFORM_ACCEPT_TIMEOUT: a record not accepted within 1 ms of re-form drain (R114 step 4). -/
def execReformAcceptTimeout (target : BitVec 16) (s : State) : Host.Outcome State Fault Refusal :=
  .next (if awake s && decide (s.fu.phase = .drain) && decide (s.fu.drainAt + oneMs ≤ now s)
      && (match drainTenant s with
        | some t => s.ar.flight.any fun e => decide (e.2.target = target) && writeOf s t target.toNat e.2.handles
        | none => false)
    then egressSettle (forEach s.ar.flight s (drainReturn target.toNat)) else s)

/-! ### Commit -/

/-- The last-gasp records not yet copied enter the journal in number order (R339). -/
def lgCopy (s : State) : State :=
  forEach (List.range 4) s fun s i =>
    let k := (s.ao.lgNum + i) % 4
    match s.ao.lg.getD k none with
    | some r =>
      if (wd16 r 1).getLsbD 1 || !journalOn s then s
      else
        let s1 := jnlPut s .journal r
        { s1 with ao := { s1.ao with lg := s1.ao.lg.setIfInBounds k (some (r.set 1 (setBit (wd16 r 1) 1))) } }
    | none => s

/-- The credits of a slice's tenant are its bucket (R111 step 8, R115). -/
def fillBucket (s : State) (e : Slice) : State := tnPut s e.tenant { tnOf s e.tenant with credits := BitVec.ofNat 16 e.bucket }

/-- The registers that a LOAD or WARM_FORM loads (R111 step 8, R297, R389). -/
def formRegs (s : State) (f : Furnish) : State :=
  let s1 := forEach f.slices s fillBucket
  { s1 with ctl := { s1.ctl with budgets := Vector.ofFn fun i : Fin 16 => f.classes.getD i.val 0,
                                 dcWindow := BitVec.ofNat 16 f.dcWindowMs, wakeEn := fld f.wakeSrc 0 5, allow := fld f.allowed 0 4,
                                 idleAfter := f.idleAfterUs },
            tm := { s1.tm with leasePeak := 0 },
            ws := { s1.ws with gray := s1.ws.grayNow },
            pw := { s1.pw with retLost := false },
            md := { s1.md with lockTaken := false } }

/-- The commit: the digest is retained, PHASE is FORMED and DONE sets (R109, R111 step 9). -/
def opCommit (s0 : State) (f : Furnish) : State :=
  let s := noteBusy s0
  { s with fu := { s.fu with formed := some f, formedImage := s.fu.image, formedOff := imageOff s, phase := .formed,
                             status := s.fu.status.raise fuDone, op := none, image := [], computed := none, next := none, discarded := 0,
                             stored := none },
           ao := { s.ao with digest := s.fu.computed } }

/-- FURN_LOADED (R111). -/
def jnlLoaded (s : State) (op : Option FurnOp) (bid : DWord) (d : Option Digest) : State :=
  let ws : List (Nat × Word) := match d with
    | some d => (List.range 10).map fun i => (6 + i, d.getD i 0)
    | none => []
  jnl s 0xA0 (BitVec.ofNat 24 (opCode op)) (now s) ([(4, fld bid 0 32), (5, fld bid 32 32)] ++ ws)

/-- The copies that Ivsyn uses from the commit of a form on (R59, R330, R370); a resync in progress goes on (R331). -/
def formCopies (s : State) : State :=
  if !s.ap.mirrorEn then { s with ap := { s.ap with state := 1 } }
  else if dualWrites s then s
  else { s with ap := { s.ap with state := 2, readSec := false } }

/-- Messages that wait for an entry of a structure that is gone have it read at its new home; without one they are noise (R122, R124
code 5, assumption log 51). -/
def fetchAgain (s : State) (h : Nat) : State :=
  if reloading s h then s
  else if decide (h < 4096) || (handleSlice s h).isSome then fetchVte s h
  else forEach (fetchingOf s h) (fetchingDrop s h) fun s x => creditBack (noise s x.beat x.stamp 5 none) x.lane

/-- CHECKED messages of a structure that is gone go to their lane again; those of a handle that no slice has any more are noise (R122,
R124 code 5, assumption log 51). -/
def checkedAgain (s : State) (h : Nat) : State :=
  if (handleSlice s h).isSome then enqueue s h
  else
    let keep := s.vat.slots.filter fun x => (checkedAs h x).isNone
    forEach (checkedOf s h) { s with vat := { s.vat with slots := keep } } fun s x => creditBack (noise s x.1.beat x.1.stamp 5 none) x.1.lane

/-- The handles of the CHECKED messages, in take order. -/
def checkedAll (s : State) : List Nat :=
  s.vat.slots.filterMap fun x => match x.st with
    | .checked h _ => some h
    | _ => none

/-- The handles for which messages wait. -/
def fetchingAll (s : State) : List Nat :=
  (s.vat.slots.filterMap fun x => match x.st with
    | .fetching h => some h
    | _ => none).foldl insertNat []

/-- A LOAD or WARM_FORM commits (R111 steps 8 and 9). -/
def formEnd (s : State) (f : Furnish) : State :=
  let s0 := opCommit (formCopies (formRegs s f)) f
  let s1 := forEach (checkedAll s0) (forEach (fetchingAll s0) s0 fetchAgain) checkedAgain
  jnlLoaded (lgCopy s1) s.fu.op f.buildId s.fu.computed

/-! ### Warm form -/

/-- The handle whose VTE lies at an aperture offset (R96). -/
def handleAt (f : Furnish) (off : Nat) : Option Nat :=
  match f.regions.find? fun r => decide (r.kind = 1) && decide (r.offset ≤ off) && decide (off < r.offset + regionSize r) with
  | none => none
  | some r =>
    match f.slices.find? fun e => decide (e.tenant = r.tenant) with
    | none => none
    | some e =>
      let i := (off - r.offset) / 32
      if (off - r.offset) % 32 ≠ 0 then none
      else if e.tenant = 0 then
        (if i < 4096 then some i else if i < 4096 + e.vecCount then some (e.base + i - 4096) else none)
      else if i < e.vecCount then some (e.base + i) else none

/-- The index of the entry of a system table that lies at an aperture offset (R96). -/
def tableAt (f : Furnish) (kind size top off : Nat) : Option Nat :=
  match regionOf f kind 0 with
  | none => none
  | some r => if decide (r.offset ≤ off) && decide ((off - r.offset) % size = 0) && decide ((off - r.offset) / size < top) then some ((off - r.offset) / size)
    else none

/-- The stored VTEs by handle. -/
def storedVtes (f : Furnish) (stored : List (Nat × Words8)) : List (Nat × Words8) :=
  stored.filterMap fun e => (handleAt f e.1).map fun h => (h, e.2)

/-- A VTE as a warm form loads it: its stored STATE is discarded, and stands as 0 in the aperture (R112, R131). -/
def warmEntry (w : Words8) : Vte := { vteOf w with stored := 0 }

/-- A VTE as a warm form finds it: a bad CRC is rewritten and reported, a stored STATE is written back as 0 (R112). -/
def warmVte (p : Nat → Purpose) (s : State) (e : Nat × Words8) : State :=
  let h := e.1
  if vteCrcOk e.2 then
    if fld (wd8 e.2 4) 16 3 = 0 then s else apRequest s (p h) true (vteOffset s h) (vteWords (warmEntry e.2) 0).toList
  else
    let s1 := apRequest s (p h) true (vteOffset s h) (vteWords vteZero 0).toList
    deferred s1 0x11 (BitVec.ofNat 24 h) 0 0 false

/-- A wired VTE is on chip as read, or at its reset value where its CRC fails (R112, R129). -/
def warmWired (s : State) (e : Nat × Words8) : State :=
  if decide (e.1 < 4096) && vteCrcOk e.2 then vtePut s e.1 (warmEntry e.2) else s

/-- Pinned message VTEs fill the cache in ascending handle order, up to PIN_MAX (R112). -/
def warmPins (s : State) (l : List (Nat × Words8)) : State :=
  let pins := (l.filter fun e => decide (4096 ≤ e.1) && vteCrcOk e.2 && (vteOf e.2).cfg.pin).foldl (fun m e => put m e.1 (warmEntry e.2)) []
  forEach (pins.take (geometry s).pinMax) s fun s e =>
    vtePut { s with vs := { s.vs with ring := s.vs.ring ++ [(e.1, true)], pinned := s.vs.pinned ++ [e.1] } } e.1 e.2

/-- A TD that a warm form must disable (R112). -/
def warmTdBad (s : State) (t : Nat) (g : Tgt) : Bool :=
  (decide (g.tenant ≠ 0) && decide (entryOwner s 2 t ≠ some g.tenant.toNat)) || (tdWithdrawn s t g && g.enable)

/-- A TD as a warm form loads it (R112). -/
def warmTd (f : Furnish) (s : State) (t : Nat) (w : Words8) : State :=
  let o := tgtForm f t
  let n := tdPutCfg o w
  let g := if isLocal t then { n with baseLo := o.baseLo, baseHi := o.baseHi, ringLog2 := o.ringLog2 } else n
  if warmTdBad s t g then
    jnlCfgReject (tgtPut s t { g with enable := false }) t 2 4 3 ((entryOwner s 2 t).getD 0)
  else tgtPut s t g

/-- A group part as a warm form loads it (R112). -/
def warmGroup (s : State) (i : Nat) (w : Words8) : State :=
  let g := groupOf s (i / 4)
  groupPut s (i / 4) { g with slots := Vector.ofFn fun k : Fin 64 => if k.val / 16 = i % 4 then partSlot w (k.val % 16) else g.slots[k] }

/-- A coalescing group as a warm form loads it; its timer is the one that the image allocates (R30, R97, R112). -/
def warmCouch (s : State) (g : Nat) (w : Words8) : State :=
  couchPut s g (couchPutCfg (couchOf s g) w)

/-- A stored table entry that is not a VTE. -/
def warmTable (f : Furnish) (s : State) (e : Nat × Words8) : State :=
  match tableAt f 2 32 f.geometry.targetTop e.1 with
  | some t => warmTd f s t e.2
  | none => match tableAt f 3 32 (4 * f.geometry.groupTop) e.1 with
    | some i => warmGroup s i e.2
    | none => match tableAt f 4 32 f.geometry.couchTop e.1 with
      | some g => warmCouch s g e.2
      | none => s

/-- More than 1,024 VTEs with a bad CRC end a warm form (R110). -/
def warmMax : Nat := 1024

/-- What the aperture holds of a message VTE that a warm form leaves there (R112, R131). -/
def warmAway (s : State) (e : Nat × Words8) : State :=
  if decide (4096 ≤ e.1) && vteCrcOk e.2 then awayPut s e.1 (snapOf (vteOf e.2)) else s

/-- A warm form loads the tables and commits (R112). -/
def warmLoad (s : State) (f : Furnish) (stored : List (Nat × Words8)) : State :=
  let l := storedVtes f stored
  let s0 := { s with fu := { s.fu with formed := some f } }
  formEnd (forEach stored (warmPins (forEach l (forEach l s0 warmWired) warmAway) l) (warmTable f)) f

/-- A warm form whose tables are read commits once its rewrites have completed (R112). -/
def warmGo (s : State) : State :=
  match s.fu.stored, s.fu.next with
  | some stored, some f =>
    if decide (s.fu.phase = .form) && s.flt.fatal.isNone && !apHas s .form then warmLoad s f stored else s
  | _, _ => s

/-- A warm form has read the tables: it rewrites what R112 names and commits, or fails (R112). -/
def warmEnd (s : State) (f : Furnish) (stored : List (Nat × Words8)) : State :=
  let l := storedVtes f stored
  let s0 := { s with fu := { s.fu with formed := some f } }
  if warmMax < (l.filter fun e => !vteCrcOk e.2).length then
    let s1 := forEach ((l.filter fun e => !vteCrcOk e.2).take warmMax) s0 (warmVte .vteWrite)
    opFail { s1 with fu := { s1.fu with formed := none } } { code := 0x23, sect := 0, word := 0 }
  else
    let s1 := forEach l s0 (warmVte fun _ => .form)
    warmGo { s1 with fu := { s1.fu with formed := none, stored := some stored } }

/-! ### The commit of a re-form -/

/-- A vector leaves the slice: its events are discarded and counted by COUNT (assumption log 69), and what a round would still take as
stray is kept (R115, R159). -/
def reformRemove (s : State) (h : Nat) : State × Nat :=
  let v := vecOf s h
  let n := evCount v.ev + evCount v.evNew
  let s1 := calLeave (dropEv s h) h
  let s2 := match v.active with
    | some a => tgtPut s1 a.target.toNat { tgtOf s1 a.target.toNat with amask := clrBit (tgtOf s1 a.target.toNat).amask a.prio.toNat }
    | none => s1
  let s3 := forEach v.changes s2 changeForeign
  let vecs := if v.eois.isEmpty then erase s3.vs.vecs h else put s3.vs.vecs h { vecZero with eois := v.eois }
  ({ s3 with vs := { s3.vs with vecs := vecs, vtes := erase s3.vs.vtes h, ring := s3.vs.ring.filter (fun e => decide (e.1 ≠ h)),
                                pinned := s3.vs.pinned.filter (· ≠ h), spilled := erase s3.vs.spilled h, owed := erase s3.vs.owed h, away := erase s3.vs.away h,
                                dirty := s3.vs.dirty.filter (· ≠ h), queue := s3.vs.queue.filter fun k => decide (k ≠ h) || !v.eois.isEmpty,
                                reload := s3.vs.reload.filter (· ≠ h) } }, n)

/-- The handles of a range that hold anything on chip. -/
def handlesIn (s : State) (lo hi : Nat) : List Nat :=
  let keys := (s.vs.vecs.map fun e => e.1) ++ (s.vs.vtes.map fun e => e.1) ++ (s.vs.spilled.map fun e => e.1)
    ++ (s.vs.owed.map fun e => e.1) ++ (s.vs.away.map fun e => e.1) ++ s.vs.pinned
  (keys.filter fun h => decide (lo ≤ h) && decide (h < hi)).foldl insertNat []

/-- Every handle of a range is removed, and the events discarded are counted. -/
def reformRemoveAll (s : State) (lo hi : Nat) : State :=
  forEach (handlesIn s lo hi) s fun s h =>
    let r := reformRemove s h
    { r.1 with fu := { r.1.fu with discarded := r.1.fu.discarded + r.2 } }

/-- A kept VTE names a target, group or coalescing group outside the new ranges (R115); a slice without coalescing groups bounds no COUCH (assumption
log 60). -/
def keptBad (e : Slice) (c : VteCfg) : Bool := !(targetFits e c && couchFits e c)

/-- A kept VTE with an out-of-range reference loses VALID, and its events are discarded (R115). -/
def keptFix (e : Slice) (s : State) (h : Nat) (v : Vte) : State :=
  if v.cfg.valid && keptBad e v.cfg then
    let n := evCount (vecOf s h).ev + evCount (vecOf s h).evNew
    let v' : Vte := { v with cfg := { v.cfg with valid := false } }
    let s1 := if (vteOn s h).isSome then vteStore (vteDiscard (vtePut s h v') h) h
      else
        let x := awayPut (vteDiscard s h) h (snapOf v')
        apRequest x (.vteWrite h) true (vteOffset x h) (vteWords v' 0).toList
    { s1 with fu := { s1.fu with discarded := s1.fu.discarded + n } }
  else s

/-- A kept VTE (R115): on chip as it is, else as stored; one that fails its CRC is reported and stays as stored (R121, R132). -/
def reformKept (e : Slice) (stored : List (Nat × Words8)) (s : State) (h : Nat) : State :=
  match vteOn s h with
  | some v => keptFix e s h v
  | none =>
    match find stored (vteOffset s h) with
    | none => s
    | some w => if vteCrcOk w then keptFix e s h (vteOf w) else deferred s 0x11 (BitVec.ofNat 24 h) 0 0 false

/-- Kept entries on chip are written to the new home of a VTAB region that moved (R115, R131). -/
def reformDirty (s : State) (a b : Slice) (moved : Bool) : State :=
  if moved then
    let hs := (s.vs.vtes.map fun e => e.1).filter (inRange b.base (keptCount a b))
    { s with vs := { s.vs with dirty := hs.foldl insertNat s.vs.dirty } }
  else s

/-- A resource that is in exactly one of the two slices: it stands at its reset or LOAD value after the commit (R115). -/
def moves (oldIn newIn : Nat → Bool) (i : Nat) : Bool := oldIn i != newIn i

/-- Targets that leave or join (R115). -/
def reformTargets (s : State) (oldIn newIn : Nat → Bool) : State :=
  let gone := moves oldIn newIn
  { s with ts := { s.ts with targets := s.ts.targets.filter (fun e => !gone e.1), dirty := s.ts.dirty.filter (fun t => !gone t),
                               reload := s.ts.reload.filter fun t => !gone t },
           ar := { s.ar with bells := s.ar.bells.filter (fun b => !gone b.target.toNat),
                             flight := s.ar.flight.map fun e => if gone e.2.target.toNat then (e.1, { e.2 with void := true }) else e } }

/-- A kept group's slots that name targets outside the new range are empty (R115). -/
def reformSlots (newTarget : Nat → Bool) (g : Group) : Group :=
  { g with slots := g.slots.map fun x => if decide (x = 0xFFFF) || newTarget x.toNat then x else 0xFFFF }

/-- A kept group whose slots changed is written (R115). -/
def groupStore (old : List (Nat × Group)) (s : State) (g : Nat) : State :=
  if (find old g).map (fun x => x.slots) = some (groupOf s g).slots then s
  else forEach (List.range 4) s fun s p =>
    apRequest s (.groupWrite (4 * g + p)) true (tableOffset s 3 32 (4 * g + p)) (groupWords (groupOf s g) p).toList

/-- Groups that leave, join or stay (R115). -/
def reformGroups (s : State) (oldIn newIn newTarget : Nat → Bool) : State :=
  let stay := s.ts.groups.filter fun e => !moves oldIn newIn e.1
  { s with ts := { s.ts with groups := stay.map fun e => if newIn e.1 then (e.1, reformSlots newTarget e.2) else e } }

/-- A kept coalescing group takes its new timer, and MODE 0 where the size class forbids its mode; what it held is then released, whatever
its EFF_MODE was (R115, R232). -/
def reformCouch (f : Furnish) (s : State) (g : Nat) : State :=
  let o := couchOf s g
  let c := { o with timer := BitVec.ofNat 8 (couchTimer f g) }
  let s1 := if modeFits s g c then couchPut s g c
    else jnlCfgReject (couchCalendar (couchRelease (couchChange s g { c with mode := 0 }) g) g) g 4 5 3 ((entryOwner s 4 g).getD 0)
  if couchOf s1 g = o then s1
  else apRequest s1 (.couchWrite g) true (tableOffset s1 4 32 g) (couchWords (couchOf s1 g) (effMode s1 g)).toList

/-- Coalescing groups that leave or join; what a leaving one held is released (R115). -/
def reformCouches (s : State) (oldIn newIn : Nat → Bool) (l : List Nat) : State :=
  forEach (l.filter (moves oldIn newIn)) s fun s g =>
    let s1 := calLeave (couchRelease s g) (calCouch g)
    { s1 with ts := { s1.ts with couches := erase s1.ts.couches g } }

/-- The JOURNAL region of the re-formed tenant (R335, R338). -/
def reformJournal (s : State) (old new : Furnish) (t : Nat) : State :=
  match regionOf old 6 t, regionOf new 6 t with
  | a, some r => if a = some r then s else placeJournal s r
  | _, none => { s with jn := { s.jn with tenants := erase s.jn.tenants t } }

/-- A unit that reads an entry which has left is answered as out of reach, and one that waits for a descriptor whose reload has gone by what it
reaches (R254, R316). -/
def reformUnit (s : State) (u : EaId) : State :=
  let e := eaOf s u
  match e.busy with
  | some (.reading h) =>
    if (handleSlice s h).isNone && decide (4096 ≤ h) then
      eaRaise (eaPut s u { e with data := Vector.replicate 8 0, busy := none }) u (bit true eaRange ||| bit true eaDone)
    else s
  | some (.readingTd t) => if tdReloading s t then s else readEnd s u 2 t
  | _ => s

/-- A read of an entry of the re-formed tenant whose home has gone, and the reload of a descriptor that leaves or joins, stand for nothing any
more. -/
def readGone (a : Slice) (kept : Nat) (moved : Bool) (goneTd : Nat → Bool) (r : AperReq) : AperReq :=
  let gone (h : Nat) : Bool := inRange a.base a.vecCount h && (moved || !inRange a.base kept h)
  match r.purpose with
  | .vteRead h => if gone h then { r with purpose := .void } else r
  | .spillRead h => if inRange a.base a.vecCount h && !inRange a.base kept h then { r with purpose := .void } else r
  | .vteReload h => if inRange a.base a.vecCount h && !inRange a.base kept h then { r with purpose := .void } else r
  | .tdReload t => if goneTd t then { r with purpose := .void } else r
  | _ => r

/-- Outstanding reads of the re-formed tenant's entries, at the commit. -/
def reformVoid (s : State) (a : Slice) (kept : Nat) (moved : Bool) (goneTd : Nat → Bool) : State :=
  { s with ap := { s.ap with reqs := s.ap.reqs.map fun e => (e.1, readGone a kept moved goneTd e.2),
                             waiting := s.ap.waiting.map (readGone a kept moved goneTd) } }

/-- What waited for entries of the re-formed tenant goes on under the new slice: messages in FETCHING and CHECKED, and READs (R114 step 6,
R122). -/
def reformFetch (s : State) (a : Slice) : State :=
  let reads := (units s).filterMap fun u => match (eaOf s u).busy with
    | some (.reading h) => some h
    | some (.fenceRead h) => some h
    | _ => none
  let s1 := forEach ((fetchingAll s ++ reads).filter (inRange a.base a.vecCount)) s fetchAgain
  forEach ((checkedAll s1).filter (inRange a.base a.vecCount)) s1 checkedAgain

/-- The commit of a re-form (R114 steps 6 and 7, R115): the tenant's parked messages are resolved before the resets and SLICE_REFORMED. -/
def reformEnd (s : State) (old new : Furnish) (t : Nat) (stored : List (Nat × Words8)) : State :=
  let a := sliceIn old t
  let b := sliceIn new t
  let kept := keptCount a b
  let moved := vtabMoves old new t
  let tOld := inRange a.targetBase a.targetCount
  let tNew := inRange b.targetBase b.targetCount
  let s1 := reformVoid (reformRemoveAll s (a.base + kept) (a.base + a.vecCount)) a kept moved (moves tOld tNew)
  let gOld := inRange a.groupBase a.groupCount
  let gNew := inRange b.groupBase b.groupCount
  let cOld := inRange a.couchBase a.couchCount
  let cNew := inRange b.couchBase b.couchCount
  let couches := (numbers a.couchBase a.couchCount ++ numbers b.couchBase b.couchCount).foldl insertNat []
  let s2 := reformCouches (reformGroups (reformTargets s1 tOld tNew) gOld gNew tNew) cOld cNew couches
  let s3 := formCopies (opCommit (reformJournal s2 old new t) new)
  let s4 := forEach ((s3.ts.groups.map fun e => e.1).filter fun g => gOld g && gNew g) s3 (groupStore s1.ts.groups)
  let s5 := reformDirty (forEach (numbers b.base kept) s4 (reformKept b stored)) a b moved
  let n := s2.fu.discarded + s5.fu.discarded
  let s6 := { s5 with fu := { s5.fu with discarded := 0 } }
  let s7 := forEach (couches.filter fun g => cOld g && cNew g) s6 (reformCouch new)
  let s8 := if new.slices.any (fun e => decide (e.tenant = t)) then fillBucket s7 b else s7
  let s9 := releaseAll (reformFetch (forEach (units s8) s8 reformUnit) a)
  let s10 := apBulk s9 .form true (reformResets old new t)
  let bid := new.buildId
  let s11 := jnl (lgCopy s10) 0xA2 (BitVec.ofNat 24 t) (now s10)
    [(4, w32 kept), (5, w32 (b.vecCount - kept)), (6, w32 (a.vecCount - kept)), (7, w32 n), (8, fld bid 0 32), (9, fld bid 32 32)]
  settleAll s11

/-- FORM ends (R111 step 9, R112, R114 step 6). -/
def formDone (s : State) (stored : List (Nat × Words8)) : State :=
  match s.fu.op, s.fu.next, s.fu.formed with
  | some .load, some f, _ => formEnd s f
  | some .warm, some f, _ => warmEnd s f stored
  | some (.reform t), some f, some old => reformEnd s old f t.toNat stored
  | _, _, _ => s


/-! ### Registers -/

/-- `IV_FURN_STATUS` (R105). -/
def furnStatusWord (s : State) : Word :=
  s.fu.status.word (at_ 32 16 s.fu.err ||| at_ 32 12 s.fu.phase.code ||| at_ 32 0 s.fu.errSection)

/-- The digest that `IV_FURN_DIGEST0` to `11` show (R105). -/
def shownDigest (s : State) : Option Digest :=
  match s.fu.phase with
  | .empty => s.ao.digest
  | .formed => s.ao.digest
  | .fetch => s.ao.digest
  | _ => s.fu.computed

/-- `IV_FURN_DIGESTn` (R105). -/
def digestWord (s : State) (n : Nat) : Word :=
  match shownDigest s with
  | some d => d.getD n 0
  | none => 0

end Sys2Proof.Machine
end

