-- ==== Sys2Proof/Machine/Words.lean ====
section
/-! DEFINITION. What every register reads: the words of the control window (R362), the poll block (R367), the AO save area
(R288), the tenant and target windows (R373, R379) and the security port (R381). -/

namespace Sys2Proof.Machine

/-! ### Control window -/

/-- `IV_CTL` (R364). -/
def ctlWord (s : State) : Word :=
  bit s.ctl.quarEn 8 ||| bit s.ctl.journalEn 4 ||| bit s.ctl.planeCheckEn 3 ||| bit s.ctl.deliverEn 2 ||| bit s.ctl.ingressEn 1
    ||| bit s.md.engineEn 0

/-- `IV_STATUS` (R366). -/
def statusWord (s : State) : Word := s.status.word 0

/-- `IV_CFG_REJECT` (R357). -/
def cfgRejectWord (s : State) : Word := at_ 32 24 s.ctl.cfgCount ||| at_ 32 2 s.ctl.cfgOffset

/-- `IV_LOCK` (R275). -/
def lockWord (s : State) : Word := at_ 32 0 s.md.lock

/-- `IV_ARB_CTL` (R213). -/
def arbCtlWord (s : State) : Word :=
  at_ 32 16 s.ctl.batchMax ||| at_ 32 8 s.ctl.waitLim ||| bit s.ctl.preemptEn 1 ||| bit s.ctl.freeze 0

/-- IN_FLIGHT of `IV_ARB_STAT` (R215). -/
def inFlightCount (s : State) : Nat := s.ar.flight.length

/-- `IV_ARB_STAT` (R215). -/
def arbStatWord (s : State) : Word :=
  bit (frozen s) 31 ||| bit (decide (heapMax ≤ s.ar.heap.length)) 30 ||| at_ 32 15 (BitVec.ofNat 15 s.ar.heap.length)
    ||| at_ 32 0 (BitVec.ofNat 9 (inFlightCount s))

/-- `IV_DLV_WDOG` (R220). -/
def dlvWdogWord (s : State) : Word := at_ 32 24 s.ctl.maxResend ||| at_ 32 0 s.ctl.periodUs

/-- `IV_COUCH_CTL` (R234). -/
def couchCtlWord (s : State) : Word := bit s.ctl.elasticEn 8 ||| bit s.ctl.couchEn 0

/-- `IV_ENERGY_POLICY` (R182). -/
def energyWord (s : State) : Word := at_ 32 16 s.ctl.nowakeLevel ||| at_ 32 0 s.ctl.graceUs

/-- `IV_PWR_CTL` (R297). -/
def pwrCtlWord (s : State) : Word :=
  bit s.ctl.sbTrace 31 ||| at_ 32 24 s.ctl.wakeEn ||| at_ 32 20 s.ctl.allow ||| at_ 32 0 s.ctl.idleAfter

/-- An entry attempt is between steps 1 and 7 (R298). -/
def entering (s : State) : Bool :=
  match s.pw.entry with
  | some e => decide (e.step = .draining) || decide (e.step = .armed) || decide (e.step = .committed)
  | none => false

/-- `IV_PWR_STAT` (R298). -/
def pwrStatWord (s : State) : Word :=
  bit (entering s) 31 ||| bit s.pw.refreshHot 30 ||| bit s.pw.retLost 29 ||| at_ 32 20 s.pw.wakeCause ||| at_ 32 0 s.pw.wakes

/-- `IV_THROTTLE` (R300). -/
def throttleWord (s : State) : Word := at_ 32 8 s.pw.thrChanges ||| at_ 32 0 s.pw.throttle

/-- `IV_FLT_SUM` (R319). -/
def fltSumWord (s : State) : Word := s.flt.sum.word (at_ 32 14 s.flt.fenced)

/-- `IV_FLT_POLICY` (R317). -/
def fltPolicyWord (s : State) : Word := bit s.ctl.deferFatal 4 ||| bit s.ctl.aperWerrFatal 1 ||| bit s.ctl.degradeEn 0

/-- `IV_ALIVE_CTL` (R327). -/
def aliveCtlWord (s : State) : Word := bit s.ao.alive 16 ||| at_ 32 0 s.ctl.halfUs

/-- `IV_APER_BASE_LO` or `IV_APER2_BASE_LO` of a base (R369). -/
def baseLoWord (b : BitVec 34) : Word := at_ 32 30 (fld b 0 2)

/-- `IV_APER_BASE_HI` or `IV_APER2_BASE_HI` of a base (R369). -/
def baseHiWord (b : BitVec 34) : Word := fld b 2 32

/-- `IV_APER_CTL` (R330). -/
def aperCtlWord (s : State) : Word :=
  at_ 32 16 s.ap.pct ||| bit s.ap.readSec 6 ||| at_ 32 4 s.ap.state ||| bit s.ap.mirrorEn 0

/-- Hold-off windows running (R244). -/
def windowsRunning (s : State) : Nat := (s.ts.couches.filter fun c => c.2.window.isSome).length

/-- Hold-off timers that the furnish allocated (R244). -/
def holdoffAlloc (s : State) : Nat :=
  match s.fu.formed with
  | none => 0
  | some f => (f.slots.filter (· ≠ 0xFFFF)).length

/-- `IV_TIMEBANK` (R244). -/
def timebankWord (s : State) : Word :=
  bit (!s.vs.sweepList.isEmpty) 31 ||| at_ 32 24 s.tm.leasePeak ||| at_ 32 16 (BitVec.ofNat 8 (holdoffAlloc s))
    ||| at_ 32 8 (BitVec.ofNat 8 (windowsRunning s)) ||| at_ 32 0 (BitVec.ofNat 7 (leaseBusy s))

/-- The ten counter words from `IV_CNT_INGRESS_LO` on, in address order (R371). -/
def cntWords (s : State) : List Word :=
  [fld s.cnt.ingress 0 32, fld s.cnt.ingress 32 32, s.cnt.delivered, s.cnt.stranger, s.cnt.noise, s.cnt.late, s.cnt.parked,
   s.cnt.coalesced, s.cnt.overdraft, s.cnt.eoiStray]

/-- Word n of a last-gasp area (R339). -/
def lgWord (s : State) (n : Nat) : Word :=
  match s.ao.lg.getD (n / 16) none with
  | some r => wd16 r (n % 16)
  | none => 0

/-- Poll-block word 1 (R320). -/
def pollSummary (s : State) : Word :=
  at_ 32 24 s.ao.safeCause ||| at_ 32 16 s.ao.safeCount ||| at_ 32 14 s.ao.pollFenced ||| at_ 32 0 s.ao.pollFlags

/-- Poll-block word n (R367). -/
def pollWord (s : State) (n : Nat) : Word :=
  if n = 0 then modeWord s
  else if n = 1 then pollSummary s
  else if n = 2 then s.ao.poll.getD 0 0
  else if n = 3 then s.ao.toggles
  else if n ≤ 8 then s.ao.poll.getD (n - 3) 0
  else if n = 9 then refuseWord s
  else if n ≤ 11 then s.ao.poll.getD (n - 4) 0
  else 0

/-- The poll words are refreshed from their home registers (R368). -/
def pollRefresh (s : State) : State :=
  let ws : List Word := [at_ 32 0 s.jn.tail, w32 (now s), w32hi (now s), fld s.cnt.ingress 0 32, s.cnt.delivered, s.cnt.stranger,
    dcStatusWord s .M, furnStatusWord s]
  { s with ao := { s.ao with poll := Vector.ofFn fun i : Fin 8 => ws.getD i.val 0 } }

/-- `IV_EA_STATUS` of a unit (R256). -/
def eaStatusWord (e : EaUnit) : Word := e.status.word (bit e.busy.isSome 16)

/-- `IV_EA_LOCK` of a unit (R256). -/
def eaLockWord (e : EaUnit) : Word :=
  bit e.lock.isSome 31 ||| bit e.broken 30 ||| (match e.lock with
    | some l => at_ 32 0 l.leaseMs
    | none => 0)

/-- `IV_WPENDk` (R168). -/
def wpendWord (s : State) (k : Nat) : Word :=
  (List.range 32).foldl (fun w n =>
    let st := vteState s (32 * k + n)
    if decide (st = 1) || decide (st = 3) || decide (st = 4) then setBit w n else w) 0

/-- Word i of the retention set, from word 32 of the save area on (R288). -/
def retentionWord (s : State) (i : Nat) : Word :=
  if i = 0 then ctlWord s else if i = 1 then statusWord s else if i = 2 then cfgRejectWord s else if i = 3 then lockWord s
  else if i = 4 then arbCtlWord s else if i = 5 then dlvWdogWord s else if i = 6 then couchCtlWord s else if i = 7 then pwrCtlWord s
  else if i < 24 then s.ctl.budgets.getD (i - 8) 0
  else if i = 24 then energyWord s else if i = 25 then throttleWord s else if i = 26 then fltSumWord s else if i = 27 then s.flt.corr
  else if i = 28 then s.flt.defer else if i = 29 then s.flt.first else if i = 30 then fltPolicyWord s else if i = 31 then aliveCtlWord s
  else if i = 32 then at_ 32 0 s.jn.base else if i = 33 then at_ 32 0 s.jn.log2 else if i = 34 then at_ 32 0 s.jn.tail
  else if i = 35 then at_ 32 0 s.jn.head else if i = 36 then at_ 32 0 s.ctl.dcWindow else if i = 37 then furnStatusWord s
  else if i < 48 then (cntWords s).getD (i - 38) 0
  else if i = 48 then at_ 32 6 (fld s.fu.off 0 26) else if i = 49 then at_ 32 0 (fld s.fu.off 26 5) else if i = 50 then at_ 32 0 s.fu.len
  else timebankWord s

/-- The retention set: words 32 to 83 of the save area (R288). -/
def retentionSet (s : State) : List Word := (List.range 52).map (retentionWord s)

/-- A seq-clear register from its word (R352). -/
def scOf (w : Word) (mask : BitVec 24) : Sc := { seq := fld w 24 8, flags := fld w 0 24 &&& mask }

/-- Words 32 to 39 and 56 to 63 of the save area go back to the control registers (R288). -/
def ctlOf (c : CtlRegs) (w : Nat → Word) : CtlRegs :=
  { c with ingressEn := (w 0).getLsbD 1, deliverEn := (w 0).getLsbD 2, planeCheckEn := (w 0).getLsbD 3, journalEn := (w 0).getLsbD 4,
           quarEn := (w 0).getLsbD 8, cfgCount := fld (w 2) 24 8, cfgOffset := fld (w 2) 2 18,
           batchMax := fld (w 4) 16 4, waitLim := fld (w 4) 8 8, preemptEn := (w 4).getLsbD 1, freeze := (w 4).getLsbD 0,
           maxResend := fld (w 5) 24 4, periodUs := fld (w 5) 0 20, elasticEn := (w 6).getLsbD 8, couchEn := (w 6).getLsbD 0,
           sbTrace := (w 7).getLsbD 31, wakeEn := fld (w 7) 24 5, allow := fld (w 7) 20 4, idleAfter := fld (w 7) 0 16,
           budgets := Vector.ofFn fun i : Fin 16 => w (8 + i.val), nowakeLevel := fld (w 24) 16 3, graceUs := fld (w 24) 0 16,
           deferFatal := (w 30).getLsbD 4, aperWerrFatal := (w 30).getLsbD 1, degradeEn := (w 30).getLsbD 0, halfUs := fld (w 31) 0 16,
           dcWindow := fld (w 36) 0 16 }

/-- Words 70 to 79 of the save area go back to the counters (R288). -/
def cntOf (w : Nat → Word) : Counters :=
  { ingress := w 39 ++ w 38, delivered := w 40, stranger := w 41, noise := w 42, late := w 43, parked := w 44, coalesced := w 45,
    overdraft := w 46, eoiStray := w 47 }

/-- Every register of the retention set is restored (R288). What IV_TIMEBANK and IV_FURN_STATUS.PHASE show is held elsewhere (R289). -/
def retentionLoad (s : State) (ws : List Word) : State :=
  let w (i : Nat) : Word := ws.getD i 0
  { s with
    ctl := ctlOf s.ctl w, cnt := cntOf w, status := scOf (w 1) 0xFFFFFF,
    md := { s.md with engineEn := (w 0).getLsbD 0, lock := fld (w 3) 0 8 },
    pw := { s.pw with throttle := fld (w 25) 0 3, thrChanges := fld (w 25) 8 16 },
    flt := { s.flt with sum := scOf (w 26) 0xFF3FFF, fenced := fld (w 26) 14 2, corr := w 27, defer := w 28, first := w 29 },
    jn := { s.jn with base := fld (w 32) 0 25, log2 := fld (w 33) 0 6, tail := fld (w 34) 0 31, head := fld (w 35) 0 31 },
    fu := { s.fu with status := scOf (w 37) 0xF00, err := fld (w 37) 16 8, errSection := fld (w 37) 0 8, off := (fld (w 49) 0 5 : BitVec 5) ++ (fld (w 48) 6 26 : BitVec 26), len := fld (w 50) 0 21 },
    tm := { s.tm with leasePeak := fld (w 51) 24 7 } }

/-- Word i of the AO save area (R288). -/
def aoSaveWord (s : State) (i : Nat) : Word :=
  if i = 0 then at_ 32 24 s.pw.saves ||| bit s.pw.saveValid 8 ||| at_ 32 0 s.pw.savePrev
  else if i = 1 then s.pw.saveRefuse
  else if i = 2 then w32 s.tm.tEntry
  else if i = 3 then w32hi s.tm.tEntry
  else if i = 4 then s.tm.aEntry
  else if i = 5 then s.tm.aWake
  else if i = 6 then fld s.tm.elapsed 0 32
  else if i = 7 then fld s.tm.elapsed 32 32
  else if i < 20 then (match s.ao.digest with
    | some d => if 8 ≤ i then d.getD (i - 8) 0 else 0
    | none => 0)
  else if i = 20 then s.ao.propNum
  else if 32 ≤ i then s.pw.ret.getD (i - 32) 0
  else 0

/-- A register of the control window at its home (R362); command registers and reserved locations read zero. -/
def homeWord (s : State) (a : Nat) : Word :=
  if a = 0x00 then 0x09600100
  else if a = 0x04 then 0x25201324
  else if a = 0x08 then modeWord s
  else if a = 0x0C then at_ 32 0 s.pw.req
  else if a = 0x10 then ctlWord s
  else if a = 0x14 then statusWord s
  else if a = 0x18 then cfgRejectWord s
  else if a = 0x1C then lockWord s
  else if 0x40 ≤ a && a < 0x80 then pollWord s ((a - 0x40) / 4)
  else if a = 0x100 then baseLoWord s.ap.base
  else if a = 0x104 then baseHiWord s.ap.base
  else if a = 0x108 then at_ 32 0 s.ap.log2
  else if a = 0x10C then baseLoWord s.ap.base2
  else if a = 0x110 then baseHiWord s.ap.base2
  else if a = 0x114 then aperCtlWord s
  else if a = 0x118 then retentionWord s 48
  else if a = 0x11C then retentionWord s 49
  else if a = 0x120 then retentionWord s 50
  else if a = 0x128 then furnStatusWord s
  else if 0x130 ≤ a && a < 0x160 then digestWord s ((a - 0x130) / 4)
  else if a = 0x200 then eaLockWord s.eaM
  else if a = 0x204 then at_ 32 0 s.eaM.kind
  else if a = 0x208 then at_ 32 0 s.eaM.index
  else if a = 0x210 then eaStatusWord s.eaM
  else if 0x220 ≤ a && a < 0x240 then wd8 s.eaM.data ((a - 0x220) / 4)
  else if a = 0x300 then arbCtlWord s
  else if a = 0x304 then arbStatWord s
  else if a = 0x310 then dlvWdogWord s
  else if 0x320 ≤ a && a < 0x360 then s.ctl.budgets.getD ((a - 0x320) / 4) 0
  else if a = 0x400 then couchCtlWord s
  else if a = 0x500 then w32 (seenTime s)
  else if a = 0x504 then s.tm.latchM
  else if a = 0x508 then s.tm.aoCount
  else if a = 0x50C then s.tm.aoCal
  else if a = 0x510 then fld s.tm.elapsed 0 32
  else if a = 0x514 then s.tm.latchSleep
  else if a = 0x518 then timebankWord s
  else if a = 0x600 then pwrCtlWord s
  else if a = 0x604 then pwrStatWord s
  else if a = 0x608 then refuseWord s
  else if 0x620 ≤ a && a < 0x640 then s.pw.refCnt.getD ((a - 0x620) / 4) 0
  else if a = 0x640 then throttleWord s
  else if a = 0x644 then energyWord s
  else if a = 0x648 then at_ 32 0 s.ao.sbAddr
  else if a = 0x700 then fltSumWord s
  else if a = 0x704 then s.flt.corr
  else if a = 0x708 then s.flt.defer
  else if a = 0x70C then s.flt.first
  else if a = 0x710 then fltPolicyWord s
  else if a = 0x718 then aliveCtlWord s
  else if a = 0x800 then at_ 32 0 s.jn.base
  else if a = 0x804 then at_ 32 0 s.jn.log2
  else if a = 0x808 then at_ 32 0 s.jn.tail
  else if a = 0x80C then at_ 32 0 s.jn.head
  else if 0x900 ≤ a && a < 0x928 then (cntWords s).getD ((a - 0x900) / 4) 0
  else if a = 0xA04 then dcStatusWord s .M
  else if a = 0xA08 then s.dcM.idLo
  else if a = 0xA0C then s.dcM.idHi
  else if a = 0xA18 then at_ 32 0 s.ctl.dcWindow
  else if a = 0xA1C then s.dcS.idLo
  else if a = 0xA20 then s.dcS.idHi
  else if 0xA40 ≤ a && a < 0xA80 then stageWord s.dcM.stage ((a - 0xA40) / 4)
  else if 0xA80 ≤ a && a < 0xAC0 then mirrorWord s .M ((a - 0xA80) / 4)
  else if 0xC00 ≤ a && a < 0xD00 then lgWord s ((a - 0xC00) / 4)
  else if 0x1000 ≤ a && a < 0x1200 then wpendWord s ((a - 0x1000) / 4)
  else 0
where
  /-- A word of party M's stage. -/
  stageWord (w : Words16) (i : Nat) : Word := wd16 w i

/-- A control-window address that the AO island serves in every mode but OFF (R313, R363, R385). -/
def aoServed (a : Nat) : Bool :=
  decide (a = 0x00) || decide (a = 0x04) || decide (a = 0x08) || decide (a = 0x0C) || (decide (0x40 ≤ a) && decide (a < 0x80))
    || (decide (0x100 ≤ a) && decide (a ≤ 0x114)) || decide (a = 0x508) || decide (a = 0x50C) || decide (a = 0x510) || decide (a = 0x514)
    || decide (a = 0x604) || decide (a = 0x608) || (decide (0x620 ≤ a) && decide (a < 0x640)) || decide (a = 0x648)
    || (decide (0xC00 ≤ a) && decide (a < 0xD00))

/-- The form and class M location that a control-window address names (R345). -/
def classM (a : Nat) : Option (Form × Nat) :=
  if a < 0x4000 then some (.plain, a)
  else if 0x40000 ≤ a && a < 0x44000 then some (.set, a - 0x40000)
  else if 0x50000 ≤ a && a < 0x54000 then some (.clear, a - 0x50000)
  else if 0x60000 ≤ a && a < 0x64000 then some (.toggle, a - 0x60000)
  else none

/-- A misaligned access is answered with an error (R39, R43): at the security port always; at the management port while Ivsyn is live, and in
SAFE where the word is AO-served and so answered (R325). The answers of a block reset carry no error (R87, assumption log 65). -/
def misalignedErr (s : State) (p : Port) (addr : BitVec 22) : Bool :=
  match p with
  | .sec => true
  | .mgmt => live s || (!s.ao.resetting && (match classM (addr.toNat - addr.toNat % 4) with
    | some (_, a) => aoServed a || decide (a = 0x20)
    | none => false))
  | .tenant _ => false

/-- The word of the retention set that a control-window address shows (R288); that of `IV_DC_WINDOW` shows nowhere, since the protection unit's
registers read zero (R269, R290). -/
def retentionIndex (a : Nat) : Option Nat :=
  if a = 0x10 then some 0 else if a = 0x14 then some 1 else if a = 0x18 then some 2 else if a = 0x1C then some 3
  else if a = 0x300 then some 4 else if a = 0x310 then some 5 else if a = 0x400 then some 6 else if a = 0x600 then some 7
  else if 0x320 ≤ a && a < 0x360 then some (8 + (a - 0x320) / 4)
  else if a = 0x644 then some 24 else if a = 0x640 then some 25 else if a = 0x700 then some 26 else if a = 0x704 then some 27
  else if a = 0x708 then some 28 else if a = 0x70C then some 29 else if a = 0x710 then some 30 else if a = 0x718 then some 31
  else if a = 0x800 then some 32 else if a = 0x804 then some 33 else if a = 0x808 then some 34 else if a = 0x80C then some 35
  else if a = 0x128 then some 37
  else if 0x900 ≤ a && a < 0x928 then some (38 + (a - 0x900) / 4)
  else if a = 0x118 then some 48 else if a = 0x11C then some 49 else if a = 0x120 then some 50 else if a = 0x518 then some 51
  else none

/-- A register of the control window as IV_CLK_REG sees it: the last accepted value while its crossing is in deferred fault (R310), in REST
and DORMANT too (assumption log 48). The latch of `IV_SLEEP_ELAPSED_HI` lies in IV_CLK_REG itself. -/
def seenWord (s : State) (a : Nat) : Word :=
  if a = 0x514 then s.tm.latchSleep
  else match find s.flt.regHeld a with
    | some w => w
    | none => homeWord s a

/-- What crosses for a register: its home, and for `IV_SLEEP_ELAPSED_HI` the upper half that a read of the lower one latches (R248). -/
def crossWord (s : State) (a : Nat) : Word := if a = 0x514 then fld s.tm.elapsed 32 32 else homeWord s a

/-- IV_SLEEP_ELAPSED as IV_CLK_REG sees it: the last accepted value while crossing 0x5 is in deferred fault (R310). -/
def seenElapsed (s : State) : DWord :=
  match find s.flt.regHeld 0x514, find s.flt.regHeld 0x510 with
  | some h, some l => h ++ l
  | _, _ => s.tm.elapsed

/-- The control-window registers that cross at code 0x5 or 0x6 (R307, R314): of the AO parts, those of the AO island (R362), and not the aperture
registers or what the mode controller holds (R288, assumption log 82). -/
def crossingRegs (c : Crossing) : List Nat :=
  match c with
  | .aoReg => [0x0C, 0x508, 0x50C, 0x510, 0x514, 0x648] ++ ((List.range 16).map fun i => 0x40 + 4 * i) ++ (List.range 64).map fun i => 0xC00 + 4 * i
  | .fabReg => [0x304, 0x518, 0x900, 0x904, 0x908, 0x90C, 0x910, 0x914, 0x918, 0x91C, 0x920, 0x924]
  | _ => []

/-- The control-window registers of which an entry takes copies: runs of words by address, those of the AO island, of the time unit and
of the protection unit apart, whose entry access and dual control read zero in sleep (R15, R269, R283 step 4, R290, R314, assumption
log 85). -/
def copyRuns : List (Nat × Nat) :=
  [(0x10, 4), (0x118, 3), (0x128, 1), (0x130, 12), (0x300, 2), (0x310, 1), (0x320, 16), (0x400, 1),
   (0x518, 1), (0x600, 1), (0x640, 2), (0x700, 5), (0x718, 1), (0x800, 4), (0x900, 10), (0x1000, 128)]

/-- The copies as an entry takes them (R283 step 4, R290). -/
def homeCopies (s : State) : List (Nat × Word) :=
  copyRuns.flatMap fun r => (List.range r.2).map fun i => (r.1 + 4 * i, homeWord s (r.1 + 4 * i))

/-- The copy of a register; zero where none was taken. -/
def copyWord (s : State) (a : Nat) : Word := (find s.pw.copies a).getD 0

/-- The AO copy of IV_WPEND serves its reads (R168). -/
def isWpend (a : Nat) : Bool := decide (0x1000 ≤ a) && decide (a < 0x1200)

/-- A read in DORMANT (R168, R290, R314): the save area for the retention set, and the copies at entry of IV_ARB_STAT and IV_WPEND. -/
def dormantRead (s : State) (a : Nat) : Word :=
  match retentionIndex a with
  | some i => s.pw.ret.getD i 0
  | none => if decide (a = 0x304) || isWpend a then copyWord s a else 0

/-- The time unit's registers of the management port, which the AO island serves in sleep (R239, R314). -/
def timeAddr (a : Nat) : Bool := decide (a = 0x500) || decide (a = 0x504)

/-- A management read of the control window, by mode (R168, R290, R325, R361); in SAFE IV_WPEND reads its copy, through which the discard of
every vector has been written (R34, assumption log 65). -/
def ctlRead (s : State) (a : Nat) : Word :=
  if aoServed a then seenWord s a
  else if s.md.mode = .safe then (if isWpend a then homeWord s a else 0)
  else if sleeping s then
    (if timeAddr a then seenWord s a else if s.md.mode = .dormant then dormantRead s a else copyWord s a)
  else seenWord s a

/-! ### Tenant and target windows -/

/-- `IV_TW_ID` (R252, R374). -/
def twIdWord (e : Slice) : Word := w32 (e.sizeClass * 4096 + e.tenant)

/-- A register of tenant window t (R373). -/
def windowWord (s : State) (t : BitVec 12) (off : Nat) : Word :=
  match sliceOf s t.toNat with
  | none => 0
  | some e =>
    let u := eaOf s (.tw t)
    let x := tnOf s t.toNat
    if off = 0x00 then twIdWord e
    else if off = 0x04 then x.status.word 0
    else if off = 0x08 then eaLockWord u
    else if off = 0x0C then at_ 32 0 u.kind
    else if off = 0x10 then at_ 32 0 u.index
    else if off = 0x18 then eaStatusWord u
    else if 0x20 ≤ off && off < 0x40 then wd8 u.data ((off - 0x20) / 4)
    else if off = 0x40 then w32 (e.bucket * 65536 + x.credits.toNat)
    else if off = 0x44 then x.strangers
    else if off = 0x48 then x.denied
    else 0

/-- A register of target window t (R379). -/
def targetWord (s : State) (t off : Nat) : Word :=
  let g := tgtOf s t
  if off = 0x00 then at_ 32 8 g.threshold ||| at_ 32 0 g.cprio
  else if off = 0x0C then at_ 32 0 g.pstate
  else if off = 0x10 then tStat s t
  else if off = 0x18 then fld g.amask 0 32
  else if off = 0x1C then g.amaskLatch
  else 0

/-! ### The security port -/

/-- `IV_S_KCV` (R273, R382). -/
def kcvWord (s : State) : Word :=
  if decide (s.dcS.st = .open) && decide (propKind s.dcS = 5) then keyCheck s.dcS.bound else 0

/-- A security address that the AO island serves (R381, R384). -/
def secAoServed (a : Nat) : Bool :=
  decide (a = 0) || (decide (0x100 ≤ a) && decide (a ≤ 0x140)) || (decide (0x200 ≤ a) && decide (a < 0x300))

/-- A register of the security port (R381): at its home, and the poll block and the last-gasp area, which cross from the AO island, as IV_CLK_REG
sees them (R43, R307, R310). -/
def secHome (s : State) (a : Nat) : Word :=
  if a = 0x000 then 0x09600100
  else if a = 0x008 then w32 (seenTime s)
  else if a = 0x00C then s.tm.latchS
  else if a = 0x014 then dcStatusWord s .S
  else if a = 0x024 then at_ 32 0 s.ctl.dcWindow
  else if a = 0x028 then s.dcM.idLo
  else if a = 0x02C then s.dcM.idHi
  else if a = 0x030 then s.dcS.idLo
  else if a = 0x034 then s.dcS.idHi
  else if a = 0x038 then kcvWord s
  else if 0x040 ≤ a && a < 0x080 then mirrorWord s .S ((a - 0x040) / 4)
  else if 0x080 ≤ a && a < 0x0C0 then
    (if 2 ≤ (a - 0x080) / 4 && (a - 0x080) / 4 ≤ 5 then 0 else wd16 s.dcS.stage ((a - 0x080) / 4))
  else if 0x0C0 ≤ a && a < 0x0F0 then digestWord s ((a - 0x0C0) / 4)
  else if 0x100 ≤ a && a < 0x140 then seenWord s (0x40 + (a - 0x100))
  else if 0x200 ≤ a && a < 0x300 then seenWord s (0xC00 + (a - 0x200))
  else 0

/-- A read of the security port, by mode (R384). -/
def secRead (s : State) (a : Nat) : Word :=
  if a % 4 ≠ 0 then 0
  else if s.md.mode = .safe then (if secAoServed a then secHome s a else 0)
  else if sleeping s then
    (if secAoServed a || decide (a = 0x008) || decide (a = 0x00C) || (decide (0x0C0 ≤ a) && decide (a < 0x0F0)) then secHome s a else 0)
  else secHome s a

/-- A read of a port (R38 to R40, R43, R345, R361, R374, R380); alias addresses and reserved locations read zero. In REST and DORMANT the windows
show their registers as at entry, `IV_TW_EA_*` among them (R290; DEDUCED, assumption log 85). During a block reset the
security port's registers that the AO island does not serve read zero, which no rule states (assumption log 65). -/
def portRead (s : State) (p : Port) (addr : BitVec 22) : Word :=
  let a := addr.toNat
  if portsDead s || decide (a % 4 ≠ 0) then 0
  else match p with
    | .sec =>
      let a := a % 4096
      if s.ao.resetting then (if secAoServed a then secHome s a else 0) else secRead s a
    | _ =>
      if s.ao.resetting then 0
      else if a < 0x4000 then (if p = .mgmt then ctlRead s a else 0)
      else if 0x80000 ≤ a && a < 0x100000 then
        let t := BitVec.ofNat 12 ((a - 0x80000) / 128)
        if live s && windowReach s p t then windowWord s t ((a - 0x80000) % 128) else 0
      else if 0x200000 ≤ a then
        let t := (a - 0x200000) / 32
        if live s && targetReach s p t then targetWord s t ((a - 0x200000) % 32) else 0
      else 0

end Sys2Proof.Machine
end

