-- ==== Sys2Proof/Machine/Quiet.lean ====
section
/-! DEFINITION. Quiet (R279), and what ends it of itself. -/

namespace Sys2Proof.Machine

/-- The configuration of a wired line's vector. -/
def lineCfg (s : State) (h : Nat) : VteCfg :=
  match vteOn s h with
  | some e => e.cfg
  | none => vteZero.cfg

/-- A LEVEL 1 line stands otherwise than its vector has noted (R146). -/
def levelDiffers (s : State) (h : Nat) : Bool :=
  let c := lineCfg s h
  decide (h < 3840) && c.valid && c.level && lineActive s c h != (vecOf s h).lineOn

/-- No proposal is APPROVED (R279). -/
def proposalsQuiet (s : State) : Bool := decide (s.dcM.st ≠ .approved) && decide (s.dcS.st ≠ .approved)

/-- No input waits for a ranking lane (R279): inputs that have reached the core, those of wired lines, and levels that no round has
sampled yet. -/
def lanesQuiet (s : State) : Bool :=
  s.vs.queue.isEmpty && (s.vs.vecs.all fun v => v.2.eois.isEmpty && v.2.changes.isEmpty && decide (v.2.steps + v.2.slept = 0))
    && s.vs.vtes.all fun e => !levelDiffers s e.1

/-- No stream requests a grant, or would once its vector is on chip (R131, R209, R279). -/
def streamsQuiet (s : State) : Bool := !s.ctl.deliverEn || s.ar.heap.all fun t => !mayRequest s t.toNat

/-- Quiet (R279). -/
def quiet (s : State) : Bool :=
  s.vat.slots.isEmpty && lanesQuiet s && streamsQuiet s && s.ar.flight.isEmpty && s.ar.open_.isNone && s.ar.bells.isEmpty && apIdle s
    && (decide (s.fu.phase = .empty) || decide (s.fu.phase = .formed))
    && (units s).all (fun u => (eaOf s u).busy.isNone) && proposalsQuiet s

/-- Something that Ivsyn does of itself: where it ends quiet it is activity, and is done as in SERVING (R279, R280, R284). -/
def stirring (f : State → State) (s : State) : State := if quiet s && !quiet (f s) then f (activity s false) else f s

end Sys2Proof.Machine
end

