-- ==== Sys2Proof/Machine/Time.lean ====
section
/-! DEFINITION. The time unit (R65, R235 to R239, R245, R250), reads through the ports (R36, R39, R40, R43, R346), crossings (R237, R310), throttle (R70,
R300), and the supply's fall (R69). -/

namespace Sys2Proof.Machine

/-- A TIME_ESTIMATED record (R250): cause, the pair before the estimate, A_wake or the AO count now, and the elapsed estimate. -/
def jnlEstimated (s : State) (cause from_ : Nat) (a b : Word) : State :=
  let e := now s - from_
  jnl s 0x04 (BitVec.ofNat 24 cause) (now s)
    [(4, w32 from_), (5, w32hi from_), (6, a), (7, b), (8, s.tm.aoCal), (9, w32 e), (10, w32hi e)]

/-- Estimation starts in Run, from local time: one record at each start (R65, R237, R245, R250). -/
def startEstimate (s : State) (cause : Nat) : State :=
  if s.tm.accepted && !s.tm.estimated then
    jnlEstimated { s with tm := { s.tm with estimated := true, estFrac := 0, base := s.tm.now, cycles := 0 } } cause s.tm.lastAcc s.tm.lastAo s.tm.aoCount
  else s

/-- A crossing is in deferred fault (R310). -/
def cdcFaulted (s : State) (c : Crossing) (line : BitVec 16) : Bool := s.flt.cdc.any fun x => decide (x = (c, line))

/-- What the receiver of a crossing accepts now. -/
def cdcSeen (s : State) (c : Crossing) : Seen := { time := s.tm.now, regs := (crossingRegs c).map fun a => (a, crossWord s a) }

/-- The crossing carries local time or registers to IV_CLK_REG: codes 0x2, 0x5 and 0x6 (R307, R310). -/
def crossesToReg (c : Crossing) : Bool :=
  match c with
  | .regTime => true
  | .aoReg => true
  | .fabReg => true
  | _ => false

/-- The entries of a crossing that a run of disagreements left. -/
def cdcRuns (s : State) (c : Crossing) : List (Crossing × Seen) := s.flt.runs.filter fun x => decide (x.1 = c)

/-- A CDC_RETRY notes what its crossing had last accepted; a run has three of them before its deferred fault (R310). -/
def cdcNote (s : State) (c : Crossing) : State :=
  if crossesToReg c then
    { s with flt := { s.flt with runs := ((c, cdcSeen s c) :: cdcRuns s c).take 3 ++ s.flt.runs.filter fun x => decide (x.1 ≠ c) } }
  else s

/-- What a crossing had last accepted before the run of disagreements that ends in its deferred fault: at the first of the run's
CDC_RETRYs, or now where none has come (R310, assumption log 48). -/
def cdcKept (s : State) (c : Crossing) : Seen :=
  match (cdcRuns s c).getLast? with
  | some x => x.2
  | none => cdcSeen s c

/-- A crossing's deferred fault ends at the first agreement, and with it a run of disagreements: the value then sent is accepted (R310). -/
def cdcClear (s : State) (c : Crossing) (line : BitVec 16) : State :=
  { s with flt := { s.flt with cdc := s.flt.cdc.filter fun x => decide (x ≠ (c, line)), runs := s.flt.runs.filter fun x => decide (x.1 ≠ c),
                               timeHeld := if c = .regTime then none else s.flt.timeHeld,
                               regHeld := s.flt.regHeld.filter fun e => !((crossingRegs c).any (· = e.1)) } }

/-- A crossing's deferred fault starts, and its run of disagreements is over: what the receiver last accepted stays in use (R310). -/
def cdcHold (s : State) (c : Crossing) (line : BitVec 16) (x : Seen) : State :=
  { s with flt := { s.flt with cdc := (c, line) :: s.flt.cdc, runs := s.flt.runs.filter fun x => decide (x.1 ≠ c),
                               timeHeld := if c = .regTime then some x.time else s.flt.timeHeld,
                               regHeld := x.regs.foldl (fun l e => put l e.1 e.2) s.flt.regHeld } }

/-- The reference against which a presented value is compared (R65). -/
def timeReference (s : State) : Nat := if s.tm.estimated then s.tm.now else s.tm.lastAcc

/-- A presented value is a jump: below the reference, or more than 1 ms above it (R65). -/
def timeJump (s : State) (v : Nat) : Bool :=
  s.tm.accepted && (decide (v < timeReference s) || decide (timeReference s + oneMs < v))

/-- The count of IV_CLK_FAB cycles at an accepted value: one that continues the last accepted value shows how many cycles of 0.5 ns have
passed since; a first value, one that jumps and one that ends an estimate show nothing of it (R65, R235, R238, R240, assumption log 72). -/
def fabAccept (s : State) (v : Nat) : Nat :=
  if s.tm.accepted && !s.tm.estimated && !timeJump s v then max s.tm.fab (s.tm.fabAcc + 2 * (v - s.tm.lastAcc)) else s.tm.fab

/-- The time unit accepts a value: local time never decreases (R235, R245). -/
def timeTake (s : State) (v : Nat) : State :=
  let s1 := if timeJump s v then raiseStatus s stTimeJump else s
  let n := fabAccept s v
  cdcClear { s1 with tm := { s1.tm with now := max s1.tm.now v, accepted := true, lastAcc := v, lastAo := s1.tm.aoCount, estimated := false,
                                        ivValid := true, estFrac := 0, base := v, cycles := 0, fab := n, fabAcc := n } } .time 0

/-- The time unit sees IV time: powered, out of power-on reset, and not asleep (R238, R239). -/
def timeRuns (s : State) : Bool := !s.ao.porst && decide (s.md.mode ≠ .off) && !sleeping s

/-- TIME_ACCEPT (R235). -/
def execTimeAccept (ivTime : DWord) (s : State) : Host.Outcome State Fault Refusal :=
  .next (if timeRuns s then timeTake s ivTime.toNat else s)

/-- TIME_VALID_LOSS (R65). -/
def execTimeValidLoss (s : State) : Host.Outcome State Fault Refusal :=
  .next (if timeRuns s then stirring (fun s => startEstimate { s with tm := { s.tm with ivValid := false } } 3) s else s)

/-- ARG of a crossing's records (R316). -/
def cdcArg (c : Crossing) (line : BitVec 16) : BitVec 24 := at_ 24 16 (crossingCode c) ||| at_ 24 0 line

/-- A retry is noted and counted, but not while the crossing is already in deferred fault (R310). -/
def cdcRetry (c : Crossing) (line : BitVec 16) (inj : Bool) (s : State) : State :=
  if cdcFaulted s c line then s else faultFound (cdcNote s c) 0x04 (cdcArg c line) inj

/-- CDC_RETRY (R237, R310). -/
def execCdcRetry (code : Crossing) (line : BitVec 16) (s : State) : Host.Outcome State Fault Refusal :=
  .next (whenLive s (stirring (cdcRetry code line false)))

/-- A crossing enters a deferred fault, once until an agreement ends it (R237, R310). -/
def cdcDeferred (c : Crossing) (line : BitVec 16) (inj : Bool) (s : State) : State :=
  if cdcFaulted s c line then s
  else
    let s1 := cdcHold (faultFound s 0x12 (cdcArg c line) inj) c line (cdcKept s c)
    if decide (c = .time) && timeRuns s1 then startEstimate s1 4 else s1

/-- CDC_DEFERRED (R237, R310). -/
def execCdcDeferred (code : Crossing) (line : BitVec 16) (s : State) : Host.Outcome State Fault Refusal :=
  .next (whenLive s (stirring (cdcDeferred code line false)))

/-- The throttle level takes a value; a change is counted (R300). -/
def throttleTake (s : State) (l : BitVec 3) : State :=
  { s with pw := { s.pw with throttle := l, thrChanges := if l = s.pw.throttle then s.pw.thrChanges else s.pw.thrChanges + 1 } }

/-- THROTTLE_CHANGE: the level is accepted at once, but in sleep not before the wake, and not while nothing answers (R70, R300, R307). -/
def execThrottleChange (level : BitVec 3) (s : State) : Host.Outcome State Fault Refusal :=
  let s1 := { s with pw := { s.pw with thrPin := level } }
  .next (if mute s || sleeping s then s1 else cdcClear (throttleTake s1 level) .throttle 0)

/-- VDD_OK_FALL: between a request and its acknowledge it is allowed; else it is fatal in Run and IDLE, and loses retention in sleep
(R69). -/
def execVddOkFall (s : State) : Host.Outcome State Fault Refusal :=
  .next (whenLive s fun s =>
    if s.pw.ackWait then s
    else if sleeping s then { s with pw := { s.pw with vddFell := true } }
    else fatalFault s 0x29 0 false)

/-! ### Reads -/

/-- A read of `IV_TIME_LO` or `IV_S_TIME_LO` latches the upper half for its own port (R239, R346). -/
def timeLatch (s : State) (p : Port) : State :=
  if live s then
    match p with
    | .mgmt => portAnswer { s with tm := { s.tm with latchM := w32hi (seenTime s) } } p (w32 (seenTime s)) false
    | .sec => portAnswer { s with tm := { s.tm with latchS := w32hi (seenTime s) } } p (w32 (seenTime s)) false
    | .tenant t => portAnswer (denied s t.toNat) p 0 false
  else portAnswer s p 0 false

/-- A read of `IV_SLEEP_ELAPSED_LO`, an AO register of the management port (R248, R310, R313, R346). -/
def sleepElapsedRead (s : State) (p : Port) : State :=
  match p with
  | .mgmt =>
    if s.ao.resetting then portAnswer s p 0 false
    else portAnswer { s with tm := { s.tm with latchSleep := fld (seenElapsed s) 32 32 } } p (fld (seenElapsed s) 0 32) false
  | .sec => portAnswer s p 0 false
  | .tenant t => portAnswer (if live s then denied s t.toNat else s) p 0 false

/-- A tenant reaches a location of the register port (R40, R251, R380). -/
def tenantReads (s : State) (t : BitVec 12) (a : Nat) : Bool :=
  (decide (0x80000 ≤ a) && decide (a < 0x100000) && windowReach s (.tenant t) (BitVec.ofNat 12 ((a - 0x80000) / 128)))
    || (decide (0x200000 ≤ a) && targetReach s (.tenant t) ((a - 0x200000) / 32))

/-- A read at an aligned address (R36, R40, R43): the latching locations latch (R346), and a tenant's read out of reach is counted. -/
def alignedRead (s : State) (p : Port) (addr : BitVec 22) : State :=
  let a := addr.toNat
  let plain := portAnswer s p (portRead s p addr) false
  match p with
  | .sec => if a % 4096 = 0x008 then timeLatch s p else plain
  | .mgmt =>
    if a = 0x500 then timeLatch s p
    else if a = 0x510 then sleepElapsedRead s p
    else if 0x200000 ≤ a && a % 32 = 0x18 then amaskRead s p ((a - 0x200000) / 32)
    else plain
  | .tenant t =>
    if !live s then plain
    else if !tenantReads s t a then portAnswer (denied s t.toNat) p 0 false
    else if 0x200000 ≤ a && a % 32 = 0x18 then amaskRead s p ((a - 0x200000) / 32)
    else plain

/-- A read through a port (R36, R39, R40, R43): a misaligned one is an error to the fabric manager and the security controller, and a
denied access to a tenant. -/
def regRead (s : State) (p : Port) (addr : BitVec 22) : State :=
  if addr.toNat % 4 = 0 then alignedRead s p addr
  else match p with
    | .tenant t => portAnswer (if live s then denied s t.toNat else s) p 0 false
    | _ => portAnswer s p 0 (misalignedErr s p addr)

/-- TIME_LO_READ: the row of the latching read of local time takes the read of any other location too (R36, R239, assumption log 4). -/
def execTimeLoRead (access : ReadAccess) (s : State) : Host.Outcome State Fault Refusal :=
  .next (portServe s fun s => regRead s access.port access.addr)

/-- SLEEP_ELAPSED_LO_READ (R248). -/
def execSleepElapsedLoRead (port : Port) (s : State) : Host.Outcome State Fault Refusal :=
  .next (portServe s fun s => sleepElapsedRead s port)

/-- Journal rate buckets refill to 64 (R126, R243). -/
def bucketRefill (s : State) : State :=
  { s with jn := { s.jn with buckets := s.jn.buckets.map fun b => (b.1, { b.2 with tokens := 64 }) } }

/-- The journal-bucket tick, at every multiple of 1,000,000,000 ns (R126, R243). -/
def bucketTick (s : State) : State :=
  if ticksDue s 1000000000 s.tm.ticks.bucket = 0 then s
  else bucketRefill { s with tm := { s.tm with ticks := { s.tm.ticks with bucket := now s / 1000000000 } } }

/-- JOURNAL_BUCKET_REFILL (R126, R243). -/
def execJournalBucketRefill (s : State) : Host.Outcome State Fault Refusal := .next (if awake s then bucketTick s else s)

/-- DC_WINDOW_EXPIRY: a record of the end that ends quiet is activity (R237, R269, R279). -/
def execDcWindowExpiry (p : Party) (s : State) : Host.Outcome State Fault Refusal :=
  .next (if awake s && decide ((dcOf s p).windowEnd ≤ regTime s) then stirring (fun s => propClose s p dcExpired 0x64 1) s else s)

/-- CREDIT_REFILL: a refill that ends the wait of a stream is activity (R180, R243, R279). -/
def execCreditRefill (s : State) : Host.Outcome State Fault Refusal := .next (if awake s then stirring creditTick s else s)

/-- HW_FIELD_WRITEBACK (R131, R243). -/
def execHwFieldWriteback (s : State) : Host.Outcome State Fault Refusal :=
  .next (if awake s then stirring writebackTick s else s)

end Sys2Proof.Machine
end

