-- ==== Sys2Proof/Machine/Wired.lean ====
section
/-! DEFINITION. Wired inputs (R60 to R62, R146, R147, R214, R285, R286, R291): level lines, edges, counted lines, and their wake. -/

namespace Sys2Proof.Machine

/-- A level line stands at a level. -/
def lineSet (s : State) (n : Nat) (high : Bool) : State :=
  { s with ws := { s.ws with high := if high then setBit s.ws.high n else clrBit s.ws.high n } }

/-- The line is an enabled wake source (R100, R291). -/
def lineWakes (s : State) (n : Nat) : Bool :=
  s.ctl.wakeEn.getLsbD 3 && (match s.fu.formed with
    | some f => f.wiredWake.getLsbD n
    | none => false)

/-- A line that goes active in REST wakes Ivsyn where it is enabled; in DORMANT it is latched only (R291). -/
def lineWake (s : State) (n : Nat) : State :=
  if decide (s.md.mode = .rest) && lineWakes s n then wakeSource s 4 else s

/-- The latch of an edge line (R214, R285, R25). -/
def lineLatch (s : State) (n : Nat) : State := { s with ws := { s.ws with latch := setBit s.ws.latch n } }

/-- The wake window (R286): the sampler has stopped for an entry attempt and the line latches are not yet armed. It lasts for as long as local
time stands at the instant of step 5 (assumption log 12). -/
def wakeWindow (s : State) : Bool :=
  match s.pw.entry with
  | some e => decide (e.step = .armed) && decide (e.origin ≠ .unformed) && decide (e.armedAt = now s)
  | none => false

/-- An inactive-to-active transition of a line whose vector has LEVEL 0 (R25, R61, R214, R285, R286): one event in SERVING where the
vector is VALID, a latched event in DRAINING, UNFORMED and sleep, and lost in the wake window, which nothing sees. -/
def edgeTake (s : State) (n : Nat) : State :=
  if sleeping s then lineWake (lineLatch s n) n
  else if wakeWindow s then s
  else
    let s1 := activity s false
    if s1.md.mode = .serving then
      (if (lineCfg s n).valid then
        let v := vecOf s1 n
        enqueue (vecPut s1 n { v with steps := v.steps + 1 }) n
      else s1)
    else lineLatch s1 n

/-- A line stands at a level now. Rounds sample a LEVEL 1 line, and one that goes active may wake Ivsyn (R146, R280, R291); a LEVEL 0
line that goes active is an edge. -/
def lineMoves (s : State) (n : Nat) (high : Bool) : State :=
  let c := lineCfg s n
  let s1 := lineSet s n high
  let rises := lineActive s1 c n && !lineActive s c n
  if !live s then s1
  else if rises && !c.level then edgeTake s1 n
  else if sleeping s then (if rises then lineWake s1 n else s1)
  else if s.ws.high.getLsbD n = high then s1
  else enqueue (activity s1 false) n

/-- LEVEL_LINE_CHANGE (R61, R146). -/
def execLevelLineChange (n : Fin 3840) (high : Bool) (s : State) : Host.Outcome State Fault Refusal :=
  .next (lineMoves s n.val high)

/-- The line's level before and after an inactive-to-active transition. -/
def edgeLine (s : State) (n : Nat) : State :=
  let c := lineCfg s n
  lineMoves (lineSet s n c.polarity) n (!c.polarity)

/-- SAMPLED_EDGE: the line goes from inactive to active (R61). -/
def execSampledEdge (n : Fin 3840) (s : State) : Host.Outcome State Fault Refusal := .next (edgeLine s n.val)

/-- Steps between two accepted values of a counted line (R62). -/
def grayStep (old new : BitVec 4) : Nat := (grayCount new + 16 - grayCount old) % 16

/-- A counted line presents a value (R62, R285): accepted steps are events in SERVING, else the baseline stays. -/
def countedLine (s : State) (m : Nat) (g : BitVec 4) : State :=
  let s1 := { s with ws := { s.ws with grayNow := s.ws.grayNow.setIfInBounds m g } }
  if awake s then
    let s2 := cdcClear (activity s1 false) .counted (BitVec.ofNat 16 m)
    if s2.md.mode = .serving then
      let h := 3840 + m
      let v := vecOf s2 h
      let n := grayStep (s2.ws.gray.getD m 0) g
      let s3 := { s2 with ws := { s2.ws with gray := s2.ws.gray.setIfInBounds m g } }
      if (lineCfg s h).valid then enqueue (vecPut s3 h { v with steps := v.steps + n }) h else s3
    else s2
  else s1

/-- COUNTED_STEP (R62). -/
def execCountedStep (m : Fin 256) (gray : BitVec 4) (s : State) : Host.Outcome State Fault Refusal :=
  .next (countedLine s m.val gray)

/-- Latched events of one line pass to its vector, where it is VALID (R285). -/
def sleptIn (s : State) (h n : Nat) : State :=
  let v := vecOf s h
  if (lineCfg s h).valid then enqueue (vecPut s h { v with slept := v.slept + n }) h else s

/-- The LEVEL 1 lines that stand otherwise than noted go to their lanes: they are sampled afresh (R285). -/
def levelsIn (s : State) : State := forEach ((s.vs.vtes.map fun e => e.1).filter (levelDiffers s)) s enqueue

/-- Ivsyn wakes, or enters SERVING from a mode in which wired events were latched: the latches are read and cleared, and the counted lines'
differences taken, with which their crossings agree (R25, R62, R214, R285, R310). -/
def wiredRelease (s : State) : State :=
  let edges := if s.ws.latch = 0 then [] else (List.range 3840).filter s.ws.latch.getLsbD
  let steps := (List.range 256).filter fun m => decide (s.ws.gray.getD m 0 ≠ s.ws.grayNow.getD m 0)
  let s1 := forEach edges s fun s n => sleptIn s n 1
  let s2 := forEach steps s1 fun s m => sleptIn s (3840 + m) (grayStep (s.ws.gray.getD m 0) (s.ws.grayNow.getD m 0))
  levelsIn { s2 with ws := { s2.ws with latch := 0, gray := s2.ws.grayNow, roundDue := true },
                     flt := { s2.flt with cdc := s2.flt.cdc.filter fun x => decide (x.1 ≠ .counted) } }

/-- WIRED_LEVEL_WAKE: an enabled level line goes active in REST (R291). -/
def execWiredLevelWake (n : Fin 3840) (s : State) : Host.Outcome State Fault Refusal :=
  .next (if live s && decide (s.md.mode = .rest) then edgeLine s n.val else s)

/-- The AO count has reached the wake comparator (R247). -/
def comparatorHit (s : State) : Bool :=
  match s.pw.comparator with
  | some c => decide ((s.tm.aoCount - c).toNat < 2147483648)
  | none => false

/-- AO_WAKE_COMPARATOR (R247, R291). -/
def execAoWakeComparator (s : State) : Host.Outcome State Fault Refusal :=
  .next (if live s && sleeping s && s.ctl.wakeEn.getLsbD 4 && comparatorHit s then wakeSource s 5 else s)

end Sys2Proof.Machine
end

