-- ==== Sys2Proof/Machine/Power.lean ====
section
/-! DEFINITION. Modes and power: quiet and IDLE (R279, R280), entry attempts (R281 to R288, R293), requests to the power controller
(R66 to R68), wake (R245, R246, R291, R292), loss of retention (R326), and the mode request (R277, R278). -/

namespace Sys2Proof.Machine

/-! ### IDLE -/

/-- REQ asks for sleep (R277). -/
def sleepReq (s : State) : Bool := decide (s.pw.req = 1) || decide (s.pw.req = 2) || decide (s.pw.req = 8)

/-- Ivsyn enters IDLE, and makes an attempt there if one is asked for (R280, R281). -/
def idleEnter (s : State) : State :=
  let s1 := setMode s .idle
  { s1 with pw := { s1.pw with pwrState := 3, woke := false, due := sleepReq s && decide (2 ≤ s.ctl.allow.toNat) } }

/-- Ivsyn has been quiet for IDLE_AFTER µs without a break (R280). -/
def quietLong (s : State) : Bool := quiet s && decide (s.ar.busyAt + 1000 * s.ctl.idleAfter.toNat ≤ now s)

/-- IDLE_ENTRY: IDLE_AFTER µs of quiet have passed (R278 row 9). -/
def execIdleEntry (s : State) : Host.Outcome State Fault Refusal :=
  .next (if live s && decide (s.md.mode = .serving) && s.pw.entry.isNone && s.ctl.allow.getLsbD 0 && decide (s.ctl.idleAfter ≠ 0)
      && quietLong s then idleEnter s else s)

/-! ### Instants -/

/-- A running instant: when, and in the order of R246 its kind and index. -/
structure Due where
  instant : Nat
  kind : Nat
  index : Nat
deriving DecidableEq, Repr

/-- Leases by timer (R241). -/
def leaseDues (s : State) : List Due := (locksHeld s).map fun l => { instant := l.2.expiry, kind := 0, index := l.2.timer }

/-- Hold-off windows; the index carries the fine timer above the group. -/
def windowDues (s : State) : List Due :=
  s.ts.couches.filterMap fun c => c.2.window.map fun e => { instant := e, kind := 1, index := c.2.timer.toNat * 65536 + c.1 }

/-- The instant of a calendar entry (R242). -/
def calInstant (s : State) (id : Nat) : Option Nat :=
  if id < 16777216 then (vecOf s id).ev.map fun e => e.deadline else couchInstant s (id - 16777216)

/-- Calendar entries, by handle and then by group. -/
def calendarDues (s : State) : List Due :=
  (s.vs.calendar ++ s.vs.sweepList).filterMap fun id => (calInstant s id).map fun e => { instant := e, kind := 2, index := id }

/-- Watchdogs by target. -/
def wdogDues (s : State) : List Due :=
  s.ts.targets.filterMap fun g => g.2.wdog.map fun e => { instant := e, kind := 3, index := g.1 }

/-- Commit windows by party, after every target. -/
def windowEnds (s : State) : List Due :=
  (if s.dcM.st = .open then [{ instant := s.dcM.windowEnd, kind := 3, index := 65536 }] else [])
    ++ (if s.dcS.st = .open then [{ instant := s.dcS.windowEnd, kind := 3, index := 65537 }] else [])

/-- Every instant that is running, the periodic ticks excluded (R247). -/
def dues (s : State) : List Due := leaseDues s ++ windowDues s ++ calendarDues s ++ wdogDues s ++ windowEnds s

/-- The order in which expiries act (R246). -/
def dueBefore (a b : Due) : Bool :=
  decide (a.instant < b.instant) || (decide (a.instant = b.instant) &&
    (decide (a.kind < b.kind) || (decide (a.kind = b.kind) && decide (a.index < b.index))))

/-- Insertion in the order of R246. -/
def dueInsert (d : Due) (l : List Due) : List Due :=
  match l with
  | [] => [d]
  | x :: r => if dueBefore d x then d :: x :: r else x :: dueInsert d r

/-- The instants that have come, in order. -/
def duesNow (s : State) : List Due := ((dues s).filter fun d => decide (d.instant ≤ now s)).foldr dueInsert []

/-- The earliest instant (R247). -/
def earliest (s : State) : Option Nat := leastBy (fun a b => decide (a < b)) ((dues s).map fun d => d.instant)

/-- One expiry acts (R246). -/
def dueAct (s : State) (d : Due) : State :=
  if d.kind = 0 then (match leaseDue s d.index with
    | some u => lockBreak s u 1
    | none => s)
  else if d.kind = 1 then unlessFatal s fun s => couchDecision s (d.index % 65536) none
  else if d.kind = 2 then calendarAct s d.index
  else if d.index < 65536 then (if wdogDue s d.index then wdogExpire s d.index else s)
  else propClose s (if d.index = 65536 then .M else .S) dcExpired 0x64 1

/-- Expiries act in order, and then the windows that chained within the gap close; those closings are not counted as expiries (R246, R301). -/
def duesAct (s : State) : State × Nat :=
  let l := duesNow s
  let s1 := forEach l s dueAct
  let m := (duesNow s1).filter fun d => decide (d.kind = 1)
  (forEach m s1 dueAct, l.length)

/-- A count/time group that holds events releases at a wake, and is then at its boundary for a change that waits (R227, R233). -/
def wakeGroup (s : State) (g : Nat) : State :=
  if decide (effMode s g = 2) && !(couchHeld s g).isEmpty then couchTry (couchCalendar (couchRelease s g) g) g else s

/-- At a wake every count/time group that holds events releases (R233, R246), unless a fatal fault stops it (R318). -/
def wakeGroups (s : State) : State := unlessFatal s fun s => forEach (s.ts.couches.map fun c => c.1) s wakeGroup

/-- The sweep's multiples that have passed are counted; what it sweeps has acted with the expiries (R242, R246). -/
def sweepMark (s : State) : State := { s with tm := { s.tm with ticks := { s.tm.ticks with sweep := now s / 1024 } } }

/-- The periodic ticks that a gap passed, once per multiple (R243, R246). -/
def ticksAct (s : State) : State := sweepMark (writebackTick (bucketTick (strangerTick (creditTick s))))

/-! ### Entry attempts -/

/-- The depth of a request: 1 REST, 2 DORMANT, 3 OFF (R277). -/
def reqDepth (r : BitVec 4) : Nat := if r = 2 then 1 else if r = 1 then 2 else if r = 8 then 3 else 0

/-- The depth that ALLOW enables beyond IDLE (R281). -/
def allowDepth (a : BitVec 4) : Nat := if a.getLsbD 3 then 3 else if a.getLsbD 2 then 2 else if a.getLsbD 1 then 1 else 0

/-- The target of an attempt: the shallower of REQ and ALLOW (R281). -/
def attemptTarget (s : State) : Option SleepTarget :=
  match min (reqDepth s.pw.req) (allowDepth s.ctl.allow) with
  | 0 => none
  | 1 => some .rest
  | 2 => some .dormant
  | _ => some .off

/-- The FAULT refuser holds (R282, R312). -/
def faultRefuses (s : State) : Bool := s.flt.fatal.isSome || s.flt.selfTest.isSome || s.tm.aoStopped

/-- A proposal of either party is OPEN or APPROVED (R282). -/
def commitRefuses (s : State) : Bool := decide (s.dcM.st ≠ .empty) || decide (s.dcS.st ≠ .empty)

/-- Steps 1 and 2 of an attempt (R282, R283, R293). -/
def attempt (s : State) (t : SleepTarget) : State :=
  let s0 := { s with pw := { s.pw with due := false, woke := false, retryAt := none } }
  if faultRefuses s0 then refuse s0 t 7 (fltSumWord s0)
  else if decide (s0.fu.phase ≠ .empty) && decide (s0.fu.phase ≠ .formed) then refuse s0 t 5 (at_ 32 0 s0.fu.phase.code)
  else if commitRefuses s0 then refuse s0 t 3 (dcStatusWord s0 .M)
  else if !(locksHeld s0).isEmpty then refuse s0 t 4 (w32 (locksHeld s0).length)
  else if !s0.vat.slots.isEmpty then refuse s0 t 2 (w32 (occupied s0))
  else
    let e : Entry := { target := t, step := if s0.md.mode = .unformed then .armed else .draining, origin := s0.md.mode, since := now s0, armedAt := now s0 }
    settleAll (batchEndAll { s0 with pw := { s0.pw with entry := some e } })

/-- An attempt may be made in this mode (R281). -/
def attemptMode (s : State) (t : SleepTarget) : Bool :=
  decide (s.md.mode = .serving) || decide (s.md.mode = .idle) || (decide (s.md.mode = .unformed) && decide (t = .off))

/-- Ivsyn makes an attempt, if one can be made (R281). -/
def tryAttempt (s : State) : State :=
  match s.pw.entry, attemptTarget s with
  | none, some t => if attemptMode s t then attempt s t else s
  | _, _ => s

/-- SERVING and quiet with IDLE_AFTER at 0 (R281). -/
def quietServing (s : State) : Bool := decide (s.md.mode = .serving) && decide (s.ctl.idleAfter = 0) && quiet s

/-- ENTRY_ATTEMPT: Ivsyn has entered IDLE, or is quiet for the first time after a wake with IDLE_AFTER at 0 (R281). -/
def execEntryAttempt (s : State) : Host.Outcome State Fault Refusal :=
  .next (if live s && ((s.pw.due && decide (s.md.mode = .idle)) || (s.pw.woke && quietServing s)) then tryAttempt s else s)

/-- ENTRY_RETRY: 1 ms has passed since a refused or abandoned attempt (R281). -/
def execEntryRetry (s : State) : Host.Outcome State Fault Refusal :=
  .next (match s.pw.retryAt with
    | some t => if live s && decide (t ≤ now s) && (decide (s.md.mode = .idle) || quietServing s) then tryAttempt s else s
    | none => s)

/-- The attempt stands at a step. -/
def entryAt (s : State) (e : EntryStep) : Bool :=
  match s.pw.entry with
  | some x => decide (x.step = e)
  | none => false

/-- The attempt goes to a step. -/
def entryTo (s : State) (e : EntryStep) : State :=
  { s with pw := { s.pw with entry := s.pw.entry.map fun x => { x with step := e } } }

/-- No aperture write is outstanding (R283 step 3). -/
def writesDone (s : State) : Bool := !(s.ap.reqs.any fun e => e.2.write) && !(s.ap.waiting.any fun r => r.write)

/-- Step 4: the AO copies are refreshed (R283, R290). -/
def copiesTake (s : State) : State := { pollRefresh s with pw := { s.pw with copies := homeCopies s } }

/-- Steps 3 to 5: the copies are refreshed, the sampler stops and the line latches are armed (R283, R285, R286). -/
def entryArm (s : State) : State :=
  let s1 := entryTo (copiesTake s) .armed
  { s1 with pw := { s1.pw with entry := s1.pw.entry.map fun e => { e with armedAt := now s } } }

/-- ENTRY_DRAIN_COMPLETE (R283 step 3). -/
def execEntryDrainComplete (s : State) : Host.Outcome State Fault Refusal :=
  .next (if live s && entryAt s .draining && transferNone s && writesDone s then entryArm s else s)

/-- The wait of step 3: 50 µs (R283). -/
def drainMax : Nat := 50000

/-- ENTRY_DELIVERY_TIMEOUT (R282, R283). -/
def execEntryDeliveryTimeout (s : State) : Host.Outcome State Fault Refusal :=
  .next (match s.pw.entry with
    | some e =>
      if live s && decide (e.step = .draining) && decide (e.since + drainMax ≤ now s) && !(transferNone s && writesDone s)
      then refuse s e.target 1 (w32 (inFlightCount s)) else s
    | none => s)

/-- The comparator count n of R247, or none below 1: the times stand in units of 2^-16 ns, in which the margin is a whole number, and
the one floor is that of n. -/
def comparatorCount (s : State) (t : SleepTarget) (e : Nat) : Option Nat :=
  let cal := s.tm.aoCal.toNat
  let gap := e - now s
  let wake := if t = .rest then 2000 else 50000
  let n := (65536 * gap - (65536 * wake + 2 * cal + 64 * gap)) / cal
  if n = 0 then none else some n

/-- The AO timer wake source is enabled (R247). -/
def timerWake (s : State) : Bool := s.ctl.wakeEn.getLsbD 4

/-- The TIMER refuser holds (R247, R282). -/
def timerRefuses (s : State) (t : SleepTarget) : Bool :=
  match earliest s with
  | none => false
  | some e => decide (e ≤ now s + 10000) || (timerWake s && (comparatorCount s t e).isNone)

/-- The wake comparator that an entry loads (R247). -/
def comparatorFor (s : State) (t : SleepTarget) : Option Word :=
  match earliest s with
  | none => none
  | some e => if timerWake s then (comparatorCount s t e).map fun n => s.tm.aoCount + w32 n else none

/-- IV_PWR_REQ changes, and IV_PWR_ACK is awaited (R68). -/
def pwrAsk (s : State) (code : BitVec 3) : State := { s with pw := { s.pw with pwrReq := code, ackWait := true } }

/-- A committed attempt goes on once its writes have completed (R283 steps 7 and 8, R293). -/
def entryGo (s : State) : State :=
  match s.pw.entry with
  | some e =>
    if decide (e.step = .committed) && writesDone s then
      (if e.origin = .unformed then pwrAsk (entryTo s .askedOff) 4 else pwrAsk (entryTo s .askedRest) 2)
    else s
  | none => s

/-- The commit's MODE_CHANGE names the target, and shows IV_MODE after the change: from UNFORMED that is OFF (R278 row 14, R283, R301). -/
def jnlSleep (s : State) (from_ : Mode) (t : SleepTarget) : State :=
  jnlPut s .modeChange (mkRec 0x01 (at_ 24 4 from_.code ||| at_ 24 0 t.code) 0 (now s)
    [(4, 4), (5, modeWord (if from_ = .unformed then setMode s .off else s))])

/-- The last ranking round takes every input that waits, each compared and none after a fatal fault (R164, R283 step 6, R318). -/
def lastRounds (s : State) : State := forEach s.vs.queue s inputRound

/-- The commit: the entry is counted and the journal names the target (R283 step 7, R299). -/
def entryPass (s : State) (e : Entry) : State :=
  let cnt := s.pw.refCnt.setIfInBounds 0 (s.pw.refCnt.getD 0 0 + 1)
  entryGo (jnlSleep (entryTo { s with pw := { s.pw with refCnt := cnt, ignored := [], hungs := 0, vddFell := false } } .committed) e.origin e.target)

/-- The pair is captured, the comparator loads, and MODE becomes REST; for OFF the hardware fields are written back first
(R245, R247, R283, R293). -/
def entryCapture (s : State) (e : Entry) : State :=
  let s0 := if decide (e.target = .off) then writeback s else s
  setMode { s0 with tm := { s0.tm with tEntry := now s0, aEntry := s0.tm.aoCount },
                    pw := { s0.pw with comparator := comparatorFor s0 e.target } } .rest

/-- Steps 6 and 7 (R283); from UNFORMED step 7 alone (R293). A mismatch of the last round that is not yet classified refuses the entry
(R318). -/
def entryCommit (s : State) (e : Entry) : State :=
  if e.origin = .unformed then entryPass s e
  else
    let s0 := lastRounds s
    if s0.flt.fatal.isSome then s0
    else if s0.flt.selfTest.isSome then refuse s0 e.target 7 (fltSumWord s0)
    else if timerRefuses s0 e.target then
      refuse s0 e.target 6 (w32 ((match earliest s0 with
        | some x => x
        | none => 0) - now s0))
    else entryPass (entryCapture s0 e) e

/-- ENTRY_COMMIT (R283 steps 6 and 7); while no AO edge comes the attempt is refused (R312). -/
def execEntryCommit (s : State) : Host.Outcome State Fault Refusal :=
  .next (match s.pw.entry with
    | some e =>
      if live s && decide (e.step = .armed) && s.flt.fatal.isNone then
        (if s.tm.aoStopped then refuse s e.target 7 (fltSumWord s) else entryCommit s e)
      else s
    | none => s)

/-! ### Wake -/

/-- The state that OFF leaves: nothing is kept (R293, R294). -/
def offState (s : State) : State :=
  { State.reset with md := { State.mdReset with mode := .off }, pw := { State.pwReset with pwrReq := 4, pwrState := 0, thrPin := s.pw.thrPin },
                     ws := { State.wsReset with high := s.ws.high, grayNow := s.ws.grayNow }, free := s.free, pending := s.pending }

/-- Local time after a sleep: the presented value, or the AO estimate (R245). -/
def reconciled (s : State) (iv : Option DWord) : Nat :=
  match iv with
  | some v => max v.toNat s.tm.tEntry
  | none => estimateTime s

/-- Local time is set at wake, with the elapsed time (R245, R292 step 4). -/
def wakeTime (s : State) (iv : Option DWord) : State :=
  let t := reconciled s iv
  { s with tm := { s.tm with now := t, cycles := 0, fabAcc := s.tm.fab,
                             base := match iv with
                               | some v => v.toNat
                               | none => t,
                             elapsed := BitVec.ofNat 64 (t - s.tm.tEntry), aWake := s.tm.aoCount,
                             estimated := iv.isNone, estFrac := 0, ivValid := iv.isSome,
                             lastAcc := match iv with
                               | some v => v.toNat
                               | none => s.tm.lastAcc,
                             lastAo := if iv.isSome then s.tm.aoCount else s.tm.lastAo } }

/-- TIME_JUMP and TIME_ESTIMATED at wake (R245, R250). -/
def wakeTimeReport (s : State) (iv : Option DWord) : State :=
  match iv with
  | some v => if v.toNat < s.tm.tEntry then raiseStatus s stTimeJump else s
  | none => jnlEstimated s (if s.md.mode = .rest then 1 else 2) s.tm.tEntry s.tm.aEntry s.tm.aWake

/-- The writes that sleep ignored are reported, oldest first, each as a rejected one (R290, R357, R366), and with them the accesses that
the guard ended (R41). -/
def reportIgnored (s : State) : State :=
  let s1 := forEach s.pw.ignored.reverse { s with pw := { s.pw with ignored := [] } } fun s o => rejectWrite s ((0 : BitVec 2) ++ o ++ (0 : BitVec 2))
  forEach (List.replicate s.pw.hungs ()) { s1 with pw := { s1.pw with hungs := 0 } } fun s _ => raiseStatus s stHung

/-- A queued EOI is applied in a round of its own, so that each is taken in write order and before any new event (R160). -/
def wakeEoi (s : State) (q : Queued) : State :=
  match q with
  | .eoi t h => inputRound (applyEoi s t.toNat h.toNat) h.toNat
  | q => applyQueued s q

/-- The held host events and the queued writes apply (R246 steps 1 and 2). -/
def wakeQueues (s : State) : State :=
  let s1 := forEach s.pw.hostQ { s with pw := { s.pw with hostQ := [] } } hostTake
  let s2 := forEach s1.pw.eoiQ { s1 with pw := { s1.pw with eoiQ := [] } } wakeEoi
  forEach s2.pw.hintQ { s2 with pw := { s2.pw with hintQ := [] } } applyQueued

/-- The writes that a full queue held are let go, and the access at the register port completes (R160). -/
def heldDone (s : State) : State :=
  if s.pw.heldWrites.isEmpty then s else portDone { s with pw := { s.pw with heldWrites := [] } } .mgmt

/-- The writes that a full queue held apply, as writes in SERVING, and complete (R160). -/
def wakeHeld (s : State) : State := forEach s.pw.heldWrites (heldDone s) applyQueued

/-- The faults found in the sleep are counted and journaled (R289, assumption log 52). -/
def reportFaults (s : State) : State :=
  forEach s.pw.faultsHeld.reverse { s with pw := { s.pw with faultsHeld := [] } } fun s e => faultAt s e.2.2.2 e.1 e.2.1 e.2.2.1

/-- A wake from DORMANT restores the retention set (R288, R292 step 3). -/
def wakeRestore (s : State) : State := if s.md.mode = .dormant then retentionLoad s s.pw.ret else s

/-- Step 5's merges: the latched and sampled lines, in the first ranking rounds, whether Ivsyn then serves or drains (R246, R285, R292). -/
def wakeMerge (s : State) : State := lastRounds (wiredRelease s)

/-- The throttle level that the pins present is taken, and its crossing agrees (R300, R310). -/
def wakeThrottle (s : State) : State :=
  cdcClear (if s.pw.thrPin = s.pw.throttle then s else throttleTake s s.pw.thrPin) .throttle 0

/-- The crossing of IV time agrees where the wake finds a value (R245, R310). -/
def wakeTimeAgree (s : State) (iv : Option DWord) : State := if iv.isSome then cdcClear s .time 0 else s

/-- A wake without loss (R246, R292): the retention set, local time and the throttle level (R300), events and queued writes, expiries, ticks,
the mode and the wired lines, and then the record and what sleep held. -/
def wakeRun (s : State) (cause : BitVec 4) (iv : Option DWord) : State :=
  let slept := s.md.mode
  let s0 := wakeRestore s
  let s1 := { wakeTime s0 iv with pw := { s0.pw with saveValid := false, wakeReq := none, comparator := none, vddFell := false, entry := none,
                                                     ackWait := false, woke := true, due := false, retryAt := none, wakeCause := cause,
                                                     wakes := s.pw.wakes + 1, copies := [] } }
  let s2 := wakeThrottle (wakeTimeAgree (wakeTimeReport s1 iv) iv)
  let n := s2.pw.eoiQ.length + s2.pw.hintQ.length
  let x := duesAct (wakeQueues s2)
  let s4 := ticksAct (wakeGroups x.1)
  let s5 := wakeMerge (setMode s4 (if drainHeld s4 then .draining else .serving))
  let s6 := reportFaults (reportIgnored { s5 with pw := { s5.pw with pwrState := 4 } })
  let s7 := jnlPut s6 .journal (mkRec 0x03 (at_ 24 4 slept.code ||| at_ 24 0 cause) 0 (now s6)
    [(4, fld s6.tm.elapsed 0 32), (5, fld s6.tm.elapsed 32 32), (6, w32 n), (7, w32 x.2)])
  releaseAll (wakeHeld s7)

/-- IV_CLK_FAB stands still since a sleep: in REST and DORMANT, and in a SAFE entered from there (R324, R326). -/
def coreSlept (s : State) : Bool :=
  sleeping s || (decide (s.md.mode = .safe) && (decide (s.md.prev = .rest) || decide (s.md.prev = .dormant)))

/-- Local time runs on through a block reset out of a sleep, or out of a SAFE that followed one, by the AO estimate (R238). -/
def resetTime (s : State) : TimeUnit :=
  let t := if coreSlept s then max s.tm.now (estimateTime s) else s.tm.now
  { s.tm with now := t, base := if coreSlept s then t else s.tm.base, cycles := if coreSlept s then 0 else s.tm.cycles,
              estimated := s.tm.estimated || (coreSlept s && s.tm.accepted) }

/-- The state after a block reset's clearing: what R87 lists survives, local time among it; mode and planes are the caller's. The latches that
`IV_TIME_HI` and `IV_S_TIME_HI` return are 0 (DEDUCED, assumption log 90). -/
def resetCore (s : State) (tm : TimeUnit) : State :=
  let r := State.reset
  { r with
    tm := { tm with leasePeak := 0, latchM := 0, latchS := 0 },
    pw := { s.pw with req := 0, entry := none, retryAt := none, due := false, pwrReq := 0, ackWait := false, pwrState := 4, vddFell := false,
                      wakeReq := none, woke := false, eoiQ := [], hintQ := [], heldWrites := [], hostQ := [], ignored := [], hungs := 0, faultsHeld := [],
                      comparator := none, copies := [] },
    ao := { s.ao with aliveRun := true, token := false, missed := 0, porst := false, resetting := false, heldPuts := [] },
    ap := { s.ap with reqs := s.ap.reqs.filter (fun e => isResync e.2.purpose), waiting := s.ap.waiting.filter fun r => isResync r.purpose },
    fu := { State.fuReset with err := s.fu.err, errSection := s.fu.errSection },
    ws := { State.wsReset with high := s.ws.high, grayNow := s.ws.grayNow },
    md := { State.mdReset with seq := s.md.seq, prev := s.md.prev },
    free := s.free, pending := s.pending }

/-- A last-gasp record (R339, R340): word 7 and the number are set when it is written. -/
def lastGaspRec (s : State) (code source : BitVec 8) (detail : BitVec 24) (blind inj : Bool) (safe : BitVec 8) (mode : Word)
    (modeCode : BitVec 4) (lost : Nat) : Rec :=
  mkRec code (at_ 24 16 safe ||| at_ 24 8 modeCode ||| at_ 24 0 source) (bit inj 0) (readTime s)
    [(4, if blind then 0 else s.flt.first), (5, if blind then 0 else fltSumWord s), (6, w32 lost), (8, mode), (9, at_ 32 0 detail)]

/-- A wake that finds retention lost (R69, R288, R326): UNFORMED, and a last-gasp record of source 0x2C is due. REQ, held in the AO
island (R288), stays. -/
def wakeLost (s : State) (cause : BitVec 4) (iv : Option DWord) : State :=
  let first := firstWord 3 0x2C 0
  let s1 := wakeTime { s with flt := { s.flt with first := first } } iv
  let r := lastGaspRec s1 0x83 0x2C 0 false false s.ao.safeCount (modeWord s) s.md.mode.code 0
  let s2 := resetCore s1 s1.tm
  wakeThrottle { s2 with md := { s2.md with mode := .unformed, prev := s.md.mode, seq := s.md.seq + 1 },
                         pw := { s2.pw with req := s.pw.req, retLost := true, wakes := s.pw.wakes + 1, wakeCause := cause, saveValid := false },
                         flt := { s2.flt with first := first }, ao := { s2.ao with lgDue := some r } }

/-- Retention is lost in the present sleep (R69, R288). -/
def retentionLost (s : State) : Bool := s.pw.vddFell || (decide (s.md.mode = .dormant) && !s.pw.saveValid)

/-- The RUN request is acknowledged: the wake (R292). -/
def wakeDone (s : State) (cause : BitVec 4) (iv : Option DWord) : State :=
  if retentionLost s then wakeLost s cause iv else wakeRun s cause iv

/-- A wake that waited for a step of the entry starts (R284, R292). -/
def wakeStart (s : State) : State :=
  pwrAsk { s with pw := { s.pw with entry := none, wakeCause := s.pw.wakeReq.getD s.pw.wakeCause } } 0

/-- The save area takes the retention set (R287 step 9, R288). -/
def retentionSave (s : State) (origin : Mode) : State :=
  { s with pw := { s.pw with saves := s.pw.saves + 1, saveValid := true, savePrev := origin.code, ret := retentionSet s } }

/-- Power-on reset: everything but what the input pins present (R86). -/
def porst (s : State) : State :=
  { State.reset with pw := { State.pwReset with thrPin := s.pw.thrPin },
                     ws := { State.wsReset with high := s.ws.high, grayNow := s.ws.grayNow }, free := s.free, pending := s.pending }

/-- IV_PORST_N is low: power-on reset holds Ivsyn (R86, R88). -/
def porstFall (s : State) : State :=
  let s1 := porst s
  { s1 with ao := { s1.ao with porst := true } }

/-- The attempt is past every state but OFF: only IV_WAKE_N still wakes, from OFF (R284, R291, R293). -/
def offAsked (s : State) : Bool :=
  match s.pw.entry with
  | some e => decide (e.step = .askedOff) || (decide (e.step = .committed) && decide (e.origin = .unformed))
  | none => false

/-- OFF is reached; where IV_WAKE_N asked during the step, the board powers Ivsyn up again at once (R75, R284, R295). -/
def offReached (s : State) : State := if s.pw.wakeReq = some 1 then porstFall (offState s) else offState s

/-- The acknowledge of a step of the entry (R283 step 8, R287, R293). -/
def entryAck (s : State) (e : Entry) : State :=
  match e.step with
  | .askedRest =>
    let s1 := { s with pw := { s.pw with pwrState := 2, ackWait := false } }
    if s1.pw.wakeReq.isSome then wakeStart s1
    else if e.target = .rest then { s1 with pw := { s1.pw with entry := none } }
    else pwrAsk (entryTo (retentionSave s1 e.origin) .askedDormant) 3
  | .askedDormant =>
    let s0 := { s with pw := { s.pw with pwrState := 1, ackWait := false } }
    let s1 := if sleeping s0 then setMode s0 .dormant else s0
    if s1.pw.wakeReq.isSome then wakeStart s1
    else if e.target = .off then pwrAsk (entryTo s1 .askedOff) 4
    else { s1 with pw := { s1.pw with entry := none } }
  | .askedOff => offReached s
  | _ => s

/-- The acknowledge that a block reset from a sleep waits for (R326). -/
def resetAck (s : State) : State :=
  if s.pw.pwrReq = 0 then { s with pw := { s.pw with ackWait := false } } else pwrAsk s 0

/-- PWR_ACK: the power controller has carried out the request (R68); the IV time presented after a wake, if valid, is its operand. -/
def execPwrAck (ivTime : Option DWord) (s : State) : Host.Outcome State Fault Refusal :=
  .next (if s.ao.porst || decide (s.md.mode = .off) || !s.pw.ackWait then s
    else if s.ao.resetting then resetAck s
    else if s.md.mode = .safe then { s with pw := { s.pw with ackWait := false } }
    else match s.pw.entry with
      | some e => entryAck s e
      | none => match s.pw.wakeReq with
        | some c => if sleeping s then wakeDone s c ivTime else { s with pw := { s.pw with ackWait := false } }
        | none => { s with pw := { s.pw with ackWait := false } })

/-! ### Engine, FREEZE and the mode request -/

/-- SERVING or DRAINING follows FREEZE and REQ (R278 rows 6 and 7). -/
def drainFollow (s : State) : State :=
  if decide (s.md.mode = .serving) && drainHeld s then engineSettle (settleAll (batchEndAll (modeChange s .draining 3)))
  else if decide (s.md.mode = .draining) && !drainHeld s then releaseAll (wiredRelease (modeChange s .serving 3))
  else s

/-- LOCK_BITS are taken at the first departure from UNFORMED after a form (R275). -/
def takeLocks (s : State) : State :=
  if s.md.lockTaken then s
  else { s with md := { s.md with lock := s.md.lock ||| (match s.fu.formed with
                                    | some f => f.lockBits
                                    | none => 0),
                                  lockTaken := true } }

/-- ENGINE_EN may be set (R107, R238, R356). -/
def engineOk (s : State) : Bool := decide (s.fu.phase = .formed) && s.tm.accepted

/-- A set of ENGINE_EN (R278 rows 4 and 5); once an attempt has committed to OFF no other row applies (R283, R293). -/
def engineOn (s : State) (addr : BitVec 22) : State :=
  if s.md.engineEn then s
  else if !engineOk s then rejectWrite s addr
  else
    let s1 := { s with md := { s.md with engineEn := true } }
    if decide (s1.md.mode = .unformed) && s1.pw.entry.isNone then
      let s2 := modeChange (takeLocks s1) (if drainHeld s1 then .draining else .serving) 1
      if s2.md.mode = .serving then releaseAll (wiredRelease s2) else s2
    else s1

/-- A clear of ENGINE_EN: open batches end, and UNFORMED follows once the record in transfer completes (R278 row 8). -/
def engineOff (s : State) : State :=
  if s.md.engineEn then engineSettle (settleAll (batchEndAll { s with md := { s.md with engineEn := false } })) else s

/-- A value of REQ that R277 names. -/
def reqNamed (v : BitVec 4) : Bool := decide (v = 0) || decide (v = 1) || decide (v = 2) || decide (v = 6) || decide (v = 8)

/-- REQ takes a value while Ivsyn is awake (R277, R278, R281): NONE and DRAINING are activity in IDLE, and abandon an attempt that has not
committed; in SERVING a write of REQ is no activity (R279, R284, R291). -/
def modeReqAwake (s : State) (v : BitVec 4) : State :=
  let wakes := decide (v = 0) || decide (v = 6)
  let s1 := if wakes && (decide (s.md.mode = .idle) || entryUndoable s) then activity s false else s
  let s2 := drainFollow { s1 with pw := { s1.pw with req := v } }
  if wakes || decide (s.md.mode = .draining) then s2 else tryAttempt s2

/-- A write of `IV_MODE_REQ` (R277, R290, R291, R349). -/
def modeReq (s : State) (form : Form) (w : Word) (addr : BitVec 22) : State :=
  let v : BitVec 4 := fld (formValue form (at_ 32 0 s.pw.req) w) 0 4
  if !reqNamed v then (if sleeping s then sleepIgnore s addr else rejectWrite s addr)
  else if sleeping s then
    let s1 := { s with pw := { s.pw with req := v } }
    if decide (v = 0) || decide (v = 6) then wakeSource s1 6 else s1
  else modeReqAwake s v

/-- The offset that an alias adds to a control-window address (R345). -/
def aliasOff (f : Form) : Nat :=
  match f with
  | .plain => 0
  | .set => 0x40000
  | .clear => 0x50000
  | .toggle => 0x60000

/-- `IV_MODE_REQ` in SAFE: the register takes the value, and nothing follows (R277, R325). -/
def modeReqSafe (s : State) (form : Form) (w : Word) : State :=
  let v : BitVec 4 := fld (formValue form (at_ 32 0 s.pw.req) w) 0 4
  if reqNamed v then { s with pw := { s.pw with req := v } } else s

/-- A write of an AO register waits for the next AO edge (R307, assumption log 67). -/
def aoHold (s : State) (form : Form) (a : Nat) (w : Word) (addr : BitVec 22) : State :=
  { s with ao := { s.ao with heldPuts := s.ao.heldPuts ++ [{ form := form, a := a, w := w, addr := addr }] } }

/-- `IV_MODE_REQ` takes a written value, by mode (R277, R325). -/
def modeReqPut (s : State) (form : Form) (w : Word) (addr : BitVec 22) : State :=
  if live s then modeReq s form w addr else modeReqSafe s form w

/-- A write of `IV_MODE_REQ`: a block reset ignores it (R87), and it acts at the next AO edge (R277, R307). -/
def modeReqWrite (form : Form) (w : Word) (s : State) : State :=
  let addr : BitVec 22 := BitVec.ofNat 22 (aliasOff form + 0x0C)
  if s.ao.resetting then s else aoHold s form 0x0C w addr

/-- MODE_REQ_WRITE (R277). -/
def execModeReqWrite (form : Form) (wdata : Word) (s : State) : Host.Outcome State Fault Refusal :=
  .next (writeAt s .mgmt (modeReqWrite form wdata))

end Sys2Proof.Machine
end

