-- ==== Sys2Proof/Machine/Ao.lean ====
section
/-! DEFINITION. The always-on island: its clock edge (R245, R248, R328), IV_ALIVE (R327), the heartbeat (R328), the clock monitors
(R312), the poll block's refresh (R368), SAFE and the last-gasp area (R323 to R326, R339), and the resets
(R86, R87, R322, R333). -/

namespace Sys2Proof.Machine

/-! ### The AO edge -/

/-- What the AO edge does with the heartbeat token (R328). -/
def beatSample (s : State) : State :=
  if s.ao.token then { s with ao := { s.ao with token := false, missed := 0 } }
  else { s with ao := { s.ao with missed := if ranking s then s.ao.missed + 1 else 0 } }

/-- Local time advances by one AO tick while it is an estimate in Run (R65, R245). -/
def estimateTick (s : State) : State :=
  if s.tm.estimated && s.tm.accepted && timeRuns s then
    let sum := s.tm.estFrac.toNat + s.tm.aoCal.toNat
    let v := s.tm.base + sum / 65536
    { s with tm := { s.tm with now := max s.tm.now v, base := v, cycles := 0, estFrac := BitVec.ofNat 16 sum } }
  else s

/-- How far interpolation may run: 7 ns above an accepted value (R235), and for an estimate the way to the next AO-derived value (R245). -/
def fabRoom (s : State) : Nat := if s.tm.estimated then (s.tm.estFrac.toNat + s.tm.aoCal.toNat) / 65536 else 7

/-- IV_CLK_FAB runs: it does not stand still since a sleep, and has not been lost (R312, R324). -/
def fabRuns (s : State) : Bool :=
  timeRuns s && !coreSlept s && (match s.flt.fatal with
    | some f => decide (f.source ≠ 0x27)
    | none => true)

/-- Local time runs on by 0.5 ns from the value that it is interpolated from, in whole nanoseconds, and never decreases (R235, R245); before a
first value is accepted it stands (R238). -/
def interpolate (s : State) : State :=
  if s.tm.accepted then
    let n := min (s.tm.cycles + 1) (2 * fabRoom s)
    { s with tm := { s.tm with cycles := n, now := max s.tm.now (s.tm.base + n / 2) } }
  else s

/-- One IV_CLK_FAB cycle: it is counted (R240), and local time runs on (R235, R245). -/
def fabCycle (s : State) : State :=
  if fabRuns s then interpolate { s with tm := { s.tm with fab := s.tm.fab + 1 } } else s

/-- The AO ticks in which no line of a frame in progress has changed are counted (R81). -/
def sbQuiet (s : State) : State :=
  { s with ao := { s.ao with sb := { s.ao.sb with quiet := if sbBusy s then s.ao.sb.quiet + 1 else 0 } } }

/-- The crossings into IV_CLK_REG agree in an AO tick, which is many of its cycles, unless a command says otherwise (R310, assumption
log 48). -/
def regAgree (s : State) : State := cdcClear (cdcClear (cdcClear s .regTime 0) .aoReg 0) .fabReg 0

/-- One edge of IV_CLK_AO (R81, R235, R245, R248, R310, R327, R328). -/
def aoEdge (s : State) : State :=
  if mute s || s.tm.aoStopped then s
  else
    let s1 := regAgree (sbQuiet (beatSample s))
    let s2 := { s1 with tm := { s1.tm with aoCount := s1.tm.aoCount + 1 },
                        ao := { s1.ao with sinceToggle := s1.ao.sinceToggle + s1.tm.aoCal.toNat } }
    estimateTick s2

/-! ### IV_ALIVE and the heartbeat -/

/-- The half-period of IV_ALIVE in units of 2^-16 ns (R327). -/
def aliveHalf (s : State) : Nat :=
  65536000 * min (max s.ctl.halfUs.toNat 10) 10000 * (if s.md.mode = .dormant then 8 else 1)

/-- AO time that lies over the half-period at a toggle counts toward the next, where it is less than a tick (R327). -/
def aliveCarry (s : State) (half : Nat) : Nat :=
  if decide (s.tm.aoCal.toNat ≤ aliveHalf s) && decide (s.ao.sinceToggle - half < s.tm.aoCal.toNat) then s.ao.sinceToggle - half else 0

/-- IV_ALIVE toggles once AO time reaches the half-period (R327). -/
def aliveToggle (s : State) : State :=
  let half := max (aliveHalf s) s.tm.aoCal.toNat
  if s.ao.aliveRun && decide (half ≤ s.ao.sinceToggle) then
    { s with ao := { s.ao with alive := !s.ao.alive, toggles := s.ao.toggles + 1, sinceToggle := aliveCarry s half } }
  else s

/-- ALIVE_TOGGLE (R327). -/
def execAliveToggle (s : State) : Host.Outcome State Fault Refusal := .next (if mute s || s.tm.aoStopped then s else aliveToggle s)

/-- HEARTBEAT: the core sets its token while its loops run (R307, R328). -/
def execHeartbeat (s : State) : Host.Outcome State Fault Refusal :=
  .next (if awake s && !s.flt.beatStopped then { s with ao := { s.ao with token := true } } else s)

/-- WEDGED: four consecutive missed beats (R328). -/
def execWedged (s : State) : Host.Outcome State Fault Refusal :=
  .next (if live s && ranking s && decide (4 ≤ s.ao.missed) then fatalFault s 0x2A 0 s.flt.beatStopped else s)

/-- From step 4 of an entry attempt on the poll words are held (R368); an attempt from UNFORMED has no such step (R293). -/
def pollHeld (s : State) : Bool :=
  match s.pw.entry with
  | some e => decide (e.step ≠ .draining) && decide (e.origin ≠ .unformed)
  | none => false

/-- POLL_REFRESH (R368). -/
def execPollRefresh (s : State) : Host.Outcome State Fault Refusal := .next (if awake s && !pollHeld s then pollRefresh s else s)

/-! ### The clock monitors -/

/-- CLK_FAB_LOSS (R312). -/
def execClkFabLoss (s : State) : Host.Outcome State Fault Refusal := .next (if awake s then fatalFault s 0x27 0 false else s)

/-- IV_CLK_REG has stopped: the register ports do not answer, and outside SAFE the loss is a fatal fault (R312, R325). -/
def regStop (s : State) : State := whenLive { s with flt := { s.flt with regStopped := true } } fun s => fatalFault s 0x28 0 false

/-- CLK_REG_LOSS (R312). -/
def execClkRegLoss (s : State) : Host.Outcome State Fault Refusal := .next (if mute s then s else regStop s)

/-- IV_CLK_AO has stopped: a deferred fault of crossing 0x5, found once (R312). -/
def aoStop (s : State) : State :=
  if s.tm.aoStopped then s
  else
    let s1 := faultFound s 0x18 0x050000 false
    { s1 with tm := { s1.tm with aoStopped := true } }

/-- AO_CLOCK_STOP (R312). -/
def execAoClockStop (s : State) : Host.Outcome State Fault Refusal :=
  .next (whenLive s (stirring aoStop))

/-! ### The last-gasp area -/

/-- A last-gasp record that is due, with its AO count and its number (R339, R340). -/
def gaspDue (s : State) : Option Rec := s.ao.lgDue.map fun r => (r.set 7 s.tm.aoCount).set 10 (w32 (s.ao.lgNum + 1))

/-- The last-gasp record is written to the slot after the newest, and poll word 1 is updated (R324 step 4, R339). -/
def lastGaspSlot (s : State) : State :=
  match gaspDue s with
  | none => s
  | some r => { s with ao := { s.ao with lg := s.ao.lg.setIfInBounds (s.ao.lgNum % 4) (some r), lgNum := s.ao.lgNum + 1, lgDue := none,
                                         safeCause := fld (wd16 r 0) 0 8, safeCount := fld (wd16 r 0) 16 8 } }

/-- IV_CLK_FAB and the aperture port still work, so that a last-gasp record of a source is copied at once (R324 step 6). -/
def gaspCopies (s : State) (source : BitVec 8) : Bool :=
  decide (s.md.mode = .safe) && decide (source ≠ 0x27) && !(decide (s.md.prev = .rest) || decide (s.md.prev = .dormant)) && journalOn s

/-- The last-gasp record is written, copied into the journal, and marked COPIED (R324 steps 4 and 6, R339). -/
def lastGaspWrite (s : State) : State :=
  match gaspDue s with
  | none => s
  | some r =>
    let s1 := lastGaspSlot s
    if gaspCopies s1 (fld (wd16 r 0) 0 8) then
      let s2 := jnlPut s1 .lastGasp r
      { s2 with ao := { s2.ao with lg := s2.ao.lg.setIfInBounds (s.ao.lgNum % 4) (some (r.set 1 (setBit (wd16 r 1) 1))) } }
    else s1

/-- LAST_GASP (R324 steps 4 and 6, R339). -/
def execLastGasp (s : State) : Host.Outcome State Fault Refusal :=
  .next (if mute s || s.tm.aoStopped then s else lastGaspWrite s)

/-! ### SAFE -/

/-- The state whose local time a last-gasp record shows: the AO estimate where IV_CLK_FAB has stopped (R340). -/
def gaspTime (s : State) (source : BitVec 8) : State :=
  if decide (source = 0x27) && s.tm.accepted && !s.tm.estimated then
    { s with tm := { s.tm with now := max s.tm.now (s.tm.lastAcc + (s.tm.aoCount - s.tm.lastAo).toNat * s.tm.aoCal.toNat / 65536) } }
  else s

/-- A party's proposal is discarded: EMPTY, with stage and mirror cleared (R268, R324). -/
def dcDiscard (d : PartyUnit) : PartyUnit :=
  { d with st := .empty, stage := Vector.replicate 16 0, bound := Vector.replicate 16 0, idLo := 0, idHi := 0 }

/-- The open write completes, or is abandoned before it issues, as one that waits for a reload is (R33, R316, R324 step 3). -/
def openEnd (s : State) (completes : Bool) : State :=
  let s1 := if completes then closeWrite s else s
  { s1 with ar := { s1.ar with open_ := none } }

/-- What SAFE discards (R34, R324). -/
def safeDiscard (s : State) : State :=
  { s with
    md := { s.md with engineEn := false },
    dcM := dcDiscard s.dcM, dcS := dcDiscard s.dcS,
    vat := { s.vat with slots := [] },
    vs := { s.vs with vecs := [], calendar := [], sweepList := [] },
    pw := { s.pw with eoiQ := [], hintQ := [], heldWrites := [], entry := none, due := false, retryAt := none, wakeReq := none,
                      pwrState := 7 } }

/-- The entry into SAFE for a fatal fault (R324 steps 2, 3 and 5, R326); a last-gasp record that is still due, that of a loss of retention,
is written first. -/
def safeEnter (sa : State) (completes : Bool) : State :=
  match sa.flt.fatal with
  | none => sa
  | some f =>
    let s := lastGaspWrite sa
    let code : BitVec 8 := if f.source = 0x2A then 0x84 else 0x83
    let r := lastGaspRec (gaspTime s f.source) code f.source f.detail f.blind f.injected (s.ao.safeCount + 1) (modeWord s) s.md.mode.code
      (occupied s)
    let s0 := openEnd s completes
    let s1 := setMode (safeDiscard (heldDone s0)) .safe
    { s1 with ao := { s1.ao with aliveRun := false, lgDue := some r } }

/-- SAFE_ENTRY: the fatal fault in force acts; parity is an error found in the collector itself (R323, R324). -/
def execSafeEntry (parity completes : Bool) (s : State) : Host.Outcome State Fault Refusal :=
  .next (whenLive s fun s => safeEnter (if parity then collectorFault s false else s) completes)

/-! ### Resets -/

/-- A block reset is requested; from sleep or SAFE with another power request in force it first asks for RUN (R87, R326). -/
def resetRequest (s : State) : State :=
  if s.ao.resetting then s
  else
    let s1 := { s with ao := { s.ao with resetting := true } }
    if decide (s1.pw.pwrReq ≠ 0) && !s1.pw.ackWait then pwrAsk s1 0 else s1

/-- A write to a reset command register names a block reset (R333). -/
def resetKeyed (w : Word) : Bool := decide (fld w 16 16 = (0xB10C : BitVec 16)) && w.getLsbD 0

/-- A write to `IV_RESET_CMD` or `IV_S_RESET_CMD` (R290, R333). -/
def resetCmd (s : State) (p : Port) (w : Word) : State :=
  match p with
  | .tenant t => if live s then deniedWrite s t.toNat else s
  | .mgmt =>
    if resetKeyed w then resetRequest s
    else if live s then (if sleeping s then sleepIgnore s 0x20 else rejectWrite s 0x20)
    else s
  | .sec => if resetKeyed w then resetRequest s else s

/-- RESET_CMD (R333). -/
def execResetCmd (port : Port) (wdata : Word) (s : State) : Host.Outcome State Fault Refusal :=
  .next (writeAt s port fun s => resetCmd s port wdata)

/-- The planes' self-test at the end of a reset (R322). -/
def planeTest (s : State) (aPass bPass : Bool) : State :=
  if aPass && bPass then s
  else if !aPass && !bPass then fatalFault s 0x21 0 false
  else fencePlane s (if aPass then 2 else 1) 0xFFFFFF 0 0xFFFFFFFF false

/-- What a fatal fault or a last-gasp record still owes is done before the reset completes (R333). The record is not copied into the journal,
whose writes the reset ends: with COPIED 0 it is copied at the next form (R87, R324 step 6, R339). -/
def resetOwed (s : State) : State :=
  lastGaspSlot (if s.flt.fatal.isSome && decide (s.md.mode ≠ .safe) then safeEnter s false else s)

/-- A block reset completes into UNFORMED, with the throttle level that the pins present (R70, R87, R300, R322, R362). -/
def blockReset (s : State) (aPass bPass : Bool) : State :=
  let s1 := resetCore (resetOwed s) (resetTime s)
  planeTest (wakeThrottle { s1 with md := State.mdReset }) aPass bPass

/-- BLOCK_RESET_COMPLETE (R87). -/
def execBlockResetComplete (aPass bPass : Bool) (s : State) : Host.Outcome State Fault Refusal :=
  .next (if !mute s && s.ao.resetting && !s.pw.ackWait then blockReset s aPass bPass else s)

/-- PORST_FALL (R86). -/
def execPorstFall (s : State) : Host.Outcome State Fault Refusal := .next (porstFall s)

/-- WAKE_PIN: in OFF the board powers Ivsyn up with a power-on reset, on the way there once OFF is reached, and in DORMANT an enabled pin
wakes (R75, R88, R278 row 2, R284, R291, R295). -/
def execWakePin (s : State) : Host.Outcome State Fault Refusal :=
  .next (if s.ao.porst then s
    else if s.md.mode = .off then porstFall s
    else if live s && offAsked s then { s with pw := { s.pw with wakeReq := some 1 } }
    else if live s && decide (s.md.mode = .dormant) && s.ctl.wakeEn.getLsbD 0 then wakeSource s 1
    else s)

/-- Release of IV_PORST_N: UNFORMED, with the throttle level that the pins present (R86, R300, R322). -/
def porstRelease (s : State) (aPass bPass : Bool) : State :=
  let s1 := porst s
  planeTest (wakeThrottle s1) aPass bPass

/-- PORST_RELEASE (R86). -/
def execPorstRelease (aPass bPass : Bool) (s : State) : Host.Outcome State Fault Refusal :=
  .next (if s.ao.porst then porstRelease s aPass bPass else s)

end Sys2Proof.Machine
end

