-- ==== Sys2Proof/Machine/Aperture.lean ====
section
/-! DEFINITION. The aperture port: read returns (R130 to R132), the image's arrival (R111), read and write errors, failover (R59, R132,
R316, R330), write completions (R283), and resync (R331). -/

namespace Sys2Proof.Machine

/-! ### Copies -/

/-- The number of a copy (R340). -/
def copyNum (c : Copy) : Nat :=
  match c with
  | .primary => 1
  | .secondary => 2

/-- The copy that reads use. -/
def readCopy (s : State) : Copy := if s.ap.readSec then .secondary else .primary

/-- A request leaves a copy: a read goes to the other one, where its timeout counts anew, and a write goes on at the other alone (R59). -/
def moveOff (t : Nat) (c : Copy) (r : AperReq) : AperReq :=
  let r := if r.write then r else { r with since := t }
  match c with
  | .primary => { r with onPrimary := false, onSecondary := r.onSecondary || !r.write }
  | .secondary => { r with onSecondary := false, onPrimary := r.onPrimary || !r.write }

/-- The request awaits nothing more. -/
def reqDone (r : AperReq) : Bool := !r.onPrimary && !r.onSecondary

/-- The other copy becomes the sole aperture, and the failover is counted and journaled (R59, R315, R330, R331, R340). -/
def failover (s : State) (c : Copy) (cause offset : Nat) (inj : Bool) : State :=
  let s1 := faultCount s 1 0x05 (BitVec.ofNat 24 (copyNum c)) (sourceFlag 0x05) inj
  let s2 := apDrop { s1 with ap := { s1.ap with state := 1, readSec := decide (c = .primary) } } isResync
  let s3 := { s2 with ap := { s2.ap with reqs := s2.ap.reqs.map (fun e => (e.1, moveOff (fabNow s2) c e.2)), waiting := s2.ap.waiting.map (moveOff (fabNow s2) c) } }
  let s4 := forEach ((s3.ap.reqs.filter fun e => reqDone e.2).map fun e => e.1) s3 apDone
  warmGo (jnlPut s4 .journal (mkRec 0x85 (BitVec.ofNat 24 (cause * 16 + copyNum c)) (bit inj 0) (now s4)
    [(4, w32 offset), (5, w32hi offset), (6, aperCtlWord s4)]))

/-! ### Read returns -/

/-- The units whose READ waits for an entry. -/
def readingUnits (s : State) (h : Nat) : List EaId := (units s).filter fun u => decide ((eaOf s u).busy = some (.reading h))

/-- A unit's READ ends with words and flags (R255, R256). -/
def readEnds (w : Words8) (m : BitVec 24) (s : State) (u : EaId) : State :=
  eaRaise (eaPut s u { eaOf s u with data := w, busy := none }) u m

/-- A VTE read belongs to another tenant than the unit's (R119, R254). -/
def unitForeign (w : Words8) (u : EaId) : Bool :=
  match u with
  | .mgmt => false
  | .tw t => decide ((vteOf w).cfg.tenant ≠ t)

/-- A unit's READ ends with the entry's words, or with zeros and RANGE where the entry is not the tenant's own (R119, R254). -/
def readShows (w : Words8) (m : BitVec 24) (s : State) (u : EaId) : State :=
  if unitForeign w u then readEnds (Vector.replicate 8 0) (bit true eaRange ||| bit true eaDone) s u else readEnds w m s u

/-- The READs that wait for an entry end with its words, each as far as its unit reaches (R119, R255). -/
def readsShow (s : State) (h : Nat) (w : Words8) (m : BitVec 24) : State := forEach (readingUnits s h) s (readShows w m)

/-- The FENCEs that waited for an entry start (R138). -/
def fencesBegin (s : State) (h : Nat) : State := forEach (units s) s (fenceBegin h)

/-- The READs that wait for an entry end (R255). -/
def readsEnd (s : State) (h : Nat) (w : Words8) (m : BitVec 24) : State := forEach (readingUnits s h) s (readEnds w m)

/-- EOIs that wait behind a change whose entry could not be had are taken without it, in a round that is compared like any other (R158, R159,
R164, R165, R318). -/
def eoisFlush (s : State) (h : Nat) : State :=
  if (vecOf s h).eois.isEmpty || !ranking s then s else comparedRound s h fun s => roundEois s h

/-- Changes that wait for an entry with a bad CRC act on its stored words; one that completes writes it with a fresh CRC (R121, R132). -/
def crcChanges (s : State) (h : Nat) (w : Words8) : State :=
  let v := vteOf w
  let s1 := vteBoundary (vecOf s h).changes.length (vtePut s h v) h
  match find s1.vs.vtes h with
  | none => s1
  | some v' =>
    if v'.epoch = v.epoch then { s1 with vs := { s1.vs with vtes := erase s1.vs.vtes h } }
    else (install { s1 with vs := { s1.vs with vtes := erase s1.vs.vtes h } } h v').getD (vteAway s1 h)

/-- Changes that wait for an entry with a bad CRC are applied in a round where the core ranks, and else at once (R121, R134, R164, R388). -/
def crcApply (s : State) (h : Nat) (w : Words8) : State :=
  if (vecOf s h).changes.isEmpty then s
  else fenceAll (if ranking s then comparedRound s h fun s => crcChanges s h w else crcChanges s h w)

/-- The inputs that waited for an entry go to their lane again (R130, R142). -/
def waitersIn (s : State) (h : Nat) : State :=
  let v := vecOf s h
  if v.eois.isEmpty && v.changes.isEmpty && !hasMerge v && (checkedOf s h).isEmpty then s else enqueue s h

/-- CHECKED messages whose entry could not be had go to their lane again: no other end is theirs (R122). -/
def checkedWait (s : State) (h : Nat) : State := if (checkedOf s h).isEmpty then s else enqueue s h

/-- The entry read fails its CRC (R132). -/
def vteCrcBad (s : State) (h : Nat) (w : Words8) : State :=
  let s1 := checkedWait (fetchNoise (deferred s 0x11 (BitVec.ofNat 24 h) 0 0 false) h 8) h
  crcApply (eoisFlush (fencesBegin (readsShow s1 h w (bit true eaCrcBad ||| bit true eaDone)) h) h) h w

/-- The entry read is installed and what waited for it goes on; it is read again while no entry can be evicted (R130, R131, R134). -/
def vteArrive (s : State) (h : Nat) (v : Vte) : State :=
  match install s h v with
  | none => fetchVte s h
  | some s1 =>
    let s2 := fetchResolve s1 h v
    let s3 := match entryWords s2 1 h with
      | some w => readsShow s2 h w (bit true eaDone)
      | none => s2
    fenceAll (vteTry (waitersIn (fencesBegin s3 h) h) h)

/-- A spill record has returned (R131). -/
def spillDone (s : State) (h : Nat) : State := { s with vs := { s.vs with spilled := erase s.vs.spilled h } }

/-- The reload of a corrupt row has returned: words 0 to 3 are the aperture's, and what waited goes on (R316). -/
def vteReloaded (s : State) (h : Nat) (w : Words8) : State :=
  let s1 := { s with vs := { s.vs with reload := s.vs.reload.filter (· ≠ h) } }
  match vteOn s1 h with
  | none => s1
  | some v =>
    let n := { v with cfg := (vteOf w).cfg }
    let s2 := fetchResolve (vtePut s1 h n) h n
    let s3 := match entryWords s2 1 h with
      | some w => readsShow s2 h w (bit true eaDone)
      | none => s2
    fenceAll (vteTry (waitersIn s3 h) h)

/-- The reload of a corrupt row failed: what waited for the entry ends as R132 states, and the row is read again. -/
def vteReloadLost (s : State) (h : Nat) (src : BitVec 8) (reason : Nat) (inj : Bool) : State :=
  let s1 := fetchNoise (deferred s src (BitVec.ofNat 24 h) 0 0 inj) h reason
  vteReload { s1 with vs := { s1.vs with reload := s1.vs.reload.filter (· ≠ h) } } h

/-- A descriptor takes the aperture's words 0 to 5; what `IV_T_CPRIO` has written of THRESHOLD since stays (R149, R316). -/
def tdRefill (g : Tgt) (w : Words8) : Tgt :=
  let n := tdPutCfg g w
  { n with threshold := (n.threshold &&& ~~~g.thrKeep) ||| (g.threshold &&& g.thrKeep), thrKeep := 0 }

/-- A write that waited for its target's descriptor closes where its batch has ended (R212, R316). -/
def waitedClose (s : State) (t : Nat) : State := if (tgtOf s t).batch.isNone then closeWriteOf s t else s

/-- The reload of a descriptor has returned: its words 0 to 5 are the aperture's, and what waited goes on: a write, READs, doorbells and
changes (R316). -/
def tdReloaded (s : State) (t : Nat) (w : Words8) : State :=
  let s1 := tgtPut { s with ts := { s.ts with reload := s.ts.reload.filter (· ≠ t) } } t (tdRefill (tgtOf s t) w)
  egressSettle (tdReadsEnd (waitedClose s1 t) t)

/-- The read of a tag returns data. -/
def readReturn (s : State) (tag : BitVec 8) (r : AperReq) (w : Words8) : State :=
  match r.purpose with
  | .vteRead h =>
    let s1 := apDone s tag
    if vteCrcOk w then vteArrive s1 h (vteOf w) else vteCrcBad s1 h w
  | .vteReload h => if vteCrcOk w then vteReloaded (apDone s tag) h w else vteReloadLost (apDone s tag) h 0x11 8 false
  | .tdReload t => tdReloaded (apDone s tag) t w
  | .spillRead h => waitersIn (spillDone (apDone s tag) h) h
  | .image => if s.fu.phase = .fetch then imagePart s w else apDone s tag
  | .void => apDone s tag
  | _ => s

/-! ### Read errors -/

/-- The eight free words of a READ whose entry could not be read. -/
def unreadWords (s : State) : Words8 := Vector.ofFn fun i : Fin 8 => Config.unreadWord (s.free + i.val)

/-- A VTE read failed on every copy in use (R132); changes that wait for the entry have it read again. -/
def vteLost (s : State) (h : Nat) (inj : Bool) : State :=
  let s1 := checkedWait (fetchNoise (deferred s 0x10 (BitVec.ofNat 24 h) 0 0 inj) h 7) h
  let s2 := readsEnd { s1 with free := s1.free + 8 } h (unreadWords s1) (bit true eaDone)
  vteTry (eoisFlush (fencesBegin s2 h) h) h

/-- A spill record is lost: its merge state goes, the merged COUNT is added to DROPPED (R316), and what waited for it goes on (R138, R227). -/
def spillLost (s : State) (h : Nat) (inj : Bool) : State :=
  let v := vecOf s h
  let n := evCount v.ev + evCount v.evNew
  let s1 := deferred (spillDone s h) 0x15 (BitVec.ofNat 24 h) (w32 n) 0 inj
  let s2 := dropEv s1 h
  settleAll (addDropped (promote (vecPut s2 h { vecOf s2 h with evNew := none }) h) h n)

/-- The read of a tag failed on the sole copy (R132, R316, R392). -/
def readLost (s : State) (tag : BitVec 8) (r : AperReq) (inj : Bool) : State :=
  let s1 := apDone s tag
  match r.purpose with
  | .vteRead h => vteLost s1 h inj
  | .vteReload h => vteReloadLost s1 h 0x10 7 inj
  | .tdReload t => tdReload { s1 with ts := { s1.ts with reload := s1.ts.reload.filter (· ≠ t) } } t
  | .spillRead h => spillLost s1 h inj
  | .image => imageLost s1
  | .form => if s1.fu.phase = .form then opFail s1 { code := 0x03, sect := 0, word := 0 } else s1
  | .void => s1
  | _ => s

/-- An aperture read: a resync's copying reads the copy in use too (R331). -/
def isRead (r : AperReq) : Bool := !r.write || isResync r.purpose

/-- A read error or timeout: a mirrored aperture fails over and reads again, a single one loses the read (R59). -/
def readError (s : State) (tag : BitVec 8) (r : AperReq) (cause : Nat) (inj : Bool) : State :=
  if dualWrites s then failover s (readCopy s) cause r.offset inj else readLost s tag r inj

/-- The injected primary read error acts on this read (R321). -/
def readInjected (s : State) : Bool := decide (s.flt.inject = some 7) && !s.ap.readSec

/-- A read returns, or the injected error takes it (R130, R321). -/
def readArrive (s : State) (tag : BitVec 8) (r : AperReq) (w : Words8) : State :=
  if readInjected s then readError (injectSpent s) tag r 1 true else readReturn s tag r w

/-- A tag's request, while the core runs. -/
def onTag (s : State) (tag : BitVec 8) (f : AperReq → State) : State :=
  if awake s then
    match tagOf s.ap.reqs tag with
    | some r => f r
    | none => s
  else s

/-- VTE_READ_RETURN (R130, R131). -/
def execVteReadReturn (tag : BitVec 8) (data : Words8) (s : State) : Host.Outcome State Fault Refusal :=
  .next (onTag s tag fun r => if r.write then s else readArrive s tag r data)

/-- APERTURE_READ_ERROR (R59). -/
def execApertureReadError (tag : BitVec 8) (s : State) : Host.Outcome State Fault Refusal :=
  .next (onTag s tag fun r => if isRead r then readError s tag r 1 false else s)

/-- The read timeout: 10 µs in IV_CLK_FAB cycles of 0.5 ns (R59, R240). -/
def readCycles : Nat := 20000

/-- A read has been outstanding for its timeout, by the count of IV_CLK_FAB cycles (R59, R240, assumption log 72). -/
def readLate (s : State) (r : AperReq) : Bool := decide (r.since + readCycles ≤ fabNow s)

/-- APERTURE_READ_TIMEOUT (R59, R240). -/
def execApertureReadTimeout (tag : BitVec 8) (s : State) : Host.Outcome State Fault Refusal :=
  .next (onTag s tag fun r => if isRead r && readLate s r then readError s tag r 3 false else s)

/-- The image's fetch ends, or the injected read error takes it where the aperture is single (R111, R321). -/
def imageReturn (s : State) (image : List Byte) : State :=
  if readInjected s then
    let s1 := injectSpent s
    if dualWrites s1 then imageArrive (failover s1 .primary 1 (imageOff s1) true) image
    else imageLost s1
  else imageArrive s image

/-- FORM ends; the injected read error takes a warm form's reading of the tables (R112, R321). -/
def formCommit (s : State) (stored : List (Nat × Words8)) : State :=
  if decide (s.fu.op = some .warm) && readInjected s then
    let s1 := injectSpent s
    if dualWrites s1 then formDone (apDrop (failover s1 .primary 1 0 true) isForm) stored
    else opFail (apDrop s1 isForm) { code := 0x03, sect := 0, word := 0 }
  else formDone (apDrop s isForm) stored

/-- FORM_COMMIT: the tables are written, or read as stored (R111 step 9, R112, R114 step 6). -/
def execFormCommit (stored : List (Nat × Words8)) (s : State) : Host.Outcome State Fault Refusal :=
  .next (if awake s && decide (s.fu.phase = .form) && s.fu.stored.isNone && s.flt.fatal.isNone then formCommit s stored else s)

/-- FETCH_COMPLETE: the last bytes of the image have arrived (R111 step 3). -/
def execFetchComplete (image : List Byte) (s : State) : Host.Outcome State Fault Refusal :=
  .next (if awake s && decide (s.fu.phase = .fetch) then imageReturn s image else s)

/-! ### Writes -/

/-- The request awaits a copy. -/
def awaits (r : AperReq) (c : Copy) : Bool :=
  match c with
  | .primary => r.onPrimary
  | .secondary => r.onSecondary

/-- A copy has completed its write. -/
def copyDone (r : AperReq) (c : Copy) : AperReq :=
  match c with
  | .primary => { r with onPrimary := false }
  | .secondary => { r with onSecondary := false }

/-- Beats of the resync that are still to be copied (R331). -/
def resyncLeft (s : State) : Nat :=
  (((s.ap.reqs.map fun e => e.2) ++ s.ap.waiting).filter fun r => isResync r.purpose).foldl
    (fun n r => r.runs.foldl (fun m x => m + x.count) n) 0

/-- Beats of every region of the map. -/
def mapBeats (s : State) : Nat :=
  match s.fu.formed with
  | none => 0
  | some f => f.regions.foldl (fun n r => n + regionSize r / 32) 0

/-- RESYNC_PCT follows the regions copied (R330); without a structure the map's size is gone, and it stays. -/
def resyncPct (s : State) : State :=
  if mapBeats s = 0 then s
  else { s with ap := { s.ap with pct := BitVec.ofNat 7 (100 * (mapBeats s - resyncLeft s) / mapBeats s) } }

/-- A write is complete: a resync has copied more, and an entry or a warm form that waited goes on (R112, R283, R330). -/
def writeComplete (s : State) (tag : BitVec 8) (r : AperReq) : State :=
  warmGo (entryGo (if isResync r.purpose then resyncPct (apDone s tag) else apDone s tag))

/-- A write completes at one copy; it is complete when every copy it went to has reported (R59). The injected error takes a resync's
reading of the primary (R321, R331). -/
def writeAck (s : State) (tag : BitVec 8) (r : AperReq) (c : Copy) : State :=
  let r' := copyDone r c
  if isResync r.purpose && readInjected s then readError (injectSpent s) tag r 1 true
  else if reqDone r' then writeComplete s tag r
  else { s with ap := { s.ap with reqs := s.ap.reqs.map fun e => if e.1 = tag then (tag, r') else e } }

/-- A write of a form failed on the sole copy (R111). -/
def formLost (s : State) (r : AperReq) : State :=
  if decide (r.purpose = .form) && decide (s.fu.phase = .form) then opFail s { code := 0x03, sect := 0, word := 0 } else s

/-- A write failed on the sole copy: fatal, or deferred under APER_WERR_FATAL 0 (R316, R317). -/
def writeLost (s : State) (tag : BitVec 8) (r : AperReq) : State :=
  let s1 := formLost (apDone s tag) r
  if s1.ctl.aperWerrFatal then fatalFault s1 0x26 0 false
  else entryGo (deferred s1 0x16 0 (w32 r.offset) (w32hi r.offset) false)

/-- A write fails at one copy (R59). -/
def writeError (s : State) (tag : BitVec 8) (r : AperReq) (c : Copy) : State :=
  if dualWrites s then entryGo (failover s c 2 r.offset false) else writeLost s tag r

/-- A write's tag and copy, outside power-off, reset and SAFE; a sleeping Ivsyn still takes the completions of its entry (R283). -/
def onWrite (s : State) (tag : BitVec 8) (c : Copy) (f : AperReq → State) : State :=
  if live s then
    match tagOf s.ap.reqs tag with
    | some r => if r.write && awaits r c then f r else s
    | none => s
  else s

/-- APERTURE_WRITE_ACK (R59). -/
def execApertureWriteAck (tag : BitVec 8) (copy : Copy) (s : State) : Host.Outcome State Fault Refusal :=
  .next (onWrite s tag copy fun r => writeAck s tag r copy)

/-- APERTURE_WRITE_ERROR (R59). -/
def execApertureWriteError (tag : BitVec 8) (copy : Copy) (s : State) : Host.Outcome State Fault Refusal :=
  .next (onWrite s tag copy fun r => writeError s tag r copy)

/-! ### Resync -/

/-- RESYNC is accepted (R330, R331). -/
def resyncOk (s : State) : Bool := decide (s.ap.state = 1) && s.ap.mirrorEn && !frozenBy s lkAperture

/-- The copying of one region of the map: it reads the copy in use and writes the other, whose completion it awaits (R58, R331). -/
def resyncReq (s : State) (r : Region) : AperReq :=
  { purpose := .resync, write := true, offset := r.offset, data := [],
    runs := [{ offset := r.offset, count := regionSize r / 32, words := [] }],
    onPrimary := s.ap.readSec, onSecondary := !s.ap.readSec, since := fabNow s }

/-- Every region of the map is copied (R331). -/
def resyncStart (s : State) : State :=
  match s.fu.formed with
  | none => s
  | some f => forEach f.regions s fun s r => apPut s (resyncReq s r)

/-- A write of RESYNC (R331, R356). -/
def resync (s : State) : State :=
  if resyncOk s then resyncStart { s with ap := { s.ap with state := 3, pct := 0 } } else rejectWrite s 0x114

/-- RESYNC (R331). -/
def execResync (s : State) : Host.Outcome State Fault Refusal := .next (writeAt s .mgmt fun s => portWrite s .mgmt true 0x114 resync)

/-- Copying of a resync is outstanding (R331). -/
def copying (s : State) : Bool := (s.ap.reqs.any fun e => isResync e.2.purpose) || s.ap.waiting.any fun r => isResync r.purpose

/-- RESYNC_COMPLETE: every region has been copied (R331). -/
def execResyncComplete (s : State) : Host.Outcome State Fault Refusal :=
  .next (if awake s && decide (s.ap.state = 3) && !copying s then
      { s with ap := { s.ap with state := 2, pct := 100 } }
    else s)

end Sys2Proof.Machine
end

