-- ==== Sys2Proof/Machine/DualControl.lean ====
section
/-! DEFINITION. Two-party change: proposals, identifiers, approval, veto, withdrawal, stage writes and the window
(R262 to R274). -/

namespace Sys2Proof.Machine

/-- The kinds that a party may propose (R262). -/
def mayPropose (p : Party) (k : Nat) : Bool :=
  match p with
  | .M => decide (1 ≤ k) && decide (k ≤ 4)
  | .S => decide (k = 5) || decide (k = 6)

/-- The conditions of R265 on INDEX and FIELD_MASK of kinds 1 to 3. -/
def entryProposal (s : State) (k : Nat) (w : Words16) : Bool :=
  let i := (wd16 w 1).toNat
  let m := wd16 w 2
  hasHome s k i && !inDrain s k i && decide (m ≠ 0) && decide (m.toNat < 2 ^ (if k = 2 then 10 else 16))
    && !(decide (k = 2) && isLocal i && (m.getLsbD 0 || m.getLsbD 2))

/-- The mode in which PROPOSE is accepted (R265). -/
def proposeMode (s : State) : Bool := decide (s.md.mode = .unformed) || ranking s

/-- PROPOSE is accepted (R265). -/
def proposeOk (s : State) (p : Party) : Bool :=
  let d := dcOf s p
  let k := (fld (wd16 d.stage 0) 0 4).toNat
  let t := stageTenant d.stage
  proposeMode s && decide (d.st = .empty) && mayPropose p k && (decide (k = 6) || structured s)
    && (if k ≤ 3 then entryProposal s k d.stage
        else if k = 6 then true
        else (sliceOf s t).isSome && (decide (k = 5) || decide (t ≠ 0)))

/-- The window of a proposal made now, in milliseconds (R271). -/
def dcWindowMs (s : State) : Nat := min (max s.ctl.dcWindow.toNat 100) 60000

/-- PROPOSE (R265, R266, R268). -/
def propose (p : Party) (s : State) : State :=
  if proposeOk s p then
    let d := dcOf s p
    let d' : PartyUnit := { d with st := .open, bound := d.stage, idLo := Config.randomWord s.free, idHi := s.ao.propNum,
                                   windowEnd := satTime (regTime s) (oneMs * dcWindowMs s) }
    let s1 := dcPut { s with free := s.free + 1, ao := { s.ao with propNum := s.ao.propNum + 1 } } p d'
    jnlDc (dcRaise s1 (otherParty p) dcPeerOpened) p d' 0x62 0 true 0
  else dcRaise s p dcProposeRej

/-- WITHDRAW (R268). -/
def withdraw (p : Party) (s : State) : State := propClose s p dcWithdrawn 0x64 2

/-- A veto by a party (R271): party S names the proposal by its ID_LO. -/
def veto (p : Party) (idLo : Word) (s : State) : State :=
  let o := otherParty p
  let d := dcOf s o
  match d.st with
  | .empty => dcRaise s p dcBadId
  | .approved => s
  | .open =>
    if decide (p = .M) || decide (idLo = d.idLo) then propClose s o dcVetoed 0x65 (partyNum p) else dcRaise s p dcBadId

/-- The eight entry words of a proposed stage (R263). -/
def stageEntry (w : Words16) : Words8 := Vector.ofFn fun i : Fin 8 => wd16 w (i.val + 3)

/-- The effect of an approval (R268). -/
def approveOpen (s : State) (o : Party) (d : PartyUnit) : State :=
  let k := propKind d
  if k ≤ 3 then
    let s1 := dcPut s o { d with st := .approved }
    submit s1 k (wd16 d.bound 1).toNat { caller := .party (wd16 d.bound 2), u := none, words := some (stageEntry d.bound) }
  else if k = 5 then
    propDone { s with ts := { s.ts with keys := put s.ts.keys (stageTenant d.bound) (stageKey d.bound) } } o true
  else
    let a : Approved := if k = 4 then .reform (stageDigest d.bound) (BitVec.ofNat 12 (stageTenant d.bound)) else .furnish (stageDigest d.bound)
    loaderTake (propDone { s with fu := { s.fu with approved := some a } } o true)

/-- A write of the approve HI register (R267). -/
def approve (p : Party) (idHi : Word) (s : State) : State :=
  let o := otherParty p
  let d := dcOf s o
  let hit := decide ((dcOf s p).approveLo = d.idLo) && decide (idHi = d.idHi)
  match d.st with
  | .empty => dcRaise s p dcBadId
  | .approved => if hit then s else dcRaise s p dcBadId
  | .open => if hit then approveOpen s o d else dcRaise s p dcBadId

/-- A word of a party's stage as its owner reads it: the key words of party S never show (R274). -/
def stageRead (s : State) (p : Party) (n : Nat) : Word :=
  match p with
  | .M => wd16 s.dcM.stage n
  | .S => if decide (2 ≤ n) && decide (n ≤ 5) then 0 else wd16 s.dcS.stage n

/-- A stage write (R268): it ends an open proposal, and is ignored while the proposal is approved; it lands after that end (assumption
log 38). -/
def stageWrite (p : Party) (form : Form) (n : Fin 16) (w : Word) (s : State) : State :=
  if (dcOf s p).st = .approved then s
  else
    let v := formValue form (stageRead s p n.val) w
    let s1 := propClose s p dcInvalidated 0x64 3
    let d := dcOf s1 p
    dcPut s1 p { d with stage := d.stage.set n v }

/-- An access of a party at its port: M on the management port, S on the security port, which sleep halts (R269, R280, R290). -/
def partyWrite (s : State) (p : Party) (addr : BitVec 22) (f : State → State) : State :=
  match p with
  | .M => portWrite s .mgmt true addr f
  | .S => if live s && !sleeping s then f (activity s false) else s

/-- PROPOSE (R265). -/
def execPropose (p : Party) (s : State) : Host.Outcome State Fault Refusal :=
  .next (writeAt s (partyPort p) fun s => partyWrite s p 0xA00 (propose p))

/-- WITHDRAW (R268). -/
def execWithdraw (p : Party) (s : State) : Host.Outcome State Fault Refusal :=
  .next (writeAt s (partyPort p) fun s => partyWrite s p 0xA00 (withdraw p))

/-- VETO (R271). -/
def execVeto (p : Party) (idLo : Word) (s : State) : Host.Outcome State Fault Refusal := 
  .next (writeAt s (partyPort p) fun s => partyWrite s p 0xA00 (veto p idLo))

/-- APPROVE (R267). -/
def execApprove (p : Party) (idHi : Word) (s : State) : Host.Outcome State Fault Refusal :=
  .next (writeAt s (partyPort p) fun s => partyWrite s p 0xA14 (approve p idHi))

/-- The address of a stage word as written: an alias shows in it (R345, R357). -/
def stageAddr (form : Form) (n : Nat) : BitVec 22 :=
  BitVec.ofNat 22 ((match form with
    | .plain => 0
    | .set => 0x40000
    | .clear => 0x50000
    | .toggle => 0x60000) + 0xA40 + 4 * n)

/-- The security port has no aliases: a stage write there is a plain write (R344). -/
def portForm (p : Party) (form : Form) : Form :=
  match p with
  | .M => form
  | .S => .plain

/-- DC_STAGE_WRITE (R268). -/
def execDcStageWrite (p : Party) (form : Form) (n : Fin 16) (wdata : Word) (s : State) : Host.Outcome State Fault Refusal :=
  .next (writeAt s (partyPort p) fun s => partyWrite s p (stageAddr form n.val) (stageWrite p (portForm p form) n wdata))

end Sys2Proof.Machine
end

