-- ==== Sys2Proof/Machine/Faults.lean ====
section
/-! DEFINITION. Fault injection (R321) and the refresh engine's checks (R289, R316). -/

namespace Sys2Proof.Machine

/-! ### Injection -/

/-- The key of an injection (R321). -/
def injectKey : BitVec 16 := 0xFA17

/-- An injection is accepted (R321); IDLE counts as SERVING (R280). A heartbeat stop is spent at its write and pends no more, and the codes 0 and
10 to 15, which name no injection, are rejected (DESIGN CHOICE, assumption log 88). -/
def injectOk (s : State) (what : Nat) (key : BitVec 16) : Bool :=
  decide (key = injectKey) && decide (1 ≤ what) && decide (what ≤ 9) && (ranking s || decide (s.md.mode = .unformed))
    && s.flt.inject.isNone && decide (s.flt.failPlane = 0) && !frozenBy s lkFault && (decide (3 < what) || bothPlanes s)

/-- Sixty-four cycles of disagreement at crossing 0x6: three retries, the deferred fault, and the agreement that ends it (R310, R321). -/
def injectCdc (s : State) : State :=
  let s1 := cdcRetry .fabReg 0 true (cdcRetry .fabReg 0 true (cdcRetry .fabReg 0 true s))
  cdcClear (cdcDeferred .fabReg 0 true s1) .fabReg 0

/-- An accepted injection: kinds that need no occasion act at once, the others wait for theirs (R321). -/
def injectArm (s : State) (what : Nat) : State :=
  if what = 6 then injectCdc s
  else if what = 8 then { s with flt := { s.flt with beatStopped := true } }
  else if what = 9 then collectorFault s true
  else { s with flt := { s.flt with inject := some (BitVec.ofNat 4 what) } }

/-- A write of `IV_FLT_INJECT` (R321). -/
def inject (what : Nat) (key : BitVec 16) (s : State) : State :=
  if injectOk s what key then injectArm s what else rejectWrite s 0x714

/-- A write of `IV_FLT_INJECT` at the port. -/
def injectWrite (s : State) (what : Nat) (key : BitVec 16) : State :=
  writeAt s .mgmt fun s => portWrite s .mgmt true 0x714 (inject what key)

/-- INJECT_PLANE_A_MISMATCH (R321). -/
def execInjectPlaneAMismatch (key : BitVec 16) (s : State) : Host.Outcome State Fault Refusal := .next (injectWrite s 1 key)

/-- INJECT_FENCE_A (R321). -/
def execInjectFenceA (key : BitVec 16) (s : State) : Host.Outcome State Fault Refusal := .next (injectWrite s 2 key)

/-- INJECT_FENCE_B (R321). -/
def execInjectFenceB (key : BitVec 16) (s : State) : Host.Outcome State Fault Refusal := .next (injectWrite s 3 key)

/-- INJECT_ECC_SINGLE (R321). -/
def execInjectEccSingle (key : BitVec 16) (s : State) : Host.Outcome State Fault Refusal := .next (injectWrite s 4 key)

/-- INJECT_ECC_DOUBLE (R321). -/
def execInjectEccDouble (key : BitVec 16) (s : State) : Host.Outcome State Fault Refusal := .next (injectWrite s 5 key)

/-- INJECT_CDC_DISAGREE (R321). -/
def execInjectCdcDisagree (key : BitVec 16) (s : State) : Host.Outcome State Fault Refusal := .next (injectWrite s 6 key)

/-- INJECT_APERTURE_READ_ERROR (R321). -/
def execInjectApertureReadError (key : BitVec 16) (s : State) : Host.Outcome State Fault Refusal := .next (injectWrite s 7 key)

/-- INJECT_HEARTBEAT_STOP (R321). -/
def execInjectHeartbeatStop (key : BitVec 16) (s : State) : Host.Outcome State Fault Refusal := .next (injectWrite s 8 key)

/-- INJECT_COLLECTOR_PARITY (R321). -/
def execInjectCollectorParity (key : BitVec 16) (s : State) : Host.Outcome State Fault Refusal := .next (injectWrite s 9 key)

/-! ### Refresh -/

/-- A corrupt slot of local ring memory: its 32 bytes are free values (R316). -/
def lmemCorrupt (s : State) (row : BitVec 16) : State :=
  if 32 * row.toNat + 32 ≤ lmemSize then
    { s with free := s.free + 32,
             ts := { s.ts with lmem := Memory.writeBytes s.ts.lmem (32 * row.toNat) ((List.range 32).map fun i => Config.corruptByte (s.free + i)) } }
  else s

/-- A row of the vector cache holds a VTE without merge state (R316, R321). -/
def rowPlain (s : State) (row : BitVec 16) : Bool :=
  match rowHandle s 1 row with
  | some h => !hasMerge (vecOf s h)
  | none => false

/-- A row of the vector cache holds a VTE with merge state, which has no aperture copy (R316). -/
def rowMerged (s : State) (row : BitVec 16) : Bool :=
  match rowHandle s 1 row with
  | some h => hasMerge (vecOf s h)
  | none => false

/-- What the error struck has an aperture copy: of the arrays, only the vector cache, the target store and the wired state hold copied
words, and a cache row counts only while its vector holds no merge state (R316). -/
def rowCopied (s : State) (array : BitVec 8) (row : BitVec 16) (copied : Bool) : Bool :=
  copied && (decide (array = 2) || decide (array = 3) || (decide (array = 1) && !rowMerged s row))

/-- An uncorrectable error (R316): local ring memory, a row with an aperture copy, which is reloaded, or neither. -/
def eccDouble (s : State) (array : BitVec 8) (row : BitVec 16) (copied inj : Bool) : State :=
  if array = 4 then faultFound (lmemCorrupt s row) 0x14 (at_ 24 0 row) inj
  else if rowCopied s array row copied then rowReload (faultFound s 0x13 (eccArg array row) inj) array row
  else fatalFault s 0x25 (eccArg array row) inj

/-- What the refresh of a row shows (R289, R316, R321). -/
def refreshRow (s : State) (array : BitVec 8) (row : BitVec 16) (copied : Bool) (ecc : Ecc) : State :=
  if decide (s.flt.inject = some 4) && decide (array = 1) then faultFound (injectSpent s) 0x03 (eccArg array row) true
  else if decide (s.flt.inject = some 5) && decide (array = 1) && rowPlain s row then eccDouble (injectSpent s) array row true true
  else match ecc with
    | .clean => s
    | .single => faultFound s 0x03 (eccArg array row) false
    | .double => eccDouble s array row copied false

/-- REFRESH (R289). -/
def execRefresh (hot : Bool) (array : BitVec 8) (row : BitVec 16) (copied : Bool) (ecc : Ecc) (s : State) :
    Host.Outcome State Fault Refusal :=
  .next (whenLive s (stirring fun s => refreshRow { s with pw := { s.pw with refreshHot := hot } } array row copied ecc))

end Sys2Proof.Machine
end

