-- ==== Sys2Proof/Machine/Regs.lean ====
section
/-! DEFINITION. Register writes: access types and aliases (R347 to R350), conditions and rejections (R355 to R358), masked and
seq-clear writes (R351, R352), the engine and freeze rows (R107, R214, R365), locks (R275), and the port's guard (R41). -/

namespace Sys2Proof.Machine

/-! ### Fields -/

/-- The bits of a mask taken from a new value. -/
def takeBits (cur new mask : Word) : Word := (cur &&& ~~~mask) ||| (new &&& mask)

/-- What a register holds after a write, field by field, and whether a field's change was refused (R348): each field is a mask and
whether a change to it is refused. -/
def fieldMerge (cur new : Word) (fs : List (Word × Bool)) : Word × Bool :=
  match fs with
  | [] => (cur, false)
  | (m, no) :: r =>
    let x := fieldMerge cur new r
    if no then (x.1, x.2 || decide ((cur ^^^ new) &&& m ≠ 0)) else (takeBits x.1 new m, x.2)

/-- The write is reported if a part of it was refused (R357). -/
def rejectIf (b : Bool) (s : State) (addr : BitVec 22) : State := if b then rejectWrite s addr else s

/-- A write to an AO register that is refused: reported at once, at the wake, or not at all in SAFE (R290, R325, R357). -/
def aoReject (s : State) (addr : BitVec 22) : State :=
  if !live s then s else if sleeping s then sleepIgnore s addr else rejectWrite s addr

/-- Fields of type RWD are refused while ENGINE_EN is 1 (R355). -/
def engineLocked (s : State) : Bool := s.md.engineEn

/-! ### IV_CTL and IV_ARB_CTL -/

/-- The messages that INGRESS_EN 0 held are offered again, after what else waits and in the order in which the vat took them (R365). -/
def ingressOffer (s : State) : State :=
  let held := (checkedAll s).eraseDups
  let q := s.vs.queue
  { s with vs := { s.vs with queue := q.filter (fun h => !(held.any (· = h))) ++ held.filter fun h => q.any (· = h) } }

/-- The fields of `IV_CTL` but ENGINE_EN take their values; clearing PLANE_CHECK_EN discards an injection that needs both planes (R321). -/
def ctlLoad (s : State) (v : Word) : State :=
  let drop := !v.getLsbD 3 && (match s.flt.inject with
    | some w => decide (w.toNat ≤ 3)
    | none => false)
  let s1 := if v.getLsbD 1 && !s.ctl.ingressEn then ingressOffer s else s
  { s1 with ctl := { s.ctl with ingressEn := v.getLsbD 1, deliverEn := v.getLsbD 2, planeCheckEn := v.getLsbD 3, journalEn := v.getLsbD 4,
                                quarEn := v.getLsbD 8 },
            flt := { s.flt with inject := if drop then none else s.flt.inject } }

/-- `IV_CTL` takes a value (R364, R365); ENGINE_EN follows R107 and R278. -/
def ctlPut (s : State) (v : Word) (addr : BitVec 22) : State :=
  let lk := frozenBy s lkCtl
  let m := fieldMerge (ctlWord s) v [(0x116, lk), (0x008, lk || engineLocked s)]
  let s1 := ctlLoad s m.1
  let s2 := if s.ctl.deliverEn && !s1.ctl.deliverEn then settleAll (batchEndAll s1) else s1
  let bad := v.getLsbD 0 && !s.md.engineEn && !engineOk s
  let s3 := if v.getLsbD 0 then (if bad then s2 else engineOn s2 addr) else engineOff s2
  rejectIf (m.2 || bad) s3 addr

/-- `IV_ARB_CTL` takes a value (R213, R214). -/
def arbPut (s : State) (v : Word) (addr : BitVec 22) : State :=
  let m := fieldMerge (arbCtlWord s) v [(0x000FFF02, frozenBy s lkArb), (0x00000001, false)]
  let s1 := { s with ctl := { s.ctl with batchMax := fld m.1 16 4, waitLim := fld m.1 8 8, preemptEn := m.1.getLsbD 1, freeze := m.1.getLsbD 0 } }
  rejectIf m.2 (drainFollow s1) addr

/-! ### Aperture registers -/

/-- The end of the formed aperture map (R95, R370). -/
def mapEnd (s : State) : Nat :=
  match s.fu.formed with
  | none => 0
  | some f => f.regions.foldl (fun m r => max m (r.offset + regionSize r)) 0

/-- A base plus the aperture's size lies within 2^64 (R370). -/
def baseFits (base : BitVec 34) (log2 : BitVec 6) : Bool :=
  decide (log2 = 0) || decide (base.toNat * 1073741824 + 2 ^ log2.toNat ≤ 18446744073709551616)

/-- LOG2 is a value that R369 names. -/
def log2Fits (log2 : BitVec 6) : Bool := decide (log2 = 0) || (decide (30 ≤ log2.toNat) && decide (log2.toNat ≤ 37))

/-- The aperture registers may take these values (R370). -/
def apertureFits (s : State) (base base2 : BitVec 34) (log2 : BitVec 6) : Bool :=
  log2Fits log2 && baseFits base log2 && baseFits base2 log2
    && (decide (s.fu.phase ≠ .formed) || (decide (log2 ≠ 0) && decide (mapEnd s ≤ 2 ^ log2.toNat)))

/-- The aperture registers may change at all (R275, R355, R370). -/
def apertureOpen (s : State) : Bool :=
  !frozenBy s lkAperture && !engineLocked s && (decide (s.fu.phase = .empty) || decide (s.fu.phase = .formed))

/-- The primary and secondary ranges overlap (R370). -/
def rangesOverlap (base base2 : BitVec 34) (log2 : BitVec 6) : Bool :=
  decide (log2 ≠ 0) && rangesMeet (base.toNat * 1073741824) (2 ^ log2.toNat) (base2.toNat * 1073741824) (2 ^ log2.toNat)

/-- An aperture base or size takes a value; STATE follows LOG2 (R370). -/
def aperturePut (s : State) (base base2 : BitVec 34) (log2 : BitVec 6) (addr : BitVec 22) : State :=
  if decide (base = s.ap.base) && decide (base2 = s.ap.base2) && decide (log2 = s.ap.log2) then s
  else if apertureOpen s && apertureFits s base base2 log2 then
    { s with ap := { s.ap with base := base, base2 := base2, log2 := log2,
                               state := if log2 = 0 then 0 else if s.ap.log2 = 0 then 1 else s.ap.state } }
  else rejectWrite s addr

/-- Bits [31:30] of a base take a value. -/
def baseLo (b : BitVec 34) (v : Word) : BitVec 34 := fld b 2 32 ++ (fld v 30 2 : BitVec 2)

/-- Bits [63:32] of a base take a value. -/
def baseHi (b : BitVec 34) (v : Word) : BitVec 34 := v ++ (fld b 0 2 : BitVec 2)

/-- `IV_APER_CTL`: MIRROR_EN takes a value, and then a plain write of RESYNC acts under it (R330, R331, R356, R370, assumption log 83). -/
def aperCtlPut (s : State) (v : Word) (sync : Bool) (addr : BitVec 22) : State :=
  let no := frozenBy s lkAperture || engineLocked s || (v.getLsbD 0 && rangesOverlap s.ap.base s.ap.base2 s.ap.log2)
  let m := fieldMerge (bit s.ap.mirrorEn 0) v [(1, no)]
  let s1 := { s with ap := { s.ap with mirrorEn := m.1.getLsbD 0 } }
  let s2 := if sync && resyncOk s1 then resync s1 else s1
  rejectIf (m.2 || (sync && !resyncOk s1)) s2 addr

/-! ### Other registers -/

/-- A register one lock bit freezes whole: its writable bits, and how it loads (R348, R358). -/
def lockedPut (s : State) (cur v mask : Word) (no : Bool) (addr : BitVec 22) (load : Word → State → State) : State :=
  let m := fieldMerge cur v [(mask, no)]
  rejectIf m.2 (load m.1 s) addr

/-- Contiguous values of ALLOW (R297). -/
def allowOk (a : BitVec 4) : Bool := decide (a = 0) || decide (a = 1) || decide (a = 3) || decide (a = 7) || decide (a = 15)

/-- The POWER ceiling: ALLOWED and WAKE_SRC of the formed image (R297). -/
def powerCeiling (s : State) : BitVec 4 × BitVec 5 :=
  match s.fu.formed with
  | some f => (fld f.allowed 0 4, fld f.wakeSrc 0 5)
  | none => (0, 0)

/-- A field under the POWER ceiling takes a value; a value that is already there stays (R297, R348). -/
def underCeiling {n : Nat} (cur new top : BitVec n) : BitVec n := if new = cur then cur else new &&& top

/-- A change of a field goes beyond the POWER ceiling (R297, R348). -/
def beyondCeiling {n : Nat} (cur new top : BitVec n) : Bool := decide (new ≠ cur) && decide (new &&& ~~~top ≠ 0)

/-- `IV_PWR_CTL` takes a value (R297): ALLOW is judged contiguous after the ceiling has masked it (assumption log 81). -/
def pwrCtlPut (s : State) (v : Word) (addr : BitVec 22) : State :=
  let m := fieldMerge (pwrCtlWord s) v [(0x9FF0FFFF, frozenBy s lkPower)]
  let c := powerCeiling s
  let allow : BitVec 4 := fld m.1 20 4
  let wake : BitVec 5 := fld m.1 24 5
  let beyond := beyondCeiling s.ctl.allow allow c.1 || beyondCeiling s.ctl.wakeEn wake c.2
  let a := underCeiling s.ctl.allow allow c.1
  let s1 := { s with ctl := { s.ctl with sbTrace := m.1.getLsbD 31, wakeEn := underCeiling s.ctl.wakeEn wake c.2,
                                         allow := if allowOk a then a else s.ctl.allow, idleAfter := fld m.1 0 16 } }
  rejectIf (m.2 || beyond || !allowOk a) s1 addr

/-- A location of the loader's registers takes a value (R103). -/
def furnPut (s : State) (addr : BitVec 22) (f : FurnUnit → FurnUnit) : State :=
  if decide (s.fu.phase = .empty) || decide (s.fu.phase = .formed) then { s with fu := f s.fu } else rejectWrite s addr

/-- `IV_AO_CAL` takes a value (R248). -/
def aoCalPut (s : State) (v : Word) (addr : BitVec 22) : State :=
  if v = s.tm.aoCal then s
  else if frozenBy s lkTimebase || decide (v.toNat < 0x70000000) || decide (0x7FFFFFFF < v.toNat) then aoReject s addr
  else { s with tm := { s.tm with aoCal := v } }

/-- `IV_SB_ADDR` takes a value; RESET_KEY is reached by plain writes only, and writing it unlocks the sideband's RESET (R82, R85). -/
def sbAddrPut (s : State) (form : Form) (v : Word) (addr : BitVec 22) : State :=
  let key : BitVec 16 := if form = .plain then fld v 16 16 else s.ao.sbKey
  if frozenBy s lkPower then
    (if decide (fld v 0 8 = s.ao.sbAddr) && decide (key = s.ao.sbKey) then s else aoReject s addr)
  else { s with ao := { s.ao with sbAddr := fld v 0 8, sbKey := key, sbWrong := if form = .plain then 0 else s.ao.sbWrong } }

/-- `IV_JNL_BASE` and `IV_JNL_SIZE` take values (R335); TAIL and HEAD stay, at or above the new number of slots too (DESIGN CHOICE, assumption
log 89). -/
def jnlPlacePut (s : State) (base : BitVec 25) (log2 : BitVec 6) (addr : BitVec 22) : State :=
  if decide (base = s.jn.base) && decide (log2 = s.jn.log2) then s
  else if frozenBy s lkAperture || engineLocked s || !(decide (log2 = 0) || (decide (16 ≤ log2.toNat) && decide (log2.toNat ≤ 37))) then
    rejectWrite s addr
  else { s with jn := { s.jn with base := base, log2 := log2 } }

/-- A software write of `IV_JNL_HEAD` (R336). -/
def jnlHeadPut (s : State) (v : Word) : State :=
  let n := max (jnlSlots s) 1
  let h := s.jn.head.toNat
  let x := (fld v 0 31 : BitVec 31).toNat
  if decide (x < n) && decide ((x + n - h) % n ≤ (s.jn.tail.toNat + n - h) % n) then { s with jn := { s.jn with head := BitVec.ofNat 31 x } }
  else s

/-- A counter word takes a value (R371, R372). -/
def cntPut (s : State) (i : Nat) (v : Word) : State :=
  let c := s.cnt
  { s with cnt :=
    match i with
    | 0 => { c with ingress := fld c.ingress 32 32 ++ v }
    | 1 => { c with ingress := v ++ (fld c.ingress 0 32 : Word) }
    | 2 => { c with delivered := v }
    | 3 => { c with stranger := v }
    | 4 => { c with noise := v }
    | 5 => { c with late := v }
    | 6 => { c with parked := v }
    | 7 => { c with coalesced := v }
    | 8 => { c with overdraft := v }
    | _ => { c with eoiStray := v } }

/-! ### Seq-clear registers -/

/-- What a seq-clear write does (R352). -/
def scClear (s : State) (r : ScReg) (w : Word) : State :=
  match r with
  | .status => { s with status := s.status.clear w }
  | .furnStatus => { s with fu := { s.fu with status := s.fu.status.clear w } }
  | .ea u => eaPut s u { eaOf s u with status := (eaOf s u).status.clear w }
  | .tw t => tnPut s t.toNat { tnOf s t.toNat with status := (tnOf s t.toNat).status.clear w }
  | .dc p => dcPut s p { dcOf s p with status := (dcOf s p).status.clear w }
  | .fltSum => pollSum { s with flt := { s.flt with sum := s.flt.sum.clear w } }

/-- The address of a seq-clear register on the register port (R362, R373). -/
def scAddr (r : ScReg) : BitVec 22 :=
  match r with
  | .status => 0x14
  | .furnStatus => 0x128
  | .ea u => eaAddr u 16
  | .tw t => BitVec.ofNat 22 (0x80000 + 128 * t.toNat + 4)
  | .dc _ => 0xA04
  | .fltSum => 0x700

/-- A port reaches a seq-clear register (R40, R251, R344). -/
def scReach (s : State) (p : Port) (r : ScReg) : Bool :=
  match r with
  | .ea u => unitReach s p u
  | .tw t => windowReach s p t
  | _ => decide (p = .mgmt)

/-- A seq-clear write at its port (R352): party S's status on the security port, every other on the register port. -/
def seqClear (s : State) (p : Port) (r : ScReg) (w : Word) : State :=
  match r with
  | .dc .S => if p = .sec then partyWrite s .S 0x14 fun s => scClear s r w else s
  | _ => portWrite s p (scReach s p r) (scAddr r) fun s => scClear s r w

/-- SEQ_CLEAR (R352). -/
def execSeqClear (port : Port) (reg : ScReg) (wdata : Word) (s : State) : Host.Outcome State Fault Refusal :=
  .next (writeAt s port fun s => seqClear s port reg wdata)

/-! ### Commands written through a general write -/

/-- `IV_FURN_CMD` (R104). -/
def furnCmdPut (s : State) (w : Word) : State :=
  let c := (fld w 0 4 : BitVec 4)
  let t : BitVec 12 := fld w 16 12
  if c = 1 then furnCmd s (loadOk s) (opStart .load)
  else if c = 2 then furnCmd s (reformOk s t) (opStart (.reform t))
  else if c = 3 then furnCmd s (abandonOk s) abandon
  else if c = 4 then furnCmd s (loadOk s) (opStart .warm)
  else furnCmd s false id

/-- A unit's CMD register (R255, R256). -/
def eaCmdPut (p : Port) (u : EaId) (w : Word) (s : State) : State :=
  let c := (fld w 0 3 : BitVec 3)
  if c = 1 then eaRead u s else if c = 2 then eaStage u s else if c = 3 then eaApply p u s else if c = 4 then eaRelease u s
  else if c = 5 then eaFence u s else s

/-- A unit's LOCK register: ACQUIRE with its lease (R256). -/
def eaLockPut (u : EaId) (w : Word) (s : State) : State := if w.getLsbD 16 then acquire u (fld w 0 16) s else s

/-- A party's CMD register; the security port has no VETO there (R271, R382). -/
def dcCmdPut (p : Party) (w : Word) (s : State) : State :=
  let c := (fld w 0 2 : BitVec 2)
  if c = 1 then propose p s else if c = 2 then withdraw p s else if decide (c = 3) && decide (p = .M) then veto .M 0 s else s

/-- A data word of a unit takes a value (R375). -/
def eaDataPut (u : EaId) (i : Nat) (v : Word) (s : State) : State :=
  let e := eaOf s u
  eaPut s u { e with data := e.data.setIfInBounds i v }

/-! ### The control window -/

/-- The locations of the AO island, whose writes act in sleep and are no activity (R279, R290, R362). -/
def aoLocation (a : Nat) : Bool :=
  decide (a = 0x0C) || decide (a = 0x20) || (decide (0x40 ≤ a) && decide (a < 0x80)) || (decide (0x508 ≤ a) && decide (a ≤ 0x514))
    || decide (a = 0x648) || (decide (0xC00 ≤ a) && decide (a < 0xD00))

/-- What a write at a location of the AO island does (R290, R350). -/
def aoAct (s : State) (form : Form) (a : Nat) (w : Word) (addr : BitVec 22) : State :=
  if a = 0x0C then modeReqPut s form w addr
  else if a = 0x20 then (if form = .plain then resetCmd s .mgmt w else s)
  else if a = 0x50C then aoCalPut s (formValue form s.tm.aoCal w) addr
  else if a = 0x648 then sbAddrPut s form (if form = .plain then w else formValue form (at_ 32 0 s.ao.sbAddr) w) addr
  else s

/-- The AO registers whose writes go through the latch of R307; a reset command needs no clock (R16, R333). -/
def aoLatched (a : Nat) : Bool := decide (a = 0x0C) || decide (a = 0x50C) || decide (a = 0x648)

/-- A write at a location of the AO island: it acts at the next AO edge, and a reset command at once (R290, R307, R350). -/
def aoPut (s : State) (form : Form) (a : Nat) (w : Word) (addr : BitVec 22) : State :=
  if aoLatched a then aoHold s form a w addr else aoAct s form a w addr

/-- The writes that waited for an AO edge act, oldest first; a block reset ignores them (R87, R307). -/
def aoHeldAct (s : State) : State :=
  let l := s.ao.heldPuts
  let s1 := { s with ao := { s.ao with heldPuts := [] } }
  if s.ao.resetting then s1 else forEach l s1 fun s x => aoAct s x.form x.a x.w x.addr

/-- An edge of IV_CLK_AO, with the writes of AO registers that waited for it (R307). -/
def aoClock (s : State) : State := if mute s || s.tm.aoStopped then s else aoHeldAct (aoEdge s)

/-- One clock edge: which clock's comes next is free (assumption log 2). -/
def clockEdge (s : State) : State :=
  let s1 := { s with free := s.free + 1 }
  if Config.nextEdgeAo s.free then aoClock s1 else fabCycle s1

/-- AO_EDGE_SEEN_AGAIN: the deferred fault ends, and the writes that waited act (R307, R312). -/
def execAoEdgeSeenAgain (s : State) : Host.Outcome State Fault Refusal :=
  .next (if mute s || !s.tm.aoStopped then s else aoHeldAct { s with tm := { s.tm with aoStopped := false } })

/-- A plain write of a control-window register that only plain writes reach: commands and seq-clear registers (R350). -/
def plainPut (s : State) (a : Nat) (w : Word) : State :=
  if a = 0x14 then scClear s .status w
  else if a = 0x128 then scClear s .furnStatus w
  else if a = 0x200 then eaLockPut .mgmt w s
  else if a = 0x20C then eaCmdPut .mgmt .mgmt w s
  else if a = 0x210 then scClear s (.ea .mgmt) w
  else if a = 0x700 then scClear s .fltSum w
  else if a = 0x714 then inject (fld w 0 4 : BitVec 4).toNat (fld w 16 16) s
  else if a = 0xA00 then dcCmdPut .M w s
  else if a = 0xA04 then scClear s (.dc .M) w
  else if a = 0xA10 then dcPut s .M { s.dcM with approveLo := w }
  else if a = 0xA14 then approve .M w s
  else s

/-- A control-window register from 0x0_0000 to 0x0_02FF takes a value (R362). -/
def lowPut (s : State) (a : Nat) (v : Word) (addr : BitVec 22) : State :=
  if a = 0x10 then ctlPut s v addr
  else if a = 0x18 then { s with ctl := { s.ctl with cfgCount := fld v 24 8 } }
  else if a = 0x100 then aperturePut s (baseLo s.ap.base v) s.ap.base2 s.ap.log2 addr
  else if a = 0x104 then aperturePut s (baseHi s.ap.base v) s.ap.base2 s.ap.log2 addr
  else if a = 0x108 then aperturePut s s.ap.base s.ap.base2 (fld v 0 6) addr
  else if a = 0x10C then aperturePut s s.ap.base (baseLo s.ap.base2 v) s.ap.log2 addr
  else if a = 0x110 then aperturePut s s.ap.base (baseHi s.ap.base2 v) s.ap.log2 addr
  else if a = 0x118 then furnPut s addr fun f => { f with off := (fld f.off 26 5 : BitVec 5) ++ (fld v 6 26 : BitVec 26) }
  else if a = 0x11C then furnPut s addr fun f => { f with off := (fld v 0 5 : BitVec 5) ++ (fld f.off 0 26 : BitVec 26) }
  else if a = 0x120 then furnPut s addr fun f => { f with len := fld v 0 21 }
  else if a = 0x204 then eaPut s .mgmt { s.eaM with kind := fld v 0 3 }
  else if a = 0x208 then eaPut s .mgmt { s.eaM with index := fld v 0 24 }
  else if 0x220 ≤ a && a < 0x240 then eaDataPut .mgmt ((a - 0x220) / 4) v s
  else s

/-- A control-window register from 0x0_0300 on takes a value (R362). -/
def highPut (s : State) (a : Nat) (v : Word) (addr : BitVec 22) : State :=
  if a = 0x300 then arbPut s v addr
  else if a = 0x310 then lockedPut s (dlvWdogWord s) v 0x0F0FFFFF (frozenBy s lkArb) addr fun m s =>
    { s with ctl := { s.ctl with maxResend := fld m 24 4, periodUs := fld m 0 20 } }
  else if 0x320 ≤ a && a < 0x360 then
    lockedPut s (s.ctl.budgets.getD ((a - 0x320) / 4) 0) v 0x80FFFFFF (frozenBy s lkArb) addr fun m s =>
      { s with ctl := { s.ctl with budgets := s.ctl.budgets.setIfInBounds ((a - 0x320) / 4) m } }
  else if a = 0x400 then lockedPut s (couchCtlWord s) v 0x00000101 (frozenBy s lkCouch) addr fun m s =>
    { s with ctl := { s.ctl with elasticEn := m.getLsbD 8, couchEn := m.getLsbD 0 } }
  else if a = 0x600 then pwrCtlPut s v addr
  else if 0x620 ≤ a && a < 0x640 then { s with pw := { s.pw with refCnt := s.pw.refCnt.setIfInBounds ((a - 0x620) / 4) v } }
  else if a = 0x644 then lockedPut s (energyWord s) v 0x0007FFFF (frozenBy s lkPower) addr fun m s =>
    { s with ctl := { s.ctl with nowakeLevel := fld m 16 3, graceUs := fld m 0 16 } }
  else if a = 0x704 then { s with flt := { s.flt with corr := v } }
  else if a = 0x708 then { s with flt := { s.flt with defer := v } }
  else if a = 0x710 then lockedPut s (fltPolicyWord s) v 0x00000013 (frozenBy s lkFault) addr fun m s =>
    { s with ctl := { s.ctl with deferFatal := m.getLsbD 4, aperWerrFatal := m.getLsbD 1, degradeEn := m.getLsbD 0 } }
  else if a = 0x718 then lockedPut s (at_ 32 0 s.ctl.halfUs) v 0x0000FFFF (frozenBy s lkAlive) addr fun m s =>
    { s with ctl := { s.ctl with halfUs := fld m 0 16 } }
  else if a = 0x800 then jnlPlacePut s (fld v 0 25) s.jn.log2 addr
  else if a = 0x804 then jnlPlacePut s s.jn.base (fld v 0 6) addr
  else if a = 0x80C then jnlHeadPut s v
  else if 0x900 ≤ a && a < 0x928 then cntPut s ((a - 0x900) / 4) v
  else if a = 0xA18 then lockedPut s (at_ 32 0 s.ctl.dcWindow) v 0x0000FFFF (frozenBy s lkCtl) addr fun m s =>
    { s with ctl := { s.ctl with dcWindow := fld m 0 16 } }
  else s

/-- The set bits of `IV_LOCK` (R275): a plain or set-alias write of 1 sets a bit. -/
def lockPut (s : State) (form : Form) (w : Word) : State :=
  match form with
  | .plain => { s with md := { s.md with lock := s.md.lock ||| fld w 0 8 } }
  | .set => { s with md := { s.md with lock := s.md.lock ||| fld w 0 8 } }
  | _ => s

/-- A register without aliases takes no alias write: commands, seq-clear and read-only registers (R350). -/
def aliased (a : Nat) : Bool :=
  !(decide (a = 0x14) || decide (a = 0x124) || decide (a = 0x128) || decide (a = 0x200) || decide (a = 0x20C) || decide (a = 0x210)
    || decide (a = 0x700) || decide (a = 0x714) || decide (a = 0xA00) || decide (a = 0xA04) || decide (a = 0xA10) || decide (a = 0xA14))

/-- A write of a control-window register while Ivsyn is awake (R347 to R350, R362). -/
def ctlWindowPut (s : State) (form : Form) (a : Nat) (w : Word) (addr : BitVec 22) : State :=
  if a = 0x1C then lockPut s form w
  else if a = 0x114 then aperCtlPut s (formValue form (aperCtlWord s) w) (decide (form = .plain) && w.getLsbD 8) addr
  else if 0xA40 ≤ a && a < 0xA80 then stageWrite .M form (Fin.ofNat 16 ((a - 0xA40) / 4)) w s
  else if aliased a then
    let v := formValue form (homeWord s a) w
    if a < 0x300 then lowPut s a v addr else highPut s a v addr
  else if form = .plain then plainPut s a w
  else s

/-- The AO-served registers of the control window that a write in SAFE reaches besides the AO island's own (R313, R325): the aperture
registers and the refusal counts. -/
def safeLocation (a : Nat) : Bool := (decide (0x100 ≤ a) && decide (a ≤ 0x114)) || (decide (0x620 ≤ a) && decide (a < 0x640))

/-- A write of such a register in SAFE (R325); no copying starts there, since the aperture port has stopped. -/
def safePut (s : State) (form : Form) (a : Nat) (w : Word) (addr : BitVec 22) : State :=
  if a = 0x114 then aperCtlPut s (formValue form (aperCtlWord s) w) false addr
  else
    let v := formValue form (homeWord s a) w
    if a < 0x300 then lowPut s a v addr else highPut s a v addr

/-- A management write of class M (R290, R325, R344). -/
def classMWrite (s : State) (form : Form) (a : Nat) (w : Word) (addr : BitVec 22) : State :=
  if s.ao.resetting then s
  else if aoLocation a then aoPut s form a w addr
  else if decide (s.md.mode = .safe) && safeLocation a then safePut s form a w addr
  else if decide (a = 0x124) && decide (form = .plain) then furnCmdPut s w
  else portWrite s .mgmt true addr fun s => ctlWindowPut s form a w addr

/-! ### Windows -/

/-- A write in tenant window t (R251, R253, R373). -/
def windowPut (p : Port) (t : BitVec 12) (off : Nat) (w : Word) (s : State) : State :=
  let u := EaId.tw t
  let e := eaOf s u
  if off = 0x04 then scClear s (.tw t) w
  else if off = 0x08 then eaLockPut u w s
  else if off = 0x0C then
    let m : BitVec 3 := fld w 16 3
    eaPut s u { e with kind := (e.kind &&& ~~~m) ||| (fld w 0 3 &&& m) }
  else if off = 0x10 then eaPut s u { e with index := fld w 0 24 }
  else if off = 0x14 then eaCmdPut p u w s
  else if off = 0x18 then scClear s (.ea u) w
  else if 0x20 ≤ off && off < 0x40 then eaDataPut u ((off - 0x20) / 4) w s
  else s

/-- A write in target window t (R379). -/
def targetPut (s : State) (p : Port) (t : BitVec 16) (off : Nat) (w : Word) : State :=
  if off = 0x04 then queuedWrite s p t 4 (.eoi t (fld w 0 24))
  else if off = 0x08 then queuedWrite s p t 8 (.head t w)
  else if off = 0x0C then queuedWrite s p t 0x0C (.hint t (fld w 0 2))
  else if off = 0x14 then queuedWrite s p t 0x14 (.rearm t (decide (p = .mgmt)))
  else portWrite s p (targetReach s p t.toNat) (targetAddr t.toNat off) fun s => if off = 0 then applyCprio s p t.toNat w else s

/-- A write at an aligned address of the register port (R38, R40, R345). -/
def registerWrite (s : State) (p : Port) (addr : BitVec 22) (w : Word) : State :=
  let a := addr.toNat
  if 0x200000 ≤ a then targetPut s p (BitVec.ofNat 16 ((a - 0x200000) / 32)) ((a - 0x200000) % 32) w
  else if 0x80000 ≤ a && a < 0x100000 then
    let t := BitVec.ofNat 12 ((a - 0x80000) / 128)
    portWrite s p (windowReach s p t) addr (windowPut p t ((a - 0x80000) % 128) w)
  else match p, classM a with
    | .mgmt, some (form, r) => classMWrite s form r w addr
    | _, _ => portWrite s p false addr id

/-! ### The security port -/

/-- The locations of the security port that a write acts at, besides the reset command; every other one is read-only or reserved and ignores it
(R359, R381). -/
def secWritable (a : Nat) : Bool := (decide (0x010 ≤ a) && decide (a ≤ 0x020)) || (decide (0x080 ≤ a) && decide (a < 0x0C0))

/-- A write at an aligned address of the security port (R359, R381, R384). -/
def securityWrite (s : State) (a : Nat) (w : Word) : State :=
  if a = 0x140 then resetCmd s .sec w
  else if !secWritable a then s
  else partyWrite s .S 0 fun s =>
    if a = 0x010 then dcCmdPut .S w s
    else if a = 0x014 then scClear s (.dc .S) w
    else if a = 0x018 then dcPut s .S { s.dcS with approveLo := w }
    else if a = 0x01C then approve .S w s
    else if a = 0x020 then veto .S w s
    else if 0x080 ≤ a && a < 0x0C0 then stageWrite .S .plain (Fin.ofNat 16 ((a - 0x080) / 4)) w s
    else s

/-! ### REG_WRITE -/

/-- A write through a port (R39, R40, R43): a misaligned one is an error to the fabric manager and the security controller, and a denied
access to a tenant. -/
def regWrite (s : State) (p : Port) (addr : BitVec 22) (w : Word) : State :=
  if addr.toNat % 4 ≠ 0 then
    match p with
    | .tenant t => portDone (if live s then deniedWrite s t.toNat else s) p
    | _ => portAnswer s p 0 (misalignedErr s p addr)
  else match p with
    | .sec => portDone (securityWrite s (addr.toNat % 4096) w) p
    | _ => doneUnlessHeld s (registerWrite s p addr w) p

/-- REG_WRITE (R347). -/
def execRegWrite (port : Port) (addr : BitVec 22) (wdata : Word) (s : State) : Host.Outcome State Fault Refusal :=
  .next (portServe s fun s => regWrite s port addr wdata)

/-- An access that the guard ended is counted: `IV_STATUS.HUNG` sets, in REST and DORMANT at the wake (R41, assumption log 65). -/
def noteHung (s : State) : State := if sleeping s then { s with pw := { s.pw with hungs := s.pw.hungs + 1 } } else raiseStatus s stHung

/-- ACCESS_GUARD_TIMEOUT: the guard ends an access with an error and zero data, in every mode (R41, R361); during a block reset the register
port has answered already (R87), and a write that the front end holds for a full queue is not ended (R41, R160, R176). -/
def execAccessGuardTimeout (port : Port) (s : State) : Host.Outcome State Fault Refusal :=
  .next (portServe s fun s =>
    if (s.ao.resetting || (sleeping s && !s.pw.heldWrites.isEmpty)) && decide (port ≠ .sec) then s else noteHung (portAnswer s port 0 true))

/-! ### Rows of IV_CTL, IV_ARB_CTL, IV_LOCK and IV_JNL_HEAD -/

/-- A write of `IV_CTL` that sets or clears one bit (R364). -/
def ctlBit (s : State) (mask : Word) (on : Bool) : State :=
  portWrite s .mgmt true 0x10 fun s => ctlPut s (if on then ctlWord s ||| mask else ctlWord s &&& ~~~mask) 0x10

/-- ENGINE_EN_SET (R107, R278). -/
def execEngineEnSet (s : State) : Host.Outcome State Fault Refusal := .next (writeAt s .mgmt fun s => ctlBit s 1 true)

/-- ENGINE_EN_CLEAR (R278). -/
def execEngineEnClear (s : State) : Host.Outcome State Fault Refusal := .next (writeAt s .mgmt fun s => ctlBit s 1 false)

/-- INGRESS_EN_CLEAR (R365). -/
def execIngressEnClear (s : State) : Host.Outcome State Fault Refusal := .next (writeAt s .mgmt fun s => ctlBit s 2 false)

/-- INGRESS_EN_SET (R365). -/
def execIngressEnSet (s : State) : Host.Outcome State Fault Refusal := .next (writeAt s .mgmt fun s => ctlBit s 2 true)

/-- DELIVER_EN_CLEAR (R365). -/
def execDeliverEnClear (s : State) : Host.Outcome State Fault Refusal := .next (writeAt s .mgmt fun s => ctlBit s 4 false)

/-- DELIVER_EN_SET (R365). -/
def execDeliverEnSet (s : State) : Host.Outcome State Fault Refusal := .next (writeAt s .mgmt fun s => ctlBit s 4 true)

/-- A write of `IV_ARB_CTL` that sets or clears FREEZE (R214). -/
def freezeBit (s : State) (on : Bool) : State :=
  portWrite s .mgmt true 0x300 fun s => arbPut s (if on then arbCtlWord s ||| 1 else arbCtlWord s &&& ~~~(1 : Word)) 0x300

/-- FREEZE_SET (R214). -/
def execFreezeSet (s : State) : Host.Outcome State Fault Refusal := .next (writeAt s .mgmt fun s => freezeBit s true)

/-- FREEZE_CLEAR (R214). -/
def execFreezeClear (s : State) : Host.Outcome State Fault Refusal := .next (writeAt s .mgmt fun s => freezeBit s false)

/-- LOCK_SET (R275). -/
def execLockSet (bits : Word) (s : State) : Host.Outcome State Fault Refusal :=
  .next (writeAt s .mgmt fun s => portWrite s .mgmt true 0x1C fun s => lockPut s .plain bits)

/-- JNL_HEAD_WRITE (R336). -/
def execJnlHeadWrite (form : Form) (wdata : Word) (s : State) : Host.Outcome State Fault Refusal :=
  .next (writeAt s .mgmt fun s =>
    portWrite s .mgmt true (BitVec.ofNat 22 (aliasOff form + 0x80C)) fun s => jnlHeadPut s (formValue form (at_ 32 0 s.jn.head) wdata))

end Sys2Proof.Machine
end

