-- ==== Sys2Proof/Machine/Sideband.lean ====
section
/-! DEFINITION. The sideband (R76 to R85): its three wires, the four-phase handshake of each bit, the frames, the turnaround, the
commands, and the abandonment of a frame. A command of the board controller is the line changes by which it sends one request and takes
the response, up to the number after which it falls silent. -/

namespace Sys2Proof.Machine

/-! ### Wires -/

/-- The sideband with its wires as Ivsyn leaves them. -/
def sbPut (s : State) (b : SbUnit) : State := { s with ao := { s.ao with sb := b } }

/-- IV_SB_D0 as Ivsyn drives it (R76, R83). -/
def sbD0 (s : State) : Drive := if mute s then .released else s.ao.sb.d0

/-- IV_SB_D1 as Ivsyn drives it (R76, R83). -/
def sbD1 (s : State) : Drive := if mute s then .released else s.ao.sb.d1

/-- The trace strobe drives IV_SB_ACK: in Run with SB_TRACE 1, while no frame is on the sideband (R84). -/
def sbTracing (s : State) : Bool := awake s && s.ctl.sbTrace && !sbBusy s

/-- IV_SB_ACK as Ivsyn drives it between two strobe pulses of the trace (R76, R83, R84, R88). -/
def sbAck (s : State) : Drive := if mute s then .released else if sbTracing s then .low else s.ao.sb.ack

/-- Step 2 of a bit that Ivsyn receives: IV_SB_ACK rises with the data line (R77). -/
def ackRaise (b : SbUnit) (v : Bool) : SbUnit := { b with ack := .high, phase := .held v, quiet := 0 }

/-- Step 4 of a bit that Ivsyn receives: the bit is taken (R77). -/
def ackLower (b : SbUnit) (v : Bool) : SbUnit := { b with ack := .low, phase := .receive, rx := b.rx ++ [v], quiet := 0 }

/-- Step 1 of R83: after the last request bit IV_SB_ACK is released. -/
def turnToSend (b : SbUnit) : SbUnit := { b with ack := .released, phase := .turning, rx := [] }

/-- Step 3 of R83: once IV_SB_ACK has risen, Ivsyn drives the data lines to 0. -/
def dataDrive (b : SbUnit) : SbUnit := { b with d0 := .low, d1 := .low, phase := .turned, quiet := 0 }

/-- Step 1 of a bit that Ivsyn sends: IV_SB_D0 rises for a 0, IV_SB_D1 for a 1 (R77). -/
def dataRaise (b : SbUnit) (v : Bool) : SbUnit :=
  { b with d0 := if v then .low else .high, d1 := if v then .high else .low, phase := .sending, quiet := 0 }

/-- Step 3 of a bit that Ivsyn sends (R77). -/
def dataLower (b : SbUnit) : SbUnit := { b with d0 := .low, d1 := .low, phase := .sent, quiet := 0 }

/-- Steps 6 and 8 of R83: after the last response bit the data lines are released, and Ivsyn drives IV_SB_ACK to 0. -/
def turnToReceive (b : SbUnit) : SbUnit :=
  { b with d0 := .released, d1 := .released, ack := .low, phase := .receive, tx := [], resetDue := false, quiet := 0 }

/-! ### Frames -/

/-- The bits of a field, most significant first (R78). -/
def msbBits {w : Nat} (v : BitVec w) : List Bool := (List.range w).map fun i => v.getLsbD (w - 1 - i)

/-- The number that bits sent most significant first stand for (R78). -/
def bitsNat (l : List Bool) : Nat := l.foldl (fun n b => 2 * n + b.toNat) 0

/-- The bits of a response frame (R78). -/
def respBits (r : SbResp) : List Bool := msbBits r.status ++ r.data.flatMap msbBits

/-- The status byte of a response (R80). -/
def sbStatus (s : State) (result : BitVec 4) : Byte :=
  at_ 8 4 result ||| bit (degraded s) 3 ||| at_ 8 0 (fld s.md.mode.code 0 3)

/-- A response is sent: the wires turn, and its bits wait for the board controller (R78, R83). A RESET that acts sets its block reset due
afterwards. -/
def sbSend (s : State) (status : Byte) (data : List (BitVec 16)) : State :=
  let r : SbResp := { status := status, data := data }
  { s with ao := { s.ao with sbResp := some r, sb := { turnToSend s.ao.sb with tx := respBits r } } }

/-- The two data words of a 32-bit value (R78). -/
def sbWords (w : Word) : List (BitVec 16) := [fld w 16 16, fld w 0 16]

/-! ### Commands -/

/-- Wrong keys after which the sideband's RESET is locked (R82). -/
def sbWrongMax : Nat := 8

/-- The sideband wakes Ivsyn from REST or DORMANT where it is enabled, and abandons an entry attempt before its commit; in other modes it
has no effect (R79, R284, R291). -/
def sbWakeAct (s : State) : State :=
  if live s && s.ctl.wakeEn.getLsbD 1 then
    (if sleeping s then wakeSource s 2 else if entryUndoable s then activity s false else s)
  else s

/-- A sideband RESET: one that acts asks for the block reset once its response has been sent; during a block reset it starts no second one
(R82). -/
def sbResetAct (s : State) (key : BitVec 16) : State :=
  if sbWrongMax ≤ s.ao.sbWrong then sbSend s (sbStatus s 4) []
  else if decide (key = s.ao.sbKey) && decide (s.ao.sbKey ≠ 0) then
    let s1 := sbSend s (sbStatus s 0) []
    { s1 with ao := { s1.ao with sbWrong := 0, sb := { s1.ao.sb with resetDue := !s.ao.resetting } } }
  else
    let s1 := sbSend s (sbStatus s 2) []
    { s1 with ao := { s1.ao with sbWrong := s1.ao.sbWrong + 1 } }

/-- The data words of a command's request (R79). -/
def sbReqWords (cmd : Byte) : Nat := if cmd = 0x40 || cmd = 0x50 then 1 else 0

/-- The data words of a command's response (R79). -/
def sbRespWords (cmd : Byte) : Nat := if (fld cmd 4 4 : BitVec 4) = 3 || cmd = 0x40 then 2 else 0

/-- What a command with its data word does and answers (R79, R386). -/
def sbCommand (s : State) (cmd : Byte) (data : BitVec 16) : State :=
  if cmd = 0x10 then sbSend s (sbStatus s 0) []
  else if cmd = 0x20 then sbWakeAct (sbSend s (sbStatus s 0) [])
  else if (fld cmd 4 4 : BitVec 4) = 3 then sbSend s (sbStatus s 0) (sbWords (pollWord s (fld cmd 0 4 : BitVec 4).toNat))
  else if cmd = 0x40 then
    (if data.toNat ≤ 1023 then sbSend s (sbStatus s 0) (sbWords (aoSaveWord s data.toNat)) else sbSend s (sbStatus s 3) [0, 0])
  else if cmd = 0x50 then sbResetAct s data
  else sbSend s (sbStatus s 1) []

/-- A complete request: one whose address does not match is answered and has no effect (R80). -/
def sbExecute (s : State) (addr cmd : Byte) (data : BitVec 16) : State :=
  if addr = s.ao.sbAddr then sbCommand s cmd data else sbSend s 0xF0 (List.replicate (sbRespWords cmd) 0)

/-! ### Line changes -/

/-- The request that received bits complete: address, command and data word (R78, R79). -/
def sbRequest (rx : List Bool) : Option (Byte × Byte × BitVec 16) :=
  if rx.length < 16 then none
  else
    let cmd : Byte := BitVec.ofNat 8 (bitsNat ((rx.drop 8).take 8))
    if rx.length = 16 + 16 * sbReqWords cmd then
      some (BitVec.ofNat 8 (bitsNat (rx.take 8)), cmd, BitVec.ofNat 16 (bitsNat (rx.drop 16)))
    else none

/-- One bit is received (R77): the last of a request executes it. -/
def sbTake (s : State) (v : Bool) : State :=
  let s1 := sbPut s (ackLower s.ao.sb v)
  match sbRequest s1.ao.sb.rx with
  | some (addr, cmd, data) => sbExecute s1 addr cmd data
  | none => s1

/-- The response has been sent whole: the wires turn back, and a RESET that acts asks for its block reset (R82, R83). -/
def sbSent (s : State) : State :=
  let s1 := sbPut s (turnToReceive s.ao.sb)
  if s.ao.sb.resetDue then resetRequest s1 else s1

/-- The next response bit is put on its data line, or the response has been sent whole (R77, R83). -/
def sbGive (s : State) (tx : List Bool) : State :=
  match tx with
  | [] => sbSent s
  | v :: _ => sbPut s { dataRaise s.ao.sb v with tx := tx }

/-- A line change of the board controller: a data line for a bit rises or falls, or IV_SB_ACK does. -/
inductive SbMove where
  | dataRise (v : Bool)
  | dataFall
  | ackRise
  | ackFall
deriving DecidableEq, Repr

/-- What Ivsyn does at a line change of the board controller; one that the handshake does not await has no effect (R77, R83, assumption
log 49). -/
def sbMove (s : State) (m : SbMove) : State :=
  match s.ao.sb.phase, m with
  | .receive, .dataRise v => sbPut s (ackRaise s.ao.sb v)
  | .held v, .dataFall => sbTake s v
  | .turning, .ackRise => sbPut s (dataDrive s.ao.sb)
  | .turned, .ackFall => sbGive s s.ao.sb.tx
  | .sending, .ackRise => sbPut s (dataLower s.ao.sb)
  | .sent, .ackFall => sbGive s s.ao.sb.tx.tail
  | _, _ => s

/-- The line changes of an exchange: two for each request bit, two for the turnaround, and two for each response bit (R77, R83). -/
def sbMoves (request : List Bool) (respWords : Nat) : List SbMove :=
  request.flatMap (fun v => [.dataRise v, .dataFall]) ++ (List.replicate (9 + 16 * respWords) [SbMove.ackRise, .ackFall]).flatten

/-- An exchange: the board controller sends a request to a command and takes its response, and falls silent after n line changes. -/
def sbExchange (s : State) (frame : SbFrame) (cmd : Byte) (data : List Bool) : State :=
  if mute s then s
  else ((sbMoves (msbBits frame.addr ++ msbBits cmd ++ data) (sbRespWords cmd)).take frame.moves).foldl sbMove s

/-! ### The rows -/

/-- PING (R79). -/
def execPing (frame : SbFrame) (s : State) : Host.Outcome State Fault Refusal := .next (sbExchange s frame 0x10 [])

/-- SB_WAKE (R79). -/
def execSbWake (frame : SbFrame) (s : State) : Host.Outcome State Fault Refusal := .next (sbExchange s frame 0x20 [])

/-- READ_POLL (R79, R386). -/
def execReadPoll (frame : SbFrame) (n : BitVec 4) (s : State) : Host.Outcome State Fault Refusal :=
  .next (sbExchange s frame ((3 : BitVec 4) ++ n) [])

/-- READ_AO (R79, R386). -/
def execReadAo (frame : SbFrame) (index : BitVec 16) (s : State) : Host.Outcome State Fault Refusal :=
  .next (sbExchange s frame 0x40 (msbBits index))

/-- SB_RESET (R82). -/
def execSbReset (frame : SbFrame) (key : BitVec 16) (s : State) : Host.Outcome State Fault Refusal :=
  .next (sbExchange s frame 0x50 (msbBits key))

/-- BAD_CMD (R79). -/
def execBadCmd (frame : SbFrame) (cmd : Byte) (s : State) : Host.Outcome State Fault Refusal := .next (sbExchange s frame cmd [])

/-- The frame in progress is abandoned: no response stands, and a RESET whose response has not been sent whole asks for no block reset
(R77, R81, assumption log 57). -/
def sbAbandon (s : State) (b : SbUnit) : State := { s with ao := { s.ao with sbResp := none, sb := b } }

/-- The sideband with every line released (R81): IV_SB_ACK stays so until Ivsyn acknowledges the next bit or drives the trace strobe
(R84, assumption log 74). -/
def sbReleased : SbUnit := { State.sbReset with ack := .released }

/-- SB_FRAME_TIMEOUT: no line has changed for 64 AO ticks in the middle of a frame (R81). -/
def execSbFrameTimeout (s : State) : Host.Outcome State Fault Refusal :=
  .next (if !mute s && sbBusy s && decide (64 ≤ s.ao.sb.quiet) then sbAbandon s sbReleased else s)

/-- Ivsyn is the receiver of a request frame in progress (R77). -/
def sbReceiving (s : State) : Bool :=
  sbBusy s && match s.ao.sb.phase with
    | .receive => true
    | .held _ => true
    | _ => false

/-- SB_FRAME_ABANDON_BOTH_RAILS: both data lines of a request rose, are not acknowledged, and are 0 again (R77). -/
def execSbFrameAbandonBothRails (s : State) : Host.Outcome State Fault Refusal :=
  .next (if !mute s && sbReceiving s then sbAbandon s State.sbReset else s)

end Sys2Proof.Machine
end

