-- ==== Sys2Proof/Machine/Dispatch.lean ====
section
/-! DEFINITION. The dispatch of the commands to their meanings: one arm per row of spec/opcode_table.json. -/

namespace Sys2Proof.Machine

def exec (i : Instr) (s : State) : Host.Outcome State Fault Refusal :=
  match i with
  | .regWrite port addr wdata => Sys2Proof.Machine.execRegWrite port addr wdata s
  | .accessGuardTimeout port => Sys2Proof.Machine.execAccessGuardTimeout port s
  | .memoryWriteBeat lane beat => Sys2Proof.Machine.execMemoryWriteBeat lane beat s
  | .assertIntx lane beat => Sys2Proof.Machine.execAssertIntx lane beat s
  | .deassertIntx lane beat => Sys2Proof.Machine.execDeassertIntx lane beat s
  | .rouse lane beat => Sys2Proof.Machine.execRouse lane beat s
  | .wakeBeat lane => Sys2Proof.Machine.execWakeBeat lane s
  | .vteReadReturn tag data => Sys2Proof.Machine.execVteReadReturn tag data s
  | .apertureReadError tag => Sys2Proof.Machine.execApertureReadError tag s
  | .apertureReadTimeout tag => Sys2Proof.Machine.execApertureReadTimeout tag s
  | .apertureWriteAck tag copy => Sys2Proof.Machine.execApertureWriteAck tag copy s
  | .apertureWriteError tag copy => Sys2Proof.Machine.execApertureWriteError tag copy s
  | .egressAccept tag => Sys2Proof.Machine.execEgressAccept tag s
  | .egressReject tag => Sys2Proof.Machine.execEgressReject tag s
  | .levelLineChange n high => Sys2Proof.Machine.execLevelLineChange n high s
  | .sampledEdge n => Sys2Proof.Machine.execSampledEdge n s
  | .countedStep m gray => Sys2Proof.Machine.execCountedStep m gray s
  | .cdcRetry code line => Sys2Proof.Machine.execCdcRetry code line s
  | .cdcDeferred code line => Sys2Proof.Machine.execCdcDeferred code line s
  | .timeAccept ivTime => Sys2Proof.Machine.execTimeAccept ivTime s
  | .timeValidLoss => Sys2Proof.Machine.execTimeValidLoss s
  | .throttleChange level => Sys2Proof.Machine.execThrottleChange level s
  | .vddOkFall => Sys2Proof.Machine.execVddOkFall s
  | .pwrAck ivTime => Sys2Proof.Machine.execPwrAck ivTime s
  | .linkUp host tenant => Sys2Proof.Machine.execLinkUp host tenant s
  | .linkDown host tenant => Sys2Proof.Machine.execLinkDown host tenant s
  | .lowPower host tenant => Sys2Proof.Machine.execLowPower host tenant s
  | .hostReset host tenant => Sys2Proof.Machine.execHostReset host tenant s
  | .quarAck => Sys2Proof.Machine.execQuarAck s
  | .wakePin => Sys2Proof.Machine.execWakePin s
  | .wiredLevelWake n => Sys2Proof.Machine.execWiredLevelWake n s
  | .aoWakeComparator => Sys2Proof.Machine.execAoWakeComparator s
  | .porstFall => Sys2Proof.Machine.execPorstFall s
  | .porstRelease aPass bPass => Sys2Proof.Machine.execPorstRelease aPass bPass s
  | .ping frame => Sys2Proof.Machine.execPing frame s
  | .sbWake frame => Sys2Proof.Machine.execSbWake frame s
  | .readPoll frame n => Sys2Proof.Machine.execReadPoll frame n s
  | .readAo frame index => Sys2Proof.Machine.execReadAo frame index s
  | .sbReset frame key => Sys2Proof.Machine.execSbReset frame key s
  | .badCmd frame cmd => Sys2Proof.Machine.execBadCmd frame cmd s
  | .sbFrameTimeout => Sys2Proof.Machine.execSbFrameTimeout s
  | .resetCmd port wdata => Sys2Proof.Machine.execResetCmd port wdata s
  | .blockResetComplete aPass bPass => Sys2Proof.Machine.execBlockResetComplete aPass bPass s
  | .modeReqWrite form wdata => Sys2Proof.Machine.execModeReqWrite form wdata s
  | .engineEnSet => Sys2Proof.Machine.execEngineEnSet s
  | .engineEnClear => Sys2Proof.Machine.execEngineEnClear s
  | .ingressEnClear => Sys2Proof.Machine.execIngressEnClear s
  | .ingressEnSet => Sys2Proof.Machine.execIngressEnSet s
  | .deliverEnClear => Sys2Proof.Machine.execDeliverEnClear s
  | .deliverEnSet => Sys2Proof.Machine.execDeliverEnSet s
  | .freezeSet => Sys2Proof.Machine.execFreezeSet s
  | .freezeClear => Sys2Proof.Machine.execFreezeClear s
  | .lockSet bits => Sys2Proof.Machine.execLockSet bits s
  | .load => Sys2Proof.Machine.execLoad s
  | .reform tenant => Sys2Proof.Machine.execReform tenant s
  | .abandon => Sys2Proof.Machine.execAbandon s
  | .warmForm => Sys2Proof.Machine.execWarmForm s
  | .fetchComplete image => Sys2Proof.Machine.execFetchComplete image s
  | .approvalTimeout => Sys2Proof.Machine.execApprovalTimeout s
  | .validateComplete => Sys2Proof.Machine.execValidateComplete s
  | .reformDrainComplete => Sys2Proof.Machine.execReformDrainComplete s
  | .reformAcceptTimeout target => Sys2Proof.Machine.execReformAcceptTimeout target s
  | .formCommit stored => Sys2Proof.Machine.execFormCommit stored s
  | .acquire port u lease => Sys2Proof.Machine.execAcquire port u lease s
  | .read port u => Sys2Proof.Machine.execRead port u s
  | .stage port u => Sys2Proof.Machine.execStage port u s
  | .apply port u => Sys2Proof.Machine.execApply port u s
  | .release port u => Sys2Proof.Machine.execRelease port u s
  | .fence port u => Sys2Proof.Machine.execFence port u s
  | .leaseExpiry timer => Sys2Proof.Machine.execLeaseExpiry timer s
  | .propose p => Sys2Proof.Machine.execPropose p s
  | .withdraw p => Sys2Proof.Machine.execWithdraw p s
  | .veto p idLo => Sys2Proof.Machine.execVeto p idLo s
  | .approve p idHi => Sys2Proof.Machine.execApprove p idHi s
  | .dcStageWrite p form n wdata => Sys2Proof.Machine.execDcStageWrite p form n wdata s
  | .dcWindowExpiry p => Sys2Proof.Machine.execDcWindowExpiry p s
  | .injectPlaneAMismatch key => Sys2Proof.Machine.execInjectPlaneAMismatch key s
  | .injectFenceA key => Sys2Proof.Machine.execInjectFenceA key s
  | .injectFenceB key => Sys2Proof.Machine.execInjectFenceB key s
  | .injectEccSingle key => Sys2Proof.Machine.execInjectEccSingle key s
  | .injectEccDouble key => Sys2Proof.Machine.execInjectEccDouble key s
  | .injectCdcDisagree key => Sys2Proof.Machine.execInjectCdcDisagree key s
  | .injectApertureReadError key => Sys2Proof.Machine.execInjectApertureReadError key s
  | .injectHeartbeatStop key => Sys2Proof.Machine.execInjectHeartbeatStop key s
  | .injectCollectorParity key => Sys2Proof.Machine.execInjectCollectorParity key s
  | .resync => Sys2Proof.Machine.execResync s
  | .resyncComplete => Sys2Proof.Machine.execResyncComplete s
  | .jnlHeadWrite form wdata => Sys2Proof.Machine.execJnlHeadWrite form wdata s
  | .seqClear port reg wdata => Sys2Proof.Machine.execSeqClear port reg wdata s
  | .timeLoRead access => Sys2Proof.Machine.execTimeLoRead access s
  | .sleepElapsedLoRead port => Sys2Proof.Machine.execSleepElapsedLoRead port s
  | .amaskLoRead port target => Sys2Proof.Machine.execAmaskLoRead port target s
  | .tEoi port target wdata => Sys2Proof.Machine.execTEoi port target wdata s
  | .tHead port target wdata => Sys2Proof.Machine.execTHead port target wdata s
  | .tRearm port target wdata => Sys2Proof.Machine.execTRearm port target wdata s
  | .tHint port target wdata => Sys2Proof.Machine.execTHint port target wdata s
  | .tCprio port target wdata => Sys2Proof.Machine.execTCprio port target wdata s
  | .rankingRound h check => Sys2Proof.Machine.execRankingRound h check s
  | .selfTest aPass bPass thirdAgrees => Sys2Proof.Machine.execSelfTest aPass bPass thirdAgrees s
  | .arbiterRound => Sys2Proof.Machine.execArbiterRound s
  | .holdoffWindowEnd g => Sys2Proof.Machine.execHoldoffWindowEnd g s
  | .deadlineArrival h => Sys2Proof.Machine.execDeadlineArrival h s
  | .couchTimeLimit g => Sys2Proof.Machine.execCouchTimeLimit g s
  | .sweep => Sys2Proof.Machine.execSweep s
  | .batchTimeout target => Sys2Proof.Machine.execBatchTimeout target s
  | .watchdogExpiry target => Sys2Proof.Machine.execWatchdogExpiry target s
  | .creditRefill => Sys2Proof.Machine.execCreditRefill s
  | .strangerWindowEnd => Sys2Proof.Machine.execStrangerWindowEnd s
  | .journalBucketRefill => Sys2Proof.Machine.execJournalBucketRefill s
  | .hwFieldWriteback => Sys2Proof.Machine.execHwFieldWriteback s
  | .aliveToggle => Sys2Proof.Machine.execAliveToggle s
  | .heartbeat => Sys2Proof.Machine.execHeartbeat s
  | .wedged => Sys2Proof.Machine.execWedged s
  | .pollRefresh => Sys2Proof.Machine.execPollRefresh s
  | .clkFabLoss => Sys2Proof.Machine.execClkFabLoss s
  | .clkRegLoss => Sys2Proof.Machine.execClkRegLoss s
  | .aoClockStop => Sys2Proof.Machine.execAoClockStop s
  | .refresh hot array row copied ecc => Sys2Proof.Machine.execRefresh hot array row copied ecc s
  | .safeEntry parity completes => Sys2Proof.Machine.execSafeEntry parity completes s
  | .lastGasp => Sys2Proof.Machine.execLastGasp s
  | .idleEntry => Sys2Proof.Machine.execIdleEntry s
  | .entryAttempt => Sys2Proof.Machine.execEntryAttempt s
  | .entryRetry => Sys2Proof.Machine.execEntryRetry s
  | .entryDrainComplete => Sys2Proof.Machine.execEntryDrainComplete s
  | .entryDeliveryTimeout => Sys2Proof.Machine.execEntryDeliveryTimeout s
  | .entryCommit => Sys2Proof.Machine.execEntryCommit s
  | .sbFrameAbandonBothRails => Sys2Proof.Machine.execSbFrameAbandonBothRails s
  | .aoEdgeSeenAgain => Sys2Proof.Machine.execAoEdgeSeenAgain s

end Sys2Proof.Machine
end

