-- ==== Sys2Proof/Machine/Step.lean ====
section
/-! DEFINITION. One step: the command at the front of the queue, or a clock edge while none waits (assumption log 2). -/

namespace Sys2Proof.Machine

/-- The state with a queue of commands. -/
def State.withPending (s : State) (q : List Instr) : State := { s with pending := q }

/-- One step of the block. -/
def step (s : State) : Host.Outcome State Fault Refusal :=
  match s.pending with
  | [] => .next (clockEdge s)
  | c :: q => exec c (s.withPending q)

/-- The state with the command that a word spells put at the front of its queue. -/
def State.withFetchWord (s : State) (nbits w : Nat) : State :=
  match decodeTableWord nbits w with
  | some c => s.withPending (c :: s.pending)
  | none => s

end Sys2Proof.Machine
end

