-- ==== Sys2Proof/Safety.lean ====
section
/-! DEFINITION. What counts as a safe state of the block: the invariants that every step keeps, in the terms that claims use. -/

namespace Sys2Proof.Machine

/-- Awake, not in IDLE and with no entry attempt under way: activity then changes nothing but the instant at which Ivsyn was last busy (R280, R284). -/
def calm (s : State) : Bool := awake s && decide (s.md.mode ≠ .idle) && s.pw.entry.isNone && !s.pw.due

/-- The credits that the switch holds on a lane and the slots that beats of the lane occupy (R46). -/
def laneSum (s : State) (l : Fin 4) : Nat := s.vat.credits[l] + (s.vat.slots.filter fun x => decide (x.lane = l)).length

/-- Outside SAFE every one of a lane's 2,048 credits is with the switch or with an occupied slot (R46, R122). -/
def CreditsWhole (s : State) : Prop := s.md.mode ≠ .safe → ∀ l : Fin 4, laneSum s l = 2048

/-- What SAFE leaves empty (R34, R268, R324): ENGINE_EN is 0, every vat slot is FREE, no event is held, and both proposals are EMPTY. -/
def SafeCleared (s : State) : Prop :=
  s.md.mode = .safe → s.md.engineEn = false ∧ s.vat.slots = [] ∧ s.vs.vecs = [] ∧ s.dcM.st = .empty ∧ s.dcS.st = .empty

/-- In REST and DORMANT local time stands at the value saved at entry (R239, R245). -/
def SleepHeld (s : State) : Prop := sleeping s = true → s.tm.now = s.tm.tEntry

/-- The cells of local ring memory are in their canonical form. -/
def MemoryCanonical (s : State) : Prop := Memory.wf s.ts.lmem = true

/-- What DORMANT restores is what stands: from the save on, the retention set shows the fence and the lock bits in force (R288, R292 step 3); and
the flags of IV_FLT_SUM leave the place of FENCED free (R319, R320). -/
def RetentionTrue (s : State) : Prop :=
  fld s.flt.sum.flags 14 2 = (0 : BitVec 2)
  ∧ (s.md.mode = .dormant ∨ (s.md.mode = .rest ∧ ∃ e, s.pw.entry = some e ∧ e.step = .askedDormant) →
    fld (s.pw.ret.getD 26 0) 14 2 = s.flt.fenced ∧ fld (s.pw.ret.getD 3 0) 0 8 = s.md.lock)

/-- While a plane is fenced the other ranks alone, so no round waits for a self-test of both (R165, R322). -/
def FenceSettled (s : State) : Prop := s.flt.fenced ≠ 0 → s.flt.selfTest = none

/-- No committed change of a descriptor, a target group or a coalescing group waits, so what a command does reaches no boundary of theirs
(R173, R184, R227). -/
def noWaits (s : State) : Bool :=
  (s.ts.targets.all fun e => e.2.changes.isEmpty) && (s.ts.groups.all fun e => e.2.changes.isEmpty)
    && s.ts.couches.all fun e => e.2.changes.isEmpty

/-- The next round of a lane considers a vector at once: none comes before it, no outcome of its record waits, and nothing of it has to be read
first (R131, R142, R156, R316). -/
def roundReady (s : State) (h : Nat) : Bool :=
  (laneAhead s h).isEmpty && (risen s h).isEmpty && (vecOf s h).outcome.isNone && !reloading s h && !isSpilled s h

/-- The sideband between two frames: no bit of a request has passed, and no response waits (R77, R83). -/
def sbIdle (s : State) : Bool := !sbBusy s && s.ao.sb.tx.isEmpty && !s.ao.sb.resetDue

/-- No fault is armed, held or in force: a ranking round and a read run as R143 and R130 say. -/
def undisturbed (s : State) : Bool := s.flt.inject.isNone && s.flt.selfTest.isNone && s.flt.fatal.isNone

/-- The commands that reset Ivsyn (R86, R87). -/
def resets (i : Instr) : Bool :=
  match i with
  | .porstFall => true
  | .porstRelease _ _ => true
  | .blockResetComplete _ _ => true
  | _ => false

/-- The command is the power controller's acknowledge. -/
def acknowledges (i : Instr) : Bool :=
  match i with
  | .pwrAck _ => true
  | _ => false

/-- An acknowledge leaves retention whole: it is not that of OFF, and no retention is lost in the present sleep (R293, R326). -/
def keepsRetention (s : State) : Bool :=
  !retentionLost s && (match s.pw.entry with
    | some e => decide (e.step ≠ .askedOff)
    | none => true)

/-- The command is a power-on reset, or powers Ivsyn up out of OFF: the wake pin there, or the acknowledge of OFF where the pin has asked by then
(R75, R86, R278 row 2, R284). -/
def powersUp (i : Instr) (s : State) : Bool :=
  match i with
  | .porstFall => true
  | .porstRelease _ _ => true
  | .wakePin => decide (s.md.mode = .off)
  | .pwrAck _ => decide (s.pw.wakeReq = some 1) && (match s.pw.entry with
    | some e => decide (e.step = .askedOff)
    | none => false)
  | _ => false

/-- A safe state: every invariant holds. -/
structure Safe (s : State) : Prop where
  credits : CreditsWhole s
  cleared : SafeCleared s
  held : SleepHeld s
  memory : MemoryCanonical s
  retained : RetentionTrue s
  fence : FenceSettled s

end Sys2Proof.Machine
end

