-- ==== Sys2Proof/Certificates/Slice0/Obligations.lean ====
section
/-! DEFINITION. The statements for the provers: what every step keeps, and for every command the state it answers. In them
`activity s false` is the state after the activity that a write is (R280, R284); where s is calm it is `noteBusy s`, which differs from s only in
the instant at which Ivsyn was last busy. `portDone x p` is x with the answer that port p drives at a write that completes (R36), and
`portsDead s = false` says that the register ports answer: no port answers in OFF and power-on reset, or once IV_CLK_REG has stopped (R312, R385).
Where a clause says that a command which comes without its occasion changes nothing (a timed row before its instant, an outcome nobody awaits), that
is the model's choice (assumption log 1): so in the statements on quarantine, on the aperture's copies, on rounds and the self-test, on egress
outcomes, batches, coalescing and refills, on the furnish operations, on supply, clocks, signs of life, resets, IDLE, SAFE and refreshes. -/

open Sys2Proof Sys2Proof.Machine

/-! ### The queue and the machine as a whole -/

/-- A step takes the command at the front of the queue and runs it on the state with the rest of the queue. -/
def Obligations.StepTakesTheFrontCommand : Prop :=
  ∀ (s : State) (c : Instr) (q : List Instr), step { s with pending := c :: q } = exec c { s with pending := q }

/-- The model's choice (assumption log 2): on an empty queue a step is one clock edge, and which clock's is a free value (log 7). An edge of IV_CLK_AO
advances the AO count (R248), takes the heartbeat token (R328), advances an estimate of local time by the AO tick (R245), counts an AO tick without a
transition of a sideband frame in progress (R81), and brings the crossings into IV_CLK_REG to agree (log 48); a write of an AO register that waited
for it acts (R307, log 67). A cycle of IV_CLK_FAB is counted (R240), and from the first accepted value on it runs local time on by 0.5 ns from the value
that it is interpolated from, up to 7 ns above an accepted value (R235) and up to the next value of an estimate (R245). -/
def Obligations.EmptyQueueIsOneClockEdge : Prop :=
  ∀ s : State,
    (s.pending = [] → step s = .next (aoClock { s with free := s.free + 1 }) ∨ step s = .next (fabCycle { s with free := s.free + 1 }))
    ∧ (mute s = false → s.tm.aoStopped = false →
      (s.ao.heldPuts = [] → (aoClock s).pending = s.pending ∧ (aoClock s).tm.aoCount = s.tm.aoCount + 1 ∧ (aoClock s).ao.token = false
        ∧ (aoClock s).ao.missed = (if s.ao.token then 0 else if ranking s then s.ao.missed + 1 else 0)
        ∧ (aoClock s).ao.sb.quiet = (if sbBusy s then s.ao.sb.quiet + 1 else 0) ∧ (.regTime, 0) ∉ (aoClock s).flt.cdc ∧ (aoClock s).flt.timeHeld = none
        ∧ (s.tm.estimated = false ∨ s.tm.accepted = false ∨ timeRuns s = false → (aoClock s).tm.now = s.tm.now)
        ∧ (s.tm.estimated = true → s.tm.accepted = true → timeRuns s = true →
            65536 * (aoClock s).tm.base + (aoClock s).tm.estFrac.toNat = 65536 * s.tm.base + s.tm.estFrac.toNat + s.tm.aoCal.toNat
            ∧ (aoClock s).tm.now = max s.tm.now (aoClock s).tm.base ∧ (aoClock s).tm.cycles = 0)
        ∧ (aoClock s).md = s.md ∧ (aoClock s).ctl = s.ctl ∧ (aoClock s).vs = s.vs ∧ (aoClock s).ts = s.ts ∧ (aoClock s).vat = s.vat)
      ∧ (∀ x, s.ao.heldPuts = [x] → s.ao.resetting = false →
        aoClock s = aoAct { aoEdge s with ao := { (aoEdge s).ao with heldPuts := [] } } x.form x.a x.w x.addr))
    ∧ (fabRuns s = true → (fabCycle s).tm.fab = s.tm.fab + 1
      ∧ (s.tm.accepted = true → (fabCycle s).tm.cycles = min (s.tm.cycles + 1) (2 * fabRoom s)
        ∧ (fabCycle s).tm.now = max s.tm.now (s.tm.base + (fabCycle s).tm.cycles / 2)
        ∧ (s.tm.estimated = false → (fabCycle s).tm.now ≤ max s.tm.now (s.tm.base + 7)))
      ∧ (s.tm.accepted = false → (fabCycle s).tm.now = s.tm.now ∧ (fabCycle s).tm.cycles = s.tm.cycles)
      ∧ fabCycle s = { s with tm := { s.tm with now := (fabCycle s).tm.now, cycles := (fabCycle s).tm.cycles, fab := (fabCycle s).tm.fab } })
    ∧ (fabRuns s = false → fabCycle s = s)

/-- The model's choice (assumption logs 6 and 1): every command answers a next state in every state, one that names an unknown tag or comes without its
occasion among them, and leaves the queue as it finds it. -/
def Obligations.EveryCommandCompletes : Prop :=
  ∀ (i : Instr) (s : State), ∃ t, exec i s = .next t ∧ t.pending = s.pending

/-- The state after power-on reset is safe: each lane holds its 2,048 credits, and memory is in its canonical form. -/
def Obligations.ResetIsSafe : Prop := Safe State.reset

/-- The reset values that R362 gives to registers of the control window. -/
def Obligations.ResetRegisters : Prop :=
  ctlWord State.reset = 0x0000001E ∧ arbCtlWord State.reset = 0x00082002 ∧ dlvWdogWord State.reset = 0x080003E8
    ∧ couchCtlWord State.reset = 0x00000101 ∧ energyWord State.reset = 0x00000064 ∧ fltPolicyWord State.reset = 0x00000003
    ∧ aliveCtlWord State.reset = 0x00000064 ∧ pwrCtlWord State.reset = 0 ∧ lockWord State.reset = 0 ∧ modeWord State.reset = 0x00000404
    ∧ State.reset.tm.aoCal = 0x77359400 ∧ State.reset.ctl.dcWindow = 0x07D0 ∧ statusWord State.reset = 0 ∧ fltSumWord State.reset = 0

/-! ### What every step keeps -/

/-- Every step keeps local ring memory in its canonical form. -/
def Obligations.StepKeepsMemoryCanonical : Prop := ∀ s t : State, step s = .next t → MemoryCanonical s → MemoryCanonical t

/-- Every step keeps the sum of credits and occupied slots of each lane at 2,048 outside SAFE. -/
def Obligations.StepKeepsCreditsWhole : Prop := ∀ s t : State, step s = .next t → CreditsWhole s → CreditsWhole t

/-- Every step keeps empty what SAFE leaves empty, keeps local time at the value saved at entry while Ivsyn sleeps, keeps the retention set that
DORMANT restores at the fence and the lock bits in force, and lets no round wait for a self-test of both planes while one is fenced. -/
def Obligations.StepKeepsSafeAndSleep : Prop :=
  ∀ s t : State, step s = .next t → (SafeCleared s → SafeCleared t) ∧ (SleepHeld s → SleepHeld t)
    ∧ (RetentionTrue s → RetentionTrue t) ∧ (RetentionTrue s → FenceSettled s → FenceSettled t)

/-- Without a reset, the power-up out of OFF among them, SAFE is not left; and where retention is kept, a lock bit that is set stays set, and once a
plane is fenced FENCED keeps its value. OFF and a loss of retention keep neither. -/
def Obligations.OnlyResetsUndo : Prop :=
  ∀ (i : Instr) (s t : State), exec i s = .next t → resets i = false → powersUp i s = false →
    (s.md.mode = .safe → t.md.mode = .safe)
    ∧ ((acknowledges i = true → keepsRetention s = true) → RetentionTrue s →
      s.md.lock &&& t.md.lock = s.md.lock ∧ (s.flt.fenced ≠ 0 → FenceSettled s → t.flt.fenced = s.flt.fenced))

/-- Local time never decreases but for a power-on reset, the power-up out of OFF among them, and OFF. -/
def Obligations.LocalTimeNeverDecreases : Prop :=
  ∀ (i : Instr) (s t : State), exec i s = .next t → SleepHeld s → powersUp i s = false → t.md.mode = .off ∨ now s ≤ now t

/-- Activity is the last instant at which Ivsyn was not quiet. It returns Ivsyn from IDLE to SERVING and abandons an attempt that has not committed;
in a calm state it changes nothing else. -/
def Obligations.ActivityEndsIdleAndEntry : Prop :=
  ∀ s : State, (s.md.mode = .idle → (activity s false).md.mode = .serving ∧ (activity s false).pw.pwrState = 4
      ∧ (activity s false).md.seq = s.md.seq + 1 ∧ (activity s false).md.prev = .idle)
    ∧ (∀ e, s.pw.entry = some e → e.step = .draining ∨ e.step = .armed →
        (activity s false).pw.entry = none ∧ (activity s false).pw.retryAt = some (now s + 1000000))
    ∧ (calm s = true → ∀ beat, activity s beat = noteBusy s)
    ∧ (activity s false).ar.busyAt = now s
    ∧ (activity s false).ctl = s.ctl ∧ (activity s false).vs = s.vs ∧ (activity s false).ts = s.ts ∧ (activity s false).tm = s.tm

/-! ### Register port, security port and latching reads -/

/-- A management write of IV_DLV_WDOG, IV_COUCH_CTL, IV_ENERGY, IV_FLT_POLICY or IV_ALIVE_CTL that is not frozen puts each field of the word into the
register, and nothing else changes but what the activity and the port's answer are; the set, clear and toggle aliases of IV_DLV_WDOG put the bits that
the word sets, clears or toggles. A management write that changes a field of a frozen IV_DLV_WDOG leaves the register as it is and is reported in
IV_STATUS.CFGREJ and IV_CFG_REJECT; one that changes none is not reported. -/
def Obligations.RegisterWritesHonourTheLock : Prop :=
  (∀ (s : State) (w : Word), awake s = true → portsDead s = false →
    (frozenBy s lkArb = false → exec (.regWrite .mgmt 0x310 w) s = .next (portDone
      { activity s false with ctl := { (activity s false).ctl with maxResend := fld w 24 4, periodUs := fld w 0 20 } } .mgmt))
    ∧ (frozenBy s lkCouch = false → exec (.regWrite .mgmt 0x400 w) s = .next (portDone
      { activity s false with ctl := { (activity s false).ctl with elasticEn := w.getLsbD 8, couchEn := w.getLsbD 0 } } .mgmt))
    ∧ (frozenBy s lkPower = false → exec (.regWrite .mgmt 0x644 w) s = .next (portDone
      { activity s false with ctl := { (activity s false).ctl with nowakeLevel := fld w 16 3, graceUs := fld w 0 16 } } .mgmt))
    ∧ (frozenBy s lkFault = false → exec (.regWrite .mgmt 0x710 w) s = .next (portDone
      { activity s false with ctl := { (activity s false).ctl with deferFatal := w.getLsbD 4, aperWerrFatal := w.getLsbD 1,
                                                                   degradeEn := w.getLsbD 0 } } .mgmt))
    ∧ (frozenBy s lkAlive = false → exec (.regWrite .mgmt 0x718 w) s = .next (portDone
      { activity s false with ctl := { (activity s false).ctl with halfUs := fld w 0 16 } } .mgmt))
    ∧ (∀ f : Form, frozenBy s lkArb = false → exec (.regWrite .mgmt (BitVec.ofNat 22 (aliasOff f + 0x310)) w) s = .next (portDone
      { activity s false with ctl := { (activity s false).ctl with maxResend := fld (formValue f (dlvWdogWord s) w) 24 4,
                                                                   periodUs := fld (formValue f (dlvWdogWord s) w) 0 20 } } .mgmt)))
  ∧ (∀ (s : State) (w : Word), awake s = true → portsDead s = false → frozenBy s lkArb = true →
    exec (.regWrite .mgmt 0x310 w) s = .next (portDone
      (if (dlvWdogWord s ^^^ w) &&& 0x0F0FFFFF = 0 then activity s false
       else { activity s false with status := (activity s false).status.raise stCfgRej,
                                    ctl := { (activity s false).ctl with cfgCount := satAdd s.ctl.cfgCount 1, cfgOffset := 0xC4 } }) .mgmt))

/-- A misaligned access has no effect on a register: the fabric manager and the security controller get an error response with zero data, and a
tenant's access is denied and counted, and reads zero, while Ivsyn is awake. The guard ends an access at any port with an error response and zero data in
every mode but OFF, SAFE included, and sets IV_STATUS.HUNG, in REST and DORMANT at the wake (assumption log 65); it does not end a write that the front
end holds for a full queue. -/
def Obligations.ErrorResponses : Prop :=
  (∀ (s : State) (addr : BitVec 22) (w : Word) (n : BitVec 12), awake s = true → portsDead s = false → addr.toNat % 4 ≠ 0 →
    exec (.regWrite .mgmt addr w) s = .next { s with io := { s.io with rdata := 0, err := true } }
    ∧ exec (.regWrite .sec addr w) s = .next { s with io := { s.io with secRdata := 0, secErr := true } }
    ∧ exec (.regWrite (.tenant n) addr w) s = .next (portDone (denied (activity s false) n.toNat) (.tenant n))
    ∧ exec (.timeLoRead ⟨.mgmt, addr⟩) s = .next { s with io := { s.io with rdata := 0, err := true } }
    ∧ exec (.timeLoRead ⟨.sec, addr⟩) s = .next { s with io := { s.io with secRdata := 0, secErr := true } }
    ∧ exec (.timeLoRead ⟨.tenant n, addr⟩) s = .next (portAnswer (denied s n.toNat) (.tenant n) 0 false))
  ∧ (∀ (s : State) (p : Port), portsDead s = false →
    (sleeping s = false → p = .sec ∨ s.ao.resetting = false →
      exec (.accessGuardTimeout p) s = .next { portAnswer s p 0 true with status := s.status.raise stHung })
    ∧ (sleeping s = true → (p = .sec ∨ (s.pw.heldWrites = [] ∧ s.ao.resetting = false)) →
      exec (.accessGuardTimeout p) s = .next { portAnswer s p 0 true with pw := { s.pw with hungs := s.pw.hungs + 1 } })
    ∧ (p ≠ .sec → s.ao.resetting = true ∨ (sleeping s = true ∧ s.pw.heldWrites ≠ []) → exec (.accessGuardTimeout p) s = .next s))

/-- The state after a tenant's write that is denied while Ivsyn is awake. -/
def deniedAt (s : State) (n : BitVec 12) : State := portDone (denied (activity s false) n.toNat) (.tenant n)

/-- A tenant's write at a target window whose TD TENANT is not its own changes nothing of the target: it is activity, is counted in IV_TW_DENIED and
sets the DENIED flag. -/
def Obligations.DeniedWriteIsCounted : Prop :=
  ∀ (s : State) (n : BitVec 12) (t : BitVec 16) (w : Word), awake s = true → portsDead s = false → targetReach s (.tenant n) t.toNat = false →
    exec (.tEoi (.tenant n) t w) s = .next (deniedAt s n) ∧ exec (.tHead (.tenant n) t w) s = .next (deniedAt s n)
    ∧ exec (.tHint (.tenant n) t w) s = .next (deniedAt s n) ∧ exec (.tRearm (.tenant n) t w) s = .next (deniedAt s n)
    ∧ exec (.tCprio (.tenant n) t w) s = .next (deniedAt s n)
    ∧ (tnOf (deniedAt s n) n.toNat).denied = (tnOf s n.toNat).denied + 1
    ∧ (tnOf (deniedAt s n) n.toNat).status.has twDenied = true
    ∧ (deniedAt s n).ts.targets = s.ts.targets ∧ (deniedAt s n).vs = s.vs

/-- The seq-clear register of a name. -/
def scOf (s : State) (r : ScReg) : Sc :=
  match r with
  | .status => s.status
  | .furnStatus => s.fu.status
  | .ea u => (eaOf s u).status
  | .tw n => (tnOf s n.toNat).status
  | .dc p => (dcOf s p).status
  | .fltSum => s.flt.sum

/-- A seq-clear write, at each seq-clear register and through each port that reaches it (party S's status at the security port, every other one at the
register port), clears the flags whose bits are 1 where its SEQ equals the register's, and nothing where it does not; SEQ stays, and so do the other
seq-clear registers. What the write does as activity is left to that statement. -/
def Obligations.SeqClearNeedsItsSeq : Prop :=
  ∀ (s : State) (p : Port) (r : ScReg) (w : Word), awake s = true → portsDead s = false →
    (r = .dc .S ∧ p = .sec) ∨ (r ≠ .dc .S ∧ scReach s p r = true) → let a := activity s false
    ∃ t, exec (.seqClear p r w) s = .next t
      ∧ (fld w 24 8 = (scOf a r).seq → scOf t r = { seq := (scOf a r).seq, flags := (scOf a r).flags &&& ~~~(fld w 0 24) })
      ∧ (fld w 24 8 ≠ (scOf a r).seq → scOf t r = scOf a r)
      ∧ (∀ q, q ≠ r → scOf t q = scOf a q)
      ∧ t.md = a.md ∧ t.ctl = a.ctl ∧ t.cnt = a.cnt ∧ t.tm = a.tm ∧ t.vat = a.vat ∧ t.vs = a.vs ∧ t.ts.targets = a.ts.targets ∧ t.ts.lmem = a.ts.lmem

/-- SEQ advances by 1, modulo 256, at every hardware set of a flag, one that already reads 1 included. A clear with the SEQ of an earlier read does
nothing after any number of sets that is no multiple of 256, and succeeds after 256 of them. -/
def Obligations.SeqAdvancesAtEachSet : Prop :=
  ∀ (r : Sc) (fs : List Nat) (w : Word),
    (fs.foldl Sc.raise r).seq = r.seq + BitVec.ofNat 8 fs.length
    ∧ (fld w 24 8 = r.seq → fs.length % 256 ≠ 0 → (fs.foldl Sc.raise r).clear w = fs.foldl Sc.raise r)
    ∧ (fld w 24 8 = r.seq → fs.length % 256 = 0 → (fs.foldl Sc.raise r).clear w =
        { seq := r.seq, flags := (fs.foldl Sc.raise r).flags &&& ~~~(fld w 0 24) })
    ∧ (∀ f, f < 24 → (fs.foldl Sc.raise r).has f = (r.has f || decide (f ∈ fs)))

/-- The state after the upper half of a target's active-priority mask is latched. -/
def amaskLatched (s : State) (t : Nat) : State :=
  { s with ts := { s.ts with targets := put s.ts.targets t { tgtOf s t with amaskLatch := fld (tgtOf s t).amask 32 32 } } }

/-- A read of the low half of local time, of the elapsed time or of an active-priority mask answers that half and latches the upper one, each port in
its own latch; nothing else changes. While its crossing is in deferred fault the elapsed time is the last accepted one. A read of another register drives what it reads as and changes nothing else. -/
def Obligations.LowHalfReadLatchesUpperHalf : Prop :=
  ∀ (s : State) (n : BitVec 16), live s = true → portsDead s = false →
    exec (.timeLoRead ⟨.mgmt, 0x500⟩) s = .next { s with tm := { s.tm with latchM := w32hi (seenTime s) },
                                                         io := { s.io with rdata := w32 (seenTime s), err := false } }
    ∧ exec (.timeLoRead ⟨.sec, 0x008⟩) s = .next { s with tm := { s.tm with latchS := w32hi (seenTime s) },
                                                          io := { s.io with secRdata := w32 (seenTime s), secErr := false } }
    ∧ exec (.sleepElapsedLoRead .mgmt) s = .next { s with tm := { s.tm with latchSleep := fld (seenElapsed s) 32 32 },
                                                          io := { s.io with rdata := fld (seenElapsed s) 0 32, err := false } }
    ∧ (find s.flt.regHeld 0x514 = none → seenElapsed s = s.tm.elapsed)
    ∧ (targetReach s .mgmt n.toNat = true → exec (.amaskLoRead .mgmt n) s = .next
        (portAnswer (amaskLatched s n.toNat) .mgmt (fld (tgtOf s n.toNat).amask 0 32) false))
    ∧ (∀ addr : BitVec 22, addr.toNat % 4 = 0 → addr.toNat < 0x200000 → addr ≠ 0x500 → addr ≠ 0x510 →
        exec (.timeLoRead ⟨.mgmt, addr⟩) s = .next { s with io := { s.io with rdata := portRead s .mgmt addr, err := false } })

/-! ### Message intake -/

/-- The command that presents a beat of a kind. -/
def beatCmd (k : BeatKind) (lane : Fin 4) (b : Beat) : Instr :=
  match k with
  | .memWrite => .memoryWriteBeat lane b
  | .assert => .assertIntx lane b
  | .deassert => .deassertIntx lane b
  | .rouse => .rouse lane b

/-- The handle that a beat names in its tenant's slice, where it names one (R117, R123). -/
def beatHandle (s : State) (b : Beat) : Option Nat :=
  match sliceOf s b.tenant.toNat with
  | none => none
  | some e => if b.off.toNat / 4 < e.vecCount then some (e.base + b.off.toNat / 4) else none

/-- A beat is resolved when it is taken: SERVING, and no re-form drain of its tenant; no injected row error waits (R122, R123, R321). -/
def resolvesAtOnce (s : State) (b : Beat) : Prop :=
  s.md.mode = .serving ∧ drainTenant s ≠ some b.tenant.toNat ∧ s.flt.inject = none

/-- The state after a beat has taken a slot in a state, with its arrival time, and a credit of its lane. -/
def slotTaken (s : State) (lane : Fin 4) (k : BeatKind) (b : Beat) (st : SlotSt) : State :=
  { noteBusy s with
      cnt := { s.cnt with ingress := s.cnt.ingress + 1, parked := s.cnt.parked + (if st = .parked then 1 else 0) },
      vat := { s.vat with slots := slotInsert { no := s.vat.taken, lane := lane, kind := k, beat := b, stamp := now s, st := st } s.vat.slots,
                          taken := s.vat.taken + 1, credits := s.vat.credits.set lane (s.vat.credits[lane] - 1) } }

/-- A beat that passes the structure-free checks takes a slot with its arrival time and a credit of its lane, and INGRESS counts it. It is parked, and
PARKED counts it, where the mode is not SERVING or its tenant is in re-form drain with fewer than 1,024 parked messages. Else it is resolved: it is
CHECKED with the snapshot of its vector's entry, and its vector waits for a round, where the entry is on chip, VALID, and accepts the beat's kind,
tenant and origin; and it is in FETCHING where the entry is off chip, which is then read, or where its row is being reloaded. -/
def Obligations.BeatsAreParkedOrResolved : Prop :=
  ∀ (s : State) (lane : Fin 4) (k : BeatKind) (b : Beat), calm s = true → k ≠ .rouse → freeReason k b = 0 → s.vat.credits[lane] ≠ 0 →
    s.vat.slots.length + 1 < 8192 →
    (s.md.mode ≠ .serving ∨ drainTenant s = some b.tenant.toNat → (drainTenant s = some b.tenant.toNat → parkedOf s b.tenant < 1024) →
      exec (beatCmd k lane b) s = .next (slotTaken s lane k b .parked))
    ∧ (∀ h, resolvesAtOnce s b → beatHandle s b = some h →
      (vteOn s h = none → ∃ t, exec (beatCmd k lane b) s = .next t ∧ t.vat = (slotTaken s lane k b (.fetching h)).vat
        ∧ t.cnt = (slotTaken s lane k b (.fetching h)).cnt ∧ apHas t (.vteRead h) = true ∧ t.vs = s.vs ∧ t.ts = s.ts ∧ t.ctl = s.ctl ∧ t.md = s.md)
      ∧ (∀ v, vteOn s h = some v → reloading s h = true → exec (beatCmd k lane b) s = .next (slotTaken s lane k b (.fetching h)))
      ∧ (∀ v, vteOn s h = some v → reloading s h = false → v.cfg.valid = true → accepts v.cfg.kind k = true → v.cfg.tenant = b.tenant →
        originReason v.cfg b = 0 → ∃ t, exec (beatCmd k lane b) s = .next t ∧ t.vat = (slotTaken s lane k b (.checked h (snapOf v))).vat
          ∧ t.cnt = (slotTaken s lane k b (.checked h (snapOf v))).cnt ∧ h ∈ t.vs.queue ∧ t.vs.vecs = s.vs.vecs ∧ t.vs.vtes = s.vs.vtes
          ∧ t.ts.targets = s.ts.targets ∧ t.ts.lmem = s.ts.lmem ∧ t.ctl = s.ctl ∧ t.md = s.md))

/-- A beat leaves nothing inside: INGRESS counts it, and slots, credits, vectors and the control state stay. -/
def nothingInside (s t : State) : Prop :=
  t.cnt.ingress = s.cnt.ingress + 1 ∧ t.vat.slots = s.vat.slots ∧ t.vat.credits = s.vat.credits ∧ t.vs.vecs = s.vs.vecs ∧ t.vs.queue = s.vs.queue
    ∧ t.ts.targets = s.ts.targets ∧ t.ts.lmem = s.ts.lmem ∧ t.md = s.md ∧ t.ctl = s.ctl ∧ t.tm = s.tm

/-- A noise beat: NOISE counts it too, and IV_STATUS.NOISE sets; it is no stranger. -/
def isNoise (s t : State) : Prop :=
  nothingInside s t ∧ t.cnt.noise = s.cnt.noise + 1 ∧ t.status.has stNoise = true ∧ t.cnt.stranger = s.cnt.stranger

/-- The entry of a vector counts one more event dropped, and keeps its fields and its EPOCH. -/
def oneDropped (t : State) (h : Nat) (v : Vte) : Prop :=
  ∃ u, vteOn t h = some u ∧ u.dropped = v.dropped + 1 ∧ u.cfg = v.cfg ∧ u.epoch = v.epoch

/-- A Rouse beat is taken and consumed: INGRESS counts it, its credit returns, and no slot, noise or event comes of it. A beat is noise where it is
poisoned (a Rouse beat included), short, overlong or misaligned, where its tenant in re-form drain has 1,024 parked messages, where it names no entry of
its tenant's slice, or where its entry is not VALID or not of its kind; its credit returns, and a known entry counts it in DROPPED. So is a beat without
a credit, which returns none. A beat that fails the tenant or origin check is a stranger: its entry's DROPPED, IV_CNT_STRANGER, the sending tenant and its
port count it; the one that brings its port to 1,024 raises the port's quarantine request where QUAR_EN is 1 and none is raised. The order of the checks is
the model's reading (assumption log 40). -/
def Obligations.BeatsThatMakeNoEvent : Prop :=
  (∀ (s : State) (lane : Fin 4) (b : Beat), calm s = true → s.vat.credits[lane] ≠ 0 →
    b.poison = false → exec (.rouse lane b) s = .next
      { noteBusy s with cnt := { s.cnt with ingress := s.cnt.ingress + 1 }, vat := { s.vat with taken := s.vat.taken + 1 } })
  ∧ (∀ (s : State) (lane : Fin 4) (k : BeatKind) (b : Beat), calm s = true →
    (s.vat.credits[lane] = 0 → ∃ t, exec (beatCmd k lane b) s = .next t ∧ isNoise s t)
    ∧ (s.vat.credits[lane] ≠ 0 → freeReason k b ≠ 0 → ∃ t, exec (beatCmd k lane b) s = .next t ∧ isNoise s t ∧ t.vs = s.vs)
    ∧ (s.vat.credits[lane] ≠ 0 → k ≠ .rouse → freeReason k b = 0 → drainTenant s = some b.tenant.toNat → 1024 ≤ parkedOf s b.tenant →
      ∃ t, exec (beatCmd k lane b) s = .next t ∧ isNoise s t ∧ t.fu.discarded = s.fu.discarded + 1)
    ∧ (s.vat.credits[lane] ≠ 0 → k ≠ .rouse → freeReason k b = 0 → resolvesAtOnce s b →
      (beatHandle s b = none → ∃ t, exec (beatCmd k lane b) s = .next t ∧ isNoise s t ∧ t.vs = s.vs)
      ∧ (∀ h v, beatHandle s b = some h → vteOn s h = some v → reloading s h = false →
        (v.cfg.valid = false ∨ accepts v.cfg.kind k = false → ∃ t, exec (beatCmd k lane b) s = .next t ∧ isNoise s t ∧ oneDropped t h v)
        ∧ (v.cfg.valid = true → accepts v.cfg.kind k = true → v.cfg.tenant ≠ b.tenant ∨ originReason v.cfg b ≠ 0 →
          ∃ t, exec (beatCmd k lane b) s = .next t ∧ nothingInside s t ∧ oneDropped t h v ∧ t.cnt.noise = s.cnt.noise
            ∧ t.cnt.stranger = s.cnt.stranger + 1 ∧ t.status.has stStranger = true
            ∧ (tnOf t b.tenant.toNat).strangers = (tnOf s b.tenant.toNat).strangers + 1
            ∧ (tnOf t b.tenant.toNat).status.has twStranger = true
            ∧ (portOf t b.port.toNat).count = (portOf s b.port.toNat).count + 1
            ∧ (s.ctl.quarEn = true → (portOf s b.port.toNat).count = 1023 → (portOf s b.port.toNat).raised = false →
              (portOf t b.port.toNat).raised = true ∧ b.port ∈ t.vat.quar)
            ∧ (s.ctl.quarEn = false ∨ (portOf s b.port.toNat).count ≠ 1023 ∨ (portOf s b.port.toNat).raised = true →
              (portOf t b.port.toNat).raised = (portOf s b.port.toNat).raised ∧ t.vat.quar = s.vat.quar)))))

/-- A quarantine acknowledge withdraws the request that stands on the port, and the next one is presented; outside SERVING, DRAINING and IDLE no request
stands there, and an acknowledge does nothing. The end of the stranger window, at a new multiple of 1,048,576 ns, clears every port's count, and a
request stays raised only for a port that reached the limit; the end is taken once. -/
def Obligations.QuarantineRequestsAndCountsEnd : Prop :=
  (∀ s : State, live s = true → ranking s = true ∨ s.md.mode = .idle →
    exec .quarAck s = .next { s with vat := { s.vat with quar := s.vat.quar.drop 1 } })
  ∧ (∀ s : State, ranking s = false → s.md.mode ≠ .idle → quarReq s = none ∧ exec .quarAck s = .next s)
  ∧ (∀ s : State, awake s = true →
    (s.tm.ticks.stranger < now s / 1048576 → exec .strangerWindowEnd s = .next
      { s with tm := { s.tm with ticks := { s.tm.ticks with stranger := now s / 1048576 } },
               vat := { s.vat with ports := s.vat.ports.map fun e => (e.1, { count := 0, raised := e.2.raised && decide (1024 ≤ e.2.count) }) } })
    ∧ (now s / 1048576 ≤ s.tm.ticks.stranger → exec .strangerWindowEnd s = .next s))

/-! ### Entries and the aperture -/

/-- The fields that the words of a change name for a VTE; without a STAGE, those of the entry. -/
def namedCfg (c : Change) (e : Vte) : VteCfg :=
  match c.words with
  | some w => vteCfgOf w
  | none => e.cfg

/-- The fields that the entry has after a change, by the rules of its caller. -/
def appliedCfg (s : State) (h : Nat) (c : Change) (e : Vte) : VteCfg :=
  match c.words with
  | some w => vteTake s h c.caller e.cfg (vteCfgOf w)
  | none => e.cfg

/-- EPOCH advances by 1 at every APPLY that completes on a VTE, whoever asks and even if no bit changes; a refused one leaves the entry as it is, as
does one of a tenant to whom the entry does not belong, and the hardware's updates of DROPPED and DELIVERED leave EPOCH. The refused clause covers an
APPLY with nothing staged too: that it is refused, where the entry as it stands fails the checks of R120, is the model's reading (assumption log 78;
R255 by itself lets an APPLY with nothing staged complete with DONE). -/
def Obligations.EpochAdvancesAtEachApply : Prop :=
  ∀ (s : State) (h : Nat) (c : Change) (e : Vte), vteOn s h = some e →
    (callerForeign c e.cfg = true → ∃ t, vteApply s h c = some t ∧ vteOn t h = some e)
    ∧ (callerForeign c e.cfg = false → vteWaits s h e (appliedCfg s h c e) = false →
      (vteCheck s h (appliedCfg s h c e) (retires s h c.caller (namedCfg c e)) = true →
        ∃ t v, vteApply s h c = some t ∧ vteOn t h = some v ∧ v.epoch = e.epoch + 1 ∧ v.cfg = appliedCfg s h c e)
      ∧ (vteCheck s h (appliedCfg s h c e) (retires s h c.caller (namedCfg c e)) = false →
        ∃ t, vteApply s h c = some t ∧ vteOn t h = some e))
    ∧ (∀ n, ∃ v, vteOn (addDropped s h n) h = some v ∧ v.epoch = e.epoch ∧ v.cfg = e.cfg)
    ∧ (∀ x, ∃ v, vteOn (acceptOne x s h) h = some v ∧ v.epoch = e.epoch ∧ v.cfg = e.cfg)

/-- A VTE that returns with a right CRC is installed on chip with the fields of the returned words, and its tag is free again. It is installed with what
was counted against it while it was off chip too, which is the model's reading (assumption log 19); wired vectors are always on chip, and READs and
FENCEs that wait for the entry are left out here. -/
def Obligations.VteReturnIsInstalled : Prop :=
  ∀ (s : State) (tag : BitVec 8) (w : Words8) (h : Nat) (r : AperReq), awake s = true → undisturbed s = true →
    tagOf s.ap.reqs tag = some r → r.write = false → r.purpose = .vteRead h → vteCrcOk w = true → 4096 ≤ h → s.vs.ring.length < 61440 →
    fetchingOf s h = [] → (vecOf s h).changes = [] → readingUnits s h = [] → s.ap.waiting = [] →
    (∀ u ∈ units s, (eaOf s u).busy ≠ some (.fenceRead h)) →
    ∃ t, exec (.vteReadReturn tag w) s = .next t ∧ vteOn t h = some (vteOwed s h (vteOf w)) ∧ tagOf t.ap.reqs tag = none
      ∧ (∀ k, k ≠ h → vteOn t k = vteOn s k) ∧ t.vs.vecs = s.vs.vecs ∧ t.vat = s.vat ∧ t.ts = s.ts ∧ t.ctl = s.ctl ∧ t.md = s.md

/-- While the aperture is mirrored, an error of a read at the copy in use, a read timeout, or a write error at a copy makes the other copy the sole
aperture; it is counted as one corrected fault and sets the failover flag. A read timeout comes 10 µs after the read's issue. The completion of a
write at the last copy that it went to frees its tag. A write of RESYNC with one copy in use and MIRROR_EN starts the copying, and its completion, once
no copying is outstanding, leaves both copies in use. That the secondary in use also fails over, and RESYNC_PCT at the start, are the model's reading
(assumption log 26). The 10 µs are 20,000 cycles of IV_CLK_FAB (R240), and how the model counts these cycles is its choice (assumption log 72). -/
def Obligations.ApertureCopiesFailAndReturn : Prop :=
  (∀ (s : State) (tag : BitVec 8) (r : AperReq) (i : Instr), awake s = true → dualWrites s = true → tagOf s.ap.reqs tag = some r →
    s.pw.entry = none → s.fu.stored = none →
    ((i = .apertureReadError tag ∨ (i = .apertureReadTimeout tag ∧ r.since + 20000 ≤ s.tm.fab)) ∧ r.write = false →
      ∃ t, exec i s = .next t ∧ t.ap.state = 1 ∧ t.ap.readSec = !s.ap.readSec ∧ t.flt.corr = satAdd s.flt.corr 1
        ∧ t.flt.sum.has 6 = true ∧ t.ts = s.ts ∧ t.vs = s.vs ∧ t.ctl = s.ctl)
    ∧ (s.tm.fab < r.since + 20000 → exec (.apertureReadTimeout tag) s = .next s)
    ∧ (∀ c, i = .apertureWriteError tag c ∧ r.write = true ∧ awaits r c = true →
      ∃ t, exec i s = .next t ∧ t.ap.state = 1 ∧ t.ap.readSec = decide (c = .primary) ∧ t.flt.corr = satAdd s.flt.corr 1
        ∧ t.flt.sum.has 6 = true ∧ t.ts = s.ts ∧ t.vs = s.vs ∧ t.ctl = s.ctl))
  ∧ (∀ (s : State) (tag : BitVec 8) (c : Copy) (r : AperReq), live s = true → tagOf s.ap.reqs tag = some r → r.write = true →
    awaits r c = true → reqDone (copyDone r c) = true → isResync r.purpose = false → s.ap.waiting = [] → s.pw.entry = none →
    s.fu.stored = none →
    exec (.apertureWriteAck tag c) s = .next { noteBusy s with ap := { s.ap with reqs := tagErase s.ap.reqs tag } })
  ∧ (∀ s : State, awake s = true → portsDead s = false →
    (s.ap.state = 1 → s.ap.mirrorEn = true → frozenBy s lkAperture = false →
      ∃ t, exec .resync s = .next t ∧ t.ap.state = 3 ∧ t.ap.pct = 0 ∧ t.ap.readSec = s.ap.readSec ∧ t.ts = s.ts ∧ t.vs = s.vs ∧ t.ctl = s.ctl)
    ∧ (s.ap.state ≠ 1 → ∃ t, exec .resync s = .next t ∧ t.ap = s.ap ∧ t.status.has stCfgRej = true))
  ∧ (∀ s : State, awake s = true →
    (s.ap.state = 3 → copying s = false → ∃ t, exec .resyncComplete s = .next t ∧ t.ap.state = 2 ∧ t.ap.pct = 100 ∧ t.ap.readSec = s.ap.readSec
        ∧ t.ts = s.ts ∧ t.vs = s.vs ∧ t.ctl = s.ctl)
    ∧ (s.ap.state ≠ 3 ∨ copying s = true → exec .resyncComplete s = .next s))

/-! ### Ranking and delivery -/

/-- A round takes the one CHECKED message of a vector: it becomes the pending event, with the message's time and data and the deadline of its class,
or merges into the pending one; a LEVEL 1 vector that is not idle takes no edge event (assumption log 69). The slot frees and its credit returns. That
a merge never moves the deadline is R29's rule as read in assumption log 41. -/
def Obligations.RoundTakesTheMessage : Prop :=
  ∀ (s : State) (h : BitVec 24) (e : Vte) (x : Slot) (sn : Snap), rounding s = true → undisturbed s = true → s.ctl.ingressEn = true →
    noWaits s = true → 4096 ≤ h.toNat → vteOn s h.toNat = some e → e.cfg.valid = true → roundReady s h.toNat = true → checkedOf s h.toNat = [(x, sn)] →
    x.kind = .memWrite → sn.cfg.tenant = e.cfg.tenant → couchFor s e.cfg = none → (vecOf s h.toNat).changes = [] → (vecOf s h.toNat).eois = [] →
    (vecOf s h.toNat).oldGen = false → (vecOf s h.toNat).evNew = none →
    ((vecOf s h.toNat).ev = none → e.cfg.level = false ∨ (vecOf s h.toNat).active = none →
      ∃ t ev, exec (.rankingRound h .agree) s = .next t ∧ (vecOf t h.toNat).ev = some ev ∧ ev.count = 1
      ∧ ev.time = x.stamp ∧ ev.data = x.beat.data ∧ ev.deadline = deadlineOf s e.cfg.cls x.stamp ∧ ev.snap = snapOf e
      ∧ ev.truncated = decide (4 < x.beat.len.toNat) ∧ t.vat.slots = s.vat.slots.filter (fun y => (checkedAs h.toNat y).isNone)
      ∧ t.vat.credits[x.lane] = s.vat.credits[x.lane] + 1 ∧ (∀ k, k ≠ h.toNat → (vecOf t k).ev = (vecOf s k).ev) ∧ t.ts.lmem = s.ts.lmem
      ∧ h.toNat ∉ t.vs.queue ∧ t.md = s.md ∧ t.ctl = s.ctl ∧ t.tm = s.tm)
    ∧ (∀ p, e.cfg.level = true → (vecOf s h.toNat).ev = some p → ∃ t ev, exec (.rankingRound h .agree) s = .next t
      ∧ (vecOf t h.toNat).ev = some ev ∧ ev.count = p.count ∧ ev.time = p.time ∧ ev.data = p.data
      ∧ t.vat.slots = s.vat.slots.filter (fun y => (checkedAs h.toNat y).isNone) ∧ t.md = s.md ∧ t.ctl = s.ctl ∧ t.tm = s.tm)
    ∧ (∀ p, e.cfg.level = false → (vecOf s h.toNat).ev = some p → p.snap = snapOf e → ∃ t ev, exec (.rankingRound h .agree) s = .next t
      ∧ (vecOf t h.toNat).ev = some ev ∧ ev.count = min (p.count + 1) 65535 ∧ ev.time = min p.time x.stamp ∧ ev.data = x.beat.data
      ∧ ev.deadline = p.deadline ∧ ev.cls = p.cls ∧ t.vat.slots = s.vat.slots.filter (fun y => (checkedAs h.toNat y).isNone)
      ∧ t.md = s.md ∧ t.ctl = s.ctl ∧ t.tm = s.tm)

/-- A round that takes a level source's change has something to decide on: the core ranks without faults, nothing else waits for the vector, and its entry
is VALID with LEVEL 1 and lies in no coalescing group. -/
def levelReady (s : State) (h : Nat) (e : Vte) : Prop :=
  rounding s = true ∧ undisturbed s = true ∧ noWaits s = true ∧ s.ws.roundDue = false ∧ vteOn s h = some e ∧ e.cfg.valid = true ∧ e.cfg.level = true
    ∧ roundReady s h = true ∧ couchFor s e.cfg = none ∧ (vecOf s h).changes = [] ∧ (vecOf s h).oldGen = false ∧ (vecOf s h).evNew = none

/-- A level event that an assertion makes: one event, with a time, the entry's data and snapshot, and the deadline of its class. -/
def levelEvent (s t : State) (h : Nat) (e : Vte) (time : Nat) (still : Bool) : Prop :=
  ∃ ev, (vecOf t h).ev = some ev ∧ ev.count = 1 ∧ ev.time = time ∧ ev.data = e.cfg.data ∧ ev.snap = snapOf e ∧ ev.stillOn = still
    ∧ ev.deadline = deadlineOf s e.cfg.cls time

/-- The active record of a vector, apart from whether it is accepted. -/
def recordOf (s : State) (h : Nat) : Option (BitVec 16 × BitVec 6 × Ev) := (vecOf s h).active.map fun a => (a.target, a.prio, a.ev)

/-- A round takes an EOI: written at the target of the accepted active record it ends the record and clears the priority's bit in the target's active-
priority mask, and a LEVEL 1 vector whose source is still asserted is pending again, with the round's time; for a vector that has no active record the EOI
is stray and counted. A round takes a level change of a LEVEL 1 vector, from an Assert_INTx or Deassert_INTx message or from a wired level line: an
assertion makes an idle vector pending, with the message's arrival time or the round's time, leaves a pending event as it is, and is only noted by an
active vector; a deassertion withdraws a pending event, without a record or a count, is only noted by an active vector, and does nothing where no
assertion was noted. That an assertion's time is its message's stamp is the model's reading (assumption log 84). -/
def Obligations.RoundTakesEoisAndLevels : Prop :=
  (∀ (s : State) (h : BitVec 24) (e : Vte) (x : BitVec 16), rounding s = true → undisturbed s = true → noWaits s = true → 4096 ≤ h.toNat →
    vteOn s h.toNat = some e → e.cfg.level = false → roundReady s h.toNat = true → checkedOf s h.toNat = [] → couchFor s e.cfg = none →
    (vecOf s h.toNat).changes = [] → (vecOf s h.toNat).ev = none → (vecOf s h.toNat).evNew = none → (vecOf s h.toNat).eois = [x] →
    (∀ a, (vecOf s h.toNat).active = some a → a.target = x → a.accepted = true →
      ∃ t, exec (.rankingRound h .agree) s = .next t ∧ (vecOf t h.toNat).active = none ∧ (vecOf t h.toNat).eois = []
        ∧ (tgtOf t x.toNat).amask = clrBit (tgtOf s x.toNat).amask a.prio.toNat ∧ t.cnt = s.cnt ∧ t.vat = s.vat ∧ t.ts.lmem = s.ts.lmem
        ∧ t.md = s.md ∧ t.ctl = s.ctl ∧ t.tm = s.tm)
    ∧ ((vecOf s h.toNat).active = none →
      ∃ t, exec (.rankingRound h .agree) s = .next t ∧ t.cnt = { s.cnt with eoiStray := s.cnt.eoiStray + 1 } ∧ (vecOf t h.toNat).eois = []
        ∧ t.ts.targets = s.ts.targets ∧ t.vat = s.vat ∧ t.md = s.md ∧ t.ctl = s.ctl ∧ t.tm = s.tm)
    ∧ (∀ p, exec (.rankingRound h p) { s with md := { s.md with mode := .idle } } = .next { s with md := { s.md with mode := .idle } }))
  ∧ (∀ (s : State) (h : BitVec 24) (e : Vte) (a : Active), levelReady s h.toNat e → 4096 ≤ h.toNat → checkedOf s h.toNat = [] →
    (vecOf s h.toNat).ev = none → (vecOf s h.toNat).eois = [a.target] → (vecOf s h.toNat).active = some a → a.accepted = true →
    ∃ t, exec (.rankingRound h .agree) s = .next t ∧ (vecOf t h.toNat).active = none ∧ (vecOf t h.toNat).eois = []
      ∧ (tgtOf t a.target.toNat).amask = clrBit (tgtOf s a.target.toNat).amask a.prio.toNat
      ∧ ((vecOf s h.toNat).lineOn = true → levelEvent s t h.toNat e (now s) true)
      ∧ ((vecOf s h.toNat).lineOn = false → (vecOf t h.toNat).ev = none)
      ∧ t.cnt = s.cnt ∧ t.vat = s.vat ∧ t.ts.lmem = s.ts.lmem ∧ t.md = s.md ∧ t.ctl = s.ctl ∧ t.tm = s.tm)
  ∧ (∀ (s : State) (h : BitVec 24) (e : Vte) (x : Slot) (sn : Snap), levelReady s h.toNat e → 4096 ≤ h.toNat → s.ctl.ingressEn = true →
    checkedOf s h.toNat = [(x, sn)] → sn.cfg.tenant = e.cfg.tenant → (vecOf s h.toNat).eois = [] →
    x.kind = .assert ∨ x.kind = .deassert → ∃ t, exec (.rankingRound h .agree) s = .next t
      ∧ t.vat.slots = s.vat.slots.filter (fun y => (checkedAs h.toNat y).isNone) ∧ t.vat.credits[x.lane] = s.vat.credits[x.lane] + 1
      ∧ (vecOf t h.toNat).lineOn = decide (x.kind = .assert) ∧ recordOf t h.toNat = recordOf s h.toNat
      ∧ (x.kind = .assert → (vecOf s h.toNat).ev = none → (vecOf s h.toNat).active = none → levelEvent s t h.toNat e x.stamp false)
      ∧ (x.kind = .deassert ∨ (vecOf s h.toNat).active.isSome = true → (vecOf s h.toNat).ev = none → (vecOf t h.toNat).ev = none)
      ∧ (∀ p, (vecOf s h.toNat).ev = some p → x.kind = .assert ∨ (vecOf s h.toNat).active.isSome = true ∨ (vecOf s h.toNat).lineOn = false →
        ∃ ev, (vecOf t h.toNat).ev = some ev ∧ ev.count = p.count ∧ ev.time = p.time ∧ ev.data = p.data ∧ ev.deadline = p.deadline)
      ∧ (∀ p, x.kind = .deassert → (vecOf s h.toNat).lineOn = true → (vecOf s h.toNat).active = none → (vecOf s h.toNat).ev = some p →
        p.snap.cfg.level = true → (vecOf t h.toNat).ev = none ∧ (p.stream = none → t.cnt = s.cnt ∧ t.ar.flight = s.ar.flight))
      ∧ t.md = s.md ∧ t.ctl = s.ctl ∧ t.tm = s.tm)
  ∧ (∀ (s : State) (n : Fin 3840) (e : Vte), levelReady s n.val e → s.md.mode = .serving → e.cfg.kind = 0 → checkedOf s n.val = [] →
    (vecOf s n.val).eois = [] → ∃ t, exec (.rankingRound (BitVec.ofNat 24 n.val) .agree) s = .next t
      ∧ (vecOf t n.val).lineOn = (s.ws.high.getLsbD n.val != e.cfg.polarity) ∧ recordOf t n.val = recordOf s n.val
      ∧ (s.ws.high.getLsbD n.val ≠ e.cfg.polarity → (vecOf s n.val).lineOn = false → (vecOf s n.val).ev = none → (vecOf s n.val).active = none →
        levelEvent s t n.val e (now s) false)
      ∧ ((vecOf s n.val).active.isSome = true → (vecOf s n.val).ev = none → (vecOf t n.val).ev = none)
      ∧ (∀ p, s.ws.high.getLsbD n.val = e.cfg.polarity → (vecOf s n.val).lineOn = true → (vecOf s n.val).active = none → (vecOf s n.val).ev = some p →
        p.snap.cfg.level = true → (vecOf t n.val).ev = none ∧ (p.stream = none → t.cnt = s.cnt ∧ t.ar.flight = s.ar.flight))
      ∧ t.vat = s.vat ∧ t.md = s.md ∧ t.ctl = s.ctl ∧ t.tm = s.tm)

/-- The self-test of both planes: the plane that fails is fenced, one deferred fault; two that fail are the fatal fault 0x21, and two that pass
without a third agreement the fatal fault 0x20. -/
def Obligations.SelfTestDecides : Prop :=
  ∀ (s : State) (r : HeldRound) (a b c : Bool), rounding s = true → s.flt.selfTest = some r → s.flt.failPlane = 0 →
    (a ≠ b → s.ctl.degradeEn = true → s.ctl.deferFatal = false → s.flt.inject = none → ∃ t, exec (.selfTest a b c) s = .next t ∧ t.flt.fenced = (if a then 2 else 1)
      ∧ t.flt.defer = satAdd s.flt.defer 1 ∧ t.flt.sum.has 1 = true ∧ t.flt.sum.has 5 = true ∧ t.flt.selfTest = none ∧ t.flt.corr = s.flt.corr
      ∧ t.ctl = s.ctl ∧ t.tm = s.tm)
    ∧ (a ≠ b → s.ctl.degradeEn = false → ∃ t f, exec (.selfTest a b c) s = .next t ∧ t.flt.fatal = some f ∧ f.source = 0x23
      ∧ t.flt.fenced = s.flt.fenced ∧ t.vs = s.vs ∧ t.ts = s.ts)
    ∧ (∃ t f, exec (.selfTest false false c) s = .next t ∧ t.flt.fatal = some f ∧ f.source = 0x21 ∧ t.vs = s.vs ∧ t.ts = s.ts)
    ∧ (∃ t f, exec (.selfTest true true false) s = .next t ∧ t.flt.fatal = some f ∧ f.source = 0x20 ∧ t.vs = s.vs ∧ t.ts = s.ts)
    ∧ (s.flt.inject = none → ∃ t, exec (.selfTest true true true) s = .next t ∧ t.flt.corr = satAdd s.flt.corr 1 ∧ t.flt.selfTest = none ∧ t.flt.defer = s.flt.defer)
    ∧ exec (.selfTest a b c) { s with flt := { s.flt with selfTest := none } } = .next { s with flt := { s.flt with selfTest := none } }

/-- A stream has lost WAITLIM rounds (R210). -/
def atWaitLimit (s : State) (x : BitVec 16) : Prop := s.ctl.waitLim ≠ 0 ∧ s.ctl.waitLim.toNat ≤ (tgtOf s x.toNat).wait.toNat

/-- The stream of one target goes before that of another (R210): one at the wait limit before one that is not; else by the earlier deadline, the longer
wait, the lower target. -/
def goesBefore (s : State) (x y : BitVec 16) : Prop :=
  (atWaitLimit s x ∧ ¬ atWaitLimit s y)
  ∨ ((atWaitLimit s x ↔ atWaitLimit s y) ∧ (streamDeadline s x.toNat < streamDeadline s y.toNat
    ∨ (streamDeadline s x.toNat = streamDeadline s y.toNat ∧ ((tgtOf s y.toNat).wait.toNat < (tgtOf s x.toNat).wait.toNat
      ∨ ((tgtOf s x.toNat).wait = (tgtOf s y.toNat).wait ∧ x.toNat < y.toNat)))))

/-- The head event of a target's stream has been granted there. -/
def granted (s t : State) (x : BitVec 16) (h : Nat) (ev : Ev) : Prop :=
  (∃ a, (vecOf t h).active = some a ∧ a.target = x ∧ a.prio = ev.snap.cfg.prio) ∧ (vecOf t h).ev = none
    ∧ (tgtOf t x.toNat).amask.getLsbD ev.snap.cfg.prio.toNat = true ∧ t.md = s.md ∧ t.ctl = s.ctl ∧ t.tm = s.tm ∧ t.fu = s.fu

/-- A round grants the head event of one requesting stream: the event becomes the active record and its priority's mask bit sets. With a batch of one
record the write to a remote target is issued under a free tag, at the target's base plus 32 bytes a slot. Among several that request, the winner is the
one that goes before every other; its wait counter clears, and those of the others advance up to 255. While PREEMPT_EN is 0, a requesting stream whose write is open wins
whatever the others hold. The record of a stream whose write is open joins that write; a winner at another target first closes the open write, which
is issued with its own records. -/
def Obligations.RoundGrantsTheHead : Prop :=
  (∀ (s : State) (x : BitVec 16) (h : Nat) (ev : Ev), arbiterOn s = true → noWaits s = true → s.ar.open_ = none → s.ar.heap = [x] →
    s.ar.heapWait = [] → streamOf s x.toNat = [(h, ev)] → (vecOf s h).ev = some ev → requests s x.toNat = true →
    (∃ t, exec .arbiterRound s = .next t ∧ granted s t x h ev)
    ∧ (∀ tag, isLocal x.toNat = false → s.ctl.batchMax = 1 → s.ar.bells = [] → freeTag s.ar.flight = some tag →
      ∃ t w, exec .arbiterRound s = .next t ∧ tagOf t.ar.flight tag = some w ∧ w.doorbell = false ∧ w.target = x ∧ w.handles = [h]
        ∧ w.tenant = (tgtOf s x.toNat).tenant ∧ w.data.length = 32 ∧ t.ar.open_ = none ∧ t.ts.lmem = s.ts.lmem
        ∧ w.addr = ((tgtOf s x.toNat).baseHi ++ (tgtOf s x.toNat).baseLo) + BitVec.ofNat 64 (32 * (tgtOf s x.toNat).tail.toNat)))
  ∧ (∀ (s : State) (x : BitVec 16) (h : Nat) (ev : Ev), arbiterOn s = true → noWaits s = true → s.ar.heapWait = [] → s.ar.heap.Nodup → x ∈ s.ar.heap →
    (∀ y ∈ s.ar.heap, requests s y.toNat = true ∧ ∀ e ∈ streamOf s y.toNat, mayStay s e.2 y.toNat = true) → streamHead s x.toNat = some (h, ev) →
    let best : Prop := ∀ y ∈ s.ar.heap, y ≠ x → goesBefore s x y
    (s.ar.open_ = none → best → ∃ t, exec .arbiterRound s = .next t ∧ granted s t x h ev ∧ (tgtOf t x.toNat).wait = 0
      ∧ (∀ y ∈ s.ar.heap, y ≠ x → (tgtOf t y.toNat).wait = satAdd (tgtOf s y.toNat).wait 1) ∧ (∀ k, k ≠ h → (vecOf t k).ev = (vecOf s k).ev))
    ∧ (∀ w, s.ar.open_ = some w → w.target = x → s.ctl.preemptEn = false ∨ best → ∃ t, exec .arbiterRound s = .next t ∧ granted s t x h ev
      ∧ (isLocal x.toNat = false → (freeTag s.ar.flight).isSome = true → ∃ o : Out, o.h = h ∧ (t.ar.open_ = some { w with recs := w.recs ++ [o] }
        ∨ (t.ar.open_ = none ∧ ∃ tag f, tagOf t.ar.flight tag = some f ∧ f.doorbell = false ∧ f.target = x
          ∧ f.handles = (w.recs.map fun r => r.h) ++ [h]))))
    ∧ (∀ w, s.ar.open_ = some w → w.target ≠ x → s.ctl.preemptEn = true → best → isLocal w.target.toNat = false → (freeTag s.ar.flight).isSome = true →
      ∃ t tag f, exec .arbiterRound s = .next t ∧ granted s t x h ev ∧ tagOf t.ar.flight tag = some f ∧ f.doorbell = false ∧ f.target = w.target
        ∧ f.handles = w.recs.map fun r => r.h))

/-- An accepted record write frees its tag, advances TAIL and SEQ of its target by its records and counts them in DELIVERED. A refused one sets
UNREACH, its record is pending again with its time and deadline, and the mask bit clears. Nothing waits in the lanes before the outcome, whose place among
a lane's inputs is the model's reading (assumption log 64), and no lane stands; that a refused record whose level has deasserted, or whose entry has
VALID 0 by then, returns too is its reading also (assumption log 62). A TAIL that reaches the end of the ring is left out here. -/
def Obligations.EgressOutcomesSettleTheWrite : Prop :=
  ∀ (s : State) (tag : BitVec 8) (w : EgWrite), live s = true → s.md.engineEn = true → noWaits s = true → s.ar.bells = [] →
    tagOf s.ar.flight tag = some w → w.void = false → undisturbed s = true →
    (∀ h ∈ w.handles, ∀ k ∈ s.vs.queue, sameLane h k = false) →
    (w.doorbell = false → ∃ t, exec (.egressAccept tag) s = .next t ∧ tagOf t.ar.flight tag = none
      ∧ t.cnt.delivered = s.cnt.delivered + w32 w.handles.length ∧ (tgtOf t w.target.toNat).seq = (tgtOf s w.target.toNat).seq + w32 w.handles.length
      ∧ ((tgtOf s w.target.toNat).tail.toNat + w.handles.length < ringSize w.target.toNat (tgtOf s w.target.toNat) →
          (tgtOf t w.target.toNat).tail = (tgtOf s w.target.toNat).tail + BitVec.ofNat 20 w.handles.length)
      ∧ (tgtOf t w.target.toNat).head = (tgtOf s w.target.toNat).head ∧ t.ts.lmem = s.ts.lmem ∧ t.vat = s.vat ∧ t.md = s.md ∧ t.ctl = s.ctl
      ∧ t.tm = s.tm)
    ∧ (∀ h a, w.doorbell = false → w.handles = [h] → isLocal w.target.toNat = false → (vecOf s h).active = some a → (vecOf s h).ev = none →
      ∃ t ev, exec (.egressReject tag) s = .next t ∧ tagOf t.ar.flight tag = none ∧ (tgtOf t w.target.toNat).unreach = true
        ∧ (tgtOf t w.target.toNat).dbOwed = true ∧ (vecOf t h).active = none ∧ (vecOf t h).ev = some ev ∧ ev.time = a.ev.time
        ∧ ev.deadline = a.ev.deadline ∧ ev.count = a.ev.count
        ∧ (tgtOf t a.target.toNat).amask = clrBit (tgtOf s a.target.toNat).amask a.prio.toNat ∧ t.ts.lmem = s.ts.lmem ∧ t.vat = s.vat
        ∧ t.cnt = s.cnt ∧ t.md = s.md ∧ t.ctl = s.ctl ∧ t.tm = s.tm)
    ∧ (w.doorbell = true → exec (.egressAccept tag) s = .next (fenceAll (flightDrop s tag)))

/-- A batch that has lasted 2 µs, which are 4,000 cycles of IV_CLK_FAB (R240; how the model counts them is its choice, assumption log 72), ends, and
before that nothing changes. Where its write is open at a local target whose descriptor is not being reloaded, the bytes of its records stand at BASE + 32 bytes a slot from TAIL
on, and every other byte of local ring memory stays. An expired watchdog counts one more resend, or sets STALLED at the MAX_RESEND that it took at its
start. -/
def Obligations.BatchEndsAndWatchdogActs : Prop :=
  ∀ (s : State) (x : BitVec 16),
    (awake s = true → s.md.engineEn = true → noWaits s = true → batchDue s x.toNat = true →
      (∃ t, exec (.batchTimeout x) s = .next t ∧ (tgtOf t x.toNat).batch = none ∧ t.md = s.md ∧ t.ctl = s.ctl ∧ t.tm = s.tm)
      ∧ (s.ar.open_ = none → ∃ t, exec (.batchTimeout x) s = .next t ∧ t.ts.lmem = s.ts.lmem)
      ∧ (∀ w, s.ar.open_ = some w → w.target = x → isLocal x.toNat = true → tdReloading s x.toNat = false →
        let base := (tgtOf s x.toNat).baseLo.toNat + 32 * (tgtOf s x.toNat).tail.toNat
        ∃ t, exec (.batchTimeout x) s = .next t ∧ t.ar.open_ = none
          ∧ (∀ a, a < base ∨ base + 32 * w.recs.length ≤ a → Memory.read t.ts.lmem a = Memory.read s.ts.lmem a)
          ∧ (MemoryCanonical s → ∀ i, i < 32 * w.recs.length →
              Memory.read t.ts.lmem (base + i) = (writeBytes s (tgtOf s x.toNat) w.recs 0 (now s)).getD i 0)))
    ∧ (∀ b, (tgtOf s x.toNat).batch = some b → s.tm.fab < b.start + 4000 → exec (.batchTimeout x) s = .next s)
    ∧ (calm s = true → wdogDue s x.toNat = true →
      (((tgtOf s x.toNat).maxResend = 0 ∨ (tgtOf s x.toNat).resend < (tgtOf s x.toNat).maxResend.toNat) → ∃ t, exec (.watchdogExpiry x) s = .next t
        ∧ (tgtOf t x.toNat).resend = (tgtOf s x.toNat).resend + 1 ∧ (tgtOf t x.toNat).stalled = (tgtOf s x.toNat).stalled ∧ t.ts.lmem = s.ts.lmem
        ∧ t.vs = s.vs ∧ t.md = s.md ∧ t.ctl = s.ctl ∧ t.tm = s.tm)
      ∧ ((tgtOf s x.toNat).maxResend ≠ 0 → (tgtOf s x.toNat).maxResend.toNat ≤ (tgtOf s x.toNat).resend → ∃ t, exec (.watchdogExpiry x) s = .next t
        ∧ (tgtOf t x.toNat).stalled = true ∧ (tgtOf t x.toNat).wdog = none ∧ t.ts.lmem = s.ts.lmem ∧ t.vs = s.vs ∧ t.ar = (noteBusy s).ar ∧ t.md = s.md
        ∧ t.ctl = s.ctl ∧ t.tm = s.tm))
    ∧ (wdogDue s x.toNat = false → exec (.watchdogExpiry x) s = .next s)

/-- What records add to the events saved: COUNT - 1 for each that carries COALESCED. -/
def coalescedSum (recs : List Out) : Word :=
  recs.foldr (fun o n => (if (recFlags o false false).getLsbD 0 then w32 (o.ev.count - 1) else 0) + n) 0

/-- IV_CNT_COALESCED adds COUNT - 1 for each record written with COALESCED, modulo 2^32. While the descriptor of the write's target is being reloaded, the
write waits (R316), and nothing is counted. -/
def Obligations.CoalescedRecordsAreCounted : Prop :=
  ∀ (s : State) (w : OpenWrite), s.ar.open_ = some w →
    (tdReloading s w.target.toNat = false → (isLocal w.target.toNat = true ∨ (freeTag s.ar.flight).isSome = true) →
      (closeWrite s).cnt.coalesced = s.cnt.coalesced + coalescedSum w.recs ∧ (closeWrite s).ar.open_ = none)
    ∧ (tdReloading s w.target.toNat = true → closeWrite s = s)

/-- A coalescing group whose instant has come releases what it holds: at the end of a hold-off window a chained window opens at that end, or the
window closes where nothing is held; a count/time group releases at its time limit or its oldest deadline. After a fatal fault nothing is decided. -/
def Obligations.CouchReleasesAtItsInstant : Prop :=
  ∀ (s : State) (g : BitVec 12), calm s = true → s.md.mode ≠ .unformed → (couchOf s g.toNat).changes = [] →
    (s.flt.fatal.isSome = true → exec (.holdoffWindowEnd g) s = .next s ∧ exec (.couchTimeLimit g) s = .next s) ∧ (s.flt.fatal = none →
    (∀ e, effMode s g.toNat = 1 → (couchOf s g.toNat).window = some e → e ≤ now s →
      ((couchOf s g.toNat).held ≠ 0 → ∃ t, exec (.holdoffWindowEnd g) s = .next t ∧ couchHeld t g.toNat = [] ∧ (couchOf t g.toNat).held = 0
        ∧ (couchOf t g.toNat).window = some (e + 8 * (couchOf s g.toNat).holdoff.toNat) ∧ t.ts.targets = s.ts.targets ∧ t.ts.lmem = s.ts.lmem
        ∧ t.md = s.md ∧ t.ctl = s.ctl ∧ t.tm = s.tm)
      ∧ ((couchOf s g.toNat).held = 0 → ∃ t, exec (.holdoffWindowEnd g) s = .next t ∧ (couchOf t g.toNat).window = none
        ∧ t.vs.vecs = s.vs.vecs ∧ t.ts.targets = s.ts.targets ∧ t.md = s.md ∧ t.ctl = s.ctl ∧ t.tm = s.tm))
    ∧ (∀ e, (couchOf s g.toNat).window = some e → now s < e → exec (.holdoffWindowEnd g) s = .next s)
    ∧ (∀ e, effMode s g.toNat = 2 → couchInstant s g.toNat = some e → e ≤ now s → calCouch g.toNat ∈ s.vs.calendar → (couchOf s g.toNat).held ≠ 0 →
      ∃ t, exec (.couchTimeLimit g) s = .next t ∧ couchHeld t g.toNat = [] ∧ (couchOf t g.toNat).held = 0
        ∧ (couchOf t g.toNat).window = (couchOf s g.toNat).window ∧ t.ts.targets = s.ts.targets ∧ t.ts.lmem = s.ts.lmem ∧ t.md = s.md
        ∧ t.ctl = s.ctl ∧ t.tm = s.tm))

/-- When the deadline of a waiting event arrives, or the sweep finds it passed at a new multiple of 1,024 ns, the event is considered again, in a round
of its lane (R241): at a fixed target that nothing blocks it joins the target's stream. Nothing else waits for the vector or before it in its lane; a fatal
fault stops it. -/
def Obligations.DeadlineFreesTheWaitingEvent : Prop :=
  (∀ (s : State) (h : BitVec 24) (ev : Ev) (e : Vte), calm s = true → ranking s = true → undisturbed s = true → noWaits s = true → s.ws.roundDue = false →
    4096 ≤ h.toNat → vteOn s h.toNat = some e → roundReady s h.toNat = true → h.toNat ∉ s.vs.queue →
    (∀ k ∈ s.vs.queue, sameLane h.toNat k = false) → checkedOf s h.toNat = [] →
    couchFor s e.cfg = none → evCouch s ev = none → (vecOf s h.toNat).changes = [] → (vecOf s h.toNat).eois = [] →
    (vecOf s h.toNat).oldGen = false → (vecOf s h.toNat).evNew = none →
    (vecOf s h.toNat).ev = some ev → (vecOf s h.toNat).active = none → ev.deadline ≤ now s → ev.stream = none → ev.released = true →
    ev.snap.cfg.groupTarget = false → ev.snap.cfg.mask = false → ev.snap.cfg.prio ≠ 0 → blockedAt s ev ev.snap.cfg.target.toNat = false →
    eligibleOn ev (tgtOf s ev.snap.cfg.target.toNat) = true →
    ∀ i, (i = .deadlineArrival h ∧ h.toNat ∈ s.vs.calendar) ∨ (i = .sweep ∧ s.vs.sweepList = [h.toNat] ∧ s.tm.ticks.sweep < now s / 1024) →
      ∃ t, exec i s = .next t ∧ (vecOf t h.toNat).ev = some { ev with stream := some ev.snap.cfg.target, first := none }
        ∧ (ev.snap.cfg.target ∈ t.ar.heap ∨ ev.snap.cfg.target ∈ t.ar.heapWait) ∧ (∀ k, k ≠ h.toNat → vecOf t k = vecOf s k)
        ∧ t.ts = s.ts ∧ t.vat = s.vat ∧ t.md = s.md ∧ t.ctl = s.ctl ∧ t.tm.now = s.tm.now)
  ∧ (∀ (s : State) (h : BitVec 24), s.flt.fatal.isSome = true → exec (.deadlineArrival h) s = .next s ∧ exec .sweep s = .next s)

/-! ### Target windows, tenants, the journal and host events -/

/-- The writes of a target window that is reached, awake: an EOI joins its vector's lane; an accepted HEAD frees the slots up to it; a rearm clears
STALLED and arms a local target; a hint sets PSTATE; CPRIO and THRESHOLD take the bits that the mask selects, but THRESHOLD stays where only two
parties may change it. In sleep a reached write of an EOI takes a place of the EOI queue, and one of a hint, HEAD or rearm a place of the hint queue,
while no write is held; an EOI that finds its queue full is held, not answered, and starts a wake with cause 8. A CPRIO write is ignored. That writes
behind a held one are held in order is the model's reading (assumption log 70). -/
def Obligations.TargetWindowWritesAct : Prop :=
  (∀ (s : State) (p : Port) (x : BitVec 16) (w : Word), calm s = true → portsDead s = false → p ≠ .sec → targetReach s p x.toNat = true →
    ((fld w 0 24 : BitVec 24).toNat < 4096 ∨ (handleSlice s (fld w 0 24 : BitVec 24).toNat).isSome = true →
      ∃ t, exec (.tEoi p x w) s = .next t ∧ (vecOf t (fld w 0 24 : BitVec 24).toNat).eois = (vecOf s (fld w 0 24 : BitVec 24).toNat).eois ++ [x]
        ∧ (fld w 0 24 : BitVec 24).toNat ∈ t.vs.queue ∧ (∀ k, k ≠ (fld w 0 24 : BitVec 24).toNat → vecOf t k = vecOf s k)
        ∧ t.ts = s.ts ∧ t.ctl = s.ctl ∧ t.md = s.md ∧ t.vat = s.vat)
    ∧ (headOk x.toNat (tgtOf s x.toNat) (fld w 0 20) (!w.getLsbD 20) = true →
      ∃ t, exec (.tHead p x w) s = .next t ∧ (tgtOf t x.toNat).head = fld w 0 20 ∧ (tgtOf t x.toNat).headPar = (!w.getLsbD 20)
        ∧ (tgtOf t x.toNat).tail = (tgtOf s x.toNat).tail ∧ (tgtOf t x.toNat).seq = (tgtOf s x.toNat).seq ∧ t.ts.lmem = s.ts.lmem ∧ t.vs = s.vs
        ∧ t.ctl = s.ctl ∧ t.md = s.md ∧ t.vat = s.vat)
    ∧ (headOk x.toNat (tgtOf s x.toNat) (fld w 0 20) (!w.getLsbD 20) = false →
      ∃ t, exec (.tHead p x w) s = .next t ∧ (tgtOf t x.toNat).head = (tgtOf s x.toNat).head ∧ (tgtOf t x.toNat).headPar = (tgtOf s x.toNat).headPar
        ∧ (tgtOf t x.toNat).stalled = (tgtOf s x.toNat).stalled ∧ t.ts.lmem = s.ts.lmem ∧ t.vs = s.vs ∧ t.ar = (noteBusy s).ar)
    ∧ (∃ t, exec (.tRearm p x w) s = .next t ∧ (tgtOf t x.toNat).stalled = false ∧ (tgtOf t x.toNat).resend = 0
      ∧ (isLocal x.toNat = true → (tgtOf t x.toNat).arm = true) ∧ t.ts.lmem = s.ts.lmem ∧ t.vs = s.vs ∧ t.ctl = s.ctl ∧ t.md = s.md)
    ∧ (∃ t, exec (.tHint p x w) s = .next t ∧ (tgtOf t x.toNat).pstate = fld w 0 2 ∧ t.ctl = s.ctl ∧ t.md = s.md ∧ t.tm = s.tm)
    ∧ (∃ t, exec (.tCprio p x w) s = .next t
      ∧ (∀ k, k < 6 → (tgtOf t x.toNat).cprio.getLsbD k = (if w.getLsbD (16 + k) then w.getLsbD k else (tgtOf s x.toNat).cprio.getLsbD k))
      ∧ (∀ k, k < 6 → (tgtOf t x.toNat).threshold.getLsbD k =
          (if w.getLsbD (24 + k) && !thresholdKept s p x.toNat then w.getLsbD (8 + k) else (tgtOf s x.toNat).threshold.getLsbD k))
      ∧ (∀ y, y ≠ x.toNat → tgtOf t y = tgtOf s y) ∧ t.vs = s.vs ∧ t.ctl = s.ctl ∧ t.md = s.md ∧ t.ar = (noteBusy s).ar ∧ t.ts.lmem = s.ts.lmem))
  ∧ (∀ (s : State) (p : Port) (x : BitVec 16) (w : Word), live s = true → portsDead s = false → sleeping s = true →
    targetReach s p x.toNat = true →
    (s.pw.eoiQ.length < 64 → s.pw.heldWrites = [] →
      exec (.tEoi p x w) s = .next (portDone { s with pw := { s.pw with eoiQ := s.pw.eoiQ ++ [.eoi x (fld w 0 24)] } } p))
    ∧ (64 ≤ s.pw.eoiQ.length ∨ s.pw.heldWrites ≠ [] →
      exec (.tEoi p x w) s = .next (wakeSource { s with pw := { s.pw with heldWrites := s.pw.heldWrites ++ [.eoi x (fld w 0 24)] } } 8))
    ∧ (s.pw.hintQ.length < 64 → s.pw.heldWrites = [] →
      exec (.tHint p x w) s = .next (portDone { s with pw := { s.pw with hintQ := s.pw.hintQ ++ [.hint x (fld w 0 2)] } } p)
      ∧ exec (.tHead p x w) s = .next (portDone { s with pw := { s.pw with hintQ := s.pw.hintQ ++ [.head x w] } } p)
      ∧ exec (.tRearm p x w) s = .next (portDone { s with pw := { s.pw with hintQ := s.pw.hintQ ++ [.rearm x (decide (p = .mgmt))] } } p))
    ∧ (∀ n, p = .tenant n → exec (.tCprio p x w) s = .next (portDone s p))
    ∧ (p = .mgmt → exec (.tCprio p x w) s = .next (portDone (sleepIgnore s (targetAddr x.toNat 0)) p)))

/-- The periodic instants and the journal's reader. A tick acts for the multiples of its period that local time has passed since it last acted, and
for none it does nothing: wake credits refill once for each, up to the bucket; journal buckets refill to 64 tokens and keep what they skipped; a
write-back leaves no changed entry and changes no entry. JNL_HEAD takes a position from the present HEAD to TAIL and no other. A journal record is
written at the slot TAIL, 64 bytes a slot from the journal's base, and TAIL advances; a full journal loses its oldest record: HEAD advances too, and
IV_STATUS.JOURNAL_WRAP sets. While no journal is configured, or JOURNAL_EN is 0, nothing is written. -/
def Obligations.RefillsAndReader : Prop :=
  (∀ s : State, awake s = true →
    (∀ f, s.fu.formed = some f → (f.slices.map fun e => e.tenant).Nodup → s.tm.ticks.credit < now s / 1000000 →
      ∃ t, exec .creditRefill s = .next t
        ∧ (∀ e ∈ f.slices, (tnOf t e.tenant).credits =
            BitVec.ofNat 16 (min ((tnOf s e.tenant).credits.toNat + (now s / 1000000 - s.tm.ticks.credit) * e.refill) e.bucket))
        ∧ t.tm.ticks.credit = now s / 1000000 ∧ t.ts.targets = s.ts.targets ∧ t.ts.lmem = s.ts.lmem ∧ t.vs = s.vs ∧ t.ctl = s.ctl
        ∧ (calm s = true → t.md = s.md))
    ∧ (now s / 1000000 ≤ s.tm.ticks.credit → exec .creditRefill s = .next s)
    ∧ (s.tm.ticks.bucket < now s / 1000000000 → exec .journalBucketRefill s = .next
        { s with tm := { s.tm with ticks := { s.tm.ticks with bucket := now s / 1000000000 } },
                 jn := { s.jn with buckets := s.jn.buckets.map fun b => (b.1, { b.2 with tokens := 64 }) } })
    ∧ (now s / 1000000000 ≤ s.tm.ticks.bucket → exec .journalBucketRefill s = .next s)
    ∧ (s.fu.formed.isSome = true → s.tm.ticks.writeback < now s / 1024000 →
      ∃ t, exec .hwFieldWriteback s = .next t ∧ t.vs.dirty = [] ∧ t.ts.dirty = []
        ∧ (∀ h v, vteOn s h = some v → ∃ n, vteOn t h = some { v with stored := n }) ∧ t.vs.vecs = s.vs.vecs ∧ t.ts.targets = s.ts.targets
        ∧ t.ts.lmem = s.ts.lmem ∧ t.ctl = s.ctl ∧ (calm s = true → t.md = s.md))
    ∧ (now s / 1024000 ≤ s.tm.ticks.writeback → exec .hwFieldWriteback s = .next s))
  ∧ (∀ (s : State) (w : Word), calm s = true → portsDead s = false →
      let n := max (jnlSlots s) 1
      let x := (fld w 0 31 : BitVec 31).toNat
      let taken := decide (x < n) && decide ((x + n - s.jn.head.toNat) % n ≤ (s.jn.tail.toNat + n - s.jn.head.toNat) % n)
      exec (.jnlHeadWrite .plain w) s =
        .next (portDone (if taken then { noteBusy s with jn := { s.jn with head := fld w 0 31 } } else noteBusy s) .mgmt))
  ∧ (∀ (s : State) (r : Rec), let t := jnlPut s .journal r; let n := jnlSlots s; let full := (s.jn.tail.toNat + 1) % n = s.jn.head.toNat
    (journalOn s = true →
      (∃ q ∈ (t.ap.reqs.map fun e => e.2) ++ t.ap.waiting, q.purpose = .journal ∧ q.write = true
        ∧ q.offset = s.jn.base.toNat * 4096 + 64 * s.jn.tail.toNat ∧ q.data = r.toList)
      ∧ t.jn.tail = BitVec.ofNat 31 ((s.jn.tail.toNat + 1) % n)
      ∧ (full → t.jn.head = BitVec.ofNat 31 ((s.jn.head.toNat + 1) % n) ∧ t.status = s.status.raise stJnlWrap)
      ∧ (¬ full → t.jn.head = s.jn.head ∧ t.status = s.status)
      ∧ t.vs = s.vs ∧ t.ts = s.ts ∧ t.ctl = s.ctl ∧ t.md = s.md ∧ t.ao = s.ao)
    ∧ (journalOn s = false → t = s))

/-- LINK_DOWN, LOW_POWER and HOST_RESET set UNREACH at every remote target of their tenant, LINK_UP clears it; in sleep the event is held and asks for
RUN; for tenant 0 or a tenant without a slice nothing happens. Awake, the event is acknowledged. -/
def Obligations.HostEventsSetReachability : Prop :=
  ∀ (s : State) (host : BitVec 8) (n : BitVec 12) (i : Instr) (k : HostKind),
    (i = .linkUp host n ∧ k = .linkUp) ∨ (i = .linkDown host n ∧ k = .linkDown) ∨ (i = .lowPower host n ∧ k = .lowPower)
      ∨ (i = .hostReset host n ∧ k = .reset) →
    (calm s = true → s.md.engineEn = true → noWaits s = true → n ≠ 0 → (sliceOf s n.toNat).isSome = true →
      ∃ t, exec i s = .next t ∧ t.io = { s.io with hostAcks := s.io.hostAcks + 1 }
        ∧ (∀ x ∈ tenantTargets s n.toNat, (tgtOf t x).unreach = decide (k ≠ .linkUp) ∧ (tgtOf t x).hostUnreach = decide (k ≠ .linkUp))
        ∧ t.ctl = s.ctl ∧ t.md = s.md ∧ t.tm = s.tm ∧ t.fu = s.fu)
    ∧ (calm s = true → n = 0 ∨ sliceOf s n.toNat = none →
      exec i s = .next { noteBusy s with io := { s.io with hostAcks := s.io.hostAcks + 1 } })
    ∧ (live s = true → sleeping s = true →
      exec i s = .next (wakeSource { s with pw := { s.pw with hostQ := s.pw.hostQ ++ [{ host := host, tenant := n, kind := k }] } } 7))

/-! ### Furnish -/

/-- LOAD, WARM_FORM and REFORM, accepted, start a fetch of the image, or fail with the code of their first check; a command that is not accepted, or
that comes in sleep, sets CMD_REJ and does nothing else. ABANDON ends an operation that has not reached FORM. -/
def Obligations.FurnishCommandsStart : Prop :=
  ∀ (s : State) (i : Instr) (op : FurnOp) (ok : Bool),
    (i = .load ∧ op = .load ∧ ok = loadOk s) ∨ (i = .warmForm ∧ op = .warm ∧ ok = loadOk s)
      ∨ (∃ n, i = .reform n ∧ op = .reform n ∧ ok = reformOk s n) →
    portsDead s = false →
    (calm s = true → ok = true → commandErr s op = none → ∃ t, exec i s = .next t ∧ t.fu.phase = .fetch ∧ t.fu.op = some op
      ∧ t.fu.formed = s.fu.formed ∧ apHas t .image = true ∧ t.vs = s.vs ∧ t.ts = s.ts ∧ t.vat = s.vat ∧ t.md = s.md ∧ t.ctl = s.ctl)
    ∧ (∀ e, calm s = true → ok = true → commandErr s op = some e → ∃ t, exec i s = .next t ∧ t.fu.phase = restPhase s ∧ t.fu.op = none
      ∧ t.fu.err = BitVec.ofNat 8 e.code ∧ t.fu.status.has fuError = true ∧ t.fu.formed = s.fu.formed ∧ t.md = s.md ∧ t.ctl = s.ctl)
    ∧ (calm s = true → ok = false → exec i s = .next (portDone (cmdRej (noteBusy s)) .mgmt))
    ∧ (live s = true → sleeping s = true → exec i s = .next (portDone (cmdRej s) .mgmt) ∧ exec .abandon s = .next (portDone (cmdRej s) .mgmt))
    ∧ (calm s = true → abandonOk s = true → ∃ t, exec .abandon s = .next t ∧ t.fu.phase = restPhase s ∧ t.fu.op = none
      ∧ t.fu.approved = none ∧ t.fu.status.has fuAbandoned = true ∧ t.fu.formed = s.fu.formed ∧ t.md = s.md ∧ t.ctl = s.ctl)
    ∧ (calm s = true → abandonOk s = false → exec .abandon s = .next (portDone (cmdRej (noteBusy s)) .mgmt))

/-- The steps of an operation: the image that arrives whole with a right digest waits for approval, and one with an error ends the operation with its
code; 10 s without approval end it with code 9; a LOAD that passes VALIDATE discards the structure and goes to FORM. That the messages in the vat and
local ring memory stay over the start of FORM is the model's reading (assumption logs 8, 36 and 51). -/
def Obligations.FurnishStepsFollow : Prop :=
  ∀ (s : State) (op : FurnOp), awake s = true → s.fu.op = some op → s.flt.inject = none →
    (∀ image l, let im := imageBytes s image
      s.fu.phase = .fetch → sections im im.length = .ok l → endDigest im im.length = imageDigest im im.length → op = .load →
      s.fu.approved = none →
      ∃ t, exec (.fetchComplete image) s = .next t ∧ t.fu.phase = .await ∧ t.fu.image = im
        ∧ t.fu.computed = some (imageDigest im im.length) ∧ t.fu.awaitAt = now s ∧ t.fu.formed = s.fu.formed ∧ t.vs = s.vs ∧ t.ts = s.ts ∧ t.md = s.md ∧ t.ctl = s.ctl)
    ∧ (∀ image e, let im := imageBytes s image
      s.fu.phase = .fetch → sections im im.length = .error e →
      ∃ t, exec (.fetchComplete image) s = .next t ∧ t.fu.phase = restPhase s ∧ t.fu.op = none ∧ t.fu.err = BitVec.ofNat 8 e.code
        ∧ t.fu.errSection = BitVec.ofNat 8 e.sect ∧ t.fu.status.has fuError = true ∧ t.fu.formed = s.fu.formed ∧ t.md = s.md)
    ∧ (s.fu.phase = .await → s.fu.awaitAt + 10000000000 ≤ now s → ∃ t, exec .approvalTimeout s = .next t ∧ t.fu.phase = restPhase s
      ∧ t.fu.op = none ∧ t.fu.err = 9 ∧ t.fu.status.has fuError = true ∧ t.fu.formed = s.fu.formed ∧ t.md = s.md ∧ t.ctl = s.ctl)
    ∧ (s.fu.phase = .await → now s < s.fu.awaitAt + 10000000000 → exec .approvalTimeout s = .next s)
    ∧ (∀ l, s.fu.phase = .validate → op = .load → sections s.fu.image s.fu.image.length = .ok l → checkReserved s.fu.image l = none →
      checkFields s.fu.image l (furnishOf s.fu.image l) (imageOff s) s.fu.image.length s.ap.log2.toNat = none →
      ∃ t, exec .validateComplete s = .next t ∧ t.fu.phase = .form ∧ t.fu.formed = none ∧ t.fu.next = some (furnishOf s.fu.image l)
        ∧ t.vs = State.vsReset ∧ t.ao.digest = none ∧ t.vat = s.vat ∧ t.ts.lmem = s.ts.lmem ∧ t.md = s.md ∧ t.ctl = s.ctl)

/-- A LOAD or WARM_FORM has committed: the structure stands formed, its digest is retained, and the registers that it loads have its values. -/
def FormedBy (s t : State) (f : Furnish) : Prop :=
  t.fu.phase = .formed ∧ t.fu.formed = some f ∧ t.fu.op = none ∧ t.fu.stored = none
    ∧ t.fu.status.has fuDone = true ∧ t.ao.digest = s.fu.computed ∧ t.ctl.dcWindow = BitVec.ofNat 16 f.dcWindowMs
    ∧ t.ctl.allow = fld f.allowed 0 4 ∧ t.ctl.wakeEn = fld f.wakeSrc 0 5 ∧ t.ctl.idleAfter = f.idleAfterUs
    ∧ (∀ k : Fin 16, t.ctl.budgets[k] = f.classes.getD k.val 0) ∧ t.md.mode = s.md.mode ∧ t.md.lock = s.md.lock ∧ t.tm.now = s.tm.now

/-- A stored VTE that a warm form rewrites: its CRC fails, or its STATE is not 0 (R112). -/
def warmRewrites (w : Words8) : Bool := !vteCrcOk w || decide (fld (wd8 w 4) 16 3 ≠ (0 : BitVec 3))

/-- The end of an operation: re-form drain goes to FORM once nothing of the tenant is in transfer, no change waits and no message of it is still to
enter its vector; 1 ms into the drain a write not
accepted is awaited no more. The commit of a LOAD leaves the structure formed, its digest retained and the registers it loads at its values; local
ring memory and the vat stay (assumption logs 8 and 51). A WARM_FORM that has read its tables commits with the wired entries as read where nothing
has to be rewritten; else it commits once its rewrites have completed; more than 1,024 entries with a bad CRC end it with code 0x23. The commit of a
REFORM leaves the new structure formed, its tenant's bucket full, and nothing on chip of the vectors that the slice gave up. -/
def Obligations.FurnishOperationsEnd : Prop :=
  ∀ s : State, awake s = true →
    (∀ n old new, s.fu.phase = .drain → s.fu.op = some (.reform n) → s.fu.formed = some old → s.fu.next = some new →
      (drainBusy s n.toNat = true → exec .reformDrainComplete s = .next s)
      ∧ (drainBusy s n.toNat = false → noWaits s = true → s.flt.fatal = none → s.flt.selfTest = none → (∀ v ∈ s.vs.vecs, v.2.changes = []) →
        (∀ g, (couchOf s g).changes = []) → (∀ e, sliceOf s n.toNat = some e → drainChecked s e = []) →
        ∃ t, exec .reformDrainComplete s = .next t ∧ t.fu.phase = .form ∧ t.fu.op = s.fu.op ∧ t.fu.next = some new ∧ t.fu.formed = some old
          ∧ (reformWrites old new n.toNat ≠ [] → apHas t .form = true) ∧ t.ts.targets = s.ts.targets ∧ t.vat = s.vat ∧ t.md = s.md ∧ t.ctl = s.ctl))
    ∧ (∀ (x : BitVec 16) (n : BitVec 12), s.fu.phase = .drain → s.fu.op = some (.reform n) → s.fu.drainAt + 1000000 ≤ now s →
      s.md.engineEn = true → noWaits s = true → s.ar.bells = [] → s.ar.open_ = none →
      (∃ e ∈ s.ar.flight, e.2.target = x ∧ writeOf s n.toNat x.toNat e.2.handles = true) →
      ∃ t, exec (.reformAcceptTimeout x) s = .next t ∧ (∀ e ∈ t.ar.flight, e.2.target = x → e.2.doorbell = false → e.2.void = true)
        ∧ t.ts.lmem = s.ts.lmem ∧ t.fu = s.fu ∧ t.md = s.md ∧ t.ctl = s.ctl)
    ∧ (∀ f stored, s.fu.phase = .form → s.fu.op = some .load → s.fu.next = some f → s.fu.stored = none → s.flt.fatal = none →
      ∃ t, exec (.formCommit stored) s = .next t ∧ FormedBy s t f ∧ t.ts.lmem = s.ts.lmem
        ∧ (fetchingAll s = [] → checkedAll s = [] → t.vat = s.vat))
    ∧ (∀ f stored, s.fu.phase = .form → s.fu.op = some .warm → s.fu.next = some f → s.fu.stored = none → s.flt.fatal = none →
      s.flt.inject = none → let l := storedVtes f stored
      ((∀ x ∈ l, warmRewrites x.2 = false) →
        ∃ t, exec (.formCommit stored) s = .next t ∧ FormedBy s t f
          ∧ (l.Pairwise (fun x y => x.1 ≠ y.1) → ∀ x ∈ l, x.1 < 4096 → vteOn t x.1 = some (warmEntry x.2)))
      ∧ ((∃ x ∈ l, warmRewrites x.2 = true) → (l.filter fun x => !vteCrcOk x.2).length ≤ 1024 →
        ∃ t, exec (.formCommit stored) s = .next t ∧ t.fu.phase = .form ∧ t.fu.op = some .warm ∧ t.fu.stored = some stored ∧ t.fu.next = some f
          ∧ apHas t .form = true ∧ t.md = s.md ∧ t.ctl = s.ctl)
      ∧ (1024 < (l.filter fun x => !vteCrcOk x.2).length →
        ∃ t, exec (.formCommit stored) s = .next t ∧ t.fu.phase = .empty ∧ t.fu.op = none ∧ t.fu.formed = none ∧ t.fu.err = 0x23
          ∧ t.fu.status.has fuError = true ∧ t.md = s.md ∧ t.ctl = s.ctl))
    ∧ (∀ f stored tag c r, s.fu.phase = .form → s.fu.stored = some stored → s.fu.next = some f → s.flt.fatal = none → s.pw.entry = none →
      tagOf s.ap.reqs tag = some r → r.write = true → isResync r.purpose = false → awaits r c = true → reqDone (copyDone r c) = true →
      (apHas (apDone s tag) .form = false → ∃ t, exec (.apertureWriteAck tag c) s = .next t ∧ FormedBy s t f)
      ∧ (apHas (apDone s tag) .form = true → exec (.apertureWriteAck tag c) s = .next (apDone s tag)))
    ∧ (∀ n old new stored, s.fu.phase = .form → s.fu.op = some (.reform n) → s.fu.formed = some old → s.fu.next = some new →
      s.fu.stored = none → s.flt.fatal = none → let a := sliceIn old n.toNat; let b := sliceIn new n.toNat
      ∃ t, exec (.formCommit stored) s = .next t ∧ t.fu.phase = .formed ∧ t.fu.formed = some new ∧ t.fu.op = none
        ∧ t.fu.status.has fuDone = true ∧ t.ao.digest = s.fu.computed ∧ t.md = s.md ∧ t.ctl = s.ctl ∧ t.tm.now = s.tm.now
        ∧ ((∃ e ∈ new.slices, e.tenant = n.toNat) → (tnOf t n.toNat).credits = BitVec.ofNat 16 b.bucket)
        ∧ (∀ h, 4096 ≤ h → a.base + keptCount a b ≤ h → h < a.base + a.vecCount →
          (vecOf t h).ev = none ∧ (vecOf t h).active = none ∧ vteOn t h = none))

/-! ### Entry access and two-party change -/

/-- The lock of an entry. ACQUIRE of an entry in reach that nobody has locked completes: the unit's lock is on the entry that its KIND and INDEX name,
with nothing staged, on a lease timer that was free, with the lease asked for. It is CONTENDED where the unit or the entry has a lock, RANGE out of
reach, and NO_TIMER where no lease timer is free, whatever else the unit is busy with. RELEASE by the unit whose lock is on the entry that it names
completes and the lock goes; without the lock it is NO_LOCK. On an entry out of reach it is RANGE, with the lock or without, and a lock stays; that, and
that no reach is judged while no structure is formed, is the model's reading (assumption log 79). The end of a lease, in every mode in which the core runs, breaks its lock. The security port has no entry access, and a write there does nothing. -/
def Obligations.LocksAreTakenAndBroken : Prop :=
  (∀ (s : State) (p : Port) (u : EaId) (ms : BitVec 16), calm s = true → portsDead s = false → p ≠ .sec → unitReach s p u = true →
    (∀ n, entryReach s u (eaOf s u) = true → (eaOf s u).lock = none →
      (∀ l ∈ locksHeld s, lockOn l.2 (eaOf s u).kind (entryIndex u (eaOf s u)) = false) → freeTimer s u = some n →
      ∃ t l, exec (.acquire p u ms) s = .next t ∧ (eaOf t u).lock = some l ∧ l.kind = (eaOf s u).kind
        ∧ l.index = BitVec.ofNat 24 (entryIndex u (eaOf s u)) ∧ l.staged = none ∧ l.timer = n ∧ (eaOf t u).broken = false
        ∧ l.expiry = satTime (regTime s) (1000000 * leaseOf s ms) ∧ (eaOf t u).status = (eaOf s u).status ∧ (eaOf t u).busy = (eaOf s u).busy
        ∧ (∀ v, v ≠ u → eaOf t v = eaOf s v) ∧ t.vs = s.vs ∧ t.ts = s.ts ∧ t.ctl = s.ctl ∧ t.md = s.md)
    ∧ (entryReach s u (eaOf s u) = true →
      ((eaOf s u).lock.isSome = true ∨ ∃ l ∈ locksHeld s, lockOn l.2 (eaOf s u).kind (entryIndex u (eaOf s u)) = true) →
      exec (.acquire p u ms) s = .next (portDone (eaRaise (noteBusy s) u (bit true eaContended)) p))
    ∧ (entryReach s u (eaOf s u) = false → exec (.acquire p u ms) s = .next (portDone (eaRaise (noteBusy s) u (bit true eaRange)) p))
    ∧ (entryReach s u (eaOf s u) = true → (eaOf s u).lock = none →
      (∀ l ∈ locksHeld s, lockOn l.2 (eaOf s u).kind (entryIndex u (eaOf s u)) = false) → freeTimer s u = none →
      exec (.acquire p u ms) s = .next (portDone (eaRaise (noteBusy s) u (bit true eaNoTimer)) p)))
  ∧ (∀ (s : State) (p : Port) (u : EaId), calm s = true → portsDead s = false → p ≠ .sec → unitReach s p u = true →
    (eaOf s u).busy = none →
    (structured s = false ∨ entryReach s u (eaOf s u) = true →
      (holdsLock u (eaOf s u) = true → exec (.release p u) s = .next (portDone (eaPut (noteBusy s) u { eaOf s u with lock := none }) p))
      ∧ (holdsLock u (eaOf s u) = false → exec (.release p u) s = .next (portDone (eaRaise (noteBusy s) u (bit true eaNoLock)) p)))
    ∧ (structured s = true → entryReach s u (eaOf s u) = false →
      exec (.release p u) s = .next (portDone (eaRaise (noteBusy s) u (bit true eaRange)) p)))
  ∧ (∀ (s : State) (n : Fin 64) (u : EaId) (l : Lock), awake s = true → leaseDue s n.val = some u → (eaOf s u).lock = some l →
    ∃ t, exec (.leaseExpiry n) s = .next t ∧ (eaOf t u).lock = none ∧ (eaOf t u).broken = true
      ∧ (eaOf t u).status.has eaLockBroken = true ∧ t.status.has stLockBroken = true ∧ (∀ v, v ≠ u → eaOf t v = eaOf s v)
      ∧ t.vs = s.vs ∧ t.ts.targets = s.ts.targets ∧ t.ctl = s.ctl)
  ∧ (∀ (s : State) (u : EaId) (ms : BitVec 16), live s = true → portsDead s = false →
    exec (.acquire .sec u ms) s = .next (portDone s .sec) ∧ exec (.release .sec u) s = .next (portDone s .sec))

/-- The commands of a unit that is not busy: READ answers the entry's words, once the reload of a corrupt row has returned; STAGE and APPLY need the lock; an APPLY by the fabric manager of a TD
with nothing in transfer installs THRESHOLD, ENABLE and AUTO_CPRIO; FENCE is done at once where nothing older is inside, and reads an entry that is off
chip first. A READ out of reach shows zeros with RANGE and DONE (R375). -/
def Obligations.EntryAccessCommandsAct : Prop :=
  ∀ (s : State) (p : Port) (u : EaId), calm s = true → portsDead s = false → undisturbed s = true → p ≠ .sec → unitReach s p u = true →
    (eaOf s u).busy = none → (∀ l, (eaOf s u).lock = some l → regTime s ≤ l.expiry) →
    (entryReach s u (eaOf s u) = true → (eaOf s u).kind = 2 → tdReloading s (entryIndex u (eaOf s u)) = true →
      exec (.read p u) s = .next (portDone (eaPut (noteBusy s) u { eaOf s u with busy := some (.readingTd (entryIndex u (eaOf s u))) }) p))
    ∧ (∀ w, entryReach s u (eaOf s u) = true → ((eaOf s u).kind = 1 → reloading s (entryIndex u (eaOf s u)) = false) →
      ((eaOf s u).kind = 2 → tdReloading s (entryIndex u (eaOf s u)) = false) → entryWords s (eaOf s u).kind.toNat (entryIndex u (eaOf s u)) = some w →
      ∃ t, exec (.read p u) s = .next t ∧ (eaOf t u).data = w ∧ (eaOf t u).status.has eaDone = true ∧ (eaOf t u).lock = (eaOf s u).lock
        ∧ t.vs.vecs = s.vs.vecs ∧ t.vs.vtes = s.vs.vtes ∧ t.ts = s.ts ∧ t.ctl = s.ctl ∧ t.md = s.md)
    ∧ (structured s = true → entryReach s u (eaOf s u) = false → ∃ t, exec (.read p u) s = .next t ∧ (eaOf t u).data = Vector.replicate 8 0
      ∧ (eaOf t u).status.has eaRange = true ∧ (eaOf t u).status.has eaDone = true ∧ t.vs = s.vs ∧ t.ts = s.ts ∧ t.ctl = s.ctl)
    ∧ (entryReach s u (eaOf s u) = true → (eaOf s u).kind ≠ 6 → (eaOf s u).lock = none →
      exec (.stage p u) s = .next (portDone (eaRaise (noteBusy s) u (bit true eaNoLock)) p)
      ∧ exec (.apply p u) s = .next (portDone (eaRaise (noteBusy s) u (bit true eaNoLock)) p))
    ∧ (∀ l, entryReach s u (eaOf s u) = true → (eaOf s u).kind ≠ 6 → (eaOf s u).lock = some l →
      holdsLock u (eaOf s u) = true →
      exec (.stage p u) s = .next (portDone (eaPut (noteBusy s) u { eaOf s u with
        lock := some { l with staged := some (eaOf s u).data, expiry := satTime (regTime s) (1000000 * l.leaseMs.toNat) } }) p))
    ∧ (∀ (l : Lock) (w : Words8), p = .mgmt → u = .mgmt → s.eaM.kind = 2 → entryReach s .mgmt s.eaM = true → s.eaM.lock = some l →
      holdsLock .mgmt s.eaM = true → l.staged = some w → isLocal s.eaM.index.toNat = false → inTransfer s s.eaM.index.toNat = false → tdReloading s s.eaM.index.toNat = false →
      (tgtOf s s.eaM.index.toNat).changes = [] → s.ar.open_ = none →
      tdCheck s s.eaM.index.toNat (tdTake s s.eaM.index.toNat .mgmt (tgtOf s s.eaM.index.toNat) w) = true →
      ∃ t, exec (.apply p u) s = .next t ∧ t.eaM.busy = none ∧ t.eaM.status.has eaDone = true
        ∧ (tgtOf t s.eaM.index.toNat).threshold = (tdPutCfg (tgtOf s s.eaM.index.toNat) w).threshold
        ∧ (tgtOf t s.eaM.index.toNat).enable = (tdPutCfg (tgtOf s s.eaM.index.toNat) w).enable
        ∧ (tgtOf t s.eaM.index.toNat).autoCprio = (tdPutCfg (tgtOf s s.eaM.index.toNat) w).autoCprio
        ∧ (tgtOf t s.eaM.index.toNat).tenant = (tgtOf s s.eaM.index.toNat).tenant ∧ t.vs = s.vs ∧ t.ts.lmem = s.ts.lmem ∧ t.md = s.md)
    ∧ (entryReach s u (eaOf s u) = true → (eaOf s u).kind = 1 → holdsLock u (eaOf s u) = true →
      vteOn s (entryIndex u (eaOf s u)) = none → ∃ t, exec (.fence p u) s = .next t
        ∧ (eaOf t u).busy = some (.fenceRead (entryIndex u (eaOf s u))) ∧ apHas t (.vteRead (entryIndex u (eaOf s u))) = true
        ∧ (eaOf t u).lock = (eaOf s u).lock ∧ t.vs = s.vs ∧ t.ts = s.ts ∧ t.ctl = s.ctl)
    ∧ (entryReach s u (eaOf s u) = true → (eaOf s u).kind = 1 → (vteOn s (entryIndex u (eaOf s u))).isSome = true →
      holdsLock u (eaOf s u) = true →
      fenceClear s (entryIndex u (eaOf s u)) (epochOf s (entryIndex u (eaOf s u))) = true →
      ∃ t, exec (.fence p u) s = .next t ∧ (eaOf t u).busy = none ∧ (eaOf t u).status.has eaDone = true ∧ (eaOf t u).lock = (eaOf s u).lock
        ∧ t.vs = s.vs ∧ t.ts = s.ts ∧ t.ctl = s.ctl)

/-- A proposal that is accepted is OPEN with the stage bound, the next proposal number and its window's end; its proposer withdraws it and ends it by
a stage write, its peer vetoes it (party S by its ID_LO, party M by command alone) or approves it by its identifier, and its window's end expires it.
An approved key becomes its tenant's key, and the stage loses its key words; an approved digest waits for the loader; an approved change of an entry
waits for its boundary, or is applied or refused there: that of a target at once, unless a record is in transfer. ID_LO is a free value (assumption
log 7). That a stage write of an OPEN key lands after the key words are zeroed is the model's reading (assumption log 38). -/
def Obligations.ProposalsOpenAndEnd : Prop :=
  ∀ (s : State) (p : Party), calm s = true → portsDead s = false →
    (proposeOk s p = true → ∃ t, exec (.propose p) s = .next t ∧ (dcOf t p).st = .open ∧ (dcOf t p).bound = (dcOf s p).stage
      ∧ (dcOf t p).idHi = s.ao.propNum ∧ t.ao.propNum = s.ao.propNum + 1 ∧ (dcOf t p).windowEnd = satTime (regTime s) (1000000 * dcWindowMs s)
      ∧ (dcOf t (otherParty p)).status.has dcPeerOpened = true ∧ t.status.has stDcEvent = true ∧ t.vs = s.vs ∧ t.ts = s.ts ∧ t.ctl = s.ctl)
    ∧ (proposeOk s p = false → exec (.propose p) s = .next (portDone (dcRaise (noteBusy s) p dcProposeRej) (partyPort p)))
    ∧ ((dcOf s p).st = .open →
      (∃ t, exec (.withdraw p) s = .next t ∧ (dcOf t p).st = .empty ∧ (dcOf t p).idLo = 0 ∧ (dcOf t p).idHi = 0
        ∧ (dcOf t p).status.has dcWithdrawn = true ∧ t.vs = s.vs ∧ t.ts = s.ts ∧ t.ctl = s.ctl)
      ∧ (∀ lo, otherParty p = .M ∨ lo = (dcOf s p).idLo → ∃ t, exec (.veto (otherParty p) lo) s = .next t ∧ (dcOf t p).st = .empty
        ∧ (dcOf t p).status.has dcVetoed = true ∧ t.vs = s.vs ∧ t.ts = s.ts ∧ t.ctl = s.ctl)
      ∧ (∀ lo, otherParty p = .S → lo ≠ (dcOf s p).idLo → exec (.veto (otherParty p) lo) s = .next
        (portDone (dcRaise (noteBusy s) (otherParty p) dcBadId) (partyPort (otherParty p))))
      ∧ (∀ n w, ∃ t, exec (.dcStageWrite p .plain n w) s = .next t ∧ (dcOf t p).st = .empty ∧ wd16 (dcOf t p).stage n.val = w
        ∧ (propKind (dcOf s p) = 5 → ∀ k, 2 ≤ k → k ≤ 5 → k ≠ n.val → wd16 (dcOf t p).stage k = 0)
        ∧ (dcOf t p).status.has dcInvalidated = true ∧ t.vs = s.vs ∧ t.ts = s.ts ∧ t.ctl = s.ctl)
      ∧ ((dcOf s p).windowEnd ≤ regTime s → ∃ t, exec (.dcWindowExpiry p) s = .next t ∧ (dcOf t p).st = .empty
        ∧ (dcOf t p).status.has dcExpired = true ∧ t.vs = s.vs ∧ t.ts = s.ts ∧ t.ctl = s.ctl)
      ∧ (∀ hi, (dcOf s (otherParty p)).approveLo = (dcOf s p).idLo → hi = (dcOf s p).idHi → propKind (dcOf s p) = 5 →
        ∃ t, exec (.approve (otherParty p) hi) s = .next t ∧ (dcOf t p).st = .empty ∧ (dcOf t p).status.has dcApplied = true
          ∧ keyOf t (stageTenant (dcOf s p).bound) = stageKey (dcOf s p).bound ∧ (∀ k, 2 ≤ k → k ≤ 5 → wd16 (dcOf t p).stage k = 0)
          ∧ t.vs = s.vs ∧ t.ts.targets = s.ts.targets ∧ t.ctl = s.ctl)
      ∧ (∀ hi, (dcOf s (otherParty p)).approveLo = (dcOf s p).idLo → hi = (dcOf s p).idHi → s.fu.phase ≠ .await →
        let approved (a : Approved) : Prop := ∃ t, exec (.approve (otherParty p) hi) s = .next t ∧ (dcOf t p).st = .empty
          ∧ (dcOf t p).status.has dcApplied = true ∧ t.fu = { s.fu with approved := some a } ∧ t.vs = s.vs ∧ t.ts = s.ts ∧ t.ctl = s.ctl
        (propKind (dcOf s p) = 4 → approved (.reform (stageDigest (dcOf s p).bound) (BitVec.ofNat 12 (stageTenant (dcOf s p).bound))))
        ∧ (propKind (dcOf s p) = 6 → approved (.furnish (stageDigest (dcOf s p).bound))))
      ∧ (∀ hi, p = .M → s.dcS.approveLo = s.dcM.idLo → hi = s.dcM.idHi →
        (propKind s.dcM ≤ 3 → ∃ t, exec (.approve .S hi) s = .next t ∧ t.ctl = s.ctl ∧ t.md = s.md ∧ (t.dcM.st = .approved
          ∨ t.dcM.st = .empty ∧ (t.dcM.status.has dcApplied = true ∨ t.dcM.status.has dcRefused = true)))
        ∧ (∀ x, propKind s.dcM = 2 → (wd16 s.dcM.bound 1).toNat = x → hasHome s 2 x = true → (tgtOf s x).changes = [] →
          tdReloading s x = false → let n := tdTake s x (.party (wd16 s.dcM.bound 2)) (tgtOf s x) (stageEntry s.dcM.bound)
          (inTransfer s x = true → ∃ t, exec (.approve .S hi) s = .next t ∧ t.dcM.st = .approved ∧ (tgtOf t x).threshold = (tgtOf s x).threshold
            ∧ (tgtOf t x).changes.length = 1)
          ∧ (inTransfer s x = false → tdCheck s x n = true → ∃ t, exec (.approve .S hi) s = .next t ∧ t.dcM.st = .empty
            ∧ t.dcM.status.has dcApplied = true ∧ (tgtOf t x).threshold = n.threshold ∧ (tgtOf t x).enable = n.enable
            ∧ (tgtOf t x).tenant = n.tenant ∧ t.vs.vtes = s.vs.vtes)
          ∧ (inTransfer s x = false → tdCheck s x n = false → ∃ t, exec (.approve .S hi) s = .next t ∧ t.dcM.st = .empty
            ∧ t.dcM.status.has dcRefused = true ∧ (tgtOf t x).threshold = (tgtOf s x).threshold ∧ (tgtOf t x).enable = (tgtOf s x).enable)))
      ∧ (∀ hi, hi ≠ (dcOf s p).idHi → exec (.approve (otherParty p) hi) s = .next
        (portDone (dcRaise (noteBusy s) (otherParty p) dcBadId) (partyPort (otherParty p)))))
    ∧ ((dcOf s p).st = .empty → ∀ n w,
      exec (.dcStageWrite p .plain n w) s = .next
        (portDone (dcPut (noteBusy s) p { dcOf s p with stage := (dcOf s p).stage.set n w }) (partyPort p))
      ∧ exec (.withdraw p) s = .next (portDone (noteBusy s) (partyPort p)))

/-! ### Wired inputs -/

/-- A level line stands at the level presented, whatever the mode, and the other lines stay. A change of a line whose vector has LEVEL 1 is an input of
its vector's lane while the core runs. An inactive-to-active transition of a line whose vector has LEVEL 0 is one gathered event in SERVING where the
vector is VALID, sets the line's latch in UNFORMED, DRAINING, REST and DORMANT, and is lost in the wake window of an entry attempt; before it and after it an
edge abandons an attempt that has not committed, and acts as in SERVING. In SERVING a
counted line gathers the difference of its Gray counts modulo 16, and the presented value becomes its baseline. What becomes of an edge of a vector
that is not VALID, and how long the window lasts, are the model's reading (assumption log 12). -/
def Obligations.WiredLinesAreSampled : Prop :=
  (∀ (s : State) (n : Fin 3840) (high : Bool),
    (∃ t, exec (.levelLineChange n high) s = .next t ∧ t.ws.high.getLsbD n.val = high
      ∧ (∀ m, m ≠ n.val → t.ws.high.getLsbD m = s.ws.high.getLsbD m ∧ t.ws.latch.getLsbD m = s.ws.latch.getLsbD m)
      ∧ (∀ k, k ≠ n.val → vecOf t k = vecOf s k) ∧ t.ts = s.ts ∧ t.vat = s.vat ∧ t.ctl = s.ctl)
    ∧ (awake s = true → (lineCfg s n.val).level = true → s.ws.high.getLsbD n.val ≠ high →
      ∃ t, exec (.levelLineChange n high) s = .next t ∧ n.val ∈ t.vs.queue ∧ t.vs.vecs = s.vs.vecs ∧ t.ws.latch = s.ws.latch))
  ∧ (∀ (s : State) (n : Fin 3840), live s = true → (lineCfg s n.val).level = false →
    (s.md.mode = .serving → calm s = true → (lineCfg s n.val).valid = true → ∃ t, exec (.sampledEdge n) s = .next t
      ∧ (vecOf t n.val).steps = (vecOf s n.val).steps + 1 ∧ n.val ∈ t.vs.queue ∧ t.ws.high.getLsbD n.val = !(lineCfg s n.val).polarity
      ∧ (∀ k, k ≠ n.val → vecOf t k = vecOf s k) ∧ t.ws.latch = s.ws.latch ∧ t.ts = s.ts ∧ t.ctl = s.ctl)
    ∧ (calm s = true → s.md.mode ≠ .serving → ∃ t, exec (.sampledEdge n) s = .next t ∧ t.ws.latch = setBit s.ws.latch n.val ∧ t.vs = s.vs
      ∧ t.ts = s.ts ∧ t.ctl = s.ctl ∧ t.md = s.md)
    ∧ (sleeping s = true → ∃ t, exec (.sampledEdge n) s = .next t ∧ t.ws.latch = setBit s.ws.latch n.val ∧ t.vs = s.vs ∧ t.ts = s.ts ∧ t.ctl = s.ctl)
    ∧ (awake s = true → wakeWindow s = true → ∃ t, exec (.sampledEdge n) s = .next t ∧ t.ws.latch = s.ws.latch ∧ t.vs = s.vs ∧ t.ts = s.ts
      ∧ t.ctl = s.ctl ∧ t.pw = s.pw)
    ∧ (∀ e, s.md.mode = .serving ∨ s.md.mode = .idle → s.pw.entry = some e → e.step = .draining ∨ (e.step = .armed ∧ e.armedAt ≠ now s) →
      (lineCfg s n.val).valid = true → ∃ t, exec (.sampledEdge n) s = .next t ∧ t.pw.entry = none ∧ t.pw.retryAt = some (now s + 1000000)
        ∧ t.md.mode = .serving ∧ (vecOf t n.val).steps = (vecOf s n.val).steps + 1 ∧ n.val ∈ t.vs.queue ∧ t.ws.latch = s.ws.latch
        ∧ t.ts = s.ts ∧ t.ctl = s.ctl))
  ∧ (∀ (s : State) (m : Fin 256) (g : BitVec 4), calm s = true → s.md.mode = .serving → (lineCfg s (3840 + m.val)).valid = true →
    ∃ t, exec (.countedStep m g) s = .next t
      ∧ (vecOf t (3840 + m.val)).steps = (vecOf s (3840 + m.val)).steps + (grayCount g + 16 - grayCount (s.ws.gray.getD m.val 0)) % 16
      ∧ 3840 + m.val ∈ t.vs.queue ∧ t.ws.gray.getD m.val 0 = g ∧ t.ts = s.ts ∧ t.ctl = s.ctl ∧ t.md = s.md)

/-! ### Time, throttle, supply and clocks -/

/-- The time unit accepts a value: local time is the larger of itself and the value, an estimate ends, a jump sets IV_STATUS.TIME_JUMP, and the
crossing of IV time agrees. Loss of IV time in Run starts an estimate from the last accepted value; local time and the tables stay. That a value below
local time becomes the last accepted one is the model's reading (assumption log 21). -/
def Obligations.TimeFollowsItsSource : Prop :=
  (∀ (s : State) (v : DWord), timeRuns s = true →
    ∃ t, exec (.timeAccept v) s = .next t ∧ t.tm.now = max s.tm.now v.toNat ∧ t.tm.accepted = true ∧ t.tm.lastAcc = v.toNat
      ∧ t.tm.estimated = false ∧ s.tm.fab ≤ t.tm.fab ∧ (.time, 0) ∉ t.flt.cdc ∧ t.status = (if timeJump s v.toNat then s.status.raise stTimeJump else s.status)
      ∧ t.ctl = s.ctl ∧ t.vs = s.vs ∧ t.ts = s.ts ∧ t.md = s.md ∧ t.pw = s.pw)
  ∧ (∀ s : State, timeRuns s = true → s.tm.accepted = true →
    ∃ t, exec .timeValidLoss s = .next t ∧ t.tm.estimated = true ∧ t.tm.ivValid = false ∧ t.tm.now = s.tm.now ∧ t.tm.lastAcc = s.tm.lastAcc
      ∧ t.ctl = s.ctl ∧ t.vs = s.vs ∧ t.ts = s.ts ∧ (calm s = true → t.md = s.md ∧ t.pw = s.pw))

/-- While Ivsyn is awake, or in SAFE, the throttle level takes effect at once and a change is counted; in sleep the value read stays the one at entry.
IV_VDD_OK falling raises fatal fault 0x29 in Run and IDLE, marks retention lost in REST and DORMANT, and does nothing while an acknowledge of the
power controller is awaited. -/
def Obligations.ThrottleAndSupplyPins : Prop :=
  (∀ (s : State) (l : BitVec 3), mute s = false →
    (sleeping s = false → ∃ t, exec (.throttleChange l) s = .next t ∧ t.pw.throttle = l ∧ t.pw.thrPin = l
      ∧ t.pw.thrChanges = (if l = s.pw.throttle then s.pw.thrChanges else s.pw.thrChanges + 1) ∧ (.throttle, 0) ∉ t.flt.cdc
      ∧ t.ctl = s.ctl ∧ t.vs = s.vs ∧ t.ts = s.ts)
    ∧ (sleeping s = true → exec (.throttleChange l) s = .next { s with pw := { s.pw with thrPin := l } } ∧
      throttleWord { s with pw := { s.pw with thrPin := l } } = throttleWord s))
  ∧ (∀ s : State, live s = true →
    (s.pw.ackWait = true → exec .vddOkFall s = .next s)
    ∧ (s.pw.ackWait = false → sleeping s = true → exec .vddOkFall s = .next { s with pw := { s.pw with vddFell := true } })
    ∧ (s.pw.ackWait = false → sleeping s = false → s.flt.fatal = none →
        exec .vddOkFall s = .next { s with flt := { s.flt with first := firstWord 3 0x29 0,
                                                               fatal := some { source := 0x29, detail := 0, blind := false, injected := false } } }))

/-- The loss of a clock that Ivsyn runs on, and four missed heartbeats, raise the fatal fault of their source; a fatal fault already in force stays
the one that acts, and IV_FLT_FIRST captures the later one. Once IV_CLK_REG has stopped, the register ports do not answer. A crossing's retry is one
corrected fault; a crossing's deferred fault, and the stop of IV_CLK_AO, are one deferred fault each and stand until the crossing agrees again or an edge
is seen; in between they are not counted again. Writes of AO registers that waited for an edge act, in order, when one is seen (assumption log 67). That
the first fatal fault acts is the model's reading (assumption log 44). -/
def Obligations.ClockAndCrossingFaults : Prop :=
  (∀ s : State, awake s = true →
    (s.flt.fatal = none →
      exec .clkFabLoss s = .next { s with flt := { s.flt with first := firstWord 3 0x27 0,
                                                              fatal := some { source := 0x27, detail := 0, blind := false, injected := false } } }
      ∧ exec .clkRegLoss s = .next { s with flt := { s.flt with regStopped := true, first := firstWord 3 0x28 0,
                                                                fatal := some { source := 0x28, detail := 0, blind := false, injected := false } } }
      ∧ (ranking s = true → 4 ≤ s.ao.missed → ∃ t, exec .wedged s = .next t
          ∧ t.flt.fatal = some { source := 0x2A, detail := 0, blind := false, injected := s.flt.beatStopped } ∧ t.ts = s.ts ∧ t.vs = s.vs))
    ∧ (s.flt.fatal.isSome = true →
      exec .clkFabLoss s = .next { s with flt := { s.flt with first := firstWord 3 0x27 0 } }
      ∧ exec .clkRegLoss s = .next { s with flt := { s.flt with regStopped := true, first := firstWord 3 0x28 0 } }
      ∧ (∃ t, exec .wedged s = .next t ∧ t.flt.fatal = s.flt.fatal ∧ t.ts = s.ts ∧ t.vs = s.vs ∧ t.md = s.md))
    ∧ (ranking s = false ∨ s.ao.missed < 4 → exec .wedged s = .next s))
  ∧ (∀ (s : State) (p : Port) (addr : BitVec 22) (w : Word), s.flt.regStopped = true →
    exec (.regWrite p addr w) s = .next s ∧ exec (.timeLoRead ⟨p, addr⟩) s = .next s ∧ exec (.resetCmd p w) s = .next s)
  ∧ (∀ (s : State) (c : Crossing) (l : BitVec 16), awake s = true → s.ctl.deferFatal = false →
    (cdcFaulted s c l = false → ∃ t, exec (.cdcRetry c l) s = .next t ∧ t.flt.corr = satAdd s.flt.corr 1 ∧ t.flt.sum.has 0 = true
      ∧ t.flt.sum.has 3 = true ∧ t.flt.defer = s.flt.defer ∧ t.vs = s.vs ∧ t.ts = s.ts ∧ t.ctl = s.ctl ∧ t.tm = s.tm)
    ∧ (cdcFaulted s c l = false → ∃ t, exec (.cdcDeferred c l) s = .next t ∧ t.flt.defer = satAdd s.flt.defer 1 ∧ t.flt.sum.has 1 = true
      ∧ t.flt.sum.has 3 = true ∧ (c, l) ∈ t.flt.cdc ∧ t.flt.corr = s.flt.corr ∧ t.vs = s.vs ∧ t.ts = s.ts ∧ t.ctl = s.ctl ∧ t.tm.now = s.tm.now)
    ∧ (cdcFaulted s c l = true → exec (.cdcRetry c l) s = .next s ∧ exec (.cdcDeferred c l) s = .next s)
    ∧ (s.tm.aoStopped = false → ∃ t, exec .aoClockStop s = .next t ∧ t.tm.aoStopped = true ∧ t.flt.defer = satAdd s.flt.defer 1
      ∧ t.flt.sum.has 1 = true ∧ t.flt.sum.has 7 = true ∧ t.flt.corr = s.flt.corr ∧ t.vs = s.vs ∧ t.ts = s.ts ∧ t.ctl = s.ctl)
    ∧ (s.ao.heldPuts = [] → exec .aoEdgeSeenAgain s = .next { s with tm := { s.tm with aoStopped := false } })
    ∧ (∀ x, s.tm.aoStopped = true → s.ao.heldPuts = [x] → exec .aoEdgeSeenAgain s = .next
        (aoAct { s with tm := { s.tm with aoStopped := false }, ao := { s.ao with heldPuts := [] } } x.form x.a x.w x.addr)))

/-! ### The always-on island -/

/-- The heartbeat sets the core's token while no injection has stopped it, and a poll refresh changes the poll words only, and nothing from step 4 of
an entry attempt on, which one from UNFORMED has not. IV_ALIVE toggles and its
toggles are counted once a half-period of AO time has passed, outside SAFE and while IV_CLK_AO runs; before that nothing changes. The time kept over a toggle is the
model's reading (assumption log 23). -/
def Obligations.SignsOfLife : Prop :=
  (∀ s : State, awake s = true →
    (s.flt.beatStopped = false → exec .heartbeat s = .next { s with ao := { s.ao with token := true } })
    ∧ (s.flt.beatStopped = true → exec .heartbeat s = .next s)
    ∧ (pollHeld s = true → exec .pollRefresh s = .next s)
    ∧ (pollHeld s = false → ∃ t, exec .pollRefresh s = .next t ∧ pollWord t 2 = at_ 32 0 s.jn.tail ∧ pollWord t 4 = w32 (now s) ∧ pollWord t 5 = w32hi (now s)
      ∧ pollWord t 6 = fld s.cnt.ingress 0 32 ∧ pollWord t 7 = s.cnt.delivered ∧ pollWord t 8 = s.cnt.stranger
      ∧ pollWord t 10 = dcStatusWord s .M ∧ pollWord t 11 = furnStatusWord s ∧ t = { s with ao := { s.ao with poll := t.ao.poll } }))
  ∧ (∀ s : State, mute s = false →
    (s.tm.aoStopped = true → exec .aliveToggle s = .next s)
    ∧ (s.tm.aoStopped = false → s.ao.aliveRun = true → max (aliveHalf s) s.tm.aoCal.toNat ≤ s.ao.sinceToggle →
      ∃ t, exec .aliveToggle s = .next t ∧ t.ao.alive = !s.ao.alive ∧ t.ao.toggles = s.ao.toggles + 1
        ∧ t.ao.sinceToggle < max 1 s.tm.aoCal.toNat ∧ t = { s with ao := t.ao })
    ∧ (s.ao.aliveRun = false ∨ s.ao.sinceToggle < aliveHalf s → exec .aliveToggle s = .next s))

/-- The sideband after a whole exchange: the response has been sent and taken, and the wires have turned back. -/
def answered (s : State) (status : Byte) (data : List (BitVec 16)) : State :=
  { s with ao := { s.ao with sbResp := some { status := status, data := data }, sb := State.sbReset } }

/-- The sideband commands, each with its whole exchange: the number of the board controller's line changes by which the request is sent and the
response taken, two for each bit, and two for the turnaround. A request whose bits all pass, and whose response is taken whole, is answered with the
RESULT of its command, DEGRADED and MODE, and the halves of the word it reads; one whose address does not match is answered 0xF0 with zero data and
has no other effect. RESET asks for its block reset on the right key that is not zero, once its response has been sent; a wrong key is counted, and
after eight of them any key is answered KEY_LOCKED. That key 0x0000, with which RESET_KEY disables the command, is answered BAD_KEY and counted as a wrong key is the model's
reading (assumption log 57). IV_SB_ACK rises and falls with each bit of a request; after the last one it is released, and
Ivsyn drives the data lines once it has risen. A frame in which no line changes for 64 AO ticks is abandoned with every line released, and a request of
which both data lines rose is abandoned; neither leaves a response. The wires as line changes, and what becomes of a request cut off in its response,
are the model's reading (assumption logs 49 and 57). -/
def Obligations.SidebandResponses : Prop :=
  (∀ (s : State) (r : BitVec 4), fld (sbStatus s r) 4 4 = r ∧ (sbStatus s r).getLsbD 3 = (modeWord s).getLsbD 4 ∧ fld (sbStatus s r) 0 3 = (fld (modeWord s) 0 3 : BitVec 3))
  ∧ (∀ (s : State) (a : Byte) (n : BitVec 4) (i : BitVec 16) (c : Byte) (k : Nat), mute s = false → s.ao.sb = State.sbReset →
    (a = s.ao.sbAddr →
      (50 ≤ k → exec (.ping ⟨a, k⟩) s = .next (answered s (sbStatus s 0) []))
      ∧ (114 ≤ k → exec (.readPoll ⟨a, k⟩ n) s = .next (answered s (sbStatus s 0) [fld (pollWord s n.toNat) 16 16, fld (pollWord s n.toNat) 0 16]))
      ∧ (50 ≤ k → c ≠ 0x10 → c ≠ 0x20 → c ≠ 0x40 → c ≠ 0x50 → (fld c 4 4 : BitVec 4) ≠ 3 →
        exec (.badCmd ⟨a, k⟩ c) s = .next (answered s (sbStatus s 1) []))
      ∧ (146 ≤ k → i.toNat ≤ 1023 →
        exec (.readAo ⟨a, k⟩ i) s = .next (answered s (sbStatus s 0) [fld (aoSaveWord s i.toNat) 16 16, fld (aoSaveWord s i.toNat) 0 16]))
      ∧ (146 ≤ k → 1023 < i.toNat → exec (.readAo ⟨a, k⟩ i) s = .next (answered s (sbStatus s 3) [0, 0])))
    ∧ (a ≠ s.ao.sbAddr →
      (50 ≤ k → exec (.ping ⟨a, k⟩) s = .next (answered s 0xF0 []) ∧ exec (.sbWake ⟨a, k⟩) s = .next (answered s 0xF0 [])
        ∧ (c ≠ 0x40 → c ≠ 0x50 → (fld c 4 4 : BitVec 4) ≠ 3 → exec (.badCmd ⟨a, k⟩ c) s = .next (answered s 0xF0 [])))
      ∧ (114 ≤ k → exec (.readPoll ⟨a, k⟩ n) s = .next (answered s 0xF0 [0, 0]))
      ∧ (146 ≤ k → exec (.readAo ⟨a, k⟩ i) s = .next (answered s 0xF0 [0, 0]))
      ∧ (82 ≤ k → exec (.sbReset ⟨a, k⟩ i) s = .next (answered s 0xF0 []))))
  ∧ (∀ (s : State) (x : BitVec 16) (k : Nat), mute s = false → s.ao.sb = State.sbReset → 82 ≤ k →
    (s.ao.sbWrong < 8 → x = s.ao.sbKey → x ≠ 0 → ∃ t, exec (.sbReset ⟨s.ao.sbAddr, k⟩ x) s = .next t ∧ t.ao.resetting = true
      ∧ t.ao.sbResp = some { status := sbStatus s 0, data := [] } ∧ t.ao.sb = State.sbReset ∧ t.ao.sbWrong = 0 ∧ t.ts = s.ts ∧ t.md = s.md)
    ∧ (s.ao.sbWrong < 8 → x ≠ s.ao.sbKey ∨ s.ao.sbKey = 0 → exec (.sbReset ⟨s.ao.sbAddr, k⟩ x) s = .next
        { answered s (sbStatus s 2) [] with ao := { (answered s (sbStatus s 2) []).ao with sbWrong := s.ao.sbWrong + 1 } })
    ∧ (8 ≤ s.ao.sbWrong → exec (.sbReset ⟨s.ao.sbAddr, k⟩ x) s = .next (answered s (sbStatus s 4) [])))
  ∧ (∀ (s : State) (a : Byte) (k : Nat), mute s = false → s.ao.sb = State.sbReset →
    (k < 32 → ∃ t, exec (.ping ⟨a, k⟩) s = .next t ∧ t.ao.sb.rx = (msbBits a ++ msbBits (0x10 : Byte)).take (k / 2) ∧ t.ao.sbResp = s.ao.sbResp
      ∧ t.ao.sb.ack = (if k % 2 = 1 then .high else .low) ∧ t.ao.sb.d0 = .released ∧ t.ao.sb.d1 = .released
      ∧ t = { s with ao := { s.ao with sb := t.ao.sb } })
    ∧ (32 ≤ k → k < 50 → ∃ t r, exec (.ping ⟨a, k⟩) s = .next t ∧ sbBusy t = true ∧ t.ao.sbResp = some r
      ∧ r.status = (if a = s.ao.sbAddr then sbStatus s 0 else 0xF0) ∧ t.ao.sb.ack = .released
      ∧ (k = 32 → t.ao.sb.d0 = .released ∧ t.ao.sb.d1 = .released) ∧ (k = 33 → t.ao.sb.d0 = .low ∧ t.ao.sb.d1 = .low)
      ∧ t = { s with ao := { s.ao with sb := t.ao.sb, sbResp := some r } }))
  ∧ (∀ s : State, mute s = false →
    (sbBusy s = true → 64 ≤ s.ao.sb.quiet →
      exec .sbFrameTimeout s = .next { s with ao := { s.ao with sbResp := none, sb := sbReleased } }
      ∧ sbReleased.d0 = .released ∧ sbReleased.d1 = .released ∧ sbReleased.ack = .released)
    ∧ (sbBusy s = false ∨ s.ao.sb.quiet < 64 → exec .sbFrameTimeout s = .next s)
    ∧ (sbReceiving s = true → exec .sbFrameAbandonBothRails s = .next { s with ao := { s.ao with sbResp := none, sb := State.sbReset } })
    ∧ (sbReceiving s = false → exec .sbFrameAbandonBothRails s = .next s))

/-- The enabled wake sources ask for RUN in the modes in which they wake: the pin in DORMANT, a level line in REST, the AO comparator and the sideband
in both. The first source that arrives gives the cause, which IV_PWR_STAT shows from then on. A beat presented in sleep is held, and where fabric messages may wake Ivsyn it asks for
RUN; in IDLE it returns Ivsyn to SERVING. An enabled sideband WAKE before the commit abandons the entry attempt. -/
def Obligations.WakeSourcesAskForRun : Prop :=
  (∀ (s : State) (n : Fin 3840), live s = true → s.pw.wakeReq = none → s.pw.entry = none →
    let woken (c : BitVec 4) : State := { s with pw := { s.pw with wakeReq := some c, wakeCause := c, pwrReq := 0, ackWait := true } }
    (s.md.mode = .dormant → s.ctl.wakeEn.getLsbD 0 = true → exec .wakePin s = .next (woken 1))
    ∧ (sleeping s = true → s.ctl.wakeEn.getLsbD 4 = true → comparatorHit s = true → exec .aoWakeComparator s = .next (woken 5))
    ∧ (sleeping s = true → s.ctl.wakeEn.getLsbD 1 = true → sbIdle s = true → ∀ k, 32 ≤ k → ∃ t, exec (.sbWake ⟨s.ao.sbAddr, k⟩) s = .next t ∧ t.pw = (woken 2).pw
        ∧ t.ao.sbResp = some { status := sbStatus s 0, data := [] } ∧ t.ts = s.ts ∧ t.md = s.md)
    ∧ (s.md.mode = .rest → lineWakes s n.val = true → ∃ t, exec (.wiredLevelWake n) s = .next t ∧ t.pw = (woken 4).pw
        ∧ t.ws.high.getLsbD n.val = !(lineCfg s n.val).polarity ∧ t.ts = s.ts ∧ t.md = s.md))
  ∧ (∀ (s : State) (e : Entry) (k : Nat), awake s = true → s.ctl.wakeEn.getLsbD 1 = true → sbIdle s = true → 32 ≤ k →
    s.pw.entry = some e → e.step.undoable = true →
    ∃ t, exec (.sbWake ⟨s.ao.sbAddr, k⟩) s = .next t ∧ t.pw.entry = none ∧ t.pw.retryAt = some (now s + 1000000)
      ∧ t.ao.sbResp = some { status := sbStatus s 0, data := [] } ∧ t.ts = s.ts ∧ t.vs = s.vs ∧ t.ctl = s.ctl)
  ∧ (∀ (s : State) (lane : Fin 4), live s = true →
    (sleeping s = true → s.ctl.wakeEn.getLsbD 2 = true → s.pw.wakeReq = none → s.pw.entry = none →
      exec (.wakeBeat lane) s = .next { s with pw := { s.pw with wakeReq := some 3, wakeCause := 3, pwrReq := 0, ackWait := true } })
    ∧ (sleeping s = true → s.ctl.wakeEn.getLsbD 2 = false → exec (.wakeBeat lane) s = .next s)
    ∧ (s.md.mode = .idle → ∃ t, exec (.wakeBeat lane) s = .next t ∧ t.md.mode = .serving ∧ t.pw.pwrState = 4 ∧ t.vat = s.vat ∧ t.ts.lmem = s.ts.lmem))

/-! ### Modes, power and resets -/

/-- A power-on reset leaves the reset state, with the input pins as they stand; its release takes the throttle level that the pins present. A write of
the key to either port's reset register starts a block reset, which completes into UNFORMED with the lock bits and the tables cleared, each lane's
credits issued, and the AO count and the time calibration kept; local time is kept too, and out of a sleep, or of a SAFE that followed one, it runs on
by the AO estimate. The planes' self-test at the end of a power-on or block reset: a plane that fails is fenced, and two that fail are the fatal fault
0x21. In OFF the wake pin starts a power-on reset. The values that the spec does not give are the model's choice (assumption logs 8 and 9), and so are
the fence's report at a reset (log 33) and the estimate by which local time runs on (log 66). -/
def Obligations.ResetsEndInUnformed : Prop :=
  (∀ s : State,
    (∃ t, exec .porstFall s = .next t ∧ t.ao.porst = true
      ∧ t = { State.reset with ao := { State.aoReset with porst := true }, pw := { State.pwReset with thrPin := s.pw.thrPin },
                               ws := { State.wsReset with high := s.ws.high, grayNow := s.ws.grayNow }, free := s.free, pending := s.pending })
    ∧ (s.ao.porst = true → ∃ t, exec (.porstRelease true true) s = .next t ∧ t.ao = State.aoReset ∧ t.md = State.mdReset ∧ t.ctl = State.ctlReset
      ∧ t.vat = State.vatReset ∧ t.ts = State.tsReset ∧ t.vs = State.vsReset ∧ t.fu = State.fuReset ∧ t.tm = State.tmReset
      ∧ t.pw.throttle = s.pw.thrPin)
    ∧ (∀ a b, s.ao.porst = false → exec (.porstRelease a b) s = .next s)
    ∧ (∀ a b, s.ao.porst = true → ∃ t, exec (.porstRelease a b) s = .next t ∧ t.md.mode = .unformed ∧ t.ao.porst = false
      ∧ t.flt.fenced = (if a = b then 0 else if a then 2 else 1)
      ∧ (a = false → b = false → ∃ f, t.flt.fatal = some f ∧ f.source = 0x21)
      ∧ (a ≠ b → t.flt.defer = 1 ∧ t.flt.sum.has 5 = true ∧ t.flt.fatal = none))
    ∧ (s.ao.porst = false → s.md.mode = .off → exec .wakePin s = exec .porstFall s))
  ∧ (∀ (s : State) (w : Word), mute s = false →
    (portsDead s = false → resetKeyed w = true → s.ao.resetting = false → ∃ t u, exec (.resetCmd .mgmt w) s = .next t ∧ t.ao.resetting = true ∧ t.md = s.md
        ∧ exec (.resetCmd .sec w) s = .next u ∧ u.ao.resetting = true ∧ u.md = s.md)
    ∧ (s.ao.resetting = true → s.pw.ackWait = false → ∃ t, exec (.blockResetComplete true true) s = .next t ∧ t.md = State.mdReset
        ∧ t.ao.resetting = false ∧ t.vat = State.vatReset ∧ t.ts = State.tsReset ∧ t.vs = State.vsReset ∧ t.ctl = State.ctlReset ∧ t.flt.fenced = 0
        ∧ t.tm.now = (if coreSlept s then max s.tm.now (estimateTime s) else s.tm.now) ∧ t.pw.throttle = s.pw.thrPin
        ∧ t.tm.aoCount = s.tm.aoCount ∧ t.tm.aoCal = s.tm.aoCal ∧ t.ao.sbKey = s.ao.sbKey))
  ∧ (∀ (s : State) (a b : Bool), mute s = false → s.ao.resetting = true → s.pw.ackWait = false →
    ∃ t, exec (.blockResetComplete a b) s = .next t ∧ t.md.mode = .unformed
      ∧ t.flt.fenced = (if a = b then 0 else if a then 2 else 1)
      ∧ (a = false → b = false → ∃ f, t.flt.fatal = some f ∧ f.source = 0x21)
      ∧ (a ≠ b → t.flt.defer = 1 ∧ t.flt.sum.has 5 = true))

/-- With a formed structure and local time accepted, a set of ENGINE_EN in UNFORMED takes LOCK_BITS and leaves UNFORMED for SERVING, or for DRAINING
while FREEZE or REQ 6 holds; while an attempt that has committed to OFF is under way, the bit is set and the mode stays. Where PHASE is not 6, or no value of IV time has been accepted, a set of ENGINE_EN leaves the bit at 0 and is
reported. A clear of ENGINE_EN with no batch open, nothing in transfer and no committed change waiting returns Ivsyn to UNFORMED; tables, vectors,
the messages in the vat and the lock bits stay. That the clear ends open batches, and that the
mode stays once an attempt has committed to OFF, are the model's reading (assumption logs 42 and 45). -/
def Obligations.EngineEnTakesAndLeavesService : Prop :=
  (∀ (s : State) (f : Furnish), awake s = true → portsDead s = false → s.md.mode = .unformed → s.md.engineEn = false → s.fu.phase = .formed →
    s.fu.formed = some f → s.tm.accepted = true → s.md.lockTaken = false → s.pw.entry = none →
    ∃ t, exec .engineEnSet s = .next t ∧ t.md.engineEn = true ∧ t.md.mode = (if drainHeld s then .draining else .serving)
      ∧ t.md.prev = .unformed ∧ t.md.lock = s.md.lock ||| f.lockBits ∧ t.ctl = s.ctl ∧ t.tm = s.tm ∧ t.fu = s.fu)
  ∧ (∀ (s : State) (e : Entry), awake s = true → portsDead s = false → s.md.mode = .unformed → s.md.engineEn = false → s.fu.phase = .formed →
    s.tm.accepted = true → s.pw.entry = some e → e.step.undoable = false →
    ∃ t, exec .engineEnSet s = .next t ∧ t.md = { s.md with engineEn := true } ∧ t.pw = s.pw ∧ t.ctl = s.ctl ∧ t.tm = s.tm ∧ t.vs = s.vs)
  ∧ (∀ s : State, awake s = true → portsDead s = false → s.md.engineEn = false → (s.fu.phase ≠ .formed ∨ s.tm.accepted = false) →
    ∃ t, exec .engineEnSet s = .next t ∧ t.md = (activity s false).md ∧ t.md.engineEn = false ∧ t.status.has stCfgRej = true
      ∧ t.ctl.cfgCount = satAdd s.ctl.cfgCount 1 ∧ t.ctl.cfgOffset = 4 ∧ t.ts = s.ts ∧ t.vat = s.vat)
  ∧ (∀ s : State, calm s = true → portsDead s = false → ranking s = true → s.md.engineEn = true → transferNone s = true → noWaits s = true →
    (∀ e ∈ s.ts.targets, e.2.batch = none) → (∀ e ∈ s.vs.vecs, e.2.changes = []) → (∀ e ∈ s.ts.couches, e.2.changes = []) →
    ∃ t, exec .engineEnClear s = .next t ∧ t.md.mode = .unformed ∧ t.md.engineEn = false ∧ t.md.prev = s.md.mode ∧ t.vat = s.vat
      ∧ t.ts = s.ts ∧ t.vs = s.vs ∧ t.tm = s.tm ∧ t.md.lock = s.md.lock)

/-- The rows of INGRESS_EN and DELIVER_EN set and clear their own bit of IV_CTL where it is not frozen; the other bits stay, and the messages that
INGRESS_EN 0 held are offered again in take order. FREEZE set in SERVING
takes Ivsyn to DRAINING, and its clear returns it to SERVING unless REQ 6 holds it; no lock bit freezes FREEZE. A write of 1 to a bit of IV_LOCK
sets it; a 0 has no effect, and the other registers stay. -/
def Obligations.ControlBitsAct : Prop :=
  (∀ s : State, calm s = true → portsDead s = false → frozenBy s lkCtl = false → s.flt.inject = none →
    exec .ingressEnClear s = .next (portDone { noteBusy s with ctl := { s.ctl with ingressEn := false } } .mgmt)
    ∧ exec .ingressEnSet s = .next (portDone
      { (if s.ctl.ingressEn then noteBusy s else ingressOffer (noteBusy s)) with ctl := { s.ctl with ingressEn := true } } .mgmt)
    ∧ exec .deliverEnSet s = .next (portDone { noteBusy s with ctl := { s.ctl with deliverEn := true } } .mgmt)
    ∧ (∃ t, exec .deliverEnClear s = .next t ∧ t.ctl = { s.ctl with deliverEn := false } ∧ t.md = s.md ∧ t.tm = s.tm ∧ t.fu = s.fu))
  ∧ (∀ s : State, calm s = true → portsDead s = false → s.md.engineEn = true →
    (s.md.mode = .serving → ∃ t, exec .freezeSet s = .next t ∧ t.ctl = { s.ctl with freeze := true } ∧ t.md.mode = .draining ∧ t.md.prev = .serving
      ∧ t.md.lock = s.md.lock ∧ t.tm = s.tm)
    ∧ (s.md.mode = .draining → ∃ t, exec .freezeClear s = .next t ∧ t.ctl = { s.ctl with freeze := false }
      ∧ t.md.mode = (if s.pw.req = 6 then .draining else .serving) ∧ t.md.lock = s.md.lock ∧ t.tm = s.tm))
  ∧ (∀ (s : State) (w : Word), awake s = true → portsDead s = false → exec (.lockSet w) s = .next (portDone
    { activity s false with md := { (activity s false).md with lock := s.md.lock ||| fld w 0 8 } } .mgmt))

/-- What an attempt at a target leaves, by R282's refusers in their order: refused with the code of the first that holds and a retry due 1 ms later, or
started, with its drain, or from UNFORMED at its commit (R283, R293). -/
def AttemptMade (s t : State) (g : SleepTarget) : Prop :=
  let refused (code : BitVec 4) : Prop := t.pw.entry = none ∧ t.pw.refCode = code ∧ t.pw.refTarget = g.code ∧ t.pw.refSeq = s.pw.refSeq + 1
    ∧ t.pw.retryAt = some (now s + 1000000) ∧ t.md = s.md ∧ t.tm = s.tm ∧ t.ts = s.ts ∧ t.vs = s.vs ∧ t.ctl = s.ctl
  (faultRefuses s = true → refused 7)
  ∧ (faultRefuses s = false → (s.fu.phase ≠ .empty ∧ s.fu.phase ≠ .formed → refused 5)
    ∧ (s.fu.phase = .empty ∨ s.fu.phase = .formed → (commitRefuses s = true → refused 3)
      ∧ (commitRefuses s = false → (locksHeld s ≠ [] → refused 4)
        ∧ (locksHeld s = [] → (s.vat.slots ≠ [] → refused 2)
          ∧ (s.vat.slots = [] → t.pw.entry = some { target := g, step := if s.md.mode = .unformed then .armed else .draining, origin := s.md.mode,
                                                    since := now s, armedAt := now s }
            ∧ t.pw.retryAt = none ∧ t.md = s.md ∧ t.tm = s.tm ∧ t.ctl = s.ctl)))))

/-- The state in which a write of IV_MODE_REQ, made while nothing else waits for an edge of IV_CLK_AO, acts: after that edge, with REQ taken. -/
def reqTaken (s : State) (v : BitVec 4) : State := { aoEdge s with pw := { s.pw with req := v } }

/-- A write of IV_MODE_REQ is taken at the next edge of IV_CLK_AO (assumption log 67): REQ 6 in SERVING takes the value and drains; any other named value
in DRAINING returns to SERVING unless FREEZE holds. REQ 1, 2 or 8 makes an attempt at once, at the shallower of REQ and ALLOW, in SERVING with FREEZE 0
and in IDLE, and in UNFORMED where that is OFF (assumption log 18); with no target it only takes the value. In REST and DORMANT the value is taken, and 0 and 6 ask
for a wake with cause 6. A value that R277 does not name is rejected and reported. -/
def Obligations.ModeRequestIsTaken : Prop :=
  (∀ s : State, awake s = true → portsDead s = false →
    (∀ f w, exec (.modeReqWrite f w) s = .next (portDone (aoHold s f 0x0C w (BitVec.ofNat 22 (aliasOff f + 0x0C))) .mgmt))
    ∧ (s.tm.aoStopped = false → s.ao.heldPuts = [] → s.pw.entry = none → ∀ (f : Form) (w : Word) (v : BitVec 4),
      v = fld (formValue f (at_ 32 0 s.pw.req) w) 0 4 →
      ∃ t, exec (.modeReqWrite f w) s = .next t ∧ t.pw = s.pw ∧ (aoClock t).ao.heldPuts = [] ∧ (aoClock t).ctl = s.ctl
        ∧ (s.md.engineEn = true → s.md.mode = .serving → v = 6 → (aoClock t).pw.req = 6 ∧ (aoClock t).md.mode = .draining)
        ∧ (s.md.engineEn = true → s.md.mode = .draining → s.pw.due = false → v = 0 ∨ v = 1 ∨ v = 2 ∨ v = 8 → (aoClock t).pw = { s.pw with req := v }
          ∧ (aoClock t).md.mode = (if s.ctl.freeze then .draining else .serving))
        ∧ (∀ g, v = 1 ∨ v = 2 ∨ v = 8 → attemptTarget (reqTaken s v) = some g →
          (s.md.mode = .serving ∧ s.ctl.freeze = false) ∨ s.md.mode = .idle ∨ (s.md.mode = .unformed ∧ g = .off) →
          (aoClock t).pw.req = v ∧ AttemptMade (reqTaken s v) (aoClock t) g)
        ∧ (v = 1 ∨ v = 2 ∨ v = 8 → (s.md.mode = .serving ∧ s.ctl.freeze = false) ∨ s.md.mode = .idle ∨ s.md.mode = .unformed →
          attemptTarget (reqTaken s v) = none ∨ (s.md.mode = .unformed ∧ attemptTarget (reqTaken s v) ≠ some .off) →
          (aoClock t).pw = { s.pw with req := v } ∧ (aoClock t).md = s.md)
        ∧ (reqNamed v = false → (aoClock t).pw = s.pw ∧ (aoClock t).md = s.md ∧ (aoClock t).status.has stCfgRej = true ∧ (aoClock t).ts = s.ts)))
  ∧ (∀ (s : State) (f : Form) (w : Word) (v : BitVec 4), live s = true → sleeping s = true → portsDead s = false → s.tm.aoStopped = false →
    s.ao.heldPuts = [] → s.pw.wakeReq = none → s.pw.entry = none → v = fld (formValue f (at_ 32 0 s.pw.req) w) 0 4 →
    ∃ t, exec (.modeReqWrite f w) s = .next t ∧ t.pw = s.pw ∧ (aoClock t).md = s.md ∧ (aoClock t).tm.now = s.tm.now ∧ (aoClock t).ctl = s.ctl
      ∧ (v = 0 ∨ v = 6 → (aoClock t).pw = { s.pw with req := v, wakeReq := some 6, wakeCause := 6, pwrReq := 0, ackWait := true })
      ∧ (v = 1 ∨ v = 2 ∨ v = 8 → (aoClock t).pw = { s.pw with req := v }))

/-- Quiet for IDLE_AFTER takes a SERVING Ivsyn that IDLE is allowed to, to IDLE; elsewhere it stays: with IDLE_AFTER 0, with ALLOW[16] 0, before that
time, while it is not quiet, during an attempt, and in every other mode. An attempt is made from IDLE, at the entry into it or at a retry, and from
SERVING where Ivsyn is quiet with IDLE_AFTER 0, after a wake or at a retry. It targets the shallower of REQ and ALLOW, and starts where no refuser
holds; else it is refused with the code of the first, and a retry is due 1 ms later. Without such an occasion, and without a target, nothing changes.
Which row starts an attempt is the model's reading (assumption log 18); one from UNFORMED starts at the write of REQ alone. -/
def Obligations.IdleAndEntryAttempts : Prop :=
  (∀ s : State,
    (live s = true → s.md.mode = .serving → s.pw.entry = none → s.ctl.allow.getLsbD 0 = true → s.ctl.idleAfter ≠ 0 → quiet s = true →
      s.ar.busyAt + 1000 * s.ctl.idleAfter.toNat ≤ now s → ∃ t, exec .idleEntry s = .next t ∧ t.md.mode = .idle ∧ t.md.prev = .serving
        ∧ t.md.seq = s.md.seq + 1 ∧ t.pw.pwrState = 3 ∧ t.pw.due = (decide (s.pw.req = 1 ∨ s.pw.req = 2 ∨ s.pw.req = 8) && decide (2 ≤ s.ctl.allow.toNat))
        ∧ t.ts = s.ts ∧ t.vs = s.vs ∧ t.vat = s.vat ∧ t.ctl = s.ctl ∧ t.tm = s.tm)
    ∧ (live s = false ∨ s.md.mode ≠ .serving ∨ s.pw.entry.isSome = true ∨ s.ctl.allow.getLsbD 0 = false ∨ s.ctl.idleAfter = 0 ∨ quiet s = false
        ∨ now s < s.ar.busyAt + 1000 * s.ctl.idleAfter.toNat → exec .idleEntry s = .next s))
  ∧ (∀ (s : State) (i : Instr), live s = true → s.pw.entry = none →
    (i = .entryAttempt ∧ ((s.pw.due = true ∧ s.md.mode = .idle) ∨ (s.pw.woke = true ∧ quietServing s = true)))
      ∨ (i = .entryRetry ∧ (s.md.mode = .idle ∨ quietServing s = true) ∧ ∃ r, s.pw.retryAt = some r ∧ r ≤ now s) →
    (∀ g, attemptTarget s = some g → ∃ t, exec i s = .next t ∧ AttemptMade s t g)
    ∧ (attemptTarget s = none → exec i s = .next s))
  ∧ (∀ s : State,
    (live s = false ∨ (s.md.mode ≠ .idle ∧ quietServing s = false) ∨ s.pw.entry.isSome = true → exec .entryAttempt s = .next s ∧ exec .entryRetry s = .next s)
    ∧ (s.pw.due = false → s.pw.woke = false → exec .entryAttempt s = .next s)
    ∧ (∀ r, s.pw.retryAt = some r → now s < r → exec .entryRetry s = .next s)
    ∧ (s.pw.retryAt = none → exec .entryRetry s = .next s))

/-- An attempt whose writes have completed takes the AO copies and goes to its commit step; one whose writes have not completed in 50 µs is refused with
code 1. The commit runs a last round for every vector whose inputs wait, captures local time and the AO count and takes Ivsyn to REST; where an instant
comes within 10 µs it is refused with code 6, and with code 7 where no AO edge comes or a last round finds a mismatch that is not yet classified; after
a fatal fault in those rounds nothing commits. The commit of an attempt from UNFORMED has no last round: with no write outstanding it asks the power
controller for OFF, and else once the last write completes; one from another mode asks then for REST. -/
def Obligations.EntryDrainsAndCommits : Prop :=
  (∀ (s : State) (e : Entry), live s = true → s.pw.entry = some e → e.step = .draining →
    ((transferNone s && writesDone s) = true → ∃ t, exec .entryDrainComplete s = .next t ∧ t.pw.entry = some { e with step := .armed, armedAt := now s } ∧ t.md = s.md
      ∧ t.pw.copies = homeCopies s
      ∧ t.ts = s.ts ∧ t.vs = s.vs ∧ t.tm = s.tm)
    ∧ ((transferNone s && writesDone s) = false → e.since + 50000 ≤ now s → ∃ t, exec .entryDeliveryTimeout s = .next t ∧ t.pw.entry = none
      ∧ t.pw.refCode = 1 ∧ t.pw.refTarget = e.target.code ∧ t.pw.retryAt = some (now s + 1000000) ∧ t.md = s.md ∧ t.ts = s.ts ∧ t.vs = s.vs))
  ∧ (∀ (s : State) (e : Entry), live s = true → s.pw.entry = some e → e.step = .armed → e.origin ≠ .unformed → s.flt.fatal = none →
    s.tm.aoStopped = false →
    ((lastRounds s).flt.fatal.isSome = true → exec .entryCommit s = .next (lastRounds s))
    ∧ ((lastRounds s).flt.fatal = none → (lastRounds s).flt.selfTest.isSome = true → ∃ t, exec .entryCommit s = .next t ∧ t.md = s.md
      ∧ t.pw.entry = none ∧ t.pw.refCode = 7 ∧ t.tm = s.tm ∧ t.ctl = s.ctl)
    ∧ ((lastRounds s).flt.fatal = none → (lastRounds s).flt.selfTest = none → timerRefuses (lastRounds s) e.target = false → ∃ t, exec .entryCommit s = .next t ∧ t.md.mode = .rest ∧ t.tm.tEntry = now s
      ∧ t.tm.aEntry = s.tm.aoCount ∧ t.tm.now = s.tm.now ∧ t.ctl = s.ctl
      ∧ (s.vs.queue = [] → t.ts.lmem = s.ts.lmem ∧ (e.target ≠ .off → t.ts = s.ts ∧ t.vs = s.vs)))
    ∧ ((lastRounds s).flt.fatal = none → (lastRounds s).flt.selfTest = none → timerRefuses (lastRounds s) e.target = true → ∃ t, exec .entryCommit s = .next t ∧ t.md = s.md ∧ t.pw.entry = none ∧ t.pw.refCode = 6
      ∧ t.tm = s.tm ∧ t.ctl = s.ctl ∧ (s.vs.queue = [] → t.ts = s.ts ∧ t.vs = s.vs)))
  ∧ (∀ (s : State) (e : Entry), live s = true → s.pw.entry = some e → e.step = .armed → s.flt.fatal = none → s.tm.aoStopped = true →
    ∃ t, exec .entryCommit s = .next t ∧ t.md = s.md ∧ t.pw.entry = none ∧ t.pw.refCode = 7 ∧ t.tm = s.tm ∧ t.ts = s.ts ∧ t.vs = s.vs)
  ∧ (∀ (s : State) (e : Entry), live s = true → s.pw.entry = some e → e.step = .armed → e.origin = .unformed → s.flt.fatal = none →
    s.tm.aoStopped = false → ∃ t, exec .entryCommit s = .next t ∧ t.md = s.md ∧ t.tm = s.tm ∧ t.ts = s.ts ∧ t.vs = s.vs ∧ t.ctl = s.ctl
      ∧ (writesDone s = true → journalOn s = false → t.pw.entry = some { e with step := .askedOff } ∧ t.pw.pwrReq = 4 ∧ t.pw.ackWait = true)
      ∧ (writesDone s = false ∨ journalOn s = true → t.pw.entry = some { e with step := .committed } ∧ t.pw.pwrReq = s.pw.pwrReq
        ∧ t.pw.ackWait = s.pw.ackWait))
  ∧ (∀ (s : State) (e : Entry) (tag : BitVec 8) (c : Copy) (r : AperReq), live s = true → s.pw.entry = some e → e.step = .committed →
    tagOf s.ap.reqs tag = some r → r.write = true → awaits r c = true → reqDone (copyDone r c) = true → isResync r.purpose = false →
    s.fu.stored = none → writesDone (apDone s tag) = true → ∃ t, exec (.apertureWriteAck tag c) s = .next t
      ∧ t.pw.entry = some { e with step := if e.origin = .unformed then .askedOff else .askedRest }
      ∧ t.pw.pwrReq = (if e.origin = .unformed then 4 else 2) ∧ t.pw.ackWait = true ∧ t.md = s.md ∧ t.tm = s.tm ∧ t.ts = s.ts ∧ t.vs = s.vs)

/-- The acknowledge of REST ends an entry into REST, or goes on to DORMANT with the retention set saved; the acknowledge of OFF keeps nothing. Which
acknowledge sets which mode, and the zeros that local ring memory then reads as, are the model's reading (assumption logs 45 and 8). -/
def Obligations.PowerAckEndsTheStep : Prop :=
  ∀ (s : State) (v : Option DWord) (e : Entry), live s = true → s.pw.ackWait = true → s.pw.entry = some e → s.pw.wakeReq = none →
    (e.step = .askedRest → e.target = .rest → exec (.pwrAck v) s = .next { s with pw := { s.pw with pwrState := 2, ackWait := false, entry := none } })
    ∧ (e.step = .askedRest → e.target = .dormant → ∃ t, exec (.pwrAck v) s = .next t ∧ t.pw.pwrReq = 3 ∧ t.pw.ackWait = true ∧ t.pw.saveValid = true
      ∧ t.pw.saves = s.pw.saves + 1 ∧ t.pw.entry = some { e with step := .askedDormant } ∧ t.md = s.md ∧ t.tm = s.tm ∧ t.ts = s.ts)
    ∧ (e.step = .askedDormant → e.target = .dormant → sleeping s = true → ∃ t, exec (.pwrAck v) s = .next t ∧ t.md.mode = .dormant
      ∧ t.pw.pwrState = 1 ∧ t.pw.entry = none ∧ t.tm = s.tm ∧ t.ts = s.ts)
    ∧ (e.step = .askedOff → ∃ t, exec (.pwrAck v) s = .next t ∧ t.md.mode = .off ∧ t.ts = State.tsReset ∧ t.vs = State.vsReset ∧ t.tm = State.tmReset)

/-- A wake without loss of retention sets local time to the presented value or the AO estimate, never below the time at entry, and leaves Ivsyn in
SERVING or DRAINING; out of DORMANT the control registers, the lock bits, the fence and the journal's place are those of the retention set, and out of
REST they stay. A wake with retention lost leaves it in UNFORMED with RET_LOST, a record of source 0x2C due and its lane credits issued; the zeros that
local ring memory then reads as are the model's choice (assumption log 8). -/
def Obligations.WakeSetsLocalTime : Prop :=
  ∀ (s : State) (v : Option DWord) (c : BitVec 4), live s = true → s.pw.ackWait = true → s.pw.entry = none → s.pw.wakeReq = some c →
    sleeping s = true →
    (retentionLost s = false → ∃ t, exec (.pwrAck v) s = .next t ∧ ranking t = true ∧ t.tm.now = reconciled s v ∧ s.tm.tEntry ≤ t.tm.now
      ∧ (s.md.mode = .dormant → let w (i : Nat) : Word := s.pw.ret.getD i 0
        t.md.lock = fld (w 3) 0 8 ∧ t.md.engineEn = (w 0).getLsbD 0 ∧ t.flt.fenced = fld (w 26) 14 2 ∧ t.jn.base = fld (w 32) 0 25
        ∧ t.jn.log2 = fld (w 33) 0 6 ∧ t.fu.err = fld (w 37) 16 8 ∧ t.fu.len = fld (w 50) 0 21
        ∧ (s.pw.ignored = [] → t.ctl = ctlOf s.ctl w))
      ∧ (s.md.mode = .rest → t.md.lock = s.md.lock ∧ t.md.engineEn = s.md.engineEn ∧ t.flt.fenced = s.flt.fenced ∧ t.jn.base = s.jn.base
        ∧ (s.pw.ignored = [] → t.ctl = s.ctl)))
    ∧ (retentionLost s = true → ∃ t r, exec (.pwrAck v) s = .next t ∧ t.md.mode = .unformed ∧ t.pw.retLost = true ∧ t.pw.wakes = s.pw.wakes + 1
      ∧ t.pw.wakeCause = c ∧ t.ao.lgDue = some r ∧ fld (wd16 r 0) 0 8 = (0x2C : Byte) ∧ t.vat = State.vatReset ∧ t.ts = State.tsReset ∧ t.tm.now = reconciled s v)

/-- A fatal fault takes Ivsyn to SAFE: ENGINE_EN clears, every vat slot frees, events and proposals go, IV_ALIVE stops and a last-gasp record is due.
An error of the collector itself does so with source 0x24, without classification, counting or a capture, and its record's words 4 and 5 are zero. A
last-gasp record that was still due, that of a loss of retention, is written before the new one is due.
What SAFE discards beyond the rule's words is the model's reading (assumption log 27). -/
def Obligations.FatalFaultEntersSafe : Prop :=
  ∀ (s : State) (c : Bool), live s = true →
    (∀ f, s.flt.fatal = some f → ∃ t, exec (.safeEntry false c) s = .next t ∧ t.md.mode = .safe ∧ t.md.prev = s.md.mode ∧ t.md.engineEn = false
      ∧ t.vat.slots = [] ∧ t.vs.vecs = [] ∧ t.dcM.st = .empty ∧ t.dcS.st = .empty ∧ t.ao.aliveRun = false ∧ t.pw.pwrState = 7
      ∧ t.ao.lgDue.isSome = true ∧ t.md.lock = s.md.lock ∧ t.tm = s.tm ∧ t.ctl = s.ctl)
    ∧ (∀ f r, s.flt.fatal = some f → s.ao.lgDue = some r → ∃ t q n, exec (.safeEntry false c) s = .next t ∧ t.ao.lgNum = s.ao.lgNum + 1
      ∧ t.ao.lg.getD (s.ao.lgNum % 4) none = some q ∧ wd16 q 0 = wd16 r 0 ∧ t.ao.lgDue = some n
      ∧ fld (wd16 n 0) 0 8 = f.source)
    ∧ (s.flt.fatal = none → exec (.safeEntry false c) s = .next s)
    ∧ (s.flt.fatal = none → ∃ t r, exec (.safeEntry true c) s = .next t ∧ t.md.mode = .safe ∧ t.ao.lgDue = some r ∧ fld (wd16 r 0) 0 8 = (0x24 : Byte)
      ∧ wd16 r 4 = 0 ∧ wd16 r 5 = 0 ∧ t.flt.first = s.flt.first ∧ t.flt.corr = s.flt.corr ∧ t.flt.defer = s.flt.defer)

/-- A last-gasp record that is due is written to the slot after the newest with the next number and the AO count, and the other slots stay. -/
def Obligations.LastGaspIsWritten : Prop :=
  ∀ (s : State) (r : Rec), mute s = false → s.tm.aoStopped = false → s.ao.lgDue = some r →
    ∃ t, exec .lastGasp s = .next t ∧ t.ao.lgDue = none ∧ t.ao.lgNum = s.ao.lgNum + 1 ∧ t.ao.safeCause = fld (wd16 r 0) 0 8
      ∧ (∃ q, t.ao.lg.getD (s.ao.lgNum % 4) none = some q ∧ wd16 q 7 = s.tm.aoCount ∧ wd16 q 10 = w32 (s.ao.lgNum + 1) ∧ wd16 q 0 = wd16 r 0)
      ∧ (∀ k, k < 4 → k ≠ s.ao.lgNum % 4 → t.ao.lg.getD k none = s.ao.lg.getD k none) ∧ t.md = s.md ∧ t.ts = s.ts ∧ t.tm = s.tm

/-! ### Faults -/

/-- A register write of IV_FLT_INJECT with the key arms the kinds that wait for their occasion. The kinds that need no occasion act at once: a
crossing's disagreement is three corrected faults and one deferred one, the heartbeat stops, and a parity error of the collector raises SAFE
without classification. An injection with a wrong key, or while one is armed, or while FAULT_POLICY is frozen, is rejected and arms nothing. What
a second fatal fault does is the model's reading (assumption log 44). -/
def Obligations.InjectionsActByTheirKind : Prop :=
  (∀ (s : State) (i : Instr) (n : BitVec 4), awake s = true → portsDead s = false → s.flt.inject = none → s.flt.failPlane = 0 → frozenBy s lkFault = false →
    ((i = .injectPlaneAMismatch 0xFA17 ∧ n = 1 ∨ i = .injectFenceA 0xFA17 ∧ n = 2 ∨ i = .injectFenceB 0xFA17 ∧ n = 3) ∧ bothPlanes s = true)
      ∨ i = .injectEccSingle 0xFA17 ∧ n = 4 ∨ i = .injectEccDouble 0xFA17 ∧ n = 5 ∨ i = .injectApertureReadError 0xFA17 ∧ n = 7 →
    exec i s = .next (portDone { activity s false with flt := { s.flt with inject := some n } } .mgmt))
  ∧ (∀ s : State, calm s = true → portsDead s = false → s.flt.inject = none → s.flt.failPlane = 0 → frozenBy s lkFault = false →
    exec (.injectHeartbeatStop 0xFA17) s = .next (portDone { noteBusy s with flt := { s.flt with beatStopped := true } } .mgmt)
    ∧ (s.flt.fatal = none → exec (.injectCollectorParity 0xFA17) s = .next (portDone
        { noteBusy s with flt := { s.flt with fatal := some { source := 0x24, detail := 0, blind := true, injected := true } } } .mgmt))
    ∧ (s.ctl.deferFatal = false → cdcFaulted s .fabReg 0 = false → ∃ t, exec (.injectCdcDisagree 0xFA17) s = .next t ∧ t.flt.corr = satAdd (satAdd (satAdd s.flt.corr 1) 1) 1
        ∧ t.flt.defer = satAdd s.flt.defer 1 ∧ (.fabReg, 0) ∉ t.flt.cdc ∧ t.vs = s.vs ∧ t.ts = s.ts ∧ t.ctl = s.ctl))
  ∧ (∀ (s : State) (k : BitVec 16) (i : Instr), calm s = true → portsDead s = false → (k ≠ 0xFA17 ∨ s.flt.inject.isSome = true ∨ frozenBy s lkFault = true) →
    i ∈ [.injectPlaneAMismatch k, .injectFenceA k, .injectFenceB k, .injectEccSingle k, .injectEccDouble k, .injectCdcDisagree k,
         .injectApertureReadError k, .injectHeartbeatStop k, .injectCollectorParity k] →
    ∃ t, exec i s = .next t ∧ t.flt = s.flt ∧ t.status.has stCfgRej = true ∧ t.ts = s.ts ∧ t.vs = s.vs ∧ t.md = s.md)

/-- A refreshed row: a single error is one corrected fault, counted at once, or held with its time through sleep. A double error in a row that has an
aperture copy (of the vector cache without merge state, the target store or the wired state) is one deferred fault, and a vector or target whose entry stands there waits for the entry's reload; one in local ring memory changes no
byte outside the 32 bytes of its slot; any other is the fatal fault 0x25. The bytes of a corrupt slot are free values (assumption log 7); the hold in
sleep, and which entry stands in a row, are the model's reading (assumption logs 52 and 53). -/
def Obligations.RefreshReportsErrors : Prop :=
  ∀ (s : State) (hot : Bool) (array : BitVec 8) (row : BitVec 16) (copied : Bool), live s = true → s.flt.inject = none →
    (sleeping s = false → ∃ t, exec (.refresh hot array row copied .single) s = .next t ∧ t.flt.corr = satAdd s.flt.corr 1 ∧ t.flt.sum.has 4 = true
      ∧ t.pw.refreshHot = hot ∧ t.ts = s.ts ∧ t.vs = s.vs ∧ t.ctl = s.ctl)
    ∧ (sleeping s = true → exec (.refresh hot array row copied .single) s = .next
        { s with pw := { s.pw with refreshHot := hot, faultsHeld := (0x03, eccArg array row, false, readTime s) :: s.pw.faultsHeld } })
    ∧ exec (.refresh hot array row copied .clean) s = .next { s with pw := { s.pw with refreshHot := hot } }
    ∧ (∃ t, exec (.refresh hot 4 row copied .double) s = .next t ∧ t.vs = s.vs ∧ t.ctl = s.ctl ∧ (calm s = true → t.md = s.md)
      ∧ ∀ a, a < 32 * row.toNat ∨ 32 * row.toNat + 32 ≤ a → Memory.read t.ts.lmem a = Memory.read s.ts.lmem a)
    ∧ (rowCopied s array row true = true → sleeping s = false → s.ctl.deferFatal = false → s.fu.formed.isSome = true →
      ∃ t, exec (.refresh hot array row true .double) s = .next t ∧ t.flt.defer = satAdd s.flt.defer 1 ∧ t.flt.sum.has 1 = true
        ∧ t.flt.sum.has 4 = true ∧ (∀ h, rowHandle s array row = some h → reloading t h = true)
        ∧ (array = 2 → row.toNat < (geometry s).targetTop → row.toNat ∈ t.ts.reload)
        ∧ t.vs.vecs = s.vs.vecs ∧ t.vs.vtes = s.vs.vtes ∧ t.ts.targets = s.ts.targets ∧ t.ctl = s.ctl)
    ∧ (array ≠ 4 → rowCopied s array row copied = false → s.flt.fatal = none → ∃ t f, exec (.refresh hot array row copied .double) s = .next t ∧ t.flt.fatal = some f ∧ f.source = 0x25
      ∧ t.vs = s.vs ∧ t.ts = s.ts)
end

