-- ==== Sys2Proof/Laws/Memory.lean ====
section
/-! SUPPORT. Local ring memory: writes keep the canonical form, a read after a write to the same address gives what was written, and
every other address reads as before. -/

namespace Sys2Proof.Machine

theorem Memory.wfFrom_mono {lo hi : Nat} (h : lo ≤ hi) : ∀ {m : List Host.Cell}, Memory.wfFrom hi m = true → Memory.wfFrom lo m = true := by
  intro m hm
  cases m with
  | nil => rfl
  | cons c r =>
    obtain ⟨k, b⟩ := c
    simp only [Memory.wfFrom, Bool.and_eq_true, decide_eq_true_eq] at hm ⊢
    exact ⟨⟨by omega, hm.1.2⟩, hm.2⟩

theorem Memory.write_wfFrom {lo a : Nat} {b : Byte} (ha : lo ≤ a) :
    ∀ {m : List Host.Cell}, Memory.wfFrom lo m = true → Memory.wfFrom lo (Memory.write m a b) = true := by
  intro m
  induction m generalizing lo with
  | nil =>
    intro _
    simp only [Memory.write]
    split
    · rfl
    · rename_i h
      simp [Memory.wfFrom, ha, h]
  | cons c r ih =>
    obtain ⟨k, x⟩ := c
    intro hm
    simp only [Memory.wfFrom, Bool.and_eq_true, decide_eq_true_eq] at hm
    simp only [Memory.write]
    split
    · split
      · simp only [Memory.wfFrom, Bool.and_eq_true, decide_eq_true_eq]
        exact hm
      · rename_i h1 h2
        simp only [Memory.wfFrom, Bool.and_eq_true, decide_eq_true_eq]
        exact ⟨⟨ha, h2⟩, ⟨⟨by omega, hm.1.2⟩, hm.2⟩⟩
    · split
      · rename_i h1 h2
        subst h2
        split
        · exact Memory.wfFrom_mono (by omega) hm.2
        · rename_i h3
          simp only [Memory.wfFrom, Bool.and_eq_true, decide_eq_true_eq]
          exact ⟨⟨ha, h3⟩, hm.2⟩
      · simp only [Memory.wfFrom, Bool.and_eq_true, decide_eq_true_eq]
        exact ⟨hm.1, ih (by omega) hm.2⟩

/-- A write keeps the canonical form. -/
theorem Memory.write_wf {m : List Host.Cell} {a : Nat} {b : Byte} (h : Memory.wf m = true) : Memory.wf (Memory.write m a b) = true :=
  Memory.write_wfFrom (Nat.zero_le a) h

/-- Writes of consecutive bytes keep the canonical form. -/
theorem Memory.writeBytes_wf {bs : List Byte} : ∀ {m : List Host.Cell} {a : Nat}, Memory.wf m = true → Memory.wf (Memory.writeBytes m a bs) = true := by
  induction bs with
  | nil => intro m a h; exact h
  | cons b r ih => intro m a h; exact ih (Memory.write_wf h)

theorem Memory.read_below {lo a : Nat} (h : a < lo) : ∀ {m : List Host.Cell}, Memory.wfFrom lo m = true → Memory.read m a = lmemDefault := by
  intro m
  induction m generalizing lo with
  | nil => intro _; rfl
  | cons c r ih =>
    obtain ⟨k, x⟩ := c
    intro hm
    simp only [Memory.wfFrom, Bool.and_eq_true, decide_eq_true_eq] at hm
    simp only [Memory.read, if_neg (show ¬ k = a by omega)]
    exact ih (by omega) hm.2

/-- Every other address reads as before. -/
theorem Memory.read_write_ne {a k : Nat} {b : Byte} (h : k ≠ a) :
    ∀ {m : List Host.Cell}, Memory.read (Memory.write m a b) k = Memory.read m k := by
  intro m
  induction m with
  | nil =>
    simp only [Memory.write]
    split
    · rfl
    · simp [Memory.read, Ne.symm h]
  | cons c r ih =>
    obtain ⟨j, x⟩ := c
    simp only [Memory.write]
    split
    · split
      · rfl
      · simp [Memory.read, Ne.symm h]
    · split
      · rename_i h1 h2
        subst h2
        split
        · simp [Memory.read, Ne.symm h]
        · simp [Memory.read, Ne.symm h]
      · simp only [Memory.read, ih]

theorem Memory.read_write_from {lo a : Nat} {b : Byte} :
    ∀ {m : List Host.Cell}, Memory.wfFrom lo m = true → Memory.read (Memory.write m a b) a = b := by
  intro m
  induction m generalizing lo with
  | nil =>
    intro _
    simp only [Memory.write]
    split
    · rename_i h; rw [h]; rfl
    · simp [Memory.read]
  | cons c r ih =>
    obtain ⟨j, x⟩ := c
    intro hm
    simp only [Memory.wfFrom, Bool.and_eq_true, decide_eq_true_eq] at hm
    simp only [Memory.write]
    split
    · rename_i h1
      split
      · rename_i h2
        rw [h2]
        simp only [Memory.read, if_neg (show ¬ j = a by omega)]
        exact Memory.read_below (by omega) hm.2
      · simp [Memory.read]
    · split
      · rename_i h1 h2
        subst h2
        split
        · rename_i h3
          rw [h3]
          exact Memory.read_below (by omega) hm.2
        · simp [Memory.read]
      · rename_i h1 h2
        simp only [Memory.read, if_neg (show ¬ j = a by omega)]
        exact ih hm.2

/-- A read after a write to the same address gives what was written. -/
theorem Memory.read_write_same {m : List Host.Cell} {a : Nat} {b : Byte} (h : Memory.wf m = true) :
    Memory.read (Memory.write m a b) a = b := Memory.read_write_from h

/-- An address outside the bytes written reads as before. -/
theorem Memory.read_writeBytes_out {bs : List Byte} :
    ∀ {m : List Host.Cell} {a k : Nat}, (k < a ∨ a + bs.length ≤ k) → Memory.read (Memory.writeBytes m a bs) k = Memory.read m k := by
  induction bs with
  | nil => intro m a k _; rfl
  | cons b r ih =>
    intro m a k h
    simp only [List.length_cons] at h
    simp only [Memory.writeBytes]
    rw [ih (by omega), Memory.read_write_ne (by omega)]

/-- A byte written reads back, whatever lies around it. -/
theorem Memory.read_writeBytes_in {bs : List Byte} :
    ∀ {m : List Host.Cell} {a i : Nat}, Memory.wf m = true → i < bs.length → Memory.read (Memory.writeBytes m a bs) (a + i) = bs.getD i 0 := by
  induction bs with
  | nil => intro m a i _ h; simp at h
  | cons b r ih =>
    intro m a i hm h
    simp only [Memory.writeBytes]
    cases i with
    | zero =>
      rw [Memory.read_writeBytes_out (by omega)]
      simp [Memory.read_write_same hm]
    | succ j =>
      have := ih (m := Memory.write m a b) (a := a + 1) (i := j) (Memory.write_wf hm) (by simpa using h)
      rw [show a + (j + 1) = a + 1 + j by omega, this]
      simp

end Sys2Proof.Machine
end

