-- ==== Sys2Proof/Laws/Inner.lean ====
section
/-! SUPPORT. What the block's inner operations can do. `Inner d s t` says that t differs from s only in the tables, the queues, the
journal, the counters, the statuses and what the comparison of the planes leaves in the fault collector; d is what each lane's credits and occupied slots have gained together. One lemma for each
operation, in the form: it keeps the relation. -/

namespace Sys2Proof.Machine

set_option linter.unusedTactic false
set_option linter.unreachableTactic false

/-- The fault collector besides what the comparison of the planes and a counted fault change (R165, R319 to R321). -/
def fltRest (f : FaultUnit) : FaultUnit :=
  { f with sum := State.scReset, corr := 0, defer := 0, first := 0, inject := none, selfTest := none, failPlane := 0 }

/-- The AO island besides the copy of the fault summary (R320). -/
def aoRest (a : AoUnit) : AoUnit := { a with pollFenced := 0, pollFlags := 0 }

/-- What no inner operation changes; d counts the slots that a lane has gained or lost besides credits. -/
structure Inner (d : Fin 4 → Int) (s t : State) : Prop where
  pending : t.pending = s.pending
  md : t.md = s.md
  ctl : t.ctl = s.ctl
  tm : t.tm = s.tm
  pw : t.pw = s.pw
  ao : aoRest t.ao = aoRest s.ao
  ap : ({ t.ap with reqs := [], waiting := [] } : AperUnit) = ({ s.ap with reqs := [], waiting := [] } : AperUnit)
  fu : t.fu = s.fu
  flt : fltRest t.flt = fltRest s.flt
  io : t.io = s.io
  free : t.free = s.free
  keys : t.ts.keys = s.ts.keys
  high : t.ws.high = s.ws.high ∧ t.ws.grayNow = s.ws.grayNow
  lmem : Memory.wf s.ts.lmem = true → Memory.wf t.ts.lmem = true
  lanes : ∀ l, (laneSum t l : Int) = laneSum s l + d l

/-- No lane gains or loses. -/
def noGain : Fin 4 → Int := fun _ => 0

theorem Inner.refl (s : State) : Inner noGain s s where
  pending := rfl
  md := rfl
  ctl := rfl
  tm := rfl
  pw := rfl
  ao := rfl
  ap := rfl
  fu := rfl
  flt := rfl
  io := rfl
  free := rfl
  keys := rfl
  high := ⟨rfl, rfl⟩
  lmem := id
  lanes l := by simp [noGain]

theorem Inner.trans {d e : Fin 4 → Int} {s t u : State} (h : Inner d s t) (k : Inner e t u) : Inner (fun l => d l + e l) s u where
  pending := k.pending.trans h.pending
  md := k.md.trans h.md
  ctl := k.ctl.trans h.ctl
  tm := k.tm.trans h.tm
  pw := k.pw.trans h.pw
  ao := k.ao.trans h.ao
  ap := k.ap.trans h.ap
  fu := k.fu.trans h.fu
  flt := k.flt.trans h.flt
  io := k.io.trans h.io
  free := k.free.trans h.free
  keys := k.keys.trans h.keys
  high := ⟨k.high.1.trans h.high.1, k.high.2.trans h.high.2⟩
  lmem m := k.lmem (h.lmem m)
  lanes l := by rw [k.lanes, h.lanes, Int.add_assoc]

/-- A change of what the relation does not fix keeps it. -/
theorem Inner.upd {δ : Fin 4 → Int} {s t : State} {status : Sc} {cnt : Counters} {ap : AperUnit} {eaM : EaUnit} {eaT : List (Nat × EaUnit)}
    {dcM dcS : PartyUnit} {jn : JnlUnit} {vat : VatUnit} {ws : WireUnit} {vs : VecStore} {ts : TargetStore} {ar : ArbUnit}
    (hap : ({ ap with reqs := [], waiting := [] } : AperUnit) = { t.ap with reqs := [], waiting := [] }) (keys : ts.keys = t.ts.keys)
    (high : ws.high = t.ws.high) (gray : ws.grayNow = t.ws.grayNow) (lmem : ts.lmem = t.ts.lmem)
    (credits : vat.credits = t.vat.credits) (slots : vat.slots = t.vat.slots) (h : Inner δ s t) :
    Inner δ s { t with status := status, cnt := cnt, ap := ap, eaM := eaM, eaT := eaT, dcM := dcM, dcS := dcS, jn := jn, vat := vat,
                       ws := ws, vs := vs, ts := ts, ar := ar } where
  pending := h.pending
  md := h.md
  ctl := h.ctl
  tm := h.tm
  pw := h.pw
  ao := h.ao
  ap := hap.trans h.ap
  fu := h.fu
  flt := h.flt
  io := h.io
  free := h.free
  keys := keys.trans h.keys
  high := ⟨high.trans h.high.1, gray.trans h.high.2⟩
  lmem m := by rw [lmem]; exact h.lmem m
  lanes l := by
    rw [← h.lanes l]
    simp only [laneSum, credits, slots]

/-- A fault that is noted, or a round that is held, keeps the relation. -/
theorem Inner.fault {δ : Fin 4 → Int} {s t : State} {f : FaultUnit} {a : AoUnit} (hf : fltRest f = fltRest t.flt) (ha : aoRest a = aoRest t.ao)
    (h : Inner δ s t) : Inner δ s { t with flt := f, ao := a } :=
  { h with flt := hf.trans h.flt, ao := ha.trans h.ao }

/-- Bytes written to local ring memory keep the relation. -/
theorem Inner.writes {δ : Fin 4 → Int} {s t : State} (h : Inner δ s t) (a : Nat) (bs : List Byte) :
    Inner δ s { t with ts := { t.ts with lmem := Memory.writeBytes t.ts.lmem a bs } } :=
  { h with lmem := fun m => Memory.writeBytes_wf (h.lmem m) }

/-- One slot or credit on a lane. -/
def oneOn (lane : Fin 4) : Fin 4 → Int := fun l => if l = lane then 1 else 0

/-- An operation made for each element keeps the relation where each step does. -/
theorem forEach_inner {α : Type} {d : Fin 4 → Int} {s : State} {f : State → α → State}
    (hf : ∀ t a, Inner d s t → Inner d s (f t a)) : ∀ {l : List α} {t : State}, Inner d s t → Inner d s (forEach l t f) := by
  intro l
  induction l with
  | nil => intro t h; exact h
  | cons a r ih => intro t h; exact ih (hf t a h)

/-- An operation that may be missing keeps the relation where its default does. -/
theorem getD_inner {d : Fin 4 → Int} {s t : State} {o : Option State} (h : Inner d s t) (ho : ∀ u, o = some u → Inner d s u) :
    Inner d s (o.getD t) := by
  cases o with
  | none => exact h
  | some u => exact ho u rfl

/-- What waits for no fatal fault keeps the relation where the operation does. -/
theorem unlessFatal_inner {δ : Fin 4 → Int} {s t : State} {f : State → State} (h : Inner δ s t) (k : Inner δ s (f t)) :
    Inner δ s (unlessFatal t f) := by
  unfold unlessFatal
  split
  · exact h
  · exact k

/-- Both branches keep the relation. -/
theorem ite_inner {c : Prop} [Decidable c] {δ : Fin 4 → Int} {s t u : State} (h : Inner δ s t) (k : Inner δ s u) :
    Inner δ s (if c then t else u) := by
  split
  · exact h
  · exact k


theorem forEach_round {α : Type} {δ : Fin 4 → Int} {s : State} {f : Round → α → Round}
    (hf : ∀ t a, Inner δ s t.st → Inner δ s (f t a).st) : ∀ {l : List α} {t : Round}, Inner δ s t.st → Inner δ s (forEach l t f).st := by
  intro l
  induction l with
  | nil => intro t h; exact h
  | cons a r ih => intro t h; exact ih (hf t a h)

theorem raiseStatus_inner {δ : Fin 4 → Int} {s₀ : State} {s₁ : State} (f : Nat) (hi : Inner δ s₀ s₁) : Inner δ s₀ (raiseStatus s₁ f) := by
  unfold raiseStatus
  try extract_lets
  iterate 14 (all_goals first | assumption | with_reducible apply ite_inner | split | (refine Inner.upd rfl rfl rfl rfl rfl rfl rfl ?_) | dsimp +zetaDelta only)

theorem eaPut_inner {δ : Fin 4 → Int} {s₀ : State} {s₁ : State} (u : EaId) (e : EaUnit) (hi : Inner δ s₀ s₁) : Inner δ s₀ (eaPut s₁ u e) := by
  unfold eaPut
  try extract_lets
  iterate 14 (all_goals first | assumption | with_reducible apply ite_inner | split | (refine Inner.upd rfl rfl rfl rfl rfl rfl rfl ?_) | dsimp +zetaDelta only)

theorem eaRaise_inner {δ : Fin 4 → Int} {s₀ : State} {s₁ : State} (u : EaId) (m : BitVec 24) (hi : Inner δ s₀ s₁) : Inner δ s₀ (eaRaise s₁ u m) := by
  unfold eaRaise
  try extract_lets
  iterate 14 (all_goals first | assumption | with_reducible apply eaPut_inner | with_reducible apply ite_inner | split | (refine Inner.upd rfl rfl rfl rfl rfl rfl rfl ?_) | dsimp +zetaDelta only)

theorem dcPut_inner {δ : Fin 4 → Int} {s₀ : State} {s₁ : State} (p : Party) (d : PartyUnit) (hi : Inner δ s₀ s₁) : Inner δ s₀ (dcPut s₁ p d) := by
  unfold dcPut
  try extract_lets
  iterate 14 (all_goals first | assumption | with_reducible apply ite_inner | split | (refine Inner.upd rfl rfl rfl rfl rfl rfl rfl ?_) | dsimp +zetaDelta only)

theorem dcRaise_inner {δ : Fin 4 → Int} {s₀ : State} {s₁ : State} (p : Party) (f : Nat) (hi : Inner δ s₀ s₁) : Inner δ s₀ (dcRaise s₁ p f) := by
  unfold dcRaise
  try extract_lets
  iterate 14 (all_goals first | assumption | with_reducible apply dcPut_inner | with_reducible apply raiseStatus_inner | with_reducible apply ite_inner | split | (refine Inner.upd rfl rfl rfl rfl rfl rfl rfl ?_) | dsimp +zetaDelta only)

theorem tnPut_inner {δ : Fin 4 → Int} {s₀ : State} {s₁ : State} (t : Nat) (x : TenantSt) (hi : Inner δ s₀ s₁) : Inner δ s₀ (tnPut s₁ t x) := by
  unfold tnPut
  try extract_lets
  iterate 14 (all_goals first | assumption | with_reducible apply ite_inner | split | (refine Inner.upd rfl rfl rfl rfl rfl rfl rfl ?_) | dsimp +zetaDelta only)

theorem twRaise_inner {δ : Fin 4 → Int} {s₀ : State} {s₁ : State} (t : Nat) (f : Nat) (hi : Inner δ s₀ s₁) : Inner δ s₀ (twRaise s₁ t f) := by
  unfold twRaise
  try extract_lets
  iterate 14 (all_goals first | assumption | with_reducible apply tnPut_inner | with_reducible apply ite_inner | split | (refine Inner.upd rfl rfl rfl rfl rfl rfl rfl ?_) | dsimp +zetaDelta only)

theorem noteBusy_inner {δ : Fin 4 → Int} {s₀ : State} {s₁ : State}  (hi : Inner δ s₀ s₁) : Inner δ s₀ (noteBusy s₁) := by
  unfold noteBusy
  try extract_lets
  iterate 14 (all_goals first | assumption | with_reducible apply ite_inner | split | (refine Inner.upd rfl rfl rfl rfl rfl rfl rfl ?_) | dsimp +zetaDelta only)

theorem vecPut_inner {δ : Fin 4 → Int} {s₀ : State} {s₁ : State} (h : Nat) (v : Vec) (hi : Inner δ s₀ s₁) : Inner δ s₀ (vecPut s₁ h v) := by
  unfold vecPut
  try extract_lets
  iterate 14 (all_goals first | assumption | with_reducible apply ite_inner | split | (refine Inner.upd rfl rfl rfl rfl rfl rfl rfl ?_) | dsimp +zetaDelta only)

theorem awayPut_inner {δ : Fin 4 → Int} {s₀ : State} {s₁ : State} (h : Nat) (x : Snap) (hi : Inner δ s₀ s₁) : Inner δ s₀ (awayPut s₁ h x) := by
  unfold awayPut
  try extract_lets
  iterate 14 (all_goals first | assumption | with_reducible apply ite_inner | split | (refine Inner.upd rfl rfl rfl rfl rfl rfl rfl ?_) | dsimp +zetaDelta only)

theorem vteAway_inner {δ : Fin 4 → Int} {s₀ : State} {s₁ : State} (h : Nat) (hi : Inner δ s₀ s₁) : Inner δ s₀ (vteAway s₁ h) := by
  unfold vteAway
  try extract_lets
  iterate 14 (all_goals first | assumption | with_reducible apply awayPut_inner | with_reducible apply ite_inner | split | (refine Inner.upd rfl rfl rfl rfl rfl rfl rfl ?_) | dsimp +zetaDelta only)

theorem vtePut_inner {δ : Fin 4 → Int} {s₀ : State} {s₁ : State} (h : Nat) (v : Vte) (hi : Inner δ s₀ s₁) : Inner δ s₀ (vtePut s₁ h v) := by
  unfold vtePut
  try extract_lets
  iterate 14 (all_goals first | assumption | with_reducible apply ite_inner | split | (refine Inner.upd rfl rfl rfl rfl rfl rfl rfl ?_) | dsimp +zetaDelta only)

theorem vteHw_inner {δ : Fin 4 → Int} {s₀ : State} {s₁ : State} (h : Nat) (v : Vte) (hi : Inner δ s₀ s₁) : Inner δ s₀ (vteHw s₁ h v) := by
  unfold vteHw
  try extract_lets
  iterate 14 (all_goals first | assumption | with_reducible apply vtePut_inner | with_reducible apply ite_inner | split | (refine Inner.upd rfl rfl rfl rfl rfl rfl rfl ?_) | dsimp +zetaDelta only)

theorem owedPut_inner {δ : Fin 4 → Int} {s₀ : State} {s₁ : State} (h : Nat) (o : Owed) (hi : Inner δ s₀ s₁) : Inner δ s₀ (owedPut s₁ h o) := by
  unfold owedPut
  try extract_lets
  iterate 14 (all_goals first | assumption | with_reducible apply ite_inner | split | (refine Inner.upd rfl rfl rfl rfl rfl rfl rfl ?_) | dsimp +zetaDelta only)

theorem addDropped_inner {δ : Fin 4 → Int} {s₀ : State} {s₁ : State} (h : Nat) (n : Nat) (hi : Inner δ s₀ s₁) : Inner δ s₀ (addDropped s₁ h n) := by
  unfold addDropped
  try extract_lets
  iterate 14 (all_goals first | assumption | with_reducible apply owedPut_inner | with_reducible apply vteHw_inner | with_reducible apply ite_inner | split | (refine Inner.upd rfl rfl rfl rfl rfl rfl rfl ?_) | dsimp +zetaDelta only)

theorem addDelivered_inner {δ : Fin 4 → Int} {s₀ : State} {s₁ : State} (h : Nat) (t : Nat) (hi : Inner δ s₀ s₁) : Inner δ s₀ (addDelivered s₁ h t) := by
  unfold addDelivered
  try extract_lets
  iterate 14 (all_goals first | assumption | with_reducible apply owedPut_inner | with_reducible apply vteHw_inner | with_reducible apply ite_inner | split | (refine Inner.upd rfl rfl rfl rfl rfl rfl rfl ?_) | dsimp +zetaDelta only)

theorem vteLoad_inner {δ : Fin 4 → Int} {s₀ : State} {s₁ : State} (h : Nat) (v : Vte) (hi : Inner δ s₀ s₁) : Inner δ s₀ (vteLoad s₁ h v) := by
  unfold vteLoad
  try extract_lets
  iterate 14 (all_goals first | assumption | with_reducible apply vteHw_inner | with_reducible apply vtePut_inner | with_reducible apply ite_inner | split | (refine Inner.upd rfl rfl rfl rfl rfl rfl rfl ?_) | dsimp +zetaDelta only)

theorem tgtPut_inner {δ : Fin 4 → Int} {s₀ : State} {s₁ : State} (t : Nat) (g : Tgt) (hi : Inner δ s₀ s₁) : Inner δ s₀ (tgtPut s₁ t g) := by
  unfold tgtPut
  try extract_lets
  iterate 14 (all_goals first | assumption | with_reducible apply ite_inner | split | (refine Inner.upd rfl rfl rfl rfl rfl rfl rfl ?_) | dsimp +zetaDelta only)

theorem groupPut_inner {δ : Fin 4 → Int} {s₀ : State} {s₁ : State} (g : Nat) (x : Group) (hi : Inner δ s₀ s₁) : Inner δ s₀ (groupPut s₁ g x) := by
  unfold groupPut
  try extract_lets
  iterate 14 (all_goals first | assumption | with_reducible apply ite_inner | split | (refine Inner.upd rfl rfl rfl rfl rfl rfl rfl ?_) | dsimp +zetaDelta only)

theorem couchPut_inner {δ : Fin 4 → Int} {s₀ : State} {s₁ : State} (g : Nat) (c : Couch) (hi : Inner δ s₀ s₁) : Inner δ s₀ (couchPut s₁ g c) := by
  unfold couchPut
  try extract_lets
  iterate 14 (all_goals first | assumption | with_reducible apply ite_inner | split | (refine Inner.upd rfl rfl rfl rfl rfl rfl rfl ?_) | dsimp +zetaDelta only)

theorem enqueue_inner {δ : Fin 4 → Int} {s₀ : State} {s₁ : State} (h : Nat) (hi : Inner δ s₀ s₁) : Inner δ s₀ (enqueue s₁ h) := by
  unfold enqueue
  try extract_lets
  iterate 14 (all_goals first | assumption | with_reducible apply ite_inner | split | (refine Inner.upd rfl rfl rfl rfl rfl rfl rfl ?_) | dsimp +zetaDelta only)

theorem apPut_inner {δ : Fin 4 → Int} {s₀ : State} {s₁ : State} (r : AperReq) (hi : Inner δ s₀ s₁) : Inner δ s₀ (apPut s₁ r) := by
  unfold apPut
  try extract_lets
  iterate 14 (all_goals first | assumption | with_reducible apply ite_inner | split | (refine Inner.upd rfl rfl rfl rfl rfl rfl rfl ?_) | dsimp +zetaDelta only)

theorem apRequest_inner {δ : Fin 4 → Int} {s₀ : State} {s₁ : State} (p : Purpose) (write : Bool) (offset : Nat) (data : List Word) (hi : Inner δ s₀ s₁) : Inner δ s₀ (apRequest s₁ p write offset data) := by
  unfold apRequest
  try extract_lets
  iterate 14 (all_goals first | assumption | with_reducible apply apPut_inner | with_reducible apply ite_inner | split | (refine Inner.upd rfl rfl rfl rfl rfl rfl rfl ?_) | dsimp +zetaDelta only)

theorem apBulk_inner {δ : Fin 4 → Int} {s₀ : State} {s₁ : State} (p : Purpose) (write : Bool) (runs : List Run) (hi : Inner δ s₀ s₁) : Inner δ s₀ (apBulk s₁ p write runs) := by
  unfold apBulk
  try extract_lets
  iterate 14 (all_goals first | assumption | with_reducible apply apPut_inner | with_reducible apply ite_inner | split | (refine Inner.upd rfl rfl rfl rfl rfl rfl rfl ?_) | dsimp +zetaDelta only)

theorem apDone_inner {δ : Fin 4 → Int} {s₀ : State} {s₁ : State} (tag : BitVec 8) (hi : Inner δ s₀ s₁) : Inner δ s₀ (apDone s₁ tag) := by
  unfold apDone
  try extract_lets
  iterate 14 (all_goals first | assumption | with_reducible apply noteBusy_inner | with_reducible apply ite_inner | split | (refine Inner.upd rfl rfl rfl rfl rfl rfl rfl ?_) | dsimp +zetaDelta only)

theorem fetchVte_inner {δ : Fin 4 → Int} {s₀ : State} {s₁ : State} (h : Nat) (hi : Inner δ s₀ s₁) : Inner δ s₀ (fetchVte s₁ h) := by
  unfold fetchVte
  try extract_lets
  iterate 14 (all_goals first | assumption | with_reducible apply apRequest_inner | with_reducible apply ite_inner | split | (refine Inner.upd rfl rfl rfl rfl rfl rfl rfl ?_) | dsimp +zetaDelta only)

theorem jnlPut_inner {δ : Fin 4 → Int} {s₀ : State} {s₁ : State} (p : Purpose) (r : Rec) (hi : Inner δ s₀ s₁) : Inner δ s₀ (jnlPut s₁ p r) := by
  unfold jnlPut
  try extract_lets
  iterate 14 (all_goals first | assumption | with_reducible apply apRequest_inner | with_reducible apply raiseStatus_inner | with_reducible apply ite_inner | split | (refine Inner.upd rfl rfl rfl rfl rfl rfl rfl ?_) | dsimp +zetaDelta only)

theorem jnlCopy_inner {δ : Fin 4 → Int} {s₀ : State} {s₁ : State} (r : Rec) (hi : Inner δ s₀ s₁) : Inner δ s₀ (jnlCopy s₁ r) := by
  unfold jnlCopy
  try extract_lets
  iterate 14 (all_goals first | assumption | with_reducible apply apRequest_inner | with_reducible apply ite_inner | split | (refine Inner.upd rfl rfl rfl rfl rfl rfl rfl ?_) | dsimp +zetaDelta only)

theorem jnl_inner {δ : Fin 4 → Int} {s₀ : State} {s₁ : State} (code : Byte) (arg : BitVec 24) (t : Nat) (ws : List (Nat × Word)) (hi : Inner δ s₀ s₁) : Inner δ s₀ (jnl s₁ code arg t ws) := by
  unfold jnl
  try extract_lets
  iterate 14 (all_goals first | assumption | with_reducible apply jnlCopy_inner | with_reducible apply jnlPut_inner | with_reducible apply ite_inner | split | (refine Inner.upd rfl rfl rfl rfl rfl rfl rfl ?_) | dsimp +zetaDelta only)

theorem jnlRatedW1_inner {δ : Fin 4 → Int} {s₀ : State} {s₁ : State} (tenant : Nat) (code : Byte) (arg : BitVec 24) (w1 : Word) (t : Nat) (ws : List (Nat × Word)) (hi : Inner δ s₀ s₁) : Inner δ s₀ (jnlRatedW1 s₁ tenant code arg w1 t ws) := by
  unfold jnlRatedW1
  try extract_lets
  iterate 14 (all_goals first | assumption | with_reducible apply jnlCopy_inner | with_reducible apply jnlPut_inner | with_reducible apply ite_inner | split | (refine Inner.upd rfl rfl rfl rfl rfl rfl rfl ?_) | dsimp +zetaDelta only)

theorem jnlRated_inner {δ : Fin 4 → Int} {s₀ : State} {s₁ : State} (tenant : Nat) (code : Byte) (arg : BitVec 24) (t : Nat) (ws : List (Nat × Word)) (hi : Inner δ s₀ s₁) : Inner δ s₀ (jnlRated s₁ tenant code arg t ws) := by
  unfold jnlRated
  try extract_lets
  iterate 14 (all_goals first | assumption | with_reducible apply jnlRatedW1_inner | with_reducible apply ite_inner | split | (refine Inner.upd rfl rfl rfl rfl rfl rfl rfl ?_) | dsimp +zetaDelta only)

theorem jnlCfgReject_inner {δ : Fin 4 → Int} {s₀ : State} {s₁ : State} (index : Nat) (kind : Nat) (reason : Nat) (caller : Nat) (owner : Nat) (hi : Inner δ s₀ s₁) : Inner δ s₀ (jnlCfgReject s₁ index kind reason caller owner) := by
  unfold jnlCfgReject
  try extract_lets
  iterate 14 (all_goals first | assumption | with_reducible apply jnlRated_inner | with_reducible apply ite_inner | split | (refine Inner.upd rfl rfl rfl rfl rfl rfl rfl ?_) | dsimp +zetaDelta only)

theorem jnlFault_inner {δ : Fin 4 → Int} {s₀ : State} {s₁ : State} (t : Nat) (code : Byte) (src : BitVec 8) (arg : BitVec 24) (w5 : Word) (w6 : Word) (inj : Bool) (hi : Inner δ s₀ s₁) : Inner δ s₀ (jnlFault s₁ t code src arg w5 w6 inj) := by
  unfold jnlFault
  try extract_lets
  iterate 14 (all_goals first | assumption | with_reducible apply jnlRatedW1_inner | with_reducible apply jnlPut_inner | with_reducible apply ite_inner | split | (refine Inner.upd rfl rfl rfl rfl rfl rfl rfl ?_) | dsimp +zetaDelta only)

/-- A fault that is counted. -/
theorem faultCount_inner {δ : Fin 4 → Int} {s₀ s₁ : State} (cls : BitVec 2) (src : BitVec 8) (arg m : BitVec 24) (inj : Bool)
    (hi : Inner δ s₀ s₁) : Inner δ s₀ (faultCount s₁ cls src arg m inj) :=
  Inner.fault (t := s₁) (f := (faultCount s₁ cls src arg m inj).flt) (a := (faultCount s₁ cls src arg m inj).ao) rfl rfl hi

theorem corrected_inner {δ : Fin 4 → Int} {s₀ s₁ : State} (src : BitVec 8) (arg : BitVec 24) (inj : Bool) (hi : Inner δ s₀ s₁) :
    Inner δ s₀ (corrected s₁ src arg inj) :=
  jnlFault_inner _ _ _ _ _ _ _ (faultCount_inner _ _ _ _ _ hi)

/-- The comparison of planes that no command says to differ. -/
theorem roundCompare_inner {δ : Fin 4 → Int} {s₀ s₁ : State} (h : BitVec 24) (hi : Inner δ s₀ s₁) : Inner δ s₀ (roundCompare s₁ h .agree).1 := by
  have hs : Inner δ s₀ (injectSpent s₁) := Inner.fault rfl rfl hi
  unfold roundCompare
  iterate 7 (all_goals first | assumption | exact corrected_inner _ _ _ hs | exact Inner.fault rfl rfl hs | contradiction | split | dsimp only)

theorem creditBack_inner {δ : Fin 4 → Int} {s₀ s₁ : State} (lane : Fin 4) (hi : Inner (fun l => δ l - oneOn lane l) s₀ s₁) :
    Inner δ s₀ (creditBack s₁ lane) where
  pending := hi.pending
  md := hi.md
  ctl := hi.ctl
  tm := hi.tm
  pw := hi.pw
  ao := hi.ao
  ap := hi.ap
  fu := hi.fu
  flt := hi.flt
  io := hi.io
  free := hi.free
  keys := hi.keys
  high := hi.high
  lmem := hi.lmem
  lanes l := by
    have h := hi.lanes l
    simp only [laneSum, creditBack, oneOn] at h ⊢
    by_cases e : lane = l
    · subst e; simp at h ⊢; omega
    · have : (s₁.vat.credits.set lane.val (s₁.vat.credits[lane] + 1))[l] = s₁.vat.credits[l] := by
        simp only [Fin.getElem_fin]
        rw [Vector.getElem_set_ne]
        intro k
        exact e (Fin.ext k)
      rw [this]
      rw [if_neg (fun k => e k.symm)] at h
      omega

theorem gain_cons {α : Type} (f : α → Fin 4) (δ : Fin 4 → Int) (x : α) (r : List α) :
    (fun i => δ i - ((List.filter (fun y => decide (f y = i)) (x :: r)).length : Int))
      = fun i => δ i - ((List.filter (fun y => decide (f y = i)) r).length : Int) - oneOn (f x) i := by
  funext i
  simp only [List.filter_cons, oneOn]
  by_cases k : f x = i
  · simp [k]; omega
  · simp [k, Ne.symm k]

/-- A list of things, each of which takes back what one lane lacks. -/
theorem lanes_inner {α : Type} {g : State → α → State} (f : α → Fin 4)
    (hg : ∀ {δ : Fin 4 → Int} {s₀ s₁ : State} (x : α), Inner (fun i => δ i - oneOn (f x) i) s₀ s₁ → Inner δ s₀ (g s₁ x)) {s₀ : State} :
    ∀ (l : List α) {δ : Fin 4 → Int} {s₁ : State},
      Inner (fun i => δ i - (l.filter fun x => decide (f x = i)).length) s₀ s₁ → Inner δ s₀ (forEach l s₁ g) := by
  intro l
  induction l with
  | nil => intro δ s₁ hi; simpa [forEach] using hi
  | cons x r ih =>
    intro δ s₁ hi
    rw [gain_cons] at hi
    exact ih (hg _ hi)

/-- Nothing gained and lost again. -/
theorem Inner.none (d : Fin 4 → Int) (s : State) : Inner (fun l => d l - d l) s s := by
  simp only [Int.sub_self]
  exact Inner.refl s

theorem filter_split {α : Type} (p q : α → Bool) (l : List α) :
    (l.filter q).length = ((l.filter p).filter q).length + ((l.filter fun x => !p x).filter q).length := by
  induction l with
  | nil => rfl
  | cons x r ih =>
    simp only [List.filter_cons]
    cases hp : p x <;> cases hq : q x <;> simp [hq, ih] <;> omega

theorem heapRefill_inner {δ : Fin 4 → Int} {s₀ : State} {s₁ : State}  (hi : Inner δ s₀ s₁) : Inner δ s₀ (heapRefill s₁) := by
  unfold heapRefill
  try extract_lets
  iterate 14 (all_goals first | assumption | with_reducible apply ite_inner | split | (refine Inner.upd rfl rfl rfl rfl rfl rfl rfl ?_) | dsimp +zetaDelta only)

theorem joinStream_inner {δ : Fin 4 → Int} {s₀ : State} {s₁ : State} (h : Nat) (t : Nat) (hi : Inner δ s₀ s₁) : Inner δ s₀ (joinStream s₁ h t) := by
  unfold joinStream
  try extract_lets
  iterate 14 (all_goals first | assumption | with_reducible apply vecPut_inner | with_reducible apply ite_inner | split | (refine Inner.upd rfl rfl rfl rfl rfl rfl rfl ?_) | dsimp +zetaDelta only)

theorem wdogFix_inner {δ : Fin 4 → Int} {s₀ : State} {s₁ : State} (t : Nat) (hi : Inner δ s₀ s₁) : Inner δ s₀ (wdogFix s₁ t) := by
  unfold wdogFix
  try extract_lets
  iterate 14 (all_goals first | assumption | with_reducible apply tgtPut_inner | with_reducible apply ite_inner | split | (refine Inner.upd rfl rfl rfl rfl rfl rfl rfl ?_) | dsimp +zetaDelta only)

theorem bellSent_inner {δ : Fin 4 → Int} {s₀ : State} {s₁ : State} (t : Nat) (hi : Inner δ s₀ s₁) : Inner δ s₀ (bellSent s₁ t) := by
  unfold bellSent
  try extract_lets
  iterate 14 (all_goals first | assumption | with_reducible apply tgtPut_inner | with_reducible apply ite_inner | split | (refine Inner.upd rfl rfl rfl rfl rfl rfl rfl ?_) | dsimp +zetaDelta only)

theorem pumpBells_inner {δ : Fin 4 → Int} {s₀ : State} : ∀ (n : Nat) {s₁ : State}, Inner δ s₀ s₁ → Inner δ s₀ (pumpBells n s₁) := by
  intro n
  induction n with
  | zero => intro s₁ hi; exact hi
  | succ k ih =>
    intro s₁ hi
    unfold pumpBells
    split
    · refine ite_inner (ih ?_) (ite_inner hi (ih (bellSent_inner _ ?_))) <;>
        (dsimp only; exact Inner.upd rfl rfl rfl rfl rfl rfl rfl hi)
    · exact hi

theorem sendBell_inner {δ : Fin 4 → Int} {s₀ : State} {s₁ : State} (t : Nat) (hi : Inner δ s₀ s₁) : Inner δ s₀ (sendBell s₁ t) := by
  unfold sendBell
  try extract_lets
  iterate 14 (all_goals first | assumption | with_reducible apply pumpBells_inner | with_reducible apply tgtPut_inner | with_reducible apply ite_inner | split | (refine Inner.upd rfl rfl rfl rfl rfl rfl rfl ?_) | dsimp +zetaDelta only)

theorem lateRec_inner {δ : Fin 4 → Int} {s₀ : State} {s₁ : State} (t : Nat) (o : Out) (issue : Nat) (hi : Inner δ s₀ s₁) : Inner δ s₀ (lateRec s₁ t o issue) := by
  unfold lateRec
  try extract_lets
  iterate 14 (all_goals first | assumption | with_reducible apply jnlRated_inner | with_reducible apply ite_inner | split | (refine Inner.upd rfl rfl rfl rfl rfl rfl rfl ?_) | dsimp +zetaDelta only)

theorem coalRec_inner {δ : Fin 4 → Int} {s₀ : State} {s₁ : State} (o : Out) (hi : Inner δ s₀ s₁) : Inner δ s₀ (coalRec s₁ o) := by
  unfold coalRec
  try extract_lets
  iterate 14 (all_goals first | assumption | with_reducible apply ite_inner | split | (refine Inner.upd rfl rfl rfl rfl rfl rfl rfl ?_) | dsimp +zetaDelta only)

theorem acceptVec_inner {δ : Fin 4 → Int} {s₀ : State} {s₁ : State} (h : Nat) (hi : Inner δ s₀ s₁) : Inner δ s₀ (acceptVec s₁ h) := by
  unfold acceptVec
  try extract_lets
  iterate 14 (all_goals first | assumption | with_reducible apply fetchVte_inner | with_reducible apply addDelivered_inner | with_reducible apply vecPut_inner | with_reducible apply ite_inner | split | (refine Inner.upd rfl rfl rfl rfl rfl rfl rfl ?_) | dsimp +zetaDelta only)

theorem outcomeGather_inner {δ : Fin 4 → Int} {s₀ : State} {s₁ : State} (h : Nat) (ok : Bool) (hi : Inner δ s₀ s₁) : Inner δ s₀ (outcomeGather s₁ h ok) := by
  unfold outcomeGather
  try extract_lets
  iterate 14 (all_goals first | assumption | with_reducible apply enqueue_inner | with_reducible apply vecPut_inner | with_reducible apply ite_inner | split | (refine Inner.upd rfl rfl rfl rfl rfl rfl rfl ?_) | dsimp +zetaDelta only)

/-- An egress outcome keeps the relation where what it does in its round does. -/
theorem outcomeAt_inner {δ : Fin 4 → Int} {s₀ s₁ : State} {act : State → Nat → State} (h : Nat) (ok : Bool)
    (ha : ∀ t, Inner δ s₀ t → Inner δ s₀ (act t h)) (hi : Inner δ s₀ s₁) : Inner δ s₀ (outcomeAt s₁ h ok act) := by
  have hc := roundCompare_inner (BitVec.ofNat 24 h) hi
  unfold outcomeAt
  exact ite_inner (outcomeGather_inner _ _ hi) (ite_inner (ha _ hc) (outcomeGather_inner _ _ hc))

theorem acceptOne_inner {δ : Fin 4 → Int} {s₀ : State} {s₁ : State} (t : Nat) (h : Nat) (hi : Inner δ s₀ s₁) : Inner δ s₀ (acceptOne t s₁ h) := by
  have h1 := outcomeAt_inner h true (fun _ k => acceptVec_inner h k) hi
  have h2 : Inner δ s₀ (addDelivered { outcomeAt s₁ h true acceptVec with
      cnt := { (outcomeAt s₁ h true acceptVec).cnt with delivered := (outcomeAt s₁ h true acceptVec).cnt.delivered + 1 } } h t) :=
    addDelivered_inner _ _ (Inner.upd rfl rfl rfl rfl rfl rfl rfl h1)
  unfold acceptOne
  exact ite_inner (fetchVte_inner _ h2) h2

theorem acceptRecs_inner {δ : Fin 4 → Int} {s₀ : State} {s₁ : State} (t : Nat) (hs : List Nat) (hi : Inner δ s₀ s₁) : Inner δ s₀ (acceptRecs s₁ t hs) := by
  unfold acceptRecs
  try extract_lets
  iterate 14 (all_goals first | assumption | with_reducible apply acceptOne_inner | with_reducible apply wdogFix_inner | with_reducible apply tgtPut_inner | with_reducible refine forEach_inner (fun _ _ _ => ?_) ?_ | with_reducible refine forEach_round (fun _ _ _ => ?_) ?_ | with_reducible apply ite_inner | split | (refine Inner.upd rfl rfl rfl rfl rfl rfl rfl ?_) | dsimp +zetaDelta only)

theorem strobe_inner {δ : Fin 4 → Int} {s₀ : State} {s₁ : State}  (hi : Inner δ s₀ s₁) : Inner δ s₀ (strobe s₁) := by
  unfold strobe
  try extract_lets
  iterate 14 (all_goals first | assumption | with_reducible apply ite_inner | split | (refine Inner.upd rfl rfl rfl rfl rfl rfl rfl ?_) | dsimp +zetaDelta only)

theorem closeWrite_inner {δ : Fin 4 → Int} {s₀ s₁ : State} (hi : Inner δ s₀ s₁) : Inner δ s₀ (closeWrite s₁) := by
  unfold closeWrite
  split
  · exact hi
  · rename_i w _
    have h1 : Inner δ s₀ (forEach w.recs { s₁ with ar := { s₁.ar with open_ := none } } fun x o => strobe (coalRec (lateRec x w.target.toNat o (now s₁)) o)) :=
      forEach_inner (fun _ _ k => strobe_inner (coalRec_inner _ (lateRec_inner _ _ _ k))) (Inner.upd rfl rfl rfl rfl rfl rfl rfl hi)
    dsimp only
    refine ite_inner hi (ite_inner (acceptRecs_inner _ _ ?_) ?_)
    · exact h1.writes _ _
    · split
      · exact Inner.upd rfl rfl rfl rfl rfl rfl rfl h1
      · exact hi

theorem closeWriteOf_inner {δ : Fin 4 → Int} {s₀ : State} {s₁ : State} (t : Nat) (hi : Inner δ s₀ s₁) : Inner δ s₀ (closeWriteOf s₁ t) := by
  unfold closeWriteOf
  try extract_lets
  iterate 14 (all_goals first | assumption | with_reducible apply closeWrite_inner | with_reducible apply ite_inner | split | (refine Inner.upd rfl rfl rfl rfl rfl rfl rfl ?_) | dsimp +zetaDelta only)

theorem batchEnd_inner {δ : Fin 4 → Int} {s₀ : State} {s₁ : State} (t : Nat) (hi : Inner δ s₀ s₁) : Inner δ s₀ (batchEnd s₁ t) := by
  unfold batchEnd
  try extract_lets
  iterate 14 (all_goals first | assumption | with_reducible apply closeWriteOf_inner | with_reducible apply sendBell_inner | with_reducible apply tgtPut_inner | with_reducible apply ite_inner | split | (refine Inner.upd rfl rfl rfl rfl rfl rfl rfl ?_) | dsimp +zetaDelta only)

theorem batchEndAll_inner {δ : Fin 4 → Int} {s₀ : State} {s₁ : State}  (hi : Inner δ s₀ s₁) : Inner δ s₀ (batchEndAll s₁) := by
  unfold batchEndAll
  try extract_lets
  iterate 14 (all_goals first | assumption | with_reducible apply batchEnd_inner | with_reducible refine forEach_inner (fun _ _ _ => ?_) ?_ | with_reducible refine forEach_round (fun _ _ _ => ?_) ?_ | with_reducible apply ite_inner | split | (refine Inner.upd rfl rfl rfl rfl rfl rfl rfl ?_) | dsimp +zetaDelta only)

theorem settleStream_inner {δ : Fin 4 → Int} {s₀ : State} {s₁ : State} (t : Nat) (hi : Inner δ s₀ s₁) : Inner δ s₀ (settleStream s₁ t) := by
  unfold settleStream
  try extract_lets
  iterate 14 (all_goals first | assumption | with_reducible apply batchEnd_inner | with_reducible apply heapRefill_inner | with_reducible apply tgtPut_inner | with_reducible apply ite_inner | split | (refine Inner.upd rfl rfl rfl rfl rfl rfl rfl ?_) | dsimp +zetaDelta only)

theorem leaveStream_inner {δ : Fin 4 → Int} {s₀ : State} {s₁ : State} (h : Nat) (hi : Inner δ s₀ s₁) : Inner δ s₀ (leaveStream s₁ h) := by
  unfold leaveStream
  try extract_lets
  iterate 14 (all_goals first | assumption | with_reducible apply settleStream_inner | with_reducible apply vecPut_inner | with_reducible apply noteBusy_inner | with_reducible apply ite_inner | split | (refine Inner.upd rfl rfl rfl rfl rfl rfl rfl ?_) | dsimp +zetaDelta only)

theorem dropEv_inner {δ : Fin 4 → Int} {s₀ : State} {s₁ : State} (h : Nat) (hi : Inner δ s₀ s₁) : Inner δ s₀ (dropEv s₁ h) := by
  unfold dropEv
  try extract_lets
  iterate 14 (all_goals first | assumption | with_reducible apply leaveStream_inner | with_reducible apply vecPut_inner | with_reducible apply ite_inner | split | (refine Inner.upd rfl rfl rfl rfl rfl rfl rfl ?_) | dsimp +zetaDelta only)

theorem promote_inner {δ : Fin 4 → Int} {s₀ : State} {s₁ : State} (h : Nat) (hi : Inner δ s₀ s₁) : Inner δ s₀ (promote s₁ h) := by
  unfold promote
  try extract_lets
  iterate 14 (all_goals first | assumption | with_reducible apply vecPut_inner | with_reducible apply ite_inner | split | (refine Inner.upd rfl rfl rfl rfl rfl rfl rfl ?_) | dsimp +zetaDelta only)

theorem setUnreach_inner {δ : Fin 4 → Int} {s₀ : State} {s₁ : State} (t : Nat) (cause : Nat) (host : Word) (hi : Inner δ s₀ s₁) : Inner δ s₀ (setUnreach s₁ t cause host) := by
  unfold setUnreach
  try extract_lets
  iterate 14 (all_goals first | assumption | with_reducible apply batchEnd_inner | with_reducible apply jnl_inner | with_reducible apply tgtPut_inner | with_reducible apply ite_inner | split | (refine Inner.upd rfl rfl rfl rfl rfl rfl rfl ?_) | dsimp +zetaDelta only)

theorem clearUnreach_inner {δ : Fin 4 → Int} {s₀ : State} {s₁ : State} (t : Nat) (always : Bool) (hi : Inner δ s₀ s₁) : Inner δ s₀ (clearUnreach s₁ t always) := by
  unfold clearUnreach
  try extract_lets
  iterate 14 (all_goals first | assumption | with_reducible apply sendBell_inner | with_reducible apply wdogFix_inner | with_reducible apply tgtPut_inner | with_reducible apply ite_inner | split | (refine Inner.upd rfl rfl rfl rfl rfl rfl rfl ?_) | dsimp +zetaDelta only)

theorem jnlDc_inner {δ : Fin 4 → Int} {s₀ : State} {s₁ : State} (p : Party) (d : PartyUnit) (code : Byte) (cause : Nat) (w7 : Bool) (result : Nat) (hi : Inner δ s₀ s₁) : Inner δ s₀ (jnlDc s₁ p d code cause w7 result) := by
  unfold jnlDc
  try extract_lets
  iterate 14 (all_goals first | assumption | with_reducible apply jnl_inner | with_reducible apply ite_inner | split | (refine Inner.upd rfl rfl rfl rfl rfl rfl rfl ?_) | dsimp +zetaDelta only)

theorem propEnd_inner {δ : Fin 4 → Int} {s₀ : State} {s₁ : State} (p : Party) (hi : Inner δ s₀ s₁) : Inner δ s₀ (propEnd s₁ p) := by
  unfold propEnd
  try extract_lets
  iterate 14 (all_goals first | assumption | with_reducible apply noteBusy_inner | with_reducible apply dcPut_inner | with_reducible apply ite_inner | split | (refine Inner.upd rfl rfl rfl rfl rfl rfl rfl ?_) | dsimp +zetaDelta only)

theorem propClose_inner {δ : Fin 4 → Int} {s₀ : State} {s₁ : State} (p : Party) (flag : Nat) (code : Byte) (cause : Nat) (hi : Inner δ s₀ s₁) : Inner δ s₀ (propClose s₁ p flag code cause) := by
  unfold propClose
  try extract_lets
  iterate 14 (all_goals first | assumption | with_reducible apply propEnd_inner | with_reducible apply jnlDc_inner | with_reducible apply dcRaise_inner | with_reducible apply ite_inner | split | (refine Inner.upd rfl rfl rfl rfl rfl rfl rfl ?_) | dsimp +zetaDelta only)

theorem propDone_inner {δ : Fin 4 → Int} {s₀ : State} {s₁ : State} (p : Party) (ok : Bool) (hi : Inner δ s₀ s₁) : Inner δ s₀ (propDone s₁ p ok) := by
  unfold propDone
  try extract_lets
  iterate 14 (all_goals first | assumption | with_reducible apply propEnd_inner | with_reducible apply jnlDc_inner | with_reducible apply dcRaise_inner | with_reducible apply ite_inner | split | (refine Inner.upd rfl rfl rfl rfl rfl rfl rfl ?_) | dsimp +zetaDelta only)

theorem couchRelease_inner {δ : Fin 4 → Int} {s₀ : State} {s₁ : State} (g : Nat) (hi : Inner δ s₀ s₁) : Inner δ s₀ (couchRelease s₁ g) := by
  unfold couchRelease
  try extract_lets
  iterate 14 (all_goals first | assumption | with_reducible apply couchPut_inner | with_reducible apply ite_inner | split | (refine Inner.upd rfl rfl rfl rfl rfl rfl rfl ?_) | dsimp +zetaDelta only)

theorem holdoffDecision_inner {δ : Fin 4 → Int} {s₀ : State} {s₁ : State} (g : Nat) (merged : Option Nat) (hi : Inner δ s₀ s₁) : Inner δ s₀ (holdoffDecision s₁ g merged) := by
  unfold holdoffDecision
  try extract_lets
  iterate 14 (all_goals first | assumption | with_reducible apply couchRelease_inner | with_reducible apply couchPut_inner | with_reducible apply ite_inner | split | (refine Inner.upd rfl rfl rfl rfl rfl rfl rfl ?_) | dsimp +zetaDelta only)

theorem countTimeDecision_inner {δ : Fin 4 → Int} {s₀ : State} {s₁ : State} (g : Nat) (hi : Inner δ s₀ s₁) : Inner δ s₀ (countTimeDecision s₁ g) := by
  unfold countTimeDecision
  try extract_lets
  iterate 14 (all_goals first | assumption | with_reducible apply couchRelease_inner | with_reducible apply ite_inner | split | (refine Inner.upd rfl rfl rfl rfl rfl rfl rfl ?_) | dsimp +zetaDelta only)

theorem calLeave_inner {δ : Fin 4 → Int} {s₀ : State} {s₁ : State} (id : Nat) (hi : Inner δ s₀ s₁) : Inner δ s₀ (calLeave s₁ id) := by
  unfold calLeave
  try extract_lets
  iterate 14 (all_goals first | assumption | with_reducible apply ite_inner | split | (refine Inner.upd rfl rfl rfl rfl rfl rfl rfl ?_) | dsimp +zetaDelta only)

theorem calEnter_inner {δ : Fin 4 → Int} {s₀ : State} {s₁ : State} (id : Nat) (hi : Inner δ s₀ s₁) : Inner δ s₀ (calEnter s₁ id) := by
  unfold calEnter
  try extract_lets
  iterate 14 (all_goals first | assumption | with_reducible apply ite_inner | split | (refine Inner.upd rfl rfl rfl rfl rfl rfl rfl ?_) | dsimp +zetaDelta only)

theorem couchCalendar_inner {δ : Fin 4 → Int} {s₀ : State} {s₁ : State} (g : Nat) (hi : Inner δ s₀ s₁) : Inner δ s₀ (couchCalendar s₁ g) := by
  unfold couchCalendar
  try extract_lets
  iterate 14 (all_goals first | assumption | with_reducible apply calEnter_inner | with_reducible apply calLeave_inner | with_reducible apply ite_inner | split | (refine Inner.upd rfl rfl rfl rfl rfl rfl rfl ?_) | dsimp +zetaDelta only)

theorem couchDecide_inner {δ : Fin 4 → Int} {s₀ : State} {s₁ : State} (g : Nat) (merged : Option Nat) (hi : Inner δ s₀ s₁) : Inner δ s₀ (couchDecide s₁ g merged) := by
  unfold couchDecide
  try extract_lets
  iterate 14 (all_goals first | assumption | with_reducible apply couchCalendar_inner | with_reducible apply countTimeDecision_inner | with_reducible apply holdoffDecision_inner | with_reducible apply couchRelease_inner | with_reducible apply couchPut_inner | with_reducible apply ite_inner | split | (refine Inner.upd rfl rfl rfl rfl rfl rfl rfl ?_) | dsimp +zetaDelta only)

theorem couchCount_inner {δ : Fin 4 → Int} {s₀ : State} {s₁ : State} (g : Nat) (n : Nat) (hi : Inner δ s₀ s₁) : Inner δ s₀ (couchCount s₁ g n) := by
  unfold couchCount
  try extract_lets
  iterate 14 (all_goals first | assumption | with_reducible apply couchPut_inner | with_reducible apply ite_inner | split | (refine Inner.upd rfl rfl rfl rfl rfl rfl rfl ?_) | dsimp +zetaDelta only)

theorem couchChange_inner {δ : Fin 4 → Int} {s₀ : State} {s₁ : State} (g : Nat) (c : Couch) (hi : Inner δ s₀ s₁) : Inner δ s₀ (couchChange s₁ g c) := by
  unfold couchChange
  try extract_lets
  iterate 14 (all_goals first | assumption | with_reducible apply couchCalendar_inner | with_reducible apply couchRelease_inner | with_reducible apply couchPut_inner | with_reducible apply ite_inner | split | (refine Inner.upd rfl rfl rfl rfl rfl rfl rfl ?_) | dsimp +zetaDelta only)

theorem entryReject_inner {δ : Fin 4 → Int} {s₀ : State} {s₁ : State} (kind : Nat) (i : Nat) (reason : Nat) (code : Nat) (hi : Inner δ s₀ s₁) : Inner δ s₀ (entryReject s₁ kind i reason code) := by
  unfold entryReject
  try extract_lets
  iterate 14 (all_goals first | assumption | with_reducible apply jnlCfgReject_inner | with_reducible apply raiseStatus_inner | with_reducible apply ite_inner | split | (refine Inner.upd rfl rfl rfl rfl rfl rfl rfl ?_) | dsimp +zetaDelta only)

theorem changeReport_inner {δ : Fin 4 → Int} {s₀ : State} {s₁ : State} (c : Change) (ok : Bool) (hi : Inner δ s₀ s₁) : Inner δ s₀ (changeReport s₁ c ok) := by
  unfold changeReport
  try extract_lets
  iterate 14 (all_goals first | assumption | with_reducible apply propDone_inner | with_reducible apply twRaise_inner | with_reducible apply eaRaise_inner | with_reducible apply eaPut_inner | with_reducible apply ite_inner | split | (refine Inner.upd rfl rfl rfl rfl rfl rfl rfl ?_) | dsimp +zetaDelta only)

theorem changeRefused_inner {δ : Fin 4 → Int} {s₀ : State} {s₁ : State} (c : Change) (kind : Nat) (i : Nat) (hi : Inner δ s₀ s₁) : Inner δ s₀ (changeRefused s₁ c kind i) := by
  unfold changeRefused
  try extract_lets
  iterate 14 (all_goals first | assumption | with_reducible apply changeReport_inner | with_reducible apply entryReject_inner | with_reducible apply ite_inner | split | (refine Inner.upd rfl rfl rfl rfl rfl rfl rfl ?_) | dsimp +zetaDelta only)

theorem changeForeign_inner {δ : Fin 4 → Int} {s₀ : State} {s₁ : State} (c : Change) (hi : Inner δ s₀ s₁) : Inner δ s₀ (changeForeign s₁ c) := by
  unfold changeForeign
  try extract_lets
  iterate 14 (all_goals first | assumption | with_reducible apply eaRaise_inner | with_reducible apply eaPut_inner | with_reducible apply ite_inner | split | (refine Inner.upd rfl rfl rfl rfl rfl rfl rfl ?_) | dsimp +zetaDelta only)

theorem vteDiscard_inner {δ : Fin 4 → Int} {s₀ : State} {s₁ : State} (h : Nat) (hi : Inner δ s₀ s₁) : Inner δ s₀ (vteDiscard s₁ h) := by
  unfold vteDiscard
  try extract_lets
  iterate 14 (all_goals first | assumption | with_reducible apply dropEv_inner | with_reducible apply addDropped_inner | with_reducible apply vecPut_inner | with_reducible apply ite_inner | split | (refine Inner.upd rfl rfl rfl rfl rfl rfl rfl ?_) | dsimp +zetaDelta only)

theorem vteRetarget_inner {δ : Fin 4 → Int} {s₀ : State} {s₁ : State} (h : Nat) (n : VteCfg) (hi : Inner δ s₀ s₁) : Inner δ s₀ (vteRetarget s₁ h n) := by
  unfold vteRetarget
  try extract_lets
  iterate 14 (all_goals first | assumption | with_reducible apply leaveStream_inner | with_reducible apply ite_inner | split | (refine Inner.upd rfl rfl rfl rfl rfl rfl rfl ?_) | dsimp +zetaDelta only)

theorem vteGens_inner {δ : Fin 4 → Int} {s₀ : State} {s₁ : State} (h : Nat) (sn : Snap) (sameTenant : Bool) (hi : Inner δ s₀ s₁) : Inner δ s₀ (vteGens s₁ h sn sameTenant) := by
  unfold vteGens
  try extract_lets
  iterate 14 (all_goals first | assumption | with_reducible apply vteRetarget_inner | with_reducible apply vecPut_inner | with_reducible apply ite_inner | split | (refine Inner.upd rfl rfl rfl rfl rfl rfl rfl ?_) | dsimp +zetaDelta only)

theorem pinChange_inner {δ : Fin 4 → Int} {s₀ s₁ : State} (h : Nat) (pin : Bool) (hi : Inner δ s₀ s₁) : Inner δ s₀ (pinChange s₁ h pin).1 := by
  unfold pinChange
  iterate 8 (all_goals first | assumption | split | (refine Inner.upd rfl rfl rfl rfl rfl rfl rfl ?_) | dsimp only)

theorem returnOne_inner {δ : Fin 4 → Int} {s₀ : State} {s₁ : State} (h : Nat) (hi : Inner δ s₀ s₁) : Inner δ s₀ (returnOne s₁ h) := by
  unfold returnOne
  try extract_lets
  iterate 14 (all_goals first | assumption | with_reducible apply leaveStream_inner | with_reducible apply tgtPut_inner | with_reducible apply vecPut_inner | with_reducible apply ite_inner | split | (refine Inner.upd rfl rfl rfl rfl rfl rfl rfl ?_) | dsimp +zetaDelta only)

theorem outcomeIn_inner {δ : Fin 4 → Int} {s₀ : State} {s₁ : State} (h : Nat) (hi : Inner δ s₀ s₁) : Inner δ s₀ (outcomeIn s₁ h) := by
  unfold outcomeIn
  try extract_lets
  iterate 14 (all_goals first | assumption | with_reducible apply acceptVec_inner | with_reducible apply returnOne_inner | with_reducible apply vecPut_inner | with_reducible apply ite_inner | split | (refine Inner.upd rfl rfl rfl rfl rfl rfl rfl ?_) | dsimp +zetaDelta only)

theorem refuseOne_inner {δ : Fin 4 → Int} {s₀ : State} {s₁ : State} (h : Nat) (hi : Inner δ s₀ s₁) : Inner δ s₀ (refuseOne s₁ h) :=
  outcomeAt_inner h false (fun _ k => returnOne_inner h k) hi

theorem vteStore_inner {δ : Fin 4 → Int} {s₀ : State} {s₁ : State} (h : Nat) (hi : Inner δ s₀ s₁) : Inner δ s₀ (vteStore s₁ h) := by
  unfold vteStore
  try extract_lets
  iterate 14 (all_goals first | assumption | with_reducible apply apRequest_inner | with_reducible apply vtePut_inner | with_reducible apply ite_inner | split | (refine Inner.upd rfl rfl rfl rfl rfl rfl rfl ?_) | dsimp +zetaDelta only)

theorem vteInstall_inner {δ : Fin 4 → Int} {s₀ s₁ : State} (h : Nat) (e : Vte) (n : VteCfg) (c : Change) (hi : Inner δ s₀ s₁) :
    Inner δ s₀ (vteInstall s₁ h e n c) := by
  unfold vteInstall
  have h2 : ∀ v w x, Inner δ s₀ (vteGens (vtePut s₁ h v) h w x) := fun v w x => vteGens_inner _ _ _ (vtePut_inner _ _ hi)
  have h4 : ∀ p u, Inner δ s₀ u → Inner δ s₀ (vteStore (pinChange u h p).1 h) := fun p u k => vteStore_inner _ (pinChange_inner _ _ k)
  refine changeReport_inner _ _ (ite_inner (entryReject_inner _ _ _ _ ?_) ?_) <;>
    exact h4 _ _ (ite_inner (h2 _ _ _) (vteDiscard_inner _ (h2 _ _ _)))

theorem vteApply_inner {δ : Fin 4 → Int} {s₀ s₁ u : State} (h : Nat) (c : Change) (hi : Inner δ s₀ s₁) (hu : vteApply s₁ h c = some u) :
    Inner δ s₀ u := by
  unfold vteApply at hu
  split at hu
  · cases hu
  · dsimp only at hu
    have key : ∀ {a b c : Prop} [Decidable a] [Decidable b] [Decidable c] {x y z : State},
        (if a then some x else if b then none else if c then some y else some z) = some u → u = x ∨ u = y ∨ u = z := by
      intro a b c _ _ _ x y z k
      by_cases ha : a
      · simp [ha] at k; exact .inl k.symm
      · by_cases hb : b
        · simp [ha, hb] at k
        · by_cases hc : c
          · simp [ha, hb, hc] at k; exact .inr (.inl k.symm)
          · simp [ha, hb, hc] at k; exact .inr (.inr k.symm)
    rcases key hu with rfl | rfl | rfl
    · exact changeForeign_inner _ hi
    · exact vteInstall_inner _ _ _ _ hi
    · exact changeRefused_inner _ _ _ hi

theorem vteBoundary_inner {δ : Fin 4 → Int} {s₀ : State} : ∀ (k : Nat) {s₁ : State} (h : Nat), Inner δ s₀ s₁ → Inner δ s₀ (vteBoundary k s₁ h) := by
  intro k
  induction k with
  | zero => intro s₁ h hi; exact hi
  | succ n ih =>
    intro s₁ h hi
    unfold vteBoundary
    refine ite_inner hi ?_
    split
    · exact hi
    · split
      · exact hi
      · rename_i hu
        exact ih _ (vecPut_inner _ _ (vteApply_inner _ _ hi hu))

theorem vteTry_inner {δ : Fin 4 → Int} {s₀ : State} {s₁ : State} (h : Nat) (hi : Inner δ s₀ s₁) : Inner δ s₀ (vteTry s₁ h) := by
  unfold vteTry
  try extract_lets
  iterate 14 (all_goals first | assumption | with_reducible apply vteBoundary_inner | with_reducible apply fetchVte_inner | with_reducible apply enqueue_inner | with_reducible apply ite_inner | split | (refine Inner.upd rfl rfl rfl rfl rfl rfl rfl ?_) | dsimp +zetaDelta only)

theorem tdStore_inner {δ : Fin 4 → Int} {s₀ : State} {s₁ : State} (t : Nat) (hi : Inner δ s₀ s₁) : Inner δ s₀ (tdStore s₁ t) := by
  unfold tdStore
  try extract_lets
  iterate 14 (all_goals first | assumption | with_reducible apply apRequest_inner | with_reducible apply ite_inner | split | (refine Inner.upd rfl rfl rfl rfl rfl rfl rfl ?_) | dsimp +zetaDelta only)

theorem tdInstall_inner {δ : Fin 4 → Int} {s₀ : State} {s₁ : State} (t : Nat) (g : Tgt) (n : Tgt) (hi : Inner δ s₀ s₁) : Inner δ s₀ (tdInstall s₁ t g n) := by
  unfold tdInstall
  try extract_lets
  iterate 14 (all_goals first | assumption | with_reducible apply tdStore_inner | with_reducible apply clearUnreach_inner | with_reducible apply batchEnd_inner | with_reducible apply wdogFix_inner | with_reducible apply tgtPut_inner | with_reducible apply ite_inner | split | (refine Inner.upd rfl rfl rfl rfl rfl rfl rfl ?_) | dsimp +zetaDelta only)

theorem tdApply_inner {δ : Fin 4 → Int} {s₀ : State} {s₁ : State} (t : Nat) (c : Change) (hi : Inner δ s₀ s₁) : Inner δ s₀ (tdApply s₁ t c) := by
  unfold tdApply
  try extract_lets
  iterate 14 (all_goals first | assumption | with_reducible apply tdInstall_inner | with_reducible apply changeRefused_inner | with_reducible apply changeReport_inner | with_reducible apply ite_inner | split | (refine Inner.upd rfl rfl rfl rfl rfl rfl rfl ?_) | dsimp +zetaDelta only)

theorem tdBoundary_inner {δ : Fin 4 → Int} {s₀ : State} : ∀ (k : Nat) {s₁ : State} (t : Nat), Inner δ s₀ s₁ → Inner δ s₀ (tdBoundary k s₁ t) := by
  intro k
  induction k with
  | zero => intro s₁ t hi; exact hi
  | succ n ih =>
    intro s₁ t hi
    unfold tdBoundary
    refine ite_inner hi ?_
    split
    · exact hi
    · exact ih _ (tdApply_inner _ _ (tgtPut_inner _ _ hi))

theorem groupApply_inner {δ : Fin 4 → Int} {s₀ : State} {s₁ : State} (i : Nat) (c : Change) (hi : Inner δ s₀ s₁) : Inner δ s₀ (groupApply s₁ i c) := by
  unfold groupApply
  try extract_lets
  iterate 14 (all_goals first | assumption | with_reducible apply changeRefused_inner | with_reducible apply changeReport_inner | with_reducible apply apRequest_inner | with_reducible apply groupPut_inner | with_reducible apply ite_inner | split | (refine Inner.upd rfl rfl rfl rfl rfl rfl rfl ?_) | dsimp +zetaDelta only)

theorem groupBoundary_inner {δ : Fin 4 → Int} {s₀ : State} : ∀ (k : Nat) {s₁ : State} (g : Nat), Inner δ s₀ s₁ → Inner δ s₀ (groupBoundary k s₁ g) := by
  intro k
  induction k with
  | zero => intro s₁ g hi; exact hi
  | succ n ih =>
    intro s₁ g hi
    unfold groupBoundary
    split
    · exact hi
    · exact ih _ (groupApply_inner (hi := groupPut_inner _ _ hi) ..)

theorem groupSettle_inner {δ : Fin 4 → Int} {s₀ : State} {s₁ : State} (gi : Nat) (hi : Inner δ s₀ s₁) : Inner δ s₀ (groupSettle s₁ gi) := by
  unfold groupSettle
  try extract_lets
  iterate 14 (all_goals first | assumption | with_reducible apply groupBoundary_inner | with_reducible apply ite_inner | split | (refine Inner.upd rfl rfl rfl rfl rfl rfl rfl ?_) | dsimp +zetaDelta only)

theorem groupTry_inner {δ : Fin 4 → Int} {s₀ : State} {s₁ : State} (gi : Nat) (hi : Inner δ s₀ s₁) : Inner δ s₀ (groupTry s₁ gi) := by
  unfold groupTry
  try extract_lets
  iterate 14 (all_goals first | assumption | with_reducible apply groupSettle_inner | with_reducible apply ite_inner | split | (refine Inner.upd rfl rfl rfl rfl rfl rfl rfl ?_) | dsimp +zetaDelta only)

theorem couchApply_inner {δ : Fin 4 → Int} {s₀ : State} {s₁ : State} (g : Nat) (c : Change) (hi : Inner δ s₀ s₁) : Inner δ s₀ (couchApply s₁ g c) := by
  unfold couchApply
  try extract_lets
  iterate 14 (all_goals first | assumption | with_reducible apply changeRefused_inner | with_reducible apply changeReport_inner | with_reducible apply entryReject_inner | with_reducible apply couchChange_inner | with_reducible apply apRequest_inner | with_reducible apply ite_inner | split | (refine Inner.upd rfl rfl rfl rfl rfl rfl rfl ?_) | dsimp +zetaDelta only)

theorem couchBoundary_inner {δ : Fin 4 → Int} {s₀ : State} : ∀ (k : Nat) {s₁ : State} (g : Nat), Inner δ s₀ s₁ → Inner δ s₀ (couchBoundary k s₁ g) := by
  intro k
  induction k with
  | zero => intro s₁ g hi; exact hi
  | succ n ih =>
    intro s₁ g hi
    unfold couchBoundary
    split
    · exact hi
    · exact ih _ (couchApply_inner _ _ (couchPut_inner _ _ hi))

theorem couchDecision_inner {δ : Fin 4 → Int} {s₀ : State} {s₁ : State} (g : Nat) (merged : Option Nat) (hi : Inner δ s₀ s₁) : Inner δ s₀ (couchDecision s₁ g merged) := by
  unfold couchDecision
  try extract_lets
  iterate 14 (all_goals first | assumption | with_reducible apply couchBoundary_inner | with_reducible apply couchDecide_inner | with_reducible apply ite_inner | split | (refine Inner.upd rfl rfl rfl rfl rfl rfl rfl ?_) | dsimp +zetaDelta only)

theorem couchTry_inner {δ : Fin 4 → Int} {s₀ : State} {s₁ : State} (g : Nat) (hi : Inner δ s₀ s₁) : Inner δ s₀ (couchTry s₁ g) := by
  unfold couchTry
  try extract_lets
  iterate 14 (all_goals first | assumption | with_reducible apply couchBoundary_inner | with_reducible apply ite_inner | split | (refine Inner.upd rfl rfl rfl rfl rfl rfl rfl ?_) | dsimp +zetaDelta only)

theorem submitOne_inner {δ : Fin 4 → Int} {s₀ : State} {s₁ : State} (kind : Nat) (i : Nat) (c : Change) (hi : Inner δ s₀ s₁) : Inner δ s₀ (submitOne s₁ kind i c) := by
  unfold submitOne
  try extract_lets
  iterate 14 (all_goals first | assumption | with_reducible apply couchTry_inner | with_reducible apply groupTry_inner | with_reducible apply tdBoundary_inner | with_reducible apply vteTry_inner | with_reducible apply changeRefused_inner | with_reducible apply couchPut_inner | with_reducible apply groupPut_inner | with_reducible apply tgtPut_inner | with_reducible apply vecPut_inner | with_reducible apply ite_inner | split | (refine Inner.upd rfl rfl rfl rfl rfl rfl rfl ?_) | dsimp +zetaDelta only)

theorem fenceCheck_inner {δ : Fin 4 → Int} {s₀ : State} {s₁ : State} (u : EaId) (hi : Inner δ s₀ s₁) : Inner δ s₀ (fenceCheck s₁ u) := by
  unfold fenceCheck
  try extract_lets
  iterate 14 (all_goals first | assumption | with_reducible apply eaRaise_inner | with_reducible apply eaPut_inner | with_reducible apply ite_inner | split | (refine Inner.upd rfl rfl rfl rfl rfl rfl rfl ?_) | dsimp +zetaDelta only)

theorem fenceBegin_inner {δ : Fin 4 → Int} {s₀ : State} {s₁ : State} (h : Nat) (u : EaId) (hi : Inner δ s₀ s₁) : Inner δ s₀ (fenceBegin h s₁ u) := by
  unfold fenceBegin
  try extract_lets
  iterate 14 (all_goals first | assumption | with_reducible apply fenceCheck_inner | with_reducible apply eaRaise_inner | with_reducible apply eaPut_inner | with_reducible apply ite_inner | split | (refine Inner.upd rfl rfl rfl rfl rfl rfl rfl ?_) | dsimp +zetaDelta only)

theorem fenceAll_inner {δ : Fin 4 → Int} {s₀ : State} {s₁ : State}  (hi : Inner δ s₀ s₁) : Inner δ s₀ (fenceAll s₁) := by
  unfold fenceAll
  try extract_lets
  iterate 14 (all_goals first | assumption | with_reducible apply fenceCheck_inner | with_reducible refine forEach_inner (fun _ _ _ => ?_) ?_ | with_reducible refine forEach_round (fun _ _ _ => ?_) ?_ | with_reducible apply ite_inner | split | (refine Inner.upd rfl rfl rfl rfl rfl rfl rfl ?_) | dsimp +zetaDelta only)

theorem settleAll_inner {δ : Fin 4 → Int} {s₀ : State} {s₁ : State}  (hi : Inner δ s₀ s₁) : Inner δ s₀ (settleAll s₁) := by
  unfold settleAll
  try extract_lets
  iterate 14 (all_goals first | assumption | with_reducible apply fenceAll_inner | with_reducible apply couchTry_inner | with_reducible apply groupTry_inner | with_reducible apply tdBoundary_inner | with_reducible refine forEach_inner (fun _ _ _ => ?_) ?_ | with_reducible apply ite_inner | split | (refine Inner.upd rfl rfl rfl rfl rfl rfl rfl ?_) | dsimp +zetaDelta only)

theorem submit_inner {δ : Fin 4 → Int} {s₀ : State} {s₁ : State} (kind : Nat) (i : Nat) (c : Change) (hi : Inner δ s₀ s₁) : Inner δ s₀ (submit s₁ kind i c) := by
  unfold submit
  try extract_lets
  iterate 14 (all_goals first | assumption | with_reducible apply fenceAll_inner | with_reducible apply submitOne_inner | with_reducible apply ite_inner | split | (refine Inner.upd rfl rfl rfl rfl rfl rfl rfl ?_) | dsimp +zetaDelta only)

theorem spill_inner {δ : Fin 4 → Int} {s₀ : State} {s₁ : State} (h : Nat) (hi : Inner δ s₀ s₁) : Inner δ s₀ (spill s₁ h) := by
  unfold spill
  try extract_lets
  iterate 14 (all_goals first | assumption | with_reducible apply apRequest_inner | with_reducible apply ite_inner | split | (refine Inner.upd rfl rfl rfl rfl rfl rfl rfl ?_) | dsimp +zetaDelta only)

theorem evict_inner {δ : Fin 4 → Int} {s₀ : State} {s₁ : State} (h : Nat) (hi : Inner δ s₀ s₁) : Inner δ s₀ (evict s₁ h) := by
  unfold evict
  try extract_lets
  iterate 14 (all_goals first | assumption | with_reducible apply vteAway_inner | with_reducible apply spill_inner | with_reducible apply vteStore_inner | with_reducible apply ite_inner | split | (refine Inner.upd rfl rfl rfl rfl rfl rfl rfl ?_) | dsimp +zetaDelta only)

theorem touch_inner {δ : Fin 4 → Int} {s₀ : State} {s₁ : State} (h : Nat) (hi : Inner δ s₀ s₁) : Inner δ s₀ (touch s₁ h) := by
  unfold touch
  try extract_lets
  iterate 14 (all_goals first | assumption | with_reducible apply ite_inner | split | (refine Inner.upd rfl rfl rfl rfl rfl rfl rfl ?_) | dsimp +zetaDelta only)

theorem install_inner {δ : Fin 4 → Int} {s₀ s₁ u : State} (h : Nat) (v : Vte) (hi : Inner δ s₀ s₁) (hu : install s₁ h v = some u) : Inner δ s₀ u := by
  unfold install at hu
  split at hu
  · cases hu; exact vteLoad_inner _ _ hi
  · split at hu
    · cases hu; exact vteLoad_inner _ _ hi
    · split at hu
      · cases hu
        exact vteLoad_inner _ _ (Inner.upd rfl rfl rfl rfl rfl rfl rfl hi)
      · split at hu
        · cases hu
        · cases hu
          refine vteLoad_inner _ _ (Inner.upd rfl rfl rfl rfl rfl rfl rfl (evict_inner _ (Inner.upd rfl rfl rfl rfl rfl rfl rfl hi)))

theorem spillFetch_inner {δ : Fin 4 → Int} {s₀ : State} {s₁ : State} (h : Nat) (hi : Inner δ s₀ s₁) : Inner δ s₀ (spillFetch s₁ h) := by
  unfold spillFetch
  try extract_lets
  iterate 14 (all_goals first | assumption | with_reducible apply apRequest_inner | with_reducible apply ite_inner | split | (refine Inner.upd rfl rfl rfl rfl rfl rfl rfl ?_) | dsimp +zetaDelta only)

theorem vteReload_inner {δ : Fin 4 → Int} {s₀ : State} {s₁ : State} (h : Nat) (hi : Inner δ s₀ s₁) : Inner δ s₀ (vteReload s₁ h) := by
  unfold vteReload
  try extract_lets
  iterate 14 (all_goals first | assumption | with_reducible apply apRequest_inner | with_reducible apply ite_inner | split | (refine Inner.upd rfl rfl rfl rfl rfl rfl rfl ?_) | dsimp +zetaDelta only)

theorem tdReload_inner {δ : Fin 4 → Int} {s₀ : State} {s₁ : State} (t : Nat) (hi : Inner δ s₀ s₁) : Inner δ s₀ (tdReload s₁ t) := by
  unfold tdReload
  try extract_lets
  iterate 14 (all_goals first | assumption | with_reducible apply apRequest_inner | with_reducible apply ite_inner | split | (refine Inner.upd rfl rfl rfl rfl rfl rfl rfl ?_) | dsimp +zetaDelta only)

theorem rowReload_inner {δ : Fin 4 → Int} {s₀ : State} {s₁ : State} (array : BitVec 8) (row : BitVec 16) (hi : Inner δ s₀ s₁) : Inner δ s₀ (rowReload s₁ array row) := by
  unfold rowReload
  try extract_lets
  iterate 14 (all_goals first | assumption | with_reducible apply tdReload_inner | with_reducible apply vteReload_inner | with_reducible apply ite_inner | split | (refine Inner.upd rfl rfl rfl rfl rfl rfl rfl ?_) | dsimp +zetaDelta only)

theorem writeback_inner {δ : Fin 4 → Int} {s₀ : State} {s₁ : State}  (hi : Inner δ s₀ s₁) : Inner δ s₀ (writeback s₁) := by
  unfold writeback
  try extract_lets
  iterate 14 (all_goals first | assumption | with_reducible apply tdStore_inner | with_reducible apply vteStore_inner | with_reducible refine forEach_inner (fun _ _ _ => ?_) ?_ | with_reducible refine forEach_round (fun _ _ _ => ?_) ?_ | with_reducible apply ite_inner | split | (refine Inner.upd rfl rfl rfl rfl rfl rfl rfl ?_) | dsimp +zetaDelta only)

theorem noteMerge_inner {δ : Fin 4 → Int} {s₀ : State} {s₁ : Round} (sn : Snap) (n : Nat) (time : Nat) (hi : Inner δ s₀ s₁.st) : Inner δ s₀ (noteMerge s₁ sn n time).st := by
  unfold noteMerge
  try extract_lets
  iterate 14 (all_goals first | assumption | with_reducible apply couchCount_inner | with_reducible apply ite_inner | split | (refine Inner.upd rfl rfl rfl rfl rfl rfl rfl ?_) | dsimp +zetaDelta only)

theorem mergeIn_inner {δ : Fin 4 → Int} {s₀ : State} {s₁ : Round} (h : Nat) (sn0 : Snap) (time : Nat) (count : Nat) (data : Word) (trunc : Bool) (hi : Inner δ s₀ s₁.st) : Inner δ s₀ (mergeIn s₁ h sn0 time count data trunc).st := by
  unfold mergeIn
  dsimp only
  split
  · exact hi
  · split
    · exact addDropped_inner _ _ hi
    · split
      · exact noteMerge_inner _ _ _ (vecPut_inner _ _ hi)
      · exact hi

theorem lineNote_inner {δ : Fin 4 → Int} {s₀ : State} {s₁ : State} (h : Nat) (on : Bool) (hi : Inner δ s₀ s₁) : Inner δ s₀ (lineNote s₁ h on) := by
  unfold lineNote
  try extract_lets
  iterate 14 (all_goals first | assumption | with_reducible apply vecPut_inner | with_reducible apply ite_inner | split | (refine Inner.upd rfl rfl rfl rfl rfl rfl rfl ?_) | dsimp +zetaDelta only)

theorem levelOn_inner {δ : Fin 4 → Int} {s₀ : State} {s₁ : Round} (h : Nat) (e : Vte) (sn0 : Snap) (time : Nat) (hi : Inner δ s₀ s₁.st) : Inner δ s₀ (levelOn s₁ h e sn0 time).st := by
  unfold levelOn
  try extract_lets
  iterate 14 (all_goals first | assumption | with_reducible apply lineNote_inner | with_reducible apply noteMerge_inner | with_reducible apply addDropped_inner | with_reducible apply vecPut_inner | with_reducible apply ite_inner | split | (refine Inner.upd rfl rfl rfl rfl rfl rfl rfl ?_) | dsimp +zetaDelta only)

theorem levelWithdraw_inner {δ : Fin 4 → Int} {s₀ s₁ : State} (h : Nat) (hi : Inner δ s₀ s₁) : Inner δ s₀ (levelWithdraw s₁ h) := by
  unfold levelWithdraw
  dsimp only
  have h1 := ite_inner (c := isLevelEv (vecOf s₁ h).ev = true) (dropEv_inner h hi) hi
  exact ite_inner (vecPut_inner _ _ h1) h1

theorem levelOff_inner {δ : Fin 4 → Int} {s₀ : State} {s₁ : Round} (h : Nat) (hi : Inner δ s₀ s₁.st) : Inner δ s₀ (levelOff s₁ h).st := by
  unfold levelOff
  split
  · exact ite_inner (levelWithdraw_inner _ (lineNote_inner _ _ hi)) (lineNote_inner _ _ hi)
  · exact hi

theorem levelIn_inner {δ : Fin 4 → Int} {s₀ : State} {s₁ : Round} (h : Nat) (sn : Snap) (time : Nat) (on : Bool) (hi : Inner δ s₀ s₁.st) : Inner δ s₀ (levelIn s₁ h sn time on).st := by
  unfold levelIn
  try extract_lets
  iterate 14 (all_goals first | assumption | with_reducible apply levelOff_inner | with_reducible apply levelOn_inner | with_reducible apply ite_inner | split | (refine Inner.upd rfl rfl rfl rfl rfl rfl rfl ?_) | dsimp +zetaDelta only)

theorem eoiStray_inner {δ : Fin 4 → Int} {s₀ : State} {s₁ : State} (h : Nat) (t : Nat) (reason : Nat) (active : Word) (hi : Inner δ s₀ s₁) : Inner δ s₀ (eoiStray s₁ h t reason active) := by
  unfold eoiStray
  try extract_lets
  iterate 14 (all_goals first | assumption | with_reducible apply jnlRated_inner | with_reducible apply ite_inner | split | (refine Inner.upd rfl rfl rfl rfl rfl rfl rfl ?_) | dsimp +zetaDelta only)

theorem activeEnd_inner {δ : Fin 4 → Int} {s₀ : State} {s₁ : State} (h : Nat) (a : Active) (hi : Inner δ s₀ s₁) : Inner δ s₀ (activeEnd s₁ h a) := by
  unfold activeEnd
  try extract_lets
  iterate 14 (all_goals first | assumption | with_reducible apply promote_inner | with_reducible apply tgtPut_inner | with_reducible apply vecPut_inner | with_reducible apply ite_inner | split | (refine Inner.upd rfl rfl rfl rfl rfl rfl rfl ?_) | dsimp +zetaDelta only)

theorem eoiIn_inner {δ : Fin 4 → Int} {s₀ : State} {r : Round} (h : Nat) (t : BitVec 16) (hi : Inner δ s₀ r.st) :
    Inner δ s₀ (eoiIn h r t).st := by
  unfold eoiIn
  dsimp only
  have h1 : ∀ a, Inner δ s₀ (activeEnd r.st h a) := fun a => activeEnd_inner _ _ hi
  split
  · exact eoiStray_inner _ _ _ _ hi
  · split
    · exact eoiStray_inner _ _ _ _ hi
    · split
      · exact eoiStray_inner _ _ _ _ hi
      · split
        · exact noteMerge_inner _ _ _ (vecPut_inner _ _ (h1 _))
        · exact h1 _

theorem eoisIn_inner {δ : Fin 4 → Int} {s₀ : State} {r : Round} (h : Nat) (hi : Inner δ s₀ r.st) : Inner δ s₀ (eoisIn r h).st := by
  unfold eoisIn
  exact forEach_round (fun _ _ k => eoiIn_inner _ _ k) (vecPut_inner _ _ hi)

theorem wiredLevel_inner {δ : Fin 4 → Int} {s₀ : State} {r : Round} (h : Nat) (hi : Inner δ s₀ r.st) : Inner δ s₀ (wiredLevel r h).st := by
  unfold wiredLevel
  dsimp only
  iterate 8 (all_goals first | assumption | exact levelIn_inner _ _ _ _ hi | exact lineNote_inner _ _ hi | split)

theorem wiredMerge_inner {δ : Fin 4 → Int} {s₀ : State} {s₁ : Round} (h : Nat) (hi : Inner δ s₀ s₁.st) : Inner δ s₀ (wiredMerge s₁ h).st := by
  unfold wiredMerge
  try extract_lets
  iterate 14 (all_goals first | assumption | with_reducible apply mergeIn_inner | with_reducible apply vecPut_inner | with_reducible apply ite_inner | split | (refine Inner.upd rfl rfl rfl rfl rfl rfl rfl ?_) | dsimp +zetaDelta only)

theorem stampSlept_inner {δ : Fin 4 → Int} {s₀ : State} {s₁ : State}  (hi : Inner δ s₀ s₁) : Inner δ s₀ (stampSlept s₁) := by
  unfold stampSlept
  try extract_lets
  iterate 14 (all_goals first | assumption | with_reducible apply ite_inner | split | (refine Inner.upd rfl rfl rfl rfl rfl rfl rfl ?_) | dsimp +zetaDelta only)

theorem checked_count (h : Nat) (l : Fin 4) (xs : List Slot) :
    (xs.filter fun x => decide (x.lane = l)).length
      = ((xs.filterMap (checkedAs h)).filter fun y => decide (y.1.lane = l)).length
        + ((xs.filter fun x => (checkedAs h x).isNone).filter fun x => decide (x.lane = l)).length := by
  induction xs with
  | nil => rfl
  | cons x r ih =>
    have k : checkedAs h x = none ∨ ∃ sn, checkedAs h x = some (x, sn) := by
      unfold checkedAs
      split
      · split
        · exact .inr ⟨_, rfl⟩
        · exact .inl rfl
      · exact .inl rfl
    rcases k with k | ⟨sn, k⟩ <;> by_cases e : x.lane = l <;> simp [k, e, ih] <;> omega

/-- The CHECKED slots of a vector leave the vat. -/
theorem checkedOut_inner {δ : Fin 4 → Int} {s₀ s₁ : State} (h : Nat) (hi : Inner δ s₀ s₁) :
    Inner (fun i => δ i - ((checkedOf s₁ h).filter fun x => decide (x.1.lane = i)).length) s₀
      { s₁ with vat := { s₁.vat with slots := s₁.vat.slots.filter fun x => (checkedAs h x).isNone } } := by
  refine { hi with lanes := ?_ }
  intro l
  have h0 := hi.lanes l
  have k := checked_count h l s₁.vat.slots
  simp only [laneSum, checkedOf] at h0 ⊢
  omega

theorem checkedFree_inner {δ : Fin 4 → Int} {s₀ s₁ : State} (h : Nat) (hi : Inner δ s₀ s₁) : Inner δ s₀ (checkedFree s₁ h) := by
  unfold checkedFree
  exact lanes_inner (fun x : Slot × Snap => x.1.lane) (fun _ k => creditBack_inner _ k) _ (checkedOut_inner h hi)

theorem messageIn_inner {δ : Fin 4 → Int} {s₀ : State} {s₁ : Round} (h : Nat) (x : Slot × Snap) (hi : Inner δ s₀ s₁.st) : Inner δ s₀ (messageIn h s₁ x).st := by
  unfold messageIn
  try extract_lets
  iterate 14 (all_goals first | assumption | with_reducible apply levelIn_inner | with_reducible apply mergeIn_inner | with_reducible apply ite_inner | split | (refine Inner.upd rfl rfl rfl rfl rfl rfl rfl ?_) | dsimp +zetaDelta only)

theorem vatIn_inner {δ : Fin 4 → Int} {s₀ : State} {r : Round} (h : Nat) (hi : Inner δ s₀ r.st) : Inner δ s₀ (vatIn r h).st := by
  unfold vatIn
  split
  · exact forEach_round (fun _ _ k => messageIn_inner _ _ k) (forEach_round (fun _ _ k => messageIn_inner _ _ k) (checkedFree_inner _ hi))
  · exact hi

theorem roundDecide_inner {δ : Fin 4 → Int} {s₀ : State} {s₁ : Round} (h : Nat) (hi : Inner δ s₀ s₁.st) : Inner δ s₀ (roundDecide s₁ h) := by
  unfold roundDecide
  try extract_lets
  iterate 14 (all_goals first | assumption | with_reducible apply couchDecision_inner | with_reducible apply vecPut_inner | with_reducible refine forEach_inner (fun _ _ _ => ?_) ?_ | with_reducible refine forEach_round (fun _ _ _ => ?_) ?_ | with_reducible apply ite_inner | split | (refine Inner.upd rfl rfl rfl rfl rfl rfl rfl ?_) | dsimp +zetaDelta only)

theorem heldFull_inner {δ : Fin 4 → Int} {s₀ : State} {s₁ : State} (ev : Ev) (hi : Inner δ s₀ s₁) : Inner δ s₀ (heldFull s₁ ev) := by
  unfold heldFull
  try extract_lets
  iterate 14 (all_goals first | assumption | with_reducible apply jnlRated_inner | with_reducible apply tgtPut_inner | with_reducible apply ite_inner | split | (refine Inner.upd rfl rfl rfl rfl rfl rfl rfl ?_) | dsimp +zetaDelta only)

theorem joinChosen_inner {δ : Fin 4 → Int} {s₀ : State} {s₁ : State} (h : Nat) (ev : Ev) (hi : Inner δ s₀ s₁) : Inner δ s₀ (joinChosen s₁ h ev) := by
  unfold joinChosen
  try extract_lets
  iterate 14 (all_goals first | assumption | with_reducible apply groupSettle_inner | with_reducible apply joinStream_inner | with_reducible apply groupPut_inner | with_reducible apply ite_inner | split | (refine Inner.upd rfl rfl rfl rfl rfl rfl rfl ?_) | dsimp +zetaDelta only)

theorem vecCalendar_inner {δ : Fin 4 → Int} {s₀ : State} {s₁ : State} (h : Nat) (hi : Inner δ s₀ s₁) : Inner δ s₀ (vecCalendar s₁ h) := by
  unfold vecCalendar
  try extract_lets
  iterate 14 (all_goals first | assumption | with_reducible apply calEnter_inner | with_reducible apply calLeave_inner | with_reducible apply ite_inner | split | (refine Inner.upd rfl rfl rfl rfl rfl rfl rfl ?_) | dsimp +zetaDelta only)

theorem candidate_inner {δ : Fin 4 → Int} {s₀ : State} {s₁ : State} (h : Nat) (hi : Inner δ s₀ s₁) : Inner δ s₀ (candidate s₁ h) := by
  unfold candidate
  try extract_lets
  iterate 14 (all_goals first | assumption | with_reducible apply vecCalendar_inner | with_reducible apply joinChosen_inner | with_reducible apply heldFull_inner | with_reducible apply leaveStream_inner | with_reducible apply ite_inner | split | (refine Inner.upd rfl rfl rfl rfl rfl rfl rfl ?_) | dsimp +zetaDelta only)

theorem retreat_inner {δ : Fin 4 → Int} {s₀ : State} {s₁ : State} (h : Nat) (hi : Inner δ s₀ s₁) : Inner δ s₀ (retreat s₁ h) := by
  unfold retreat
  try extract_lets
  iterate 14 (all_goals first | assumption | with_reducible apply vecCalendar_inner | with_reducible apply leaveStream_inner | with_reducible apply ite_inner | split | (refine Inner.upd rfl rfl rfl rfl rfl rfl rfl ?_) | dsimp +zetaDelta only)

theorem dequeue_inner {δ : Fin 4 → Int} {s₀ : State} {s₁ : State} (h : Nat) (hi : Inner δ s₀ s₁) : Inner δ s₀ (dequeue s₁ h) := by
  unfold dequeue
  try extract_lets
  iterate 14 (all_goals first | assumption | with_reducible apply noteBusy_inner | with_reducible apply ite_inner | split | (refine Inner.upd rfl rfl rfl rfl rfl rfl rfl ?_) | dsimp +zetaDelta only)

theorem roundInputs_inner {δ : Fin 4 → Int} {s₀ s₁ : State} (h : Nat) (hi : Inner δ s₀ s₁) : Inner δ s₀ (roundInputs s₁ h).st := by
  unfold roundInputs
  exact wiredMerge_inner _ (vatIn_inner _ (wiredLevel_inner _ (eoisIn_inner _ (vteBoundary_inner _ _ (outcomeIn_inner _ hi)))))

theorem roundSettle_inner {δ : Fin 4 → Int} {s₀ : State} {r : Round} (h : Nat) (hi : Inner δ s₀ r.st) : Inner δ s₀ (roundSettle r h).st := by
  unfold roundSettle
  exact vteBoundary_inner _ _ (promote_inner _ (roundDecide_inner _ hi))

theorem roundEnd_inner {δ : Fin 4 → Int} {s₀ : State} {r : Round} (h : Nat) (hi : Inner δ s₀ r.st) : Inner δ s₀ (roundEnd r h) := by
  unfold roundEnd
  exact settleAll_inner (ite_inner (retreat_inner _ hi) (candidate_inner _ hi))

theorem roundEois_inner {δ : Fin 4 → Int} {s₀ s₁ : State} (h : Nat) (hi : Inner δ s₀ s₁) : Inner δ s₀ (roundEois s₁ h) := by
  unfold roundEois
  exact settleAll_inner (retreat_inner _ (roundSettle_inner _ (eoisIn_inner _ hi)))

theorem roundEarly_inner {δ : Fin 4 → Int} {s₀ s₁ : State} (h : Nat) (hi : Inner δ s₀ s₁) : Inner δ s₀ (roundEarly s₁ h) := by
  unfold roundEarly
  have h1 := outcomeIn_inner h hi
  exact ite_inner (roundEois_inner _ h1) h1

theorem roundFetch_inner {δ : Fin 4 → Int} {s₀ s₁ : State} (h : Nat) (hi : Inner δ s₀ s₁) : Inner δ s₀ (roundFetch s₁ h) := by
  unfold roundFetch
  have h1 := roundEarly_inner h hi
  exact ite_inner (fetchVte_inner _ h1) (ite_inner (spillFetch_inner _ h1) h1)

theorem roundCommit_inner {δ : Fin 4 → Int} {s₀ s₁ : State} (h : Nat) (hi : Inner δ s₀ s₁) : Inner δ s₀ (roundCommit s₁ h) := by
  unfold roundCommit
  have h0 : Inner δ s₀ (stampSlept (dequeue s₁ h)) := stampSlept_inner (dequeue_inner _ hi)
  exact ite_inner hi (ite_inner (roundFetch_inner _ h0) (roundEnd_inner _ (roundSettle_inner h (roundInputs_inner h h0))))

theorem noise_inner {δ : Fin 4 → Int} {s₀ : State} {s₁ : State} (b : Beat) (stamp : Nat) (reason : Nat) (h : Option Nat) (hi : Inner δ s₀ s₁) : Inner δ s₀ (noise s₁ b stamp reason h) := by
  unfold noise
  try extract_lets
  iterate 14 (all_goals first | assumption | with_reducible apply jnlRated_inner | with_reducible apply addDropped_inner | with_reducible apply raiseStatus_inner | with_reducible apply ite_inner | split | (refine Inner.upd rfl rfl rfl rfl rfl rfl rfl ?_) | dsimp +zetaDelta only)

theorem quarCount_inner {δ : Fin 4 → Int} {s₀ : State} {s₁ : State} (p : BitVec 8) (sender : BitVec 12) (hi : Inner δ s₀ s₁) : Inner δ s₀ (quarCount s₁ p sender) := by
  unfold quarCount
  try extract_lets
  iterate 14 (all_goals first | assumption | with_reducible apply jnl_inner | with_reducible apply ite_inner | split | (refine Inner.upd rfl rfl rfl rfl rfl rfl rfl ?_) | dsimp +zetaDelta only)

theorem stranger_inner {δ : Fin 4 → Int} {s₀ : State} {s₁ : State} (b : Beat) (stamp : Nat) (reason : Nat) (h : Nat) (e : Vte) (hi : Inner δ s₀ s₁) : Inner δ s₀ (stranger s₁ b stamp reason h e) := by
  unfold stranger
  try extract_lets
  iterate 14 (all_goals first | assumption | with_reducible apply quarCount_inner | with_reducible apply jnlRated_inner | with_reducible apply addDropped_inner | with_reducible apply twRaise_inner | with_reducible apply tnPut_inner | with_reducible apply raiseStatus_inner | with_reducible apply ite_inner | split | (refine Inner.upd rfl rfl rfl rfl rfl rfl rfl ?_) | dsimp +zetaDelta only)

/-- A slot put into the vat adds one slot to its lane, wherever its take order places it. -/
theorem slotInsert_lane (x : Slot) (l : Fin 4) (xs : List Slot) :
    ((slotInsert x xs).filter fun y => decide (y.lane = l)).length
      = (xs.filter fun y => decide (y.lane = l)).length + if x.lane = l then 1 else 0 := by
  induction xs with
  | nil => by_cases e : x.lane = l <;> simp [slotInsert, e]
  | cons y r ih =>
    unfold slotInsert
    split
    · by_cases e : x.lane = l <;> by_cases k : y.lane = l <;> simp [List.filter_cons, e, k]
    · simp only [List.filter_cons]
      by_cases k : y.lane = l
      · simp only [k, decide_true, if_true, List.length_cons, ih]; omega
      · simp only [k, decide_false, Bool.false_eq_true, if_false, ih]

/-- A slot takes a place in the vat. -/
theorem vatPut_inner {δ : Fin 4 → Int} {s₀ s₁ : State} (x : Slot) (hi : Inner (fun l => δ l - oneOn x.lane l) s₀ s₁) :
    Inner δ s₀ (vatPut s₁ x) :=
  { hi with
    lanes := by
      intro l
      have h := hi.lanes l
      simp only [laneSum, vatPut, oneOn, slotInsert_lane] at h ⊢
      by_cases e : x.lane = l
      · simp [e] at h ⊢; omega
      · simp [e, Ne.symm e] at h ⊢; omega }

theorem vatStage_inner {δ : Fin 4 → Int} {s₀ : State} {s₁ : State}  (hi : Inner δ s₀ s₁) : Inner δ s₀ (vatStage s₁) := by
  unfold vatStage
  try extract_lets
  iterate 14 (all_goals first | assumption | with_reducible apply raiseStatus_inner | with_reducible apply ite_inner | split | (refine Inner.upd rfl rfl rfl rfl rfl rfl rfl ?_) | dsimp +zetaDelta only)

/-- A beat whose entry is on chip keeps its slot or gives its credit back. -/
theorem postResolve_inner {δ : Fin 4 → Int} {s₀ s₁ : State} (x : Slot) (h : Nat) (e : Vte)
    (hi : Inner (fun l => δ l - oneOn x.lane l) s₀ s₁) : Inner δ s₀ (postResolve s₁ x h e) := by
  unfold postResolve
  dsimp only
  have hp : Inner δ s₀ (enqueue (vatPut s₁ { x with st := .checked h (snapOf e) }) h) := enqueue_inner _ (vatPut_inner _ hi)
  exact ite_inner (creditBack_inner _ (noise_inner _ _ _ _ hi)) (ite_inner (creditBack_inner _ (noise_inner _ _ _ _ hi))
    (ite_inner (creditBack_inner _ (stranger_inner _ _ _ _ _ hi)) (ite_inner (creditBack_inner _ (stranger_inner _ _ _ _ _ hi))
      (ite_inner (jnlRated_inner _ _ _ _ _ hp) hp))))

/-- The slots that satisfy a condition leave the vat. -/
theorem slots_out {δ : Fin 4 → Int} {s₀ s₁ : State} (p : Slot → Bool) (hi : Inner δ s₀ s₁) :
    Inner (fun i => δ i - ((s₁.vat.slots.filter p).filter fun x => decide (x.lane = i)).length) s₀
      { s₁ with vat := { s₁.vat with slots := s₁.vat.slots.filter fun x => !p x } } :=
  { hi with
    lanes := by
      intro l
      have h := hi.lanes l
      have k := filter_split p (fun x => decide (x.lane = l)) s₁.vat.slots
      simp only [laneSum] at h ⊢
      omega }

theorem windowsEnd_inner {δ : Fin 4 → Int} {s₀ : State} {s₁ : State}  (hi : Inner δ s₀ s₁) : Inner δ s₀ (windowsEnd s₁) := by
  unfold windowsEnd
  try extract_lets
  iterate 14 (all_goals first | assumption | with_reducible apply ite_inner | split | (refine Inner.upd rfl rfl rfl rfl rfl rfl rfl ?_) | dsimp +zetaDelta only)

theorem fetchResolve_inner {δ : Fin 4 → Int} {s₀ s₁ : State} (h : Nat) (v : Vte) (hi : Inner δ s₀ s₁) : Inner δ s₀ (fetchResolve s₁ h v) := by
  unfold fetchResolve
  exact lanes_inner (fun x : Slot => x.lane) (fun x k => postResolve_inner x _ _ k) _ (slots_out _ hi)

theorem fetchNoise_inner {δ : Fin 4 → Int} {s₀ s₁ : State} (h reason : Nat) (hi : Inner δ s₀ s₁) : Inner δ s₀ (fetchNoise s₁ h reason) := by
  unfold fetchNoise
  exact lanes_inner (fun x : Slot => x.lane) (fun x k => creditBack_inner _ (noise_inner _ _ _ _ k)) _ (slots_out _ hi)

theorem unformedSettle_inner {δ : Fin 4 → Int} {s₀ : State} {s₁ : State}  (hi : Inner δ s₀ s₁) : Inner δ s₀ (unformedSettle s₁) := by
  unfold unformedSettle
  try extract_lets
  iterate 14 (all_goals first | assumption | with_reducible apply settleAll_inner | with_reducible apply couchTry_inner | with_reducible apply vteTry_inner | with_reducible refine forEach_inner (fun _ _ _ => ?_) ?_ | with_reducible refine forEach_round (fun _ _ _ => ?_) ?_ | with_reducible apply ite_inner | split | (refine Inner.upd rfl rfl rfl rfl rfl rfl rfl ?_) | dsimp +zetaDelta only)

theorem headFetch_inner {δ : Fin 4 → Int} {s₀ : State} {s₁ : State} (t : Nat) (hi : Inner δ s₀ s₁) : Inner δ s₀ (headFetch s₁ t) := by
  unfold headFetch
  try extract_lets
  iterate 14 (all_goals first | assumption | with_reducible apply spillFetch_inner | with_reducible apply fetchVte_inner | with_reducible apply ite_inner | split | (refine Inner.upd rfl rfl rfl rfl rfl rfl rfl ?_) | dsimp +zetaDelta only)

theorem pruneStream_inner {δ : Fin 4 → Int} {s₀ : State} {s₁ : State} (t : Nat) (hi : Inner δ s₀ s₁) : Inner δ s₀ (pruneStream s₁ t) := by
  unfold pruneStream
  try extract_lets
  iterate 14 (all_goals first | assumption | with_reducible apply vecCalendar_inner | with_reducible apply leaveStream_inner | with_reducible refine forEach_inner (fun _ _ _ => ?_) ?_ | with_reducible refine forEach_round (fun _ _ _ => ?_) ?_ | with_reducible apply ite_inner | split | (refine Inner.upd rfl rfl rfl rfl rfl rfl rfl ?_) | dsimp +zetaDelta only)

theorem countWaits_inner {δ : Fin 4 → Int} {s₀ : State} {s₁ : State} (req : List Nat) (win : Nat) (hi : Inner δ s₀ s₁) : Inner δ s₀ (countWaits s₁ req win) := by
  unfold countWaits
  try extract_lets
  iterate 14 (all_goals first | assumption | with_reducible apply tgtPut_inner | with_reducible refine forEach_inner (fun _ _ _ => ?_) ?_ | with_reducible refine forEach_round (fun _ _ _ => ?_) ?_ | with_reducible apply ite_inner | split | (refine Inner.upd rfl rfl rfl rfl rfl rfl rfl ?_) | dsimp +zetaDelta only)

theorem charge_inner {δ : Fin 4 → Int} {s₀ : State} {s₁ : State} (t : Nat) (h : Nat) (ev : Ev) (hi : Inner δ s₀ s₁) : Inner δ s₀ (charge s₁ t h ev) := by
  unfold charge
  try extract_lets
  iterate 14 (all_goals first | assumption | with_reducible apply jnlRated_inner | with_reducible apply tgtPut_inner | with_reducible apply tnPut_inner | with_reducible apply ite_inner | split | (refine Inner.upd rfl rfl rfl rfl rfl rfl rfl ?_) | dsimp +zetaDelta only)

theorem openAdd_inner {δ : Fin 4 → Int} {s₀ : State} {s₁ : State} (t : Nat) (o : Out) (hi : Inner δ s₀ s₁) : Inner δ s₀ (openAdd s₁ t o) := by
  unfold openAdd
  try extract_lets
  iterate 14 (all_goals first | assumption | with_reducible apply tgtPut_inner | with_reducible apply ite_inner | split | (refine Inner.upd rfl rfl rfl rfl rfl rfl rfl ?_) | dsimp +zetaDelta only)

theorem grantOne_inner {δ : Fin 4 → Int} {s₀ : State} {s₁ : State} (t : Nat) (h : Nat) (ev : Ev) (hi : Inner δ s₀ s₁) : Inner δ s₀ (grantOne s₁ t h ev) := by
  unfold grantOne
  try extract_lets
  iterate 14 (all_goals first | assumption | with_reducible apply openAdd_inner | with_reducible apply charge_inner | with_reducible apply heldFull_inner | with_reducible apply tgtPut_inner | with_reducible apply vecPut_inner | with_reducible apply ite_inner | split | (refine Inner.upd rfl rfl rfl rfl rfl rfl rfl ?_) | dsimp +zetaDelta only)

theorem roundGrant_inner {δ : Fin 4 → Int} {s₀ : State} {s₁ : State} (req : List Nat) (t : Nat) (hi : Inner δ s₀ s₁) : Inner δ s₀ (roundGrant s₁ req t) := by
  unfold roundGrant
  try extract_lets
  iterate 14 (all_goals first | assumption | with_reducible apply grantOne_inner | with_reducible apply countWaits_inner | with_reducible apply settleStream_inner | with_reducible apply batchEnd_inner | with_reducible apply closeWriteOf_inner | with_reducible apply closeWrite_inner | with_reducible apply noteBusy_inner | with_reducible apply ite_inner | split | (refine Inner.upd rfl rfl rfl rfl rfl rfl rfl ?_) | dsimp +zetaDelta only)

theorem arbiterStep_inner {δ : Fin 4 → Int} {s₀ : State} {s₁ : State}  (hi : Inner δ s₀ s₁) : Inner δ s₀ (arbiterStep s₁) := by
  unfold arbiterStep
  try extract_lets
  iterate 14 (all_goals first | assumption | with_reducible apply roundGrant_inner | with_reducible apply pruneStream_inner | with_reducible apply headFetch_inner | with_reducible apply settleAll_inner | with_reducible refine forEach_inner (fun _ _ _ => ?_) ?_ | with_reducible refine forEach_round (fun _ _ _ => ?_) ?_ | with_reducible apply ite_inner | split | (refine Inner.upd rfl rfl rfl rfl rfl rfl rfl ?_) | dsimp +zetaDelta only)

theorem flightDrop_inner {δ : Fin 4 → Int} {s₀ : State} {s₁ : State} (tag : BitVec 8) (hi : Inner δ s₀ s₁) : Inner δ s₀ (flightDrop s₁ tag) := by
  unfold flightDrop
  try extract_lets
  iterate 14 (all_goals first | assumption | with_reducible apply ite_inner | split | (refine Inner.upd rfl rfl rfl rfl rfl rfl rfl ?_) | dsimp +zetaDelta only)

theorem recordsRefused_inner {δ : Fin 4 → Int} {s₀ : State} {s₁ : State} (w : EgWrite) (hi : Inner δ s₀ s₁) : Inner δ s₀ (recordsRefused s₁ w) := by
  unfold recordsRefused
  try extract_lets
  iterate 14 (all_goals first | assumption | with_reducible apply refuseOne_inner | with_reducible apply setUnreach_inner | with_reducible apply tgtPut_inner | with_reducible refine forEach_inner (fun _ _ _ => ?_) ?_ | with_reducible refine forEach_round (fun _ _ _ => ?_) ?_ | with_reducible apply ite_inner | split | (refine Inner.upd rfl rfl rfl rfl rfl rfl rfl ?_) | dsimp +zetaDelta only)

theorem bellRefused_inner {δ : Fin 4 → Int} {s₀ : State} {s₁ : State} (w : EgWrite) (hi : Inner δ s₀ s₁) : Inner δ s₀ (bellRefused s₁ w) := by
  unfold bellRefused
  try extract_lets
  iterate 14 (all_goals first | assumption | with_reducible apply setUnreach_inner | with_reducible apply tgtPut_inner | with_reducible apply ite_inner | split | (refine Inner.upd rfl rfl rfl rfl rfl rfl rfl ?_) | dsimp +zetaDelta only)

theorem stall_inner {δ : Fin 4 → Int} {s₀ : State} {s₁ : State} (t : Nat) (hi : Inner δ s₀ s₁) : Inner δ s₀ (stall s₁ t) := by
  unfold stall
  try extract_lets
  iterate 14 (all_goals first | assumption | with_reducible apply jnl_inner | with_reducible apply tgtPut_inner | with_reducible apply ite_inner | split | (refine Inner.upd rfl rfl rfl rfl rfl rfl rfl ?_) | dsimp +zetaDelta only)

theorem wdogExpire_inner {δ : Fin 4 → Int} {s₀ : State} {s₁ : State} (t : Nat) (hi : Inner δ s₀ s₁) : Inner δ s₀ (wdogExpire s₁ t) := by
  unfold wdogExpire
  try extract_lets
  iterate 14 (all_goals first | assumption | with_reducible apply stall_inner | with_reducible apply sendBell_inner | with_reducible apply tgtPut_inner | with_reducible apply ite_inner | split | (refine Inner.upd rfl rfl rfl rfl rfl rfl rfl ?_) | dsimp +zetaDelta only)

theorem denied_inner {δ : Fin 4 → Int} {s₀ : State} {s₁ : State} (t : Nat) (hi : Inner δ s₀ s₁) : Inner δ s₀ (denied s₁ t) := by
  unfold denied
  try extract_lets
  iterate 14 (all_goals first | assumption | with_reducible apply twRaise_inner | with_reducible apply tnPut_inner | with_reducible apply ite_inner | split | (refine Inner.upd rfl rfl rfl rfl rfl rfl rfl ?_) | dsimp +zetaDelta only)

theorem lockBreak_inner {δ : Fin 4 → Int} {s₀ : State} {s₁ : State} (u : EaId) (cause : Nat) (hi : Inner δ s₀ s₁) : Inner δ s₀ (lockBreak s₁ u cause) := by
  unfold lockBreak
  try extract_lets
  iterate 14 (all_goals first | assumption | with_reducible apply jnl_inner | with_reducible apply twRaise_inner | with_reducible apply eaRaise_inner | with_reducible apply eaPut_inner | with_reducible apply raiseStatus_inner | with_reducible apply ite_inner | split | (refine Inner.upd rfl rfl rfl rfl rfl rfl rfl ?_) | dsimp +zetaDelta only)

theorem ifIdle_inner {δ : Fin 4 → Int} {s₀ s₁ : State} (u : EaId) {f : State → State} (hi : Inner δ s₀ s₁) (hf : Inner δ s₀ (f s₁)) :
    Inner δ s₀ (ifIdle u s₁ f) := by
  unfold ifIdle
  exact ite_inner (eaRaise_inner _ _ hi) hf

theorem leaseLapse_inner {δ : Fin 4 → Int} {s₀ s₁ : State} (u : EaId) (hi : Inner δ s₀ s₁) : Inner δ s₀ (leaseLapse s₁ u) := by
  unfold leaseLapse
  split
  · exact ite_inner (lockBreak_inner _ _ hi) hi
  · exact hi

theorem withLock_inner {δ : Fin 4 → Int} {s₀ s₁ : State} (u : EaId) (kind : BitVec 3) (i : Nat) {f : State → Lock → State} (hi : Inner δ s₀ s₁)
    (hf : ∀ l, Inner δ s₀ (f s₁ l)) : Inner δ s₀ (withLock s₁ u kind i f) := by
  unfold withLock
  split
  · exact ite_inner (hf _) (eaRaise_inner _ _ hi)
  · exact eaRaise_inner _ _ hi

theorem ifLocked_inner {δ : Fin 4 → Int} {s₀ s₁ : State} (u : EaId) (ok : Bool) {f : State → Lock → State} (hi : Inner δ s₀ s₁)
    (hf : ∀ t l, Inner δ s₀ t → Inner δ s₀ (f t l)) : Inner δ s₀ (ifLocked u s₁ ok f) := by
  unfold ifLocked
  have h1 := leaseLapse_inner u hi
  refine ifIdle_inner _ h1 ?_
  exact ite_inner (eaRaise_inner _ _ h1) (withLock_inner _ _ _ h1 fun l => hf _ l h1)

theorem stageTake_inner {δ : Fin 4 → Int} {s₀ s₁ : State} (w : Words8) (u : EaId) (l : Lock) (hi : Inner δ s₀ s₁) :
    Inner δ s₀ (stageTake w u s₁ l) := eaPut_inner _ _ hi

theorem eaStage_inner {δ : Fin 4 → Int} {s₀ s₁ : State} (u : EaId) (hi : Inner δ s₀ s₁) : Inner δ s₀ (eaStage u s₁) := by
  unfold eaStage
  exact ifLocked_inner _ _ hi fun t l k => stageTake_inner _ _ _ k

theorem eaRelease_inner {δ : Fin 4 → Int} {s₀ : State} {s₁ : State} (u : EaId) (hi : Inner δ s₀ s₁) : Inner δ s₀ (eaRelease u s₁) := by
  unfold eaRelease
  try extract_lets
  iterate 14 (all_goals first | assumption | with_reducible apply eaRaise_inner | with_reducible apply eaPut_inner | with_reducible apply ite_inner | split | (refine Inner.upd rfl rfl rfl rfl rfl rfl rfl ?_) | dsimp +zetaDelta only)

theorem applyEoi_inner {δ : Fin 4 → Int} {s₀ : State} {s₁ : State} (t : Nat) (h : Nat) (hi : Inner δ s₀ s₁) : Inner δ s₀ (applyEoi s₁ t h) := by
  unfold applyEoi
  try extract_lets
  iterate 14 (all_goals first | assumption | with_reducible apply eoiStray_inner | with_reducible apply enqueue_inner | with_reducible apply vecPut_inner | with_reducible apply ite_inner | split | (refine Inner.upd rfl rfl rfl rfl rfl rfl rfl ?_) | dsimp +zetaDelta only)

theorem memberSleeps_inner {δ : Fin 4 → Int} {s₀ : State} {s₁ : State} (t : Nat) (hi : Inner δ s₀ s₁) : Inner δ s₀ (memberSleeps s₁ t) := by
  unfold memberSleeps
  try extract_lets
  iterate 14 (all_goals first | assumption | with_reducible apply leaveStream_inner | with_reducible refine forEach_inner (fun _ _ _ => ?_) ?_ | with_reducible refine forEach_round (fun _ _ _ => ?_) ?_ | with_reducible apply ite_inner | split | (refine Inner.upd rfl rfl rfl rfl rfl rfl rfl ?_) | dsimp +zetaDelta only)

theorem applyHint_inner {δ : Fin 4 → Int} {s₀ : State} {s₁ : State} (t : Nat) (v : BitVec 2) (hi : Inner δ s₀ s₁) : Inner δ s₀ (applyHint s₁ t v) := by
  unfold applyHint
  try extract_lets
  iterate 14 (all_goals first | assumption | with_reducible apply settleAll_inner | with_reducible apply memberSleeps_inner | with_reducible apply tgtPut_inner | with_reducible refine forEach_inner (fun _ _ _ => ?_) ?_ | with_reducible apply ite_inner | split | (refine Inner.upd rfl rfl rfl rfl rfl rfl rfl ?_) | dsimp +zetaDelta only)

theorem applyHead_inner {δ : Fin 4 → Int} {s₀ : State} {s₁ : State} (t : Nat) (w : Word) (hi : Inner δ s₀ s₁) : Inner δ s₀ (applyHead s₁ t w) := by
  unfold applyHead
  try extract_lets
  iterate 14 (all_goals first | assumption | with_reducible apply wdogFix_inner | with_reducible apply tgtPut_inner | with_reducible apply ite_inner | split | (refine Inner.upd rfl rfl rfl rfl rfl rfl rfl ?_) | dsimp +zetaDelta only)

theorem applyRearm_inner {δ : Fin 4 → Int} {s₀ : State} {s₁ : State} (t : Nat) (mgmt : Bool) (hi : Inner δ s₀ s₁) : Inner δ s₀ (applyRearm s₁ t mgmt) := by
  unfold applyRearm
  try extract_lets
  iterate 14 (all_goals first | assumption | with_reducible apply clearUnreach_inner | with_reducible apply sendBell_inner | with_reducible apply wdogFix_inner | with_reducible apply tgtPut_inner | with_reducible apply ite_inner | split | (refine Inner.upd rfl rfl rfl rfl rfl rfl rfl ?_) | dsimp +zetaDelta only)

theorem applyCprio_inner {δ : Fin 4 → Int} {s₀ : State} {s₁ : State} (p : Port) (t : Nat) (w : Word) (hi : Inner δ s₀ s₁) : Inner δ s₀ (applyCprio s₁ p t w) := by
  unfold applyCprio
  try extract_lets
  iterate 14 (all_goals first | assumption | with_reducible apply tgtPut_inner | with_reducible apply ite_inner | split | (refine Inner.upd rfl rfl rfl rfl rfl rfl rfl ?_) | dsimp +zetaDelta only)

theorem applyQueued_inner {δ : Fin 4 → Int} {s₀ : State} {s₁ : State} (q : Queued) (hi : Inner δ s₀ s₁) : Inner δ s₀ (applyQueued s₁ q) := by
  unfold applyQueued
  try extract_lets
  iterate 14 (all_goals first | assumption | with_reducible apply applyRearm_inner | with_reducible apply applyHead_inner | with_reducible apply applyHint_inner | with_reducible apply applyEoi_inner | with_reducible apply ite_inner | split | (refine Inner.upd rfl rfl rfl rfl rfl rfl rfl ?_) | dsimp +zetaDelta only)

theorem creditRefill_inner {δ : Fin 4 → Int} {s₀ : State} {s₁ : State} (n : Nat) (hi : Inner δ s₀ s₁) : Inner δ s₀ (creditRefill s₁ n) := by
  unfold creditRefill
  try extract_lets
  iterate 14 (all_goals first | assumption | with_reducible apply tnPut_inner | with_reducible refine forEach_inner (fun _ _ _ => ?_) ?_ | with_reducible refine forEach_round (fun _ _ _ => ?_) ?_ | with_reducible apply ite_inner | split | (refine Inner.upd rfl rfl rfl rfl rfl rfl rfl ?_) | dsimp +zetaDelta only)

theorem hostLocks_inner {δ : Fin 4 → Int} {s₀ : State} {s₁ : State} (t : BitVec 12) (k : HostKind) (hi : Inner δ s₀ s₁) : Inner δ s₀ (hostLocks s₁ t k) := by
  unfold hostLocks
  try extract_lets
  iterate 14 (all_goals first | assumption | with_reducible apply lockBreak_inner | with_reducible apply ite_inner | split | (refine Inner.upd rfl rfl rfl rfl rfl rfl rfl ?_) | dsimp +zetaDelta only)

theorem apDrop_inner {δ : Fin 4 → Int} {s₀ : State} {s₁ : State} (p : Purpose → Bool) (hi : Inner δ s₀ s₁) : Inner δ s₀ (apDrop s₁ p) := by
  unfold apDrop
  try extract_lets
  iterate 14 (all_goals first | assumption | with_reducible apply apPut_inner | with_reducible refine forEach_inner (fun _ _ _ => ?_) ?_ | with_reducible refine forEach_round (fun _ _ _ => ?_) ?_ | with_reducible apply ite_inner | split | (refine Inner.upd rfl rfl rfl rfl rfl rfl rfl ?_) | dsimp +zetaDelta only)

theorem placeJournal_inner {δ : Fin 4 → Int} {s₀ : State} {s₁ : State} (r : Region) (hi : Inner δ s₀ s₁) : Inner δ s₀ (placeJournal s₁ r) := by
  unfold placeJournal
  try extract_lets
  iterate 14 (all_goals first | assumption | with_reducible apply apRequest_inner | with_reducible apply ite_inner | split | (refine Inner.upd rfl rfl rfl rfl rfl rfl rfl ?_) | dsimp +zetaDelta only)

theorem formJournal_inner {δ : Fin 4 → Int} {s₀ : State} {s₁ : State} (f : Furnish) (hi : Inner δ s₀ s₁) : Inner δ s₀ (formJournal s₁ f) := by
  unfold formJournal
  try extract_lets
  iterate 14 (all_goals first | assumption | with_reducible apply placeJournal_inner | with_reducible refine forEach_inner (fun _ _ _ => ?_) ?_ | with_reducible refine forEach_round (fun _ _ _ => ?_) ?_ | with_reducible apply ite_inner | split | (refine Inner.upd rfl rfl rfl rfl rfl rfl rfl ?_) | dsimp +zetaDelta only)

theorem eaOver_inner {δ : Fin 4 → Int} {s₀ : State} {s₁ : State} (u : EaId) (hi : Inner δ s₀ s₁) : Inner δ s₀ (eaOver s₁ u) := by
  unfold eaOver
  try extract_lets
  iterate 14 (all_goals first | assumption | with_reducible apply eaRaise_inner | with_reducible apply eaPut_inner | with_reducible apply ite_inner | split | (refine Inner.upd rfl rfl rfl rfl rfl rfl rfl ?_) | dsimp +zetaDelta only)

theorem drainProposal_inner {δ : Fin 4 → Int} {s₀ : State} {s₁ : State} (p : Party) (hi : Inner δ s₀ s₁) : Inner δ s₀ (drainProposal s₁ p) := by
  unfold drainProposal
  try extract_lets
  iterate 14 (all_goals first | assumption | with_reducible apply propClose_inner | with_reducible apply ite_inner | split | (refine Inner.upd rfl rfl rfl rfl rfl rfl rfl ?_) | dsimp +zetaDelta only)

theorem drainLocks_inner {δ : Fin 4 → Int} {s₀ : State} {s₁ : State}  (hi : Inner δ s₀ s₁) : Inner δ s₀ (drainLocks s₁) := by
  unfold drainLocks
  try extract_lets
  iterate 14 (all_goals first | assumption | with_reducible apply lockBreak_inner | with_reducible refine forEach_inner (fun _ _ _ => ?_) ?_ | with_reducible refine forEach_round (fun _ _ _ => ?_) ?_ | with_reducible apply ite_inner | split | (refine Inner.upd rfl rfl rfl rfl rfl rfl rfl ?_) | dsimp +zetaDelta only)

theorem drainRefuse_inner {δ : Fin 4 → Int} {s₀ : State} {s₁ : State} (h : Nat) (hi : Inner δ s₀ s₁) : Inner δ s₀ (drainRefuse s₁ h) := by
  unfold drainRefuse
  try extract_lets
  iterate 14 (all_goals first | assumption | with_reducible apply changeRefused_inner | with_reducible apply vecPut_inner | with_reducible refine forEach_inner (fun _ _ _ => ?_) ?_ | with_reducible refine forEach_round (fun _ _ _ => ?_) ?_ | with_reducible apply ite_inner | split | (refine Inner.upd rfl rfl rfl rfl rfl rfl rfl ?_) | dsimp +zetaDelta only)

theorem drainWindow_inner {δ : Fin 4 → Int} {s₀ : State} {s₁ : State} (old : Furnish) (new : Furnish) (g : Nat) (hi : Inner δ s₀ s₁) : Inner δ s₀ (drainWindow old new s₁ g) := by
  unfold drainWindow
  try extract_lets
  iterate 14 (all_goals first | assumption | with_reducible apply couchRelease_inner | with_reducible apply couchPut_inner | with_reducible apply ite_inner | split | (refine Inner.upd rfl rfl rfl rfl rfl rfl rfl ?_) | dsimp +zetaDelta only)

theorem drainReturn_inner {δ : Fin 4 → Int} {s₀ : State} {s₁ : State} (t : Nat) (e : BitVec 8 × EgWrite) (hi : Inner δ s₀ s₁) : Inner δ s₀ (drainReturn t s₁ e) := by
  unfold drainReturn
  try extract_lets
  iterate 14 (all_goals first | assumption | with_reducible apply refuseOne_inner | with_reducible apply tgtPut_inner | with_reducible refine forEach_inner (fun _ _ _ => ?_) ?_ | with_reducible refine forEach_round (fun _ _ _ => ?_) ?_ | with_reducible apply ite_inner | split | (refine Inner.upd rfl rfl rfl rfl rfl rfl rfl ?_) | dsimp +zetaDelta only)

theorem fillBucket_inner {δ : Fin 4 → Int} {s₀ : State} {s₁ : State} (e : Slice) (hi : Inner δ s₀ s₁) : Inner δ s₀ (fillBucket s₁ e) := by
  unfold fillBucket
  try extract_lets
  iterate 14 (all_goals first | assumption | with_reducible apply tnPut_inner | with_reducible apply ite_inner | split | (refine Inner.upd rfl rfl rfl rfl rfl rfl rfl ?_) | dsimp +zetaDelta only)

theorem jnlLoaded_inner {δ : Fin 4 → Int} {s₀ : State} {s₁ : State} (op : Option FurnOp) (bid : DWord) (d : Option Digest) (hi : Inner δ s₀ s₁) : Inner δ s₀ (jnlLoaded s₁ op bid d) := by
  unfold jnlLoaded
  try extract_lets
  iterate 14 (all_goals first | assumption | with_reducible apply jnl_inner | with_reducible apply ite_inner | split | (refine Inner.upd rfl rfl rfl rfl rfl rfl rfl ?_) | dsimp +zetaDelta only)

theorem fetchAgain_inner {δ : Fin 4 → Int} {s₀ s₁ : State} (h : Nat) (hi : Inner δ s₀ s₁) : Inner δ s₀ (fetchAgain s₁ h) := by
  unfold fetchAgain
  refine ite_inner hi (ite_inner (fetchVte_inner _ hi) ?_)
  exact lanes_inner (fun x : Slot => x.lane) (fun x k => creditBack_inner _ (noise_inner _ _ _ _ k)) _ (slots_out _ hi)

theorem warmPins_inner {δ : Fin 4 → Int} {s₀ : State} {s₁ : State} (l : List (Nat × Words8)) (hi : Inner δ s₀ s₁) : Inner δ s₀ (warmPins s₁ l) := by
  unfold warmPins
  try extract_lets
  iterate 14 (all_goals first | assumption | with_reducible apply vtePut_inner | with_reducible refine forEach_inner (fun _ _ _ => ?_) ?_ | with_reducible refine forEach_round (fun _ _ _ => ?_) ?_ | with_reducible apply ite_inner | split | (refine Inner.upd rfl rfl rfl rfl rfl rfl rfl ?_) | dsimp +zetaDelta only)

theorem warmTd_inner {δ : Fin 4 → Int} {s₀ : State} {s₁ : State} (f : Furnish) (t : Nat) (w : Words8) (hi : Inner δ s₀ s₁) : Inner δ s₀ (warmTd f s₁ t w) := by
  unfold warmTd
  try extract_lets
  iterate 14 (all_goals first | assumption | with_reducible apply jnlCfgReject_inner | with_reducible apply tgtPut_inner | with_reducible apply ite_inner | split | (refine Inner.upd rfl rfl rfl rfl rfl rfl rfl ?_) | dsimp +zetaDelta only)

theorem warmGroup_inner {δ : Fin 4 → Int} {s₀ : State} {s₁ : State} (i : Nat) (w : Words8) (hi : Inner δ s₀ s₁) : Inner δ s₀ (warmGroup s₁ i w) := by
  unfold warmGroup
  try extract_lets
  iterate 14 (all_goals first | assumption | with_reducible apply groupPut_inner | with_reducible apply ite_inner | split | (refine Inner.upd rfl rfl rfl rfl rfl rfl rfl ?_) | dsimp +zetaDelta only)

theorem warmCouch_inner {δ : Fin 4 → Int} {s₀ : State} {s₁ : State} (g : Nat) (w : Words8) (hi : Inner δ s₀ s₁) : Inner δ s₀ (warmCouch s₁ g w) := by
  unfold warmCouch
  try extract_lets
  iterate 14 (all_goals first | assumption | with_reducible apply couchPut_inner | with_reducible apply ite_inner | split | (refine Inner.upd rfl rfl rfl rfl rfl rfl rfl ?_) | dsimp +zetaDelta only)

theorem warmTable_inner {δ : Fin 4 → Int} {s₀ : State} {s₁ : State} (f : Furnish) (e : Nat × Words8) (hi : Inner δ s₀ s₁) : Inner δ s₀ (warmTable f s₁ e) := by
  unfold warmTable
  try extract_lets
  iterate 14 (all_goals first | assumption | with_reducible apply warmCouch_inner | with_reducible apply warmGroup_inner | with_reducible apply warmTd_inner | with_reducible apply ite_inner | split | (refine Inner.upd rfl rfl rfl rfl rfl rfl rfl ?_) | dsimp +zetaDelta only)

theorem reformRemove_inner {δ : Fin 4 → Int} {s₀ s₁ : State} (h : Nat) (hi : Inner δ s₀ s₁) : Inner δ s₀ (reformRemove s₁ h).1 := by
  unfold reformRemove
  dsimp only
  have h1 := calLeave_inner h (dropEv_inner h hi)
  refine Inner.upd rfl rfl rfl rfl rfl rfl rfl (forEach_inner (fun _ _ k => changeForeign_inner _ k) ?_)
  split
  · exact tgtPut_inner _ _ h1
  · exact h1

theorem reformDirty_inner {δ : Fin 4 → Int} {s₀ : State} {s₁ : State} (a : Slice) (b : Slice) (moved : Bool) (hi : Inner δ s₀ s₁) : Inner δ s₀ (reformDirty s₁ a b moved) := by
  unfold reformDirty
  try extract_lets
  iterate 14 (all_goals first | assumption | with_reducible apply ite_inner | split | (refine Inner.upd rfl rfl rfl rfl rfl rfl rfl ?_) | dsimp +zetaDelta only)

theorem reformTargets_inner {δ : Fin 4 → Int} {s₀ : State} {s₁ : State} (oldIn : Nat → Bool) (newIn : Nat → Bool) (hi : Inner δ s₀ s₁) : Inner δ s₀ (reformTargets s₁ oldIn newIn) := by
  unfold reformTargets
  try extract_lets
  iterate 14 (all_goals first | assumption | with_reducible apply ite_inner | split | (refine Inner.upd rfl rfl rfl rfl rfl rfl rfl ?_) | dsimp +zetaDelta only)

theorem groupStore_inner {δ : Fin 4 → Int} {s₀ : State} {s₁ : State} (old : List (Nat × Group)) (g : Nat) (hi : Inner δ s₀ s₁) : Inner δ s₀ (groupStore old s₁ g) := by
  unfold groupStore
  try extract_lets
  iterate 14 (all_goals first | assumption | with_reducible apply apRequest_inner | with_reducible refine forEach_inner (fun _ _ _ => ?_) ?_ | with_reducible refine forEach_round (fun _ _ _ => ?_) ?_ | with_reducible apply ite_inner | split | (refine Inner.upd rfl rfl rfl rfl rfl rfl rfl ?_) | dsimp +zetaDelta only)

theorem reformGroups_inner {δ : Fin 4 → Int} {s₀ : State} {s₁ : State} (oldIn : Nat → Bool) (newIn : Nat → Bool) (newTarget : Nat → Bool) (hi : Inner δ s₀ s₁) : Inner δ s₀ (reformGroups s₁ oldIn newIn newTarget) := by
  unfold reformGroups
  try extract_lets
  iterate 14 (all_goals first | assumption | with_reducible apply ite_inner | split | (refine Inner.upd rfl rfl rfl rfl rfl rfl rfl ?_) | dsimp +zetaDelta only)

theorem reformCouch_inner {δ : Fin 4 → Int} {s₀ s₁ : State} (f : Furnish) (g : Nat) (hi : Inner δ s₀ s₁) : Inner δ s₀ (reformCouch f s₁ g) := by
  unfold reformCouch
  dsimp only
  have h1 : ∀ c, Inner δ s₀ (couchCalendar (couchRelease (couchChange s₁ g c) g) g) := fun _ =>
    couchCalendar_inner _ (couchRelease_inner _ (couchChange_inner _ _ hi))
  have h2 : ∀ {p : Prop} [Decidable p] c d i k r q o, Inner δ s₀ (if p then couchPut s₁ g c else
      jnlCfgReject (couchCalendar (couchRelease (couchChange s₁ g d) g) g) i k r q o) := fun {_} [_] _ _ _ _ _ _ _ =>
    ite_inner (couchPut_inner _ _ hi) (jnlCfgReject_inner _ _ _ _ _ (h1 _))
  exact ite_inner (h2 ..) (apRequest_inner _ _ _ _ (h2 ..))

theorem reformCouches_inner {δ : Fin 4 → Int} {s₀ : State} {s₁ : State} (oldIn : Nat → Bool) (newIn : Nat → Bool) (l : List Nat) (hi : Inner δ s₀ s₁) : Inner δ s₀ (reformCouches s₁ oldIn newIn l) := by
  unfold reformCouches
  try extract_lets
  iterate 14 (all_goals first | assumption | with_reducible apply calLeave_inner | with_reducible apply couchRelease_inner | with_reducible refine forEach_inner (fun _ _ _ => ?_) ?_ | with_reducible refine forEach_round (fun _ _ _ => ?_) ?_ | with_reducible apply ite_inner | split | (refine Inner.upd rfl rfl rfl rfl rfl rfl rfl ?_) | dsimp +zetaDelta only)

theorem reformJournal_inner {δ : Fin 4 → Int} {s₀ : State} {s₁ : State} (old : Furnish) (new : Furnish) (t : Nat) (hi : Inner δ s₀ s₁) : Inner δ s₀ (reformJournal s₁ old new t) := by
  unfold reformJournal
  try extract_lets
  iterate 14 (all_goals first | assumption | with_reducible apply placeJournal_inner | with_reducible apply ite_inner | split | (refine Inner.upd rfl rfl rfl rfl rfl rfl rfl ?_) | dsimp +zetaDelta only)

theorem reformVoid_inner {δ : Fin 4 → Int} {s₀ : State} {s₁ : State} (a : Slice) (kept : Nat) (moved : Bool) (goneTd : Nat → Bool) (hi : Inner δ s₀ s₁) : Inner δ s₀ (reformVoid s₁ a kept moved goneTd) := by
  unfold reformVoid
  try extract_lets
  iterate 14 (all_goals first | assumption | with_reducible apply ite_inner | split | (refine Inner.upd rfl rfl rfl rfl rfl rfl rfl ?_) | dsimp +zetaDelta only)

theorem checkedAgain_inner {δ : Fin 4 → Int} {s₀ s₁ : State} (h : Nat) (hi : Inner δ s₀ s₁) : Inner δ s₀ (checkedAgain s₁ h) := by
  unfold checkedAgain
  exact ite_inner (enqueue_inner _ hi) (lanes_inner (fun x : Slot × Snap => x.1.lane)
    (fun _ k => creditBack_inner _ (noise_inner _ _ _ _ k)) _ (checkedOut_inner h hi))

theorem reformFetch_inner {δ : Fin 4 → Int} {s₀ s₁ : State} (a : Slice) (hi : Inner δ s₀ s₁) : Inner δ s₀ (reformFetch s₁ a) := by
  unfold reformFetch
  exact forEach_inner (fun _ _ k => checkedAgain_inner _ k) (forEach_inner (fun _ _ k => fetchAgain_inner _ k) hi)

theorem withdraw_inner {δ : Fin 4 → Int} {s₀ : State} {s₁ : State} (p : Party) (hi : Inner δ s₀ s₁) : Inner δ s₀ (withdraw p s₁) := by
  unfold withdraw
  try extract_lets
  iterate 14 (all_goals first | assumption | with_reducible apply propClose_inner | with_reducible apply ite_inner | split | (refine Inner.upd rfl rfl rfl rfl rfl rfl rfl ?_) | dsimp +zetaDelta only)

theorem veto_inner {δ : Fin 4 → Int} {s₀ : State} {s₁ : State} (p : Party) (idLo : Word) (hi : Inner δ s₀ s₁) : Inner δ s₀ (veto p idLo s₁) := by
  unfold veto
  try extract_lets
  iterate 14 (all_goals first | assumption | with_reducible apply propClose_inner | with_reducible apply dcRaise_inner | with_reducible apply ite_inner | split | (refine Inner.upd rfl rfl rfl rfl rfl rfl rfl ?_) | dsimp +zetaDelta only)

theorem stageWrite_inner {δ : Fin 4 → Int} {s₀ : State} {s₁ : State} (p : Party) (form : Form) (n : Fin 16) (w : Word) (hi : Inner δ s₀ s₁) : Inner δ s₀ (stageWrite p form n w s₁) := by
  unfold stageWrite
  try extract_lets
  iterate 14 (all_goals first | assumption | with_reducible apply propClose_inner | with_reducible apply dcPut_inner | with_reducible apply ite_inner | split | (refine Inner.upd rfl rfl rfl rfl rfl rfl rfl ?_) | dsimp +zetaDelta only)

theorem readEnds_inner {δ : Fin 4 → Int} {s₀ : State} {s₁ : State} (w : Words8) (m : BitVec 24) (u : EaId) (hi : Inner δ s₀ s₁) : Inner δ s₀ (readEnds w m s₁ u) := by
  unfold readEnds
  try extract_lets
  iterate 14 (all_goals first | assumption | with_reducible apply eaRaise_inner | with_reducible apply eaPut_inner | with_reducible apply ite_inner | split | (refine Inner.upd rfl rfl rfl rfl rfl rfl rfl ?_) | dsimp +zetaDelta only)

theorem readShows_inner {δ : Fin 4 → Int} {s₀ : State} {s₁ : State} (w : Words8) (m : BitVec 24) (u : EaId) (hi : Inner δ s₀ s₁) : Inner δ s₀ (readShows w m s₁ u) := by
  unfold readShows
  try extract_lets
  iterate 14 (all_goals first | assumption | with_reducible apply readEnds_inner | with_reducible apply ite_inner | split | (refine Inner.upd rfl rfl rfl rfl rfl rfl rfl ?_) | dsimp +zetaDelta only)

theorem readsShow_inner {δ : Fin 4 → Int} {s₀ : State} {s₁ : State} (h : Nat) (w : Words8) (m : BitVec 24) (hi : Inner δ s₀ s₁) : Inner δ s₀ (readsShow s₁ h w m) := by
  unfold readsShow
  try extract_lets
  iterate 14 (all_goals first | assumption | with_reducible apply readShows_inner | with_reducible refine forEach_inner (fun _ _ _ => ?_) ?_ | with_reducible refine forEach_round (fun _ _ _ => ?_) ?_ | with_reducible apply ite_inner | split | (refine Inner.upd rfl rfl rfl rfl rfl rfl rfl ?_) | dsimp +zetaDelta only)

theorem fencesBegin_inner {δ : Fin 4 → Int} {s₀ : State} {s₁ : State} (h : Nat) (hi : Inner δ s₀ s₁) : Inner δ s₀ (fencesBegin s₁ h) := by
  unfold fencesBegin
  try extract_lets
  iterate 14 (all_goals first | assumption | with_reducible apply fenceBegin_inner | with_reducible refine forEach_inner (fun _ _ _ => ?_) ?_ | with_reducible refine forEach_round (fun _ _ _ => ?_) ?_ | with_reducible apply ite_inner | split | (refine Inner.upd rfl rfl rfl rfl rfl rfl rfl ?_) | dsimp +zetaDelta only)

theorem readsEnd_inner {δ : Fin 4 → Int} {s₀ : State} {s₁ : State} (h : Nat) (w : Words8) (m : BitVec 24) (hi : Inner δ s₀ s₁) : Inner δ s₀ (readsEnd s₁ h w m) := by
  unfold readsEnd
  try extract_lets
  iterate 14 (all_goals first | assumption | with_reducible apply readEnds_inner | with_reducible refine forEach_inner (fun _ _ _ => ?_) ?_ | with_reducible refine forEach_round (fun _ _ _ => ?_) ?_ | with_reducible apply ite_inner | split | (refine Inner.upd rfl rfl rfl rfl rfl rfl rfl ?_) | dsimp +zetaDelta only)

theorem crcChanges_inner {δ : Fin 4 → Int} {s₀ s₁ : State} (h : Nat) (w : Words8) (hi : Inner δ s₀ s₁) : Inner δ s₀ (crcChanges s₁ h w) := by
  unfold crcChanges
  have h1 : Inner δ s₀ (vteBoundary (vecOf s₁ h).changes.length (vtePut s₁ h (vteOf w)) h) := vteBoundary_inner _ _ (vtePut_inner _ _ hi)
  dsimp only
  split
  · exact h1
  · have h2 : Inner δ s₀ { vteBoundary (vecOf s₁ h).changes.length (vtePut s₁ h (vteOf w)) h with
        vs := { (vteBoundary (vecOf s₁ h).changes.length (vtePut s₁ h (vteOf w)) h).vs with
          vtes := Sys2Proof.Machine.erase (vteBoundary (vecOf s₁ h).changes.length (vtePut s₁ h (vteOf w)) h).vs.vtes h } } :=
      Inner.upd rfl rfl rfl rfl rfl rfl rfl h1
    exact ite_inner h2 (getD_inner (vteAway_inner h h1) fun u hu => install_inner _ _ h2 hu)

theorem waitersIn_inner {δ : Fin 4 → Int} {s₀ : State} {s₁ : State} (h : Nat) (hi : Inner δ s₀ s₁) : Inner δ s₀ (waitersIn s₁ h) := by
  unfold waitersIn
  try extract_lets
  iterate 14 (all_goals first | assumption | with_reducible apply enqueue_inner | with_reducible apply ite_inner | split | (refine Inner.upd rfl rfl rfl rfl rfl rfl rfl ?_) | dsimp +zetaDelta only)

theorem spillDone_inner {δ : Fin 4 → Int} {s₀ : State} {s₁ : State} (h : Nat) (hi : Inner δ s₀ s₁) : Inner δ s₀ (spillDone s₁ h) := by
  unfold spillDone
  try extract_lets
  iterate 14 (all_goals first | assumption | with_reducible apply ite_inner | split | (refine Inner.upd rfl rfl rfl rfl rfl rfl rfl ?_) | dsimp +zetaDelta only)

theorem readEnd_inner {δ : Fin 4 → Int} {s₀ s₁ : State} (u : EaId) (kind i : Nat) (hi : Inner δ s₀ s₁) : Inner δ s₀ (readEnd s₁ u kind i) := by
  unfold readEnd
  dsimp only
  split
  · exact eaRaise_inner _ _ (eaPut_inner _ _ hi)
  · exact eaRaise_inner _ _ (eaPut_inner _ _ hi)

theorem tdReadsEnd_inner {δ : Fin 4 → Int} {s₀ s₁ : State} (t : Nat) (hi : Inner δ s₀ s₁) : Inner δ s₀ (tdReadsEnd s₁ t) :=
  forEach_inner (fun _ _ k => readEnd_inner _ _ _ k) hi

theorem waitedClose_inner {δ : Fin 4 → Int} {s₀ s₁ : State} (t : Nat) (hi : Inner δ s₀ s₁) : Inner δ s₀ (waitedClose s₁ t) :=
  ite_inner (closeWriteOf_inner _ hi) hi

theorem resyncStart_inner {δ : Fin 4 → Int} {s₀ : State} {s₁ : State}  (hi : Inner δ s₀ s₁) : Inner δ s₀ (resyncStart s₁) := by
  unfold resyncStart
  try extract_lets
  iterate 14 (all_goals first | assumption | with_reducible apply apPut_inner | with_reducible refine forEach_inner (fun _ _ _ => ?_) ?_ | with_reducible refine forEach_round (fun _ _ _ => ?_) ?_ | with_reducible apply ite_inner | split | (refine Inner.upd rfl rfl rfl rfl rfl rfl rfl ?_) | dsimp +zetaDelta only)

/-- A committed two-party change is refused when its structure goes. -/
theorem approvedOver_inner {δ : Fin 4 → Int} {s₀ s₁ : State} (hi : Inner δ s₀ s₁) : Inner δ s₀ (approvedOver s₁) := by
  unfold approvedOver
  exact ite_inner (changeRefused_inner _ _ _ hi) hi

theorem checkedWait_inner {δ : Fin 4 → Int} {s₀ s₁ : State} (h : Nat) (hi : Inner δ s₀ s₁) : Inner δ s₀ (checkedWait s₁ h) := by
  unfold checkedWait
  exact ite_inner hi (enqueue_inner _ hi)

end Sys2Proof.Machine
end

