-- ==== Sys2Proof/Laws/Keeps.lean ====
section
/-! SUPPORT. What the commands' operations keep: the queue, the lock bits, local time, a fenced plane, the canonical form of memory, and
the sum of credits and occupied slots of each lane; and none of them enters SAFE or sleep. -/

namespace Sys2Proof.Machine

set_option linter.unusedTactic false
set_option linter.unreachableTactic false

/-- What an operation keeps; d is what each lane's credits and occupied slots have gained together. -/
structure Keeps (d : Fin 4 → Int) (s t : State) : Prop where
  pending : t.pending = s.pending
  lock : s.md.lock &&& t.md.lock = s.md.lock
  safe : t.md.mode = .safe → s.md.mode = .safe
  asleep : sleeping t = true → sleeping s = true
  now : t.tm.now = s.tm.now
  entry : t.tm.tEntry = s.tm.tEntry
  fenced : s.flt.fenced ≠ 0 → t.flt.fenced ≠ 0
  lmem : Memory.wf s.ts.lmem = true → Memory.wf t.ts.lmem = true
  lanes : ∀ l, (laneSum t l : Int) = laneSum s l + d l

theorem lock_trans {a b c : BitVec 8} (h : a &&& b = a) (k : b &&& c = b) : a &&& c = a := by
  rw [← h, BitVec.and_assoc, k]

theorem Keeps.refl (s : State) : Keeps noGain s s where
  pending := rfl
  lock := BitVec.and_self
  safe := id
  asleep := id
  now := rfl
  entry := rfl
  fenced := id
  lmem := id
  lanes l := by simp [noGain]

/-- An inner operation keeps what is kept. -/
theorem Keeps.gain {d e : Fin 4 → Int} {s t u : State} (h : Keeps (fun l => d l - e l) s t) (k : Inner e t u) : Keeps d s u where
  pending := k.pending.trans h.pending
  lock := by rw [k.md]; exact h.lock
  safe m := h.safe (by rw [← k.md]; exact m)
  asleep m := h.asleep (by rw [sleeping, ← k.md]; exact m)
  now := by rw [k.tm]; exact h.now
  entry := by rw [k.tm]; exact h.entry
  fenced m := by
    have e : u.flt.fenced = t.flt.fenced := by simpa [fltRest] using congrArg FaultUnit.fenced k.flt
    rw [e]
    exact h.fenced m
  lmem m := k.lmem (h.lmem m)
  lanes l := by rw [k.lanes, h.lanes]; omega

/-- An inner operation that no lane gains by keeps what is kept. -/
theorem Keeps.inner {d : Fin 4 → Int} {s t u : State} (h : Keeps d s t) (k : Inner noGain t u) : Keeps d s u := by
  refine Keeps.gain (e := noGain) ?_ k
  simpa [noGain] using h

/-- A change of other fields keeps what is kept. -/
theorem Keeps.upd {d : Fin 4 → Int} {s t : State} {md : ModeUnit} {ctl : CtlRegs} {status : Sc} {cnt : Counters} {tm : TimeUnit} {pw : PowerUnit}
    {ao : AoUnit} {ap : AperUnit} {fu : FurnUnit} {eaM : EaUnit} {eaT : List (Nat × EaUnit)} {dcM dcS : PartyUnit} {flt : FaultUnit}
    {jn : JnlUnit} {vat : VatUnit} {ws : WireUnit} {vs : VecStore} {ts : TargetStore} {ar : ArbUnit} {io : PortUnit} {free : Nat}
    (lock : md.lock = t.md.lock) (mode : md.mode = t.md.mode) (now : tm.now = t.tm.now) (entry : tm.tEntry = t.tm.tEntry)
    (fenced : flt.fenced = t.flt.fenced) (lmem : ts.lmem = t.ts.lmem) (credits : vat.credits = t.vat.credits)
    (slots : vat.slots = t.vat.slots) (h : Keeps d s t) :
    Keeps d s { t with md := md, ctl := ctl, status := status, cnt := cnt, tm := tm, pw := pw, ao := ao, ap := ap, fu := fu, eaM := eaM,
                       eaT := eaT, dcM := dcM, dcS := dcS, flt := flt, jn := jn, vat := vat, ws := ws, vs := vs, ts := ts, ar := ar, io := io,
                       free := free, pending := t.pending } where
  pending := h.pending
  lock := by rw [lock]; exact h.lock
  safe m := h.safe (by rw [← mode]; exact m)
  asleep m := h.asleep (by rw [sleeping, ← mode]; exact m)
  now := now.trans h.now
  entry := entry.trans h.entry
  fenced m := by rw [fenced]; exact h.fenced m
  lmem m := by rw [lmem]; exact h.lmem m
  lanes l := by
    rw [← h.lanes l]
    simp only [laneSum, credits, slots]

/-- A mode other than SAFE, REST and DORMANT. -/
def wakeful (m : Mode) : Prop := m ≠ .safe ∧ m ≠ .rest ∧ m ≠ .dormant

theorem Keeps.setMode {d : Fin 4 → Int} {s t : State} {m : Mode} (w : wakeful m) (h : Keeps d s t) : Keeps d s (setMode t m) where
  pending := h.pending
  lock := h.lock
  safe k := absurd k w.1
  asleep k := by
    simp only [sleeping, Machine.setMode, w.2.1, w.2.2, decide_false, Bool.or_self] at k
    exact absurd k Bool.false_ne_true
  now := h.now
  entry := h.entry
  fenced := h.fenced
  lmem := h.lmem
  lanes := h.lanes

theorem Keeps.lockOr {d : Fin 4 → Int} {s t : State} {x : BitVec 8} {b : Bool} (h : Keeps d s t) :
    Keeps d s { t with md := { t.md with lock := t.md.lock ||| x, lockTaken := b } } where
  pending := h.pending
  lock := by
    refine lock_trans h.lock ?_
    ext i
    simp [BitVec.getElem_and, BitVec.getElem_or]
    intro k
    exact .inl k
  safe := h.safe
  asleep := h.asleep
  now := h.now
  entry := h.entry
  fenced := h.fenced
  lmem := h.lmem
  lanes := h.lanes

/-- An operation made for each element keeps what each step keeps. -/
theorem forEach_keeps {α : Type} {d : Fin 4 → Int} {s : State} {f : State → α → State}
    (hf : ∀ t a, Keeps d s t → Keeps d s (f t a)) : ∀ {l : List α} {t : State}, Keeps d s t → Keeps d s (forEach l t f) := by
  intro l
  induction l with
  | nil => intro t h; exact h
  | cons a r ih => intro t h; exact ih (hf t a h)

/-- Both branches keep what is kept. -/
theorem ite_keeps {c : Prop} [Decidable c] {d : Fin 4 → Int} {s t u : State} (h : Keeps d s t) (k : Keeps d s u) :
    Keeps d s (if c then t else u) := by
  split
  · exact h
  · exact k


/-- What waits for no fatal fault keeps what the operation keeps. -/
theorem unlessFatal_keeps {d : Fin 4 → Int} {s t : State} {f : State → State} (h : Keeps d s t) (k : Keeps d s (f t)) :
    Keeps d s (unlessFatal t f) := by
  unfold unlessFatal
  split
  · exact h
  · exact k


theorem wakeful_serving : wakeful .serving := by simp [wakeful]
theorem wakeful_draining : wakeful .draining := by simp [wakeful]
theorem wakeful_unformed : wakeful .unformed := by simp [wakeful]
theorem wakeful_idle : wakeful .idle := by simp [wakeful]
theorem wakeful_ite {b : Bool} : wakeful (if b then .draining else .serving) := by
  split
  · exact wakeful_draining
  · exact wakeful_serving

/-- A change of the slots that keeps their lanes keeps what is kept. -/
theorem Keeps.slots {d : Fin 4 → Int} {s t : State} (f : Slot → Slot) (hf : ∀ x, (f x).lane = x.lane) (h : Keeps d s t) :
    Keeps d s { t with vat := { t.vat with slots := t.vat.slots.map f } } :=
  { h with
    lanes := by
      intro l
      rw [← h.lanes l]
      simp only [laneSum, List.filter_map, List.length_map, Function.comp_def, hf] }

/-- Bytes written to local ring memory keep what is kept. -/
theorem Keeps.writes {d : Fin 4 → Int} {s t : State} {n : Nat} (a : Nat) (bs : List Byte) (h : Keeps d s t) :
    Keeps d s { t with free := n, ts := { t.ts with lmem := Memory.writeBytes t.ts.lmem a bs } } :=
  { h with lmem := fun m => Memory.writeBytes_wf (h.lmem m) }

theorem rejectWrite_keeps {d : Fin 4 → Int} {s t : State} (addr : BitVec 22) (hi : Keeps d s t) : Keeps d s (rejectWrite t addr) := by
  unfold rejectWrite
  try extract_lets
  iterate 14 (all_goals first | assumption | with_reducible apply ite_keeps | (intro _) | split | (refine Keeps.upd rfl rfl rfl rfl rfl rfl rfl rfl ?_) | exact wakeful_serving | exact wakeful_draining | exact wakeful_unformed | exact wakeful_idle | exact wakeful_ite | dsimp +zetaDelta only)

theorem pollSum_keeps {d : Fin 4 → Int} {s t : State}  (hi : Keeps d s t) : Keeps d s (pollSum t) := by
  unfold pollSum
  try extract_lets
  iterate 14 (all_goals first | assumption | with_reducible apply ite_keeps | (intro _) | split | (refine Keeps.upd rfl rfl rfl rfl rfl rfl rfl rfl ?_) | exact wakeful_serving | exact wakeful_draining | exact wakeful_unformed | exact wakeful_idle | exact wakeful_ite | dsimp +zetaDelta only)

theorem fltRaise_keeps {d : Fin 4 → Int} {s t : State} (m : BitVec 24) (hi : Keeps d s t) : Keeps d s (fltRaise t m) := by
  unfold fltRaise
  try extract_lets
  iterate 14 (all_goals first | assumption | with_reducible apply pollSum_keeps | with_reducible apply ite_keeps | (intro _) | split | (refine Keeps.upd rfl rfl rfl rfl rfl rfl rfl rfl ?_) | exact wakeful_serving | exact wakeful_draining | exact wakeful_unformed | exact wakeful_idle | exact wakeful_ite | dsimp +zetaDelta only)

theorem whenLive_keeps {d : Fin 4 → Int} {s t : State} {f : State → State} (hf : ∀ t, Keeps d s t → Keeps d s (f t)) (hi : Keeps d s t) :
    Keeps d s (whenLive t f) := by
  unfold whenLive
  exact ite_keeps (hf _ hi) hi

theorem faultCount_keeps {d : Fin 4 → Int} {s t : State} (cls : BitVec 2) (src : BitVec 8) (arg : BitVec 24) (m : BitVec 24) (inj : Bool) (hi : Keeps d s t) : Keeps d s (faultCount t cls src arg m inj) := by
  unfold faultCount
  try extract_lets
  iterate 14 (all_goals first | assumption | with_reducible apply fltRaise_keeps | with_reducible apply ite_keeps | (intro _) | split | (refine Keeps.upd rfl rfl rfl rfl rfl rfl rfl rfl ?_) | exact wakeful_serving | exact wakeful_draining | exact wakeful_unformed | exact wakeful_idle | exact wakeful_ite | dsimp +zetaDelta only)

theorem fatalFault_keeps {d : Fin 4 → Int} {s t : State} (src : BitVec 8) (detail : BitVec 24) (inj : Bool) (hi : Keeps d s t) : Keeps d s (fatalFault t src detail inj) := by
  unfold fatalFault
  try extract_lets
  iterate 14 (all_goals first | assumption | with_reducible apply fltRaise_keeps | with_reducible apply ite_keeps | (intro _) | split | (refine Keeps.upd rfl rfl rfl rfl rfl rfl rfl rfl ?_) | exact wakeful_serving | exact wakeful_draining | exact wakeful_unformed | exact wakeful_idle | exact wakeful_ite | dsimp +zetaDelta only)

theorem collectorFault_keeps {d : Fin 4 → Int} {s t : State} (inj : Bool) (hi : Keeps d s t) : Keeps d s (collectorFault t inj) := by
  unfold collectorFault
  try extract_lets
  iterate 14 (all_goals first | assumption | with_reducible apply ite_keeps | (intro _) | split | (refine Keeps.upd rfl rfl rfl rfl rfl rfl rfl rfl ?_) | exact wakeful_serving | exact wakeful_draining | exact wakeful_unformed | exact wakeful_idle | exact wakeful_ite | dsimp +zetaDelta only)

theorem correctedAt_keeps {d : Fin 4 → Int} {s t₁ : State} (t : Nat) (src : BitVec 8) (arg : BitVec 24) (inj : Bool) (hi : Keeps d s t₁) : Keeps d s (correctedAt t₁ t src arg inj) := by
  unfold correctedAt
  try extract_lets
  iterate 14 (all_goals first | assumption | with_reducible apply faultCount_keeps | (with_reducible refine Keeps.inner ?_ (jnlFault_inner (hi := Inner.refl _) ..)) | with_reducible apply ite_keeps | (intro _) | split | (refine Keeps.upd rfl rfl rfl rfl rfl rfl rfl rfl ?_) | exact wakeful_serving | exact wakeful_draining | exact wakeful_unformed | exact wakeful_idle | exact wakeful_ite | dsimp +zetaDelta only)

theorem corrected_keeps {d : Fin 4 → Int} {s t : State} (src : BitVec 8) (arg : BitVec 24) (inj : Bool) (hi : Keeps d s t) : Keeps d s (corrected t src arg inj) := by
  unfold corrected
  try extract_lets
  iterate 14 (all_goals first | assumption | with_reducible apply correctedAt_keeps | with_reducible apply ite_keeps | (intro _) | split | (refine Keeps.upd rfl rfl rfl rfl rfl rfl rfl rfl ?_) | exact wakeful_serving | exact wakeful_draining | exact wakeful_unformed | exact wakeful_idle | exact wakeful_ite | dsimp +zetaDelta only)

theorem deferredCount_keeps {d : Fin 4 → Int} {s t : State} (src : BitVec 8) (arg : BitVec 24) (inj : Bool) (hi : Keeps d s t) : Keeps d s (deferredCount t src arg inj) := by
  unfold deferredCount
  try extract_lets
  iterate 14 (all_goals first | assumption | with_reducible apply fatalFault_keeps | with_reducible apply faultCount_keeps | with_reducible apply ite_keeps | (intro _) | split | (refine Keeps.upd rfl rfl rfl rfl rfl rfl rfl rfl ?_) | exact wakeful_serving | exact wakeful_draining | exact wakeful_unformed | exact wakeful_idle | exact wakeful_ite | dsimp +zetaDelta only)

theorem deferredAt_keeps {d : Fin 4 → Int} {s t₁ : State} (t : Nat) (src : BitVec 8) (arg : BitVec 24) (w5 : Word) (w6 : Word) (inj : Bool) (hi : Keeps d s t₁) : Keeps d s (deferredAt t₁ t src arg w5 w6 inj) := by
  unfold deferredAt
  try extract_lets
  iterate 14 (all_goals first | assumption | with_reducible apply deferredCount_keeps | with_reducible apply fatalFault_keeps | (with_reducible refine Keeps.inner ?_ (jnlFault_inner (hi := Inner.refl _) ..)) | with_reducible apply ite_keeps | (intro _) | split | (refine Keeps.upd rfl rfl rfl rfl rfl rfl rfl rfl ?_) | exact wakeful_serving | exact wakeful_draining | exact wakeful_unformed | exact wakeful_idle | exact wakeful_ite | dsimp +zetaDelta only)

theorem deferred_keeps {d : Fin 4 → Int} {s t : State} (src : BitVec 8) (arg : BitVec 24) (w5 : Word) (w6 : Word) (inj : Bool) (hi : Keeps d s t) : Keeps d s (deferred t src arg w5 w6 inj) := by
  unfold deferred
  try extract_lets
  iterate 14 (all_goals first | assumption | with_reducible apply deferredAt_keeps | with_reducible apply ite_keeps | (intro _) | split | (refine Keeps.upd rfl rfl rfl rfl rfl rfl rfl rfl ?_) | exact wakeful_serving | exact wakeful_draining | exact wakeful_unformed | exact wakeful_idle | exact wakeful_ite | dsimp +zetaDelta only)

theorem faultAt_keeps {d : Fin 4 → Int} {s t₁ : State} (t : Nat) (src : BitVec 8) (arg : BitVec 24) (inj : Bool) (hi : Keeps d s t₁) : Keeps d s (faultAt t₁ t src arg inj) := by
  unfold faultAt
  try extract_lets
  iterate 14 (all_goals first | assumption | with_reducible apply deferredAt_keeps | with_reducible apply correctedAt_keeps | with_reducible apply ite_keeps | (intro _) | split | (refine Keeps.upd rfl rfl rfl rfl rfl rfl rfl rfl ?_) | exact wakeful_serving | exact wakeful_draining | exact wakeful_unformed | exact wakeful_idle | exact wakeful_ite | dsimp +zetaDelta only)

theorem faultFound_keeps {d : Fin 4 → Int} {s t : State} (src : BitVec 8) (arg : BitVec 24) (inj : Bool) (hi : Keeps d s t) : Keeps d s (faultFound t src arg inj) := by
  unfold faultFound
  try extract_lets
  iterate 14 (all_goals first | assumption | with_reducible apply faultAt_keeps | with_reducible apply ite_keeps | (intro _) | split | (refine Keeps.upd rfl rfl rfl rfl rfl rfl rfl rfl ?_) | exact wakeful_serving | exact wakeful_draining | exact wakeful_unformed | exact wakeful_idle | exact wakeful_ite | dsimp +zetaDelta only)

theorem refuse_keeps {d : Fin 4 → Int} {s t₁ : State} (t : SleepTarget) (code : BitVec 4) (detail : Word) (hi : Keeps d s t₁) : Keeps d s (refuse t₁ t code detail) := by
  unfold refuse
  try extract_lets
  iterate 14 (all_goals first | assumption | (with_reducible refine Keeps.inner ?_ (jnlRated_inner (hi := Inner.refl _) ..)) | with_reducible apply ite_keeps | (intro _) | split | (refine Keeps.upd rfl rfl rfl rfl rfl rfl rfl rfl ?_) | exact wakeful_serving | exact wakeful_draining | exact wakeful_unformed | exact wakeful_idle | exact wakeful_ite | dsimp +zetaDelta only)

theorem abandonEntry_keeps {d : Fin 4 → Int} {s t : State}  (hi : Keeps d s t) : Keeps d s (abandonEntry t) := by
  unfold abandonEntry
  try extract_lets
  iterate 14 (all_goals first | assumption | with_reducible apply ite_keeps | (intro _) | split | (refine Keeps.upd rfl rfl rfl rfl rfl rfl rfl rfl ?_) | exact wakeful_serving | exact wakeful_draining | exact wakeful_unformed | exact wakeful_idle | exact wakeful_ite | dsimp +zetaDelta only)

theorem activity_keeps {d : Fin 4 → Int} {s t : State} (beat : Bool) (hi : Keeps d s t) : Keeps d s (activity t beat) := by
  unfold activity
  try extract_lets
  iterate 14 (all_goals first | assumption | with_reducible apply abandonEntry_keeps | with_reducible apply refuse_keeps | (with_reducible refine Keeps.inner ?_ (noteBusy_inner (hi := Inner.refl _) ..)) | (with_reducible refine Keeps.setMode ?_ ?_) | with_reducible apply ite_keeps | (intro _) | split | (refine Keeps.upd rfl rfl rfl rfl rfl rfl rfl rfl ?_) | exact wakeful_serving | exact wakeful_draining | exact wakeful_unformed | exact wakeful_idle | exact wakeful_ite | dsimp +zetaDelta only)

theorem wakeSource_keeps {d : Fin 4 → Int} {s t : State} (cause : BitVec 4) (hi : Keeps d s t) : Keeps d s (wakeSource t cause) := by
  unfold wakeSource
  try extract_lets
  iterate 14 (all_goals first | assumption | with_reducible apply ite_keeps | (intro _) | split | (refine Keeps.upd rfl rfl rfl rfl rfl rfl rfl rfl ?_) | exact wakeful_serving | exact wakeful_draining | exact wakeful_unformed | exact wakeful_idle | exact wakeful_ite | dsimp +zetaDelta only)

theorem holdoffEnd_keeps {d : Fin 4 → Int} {s t : State} (g : Nat) (hi : Keeps d s t) : Keeps d s (holdoffEnd t g) := by
  unfold holdoffEnd
  try extract_lets
  iterate 14 (all_goals first | assumption | with_reducible apply unlessFatal_keeps | with_reducible apply activity_keeps | (with_reducible refine Keeps.inner ?_ (couchDecision_inner (hi := Inner.refl _) ..)) | with_reducible apply ite_keeps | (intro _) | split | (refine Keeps.upd rfl rfl rfl rfl rfl rfl rfl rfl ?_) | exact wakeful_serving | exact wakeful_draining | exact wakeful_unformed | exact wakeful_idle | exact wakeful_ite | dsimp +zetaDelta only)

theorem timeLimit_keeps {d : Fin 4 → Int} {s t : State} (g : Nat) (hi : Keeps d s t) : Keeps d s (timeLimit t g) := by
  unfold timeLimit
  try extract_lets
  iterate 14 (all_goals first | assumption | with_reducible apply unlessFatal_keeps | with_reducible apply activity_keeps | (with_reducible refine Keeps.inner ?_ (couchDecision_inner (hi := Inner.refl _) ..)) | with_reducible apply ite_keeps | (intro _) | split | (refine Keeps.upd rfl rfl rfl rfl rfl rfl rfl rfl ?_) | exact wakeful_serving | exact wakeful_draining | exact wakeful_unformed | exact wakeful_idle | exact wakeful_ite | dsimp +zetaDelta only)

theorem writebackTick_keeps {d : Fin 4 → Int} {s t : State}  (hi : Keeps d s t) : Keeps d s (writebackTick t) := by
  unfold writebackTick
  try extract_lets
  iterate 14 (all_goals first | assumption | (with_reducible refine Keeps.inner ?_ (writeback_inner (hi := Inner.refl _) ..)) | with_reducible apply ite_keeps | (intro _) | split | (refine Keeps.upd rfl rfl rfl rfl rfl rfl rfl rfl ?_) | exact wakeful_serving | exact wakeful_draining | exact wakeful_unformed | exact wakeful_idle | exact wakeful_ite | dsimp +zetaDelta only)

theorem injectSpent_keeps {d : Fin 4 → Int} {s t : State}  (hi : Keeps d s t) : Keeps d s (injectSpent t) := by
  unfold injectSpent
  try extract_lets
  iterate 14 (all_goals first | assumption | with_reducible apply ite_keeps | (intro _) | split | (refine Keeps.upd rfl rfl rfl rfl rfl rfl rfl rfl ?_) | exact wakeful_serving | exact wakeful_draining | exact wakeful_unformed | exact wakeful_idle | exact wakeful_ite | dsimp +zetaDelta only)

theorem cacheRead_keeps {d : Fin 4 → Int} {s t : State} (h : Nat) (hi : Keeps d s t) : Keeps d s (cacheRead t h) := by
  unfold cacheRead
  try extract_lets
  iterate 14 (all_goals first | assumption | with_reducible apply injectSpent_keeps | with_reducible apply faultFound_keeps | (with_reducible refine Keeps.inner ?_ (vteReload_inner (hi := Inner.refl _) ..)) | with_reducible apply ite_keeps | (intro _) | split | (refine Keeps.upd rfl rfl rfl rfl rfl rfl rfl rfl ?_) | exact wakeful_serving | exact wakeful_draining | exact wakeful_unformed | exact wakeful_idle | exact wakeful_ite | dsimp +zetaDelta only)

theorem holdRound_keeps {d : Fin 4 → Int} {s t : State} (h : BitVec 24) (fail : BitVec 2) (hi : Keeps d s t) : Keeps d s (holdRound t h fail) := by
  unfold holdRound
  try extract_lets
  iterate 14 (all_goals first | assumption | with_reducible apply ite_keeps | (intro _) | split | (refine Keeps.upd rfl rfl rfl rfl rfl rfl rfl rfl ?_) | exact wakeful_serving | exact wakeful_draining | exact wakeful_unformed | exact wakeful_idle | exact wakeful_ite | dsimp +zetaDelta only)

theorem roundAt_keeps {d : Fin 4 → Int} {s t : State} (h : Nat) (hi : Keeps d s t) : Keeps d s (roundAt t h) := by
  unfold roundAt
  have hc := cacheRead_keeps h hi
  exact unlessFatal_keeps hi (unlessFatal_keeps hc (Keeps.inner hc (roundCommit_inner h (Inner.refl _))))

theorem roundRisen_keeps {d : Fin 4 → Int} {s t : State} (h : Nat) (hi : Keeps d s t) : Keeps d s (roundRisen t h) := by
  unfold roundRisen
  exact roundAt_keeps h (forEach_keeps (fun _ a k => roundAt_keeps a k) hi)

theorem laneRounds_keeps {d : Fin 4 → Int} {s t : State} (h : Nat) (hi : Keeps d s t) : Keeps d s (laneRounds t h) := by
  unfold laneRounds
  exact forEach_keeps (fun _ a k => roundRisen_keeps a k) hi

theorem roundCompare_keeps {d : Fin 4 → Int} {s t : State} (h : BitVec 24) (check : PlaneCheck) (hi : Keeps d s t) :
    Keeps d s (roundCompare t h check).1 := by
  unfold roundCompare
  iterate 9 (all_goals first | assumption | exact fatalFault_keeps _ _ _ hi | exact corrected_keeps _ _ _ (injectSpent_keeps hi) | exact corrected_keeps _ _ _ hi | exact holdRound_keeps _ _ (injectSpent_keeps hi) | exact holdRound_keeps _ _ hi | split | dsimp only)

theorem rankRound_keeps {d : Fin 4 → Int} {s t : State} (h : BitVec 24) (check : PlaneCheck) (hi : Keeps d s t) : Keeps d s (rankRound t h check) := by
  unfold rankRound
  have hc := roundCompare_keeps h check hi
  exact ite_keeps (laneRounds_keeps _ hc) hc

theorem inputRound_keeps {d : Fin 4 → Int} {s t : State} (h : Nat) (hi : Keeps d s t) : Keeps d s (inputRound t h) := by
  unfold inputRound
  exact unlessFatal_keeps hi (rankRound_keeps _ _ hi)

theorem laneBefore_keeps {d : Fin 4 → Int} {s t : State} (h : Nat) (hi : Keeps d s t) : Keeps d s (laneBefore t h) := by
  unfold laneBefore
  exact ite_keeps (forEach_keeps (fun _ a k => inputRound_keeps a k) hi) hi

theorem lanesBefore_keeps {d : Fin 4 → Int} {s t : State} (w : EgWrite) (hi : Keeps d s t) : Keeps d s (lanesBefore t w) := by
  unfold lanesBefore
  exact ite_keeps hi (forEach_keeps (fun _ a k => laneBefore_keeps a k) hi)

theorem deadlineAct_keeps {d : Fin 4 → Int} {s t : State} (h : Nat) (hi : Keeps d s t) : Keeps d s (deadlineAct t h) := by
  unfold deadlineAct
  exact unlessFatal_keeps hi (inputRound_keeps h (Keeps.inner hi (enqueue_inner h (calLeave_inner h (Inner.refl _)))))

theorem calendarAct_keeps {d : Fin 4 → Int} {s t : State} (id : Nat) (hi : Keeps d s t) : Keeps d s (calendarAct t id) := by
  unfold calendarAct
  exact unlessFatal_keeps hi (ite_keeps (ite_keeps (deadlineAct_keeps id hi)
    (Keeps.inner hi (couchDecision_inner (hi := Inner.refl _) ..))) hi)

theorem pollSum_fenced (s : State) : (pollSum s).flt = s.flt := rfl

/-- A fence keeps what is kept: the plane that it names is not none. -/
theorem Keeps.fence {d : Fin 4 → Int} {s t : State} {p : BitVec 2} {x : Option (BitVec 4)} (hp : p ≠ 0) (h : Keeps d s t) :
    Keeps d s { t with flt := { t.flt with fenced := p, inject := x } } :=
  { h with fenced := fun _ => hp }

theorem fencePlane_keeps {d : Fin 4 → Int} {s t : State} {plane : BitVec 2} (arg : BitVec 24) (lane handle : Word) (inj : Bool)
    (hp : plane ≠ 0) (hi : Keeps d s t) : Keeps d s (fencePlane t plane arg lane handle inj) := by
  unfold fencePlane
  try extract_lets
  iterate 14 (all_goals first | assumption | exact Keeps.fence hp hi | with_reducible apply fatalFault_keeps | with_reducible apply deferredCount_keeps | with_reducible apply pollSum_keeps | (with_reducible refine Keeps.inner ?_ (jnlPut_inner (hi := Inner.refl _) ..)) | with_reducible apply ite_keeps | split | (refine Keeps.upd rfl rfl rfl rfl rfl rfl rfl rfl ?_) | dsimp +zetaDelta only)

theorem plane_ne_zero (b : Bool) : (if b then (2 : BitVec 2) else 1) ≠ 0 := by cases b <;> decide

theorem selfTestEnd_keeps {d : Fin 4 → Int} {s t : State} (aPass bPass third : Bool) (hi : Keeps d s t) :
    Keeps d s (selfTestEnd t aPass bPass third) := by
  unfold selfTestEnd
  try extract_lets
  iterate 14 (all_goals first | assumption | exact plane_ne_zero _ | with_reducible apply fencePlane_keeps | with_reducible apply corrected_keeps | with_reducible apply fatalFault_keeps | with_reducible apply laneRounds_keeps | with_reducible apply ite_keeps | split | (refine Keeps.upd rfl rfl rfl rfl rfl rfl rfl rfl ?_) | dsimp +zetaDelta only)

/-- A beat takes a credit of its lane. -/
theorem Keeps.debit {s t : State} {lane : Fin 4} (k : Nat) (n : t.vat.credits[lane] ≠ 0) (h : Keeps noGain s t) :
    Keeps (fun l => noGain l - oneOn lane l) s
      { t with vat := { t.vat with credits := t.vat.credits.set lane (t.vat.credits[lane] - 1), taken := k } } :=
  { h with
    lanes := by
      intro l
      have k := h.lanes l
      simp only [laneSum, noGain, oneOn] at k ⊢
      by_cases e : l = lane
      · subst e
        simp
        have n' : t.vat.credits[l.val] ≠ 0 := n
        simp at k
        omega
      · have e' : lane.val ≠ l.val := fun c => e (Fin.ext c).symm
        simp [e, e', Vector.getElem_set_ne]
        simp at k
        omega }

/-- An operation that gives back what a lane lacks keeps what is kept. -/
theorem Keeps.regain {d e : Fin 4 → Int} {s t : State} {f : State → State} (h : Keeps (fun l => d l - e l) s t)
    (hf : Inner (fun l => e l - e l) t t → Inner e t (f t)) : Keeps d s (f t) :=
  Keeps.gain (e := e) h (hf (Inner.none e t))

/-- A beat that is resolved keeps its slot or gives its credit back. -/
theorem resolve_keeps {d : Fin 4 → Int} {s t : State} (x : Slot) (hi : Keeps (fun l => d l - oneOn x.lane l) s t) : Keeps d s (resolve t x) := by
  unfold resolve
  dsimp only
  have hc : ∀ h, Keeps (fun l => d l - oneOn x.lane l) s (cacheRead t h) := fun h => cacheRead_keeps h hi
  have hn : ∀ b stamp reason h, Keeps d s (creditBack (noise t b stamp reason h) x.lane) := fun b stamp reason h =>
    Keeps.regain (f := fun u => creditBack (noise u b stamp reason h) x.lane) hi fun z => creditBack_inner _ (noise_inner _ _ _ _ z)
  split
  · exact hn _ _ _ _
  · refine ite_keeps (hn _ _ _ _) (ite_keeps (hn _ _ _ _) ?_)
    have hp : ∀ (y : Slot) h, y.lane = x.lane → Keeps d s (vatPut (cacheRead t h) y) := fun y h e =>
      Keeps.regain (f := fun u => vatPut u y) (hc h) fun z => by
        have k := vatPut_inner (δ := oneOn x.lane) (s₀ := cacheRead t h) (s₁ := cacheRead t h) y (by rw [e]; exact z)
        exact k
    split
    · refine ite_keeps (hp _ _ rfl) ?_
      exact Keeps.regain (f := fun u => postResolve (touch u _) x _ _) (hc _) fun z => postResolve_inner _ _ _ (touch_inner _ z)
    · exact Keeps.inner (hp { x with st := .fetching _ } _ rfl) (fetchVte_inner _ (Inner.refl _))

/-- A list of things, each of which takes back what one lane lacks. -/
theorem lanes_keeps {α : Type} {g : State → α → State} (f : α → Fin 4)
    (hg : ∀ {d : Fin 4 → Int} {s t : State} (x : α), Keeps (fun i => d i - oneOn (f x) i) s t → Keeps d s (g t x)) {s : State} :
    ∀ (l : List α) {d : Fin 4 → Int} {t : State},
      Keeps (fun i => d i - (l.filter fun x => decide (f x = i)).length) s t → Keeps d s (forEach l t g) := by
  intro l
  induction l with
  | nil => intro d t hi; simpa [forEach] using hi
  | cons x r ih =>
    intro d t hi
    rw [gain_cons] at hi
    exact ih (hg _ hi)

theorem releaseParked_keeps {d : Fin 4 → Int} {s t : State} (p : Slot → Bool) (hi : Keeps d s t) : Keeps d s (releaseParked t p) := by
  unfold releaseParked
  refine lanes_keeps (fun x : Slot => x.lane) (fun x k => resolve_keeps x k) _ { hi with lanes := ?_ }
  intro l
  have h := hi.lanes l
  have k := filter_split (fun x : Slot => decide (x.st = .parked) && p x) (fun x => decide (x.lane = l)) t.vat.slots
  simp only [laneSum] at h ⊢
  omega

theorem releaseAll_keeps {d : Fin 4 → Int} {s t : State} (hi : Keeps d s t) : Keeps d s (releaseAll t) := by
  unfold releaseAll
  exact ite_keeps (releaseParked_keeps _ hi) hi

theorem takeBeat_keeps {s t : State} (lane : Fin 4) (k : BeatKind) (b : Beat) (hi : Keeps noGain s t) : Keeps noGain s (takeBeat t lane k b) := by
  unfold takeBeat
  extract_lets c s1 n v s0 s2 x
  have h0 : Keeps noGain s s1 := Keeps.upd rfl rfl rfl rfl rfl rfl rfl rfl hi
  by_cases hn : n = 0
  · rw [if_pos hn]
    exact Keeps.inner h0 (noise_inner (hi := Inner.refl _) ..)
  · rw [if_neg hn]
    have h1 : Keeps (fun l => noGain l - oneOn lane l) s s0 := Keeps.debit _ hn h0
    have h2 : Keeps (fun l => noGain l - oneOn lane l) s s2 := ite_keeps h1 (Keeps.inner h1 (vatStage_inner (hi := Inner.refl _) ..))
    have credit : ∀ {u : State}, Keeps (fun l => noGain l - oneOn lane l) s u → Keeps noGain s (creditBack u lane) := fun {u} h =>
      Keeps.regain (f := fun u => creditBack u lane) h fun z => creditBack_inner lane z
    refine ite_keeps (credit h2) (ite_keeps (credit (Keeps.inner h2 (noise_inner (hi := Inner.refl _) ..))) (ite_keeps
      (credit (Keeps.inner (Keeps.upd rfl rfl rfl rfl rfl rfl rfl rfl h2) (noise_inner (hi := Inner.refl _) ..))) (ite_keeps
      (Keeps.gain (e := oneOn lane) (Keeps.upd rfl rfl rfl rfl rfl rfl rfl rfl h2) (vatPut_inner x (Inner.none _ _)))
      (resolve_keeps x h2))))

theorem present_keeps {s t : State} (lane : Fin 4) (k : BeatKind) (b : Beat) (hi : Keeps noGain s t) : Keeps noGain s (present t lane k b) := by
  unfold present
  have ha := activity_keeps true hi
  exact ite_keeps hi (ite_keeps (ite_keeps (wakeSource_keeps _ hi) hi) (ite_keeps ha (takeBeat_keeps _ _ _ ha)))

theorem wakeBeat_keeps {d : Fin 4 → Int} {s t : State}  (hi : Keeps d s t) : Keeps d s (wakeBeat t) := by
  unfold wakeBeat
  try extract_lets
  iterate 14 (all_goals first | assumption | with_reducible apply wakeSource_keeps | with_reducible apply activity_keeps | with_reducible apply ite_keeps | (intro _) | split | (refine Keeps.upd rfl rfl rfl rfl rfl rfl rfl rfl ?_) | exact wakeful_serving | exact wakeful_draining | exact wakeful_unformed | exact wakeful_idle | exact wakeful_ite | dsimp +zetaDelta only)

theorem strangerTick_keeps {d : Fin 4 → Int} {s t : State}  (hi : Keeps d s t) : Keeps d s (strangerTick t) := by
  unfold strangerTick
  try extract_lets
  iterate 14 (all_goals first | assumption | (with_reducible refine Keeps.inner ?_ (stranger_inner (hi := Inner.refl _) ..)) | (with_reducible refine Keeps.inner ?_ (windowsEnd_inner (hi := Inner.refl _) ..)) | with_reducible apply ite_keeps | (intro _) | split | (refine Keeps.upd rfl rfl rfl rfl rfl rfl rfl rfl ?_) | exact wakeful_serving | exact wakeful_draining | exact wakeful_unformed | exact wakeful_idle | exact wakeful_ite | dsimp +zetaDelta only)

theorem modeChange_keeps {d : Fin 4 → Int} {s t : State} {m : Mode} (cause : Nat) (w : wakeful m) (hi : Keeps d s t) :
    Keeps d s (modeChange t m cause) := by
  unfold modeChange
  exact Keeps.inner (Keeps.setMode w hi) (jnlPut_inner (hi := Inner.refl _) ..)

theorem entryOver_keeps {d : Fin 4 → Int} {s t : State}  (hi : Keeps d s t) : Keeps d s (entryOver t) := by
  unfold entryOver
  try extract_lets
  iterate 14 (all_goals first | assumption | with_reducible apply ite_keeps | (intro _) | split | (refine Keeps.upd rfl rfl rfl rfl rfl rfl rfl rfl ?_) | exact wakeful_serving | exact wakeful_draining | exact wakeful_unformed | exact wakeful_idle | exact wakeful_ite | dsimp +zetaDelta only)

theorem engineSettle_keeps {d : Fin 4 → Int} {s t : State}  (hi : Keeps d s t) : Keeps d s (engineSettle t) := by
  unfold engineSettle
  try extract_lets
  iterate 14 (all_goals first | assumption | with_reducible apply entryOver_keeps | with_reducible apply modeChange_keeps | (with_reducible refine Keeps.inner ?_ (unformedSettle_inner (hi := Inner.refl _) ..)) | with_reducible apply ite_keeps | (intro _) | split | (refine Keeps.upd rfl rfl rfl rfl rfl rfl rfl rfl ?_) | exact wakeful_serving | exact wakeful_draining | exact wakeful_unformed | exact wakeful_idle | exact wakeful_ite | dsimp +zetaDelta only)

theorem egressSettle_keeps {d : Fin 4 → Int} {s t : State} (hi : Keeps d s t) : Keeps d s (egressSettle t) := by
  unfold egressSettle
  exact engineSettle_keeps (Keeps.inner (Keeps.inner hi (pumpBells_inner _ (Inner.refl _))) (settleAll_inner (Inner.refl _)))

theorem accepted_keeps {d : Fin 4 → Int} {s t : State} (tag : BitVec 8) (w : EgWrite) (hi : Keeps d s t) : Keeps d s (accepted t tag w) := by
  unfold accepted
  try extract_lets
  iterate 14 (all_goals first | assumption | with_reducible apply egressSettle_keeps | with_reducible apply lanesBefore_keeps | (with_reducible refine Keeps.inner ?_ (acceptRecs_inner (hi := Inner.refl _) ..)) | (with_reducible refine Keeps.inner ?_ (flightDrop_inner (hi := Inner.refl _) ..)) | with_reducible apply ite_keeps | (intro _) | split | (refine Keeps.upd rfl rfl rfl rfl rfl rfl rfl rfl ?_) | exact wakeful_serving | exact wakeful_draining | exact wakeful_unformed | exact wakeful_idle | exact wakeful_ite | dsimp +zetaDelta only)

theorem refused_keeps {d : Fin 4 → Int} {s t : State} (tag : BitVec 8) (w : EgWrite) (hi : Keeps d s t) : Keeps d s (refused t tag w) := by
  unfold refused
  try extract_lets
  iterate 14 (all_goals first | assumption | with_reducible apply egressSettle_keeps | with_reducible apply lanesBefore_keeps | (with_reducible refine Keeps.inner ?_ (recordsRefused_inner (hi := Inner.refl _) ..)) | (with_reducible refine Keeps.inner ?_ (bellRefused_inner (hi := Inner.refl _) ..)) | (with_reducible refine Keeps.inner ?_ (flightDrop_inner (hi := Inner.refl _) ..)) | with_reducible apply ite_keeps | (intro _) | split | (refine Keeps.upd rfl rfl rfl rfl rfl rfl rfl rfl ?_) | exact wakeful_serving | exact wakeful_draining | exact wakeful_unformed | exact wakeful_idle | exact wakeful_ite | dsimp +zetaDelta only)

theorem egressOutcome_keeps {d : Fin 4 → Int} {s t : State} {f : State → BitVec 8 → EgWrite → State} (tag : BitVec 8)
    (hf : ∀ t a w, Keeps d s t → Keeps d s (f t a w)) (hi : Keeps d s t) : Keeps d s (egressOutcome t tag f) := by
  have hd := Keeps.inner hi (flightDrop_inner tag (Inner.refl _))
  unfold egressOutcome
  iterate 6 (all_goals first | assumption | exact hf _ _ _ hi | split)

theorem portAnswer_keeps {d : Fin 4 → Int} {s t : State} (p : Port) (w : Word) (err : Bool) (hi : Keeps d s t) : Keeps d s (portAnswer t p w err) := by
  unfold portAnswer
  try extract_lets
  iterate 14 (all_goals first | assumption | with_reducible apply ite_keeps | (intro _) | split | (refine Keeps.upd rfl rfl rfl rfl rfl rfl rfl rfl ?_) | exact wakeful_serving | exact wakeful_draining | exact wakeful_unformed | exact wakeful_idle | exact wakeful_ite | dsimp +zetaDelta only)

theorem portDone_keeps {d : Fin 4 → Int} {s t : State} (p : Port) (hi : Keeps d s t) : Keeps d s (portDone t p) := by
  unfold portDone
  try extract_lets
  iterate 14 (all_goals first | assumption | with_reducible apply portAnswer_keeps | with_reducible apply ite_keeps | (intro _) | split | (refine Keeps.upd rfl rfl rfl rfl rfl rfl rfl rfl ?_) | exact wakeful_serving | exact wakeful_draining | exact wakeful_unformed | exact wakeful_idle | exact wakeful_ite | dsimp +zetaDelta only)

theorem portServe_keeps {d : Fin 4 → Int} {s t : State} {f : State → State} (hf : ∀ t, Keeps d s t → Keeps d s (f t)) (hi : Keeps d s t) :
    Keeps d s (portServe t f) := ite_keeps hi (hf _ hi)

theorem writeAt_keeps {d : Fin 4 → Int} {s t : State} (p : Port) {f : State → State} (hf : ∀ t, Keeps d s t → Keeps d s (f t))
    (hi : Keeps d s t) : Keeps d s (writeAt t p f) :=
  portServe_keeps (fun _ h => portDone_keeps p (hf _ h)) hi

theorem deniedWrite_keeps {d : Fin 4 → Int} {s t₁ : State} (t : Nat) (hi : Keeps d s t₁) : Keeps d s (deniedWrite t₁ t) := by
  unfold deniedWrite
  try extract_lets
  iterate 14 (all_goals first | assumption | with_reducible apply activity_keeps | (with_reducible refine Keeps.inner ?_ (denied_inner (hi := Inner.refl _) ..)) | with_reducible apply ite_keeps | (intro _) | split | (refine Keeps.upd rfl rfl rfl rfl rfl rfl rfl rfl ?_) | exact wakeful_serving | exact wakeful_draining | exact wakeful_unformed | exact wakeful_idle | exact wakeful_ite | dsimp +zetaDelta only)

theorem sleepIgnore_keeps {d : Fin 4 → Int} {s t : State} (addr : BitVec 22) (hi : Keeps d s t) : Keeps d s (sleepIgnore t addr) := by
  unfold sleepIgnore
  try extract_lets
  iterate 14 (all_goals first | assumption | with_reducible apply ite_keeps | (intro _) | split | (refine Keeps.upd rfl rfl rfl rfl rfl rfl rfl rfl ?_) | exact wakeful_serving | exact wakeful_draining | exact wakeful_unformed | exact wakeful_idle | exact wakeful_ite | dsimp +zetaDelta only)

theorem portWrite_keeps {d : Fin 4 → Int} {s t : State} {f : State → State} (p : Port) (reach : Bool) (addr : BitVec 22)
    (hf : ∀ t, Keeps d s t → Keeps d s (f t)) (hi : Keeps d s t) : Keeps d s (portWrite t p reach addr f) := by
  have ha := activity_keeps false hi
  unfold portWrite
  iterate 6 (all_goals first | assumption | exact hf _ ha | exact sleepIgnore_keeps _ hi | exact deniedWrite_keeps _ hi | split)

theorem lockTake_keeps {d : Fin 4 → Int} {s t : State} (u : EaId) (kind : BitVec 3) (i : Nat) (lease : BitVec 16) (hi : Keeps d s t) : Keeps d s (lockTake t u kind i lease) := by
  unfold lockTake
  try extract_lets
  iterate 14 (all_goals first | assumption | (with_reducible refine Keeps.inner ?_ (eaPut_inner (hi := Inner.refl _) ..)) | (with_reducible refine Keeps.inner ?_ (eaRaise_inner (hi := Inner.refl _) ..)) | with_reducible apply ite_keeps | (intro _) | split | (refine Keeps.upd rfl rfl rfl rfl rfl rfl rfl rfl ?_) | exact wakeful_serving | exact wakeful_draining | exact wakeful_unformed | exact wakeful_idle | exact wakeful_ite | dsimp +zetaDelta only)

theorem acquire_keeps {d : Fin 4 → Int} {s t : State} (u : EaId) (lease : BitVec 16) (hi : Keeps d s t) : Keeps d s (acquire u lease t) := by
  unfold acquire
  exact ite_keeps (Keeps.inner hi (eaRaise_inner (hi := Inner.refl _) ..)) (lockTake_keeps _ _ _ _ hi)

theorem rowRead_keeps {d : Fin 4 → Int} {s t : State} (u : EaId) (hi : Keeps d s t) : Keeps d s (rowRead t u) := by
  unfold rowRead
  try extract_lets
  iterate 14 (all_goals first | assumption | with_reducible apply cacheRead_keeps | with_reducible apply ite_keeps | (intro _) | split | (refine Keeps.upd rfl rfl rfl rfl rfl rfl rfl rfl ?_) | exact wakeful_serving | exact wakeful_draining | exact wakeful_unformed | exact wakeful_idle | exact wakeful_ite | dsimp +zetaDelta only)

theorem ifIdle_keeps {d : Fin 4 → Int} {s t : State} (u : EaId) {f : State → State} (hi : Keeps d s t) (hf : Keeps d s (f t)) :
    Keeps d s (ifIdle u t f) := by
  unfold ifIdle
  exact ite_keeps (Keeps.inner hi (eaRaise_inner (hi := Inner.refl _) ..)) hf

theorem eaRead_keeps {d : Fin 4 → Int} {s t : State} (u : EaId) (hi : Keeps d s t) : Keeps d s (eaRead u t) := by
  unfold eaRead
  refine ifIdle_keeps _ hi ?_
  dsimp only
  have hr : ∀ {x} m, Keeps d s x → Keeps d s (eaRaise x u m) := fun m h => Keeps.inner h (eaRaise_inner u m (Inner.refl _))
  have hp : ∀ {x} e, Keeps d s x → Keeps d s (eaPut x u e) := fun e h => Keeps.inner h (eaPut_inner u e (Inner.refl _))
  have hc : ∀ i, Keeps d s (if (eaOf t u).kind = 1 then cacheRead t i else t) := fun i => ite_keeps (cacheRead_keeps _ hi) hi
  refine ite_keeps (hr _ hi) (ite_keeps (hr _ (hp _ hi)) (ite_keeps (hp _ (hc _)) (ite_keeps (hp _ (hc _)) ?_)))
  split
  · exact hr _ (hp _ (ite_keeps (Keeps.inner (hc _) (touch_inner _ (Inner.refl _))) (hc _)))
  · exact Keeps.inner (hp _ (hc _)) (fetchVte_inner _ (Inner.refl _))

theorem ifLocked_keeps {d : Fin 4 → Int} {s t : State} (u : EaId) (ok : Bool) {f : State → Lock → State} (hi : Keeps d s t)
    (hf : ∀ v l, Keeps d s v → Keeps d s (f v l)) : Keeps d s (ifLocked u t ok f) := by
  unfold ifLocked
  have h1 : Keeps d s (leaseLapse t u) := Keeps.inner hi (leaseLapse_inner _ (Inner.refl _))
  have hr : ∀ m, Keeps d s (eaRaise (leaseLapse t u) u m) := fun _ => Keeps.inner h1 (eaRaise_inner _ _ (Inner.refl _))
  unfold ifIdle
  refine ite_keeps (hr _) (ite_keeps (hr _) ?_)
  unfold withLock
  split
  · exact ite_keeps (hf _ _ h1) (hr _)
  · exact hr _

theorem eaApply_keeps {d : Fin 4 → Int} {s t : State} (p : Port) (u : EaId) (hi : Keeps d s t) : Keeps d s (eaApply p u t) := by
  unfold eaApply
  exact ifLocked_keeps _ _ hi fun v l k => Keeps.inner (rowRead_keeps u k) (submit_inner _ _ _ (eaPut_inner _ _ (Inner.refl _)))

theorem eaFence_keeps {d : Fin 4 → Int} {s t : State} (u : EaId) (hi : Keeps d s t) : Keeps d s (eaFence u t) := by
  unfold eaFence
  refine ifLocked_keeps _ _ hi fun v l k => ?_
  dsimp only
  have h1 := rowRead_keeps u k
  split
  · exact Keeps.inner h1 (fenceCheck_inner _ (eaPut_inner _ _ (Inner.refl _)))
  · exact Keeps.inner h1 (fetchVte_inner _ (eaPut_inner _ _ (Inner.refl _)))

theorem unitWrite_keeps {d : Fin 4 → Int} {s t : State} {f : State → State} (p : Port) (u : EaId) (off : Nat)
    (hf : ∀ t, Keeps d s t → Keeps d s (f t)) (hi : Keeps d s t) : Keeps d s (unitWrite t p u off f) :=
  portWrite_keeps p _ _ hf hi

theorem queueHold_keeps {d : Fin 4 → Int} {s t : State} (q : Queued) (hi : Keeps d s t) : Keeps d s (queueHold t q) := by
  unfold queueHold
  try extract_lets
  iterate 14 (all_goals first | assumption | with_reducible apply wakeSource_keeps | with_reducible apply ite_keeps | (intro _) | split | (refine Keeps.upd rfl rfl rfl rfl rfl rfl rfl rfl ?_) | exact wakeful_serving | exact wakeful_draining | exact wakeful_unformed | exact wakeful_idle | exact wakeful_ite | dsimp +zetaDelta only)

theorem queueEoi_keeps {d : Fin 4 → Int} {s t : State} (q : Queued) (hi : Keeps d s t) : Keeps d s (queueEoi t q) := by
  unfold queueEoi
  try extract_lets
  iterate 14 (all_goals first | assumption | with_reducible apply queueHold_keeps | with_reducible apply ite_keeps | (intro _) | split | (refine Keeps.upd rfl rfl rfl rfl rfl rfl rfl rfl ?_) | exact wakeful_serving | exact wakeful_draining | exact wakeful_unformed | exact wakeful_idle | exact wakeful_ite | dsimp +zetaDelta only)

theorem queueHint_keeps {d : Fin 4 → Int} {s t : State} (q : Queued) (hi : Keeps d s t) : Keeps d s (queueHint t q) := by
  unfold queueHint
  try extract_lets
  iterate 14 (all_goals first | assumption | with_reducible apply queueHold_keeps | with_reducible apply ite_keeps | (intro _) | split | (refine Keeps.upd rfl rfl rfl rfl rfl rfl rfl rfl ?_) | exact wakeful_serving | exact wakeful_draining | exact wakeful_unformed | exact wakeful_idle | exact wakeful_ite | dsimp +zetaDelta only)

theorem queueWrite_keeps {d : Fin 4 → Int} {s t : State} (q : Queued) (hi : Keeps d s t) : Keeps d s (queueWrite t q) := by
  unfold queueWrite
  try extract_lets
  iterate 14 (all_goals first | assumption | with_reducible apply queueHint_keeps | with_reducible apply queueEoi_keeps | with_reducible apply ite_keeps | (intro _) | split | (refine Keeps.upd rfl rfl rfl rfl rfl rfl rfl rfl ?_) | exact wakeful_serving | exact wakeful_draining | exact wakeful_unformed | exact wakeful_idle | exact wakeful_ite | dsimp +zetaDelta only)

theorem queuedWrite_keeps {d : Fin 4 → Int} {s t₁ : State} (p : Port) (t : BitVec 16) (off : Nat) (q : Queued) (hi : Keeps d s t₁) : Keeps d s (queuedWrite t₁ p t off q) := by
  unfold queuedWrite
  try extract_lets
  iterate 14 (all_goals first | assumption | with_reducible apply queueWrite_keeps | with_reducible apply portWrite_keeps | (with_reducible refine Keeps.inner ?_ (applyQueued_inner (hi := Inner.refl _) ..)) | with_reducible apply ite_keeps | (intro _) | split | (refine Keeps.upd rfl rfl rfl rfl rfl rfl rfl rfl ?_) | exact wakeful_serving | exact wakeful_draining | exact wakeful_unformed | exact wakeful_idle | exact wakeful_ite | dsimp +zetaDelta only)

theorem doneUnlessHeld_keeps {d : Fin 4 → Int} {s t : State} (u : State) (p : Port) (hi : Keeps d s t) : Keeps d s (doneUnlessHeld u t p) := by
  unfold doneUnlessHeld
  exact ite_keeps (portDone_keeps _ hi) hi

theorem queuedAt_keeps {d : Fin 4 → Int} {s t : State} {f : State → State} (p : Port) (hf : ∀ t, Keeps d s t → Keeps d s (f t)) (hi : Keeps d s t) :
    Keeps d s (queuedAt t p f) := by
  unfold queuedAt
  exact portServe_keeps (fun t k => doneUnlessHeld_keeps _ _ (hf t k)) hi

theorem amaskRead_keeps {d : Fin 4 → Int} {s t₁ : State} (p : Port) (t : Nat) (hi : Keeps d s t₁) : Keeps d s (amaskRead t₁ p t) := by
  unfold amaskRead
  try extract_lets
  iterate 14 (all_goals first | assumption | with_reducible apply portAnswer_keeps | (with_reducible refine Keeps.inner ?_ (denied_inner (hi := Inner.refl _) ..)) | with_reducible apply ite_keeps | (intro _) | split | (refine Keeps.upd rfl rfl rfl rfl rfl rfl rfl rfl ?_) | exact wakeful_serving | exact wakeful_draining | exact wakeful_unformed | exact wakeful_idle | exact wakeful_ite | dsimp +zetaDelta only)

theorem creditTick_keeps {d : Fin 4 → Int} {s t : State}  (hi : Keeps d s t) : Keeps d s (creditTick t) := by
  unfold creditTick
  try extract_lets
  iterate 14 (all_goals first | assumption | (with_reducible refine Keeps.inner ?_ (creditRefill_inner (hi := Inner.refl _) ..)) | with_reducible apply ite_keeps | (intro _) | split | (refine Keeps.upd rfl rfl rfl rfl rfl rfl rfl rfl ?_) | exact wakeful_serving | exact wakeful_draining | exact wakeful_unformed | exact wakeful_idle | exact wakeful_ite | dsimp +zetaDelta only)

theorem sweepTick_keeps {d : Fin 4 → Int} {s t : State}  (hi : Keeps d s t) : Keeps d s (sweepTick t) := by
  unfold sweepTick
  try extract_lets
  iterate 14 (all_goals first | assumption | with_reducible apply activity_keeps | with_reducible apply calendarAct_keeps | with_reducible apply unlessFatal_keeps | with_reducible refine forEach_keeps (fun _ _ _ => ?_) ?_ | with_reducible apply ite_keeps | (intro _) | split | (refine Keeps.upd rfl rfl rfl rfl rfl rfl rfl rfl ?_) | exact wakeful_serving | exact wakeful_draining | exact wakeful_unformed | exact wakeful_idle | exact wakeful_ite | dsimp +zetaDelta only)

theorem applyHost_keeps {d : Fin 4 → Int} {s t : State} (e : HostEvt) (hi : Keeps d s t) : Keeps d s (applyHost t e) := by
  unfold applyHost
  try extract_lets
  iterate 14 (all_goals first | assumption | with_reducible apply engineSettle_keeps | (with_reducible refine Keeps.inner ?_ (setUnreach_inner (hi := Inner.refl _) ..)) | (with_reducible refine Keeps.inner ?_ (hostLocks_inner (hi := Inner.refl _) ..)) | (with_reducible refine Keeps.inner ?_ (clearUnreach_inner (hi := Inner.refl _) ..)) | (with_reducible refine Keeps.inner ?_ (settleAll_inner (hi := Inner.refl _) ..)) | with_reducible refine forEach_keeps (fun _ _ _ => ?_) ?_ | with_reducible apply ite_keeps | (intro _) | split | (refine Keeps.upd rfl rfl rfl rfl rfl rfl rfl rfl ?_) | exact wakeful_serving | exact wakeful_draining | exact wakeful_unformed | exact wakeful_idle | exact wakeful_ite | dsimp +zetaDelta only)

theorem hostAck_keeps {d : Fin 4 → Int} {s t : State}  (hi : Keeps d s t) : Keeps d s (hostAck t) := by
  unfold hostAck
  try extract_lets
  iterate 14 (all_goals first | assumption | with_reducible apply ite_keeps | (intro _) | split | (refine Keeps.upd rfl rfl rfl rfl rfl rfl rfl rfl ?_) | exact wakeful_serving | exact wakeful_draining | exact wakeful_unformed | exact wakeful_idle | exact wakeful_ite | dsimp +zetaDelta only)

theorem hostTake_keeps {d : Fin 4 → Int} {s t : State} (e : HostEvt) (hi : Keeps d s t) : Keeps d s (hostTake t e) := by
  unfold hostTake
  try extract_lets
  iterate 14 (all_goals first | assumption | with_reducible apply hostAck_keeps | with_reducible apply applyHost_keeps | with_reducible apply ite_keeps | (intro _) | split | (refine Keeps.upd rfl rfl rfl rfl rfl rfl rfl rfl ?_) | exact wakeful_serving | exact wakeful_draining | exact wakeful_unformed | exact wakeful_idle | exact wakeful_ite | dsimp +zetaDelta only)

theorem hostEvent_keeps {d : Fin 4 → Int} {s t : State} (e : HostEvt) (hi : Keeps d s t) : Keeps d s (hostEvent t e) := by
  unfold hostEvent
  try extract_lets
  iterate 14 (all_goals first | assumption | with_reducible apply hostTake_keeps | with_reducible apply wakeSource_keeps | with_reducible apply activity_keeps | with_reducible apply ite_keeps | (intro _) | split | (refine Keeps.upd rfl rfl rfl rfl rfl rfl rfl rfl ?_) | exact wakeful_serving | exact wakeful_draining | exact wakeful_unformed | exact wakeful_idle | exact wakeful_ite | dsimp +zetaDelta only)

theorem opOver_keeps {d : Fin 4 → Int} {s t : State}  (hi : Keeps d s t) : Keeps d s (opOver t) := by
  unfold opOver
  try extract_lets
  iterate 14 (all_goals first | assumption | (with_reducible refine Keeps.inner ?_ (noteBusy_inner (hi := Inner.refl _) ..)) | with_reducible apply ite_keeps | (intro _) | split | (refine Keeps.upd rfl rfl rfl rfl rfl rfl rfl rfl ?_) | exact wakeful_serving | exact wakeful_draining | exact wakeful_unformed | exact wakeful_idle | exact wakeful_ite | dsimp +zetaDelta only)

theorem fuFail_keeps {d : Fin 4 → Int} {s t : State} (op : Option FurnOp) (e : FurnErr) (bid : DWord) (hi : Keeps d s t) : Keeps d s (fuFail t op e bid) := by
  unfold fuFail
  try extract_lets
  iterate 14 (all_goals first | assumption | with_reducible apply opOver_keeps | with_reducible apply releaseAll_keeps | (with_reducible refine Keeps.inner ?_ (jnl_inner (hi := Inner.refl _) ..)) | with_reducible apply ite_keeps | (intro _) | split | (refine Keeps.upd rfl rfl rfl rfl rfl rfl rfl rfl ?_) | exact wakeful_serving | exact wakeful_draining | exact wakeful_unformed | exact wakeful_idle | exact wakeful_ite | dsimp +zetaDelta only)

theorem opFail_keeps {d : Fin 4 → Int} {s t : State} (e : FurnErr) (hi : Keeps d s t) : Keeps d s (opFail t e) := by
  unfold opFail
  try extract_lets
  iterate 14 (all_goals first | assumption | with_reducible apply fuFail_keeps | with_reducible apply ite_keeps | (intro _) | split | (refine Keeps.upd rfl rfl rfl rfl rfl rfl rfl rfl ?_) | exact wakeful_serving | exact wakeful_draining | exact wakeful_unformed | exact wakeful_idle | exact wakeful_ite | dsimp +zetaDelta only)

theorem cmdRej_keeps {d : Fin 4 → Int} {s t : State}  (hi : Keeps d s t) : Keeps d s (cmdRej t) := by
  unfold cmdRej
  try extract_lets
  iterate 14 (all_goals first | assumption | with_reducible apply ite_keeps | (intro _) | split | (refine Keeps.upd rfl rfl rfl rfl rfl rfl rfl rfl ?_) | exact wakeful_serving | exact wakeful_draining | exact wakeful_unformed | exact wakeful_idle | exact wakeful_ite | dsimp +zetaDelta only)

theorem furnCmd_keeps {d : Fin 4 → Int} {s t : State} {f : State → State} (ok : Bool)
    (hf : ∀ t, Keeps d s t → Keeps d s (f t)) (hi : Keeps d s t) : Keeps d s (furnCmd t ok f) := by
  have ha := activity_keeps false hi
  unfold furnCmd
  iterate 6 (all_goals first | assumption | exact hf _ ha | exact cmdRej_keeps ha | exact cmdRej_keeps hi | split)

theorem opStart_keeps {d : Fin 4 → Int} {s t : State} (op : FurnOp) (hi : Keeps d s t) : Keeps d s (opStart op t) := by
  unfold opStart
  try extract_lets
  iterate 14 (all_goals first | assumption | with_reducible apply fuFail_keeps | (with_reducible refine Keeps.inner ?_ (apBulk_inner (hi := Inner.refl _) ..)) | with_reducible apply ite_keeps | (intro _) | split | (refine Keeps.upd rfl rfl rfl rfl rfl rfl rfl rfl ?_) | exact wakeful_serving | exact wakeful_draining | exact wakeful_unformed | exact wakeful_idle | exact wakeful_ite | dsimp +zetaDelta only)

theorem abandon_keeps {d : Fin 4 → Int} {s t : State}  (hi : Keeps d s t) : Keeps d s (abandon t) := by
  unfold abandon
  try extract_lets
  iterate 14 (all_goals first | assumption | with_reducible apply opOver_keeps | with_reducible apply releaseAll_keeps | (with_reducible refine Keeps.inner ?_ (apDrop_inner (hi := Inner.refl _) ..)) | with_reducible apply ite_keeps | (intro _) | split | (refine Keeps.upd rfl rfl rfl rfl rfl rfl rfl rfl ?_) | exact wakeful_serving | exact wakeful_draining | exact wakeful_unformed | exact wakeful_idle | exact wakeful_ite | dsimp +zetaDelta only)

theorem takeDigest_keeps {δ : Fin 4 → Int} {s t : State} (d : Digest) (tenantOk : Bool) (hi : Keeps δ s t) : Keeps δ s (takeDigest t d tenantOk) := by
  unfold takeDigest
  try extract_lets
  iterate 14 (all_goals first | assumption | with_reducible apply opFail_keeps | with_reducible apply ite_keeps | (intro _) | split | (refine Keeps.upd rfl rfl rfl rfl rfl rfl rfl rfl ?_) | exact wakeful_serving | exact wakeful_draining | exact wakeful_unformed | exact wakeful_idle | exact wakeful_ite | dsimp +zetaDelta only)

theorem loaderTake_keeps {d : Fin 4 → Int} {s t : State}  (hi : Keeps d s t) : Keeps d s (loaderTake t) := by
  unfold loaderTake
  try extract_lets
  iterate 14 (all_goals first | assumption | with_reducible apply takeDigest_keeps | with_reducible apply ite_keeps | (intro _) | split | (refine Keeps.upd rfl rfl rfl rfl rfl rfl rfl rfl ?_) | exact wakeful_serving | exact wakeful_draining | exact wakeful_unformed | exact wakeful_idle | exact wakeful_ite | dsimp +zetaDelta only)

theorem fetchEnd_keeps {d : Fin 4 → Int} {s t : State}  (hi : Keeps d s t) : Keeps d s (fetchEnd t) := by
  unfold fetchEnd
  try extract_lets
  iterate 14 (all_goals first | assumption | with_reducible apply loaderTake_keeps | with_reducible apply opFail_keeps | with_reducible apply ite_keeps | (intro _) | split | (refine Keeps.upd rfl rfl rfl rfl rfl rfl rfl rfl ?_) | exact wakeful_serving | exact wakeful_draining | exact wakeful_unformed | exact wakeful_idle | exact wakeful_ite | dsimp +zetaDelta only)

theorem imageArrive_keeps {d : Fin 4 → Int} {s t : State} (image : List Byte) (hi : Keeps d s t) : Keeps d s (imageArrive t image) := by
  unfold imageArrive
  try extract_lets
  iterate 14 (all_goals first | assumption | with_reducible apply fetchEnd_keeps | (with_reducible refine Keeps.inner ?_ (apDrop_inner (hi := Inner.refl _) ..)) | with_reducible apply ite_keeps | (intro _) | split | (refine Keeps.upd rfl rfl rfl rfl rfl rfl rfl rfl ?_) | exact wakeful_serving | exact wakeful_draining | exact wakeful_unformed | exact wakeful_idle | exact wakeful_ite | dsimp +zetaDelta only)

theorem imagePart_keeps {d : Fin 4 → Int} {s t : State} (w : Words8) (hi : Keeps d s t) : Keeps d s (imagePart t w) := by
  unfold imagePart
  try extract_lets
  iterate 14 (all_goals first | assumption | with_reducible apply opFail_keeps | (with_reducible refine Keeps.inner ?_ (apDrop_inner (hi := Inner.refl _) ..)) | with_reducible apply ite_keeps | (intro _) | split | (refine Keeps.upd rfl rfl rfl rfl rfl rfl rfl rfl ?_) | exact wakeful_serving | exact wakeful_draining | exact wakeful_unformed | exact wakeful_idle | exact wakeful_ite | dsimp +zetaDelta only)

theorem imageLost_keeps {d : Fin 4 → Int} {s t : State}  (hi : Keeps d s t) : Keeps d s (imageLost t) := by
  unfold imageLost
  try extract_lets
  iterate 14 (all_goals first | assumption | with_reducible apply opFail_keeps | (with_reducible refine Keeps.inner ?_ (apDrop_inner (hi := Inner.refl _) ..)) | with_reducible apply ite_keeps | (intro _) | split | (refine Keeps.upd rfl rfl rfl rfl rfl rfl rfl rfl ?_) | exact wakeful_serving | exact wakeful_draining | exact wakeful_unformed | exact wakeful_idle | exact wakeful_ite | dsimp +zetaDelta only)

theorem discardFormed_keeps {d : Fin 4 → Int} {s t : State} (hi : Keeps d s t) : Keeps d s (discardFormed t) := by
  have h1 : Keeps d s (forEach (units t) t eaOver) := Keeps.inner hi (forEach_inner (fun x a h => eaOver_inner a h) (Inner.refl _))
  unfold discardFormed
  extract_lets s2
  have h2 : Keeps d s s2 := Keeps.inner h1 (approvedOver_inner (Inner.refl _))
  exact Keeps.upd rfl rfl rfl rfl rfl rfl rfl rfl h2

theorem formStart_keeps {d : Fin 4 → Int} {s t : State} (f : Furnish) (hi : Keeps d s t) : Keeps d s (formStart t f) := by
  unfold formStart
  try extract_lets
  iterate 14 (all_goals first | assumption | with_reducible apply discardFormed_keeps | (with_reducible refine Keeps.inner ?_ (apBulk_inner (hi := Inner.refl _) ..)) | (with_reducible refine Keeps.inner ?_ (formJournal_inner (hi := Inner.refl _) ..)) | with_reducible apply ite_keeps | (intro _) | split | (refine Keeps.upd rfl rfl rfl rfl rfl rfl rfl rfl ?_) | exact wakeful_serving | exact wakeful_draining | exact wakeful_unformed | exact wakeful_idle | exact wakeful_ite | dsimp +zetaDelta only)

theorem drainStart_keeps {d : Fin 4 → Int} {s t : State} (f : Furnish) (hi : Keeps d s t) : Keeps d s (drainStart t f) := by
  unfold drainStart
  try extract_lets
  iterate 14 (all_goals first | assumption | (with_reducible refine Keeps.inner ?_ (drainProposal_inner (hi := Inner.refl _) ..)) | (with_reducible refine Keeps.inner ?_ (drainLocks_inner (hi := Inner.refl _) ..)) | with_reducible apply ite_keeps | (intro _) | split | (refine Keeps.upd rfl rfl rfl rfl rfl rfl rfl rfl ?_) | exact wakeful_serving | exact wakeful_draining | exact wakeful_unformed | exact wakeful_idle | exact wakeful_ite | dsimp +zetaDelta only)

theorem validate_keeps {d : Fin 4 → Int} {s t : State}  (hi : Keeps d s t) : Keeps d s (validate t) := by
  unfold validate
  try extract_lets
  iterate 14 (all_goals first | assumption | with_reducible apply drainStart_keeps | with_reducible apply formStart_keeps | with_reducible apply opFail_keeps | with_reducible apply ite_keeps | (intro _) | split | (refine Keeps.upd rfl rfl rfl rfl rfl rfl rfl rfl ?_) | exact wakeful_serving | exact wakeful_draining | exact wakeful_unformed | exact wakeful_idle | exact wakeful_ite | dsimp +zetaDelta only)

theorem drainForm_keeps {d : Fin 4 → Int} {s t₁ : State} (old : Furnish) (new : Furnish) (t : Nat) (hi : Keeps d s t₁) : Keeps d s (drainForm t₁ old new t) := by
  unfold drainForm
  try extract_lets
  iterate 14 (all_goals first | assumption | (with_reducible refine Keeps.inner ?_ (apBulk_inner (hi := Inner.refl _) ..)) | with_reducible apply ite_keeps | (intro _) | split | (refine Keeps.upd rfl rfl rfl rfl rfl rfl rfl rfl ?_) | exact wakeful_serving | exact wakeful_draining | exact wakeful_unformed | exact wakeful_idle | exact wakeful_ite | dsimp +zetaDelta only)

theorem drainChanges_keeps {d : Fin 4 → Int} {s t : State} (e : Slice) (hi : Keeps d s t) : Keeps d s (drainChanges t e) := by
  unfold drainChanges
  dsimp only
  have hv : ∀ (v : State) (h : Nat), Keeps d s v → Keeps d s (if ranking v then inputRound v h else vteTry v h) :=
    fun v h k => ite_keeps (inputRound_keeps h k) (Keeps.inner k (vteTry_inner h (Inner.refl _)))
  refine Keeps.inner (forEach_keeps (l := drainVecs t e) hv hi) ?_
  exact forEach_inner (fun _ _ k => couchBoundary_inner _ _ k) (forEach_inner (fun _ _ k => groupSettle_inner _ k)
    (forEach_inner (fun _ _ k => tdBoundary_inner _ _ k) (Inner.refl _)))

theorem drainMessages_keeps {d : Fin 4 → Int} {s t : State} (e : Slice) (hi : Keeps d s t) : Keeps d s (drainMessages t e) := by
  unfold drainMessages
  try extract_lets
  iterate 14 (all_goals first | assumption | with_reducible apply inputRound_keeps | with_reducible refine forEach_keeps (fun _ _ _ => ?_) ?_ | with_reducible apply ite_keeps | (intro _) | split | (refine Keeps.upd rfl rfl rfl rfl rfl rfl rfl rfl ?_) | exact wakeful_serving | exact wakeful_draining | exact wakeful_unformed | exact wakeful_idle | exact wakeful_ite | dsimp +zetaDelta only)

theorem drainEnd_keeps {d : Fin 4 → Int} {s t : State}  (hi : Keeps d s t) : Keeps d s (drainEnd t) := by
  unfold drainEnd
  try extract_lets
  iterate 14 (all_goals first | assumption | with_reducible apply drainForm_keeps | with_reducible apply drainMessages_keeps | with_reducible apply drainChanges_keeps | (with_reducible refine Keeps.inner ?_ (drainWindow_inner (hi := Inner.refl _) ..)) | (with_reducible refine Keeps.inner ?_ (drainRefuse_inner (hi := Inner.refl _) ..)) | with_reducible refine forEach_keeps (fun _ _ _ => ?_) ?_ | with_reducible apply ite_keeps | (intro _) | split | (refine Keeps.upd rfl rfl rfl rfl rfl rfl rfl rfl ?_) | exact wakeful_serving | exact wakeful_draining | exact wakeful_unformed | exact wakeful_idle | exact wakeful_ite | dsimp +zetaDelta only)

theorem lgCopy_keeps {d : Fin 4 → Int} {s t : State}  (hi : Keeps d s t) : Keeps d s (lgCopy t) := by
  unfold lgCopy
  try extract_lets
  iterate 14 (all_goals first | assumption | (with_reducible refine Keeps.inner ?_ (jnlPut_inner (hi := Inner.refl _) ..)) | with_reducible refine forEach_keeps (fun _ _ _ => ?_) ?_ | with_reducible apply ite_keeps | (intro _) | split | (refine Keeps.upd rfl rfl rfl rfl rfl rfl rfl rfl ?_) | exact wakeful_serving | exact wakeful_draining | exact wakeful_unformed | exact wakeful_idle | exact wakeful_ite | dsimp +zetaDelta only)

theorem formRegs_keeps {d : Fin 4 → Int} {s t : State} (f : Furnish) (hi : Keeps d s t) : Keeps d s (formRegs t f) := by
  unfold formRegs
  try extract_lets
  iterate 14 (all_goals first | assumption | (with_reducible refine Keeps.inner ?_ (fillBucket_inner (hi := Inner.refl _) ..)) | with_reducible refine forEach_keeps (fun _ _ _ => ?_) ?_ | with_reducible apply ite_keeps | (intro _) | split | (refine Keeps.upd rfl rfl rfl rfl rfl rfl rfl rfl ?_) | exact wakeful_serving | exact wakeful_draining | exact wakeful_unformed | exact wakeful_idle | exact wakeful_ite | dsimp +zetaDelta only)

theorem opCommit_keeps {d : Fin 4 → Int} {s t : State} (f : Furnish) (hi : Keeps d s t) : Keeps d s (opCommit t f) := by
  unfold opCommit
  try extract_lets
  iterate 14 (all_goals first | assumption | (with_reducible refine Keeps.inner ?_ (noteBusy_inner (hi := Inner.refl _) ..)) | with_reducible apply ite_keeps | (intro _) | split | (refine Keeps.upd rfl rfl rfl rfl rfl rfl rfl rfl ?_) | exact wakeful_serving | exact wakeful_draining | exact wakeful_unformed | exact wakeful_idle | exact wakeful_ite | dsimp +zetaDelta only)

theorem formCopies_keeps {d : Fin 4 → Int} {s t : State}  (hi : Keeps d s t) : Keeps d s (formCopies t) := by
  unfold formCopies
  try extract_lets
  iterate 14 (all_goals first | assumption | with_reducible apply ite_keeps | (intro _) | split | (refine Keeps.upd rfl rfl rfl rfl rfl rfl rfl rfl ?_) | exact wakeful_serving | exact wakeful_draining | exact wakeful_unformed | exact wakeful_idle | exact wakeful_ite | dsimp +zetaDelta only)

theorem formEnd_keeps {d : Fin 4 → Int} {s t : State} (f : Furnish) (hi : Keeps d s t) : Keeps d s (formEnd t f) := by
  unfold formEnd
  dsimp only
  have h0 : Keeps d s (opCommit (formCopies (formRegs t f)) f) := opCommit_keeps _ (formCopies_keeps (formRegs_keeps _ hi))
  exact Keeps.inner (lgCopy_keeps (Keeps.inner h0 (forEach_inner (fun _ _ h => checkedAgain_inner _ h)
    (forEach_inner (fun _ _ h => fetchAgain_inner _ h) (Inner.refl _))))) (jnlLoaded_inner (hi := Inner.refl _) ..)

theorem warmVte_keeps {d : Fin 4 → Int} {s t : State} (p : Nat → Purpose) (e : Nat × Words8) (hi : Keeps d s t) : Keeps d s (warmVte p t e) := by
  unfold warmVte
  try extract_lets
  iterate 14 (all_goals first | assumption | with_reducible apply deferred_keeps | (with_reducible refine Keeps.inner ?_ (apRequest_inner (hi := Inner.refl _) ..)) | with_reducible apply ite_keeps | (intro _) | split | (refine Keeps.upd rfl rfl rfl rfl rfl rfl rfl rfl ?_) | exact wakeful_serving | exact wakeful_draining | exact wakeful_unformed | exact wakeful_idle | exact wakeful_ite | dsimp +zetaDelta only)

theorem warmWired_keeps {d : Fin 4 → Int} {s t : State} (e : Nat × Words8) (hi : Keeps d s t) : Keeps d s (warmWired t e) := by
  unfold warmWired
  try extract_lets
  iterate 14 (all_goals first | assumption | (with_reducible refine Keeps.inner ?_ (vtePut_inner (hi := Inner.refl _) ..)) | with_reducible apply ite_keeps | (intro _) | split | (refine Keeps.upd rfl rfl rfl rfl rfl rfl rfl rfl ?_) | exact wakeful_serving | exact wakeful_draining | exact wakeful_unformed | exact wakeful_idle | exact wakeful_ite | dsimp +zetaDelta only)

theorem warmAway_keeps {d : Fin 4 → Int} {s t : State} (e : Nat × Words8) (hi : Keeps d s t) : Keeps d s (warmAway t e) := by
  unfold warmAway
  exact ite_keeps (Keeps.inner hi (awayPut_inner _ _ (Inner.refl _))) hi

theorem warmLoad_keeps {d : Fin 4 → Int} {s t : State} (f : Furnish) (stored : List (Nat × Words8)) (hi : Keeps d s t) :
    Keeps d s (warmLoad t f stored) := by
  unfold warmLoad
  dsimp only
  have h0 : Keeps d s { t with fu := { t.fu with formed := some f } } := Keeps.upd rfl rfl rfl rfl rfl rfl rfl rfl hi
  have h1 := forEach_keeps (l := storedVtes f stored) (fun _ a h => warmWired_keeps a h) h0
  have h2 := forEach_keeps (l := storedVtes f stored) (fun _ a h => warmAway_keeps a h) h1
  exact formEnd_keeps _ (Keeps.inner h2 (forEach_inner (fun _ a h => warmTable_inner _ a h) (warmPins_inner _ (Inner.refl _))))

theorem warmGo_keeps {d : Fin 4 → Int} {s t : State} (hi : Keeps d s t) : Keeps d s (warmGo t) := by
  unfold warmGo
  split
  · exact ite_keeps (warmLoad_keeps _ _ hi) hi
  · exact hi

theorem warmEnd_keeps {d : Fin 4 → Int} {s t : State} (f : Furnish) (stored : List (Nat × Words8)) (hi : Keeps d s t) :
    Keeps d s (warmEnd t f stored) := by
  unfold warmEnd
  dsimp only
  have h0 : Keeps d s { t with fu := { t.fu with formed := some f } } := Keeps.upd rfl rfl rfl rfl rfl rfl rfl rfl hi
  have h1 : ∀ p l, Keeps d s (forEach l { t with fu := { t.fu with formed := some f } } (warmVte p)) := fun _ _ =>
    forEach_keeps (fun _ a h => warmVte_keeps _ a h) h0
  exact ite_keeps (opFail_keeps _ (Keeps.upd rfl rfl rfl rfl rfl rfl rfl rfl (h1 _ _)))
    (warmGo_keeps (Keeps.upd rfl rfl rfl rfl rfl rfl rfl rfl (h1 _ _)))

theorem reformRemoveAll_keeps {d : Fin 4 → Int} {s t : State} (lo up : Nat) (hi : Keeps d s t) : Keeps d s (reformRemoveAll t lo up) := by
  unfold reformRemoveAll
  refine forEach_keeps (fun x a h => ?_) hi
  exact Keeps.upd rfl rfl rfl rfl rfl rfl rfl rfl (Keeps.inner h (reformRemove_inner a (Inner.refl _)))

theorem keptFix_keeps {d : Fin 4 → Int} {s t : State} (e : Slice) (h : Nat) (v : Vte) (hi : Keeps d s t) : Keeps d s (keptFix e t h v) := by
  unfold keptFix
  try extract_lets
  iterate 14 (all_goals first | assumption | (with_reducible refine Keeps.inner ?_ (apRequest_inner (hi := Inner.refl _) ..)) | (with_reducible refine Keeps.inner ?_ (vtePut_inner (hi := Inner.refl _) ..)) | (with_reducible refine Keeps.inner ?_ (vteDiscard_inner (hi := Inner.refl _) ..)) | (with_reducible refine Keeps.inner ?_ (vteStore_inner (hi := Inner.refl _) ..)) | with_reducible apply ite_keeps | (intro _) | split | (refine Keeps.upd rfl rfl rfl rfl rfl rfl rfl rfl ?_) | exact wakeful_serving | exact wakeful_draining | exact wakeful_unformed | exact wakeful_idle | exact wakeful_ite | dsimp +zetaDelta only)

theorem reformKept_keeps {d : Fin 4 → Int} {s t : State} (e : Slice) (stored : List (Nat × Words8)) (h : Nat) (hi : Keeps d s t) :
    Keeps d s (reformKept e stored t h) := by
  unfold reformKept
  iterate 5 (all_goals first | assumption | exact keptFix_keeps _ _ _ hi | exact deferred_keeps _ _ _ _ _ hi | split)

theorem reformUnit_keeps {d : Fin 4 → Int} {s t : State} (u : EaId) (hi : Keeps d s t) : Keeps d s (reformUnit t u) := by
  unfold reformUnit
  try extract_lets
  iterate 14 (all_goals first | assumption | (with_reducible refine Keeps.inner ?_ (eaPut_inner (hi := Inner.refl _) ..)) | (with_reducible refine Keeps.inner ?_ (eaRaise_inner (hi := Inner.refl _) ..)) | with_reducible apply ite_keeps | (intro _) | split | (refine Keeps.upd rfl rfl rfl rfl rfl rfl rfl rfl ?_) | exact wakeful_serving | exact wakeful_draining | exact wakeful_unformed | exact wakeful_idle | exact wakeful_ite | dsimp +zetaDelta only)

theorem reformEnd_keeps {d : Fin 4 → Int} {s u : State} (old new : Furnish) (t : Nat) (stored : List (Nat × Words8)) (hi : Keeps d s u) :
    Keeps d s (reformEnd u old new t stored) := by
  unfold reformEnd
  extract_lets a b kept moved tOld tNew s1 gOld gNew cOld cNew couches s2 s3 s4 s5 n fu s6 s7 s8 s9 s10 bid s11
  have h1 : Keeps d s s1 := Keeps.inner (reformRemoveAll_keeps _ _ hi) (reformVoid_inner (hi := Inner.refl _) ..)
  have h2 : Keeps d s s2 := Keeps.inner h1 (reformCouches_inner _ _ _ (reformGroups_inner _ _ _ (reformTargets_inner _ _ (Inner.refl _))))
  have h3 : Keeps d s s3 := formCopies_keeps (opCommit_keeps _ (Keeps.inner h2 (reformJournal_inner (hi := Inner.refl _) ..)))
  have h4 : Keeps d s s4 := Keeps.inner h3 (forEach_inner (fun _ _ h => groupStore_inner _ _ h) (Inner.refl _))
  have h5 : Keeps d s s5 := Keeps.inner (forEach_keeps (fun _ _ h => reformKept_keeps _ _ _ h) h4) (reformDirty_inner (hi := Inner.refl _) ..)
  have h6 : Keeps d s s6 := Keeps.upd rfl rfl rfl rfl rfl rfl rfl rfl h5
  have h7 : Keeps d s s7 := forEach_keeps (fun _ a h => Keeps.inner h (reformCouch_inner _ a (Inner.refl _))) h6
  have h8 : Keeps d s s8 := ite_keeps (Keeps.inner h7 (fillBucket_inner (hi := Inner.refl _) ..)) h7
  have h9 : Keeps d s s9 := releaseAll_keeps (Keeps.inner (forEach_keeps (fun _ a h => reformUnit_keeps a h) h8)
    (reformFetch_inner (hi := Inner.refl _) ..))
  have h10 : Keeps d s s10 := Keeps.inner h9 (apBulk_inner (hi := Inner.refl _) ..)
  have h11 : Keeps d s s11 := Keeps.inner (lgCopy_keeps h10) (jnl_inner (hi := Inner.refl _) ..)
  exact Keeps.inner h11 (settleAll_inner (Inner.refl _))

theorem formDone_keeps {d : Fin 4 → Int} {s t : State} (stored : List (Nat × Words8)) (hi : Keeps d s t) : Keeps d s (formDone t stored) := by
  unfold formDone
  split
  · exact formEnd_keeps _ hi
  · exact warmEnd_keeps _ _ hi
  · exact reformEnd_keeps _ _ _ _ hi
  · exact hi

theorem propose_keeps {d : Fin 4 → Int} {s t : State} (p : Party) (hi : Keeps d s t) : Keeps d s (propose p t) := by
  unfold propose
  try extract_lets
  iterate 14 (all_goals first | assumption | (with_reducible refine Keeps.inner ?_ (dcRaise_inner (hi := Inner.refl _) ..)) | (with_reducible refine Keeps.inner ?_ (dcPut_inner (hi := Inner.refl _) ..)) | (with_reducible refine Keeps.inner ?_ (jnlDc_inner (hi := Inner.refl _) ..)) | with_reducible apply ite_keeps | (intro _) | split | (refine Keeps.upd rfl rfl rfl rfl rfl rfl rfl rfl ?_) | exact wakeful_serving | exact wakeful_draining | exact wakeful_unformed | exact wakeful_idle | exact wakeful_ite | dsimp +zetaDelta only)

theorem approveOpen_keeps {δ : Fin 4 → Int} {s t : State} (o : Party) (d : PartyUnit) (hi : Keeps δ s t) : Keeps δ s (approveOpen t o d) := by
  unfold approveOpen
  try extract_lets
  iterate 14 (all_goals first | assumption | with_reducible apply loaderTake_keeps | (with_reducible refine Keeps.inner ?_ (submit_inner (hi := Inner.refl _) ..)) | (with_reducible refine Keeps.inner ?_ (dcPut_inner (hi := Inner.refl _) ..)) | (with_reducible refine Keeps.inner ?_ (propDone_inner (hi := Inner.refl _) ..)) | with_reducible apply ite_keeps | (intro _) | split | (refine Keeps.upd rfl rfl rfl rfl rfl rfl rfl rfl ?_) | exact wakeful_serving | exact wakeful_draining | exact wakeful_unformed | exact wakeful_idle | exact wakeful_ite | dsimp +zetaDelta only)

theorem approve_keeps {d : Fin 4 → Int} {s t : State} (p : Party) (idHi : Word) (hi : Keeps d s t) : Keeps d s (approve p idHi t) := by
  unfold approve
  try extract_lets
  iterate 14 (all_goals first | assumption | with_reducible apply approveOpen_keeps | (with_reducible refine Keeps.inner ?_ (dcRaise_inner (hi := Inner.refl _) ..)) | with_reducible apply ite_keeps | (intro _) | split | (refine Keeps.upd rfl rfl rfl rfl rfl rfl rfl rfl ?_) | exact wakeful_serving | exact wakeful_draining | exact wakeful_unformed | exact wakeful_idle | exact wakeful_ite | dsimp +zetaDelta only)

theorem partyWrite_keeps {d : Fin 4 → Int} {s t : State} {f : State → State} (p : Party) (addr : BitVec 22)
    (hf : ∀ t, Keeps d s t → Keeps d s (f t)) (hi : Keeps d s t) : Keeps d s (partyWrite t p addr f) := by
  have ha := activity_keeps false hi
  cases p with
  | M =>
    simp only [partyWrite]
    exact portWrite_keeps _ _ _ hf hi
  | S =>
    simp only [partyWrite]
    exact ite_keeps (hf _ ha) hi

theorem pollRefresh_keeps {d : Fin 4 → Int} {s t : State}  (hi : Keeps d s t) : Keeps d s (pollRefresh t) := by
  unfold pollRefresh
  try extract_lets
  iterate 14 (all_goals first | assumption | with_reducible apply ite_keeps | (intro _) | split | (refine Keeps.upd rfl rfl rfl rfl rfl rfl rfl rfl ?_) | exact wakeful_serving | exact wakeful_draining | exact wakeful_unformed | exact wakeful_idle | exact wakeful_ite | dsimp +zetaDelta only)

theorem stirring_keeps {d : Fin 4 → Int} {s t : State} {f : State → State} (hf : ∀ t, Keeps d s t → Keeps d s (f t)) (hi : Keeps d s t) :
    Keeps d s (stirring f t) := ite_keeps (hf _ (activity_keeps false hi)) (hf _ hi)

theorem jnlEstimated_keeps {d : Fin 4 → Int} {s t : State} (cause : Nat) (from_ : Nat) (a : Word) (b : Word) (hi : Keeps d s t) : Keeps d s (jnlEstimated t cause from_ a b) := by
  unfold jnlEstimated
  try extract_lets
  iterate 14 (all_goals first | assumption | (with_reducible refine Keeps.inner ?_ (jnl_inner (hi := Inner.refl _) ..)) | with_reducible apply ite_keeps | (intro _) | split | (refine Keeps.upd rfl rfl rfl rfl rfl rfl rfl rfl ?_) | exact wakeful_serving | exact wakeful_draining | exact wakeful_unformed | exact wakeful_idle | exact wakeful_ite | dsimp +zetaDelta only)

theorem startEstimate_keeps {d : Fin 4 → Int} {s t : State} (cause : Nat) (hi : Keeps d s t) : Keeps d s (startEstimate t cause) := by
  unfold startEstimate
  try extract_lets
  iterate 14 (all_goals first | assumption | with_reducible apply jnlEstimated_keeps | with_reducible apply ite_keeps | (intro _) | split | (refine Keeps.upd rfl rfl rfl rfl rfl rfl rfl rfl ?_) | exact wakeful_serving | exact wakeful_draining | exact wakeful_unformed | exact wakeful_idle | exact wakeful_ite | dsimp +zetaDelta only)

theorem cdcClear_keeps {d : Fin 4 → Int} {s t : State} (c : Crossing) (line : BitVec 16) (hi : Keeps d s t) : Keeps d s (cdcClear t c line) := by
  unfold cdcClear
  try extract_lets
  iterate 14 (all_goals first | assumption | with_reducible apply ite_keeps | (intro _) | split | (refine Keeps.upd rfl rfl rfl rfl rfl rfl rfl rfl ?_) | exact wakeful_serving | exact wakeful_draining | exact wakeful_unformed | exact wakeful_idle | exact wakeful_ite | dsimp +zetaDelta only)

theorem cdcHold_keeps {d : Fin 4 → Int} {s t : State} (c : Crossing) (line : BitVec 16) (x : Seen) (hi : Keeps d s t) : Keeps d s (cdcHold t c line x) := by
  unfold cdcHold
  try extract_lets
  iterate 14 (all_goals first | assumption | with_reducible apply ite_keeps | (intro _) | split | (refine Keeps.upd rfl rfl rfl rfl rfl rfl rfl rfl ?_) | exact wakeful_serving | exact wakeful_draining | exact wakeful_unformed | exact wakeful_idle | exact wakeful_ite | dsimp +zetaDelta only)

theorem cdcNote_keeps {d : Fin 4 → Int} {s t : State} (c : Crossing) (hi : Keeps d s t) : Keeps d s (cdcNote t c) :=
  ite_keeps (Keeps.upd rfl rfl rfl rfl rfl rfl rfl rfl hi) hi

theorem cdcRetry_keeps {d : Fin 4 → Int} {s t : State} (c : Crossing) (line : BitVec 16) (inj : Bool) (hi : Keeps d s t) : Keeps d s (cdcRetry c line inj t) := by
  unfold cdcRetry
  try extract_lets
  iterate 14 (all_goals first | assumption | with_reducible apply faultFound_keeps | with_reducible apply cdcNote_keeps | with_reducible apply ite_keeps | (intro _) | split | (refine Keeps.upd rfl rfl rfl rfl rfl rfl rfl rfl ?_) | exact wakeful_serving | exact wakeful_draining | exact wakeful_unformed | exact wakeful_idle | exact wakeful_ite | dsimp +zetaDelta only)

theorem cdcDeferred_keeps {d : Fin 4 → Int} {s t : State} (c : Crossing) (line : BitVec 16) (inj : Bool) (hi : Keeps d s t) : Keeps d s (cdcDeferred c line inj t) := by
  unfold cdcDeferred
  try extract_lets
  iterate 14 (all_goals first | assumption | with_reducible apply cdcHold_keeps | with_reducible apply startEstimate_keeps | with_reducible apply faultFound_keeps | with_reducible apply ite_keeps | (intro _) | split | (refine Keeps.upd rfl rfl rfl rfl rfl rfl rfl rfl ?_) | exact wakeful_serving | exact wakeful_draining | exact wakeful_unformed | exact wakeful_idle | exact wakeful_ite | dsimp +zetaDelta only)

theorem throttleTake_keeps {d : Fin 4 → Int} {s t : State} (l : BitVec 3) (hi : Keeps d s t) : Keeps d s (throttleTake t l) := by
  unfold throttleTake
  try extract_lets
  iterate 14 (all_goals first | assumption | with_reducible apply ite_keeps | (intro _) | split | (refine Keeps.upd rfl rfl rfl rfl rfl rfl rfl rfl ?_) | exact wakeful_serving | exact wakeful_draining | exact wakeful_unformed | exact wakeful_idle | exact wakeful_ite | dsimp +zetaDelta only)

theorem timeLatch_keeps {d : Fin 4 → Int} {s t : State} (p : Port) (hi : Keeps d s t) : Keeps d s (timeLatch t p) := by
  unfold timeLatch
  try extract_lets
  iterate 14 (all_goals first | assumption | with_reducible apply portAnswer_keeps | (with_reducible refine Keeps.inner ?_ (denied_inner (hi := Inner.refl _) ..)) | with_reducible apply ite_keeps | (intro _) | split | (refine Keeps.upd rfl rfl rfl rfl rfl rfl rfl rfl ?_) | exact wakeful_serving | exact wakeful_draining | exact wakeful_unformed | exact wakeful_idle | exact wakeful_ite | dsimp +zetaDelta only)

theorem sleepElapsedRead_keeps {d : Fin 4 → Int} {s t : State} (p : Port) (hi : Keeps d s t) : Keeps d s (sleepElapsedRead t p) := by
  unfold sleepElapsedRead
  try extract_lets
  iterate 14 (all_goals first | assumption | with_reducible apply portAnswer_keeps | (with_reducible refine Keeps.inner ?_ (denied_inner (hi := Inner.refl _) ..)) | with_reducible apply ite_keeps | (intro _) | split | (refine Keeps.upd rfl rfl rfl rfl rfl rfl rfl rfl ?_) | exact wakeful_serving | exact wakeful_draining | exact wakeful_unformed | exact wakeful_idle | exact wakeful_ite | dsimp +zetaDelta only)

theorem alignedRead_keeps {d : Fin 4 → Int} {s t : State} (p : Port) (addr : BitVec 22) (hi : Keeps d s t) : Keeps d s (alignedRead t p addr) := by
  unfold alignedRead
  try extract_lets
  iterate 14 (all_goals first | assumption | with_reducible apply sleepElapsedRead_keeps | with_reducible apply timeLatch_keeps | with_reducible apply amaskRead_keeps | with_reducible apply portAnswer_keeps | (with_reducible refine Keeps.inner ?_ (denied_inner (hi := Inner.refl _) ..)) | with_reducible apply ite_keeps | (intro _) | split | (refine Keeps.upd rfl rfl rfl rfl rfl rfl rfl rfl ?_) | exact wakeful_serving | exact wakeful_draining | exact wakeful_unformed | exact wakeful_idle | exact wakeful_ite | dsimp +zetaDelta only)

theorem regRead_keeps {d : Fin 4 → Int} {s t : State} (p : Port) (addr : BitVec 22) (hi : Keeps d s t) : Keeps d s (regRead t p addr) := by
  unfold regRead
  try extract_lets
  iterate 14 (all_goals first | assumption | with_reducible apply alignedRead_keeps | with_reducible apply portAnswer_keeps | (with_reducible refine Keeps.inner ?_ (denied_inner (hi := Inner.refl _) ..)) | with_reducible apply ite_keeps | (intro _) | split | (refine Keeps.upd rfl rfl rfl rfl rfl rfl rfl rfl ?_) | exact wakeful_serving | exact wakeful_draining | exact wakeful_unformed | exact wakeful_idle | exact wakeful_ite | dsimp +zetaDelta only)

theorem bucketRefill_keeps {d : Fin 4 → Int} {s t : State}  (hi : Keeps d s t) : Keeps d s (bucketRefill t) := by
  unfold bucketRefill
  try extract_lets
  iterate 14 (all_goals first | assumption | with_reducible apply ite_keeps | (intro _) | split | (refine Keeps.upd rfl rfl rfl rfl rfl rfl rfl rfl ?_) | exact wakeful_serving | exact wakeful_draining | exact wakeful_unformed | exact wakeful_idle | exact wakeful_ite | dsimp +zetaDelta only)

theorem bucketTick_keeps {d : Fin 4 → Int} {s t : State}  (hi : Keeps d s t) : Keeps d s (bucketTick t) := by
  unfold bucketTick
  try extract_lets
  iterate 14 (all_goals first | assumption | with_reducible apply bucketRefill_keeps | with_reducible apply ite_keeps | (intro _) | split | (refine Keeps.upd rfl rfl rfl rfl rfl rfl rfl rfl ?_) | exact wakeful_serving | exact wakeful_draining | exact wakeful_unformed | exact wakeful_idle | exact wakeful_ite | dsimp +zetaDelta only)

theorem lineSet_keeps {d : Fin 4 → Int} {s t : State} (n : Nat) (high : Bool) (hi : Keeps d s t) : Keeps d s (lineSet t n high) := by
  unfold lineSet
  try extract_lets
  iterate 14 (all_goals first | assumption | with_reducible apply ite_keeps | (intro _) | split | (refine Keeps.upd rfl rfl rfl rfl rfl rfl rfl rfl ?_) | exact wakeful_serving | exact wakeful_draining | exact wakeful_unformed | exact wakeful_idle | exact wakeful_ite | dsimp +zetaDelta only)

theorem lineWake_keeps {d : Fin 4 → Int} {s t : State} (n : Nat) (hi : Keeps d s t) : Keeps d s (lineWake t n) := by
  unfold lineWake
  try extract_lets
  iterate 14 (all_goals first | assumption | with_reducible apply wakeSource_keeps | with_reducible apply ite_keeps | (intro _) | split | (refine Keeps.upd rfl rfl rfl rfl rfl rfl rfl rfl ?_) | exact wakeful_serving | exact wakeful_draining | exact wakeful_unformed | exact wakeful_idle | exact wakeful_ite | dsimp +zetaDelta only)

theorem lineLatch_keeps {d : Fin 4 → Int} {s t : State} (n : Nat) (hi : Keeps d s t) : Keeps d s (lineLatch t n) := by
  unfold lineLatch
  try extract_lets
  iterate 14 (all_goals first | assumption | with_reducible apply ite_keeps | (intro _) | split | (refine Keeps.upd rfl rfl rfl rfl rfl rfl rfl rfl ?_) | exact wakeful_serving | exact wakeful_draining | exact wakeful_unformed | exact wakeful_idle | exact wakeful_ite | dsimp +zetaDelta only)

theorem edgeTake_keeps {d : Fin 4 → Int} {s t : State} (n : Nat) (hi : Keeps d s t) : Keeps d s (edgeTake t n) := by
  unfold edgeTake
  try extract_lets
  iterate 14 (all_goals first | assumption | with_reducible apply lineLatch_keeps | with_reducible apply lineWake_keeps | with_reducible apply activity_keeps | (with_reducible refine Keeps.inner ?_ (vecPut_inner (hi := Inner.refl _) ..)) | (with_reducible refine Keeps.inner ?_ (enqueue_inner (hi := Inner.refl _) ..)) | with_reducible apply ite_keeps | (intro _) | split | (refine Keeps.upd rfl rfl rfl rfl rfl rfl rfl rfl ?_) | exact wakeful_serving | exact wakeful_draining | exact wakeful_unformed | exact wakeful_idle | exact wakeful_ite | dsimp +zetaDelta only)

theorem lineMoves_keeps {d : Fin 4 → Int} {s t : State} (n : Nat) (high : Bool) (hi : Keeps d s t) : Keeps d s (lineMoves t n high) := by
  unfold lineMoves
  try extract_lets
  iterate 14 (all_goals first | assumption | with_reducible apply edgeTake_keeps | with_reducible apply lineWake_keeps | with_reducible apply lineSet_keeps | with_reducible apply activity_keeps | (with_reducible refine Keeps.inner ?_ (enqueue_inner (hi := Inner.refl _) ..)) | with_reducible apply ite_keeps | (intro _) | split | (refine Keeps.upd rfl rfl rfl rfl rfl rfl rfl rfl ?_) | exact wakeful_serving | exact wakeful_draining | exact wakeful_unformed | exact wakeful_idle | exact wakeful_ite | dsimp +zetaDelta only)

theorem edgeLine_keeps {d : Fin 4 → Int} {s t : State} (n : Nat) (hi : Keeps d s t) : Keeps d s (edgeLine t n) := by
  unfold edgeLine
  try extract_lets
  iterate 14 (all_goals first | assumption | with_reducible apply lineMoves_keeps | with_reducible apply lineSet_keeps | with_reducible apply ite_keeps | (intro _) | split | (refine Keeps.upd rfl rfl rfl rfl rfl rfl rfl rfl ?_) | exact wakeful_serving | exact wakeful_draining | exact wakeful_unformed | exact wakeful_idle | exact wakeful_ite | dsimp +zetaDelta only)

theorem countedLine_keeps {d : Fin 4 → Int} {s t : State} (m : Nat) (g : BitVec 4) (hi : Keeps d s t) : Keeps d s (countedLine t m g) := by
  unfold countedLine
  try extract_lets
  iterate 14 (all_goals first | assumption | with_reducible apply cdcClear_keeps | with_reducible apply activity_keeps | (with_reducible refine Keeps.inner ?_ (vecPut_inner (hi := Inner.refl _) ..)) | (with_reducible refine Keeps.inner ?_ (enqueue_inner (hi := Inner.refl _) ..)) | with_reducible apply ite_keeps | (intro _) | split | (refine Keeps.upd rfl rfl rfl rfl rfl rfl rfl rfl ?_) | exact wakeful_serving | exact wakeful_draining | exact wakeful_unformed | exact wakeful_idle | exact wakeful_ite | dsimp +zetaDelta only)

theorem sleptIn_keeps {d : Fin 4 → Int} {s t : State} (h : Nat) (n : Nat) (hi : Keeps d s t) : Keeps d s (sleptIn t h n) := by
  unfold sleptIn
  try extract_lets
  iterate 14 (all_goals first | assumption | (with_reducible refine Keeps.inner ?_ (vecPut_inner (hi := Inner.refl _) ..)) | (with_reducible refine Keeps.inner ?_ (enqueue_inner (hi := Inner.refl _) ..)) | with_reducible apply ite_keeps | (intro _) | split | (refine Keeps.upd rfl rfl rfl rfl rfl rfl rfl rfl ?_) | exact wakeful_serving | exact wakeful_draining | exact wakeful_unformed | exact wakeful_idle | exact wakeful_ite | dsimp +zetaDelta only)

theorem levelsIn_keeps {d : Fin 4 → Int} {s t : State}  (hi : Keeps d s t) : Keeps d s (levelsIn t) := by
  unfold levelsIn
  try extract_lets
  iterate 14 (all_goals first | assumption | (with_reducible refine Keeps.inner ?_ (enqueue_inner (hi := Inner.refl _) ..)) | with_reducible refine forEach_keeps (fun _ _ _ => ?_) ?_ | with_reducible apply ite_keeps | (intro _) | split | (refine Keeps.upd rfl rfl rfl rfl rfl rfl rfl rfl ?_) | exact wakeful_serving | exact wakeful_draining | exact wakeful_unformed | exact wakeful_idle | exact wakeful_ite | dsimp +zetaDelta only)

theorem wiredRelease_keeps {d : Fin 4 → Int} {s t : State}  (hi : Keeps d s t) : Keeps d s (wiredRelease t) := by
  unfold wiredRelease
  try extract_lets
  iterate 14 (all_goals first | assumption | with_reducible apply levelsIn_keeps | with_reducible apply sleptIn_keeps | with_reducible refine forEach_keeps (fun _ _ _ => ?_) ?_ | with_reducible apply ite_keeps | (intro _) | split | (refine Keeps.upd rfl rfl rfl rfl rfl rfl rfl rfl ?_) | exact wakeful_serving | exact wakeful_draining | exact wakeful_unformed | exact wakeful_idle | exact wakeful_ite | dsimp +zetaDelta only)

theorem idleEnter_keeps {d : Fin 4 → Int} {s t : State}  (hi : Keeps d s t) : Keeps d s (idleEnter t) := by
  unfold idleEnter
  try extract_lets
  iterate 14 (all_goals first | assumption | (with_reducible refine Keeps.setMode ?_ ?_) | with_reducible apply ite_keeps | (intro _) | split | (refine Keeps.upd rfl rfl rfl rfl rfl rfl rfl rfl ?_) | exact wakeful_serving | exact wakeful_draining | exact wakeful_unformed | exact wakeful_idle | exact wakeful_ite | dsimp +zetaDelta only)

theorem dueAct_keeps {δ : Fin 4 → Int} {s t : State} (d : Due) (hi : Keeps δ s t) : Keeps δ s (dueAct t d) := by
  unfold dueAct
  try extract_lets
  iterate 14 (all_goals first | assumption | (with_reducible refine Keeps.inner ?_ (lockBreak_inner (hi := Inner.refl _) ..)) | with_reducible apply calendarAct_keeps | with_reducible apply unlessFatal_keeps | (with_reducible refine Keeps.inner ?_ (wdogExpire_inner (hi := Inner.refl _) ..)) | (with_reducible refine Keeps.inner ?_ (couchDecision_inner (hi := Inner.refl _) ..)) | (with_reducible refine Keeps.inner ?_ (propClose_inner (hi := Inner.refl _) ..)) | with_reducible apply ite_keeps | (intro _) | split | (refine Keeps.upd rfl rfl rfl rfl rfl rfl rfl rfl ?_) | exact wakeful_serving | exact wakeful_draining | exact wakeful_unformed | exact wakeful_idle | exact wakeful_ite | dsimp +zetaDelta only)

theorem dues_keeps {d : Fin 4 → Int} {s t : State} (l : List Due) (hi : Keeps d s t) : Keeps d s (forEach l t dueAct) :=
  forEach_keeps (fun _ a h => dueAct_keeps a h) hi

theorem duesAct_keeps {d : Fin 4 → Int} {s t : State} (hi : Keeps d s t) : Keeps d s (duesAct t).1 := by
  unfold duesAct
  dsimp only
  exact dues_keeps _ (dues_keeps _ hi)

theorem wakeGroup_keeps {d : Fin 4 → Int} {s t : State} (g : Nat) (hi : Keeps d s t) : Keeps d s (wakeGroup t g) := by
  unfold wakeGroup
  try extract_lets
  iterate 14 (all_goals first | assumption | (with_reducible refine Keeps.inner ?_ (couchTry_inner (hi := Inner.refl _) ..)) | (with_reducible refine Keeps.inner ?_ (couchCalendar_inner (hi := Inner.refl _) ..)) | (with_reducible refine Keeps.inner ?_ (couchRelease_inner (hi := Inner.refl _) ..)) | with_reducible apply ite_keeps | (intro _) | split | (refine Keeps.upd rfl rfl rfl rfl rfl rfl rfl rfl ?_) | exact wakeful_serving | exact wakeful_draining | exact wakeful_unformed | exact wakeful_idle | exact wakeful_ite | dsimp +zetaDelta only)

theorem wakeGroups_keeps {d : Fin 4 → Int} {s t : State} (hi : Keeps d s t) : Keeps d s (wakeGroups t) := by
  unfold wakeGroups
  exact unlessFatal_keeps hi (forEach_keeps (fun _ a k => wakeGroup_keeps a k) hi)

theorem sweepMark_keeps {d : Fin 4 → Int} {s t : State}  (hi : Keeps d s t) : Keeps d s (sweepMark t) := by
  unfold sweepMark
  try extract_lets
  iterate 14 (all_goals first | assumption | with_reducible apply ite_keeps | (intro _) | split | (refine Keeps.upd rfl rfl rfl rfl rfl rfl rfl rfl ?_) | exact wakeful_serving | exact wakeful_draining | exact wakeful_unformed | exact wakeful_idle | exact wakeful_ite | dsimp +zetaDelta only)

theorem ticksAct_keeps {d : Fin 4 → Int} {s t : State}  (hi : Keeps d s t) : Keeps d s (ticksAct t) := by
  unfold ticksAct
  try extract_lets
  iterate 14 (all_goals first | assumption | with_reducible apply sweepMark_keeps | with_reducible apply bucketTick_keeps | with_reducible apply creditTick_keeps | with_reducible apply strangerTick_keeps | with_reducible apply writebackTick_keeps | with_reducible apply ite_keeps | (intro _) | split | (refine Keeps.upd rfl rfl rfl rfl rfl rfl rfl rfl ?_) | exact wakeful_serving | exact wakeful_draining | exact wakeful_unformed | exact wakeful_idle | exact wakeful_ite | dsimp +zetaDelta only)

theorem attempt_keeps {d : Fin 4 → Int} {s t₁ : State} (t : SleepTarget) (hi : Keeps d s t₁) : Keeps d s (attempt t₁ t) := by
  unfold attempt
  try extract_lets
  iterate 14 (all_goals first | assumption | with_reducible apply refuse_keeps | (with_reducible refine Keeps.inner ?_ (settleAll_inner (hi := Inner.refl _) ..)) | (with_reducible refine Keeps.inner ?_ (batchEndAll_inner (hi := Inner.refl _) ..)) | with_reducible apply ite_keeps | (intro _) | split | (refine Keeps.upd rfl rfl rfl rfl rfl rfl rfl rfl ?_) | exact wakeful_serving | exact wakeful_draining | exact wakeful_unformed | exact wakeful_idle | exact wakeful_ite | dsimp +zetaDelta only)

theorem tryAttempt_keeps {d : Fin 4 → Int} {s t : State}  (hi : Keeps d s t) : Keeps d s (tryAttempt t) := by
  unfold tryAttempt
  try extract_lets
  iterate 14 (all_goals first | assumption | with_reducible apply attempt_keeps | with_reducible apply ite_keeps | (intro _) | split | (refine Keeps.upd rfl rfl rfl rfl rfl rfl rfl rfl ?_) | exact wakeful_serving | exact wakeful_draining | exact wakeful_unformed | exact wakeful_idle | exact wakeful_ite | dsimp +zetaDelta only)

theorem entryTo_keeps {d : Fin 4 → Int} {s t : State} (e : EntryStep) (hi : Keeps d s t) : Keeps d s (entryTo t e) := by
  unfold entryTo
  try extract_lets
  iterate 14 (all_goals first | assumption | with_reducible apply ite_keeps | (intro _) | split | (refine Keeps.upd rfl rfl rfl rfl rfl rfl rfl rfl ?_) | exact wakeful_serving | exact wakeful_draining | exact wakeful_unformed | exact wakeful_idle | exact wakeful_ite | dsimp +zetaDelta only)

theorem copiesTake_keeps {d : Fin 4 → Int} {s t : State}  (hi : Keeps d s t) : Keeps d s (copiesTake t) := by
  unfold copiesTake
  try extract_lets
  iterate 14 (all_goals first | assumption | with_reducible apply pollRefresh_keeps | with_reducible apply ite_keeps | (intro _) | split | (refine Keeps.upd rfl rfl rfl rfl rfl rfl rfl rfl ?_) | exact wakeful_serving | exact wakeful_draining | exact wakeful_unformed | exact wakeful_idle | exact wakeful_ite | dsimp +zetaDelta only)

theorem entryArm_keeps {d : Fin 4 → Int} {s t : State}  (hi : Keeps d s t) : Keeps d s (entryArm t) := by
  unfold entryArm
  try extract_lets
  iterate 14 (all_goals first | assumption | with_reducible apply copiesTake_keeps | with_reducible apply entryTo_keeps | with_reducible apply ite_keeps | (intro _) | split | (refine Keeps.upd rfl rfl rfl rfl rfl rfl rfl rfl ?_) | exact wakeful_serving | exact wakeful_draining | exact wakeful_unformed | exact wakeful_idle | exact wakeful_ite | dsimp +zetaDelta only)

theorem pwrAsk_keeps {d : Fin 4 → Int} {s t : State} (code : BitVec 3) (hi : Keeps d s t) : Keeps d s (pwrAsk t code) := by
  unfold pwrAsk
  try extract_lets
  iterate 14 (all_goals first | assumption | with_reducible apply ite_keeps | (intro _) | split | (refine Keeps.upd rfl rfl rfl rfl rfl rfl rfl rfl ?_) | exact wakeful_serving | exact wakeful_draining | exact wakeful_unformed | exact wakeful_idle | exact wakeful_ite | dsimp +zetaDelta only)

theorem entryGo_keeps {d : Fin 4 → Int} {s t : State}  (hi : Keeps d s t) : Keeps d s (entryGo t) := by
  unfold entryGo
  try extract_lets
  iterate 14 (all_goals first | assumption | with_reducible apply pwrAsk_keeps | with_reducible apply entryTo_keeps | with_reducible apply ite_keeps | (intro _) | split | (refine Keeps.upd rfl rfl rfl rfl rfl rfl rfl rfl ?_) | exact wakeful_serving | exact wakeful_draining | exact wakeful_unformed | exact wakeful_idle | exact wakeful_ite | dsimp +zetaDelta only)

theorem jnlSleep_keeps {d : Fin 4 → Int} {s t₁ : State} (from_ : Mode) (t : SleepTarget) (hi : Keeps d s t₁) : Keeps d s (jnlSleep t₁ from_ t) := by
  unfold jnlSleep
  try extract_lets
  iterate 14 (all_goals first | assumption | (with_reducible refine Keeps.inner ?_ (jnlPut_inner (hi := Inner.refl _) ..)) | with_reducible apply ite_keeps | (intro _) | split | (refine Keeps.upd rfl rfl rfl rfl rfl rfl rfl rfl ?_) | exact wakeful_serving | exact wakeful_draining | exact wakeful_unformed | exact wakeful_idle | exact wakeful_ite | dsimp +zetaDelta only)

theorem lastRounds_keeps {d : Fin 4 → Int} {s t : State}  (hi : Keeps d s t) : Keeps d s (lastRounds t) := by
  unfold lastRounds
  try extract_lets
  iterate 14 (all_goals first | assumption | with_reducible apply inputRound_keeps | with_reducible refine forEach_keeps (fun _ _ _ => ?_) ?_ | with_reducible apply ite_keeps | (intro _) | split | (refine Keeps.upd rfl rfl rfl rfl rfl rfl rfl rfl ?_) | exact wakeful_serving | exact wakeful_draining | exact wakeful_unformed | exact wakeful_idle | exact wakeful_ite | dsimp +zetaDelta only)

theorem wakeTimeReport_keeps {d : Fin 4 → Int} {s t : State} (iv : Option DWord) (hi : Keeps d s t) : Keeps d s (wakeTimeReport t iv) := by
  unfold wakeTimeReport
  try extract_lets
  iterate 14 (all_goals first | assumption | with_reducible apply jnlEstimated_keeps | (with_reducible refine Keeps.inner ?_ (raiseStatus_inner (hi := Inner.refl _) ..)) | with_reducible apply ite_keeps | (intro _) | split | (refine Keeps.upd rfl rfl rfl rfl rfl rfl rfl rfl ?_) | exact wakeful_serving | exact wakeful_draining | exact wakeful_unformed | exact wakeful_idle | exact wakeful_ite | dsimp +zetaDelta only)

theorem reportIgnored_keeps {d : Fin 4 → Int} {s t : State}  (hi : Keeps d s t) : Keeps d s (reportIgnored t) := by
  unfold reportIgnored
  try extract_lets
  iterate 14 (all_goals first | assumption | with_reducible apply rejectWrite_keeps | (with_reducible refine Keeps.inner ?_ (raiseStatus_inner (hi := Inner.refl _) ..)) | with_reducible refine forEach_keeps (fun _ _ _ => ?_) ?_ | with_reducible apply ite_keeps | (intro _) | split | (refine Keeps.upd rfl rfl rfl rfl rfl rfl rfl rfl ?_) | exact wakeful_serving | exact wakeful_draining | exact wakeful_unformed | exact wakeful_idle | exact wakeful_ite | dsimp +zetaDelta only)

theorem wakeEoi_keeps {d : Fin 4 → Int} {s t : State} (q : Queued) (hi : Keeps d s t) : Keeps d s (wakeEoi t q) := by
  unfold wakeEoi
  try extract_lets
  iterate 14 (all_goals first | assumption | with_reducible apply inputRound_keeps | (with_reducible refine Keeps.inner ?_ (applyEoi_inner (hi := Inner.refl _) ..)) | (with_reducible refine Keeps.inner ?_ (applyQueued_inner (hi := Inner.refl _) ..)) | with_reducible apply ite_keeps | (intro _) | split | (refine Keeps.upd rfl rfl rfl rfl rfl rfl rfl rfl ?_) | exact wakeful_serving | exact wakeful_draining | exact wakeful_unformed | exact wakeful_idle | exact wakeful_ite | dsimp +zetaDelta only)

theorem wakeQueues_keeps {d : Fin 4 → Int} {s t : State}  (hi : Keeps d s t) : Keeps d s (wakeQueues t) := by
  unfold wakeQueues
  try extract_lets
  iterate 14 (all_goals first | assumption | with_reducible apply wakeEoi_keeps | with_reducible apply hostTake_keeps | (with_reducible refine Keeps.inner ?_ (applyQueued_inner (hi := Inner.refl _) ..)) | with_reducible refine forEach_keeps (fun _ _ _ => ?_) ?_ | with_reducible apply ite_keeps | (intro _) | split | (refine Keeps.upd rfl rfl rfl rfl rfl rfl rfl rfl ?_) | exact wakeful_serving | exact wakeful_draining | exact wakeful_unformed | exact wakeful_idle | exact wakeful_ite | dsimp +zetaDelta only)

theorem heldDone_keeps {d : Fin 4 → Int} {s t : State}  (hi : Keeps d s t) : Keeps d s (heldDone t) := by
  unfold heldDone
  try extract_lets
  iterate 14 (all_goals first | assumption | with_reducible apply portDone_keeps | with_reducible apply ite_keeps | (intro _) | split | (refine Keeps.upd rfl rfl rfl rfl rfl rfl rfl rfl ?_) | exact wakeful_serving | exact wakeful_draining | exact wakeful_unformed | exact wakeful_idle | exact wakeful_ite | dsimp +zetaDelta only)

theorem wakeHeld_keeps {d : Fin 4 → Int} {s t : State}  (hi : Keeps d s t) : Keeps d s (wakeHeld t) := by
  unfold wakeHeld
  try extract_lets
  iterate 14 (all_goals first | assumption | with_reducible apply heldDone_keeps | (with_reducible refine Keeps.inner ?_ (applyQueued_inner (hi := Inner.refl _) ..)) | with_reducible refine forEach_keeps (fun _ _ _ => ?_) ?_ | with_reducible apply ite_keeps | (intro _) | split | (refine Keeps.upd rfl rfl rfl rfl rfl rfl rfl rfl ?_) | exact wakeful_serving | exact wakeful_draining | exact wakeful_unformed | exact wakeful_idle | exact wakeful_ite | dsimp +zetaDelta only)

theorem reportFaults_keeps {d : Fin 4 → Int} {s t : State}  (hi : Keeps d s t) : Keeps d s (reportFaults t) := by
  unfold reportFaults
  try extract_lets
  iterate 14 (all_goals first | assumption | with_reducible apply faultAt_keeps | with_reducible refine forEach_keeps (fun _ _ _ => ?_) ?_ | with_reducible apply ite_keeps | (intro _) | split | (refine Keeps.upd rfl rfl rfl rfl rfl rfl rfl rfl ?_) | exact wakeful_serving | exact wakeful_draining | exact wakeful_unformed | exact wakeful_idle | exact wakeful_ite | dsimp +zetaDelta only)

theorem wakeMerge_keeps {d : Fin 4 → Int} {s t : State}  (hi : Keeps d s t) : Keeps d s (wakeMerge t) := by
  unfold wakeMerge
  try extract_lets
  iterate 14 (all_goals first | assumption | with_reducible apply lastRounds_keeps | with_reducible apply wiredRelease_keeps | with_reducible apply ite_keeps | (intro _) | split | (refine Keeps.upd rfl rfl rfl rfl rfl rfl rfl rfl ?_) | exact wakeful_serving | exact wakeful_draining | exact wakeful_unformed | exact wakeful_idle | exact wakeful_ite | dsimp +zetaDelta only)

theorem wakeThrottle_keeps {d : Fin 4 → Int} {s t : State}  (hi : Keeps d s t) : Keeps d s (wakeThrottle t) := by
  unfold wakeThrottle
  try extract_lets
  iterate 14 (all_goals first | assumption | with_reducible apply throttleTake_keeps | with_reducible apply ite_keeps | (intro _) | split | (refine Keeps.upd rfl rfl rfl rfl rfl rfl rfl rfl ?_) | exact wakeful_serving | exact wakeful_draining | exact wakeful_unformed | exact wakeful_idle | exact wakeful_ite | dsimp +zetaDelta only)

theorem wakeTimeAgree_keeps {d : Fin 4 → Int} {s t : State} (iv : Option DWord) (hi : Keeps d s t) : Keeps d s (wakeTimeAgree t iv) := by
  unfold wakeTimeAgree
  try extract_lets
  iterate 14 (all_goals first | assumption | with_reducible apply cdcClear_keeps | with_reducible apply ite_keeps | (intro _) | split | (refine Keeps.upd rfl rfl rfl rfl rfl rfl rfl rfl ?_) | exact wakeful_serving | exact wakeful_draining | exact wakeful_unformed | exact wakeful_idle | exact wakeful_ite | dsimp +zetaDelta only)

theorem wakeStart_keeps {d : Fin 4 → Int} {s t : State}  (hi : Keeps d s t) : Keeps d s (wakeStart t) := by
  unfold wakeStart
  try extract_lets
  iterate 14 (all_goals first | assumption | with_reducible apply pwrAsk_keeps | with_reducible apply ite_keeps | (intro _) | split | (refine Keeps.upd rfl rfl rfl rfl rfl rfl rfl rfl ?_) | exact wakeful_serving | exact wakeful_draining | exact wakeful_unformed | exact wakeful_idle | exact wakeful_ite | dsimp +zetaDelta only)

theorem retentionSave_keeps {d : Fin 4 → Int} {s t : State} (origin : Mode) (hi : Keeps d s t) : Keeps d s (retentionSave t origin) := by
  unfold retentionSave
  try extract_lets
  iterate 14 (all_goals first | assumption | with_reducible apply ite_keeps | (intro _) | split | (refine Keeps.upd rfl rfl rfl rfl rfl rfl rfl rfl ?_) | exact wakeful_serving | exact wakeful_draining | exact wakeful_unformed | exact wakeful_idle | exact wakeful_ite | dsimp +zetaDelta only)

theorem resetAck_keeps {d : Fin 4 → Int} {s t : State}  (hi : Keeps d s t) : Keeps d s (resetAck t) := by
  unfold resetAck
  try extract_lets
  iterate 14 (all_goals first | assumption | with_reducible apply pwrAsk_keeps | with_reducible apply ite_keeps | (intro _) | split | (refine Keeps.upd rfl rfl rfl rfl rfl rfl rfl rfl ?_) | exact wakeful_serving | exact wakeful_draining | exact wakeful_unformed | exact wakeful_idle | exact wakeful_ite | dsimp +zetaDelta only)

theorem drainFollow_keeps {d : Fin 4 → Int} {s t : State} (hi : Keeps d s t) : Keeps d s (drainFollow t) := by
  unfold drainFollow
  exact ite_keeps (engineSettle_keeps (Keeps.inner (modeChange_keeps 3 wakeful_draining hi) (settleAll_inner (batchEndAll_inner (Inner.refl _)))))
    (ite_keeps (releaseAll_keeps (wiredRelease_keeps (modeChange_keeps 3 wakeful_serving hi))) hi)

theorem takeLocks_keeps {d : Fin 4 → Int} {s t : State} (hi : Keeps d s t) : Keeps d s (takeLocks t) := by
  unfold takeLocks
  exact ite_keeps hi (Keeps.lockOr hi)

theorem engineOn_keeps {d : Fin 4 → Int} {s t : State} (addr : BitVec 22) (hi : Keeps d s t) : Keeps d s (engineOn t addr) := by
  unfold engineOn
  dsimp only
  have h1 : Keeps d s { t with md := { t.md with engineEn := true } } := Keeps.upd rfl rfl rfl rfl rfl rfl rfl rfl hi
  have h2 := modeChange_keeps (m := if drainHeld { t with md := { t.md with engineEn := true } } then .draining else .serving) 1 wakeful_ite
    (takeLocks_keeps h1)
  exact ite_keeps hi (ite_keeps (rejectWrite_keeps _ hi) (ite_keeps (ite_keeps (releaseAll_keeps (wiredRelease_keeps h2)) h2) h1))

theorem engineOff_keeps {d : Fin 4 → Int} {s t : State}  (hi : Keeps d s t) : Keeps d s (engineOff t) := by
  unfold engineOff
  try extract_lets
  iterate 14 (all_goals first | assumption | with_reducible apply engineSettle_keeps | (with_reducible refine Keeps.inner ?_ (settleAll_inner (hi := Inner.refl _) ..)) | (with_reducible refine Keeps.inner ?_ (batchEndAll_inner (hi := Inner.refl _) ..)) | with_reducible apply ite_keeps | (intro _) | split | (refine Keeps.upd rfl rfl rfl rfl rfl rfl rfl rfl ?_) | exact wakeful_serving | exact wakeful_draining | exact wakeful_unformed | exact wakeful_idle | exact wakeful_ite | dsimp +zetaDelta only)

theorem modeReqAwake_keeps {d : Fin 4 → Int} {s t : State} (v : BitVec 4) (hi : Keeps d s t) : Keeps d s (modeReqAwake t v) := by
  unfold modeReqAwake
  try extract_lets
  iterate 14 (all_goals first | assumption | with_reducible apply drainFollow_keeps | with_reducible apply tryAttempt_keeps | with_reducible apply activity_keeps | with_reducible apply ite_keeps | (intro _) | split | (refine Keeps.upd rfl rfl rfl rfl rfl rfl rfl rfl ?_) | exact wakeful_serving | exact wakeful_draining | exact wakeful_unformed | exact wakeful_idle | exact wakeful_ite | dsimp +zetaDelta only)

theorem modeReq_keeps {d : Fin 4 → Int} {s t : State} (form : Form) (w : Word) (addr : BitVec 22) (hi : Keeps d s t) : Keeps d s (modeReq t form w addr) := by
  unfold modeReq
  try extract_lets
  iterate 14 (all_goals first | assumption | with_reducible apply modeReqAwake_keeps | with_reducible apply sleepIgnore_keeps | with_reducible apply wakeSource_keeps | with_reducible apply rejectWrite_keeps | with_reducible apply ite_keeps | (intro _) | split | (refine Keeps.upd rfl rfl rfl rfl rfl rfl rfl rfl ?_) | exact wakeful_serving | exact wakeful_draining | exact wakeful_unformed | exact wakeful_idle | exact wakeful_ite | dsimp +zetaDelta only)

theorem modeReqSafe_keeps {d : Fin 4 → Int} {s t : State} (form : Form) (w : Word) (hi : Keeps d s t) : Keeps d s (modeReqSafe t form w) := by
  unfold modeReqSafe
  try extract_lets
  iterate 14 (all_goals first | assumption | with_reducible apply ite_keeps | (intro _) | split | (refine Keeps.upd rfl rfl rfl rfl rfl rfl rfl rfl ?_) | exact wakeful_serving | exact wakeful_draining | exact wakeful_unformed | exact wakeful_idle | exact wakeful_ite | dsimp +zetaDelta only)

theorem aoHold_keeps {d : Fin 4 → Int} {s t : State} (form : Form) (a : Nat) (w : Word) (addr : BitVec 22) (hi : Keeps d s t) : Keeps d s (aoHold t form a w addr) := by
  unfold aoHold
  try extract_lets
  iterate 14 (all_goals first | assumption | with_reducible apply ite_keeps | (intro _) | split | (refine Keeps.upd rfl rfl rfl rfl rfl rfl rfl rfl ?_) | exact wakeful_serving | exact wakeful_draining | exact wakeful_unformed | exact wakeful_idle | exact wakeful_ite | dsimp +zetaDelta only)

theorem modeReqPut_keeps {d : Fin 4 → Int} {s t : State} (form : Form) (w : Word) (addr : BitVec 22) (hi : Keeps d s t) : Keeps d s (modeReqPut t form w addr) := by
  unfold modeReqPut
  try extract_lets
  iterate 14 (all_goals first | assumption | with_reducible apply modeReqSafe_keeps | with_reducible apply modeReq_keeps | with_reducible apply ite_keeps | (intro _) | split | (refine Keeps.upd rfl rfl rfl rfl rfl rfl rfl rfl ?_) | exact wakeful_serving | exact wakeful_draining | exact wakeful_unformed | exact wakeful_idle | exact wakeful_ite | dsimp +zetaDelta only)

theorem modeReqWrite_keeps {d : Fin 4 → Int} {s t : State} (form : Form) (w : Word) (hi : Keeps d s t) : Keeps d s (modeReqWrite form w t) := by
  unfold modeReqWrite
  try extract_lets
  iterate 14 (all_goals first | assumption | with_reducible apply modeReqPut_keeps | with_reducible apply aoHold_keeps | with_reducible apply ite_keeps | (intro _) | split | (refine Keeps.upd rfl rfl rfl rfl rfl rfl rfl rfl ?_) | exact wakeful_serving | exact wakeful_draining | exact wakeful_unformed | exact wakeful_idle | exact wakeful_ite | dsimp +zetaDelta only)

theorem beatSample_keeps {d : Fin 4 → Int} {s t : State}  (hi : Keeps d s t) : Keeps d s (beatSample t) := by
  unfold beatSample
  try extract_lets
  iterate 14 (all_goals first | assumption | with_reducible apply ite_keeps | (intro _) | split | (refine Keeps.upd rfl rfl rfl rfl rfl rfl rfl rfl ?_) | exact wakeful_serving | exact wakeful_draining | exact wakeful_unformed | exact wakeful_idle | exact wakeful_ite | dsimp +zetaDelta only)

theorem sbQuiet_keeps {d : Fin 4 → Int} {s t : State}  (hi : Keeps d s t) : Keeps d s (sbQuiet t) := by
  unfold sbQuiet
  try extract_lets
  iterate 14 (all_goals first | assumption | with_reducible apply ite_keeps | (intro _) | split | (refine Keeps.upd rfl rfl rfl rfl rfl rfl rfl rfl ?_) | exact wakeful_serving | exact wakeful_draining | exact wakeful_unformed | exact wakeful_idle | exact wakeful_ite | dsimp +zetaDelta only)

theorem regAgree_keeps {d : Fin 4 → Int} {s t : State}  (hi : Keeps d s t) : Keeps d s (regAgree t) := by
  unfold regAgree
  try extract_lets
  iterate 14 (all_goals first | assumption | with_reducible apply cdcClear_keeps | with_reducible apply ite_keeps | (intro _) | split | (refine Keeps.upd rfl rfl rfl rfl rfl rfl rfl rfl ?_) | exact wakeful_serving | exact wakeful_draining | exact wakeful_unformed | exact wakeful_idle | exact wakeful_ite | dsimp +zetaDelta only)

theorem aliveToggle_keeps {d : Fin 4 → Int} {s t : State}  (hi : Keeps d s t) : Keeps d s (aliveToggle t) := by
  unfold aliveToggle
  try extract_lets
  iterate 14 (all_goals first | assumption | with_reducible apply ite_keeps | (intro _) | split | (refine Keeps.upd rfl rfl rfl rfl rfl rfl rfl rfl ?_) | exact wakeful_serving | exact wakeful_draining | exact wakeful_unformed | exact wakeful_idle | exact wakeful_ite | dsimp +zetaDelta only)

theorem regStop_keeps {d : Fin 4 → Int} {s t : State}  (hi : Keeps d s t) : Keeps d s (regStop t) := by
  unfold regStop
  try extract_lets
  iterate 14 (all_goals first | assumption | with_reducible apply fatalFault_keeps | with_reducible apply whenLive_keeps | with_reducible apply ite_keeps | (intro _) | split | (refine Keeps.upd rfl rfl rfl rfl rfl rfl rfl rfl ?_) | exact wakeful_serving | exact wakeful_draining | exact wakeful_unformed | exact wakeful_idle | exact wakeful_ite | dsimp +zetaDelta only)

theorem aoStop_keeps {d : Fin 4 → Int} {s t : State}  (hi : Keeps d s t) : Keeps d s (aoStop t) := by
  unfold aoStop
  try extract_lets
  iterate 14 (all_goals first | assumption | with_reducible apply faultFound_keeps | with_reducible apply ite_keeps | (intro _) | split | (refine Keeps.upd rfl rfl rfl rfl rfl rfl rfl rfl ?_) | exact wakeful_serving | exact wakeful_draining | exact wakeful_unformed | exact wakeful_idle | exact wakeful_ite | dsimp +zetaDelta only)

theorem lastGaspWrite_keeps {d : Fin 4 → Int} {s t : State}  (hi : Keeps d s t) : Keeps d s (lastGaspWrite t) := by
  unfold lastGaspWrite
  try extract_lets
  iterate 14 (all_goals first | assumption | (with_reducible refine Keeps.inner ?_ (jnlPut_inner (hi := Inner.refl _) ..)) | with_reducible apply ite_keeps | (intro _) | split | (refine Keeps.upd rfl rfl rfl rfl rfl rfl rfl rfl ?_) | exact wakeful_serving | exact wakeful_draining | exact wakeful_unformed | exact wakeful_idle | exact wakeful_ite | dsimp +zetaDelta only)

theorem openEnd_keeps {d : Fin 4 → Int} {s t : State} (completes : Bool) (hi : Keeps d s t) : Keeps d s (openEnd t completes) := by
  unfold openEnd
  try extract_lets
  iterate 14 (all_goals first | assumption | (with_reducible refine Keeps.inner ?_ (closeWrite_inner (hi := Inner.refl _) ..)) | with_reducible apply ite_keeps | (intro _) | split | (refine Keeps.upd rfl rfl rfl rfl rfl rfl rfl rfl ?_) | exact wakeful_serving | exact wakeful_draining | exact wakeful_unformed | exact wakeful_idle | exact wakeful_ite | dsimp +zetaDelta only)

theorem resetRequest_keeps {d : Fin 4 → Int} {s t : State}  (hi : Keeps d s t) : Keeps d s (resetRequest t) := by
  unfold resetRequest
  try extract_lets
  iterate 14 (all_goals first | assumption | with_reducible apply pwrAsk_keeps | with_reducible apply ite_keeps | (intro _) | split | (refine Keeps.upd rfl rfl rfl rfl rfl rfl rfl rfl ?_) | exact wakeful_serving | exact wakeful_draining | exact wakeful_unformed | exact wakeful_idle | exact wakeful_ite | dsimp +zetaDelta only)

theorem resetCmd_keeps {d : Fin 4 → Int} {s t : State} (p : Port) (w : Word) (hi : Keeps d s t) : Keeps d s (resetCmd t p w) := by
  unfold resetCmd
  try extract_lets
  iterate 14 (all_goals first | assumption | with_reducible apply resetRequest_keeps | with_reducible apply sleepIgnore_keeps | with_reducible apply deniedWrite_keeps | with_reducible apply rejectWrite_keeps | with_reducible apply ite_keeps | (intro _) | split | (refine Keeps.upd rfl rfl rfl rfl rfl rfl rfl rfl ?_) | exact wakeful_serving | exact wakeful_draining | exact wakeful_unformed | exact wakeful_idle | exact wakeful_ite | dsimp +zetaDelta only)

theorem planeTest_keeps {d : Fin 4 → Int} {s t : State} (aPass bPass : Bool) (hi : Keeps d s t) :
    Keeps d s (planeTest t aPass bPass) := by
  unfold planeTest
  split
  · exact hi
  · split
    · exact fatalFault_keeps _ _ _ hi
    · exact fencePlane_keeps _ _ _ _ (plane_ne_zero _) hi

theorem sbPut_keeps {d : Fin 4 → Int} {s t : State} (b : SbUnit) (hi : Keeps d s t) : Keeps d s (sbPut t b) := by
  unfold sbPut
  try extract_lets
  iterate 14 (all_goals first | assumption | with_reducible apply ite_keeps | (intro _) | split | (refine Keeps.upd rfl rfl rfl rfl rfl rfl rfl rfl ?_) | exact wakeful_serving | exact wakeful_draining | exact wakeful_unformed | exact wakeful_idle | exact wakeful_ite | dsimp +zetaDelta only)

theorem sbSend_keeps {d : Fin 4 → Int} {s t : State} (status : Byte) (data : List (BitVec 16)) (hi : Keeps d s t) : Keeps d s (sbSend t status data) := by
  unfold sbSend
  try extract_lets
  iterate 14 (all_goals first | assumption | with_reducible apply ite_keeps | (intro _) | split | (refine Keeps.upd rfl rfl rfl rfl rfl rfl rfl rfl ?_) | exact wakeful_serving | exact wakeful_draining | exact wakeful_unformed | exact wakeful_idle | exact wakeful_ite | dsimp +zetaDelta only)

theorem sbWakeAct_keeps {d : Fin 4 → Int} {s t : State}  (hi : Keeps d s t) : Keeps d s (sbWakeAct t) := by
  unfold sbWakeAct
  try extract_lets
  iterate 14 (all_goals first | assumption | with_reducible apply wakeSource_keeps | with_reducible apply activity_keeps | with_reducible apply ite_keeps | (intro _) | split | (refine Keeps.upd rfl rfl rfl rfl rfl rfl rfl rfl ?_) | exact wakeful_serving | exact wakeful_draining | exact wakeful_unformed | exact wakeful_idle | exact wakeful_ite | dsimp +zetaDelta only)

theorem sbResetAct_keeps {d : Fin 4 → Int} {s t : State} (key : BitVec 16) (hi : Keeps d s t) : Keeps d s (sbResetAct t key) := by
  unfold sbResetAct
  try extract_lets
  iterate 14 (all_goals first | assumption | with_reducible apply sbSend_keeps | with_reducible apply ite_keeps | (intro _) | split | (refine Keeps.upd rfl rfl rfl rfl rfl rfl rfl rfl ?_) | exact wakeful_serving | exact wakeful_draining | exact wakeful_unformed | exact wakeful_idle | exact wakeful_ite | dsimp +zetaDelta only)

theorem sbCommand_keeps {d : Fin 4 → Int} {s t : State} (cmd : Byte) (data : BitVec 16) (hi : Keeps d s t) : Keeps d s (sbCommand t cmd data) := by
  unfold sbCommand
  try extract_lets
  iterate 14 (all_goals first | assumption | with_reducible apply sbResetAct_keeps | with_reducible apply sbWakeAct_keeps | with_reducible apply sbSend_keeps | with_reducible apply ite_keeps | (intro _) | split | (refine Keeps.upd rfl rfl rfl rfl rfl rfl rfl rfl ?_) | exact wakeful_serving | exact wakeful_draining | exact wakeful_unformed | exact wakeful_idle | exact wakeful_ite | dsimp +zetaDelta only)

theorem sbExecute_keeps {d : Fin 4 → Int} {s t : State} (addr : Byte) (cmd : Byte) (data : BitVec 16) (hi : Keeps d s t) : Keeps d s (sbExecute t addr cmd data) := by
  unfold sbExecute
  try extract_lets
  iterate 14 (all_goals first | assumption | with_reducible apply sbCommand_keeps | with_reducible apply sbSend_keeps | with_reducible apply ite_keeps | (intro _) | split | (refine Keeps.upd rfl rfl rfl rfl rfl rfl rfl rfl ?_) | exact wakeful_serving | exact wakeful_draining | exact wakeful_unformed | exact wakeful_idle | exact wakeful_ite | dsimp +zetaDelta only)

theorem sbTake_keeps {d : Fin 4 → Int} {s t : State} (v : Bool) (hi : Keeps d s t) : Keeps d s (sbTake t v) := by
  unfold sbTake
  try extract_lets
  iterate 14 (all_goals first | assumption | with_reducible apply sbExecute_keeps | with_reducible apply sbPut_keeps | with_reducible apply ite_keeps | (intro _) | split | (refine Keeps.upd rfl rfl rfl rfl rfl rfl rfl rfl ?_) | exact wakeful_serving | exact wakeful_draining | exact wakeful_unformed | exact wakeful_idle | exact wakeful_ite | dsimp +zetaDelta only)

theorem sbSent_keeps {d : Fin 4 → Int} {s t : State}  (hi : Keeps d s t) : Keeps d s (sbSent t) := by
  unfold sbSent
  try extract_lets
  iterate 14 (all_goals first | assumption | with_reducible apply sbPut_keeps | with_reducible apply resetRequest_keeps | with_reducible apply ite_keeps | (intro _) | split | (refine Keeps.upd rfl rfl rfl rfl rfl rfl rfl rfl ?_) | exact wakeful_serving | exact wakeful_draining | exact wakeful_unformed | exact wakeful_idle | exact wakeful_ite | dsimp +zetaDelta only)

theorem sbGive_keeps {d : Fin 4 → Int} {s t : State} (tx : List Bool) (hi : Keeps d s t) : Keeps d s (sbGive t tx) := by
  unfold sbGive
  try extract_lets
  iterate 14 (all_goals first | assumption | with_reducible apply sbSent_keeps | with_reducible apply sbPut_keeps | with_reducible apply ite_keeps | (intro _) | split | (refine Keeps.upd rfl rfl rfl rfl rfl rfl rfl rfl ?_) | exact wakeful_serving | exact wakeful_draining | exact wakeful_unformed | exact wakeful_idle | exact wakeful_ite | dsimp +zetaDelta only)

theorem sbMove_keeps {d : Fin 4 → Int} {s t : State} (m : SbMove) (hi : Keeps d s t) : Keeps d s (sbMove t m) := by
  unfold sbMove
  try extract_lets
  iterate 14 (all_goals first | assumption | with_reducible apply sbGive_keeps | with_reducible apply sbTake_keeps | with_reducible apply sbPut_keeps | with_reducible apply ite_keeps | (intro _) | split | (refine Keeps.upd rfl rfl rfl rfl rfl rfl rfl rfl ?_) | exact wakeful_serving | exact wakeful_draining | exact wakeful_unformed | exact wakeful_idle | exact wakeful_ite | dsimp +zetaDelta only)

theorem sbExchange_keeps {d : Fin 4 → Int} {s t : State} (frame : SbFrame) (cmd : Byte) (data : List Bool) (hi : Keeps d s t) :
    Keeps d s (sbExchange t frame cmd data) := by
  unfold sbExchange
  refine ite_keeps hi ?_
  generalize List.take _ _ = l
  clear frame cmd data
  induction l generalizing t with
  | nil => exact hi
  | cons m r ih => exact ih (sbMove_keeps m hi)

theorem sbAbandon_keeps {d : Fin 4 → Int} {s t : State} (b : SbUnit) (hi : Keeps d s t) : Keeps d s (sbAbandon t b) := by
  unfold sbAbandon
  try extract_lets
  iterate 14 (all_goals first | assumption | with_reducible apply ite_keeps | (intro _) | split | (refine Keeps.upd rfl rfl rfl rfl rfl rfl rfl rfl ?_) | exact wakeful_serving | exact wakeful_draining | exact wakeful_unformed | exact wakeful_idle | exact wakeful_ite | dsimp +zetaDelta only)

theorem failover_keeps {d : Fin 4 → Int} {s t : State} (c : Copy) (cause : Nat) (offset : Nat) (inj : Bool) (hi : Keeps d s t) : Keeps d s (failover t c cause offset inj) := by
  unfold failover
  try extract_lets
  iterate 14 (all_goals first | assumption | with_reducible apply warmGo_keeps | with_reducible apply faultCount_keeps | (with_reducible refine Keeps.inner ?_ (jnlPut_inner (hi := Inner.refl _) ..)) | (with_reducible refine Keeps.inner ?_ (apDrop_inner (hi := Inner.refl _) ..)) | (with_reducible refine Keeps.inner ?_ (apDone_inner (hi := Inner.refl _) ..)) | with_reducible refine forEach_keeps (fun _ _ _ => ?_) ?_ | with_reducible apply ite_keeps | (intro _) | split | (refine Keeps.upd rfl rfl rfl rfl rfl rfl rfl rfl ?_) | exact wakeful_serving | exact wakeful_draining | exact wakeful_unformed | exact wakeful_idle | exact wakeful_ite | dsimp +zetaDelta only)

/-- A round in which something that keeps is applied. -/
theorem comparedRound_keeps {d : Fin 4 → Int} {s t : State} (h : Nat) {f : State → State} (hi : Keeps d s t)
    (hf : ∀ u, Keeps d s u → Keeps d s (f u)) : Keeps d s (comparedRound t h f) := by
  have hc := roundCompare_keeps (BitVec.ofNat 24 h) .agree hi
  exact unlessFatal_keeps hi (ite_keeps (hf _ hc) (Keeps.inner hc (enqueue_inner h (Inner.refl _))))

theorem eoisFlush_keeps {d : Fin 4 → Int} {s t : State} (h : Nat) (hi : Keeps d s t) : Keeps d s (eoisFlush t h) :=
  ite_keeps hi (comparedRound_keeps _ hi fun _ k => Keeps.inner k (roundEois_inner h (Inner.refl _)))

theorem crcApply_keeps {d : Fin 4 → Int} {s t : State} (h : Nat) (w : Words8) (hi : Keeps d s t) : Keeps d s (crcApply t h w) := by
  have hf : ∀ u, Keeps d s u → Keeps d s (crcChanges u h w) := fun _ k => Keeps.inner k (crcChanges_inner _ _ (Inner.refl _))
  exact ite_keeps hi (Keeps.inner (ite_keeps (comparedRound_keeps _ hi hf) (hf _ hi)) (fenceAll_inner (Inner.refl _)))

theorem vteCrcBad_keeps {d : Fin 4 → Int} {s t : State} (h : Nat) (w : Words8) (hi : Keeps d s t) : Keeps d s (vteCrcBad t h w) := by
  unfold vteCrcBad
  dsimp only
  have h0 := deferred_keeps 0x11 (BitVec.ofNat 24 h) 0 0 false hi
  have h1 := Keeps.inner h0 (fencesBegin_inner h (readsShow_inner h w (bit true eaCrcBad ||| bit true eaDone)
    (checkedWait_inner h (fetchNoise_inner h 8 (Inner.refl _)))))
  exact crcApply_keeps h w (eoisFlush_keeps h h1)

theorem vteArrive_keeps {d : Fin 4 → Int} {s t : State} (h : Nat) (v : Vte) (hi : Keeps d s t) : Keeps d s (vteArrive t h v) := by
  unfold vteArrive
  split
  · exact Keeps.inner hi (fetchVte_inner _ (Inner.refl _))
  · rename_i u hu
    have h2 : Keeps d s (fetchResolve u h v) := Keeps.inner hi (fetchResolve_inner h v (install_inner _ _ (Inner.refl _) hu))
    dsimp only
    have h4 : ∀ {x}, Keeps d s x → Keeps d s (fenceAll (vteTry (waitersIn (fencesBegin x h) h) h)) := fun k =>
      Keeps.inner k (fenceAll_inner (vteTry_inner _ (waitersIn_inner _ (fencesBegin_inner _ (Inner.refl _)))))
    split
    · exact h4 (Keeps.inner h2 (readsShow_inner _ _ _ (Inner.refl _)))
    · exact h4 h2

theorem vteReloaded_keeps {d : Fin 4 → Int} {s t : State} (h : Nat) (w : Words8) (hi : Keeps d s t) : Keeps d s (vteReloaded t h w) := by
  unfold vteReloaded
  try extract_lets
  iterate 14 (all_goals first | assumption | (with_reducible refine Keeps.inner ?_ (fenceAll_inner (hi := Inner.refl _) ..)) | (with_reducible refine Keeps.inner ?_ (vteTry_inner (hi := Inner.refl _) ..)) | (with_reducible refine Keeps.inner ?_ (fetchResolve_inner (hi := Inner.refl _) ..)) | (with_reducible refine Keeps.inner ?_ (waitersIn_inner (hi := Inner.refl _) ..)) | (with_reducible refine Keeps.inner ?_ (vtePut_inner (hi := Inner.refl _) ..)) | (with_reducible refine Keeps.inner ?_ (readsShow_inner (hi := Inner.refl _) ..)) | with_reducible apply ite_keeps | (intro _) | split | (refine Keeps.upd rfl rfl rfl rfl rfl rfl rfl rfl ?_) | exact wakeful_serving | exact wakeful_draining | exact wakeful_unformed | exact wakeful_idle | exact wakeful_ite | dsimp +zetaDelta only)

theorem vteReloadLost_keeps {d : Fin 4 → Int} {s t : State} (h : Nat) (src : BitVec 8) (reason : Nat) (inj : Bool) (hi : Keeps d s t) : Keeps d s (vteReloadLost t h src reason inj) := by
  unfold vteReloadLost
  try extract_lets
  iterate 14 (all_goals first | assumption | with_reducible apply deferred_keeps | (with_reducible refine Keeps.inner ?_ (fetchNoise_inner (hi := Inner.refl _) ..)) | (with_reducible refine Keeps.inner ?_ (vteReload_inner (hi := Inner.refl _) ..)) | with_reducible apply ite_keeps | (intro _) | split | (refine Keeps.upd rfl rfl rfl rfl rfl rfl rfl rfl ?_) | exact wakeful_serving | exact wakeful_draining | exact wakeful_unformed | exact wakeful_idle | exact wakeful_ite | dsimp +zetaDelta only)

theorem tdReloaded_keeps {d : Fin 4 → Int} {s t : State} (i : Nat) (w : Words8) (hi : Keeps d s t) : Keeps d s (tdReloaded t i w) := by
  unfold tdReloaded
  have h1 : Keeps d s { t with ts := { t.ts with reload := t.ts.reload.filter (· ≠ i) } } := Keeps.upd rfl rfl rfl rfl rfl rfl rfl rfl hi
  exact egressSettle_keeps (Keeps.inner h1 (tdReadsEnd_inner _ (waitedClose_inner _ (tgtPut_inner _ _ (Inner.refl _)))))

theorem readReturn_keeps {d : Fin 4 → Int} {s t : State} (tag : BitVec 8) (r : AperReq) (w : Words8) (hi : Keeps d s t) : Keeps d s (readReturn t tag r w) := by
  have h1 : Keeps d s (apDone t tag) := Keeps.inner hi (apDone_inner _ (Inner.refl _))
  unfold readReturn
  split
  · exact ite_keeps (vteArrive_keeps _ _ h1) (vteCrcBad_keeps _ _ h1)
  · exact ite_keeps (vteReloaded_keeps _ _ h1) (vteReloadLost_keeps _ _ _ _ h1)
  · exact tdReloaded_keeps _ _ h1
  · exact Keeps.inner h1 (waitersIn_inner _ (spillDone_inner _ (Inner.refl _)))
  · exact ite_keeps (imagePart_keeps _ hi) h1
  · exact h1
  · exact hi

theorem vteLost_keeps {d : Fin 4 → Int} {s t : State} (h : Nat) (inj : Bool) (hi : Keeps d s t) : Keeps d s (vteLost t h inj) := by
  unfold vteLost
  dsimp only
  have h1 := Keeps.inner (deferred_keeps 0x10 (BitVec.ofNat 24 h) 0 0 inj hi) (checkedWait_inner h (fetchNoise_inner h 7 (Inner.refl _)))
  generalize checkedWait (fetchNoise (deferred t 0x10 (BitVec.ofNat 24 h) 0 0 inj) h 7) h = x at h1 ⊢
  have h2 : Keeps d s { x with free := x.free + 8 } := Keeps.upd rfl rfl rfl rfl rfl rfl rfl rfl h1
  have h3 := Keeps.inner h2 (readsEnd_inner h (unreadWords x) (bit true eaDone) (Inner.refl _))
  exact Keeps.inner (eoisFlush_keeps h (Keeps.inner h3 (fencesBegin_inner _ (Inner.refl _)))) (vteTry_inner _ (Inner.refl _))

theorem spillLost_keeps {d : Fin 4 → Int} {s t : State} (h : Nat) (inj : Bool) (hi : Keeps d s t) : Keeps d s (spillLost t h inj) := by
  unfold spillLost
  dsimp only
  exact Keeps.inner (deferred_keeps _ _ _ _ _ (Keeps.inner hi (spillDone_inner (hi := Inner.refl _) ..)))
    (settleAll_inner (addDropped_inner _ _ (promote_inner _ (vecPut_inner _ _ (dropEv_inner _ (Inner.refl _))))))

theorem readLost_keeps {d : Fin 4 → Int} {s t : State} (tag : BitVec 8) (r : AperReq) (inj : Bool) (hi : Keeps d s t) : Keeps d s (readLost t tag r inj) := by
  unfold readLost
  try extract_lets
  iterate 14 (all_goals first | assumption | with_reducible apply spillLost_keeps | with_reducible apply vteLost_keeps | with_reducible apply vteReloadLost_keeps | with_reducible apply imageLost_keeps | with_reducible apply opFail_keeps | (with_reducible refine Keeps.inner ?_ (tdReload_inner (hi := Inner.refl _) ..)) | (with_reducible refine Keeps.inner ?_ (apDone_inner (hi := Inner.refl _) ..)) | with_reducible apply ite_keeps | (intro _) | split | (refine Keeps.upd rfl rfl rfl rfl rfl rfl rfl rfl ?_) | exact wakeful_serving | exact wakeful_draining | exact wakeful_unformed | exact wakeful_idle | exact wakeful_ite | dsimp +zetaDelta only)

theorem readError_keeps {d : Fin 4 → Int} {s t : State} (tag : BitVec 8) (r : AperReq) (cause : Nat) (inj : Bool) (hi : Keeps d s t) : Keeps d s (readError t tag r cause inj) := by
  unfold readError
  try extract_lets
  iterate 14 (all_goals first | assumption | with_reducible apply readLost_keeps | with_reducible apply failover_keeps | with_reducible apply ite_keeps | (intro _) | split | (refine Keeps.upd rfl rfl rfl rfl rfl rfl rfl rfl ?_) | exact wakeful_serving | exact wakeful_draining | exact wakeful_unformed | exact wakeful_idle | exact wakeful_ite | dsimp +zetaDelta only)

theorem readArrive_keeps {d : Fin 4 → Int} {s t : State} (tag : BitVec 8) (r : AperReq) (w : Words8) (hi : Keeps d s t) : Keeps d s (readArrive t tag r w) := by
  unfold readArrive
  try extract_lets
  iterate 14 (all_goals first | assumption | with_reducible apply readError_keeps | with_reducible apply readReturn_keeps | with_reducible apply injectSpent_keeps | with_reducible apply ite_keeps | (intro _) | split | (refine Keeps.upd rfl rfl rfl rfl rfl rfl rfl rfl ?_) | exact wakeful_serving | exact wakeful_draining | exact wakeful_unformed | exact wakeful_idle | exact wakeful_ite | dsimp +zetaDelta only)

theorem onTag_keeps {d : Fin 4 → Int} {s t : State} {f : AperReq → State} (tag : BitVec 8)
    (hf : ∀ r, Keeps d s (f r)) (hi : Keeps d s t) : Keeps d s (onTag t tag f) := by
  unfold onTag
  iterate 6 (all_goals first | assumption | exact hf _ | split)

theorem imageReturn_keeps {d : Fin 4 → Int} {s t : State} (image : List Byte) (hi : Keeps d s t) : Keeps d s (imageReturn t image) := by
  have h1 := injectSpent_keeps hi
  unfold imageReturn
  exact ite_keeps (ite_keeps (imageArrive_keeps _ (failover_keeps _ _ _ _ h1)) (imageLost_keeps h1)) (imageArrive_keeps _ hi)

theorem formCommit_keeps {d : Fin 4 → Int} {s t : State} (stored : List (Nat × Words8)) (hi : Keeps d s t) : Keeps d s (formCommit t stored) := by
  unfold formCommit
  try extract_lets
  iterate 14 (all_goals first | assumption | with_reducible apply failover_keeps | with_reducible apply formDone_keeps | with_reducible apply opFail_keeps | with_reducible apply injectSpent_keeps | (with_reducible refine Keeps.inner ?_ (apDrop_inner (hi := Inner.refl _) ..)) | with_reducible apply ite_keeps | (intro _) | split | (refine Keeps.upd rfl rfl rfl rfl rfl rfl rfl rfl ?_) | exact wakeful_serving | exact wakeful_draining | exact wakeful_unformed | exact wakeful_idle | exact wakeful_ite | dsimp +zetaDelta only)

theorem resyncPct_keeps {d : Fin 4 → Int} {s t : State}  (hi : Keeps d s t) : Keeps d s (resyncPct t) := by
  unfold resyncPct
  try extract_lets
  iterate 14 (all_goals first | assumption | with_reducible apply ite_keeps | (intro _) | split | (refine Keeps.upd rfl rfl rfl rfl rfl rfl rfl rfl ?_) | exact wakeful_serving | exact wakeful_draining | exact wakeful_unformed | exact wakeful_idle | exact wakeful_ite | dsimp +zetaDelta only)

theorem writeComplete_keeps {d : Fin 4 → Int} {s t : State} (tag : BitVec 8) (r : AperReq) (hi : Keeps d s t) : Keeps d s (writeComplete t tag r) := by
  unfold writeComplete
  try extract_lets
  iterate 14 (all_goals first | assumption | with_reducible apply resyncPct_keeps | with_reducible apply entryGo_keeps | with_reducible apply warmGo_keeps | (with_reducible refine Keeps.inner ?_ (apDone_inner (hi := Inner.refl _) ..)) | with_reducible apply ite_keeps | (intro _) | split | (refine Keeps.upd rfl rfl rfl rfl rfl rfl rfl rfl ?_) | exact wakeful_serving | exact wakeful_draining | exact wakeful_unformed | exact wakeful_idle | exact wakeful_ite | dsimp +zetaDelta only)

theorem writeAck_keeps {d : Fin 4 → Int} {s t : State} (tag : BitVec 8) (r : AperReq) (c : Copy) (hi : Keeps d s t) : Keeps d s (writeAck t tag r c) := by
  unfold writeAck
  try extract_lets
  iterate 14 (all_goals first | assumption | with_reducible apply writeComplete_keeps | with_reducible apply readError_keeps | with_reducible apply injectSpent_keeps | with_reducible apply ite_keeps | (intro _) | split | (refine Keeps.upd rfl rfl rfl rfl rfl rfl rfl rfl ?_) | exact wakeful_serving | exact wakeful_draining | exact wakeful_unformed | exact wakeful_idle | exact wakeful_ite | dsimp +zetaDelta only)

theorem formLost_keeps {d : Fin 4 → Int} {s t : State} (r : AperReq) (hi : Keeps d s t) : Keeps d s (formLost t r) := by
  unfold formLost
  try extract_lets
  iterate 14 (all_goals first | assumption | with_reducible apply opFail_keeps | with_reducible apply ite_keeps | (intro _) | split | (refine Keeps.upd rfl rfl rfl rfl rfl rfl rfl rfl ?_) | exact wakeful_serving | exact wakeful_draining | exact wakeful_unformed | exact wakeful_idle | exact wakeful_ite | dsimp +zetaDelta only)

theorem writeLost_keeps {d : Fin 4 → Int} {s t : State} (tag : BitVec 8) (r : AperReq) (hi : Keeps d s t) : Keeps d s (writeLost t tag r) := by
  unfold writeLost
  try extract_lets
  iterate 14 (all_goals first | assumption | with_reducible apply formLost_keeps | with_reducible apply entryGo_keeps | with_reducible apply deferred_keeps | with_reducible apply fatalFault_keeps | (with_reducible refine Keeps.inner ?_ (apDone_inner (hi := Inner.refl _) ..)) | with_reducible apply ite_keeps | (intro _) | split | (refine Keeps.upd rfl rfl rfl rfl rfl rfl rfl rfl ?_) | exact wakeful_serving | exact wakeful_draining | exact wakeful_unformed | exact wakeful_idle | exact wakeful_ite | dsimp +zetaDelta only)

theorem writeError_keeps {d : Fin 4 → Int} {s t : State} (tag : BitVec 8) (r : AperReq) (c : Copy) (hi : Keeps d s t) : Keeps d s (writeError t tag r c) := by
  unfold writeError
  try extract_lets
  iterate 14 (all_goals first | assumption | with_reducible apply writeLost_keeps | with_reducible apply failover_keeps | with_reducible apply entryGo_keeps | with_reducible apply ite_keeps | (intro _) | split | (refine Keeps.upd rfl rfl rfl rfl rfl rfl rfl rfl ?_) | exact wakeful_serving | exact wakeful_draining | exact wakeful_unformed | exact wakeful_idle | exact wakeful_ite | dsimp +zetaDelta only)

theorem onWrite_keeps {d : Fin 4 → Int} {s t : State} {f : AperReq → State} (tag : BitVec 8) (c : Copy)
    (hf : ∀ r, Keeps d s (f r)) (hi : Keeps d s t) : Keeps d s (onWrite t tag c f) := by
  unfold onWrite
  iterate 6 (all_goals first | assumption | exact hf _ | split)

theorem resync_keeps {d : Fin 4 → Int} {s t : State}  (hi : Keeps d s t) : Keeps d s (resync t) := by
  unfold resync
  try extract_lets
  iterate 14 (all_goals first | assumption | with_reducible apply rejectWrite_keeps | (with_reducible refine Keeps.inner ?_ (resyncStart_inner (hi := Inner.refl _) ..)) | with_reducible apply ite_keeps | (intro _) | split | (refine Keeps.upd rfl rfl rfl rfl rfl rfl rfl rfl ?_) | exact wakeful_serving | exact wakeful_draining | exact wakeful_unformed | exact wakeful_idle | exact wakeful_ite | dsimp +zetaDelta only)

theorem injectCdc_keeps {d : Fin 4 → Int} {s t : State}  (hi : Keeps d s t) : Keeps d s (injectCdc t) := by
  unfold injectCdc
  try extract_lets
  iterate 14 (all_goals first | assumption | with_reducible apply cdcDeferred_keeps | with_reducible apply cdcRetry_keeps | with_reducible apply cdcClear_keeps | with_reducible apply ite_keeps | (intro _) | split | (refine Keeps.upd rfl rfl rfl rfl rfl rfl rfl rfl ?_) | exact wakeful_serving | exact wakeful_draining | exact wakeful_unformed | exact wakeful_idle | exact wakeful_ite | dsimp +zetaDelta only)

theorem injectArm_keeps {d : Fin 4 → Int} {s t : State} (what : Nat) (hi : Keeps d s t) : Keeps d s (injectArm t what) := by
  unfold injectArm
  try extract_lets
  iterate 14 (all_goals first | assumption | with_reducible apply injectCdc_keeps | with_reducible apply collectorFault_keeps | with_reducible apply ite_keeps | (intro _) | split | (refine Keeps.upd rfl rfl rfl rfl rfl rfl rfl rfl ?_) | exact wakeful_serving | exact wakeful_draining | exact wakeful_unformed | exact wakeful_idle | exact wakeful_ite | dsimp +zetaDelta only)

theorem inject_keeps {d : Fin 4 → Int} {s t : State} (what : Nat) (key : BitVec 16) (hi : Keeps d s t) : Keeps d s (inject what key t) := by
  unfold inject
  try extract_lets
  iterate 14 (all_goals first | assumption | with_reducible apply injectArm_keeps | with_reducible apply rejectWrite_keeps | with_reducible apply ite_keeps | (intro _) | split | (refine Keeps.upd rfl rfl rfl rfl rfl rfl rfl rfl ?_) | exact wakeful_serving | exact wakeful_draining | exact wakeful_unformed | exact wakeful_idle | exact wakeful_ite | dsimp +zetaDelta only)

theorem injectWrite_keeps {d : Fin 4 → Int} {s t : State} (what : Nat) (key : BitVec 16) (hi : Keeps d s t) : Keeps d s (injectWrite t what key) := by
  unfold injectWrite
  try extract_lets
  iterate 14 (all_goals first | assumption | with_reducible apply inject_keeps | with_reducible apply portWrite_keeps | with_reducible apply writeAt_keeps | with_reducible apply ite_keeps | (intro _) | split | (refine Keeps.upd rfl rfl rfl rfl rfl rfl rfl rfl ?_) | exact wakeful_serving | exact wakeful_draining | exact wakeful_unformed | exact wakeful_idle | exact wakeful_ite | dsimp +zetaDelta only)

theorem lmemCorrupt_keeps {d : Fin 4 → Int} {s t : State} (row : BitVec 16) (hi : Keeps d s t) : Keeps d s (lmemCorrupt t row) := by
  unfold lmemCorrupt
  exact ite_keeps (Keeps.writes _ _ hi) hi

theorem eccDouble_keeps {d : Fin 4 → Int} {s t : State} (array : BitVec 8) (row : BitVec 16) (copied : Bool) (inj : Bool) (hi : Keeps d s t) : Keeps d s (eccDouble t array row copied inj) := by
  unfold eccDouble
  try extract_lets
  iterate 14 (all_goals first | assumption | with_reducible apply lmemCorrupt_keeps | with_reducible apply faultFound_keeps | with_reducible apply fatalFault_keeps | (with_reducible refine Keeps.inner ?_ (rowReload_inner (hi := Inner.refl _) ..)) | with_reducible apply ite_keeps | (intro _) | split | (refine Keeps.upd rfl rfl rfl rfl rfl rfl rfl rfl ?_) | exact wakeful_serving | exact wakeful_draining | exact wakeful_unformed | exact wakeful_idle | exact wakeful_ite | dsimp +zetaDelta only)

theorem refreshRow_keeps {d : Fin 4 → Int} {s t : State} (array : BitVec 8) (row : BitVec 16) (copied : Bool) (ecc : Ecc) (hi : Keeps d s t) : Keeps d s (refreshRow t array row copied ecc) := by
  unfold refreshRow
  try extract_lets
  iterate 14 (all_goals first | assumption | with_reducible apply eccDouble_keeps | with_reducible apply injectSpent_keeps | with_reducible apply faultFound_keeps | with_reducible apply ite_keeps | (intro _) | split | (refine Keeps.upd rfl rfl rfl rfl rfl rfl rfl rfl ?_) | exact wakeful_serving | exact wakeful_draining | exact wakeful_unformed | exact wakeful_idle | exact wakeful_ite | dsimp +zetaDelta only)

theorem rejectIf_keeps {d : Fin 4 → Int} {s t : State} (b : Bool) (addr : BitVec 22) (hi : Keeps d s t) : Keeps d s (rejectIf b t addr) := by
  unfold rejectIf
  try extract_lets
  iterate 14 (all_goals first | assumption | with_reducible apply rejectWrite_keeps | with_reducible apply ite_keeps | (intro _) | split | (refine Keeps.upd rfl rfl rfl rfl rfl rfl rfl rfl ?_) | exact wakeful_serving | exact wakeful_draining | exact wakeful_unformed | exact wakeful_idle | exact wakeful_ite | dsimp +zetaDelta only)

theorem aoReject_keeps {d : Fin 4 → Int} {s t : State} (addr : BitVec 22) (hi : Keeps d s t) : Keeps d s (aoReject t addr) := by
  unfold aoReject
  try extract_lets
  iterate 14 (all_goals first | assumption | with_reducible apply sleepIgnore_keeps | with_reducible apply rejectWrite_keeps | with_reducible apply ite_keeps | (intro _) | split | (refine Keeps.upd rfl rfl rfl rfl rfl rfl rfl rfl ?_) | exact wakeful_serving | exact wakeful_draining | exact wakeful_unformed | exact wakeful_idle | exact wakeful_ite | dsimp +zetaDelta only)

theorem ctlLoad_keeps {d : Fin 4 → Int} {s t : State} (v : Word) (hi : Keeps d s t) : Keeps d s (ctlLoad t v) := by
  unfold ctlLoad
  try extract_lets
  iterate 14 (all_goals first | assumption | with_reducible apply inject_keeps | with_reducible apply ite_keeps | (intro _) | split | (refine Keeps.upd rfl rfl rfl rfl rfl rfl rfl rfl ?_) | exact wakeful_serving | exact wakeful_draining | exact wakeful_unformed | exact wakeful_idle | exact wakeful_ite | dsimp +zetaDelta only)

theorem ctlPut_keeps {d : Fin 4 → Int} {s t : State} (v : Word) (addr : BitVec 22) (hi : Keeps d s t) : Keeps d s (ctlPut t v addr) := by
  unfold ctlPut
  try extract_lets
  iterate 14 (all_goals first | assumption | with_reducible apply ctlLoad_keeps | with_reducible apply rejectIf_keeps | with_reducible apply engineOff_keeps | with_reducible apply engineOn_keeps | (with_reducible refine Keeps.inner ?_ (batchEndAll_inner (hi := Inner.refl _) ..)) | (with_reducible refine Keeps.inner ?_ (settleAll_inner (hi := Inner.refl _) ..)) | with_reducible apply ite_keeps | (intro _) | split | (refine Keeps.upd rfl rfl rfl rfl rfl rfl rfl rfl ?_) | exact wakeful_serving | exact wakeful_draining | exact wakeful_unformed | exact wakeful_idle | exact wakeful_ite | dsimp +zetaDelta only)

theorem arbPut_keeps {d : Fin 4 → Int} {s t : State} (v : Word) (addr : BitVec 22) (hi : Keeps d s t) : Keeps d s (arbPut t v addr) := by
  unfold arbPut
  try extract_lets
  iterate 14 (all_goals first | assumption | with_reducible apply rejectIf_keeps | with_reducible apply drainFollow_keeps | with_reducible apply ite_keeps | (intro _) | split | (refine Keeps.upd rfl rfl rfl rfl rfl rfl rfl rfl ?_) | exact wakeful_serving | exact wakeful_draining | exact wakeful_unformed | exact wakeful_idle | exact wakeful_ite | dsimp +zetaDelta only)

theorem aperturePut_keeps {d : Fin 4 → Int} {s t : State} (base : BitVec 34) (base2 : BitVec 34) (log2 : BitVec 6) (addr : BitVec 22) (hi : Keeps d s t) : Keeps d s (aperturePut t base base2 log2 addr) := by
  unfold aperturePut
  try extract_lets
  iterate 14 (all_goals first | assumption | with_reducible apply rejectWrite_keeps | with_reducible apply ite_keeps | (intro _) | split | (refine Keeps.upd rfl rfl rfl rfl rfl rfl rfl rfl ?_) | exact wakeful_serving | exact wakeful_draining | exact wakeful_unformed | exact wakeful_idle | exact wakeful_ite | dsimp +zetaDelta only)

theorem aperCtlPut_keeps {d : Fin 4 → Int} {s t : State} (v : Word) (sync : Bool) (addr : BitVec 22) (hi : Keeps d s t) : Keeps d s (aperCtlPut t v sync addr) := by
  unfold aperCtlPut
  try extract_lets
  iterate 14 (all_goals first | assumption | with_reducible apply rejectIf_keeps | with_reducible apply resync_keeps | with_reducible apply ite_keeps | (intro _) | split | (refine Keeps.upd rfl rfl rfl rfl rfl rfl rfl rfl ?_) | exact wakeful_serving | exact wakeful_draining | exact wakeful_unformed | exact wakeful_idle | exact wakeful_ite | dsimp +zetaDelta only)

theorem lockedPut_keeps {d : Fin 4 → Int} {s t : State} {load : Word → State → State} (cur v mask : Word) (no : Bool) (addr : BitVec 22)
    (hf : ∀ m t, Keeps d s t → Keeps d s (load m t)) (hi : Keeps d s t) : Keeps d s (lockedPut t cur v mask no addr load) := by
  unfold lockedPut
  exact rejectIf_keeps _ _ (hf _ _ hi)

theorem pwrCtlPut_keeps {d : Fin 4 → Int} {s t : State} (v : Word) (addr : BitVec 22) (hi : Keeps d s t) : Keeps d s (pwrCtlPut t v addr) := by
  unfold pwrCtlPut
  try extract_lets
  iterate 14 (all_goals first | assumption | with_reducible apply rejectIf_keeps | with_reducible apply ite_keeps | (intro _) | split | (refine Keeps.upd rfl rfl rfl rfl rfl rfl rfl rfl ?_) | exact wakeful_serving | exact wakeful_draining | exact wakeful_unformed | exact wakeful_idle | exact wakeful_ite | dsimp +zetaDelta only)

theorem furnPut_keeps {d : Fin 4 → Int} {s t : State} (addr : BitVec 22) (f : FurnUnit → FurnUnit) (hi : Keeps d s t) : Keeps d s (furnPut t addr f) := by
  unfold furnPut
  try extract_lets
  iterate 14 (all_goals first | assumption | with_reducible apply rejectWrite_keeps | with_reducible apply ite_keeps | (intro _) | split | (refine Keeps.upd rfl rfl rfl rfl rfl rfl rfl rfl ?_) | exact wakeful_serving | exact wakeful_draining | exact wakeful_unformed | exact wakeful_idle | exact wakeful_ite | dsimp +zetaDelta only)

theorem aoCalPut_keeps {d : Fin 4 → Int} {s t : State} (v : Word) (addr : BitVec 22) (hi : Keeps d s t) : Keeps d s (aoCalPut t v addr) := by
  unfold aoCalPut
  try extract_lets
  iterate 14 (all_goals first | assumption | with_reducible apply aoReject_keeps | with_reducible apply ite_keeps | (intro _) | split | (refine Keeps.upd rfl rfl rfl rfl rfl rfl rfl rfl ?_) | exact wakeful_serving | exact wakeful_draining | exact wakeful_unformed | exact wakeful_idle | exact wakeful_ite | dsimp +zetaDelta only)

theorem sbAddrPut_keeps {d : Fin 4 → Int} {s t : State} (form : Form) (v : Word) (addr : BitVec 22) (hi : Keeps d s t) : Keeps d s (sbAddrPut t form v addr) := by
  unfold sbAddrPut
  try extract_lets
  iterate 14 (all_goals first | assumption | with_reducible apply aoReject_keeps | with_reducible apply ite_keeps | (intro _) | split | (refine Keeps.upd rfl rfl rfl rfl rfl rfl rfl rfl ?_) | exact wakeful_serving | exact wakeful_draining | exact wakeful_unformed | exact wakeful_idle | exact wakeful_ite | dsimp +zetaDelta only)

theorem jnlPlacePut_keeps {d : Fin 4 → Int} {s t : State} (base : BitVec 25) (log2 : BitVec 6) (addr : BitVec 22) (hi : Keeps d s t) : Keeps d s (jnlPlacePut t base log2 addr) := by
  unfold jnlPlacePut
  try extract_lets
  iterate 14 (all_goals first | assumption | with_reducible apply rejectWrite_keeps | with_reducible apply ite_keeps | (intro _) | split | (refine Keeps.upd rfl rfl rfl rfl rfl rfl rfl rfl ?_) | exact wakeful_serving | exact wakeful_draining | exact wakeful_unformed | exact wakeful_idle | exact wakeful_ite | dsimp +zetaDelta only)

theorem jnlHeadPut_keeps {d : Fin 4 → Int} {s t : State} (v : Word) (hi : Keeps d s t) : Keeps d s (jnlHeadPut t v) := by
  unfold jnlHeadPut
  try extract_lets
  iterate 14 (all_goals first | assumption | with_reducible apply ite_keeps | (intro _) | split | (refine Keeps.upd rfl rfl rfl rfl rfl rfl rfl rfl ?_) | exact wakeful_serving | exact wakeful_draining | exact wakeful_unformed | exact wakeful_idle | exact wakeful_ite | dsimp +zetaDelta only)

theorem cntPut_keeps {d : Fin 4 → Int} {s t : State} (i : Nat) (v : Word) (hi : Keeps d s t) : Keeps d s (cntPut t i v) := by
  unfold cntPut
  try extract_lets
  iterate 14 (all_goals first | assumption | (with_reducible refine Keeps.inner ?_ (noise_inner (hi := Inner.refl _) ..)) | (with_reducible refine Keeps.inner ?_ (stranger_inner (hi := Inner.refl _) ..)) | (with_reducible refine Keeps.inner ?_ (eoiStray_inner (hi := Inner.refl _) ..)) | with_reducible apply ite_keeps | (intro _) | split | (refine Keeps.upd rfl rfl rfl rfl rfl rfl rfl rfl ?_) | exact wakeful_serving | exact wakeful_draining | exact wakeful_unformed | exact wakeful_idle | exact wakeful_ite | dsimp +zetaDelta only)

theorem scClear_keeps {d : Fin 4 → Int} {s t : State} (r : ScReg) (w : Word) (hi : Keeps d s t) : Keeps d s (scClear t r w) := by
  unfold scClear
  try extract_lets
  iterate 14 (all_goals first | assumption | with_reducible apply pollSum_keeps | (with_reducible refine Keeps.inner ?_ (eaPut_inner (hi := Inner.refl _) ..)) | (with_reducible refine Keeps.inner ?_ (tnPut_inner (hi := Inner.refl _) ..)) | (with_reducible refine Keeps.inner ?_ (dcPut_inner (hi := Inner.refl _) ..)) | with_reducible apply ite_keeps | (intro _) | split | (refine Keeps.upd rfl rfl rfl rfl rfl rfl rfl rfl ?_) | exact wakeful_serving | exact wakeful_draining | exact wakeful_unformed | exact wakeful_idle | exact wakeful_ite | dsimp +zetaDelta only)

theorem seqClear_keeps {d : Fin 4 → Int} {s t : State} (p : Port) (r : ScReg) (w : Word) (hi : Keeps d s t) : Keeps d s (seqClear t p r w) := by
  unfold seqClear
  try extract_lets
  iterate 14 (all_goals first | assumption | with_reducible apply scClear_keeps | with_reducible apply partyWrite_keeps | with_reducible apply portWrite_keeps | with_reducible apply ite_keeps | (intro _) | split | (refine Keeps.upd rfl rfl rfl rfl rfl rfl rfl rfl ?_) | exact wakeful_serving | exact wakeful_draining | exact wakeful_unformed | exact wakeful_idle | exact wakeful_ite | dsimp +zetaDelta only)

theorem furnCmdPut_keeps {d : Fin 4 → Int} {s t : State} (w : Word) (hi : Keeps d s t) : Keeps d s (furnCmdPut t w) := by
  unfold furnCmdPut
  try extract_lets
  iterate 24 (all_goals first | assumption | with_reducible apply abandon_keeps | with_reducible apply opStart_keeps | with_reducible apply furnCmd_keeps | with_reducible apply ite_keeps | (intro _) | split | (refine Keeps.upd rfl rfl rfl rfl rfl rfl rfl rfl ?_) | exact wakeful_serving | exact wakeful_draining | exact wakeful_unformed | exact wakeful_idle | exact wakeful_ite | dsimp +zetaDelta only)

theorem eaCmdPut_keeps {d : Fin 4 → Int} {s t : State} (p : Port) (u : EaId) (w : Word) (hi : Keeps d s t) : Keeps d s (eaCmdPut p u w t) := by
  unfold eaCmdPut
  try extract_lets
  iterate 14 (all_goals first | assumption | with_reducible apply eaFence_keeps | with_reducible apply eaApply_keeps | with_reducible apply eaRead_keeps | (with_reducible refine Keeps.inner ?_ (eaRelease_inner (hi := Inner.refl _) ..)) | (with_reducible refine Keeps.inner ?_ (eaStage_inner (hi := Inner.refl _) ..)) | with_reducible apply ite_keeps | (intro _) | split | (refine Keeps.upd rfl rfl rfl rfl rfl rfl rfl rfl ?_) | exact wakeful_serving | exact wakeful_draining | exact wakeful_unformed | exact wakeful_idle | exact wakeful_ite | dsimp +zetaDelta only)

theorem eaLockPut_keeps {d : Fin 4 → Int} {s t : State} (u : EaId) (w : Word) (hi : Keeps d s t) : Keeps d s (eaLockPut u w t) := by
  unfold eaLockPut
  try extract_lets
  iterate 14 (all_goals first | assumption | with_reducible apply acquire_keeps | with_reducible apply ite_keeps | (intro _) | split | (refine Keeps.upd rfl rfl rfl rfl rfl rfl rfl rfl ?_) | exact wakeful_serving | exact wakeful_draining | exact wakeful_unformed | exact wakeful_idle | exact wakeful_ite | dsimp +zetaDelta only)

theorem dcCmdPut_keeps {d : Fin 4 → Int} {s t : State} (p : Party) (w : Word) (hi : Keeps d s t) : Keeps d s (dcCmdPut p w t) := by
  unfold dcCmdPut
  try extract_lets
  iterate 14 (all_goals first | assumption | with_reducible apply propose_keeps | (with_reducible refine Keeps.inner ?_ (withdraw_inner (hi := Inner.refl _) ..)) | (with_reducible refine Keeps.inner ?_ (veto_inner (hi := Inner.refl _) ..)) | with_reducible apply ite_keeps | (intro _) | split | (refine Keeps.upd rfl rfl rfl rfl rfl rfl rfl rfl ?_) | exact wakeful_serving | exact wakeful_draining | exact wakeful_unformed | exact wakeful_idle | exact wakeful_ite | dsimp +zetaDelta only)

theorem eaDataPut_keeps {d : Fin 4 → Int} {s t : State} (u : EaId) (i : Nat) (v : Word) (hi : Keeps d s t) : Keeps d s (eaDataPut u i v t) := by
  unfold eaDataPut
  try extract_lets
  iterate 14 (all_goals first | assumption | (with_reducible refine Keeps.inner ?_ (eaPut_inner (hi := Inner.refl _) ..)) | with_reducible apply ite_keeps | (intro _) | split | (refine Keeps.upd rfl rfl rfl rfl rfl rfl rfl rfl ?_) | exact wakeful_serving | exact wakeful_draining | exact wakeful_unformed | exact wakeful_idle | exact wakeful_ite | dsimp +zetaDelta only)

theorem aoAct_keeps {d : Fin 4 → Int} {s t : State} (form : Form) (a : Nat) (w : Word) (addr : BitVec 22) (hi : Keeps d s t) : Keeps d s (aoAct t form a w addr) := by
  unfold aoAct
  try extract_lets
  iterate 14 (all_goals first | assumption | with_reducible apply sbAddrPut_keeps | with_reducible apply aoCalPut_keeps | with_reducible apply resetCmd_keeps | with_reducible apply modeReqPut_keeps | with_reducible apply ite_keeps | (intro _) | split | (refine Keeps.upd rfl rfl rfl rfl rfl rfl rfl rfl ?_) | exact wakeful_serving | exact wakeful_draining | exact wakeful_unformed | exact wakeful_idle | exact wakeful_ite | dsimp +zetaDelta only)

theorem aoPut_keeps {d : Fin 4 → Int} {s t : State} (form : Form) (a : Nat) (w : Word) (addr : BitVec 22) (hi : Keeps d s t) : Keeps d s (aoPut t form a w addr) := by
  unfold aoPut
  try extract_lets
  iterate 14 (all_goals first | assumption | with_reducible apply aoAct_keeps | with_reducible apply aoHold_keeps | with_reducible apply ite_keeps | (intro _) | split | (refine Keeps.upd rfl rfl rfl rfl rfl rfl rfl rfl ?_) | exact wakeful_serving | exact wakeful_draining | exact wakeful_unformed | exact wakeful_idle | exact wakeful_ite | dsimp +zetaDelta only)

theorem aoHeldAct_keeps {d : Fin 4 → Int} {s t : State}  (hi : Keeps d s t) : Keeps d s (aoHeldAct t) := by
  unfold aoHeldAct
  try extract_lets
  iterate 14 (all_goals first | assumption | with_reducible apply aoAct_keeps | with_reducible refine forEach_keeps (fun _ _ _ => ?_) ?_ | with_reducible apply ite_keeps | (intro _) | split | (refine Keeps.upd rfl rfl rfl rfl rfl rfl rfl rfl ?_) | exact wakeful_serving | exact wakeful_draining | exact wakeful_unformed | exact wakeful_idle | exact wakeful_ite | dsimp +zetaDelta only)

theorem plainPut_keeps {d : Fin 4 → Int} {s t : State} (a : Nat) (w : Word) (hi : Keeps d s t) : Keeps d s (plainPut t a w) := by
  unfold plainPut
  try extract_lets
  iterate 40 (all_goals first | assumption | with_reducible apply dcCmdPut_keeps | with_reducible apply eaLockPut_keeps | with_reducible apply eaCmdPut_keeps | with_reducible apply scClear_keeps | with_reducible apply inject_keeps | with_reducible apply approve_keeps | (with_reducible refine Keeps.inner ?_ (dcPut_inner (hi := Inner.refl _) ..)) | with_reducible apply ite_keeps | (intro _) | split | (refine Keeps.upd rfl rfl rfl rfl rfl rfl rfl rfl ?_) | exact wakeful_serving | exact wakeful_draining | exact wakeful_unformed | exact wakeful_idle | exact wakeful_ite | dsimp +zetaDelta only)

theorem lowPut_keeps {d : Fin 4 → Int} {s t : State} (a : Nat) (v : Word) (addr : BitVec 22) (hi : Keeps d s t) : Keeps d s (lowPut t a v addr) := by
  unfold lowPut
  try extract_lets
  iterate 60 (all_goals first | assumption | with_reducible apply eaDataPut_keeps | with_reducible apply furnPut_keeps | with_reducible apply aperturePut_keeps | with_reducible apply ctlPut_keeps | (with_reducible refine Keeps.inner ?_ (eaPut_inner (hi := Inner.refl _) ..)) | with_reducible apply ite_keeps | (intro _) | split | (refine Keeps.upd rfl rfl rfl rfl rfl rfl rfl rfl ?_) | exact wakeful_serving | exact wakeful_draining | exact wakeful_unformed | exact wakeful_idle | exact wakeful_ite | dsimp +zetaDelta only)

theorem highPut_keeps {d : Fin 4 → Int} {s t : State} (a : Nat) (v : Word) (addr : BitVec 22) (hi : Keeps d s t) : Keeps d s (highPut t a v addr) := by
  unfold highPut
  try extract_lets
  iterate 60 (all_goals first | assumption | with_reducible apply cntPut_keeps | with_reducible apply jnlHeadPut_keeps | with_reducible apply jnlPlacePut_keeps | with_reducible apply pwrCtlPut_keeps | with_reducible apply lockedPut_keeps | with_reducible apply arbPut_keeps | with_reducible apply ite_keeps | (intro _) | split | (refine Keeps.upd rfl rfl rfl rfl rfl rfl rfl rfl ?_) | exact wakeful_serving | exact wakeful_draining | exact wakeful_unformed | exact wakeful_idle | exact wakeful_ite | dsimp +zetaDelta only)

theorem lockPut_keeps {d : Fin 4 → Int} {s t : State} (form : Form) (w : Word) (hi : Keeps d s t) : Keeps d s (lockPut t form w) := by
  unfold lockPut
  cases form with
  | plain => exact Keeps.lockOr hi
  | set => exact Keeps.lockOr hi
  | clear => exact hi
  | toggle => exact hi

theorem ctlWindowPut_keeps {d : Fin 4 → Int} {s t : State} (form : Form) (a : Nat) (w : Word) (addr : BitVec 22) (hi : Keeps d s t) : Keeps d s (ctlWindowPut t form a w addr) := by
  unfold ctlWindowPut
  try extract_lets
  iterate 30 (all_goals first | assumption | with_reducible apply lockPut_keeps | with_reducible apply highPut_keeps | with_reducible apply lowPut_keeps | with_reducible apply plainPut_keeps | with_reducible apply aperCtlPut_keeps | (with_reducible refine Keeps.inner ?_ (stageWrite_inner (hi := Inner.refl _) ..)) | with_reducible apply ite_keeps | (intro _) | split | (refine Keeps.upd rfl rfl rfl rfl rfl rfl rfl rfl ?_) | exact wakeful_serving | exact wakeful_draining | exact wakeful_unformed | exact wakeful_idle | exact wakeful_ite | dsimp +zetaDelta only)

theorem safePut_keeps {d : Fin 4 → Int} {s t : State} (form : Form) (a : Nat) (w : Word) (addr : BitVec 22) (hi : Keeps d s t) : Keeps d s (safePut t form a w addr) := by
  unfold safePut
  try extract_lets
  iterate 14 (all_goals first | assumption | with_reducible apply highPut_keeps | with_reducible apply lowPut_keeps | with_reducible apply aperCtlPut_keeps | with_reducible apply ite_keeps | (intro _) | split | (refine Keeps.upd rfl rfl rfl rfl rfl rfl rfl rfl ?_) | exact wakeful_serving | exact wakeful_draining | exact wakeful_unformed | exact wakeful_idle | exact wakeful_ite | dsimp +zetaDelta only)

theorem classMWrite_keeps {d : Fin 4 → Int} {s t : State} (form : Form) (a : Nat) (w : Word) (addr : BitVec 22) (hi : Keeps d s t) : Keeps d s (classMWrite t form a w addr) := by
  unfold classMWrite
  try extract_lets
  iterate 14 (all_goals first | assumption | with_reducible apply safePut_keeps | with_reducible apply ctlWindowPut_keeps | with_reducible apply aoPut_keeps | with_reducible apply furnCmdPut_keeps | with_reducible apply portWrite_keeps | with_reducible apply ite_keeps | (intro _) | split | (refine Keeps.upd rfl rfl rfl rfl rfl rfl rfl rfl ?_) | exact wakeful_serving | exact wakeful_draining | exact wakeful_unformed | exact wakeful_idle | exact wakeful_ite | dsimp +zetaDelta only)

theorem windowPut_keeps {d : Fin 4 → Int} {s t₁ : State} (p : Port) (t : BitVec 12) (off : Nat) (w : Word) (hi : Keeps d s t₁) : Keeps d s (windowPut p t off w t₁) := by
  unfold windowPut
  try extract_lets
  iterate 14 (all_goals first | assumption | with_reducible apply eaDataPut_keeps | with_reducible apply eaLockPut_keeps | with_reducible apply eaCmdPut_keeps | with_reducible apply scClear_keeps | (with_reducible refine Keeps.inner ?_ (eaPut_inner (hi := Inner.refl _) ..)) | with_reducible apply ite_keeps | (intro _) | split | (refine Keeps.upd rfl rfl rfl rfl rfl rfl rfl rfl ?_) | exact wakeful_serving | exact wakeful_draining | exact wakeful_unformed | exact wakeful_idle | exact wakeful_ite | dsimp +zetaDelta only)

theorem targetPut_keeps {d : Fin 4 → Int} {s u : State} (p : Port) (t : BitVec 16) (off : Nat) (w : Word) (hi : Keeps d s u) :
    Keeps d s (targetPut u p t off w) := by
  unfold targetPut
  refine ite_keeps (queuedWrite_keeps _ _ _ _ hi) (ite_keeps (queuedWrite_keeps _ _ _ _ hi) (ite_keeps (queuedWrite_keeps _ _ _ _ hi)
    (ite_keeps (queuedWrite_keeps _ _ _ _ hi) (portWrite_keeps _ _ _ (fun x h => ?_) hi))))
  exact ite_keeps (Keeps.inner h (applyCprio_inner (hi := Inner.refl _) ..)) h

theorem registerWrite_keeps {d : Fin 4 → Int} {s t : State} (p : Port) (addr : BitVec 22) (w : Word) (hi : Keeps d s t) :
    Keeps d s (registerWrite t p addr w) := by
  have hn : Keeps d s (portWrite t p false addr id) := portWrite_keeps _ _ _ (fun _ h => h) hi
  unfold registerWrite
  dsimp only
  refine ite_keeps (targetPut_keeps _ _ _ _ hi) (ite_keeps (portWrite_keeps _ _ _ (fun x h => windowPut_keeps _ _ _ _ h) hi) ?_)
  split
  · exact classMWrite_keeps _ _ _ _ hi
  · exact hn

theorem securityWrite_keeps {d : Fin 4 → Int} {s t : State} (a : Nat) (w : Word) (hi : Keeps d s t) : Keeps d s (securityWrite t a w) := by
  unfold securityWrite
  try extract_lets
  iterate 30 (all_goals first | assumption | with_reducible apply dcCmdPut_keeps | with_reducible apply scClear_keeps | with_reducible apply resetCmd_keeps | with_reducible apply partyWrite_keeps | with_reducible apply approve_keeps | (with_reducible refine Keeps.inner ?_ (dcPut_inner (hi := Inner.refl _) ..)) | (with_reducible refine Keeps.inner ?_ (stageWrite_inner (hi := Inner.refl _) ..)) | (with_reducible refine Keeps.inner ?_ (veto_inner (hi := Inner.refl _) ..)) | with_reducible apply ite_keeps | (intro _) | split | (refine Keeps.upd rfl rfl rfl rfl rfl rfl rfl rfl ?_) | exact wakeful_serving | exact wakeful_draining | exact wakeful_unformed | exact wakeful_idle | exact wakeful_ite | dsimp +zetaDelta only)

theorem regWrite_keeps {d : Fin 4 → Int} {s t : State} (p : Port) (addr : BitVec 22) (w : Word) (hi : Keeps d s t) : Keeps d s (regWrite t p addr w) := by
  unfold regWrite
  try extract_lets
  iterate 14 (all_goals first | assumption | with_reducible apply securityWrite_keeps | with_reducible apply registerWrite_keeps | with_reducible apply doneUnlessHeld_keeps | with_reducible apply deniedWrite_keeps | with_reducible apply portDone_keeps | with_reducible apply portAnswer_keeps | with_reducible apply ite_keeps | (intro _) | split | (refine Keeps.upd rfl rfl rfl rfl rfl rfl rfl rfl ?_) | exact wakeful_serving | exact wakeful_draining | exact wakeful_unformed | exact wakeful_idle | exact wakeful_ite | dsimp +zetaDelta only)

theorem ctlBit_keeps {d : Fin 4 → Int} {s t : State} (mask : Word) (on : Bool) (hi : Keeps d s t) : Keeps d s (ctlBit t mask on) := by
  unfold ctlBit
  try extract_lets
  iterate 14 (all_goals first | assumption | with_reducible apply ctlPut_keeps | with_reducible apply portWrite_keeps | with_reducible apply ite_keeps | (intro _) | split | (refine Keeps.upd rfl rfl rfl rfl rfl rfl rfl rfl ?_) | exact wakeful_serving | exact wakeful_draining | exact wakeful_unformed | exact wakeful_idle | exact wakeful_ite | dsimp +zetaDelta only)

theorem freezeBit_keeps {d : Fin 4 → Int} {s t : State} (on : Bool) (hi : Keeps d s t) : Keeps d s (freezeBit t on) := by
  unfold freezeBit
  try extract_lets
  iterate 14 (all_goals first | assumption | with_reducible apply arbPut_keeps | with_reducible apply portWrite_keeps | with_reducible apply ite_keeps | (intro _) | split | (refine Keeps.upd rfl rfl rfl rfl rfl rfl rfl rfl ?_) | exact wakeful_serving | exact wakeful_draining | exact wakeful_unformed | exact wakeful_idle | exact wakeful_ite | dsimp +zetaDelta only)

theorem execHoldoffWindowEnd_keeps (g : BitVec 12) (s : State) : ∃ x, execHoldoffWindowEnd g s = .next x ∧ Keeps noGain s x := by
  have hi := Keeps.refl s
  unfold execHoldoffWindowEnd
  try extract_lets
  refine ⟨_, rfl, ?_⟩
  iterate 14 (all_goals first | assumption | with_reducible apply holdoffEnd_keeps | with_reducible apply ite_keeps | (intro _) | split | (refine Keeps.upd rfl rfl rfl rfl rfl rfl rfl rfl ?_) | dsimp +zetaDelta only)

theorem execCouchTimeLimit_keeps (g : BitVec 12) (s : State) : ∃ x, execCouchTimeLimit g s = .next x ∧ Keeps noGain s x := by
  have hi := Keeps.refl s
  unfold execCouchTimeLimit
  try extract_lets
  refine ⟨_, rfl, ?_⟩
  iterate 14 (all_goals first | assumption | with_reducible apply timeLimit_keeps | with_reducible apply ite_keeps | (intro _) | split | (refine Keeps.upd rfl rfl rfl rfl rfl rfl rfl rfl ?_) | dsimp +zetaDelta only)

theorem execRankingRound_keeps (h : BitVec 24) (check : PlaneCheck) (s : State) : ∃ x, execRankingRound h check s = .next x ∧ Keeps noGain s x := by
  have hi := Keeps.refl s
  unfold execRankingRound
  try extract_lets
  refine ⟨_, rfl, ?_⟩
  iterate 14 (all_goals first | assumption | with_reducible apply rankRound_keeps | with_reducible apply ite_keeps | (intro _) | split | (refine Keeps.upd rfl rfl rfl rfl rfl rfl rfl rfl ?_) | dsimp +zetaDelta only)

theorem execSelfTest_keeps (aPass : Bool) (bPass : Bool) (thirdAgrees : Bool) (s : State) : ∃ x, execSelfTest aPass bPass thirdAgrees s = .next x ∧ Keeps noGain s x := by
  have hi := Keeps.refl s
  unfold execSelfTest
  try extract_lets
  refine ⟨_, rfl, ?_⟩
  iterate 14 (all_goals first | assumption | with_reducible apply selfTestEnd_keeps | with_reducible apply ite_keeps | (intro _) | split | (refine Keeps.upd rfl rfl rfl rfl rfl rfl rfl rfl ?_) | dsimp +zetaDelta only)

theorem execMemoryWriteBeat_keeps (lane : Fin 4) (beat : Beat) (s : State) : ∃ x, execMemoryWriteBeat lane beat s = .next x ∧ Keeps noGain s x := by
  have hi := Keeps.refl s
  unfold execMemoryWriteBeat
  try extract_lets
  refine ⟨_, rfl, ?_⟩
  iterate 14 (all_goals first | assumption | with_reducible apply present_keeps | with_reducible apply ite_keeps | (intro _) | split | (refine Keeps.upd rfl rfl rfl rfl rfl rfl rfl rfl ?_) | dsimp +zetaDelta only)

theorem execAssertIntx_keeps (lane : Fin 4) (beat : Beat) (s : State) : ∃ x, execAssertIntx lane beat s = .next x ∧ Keeps noGain s x := by
  have hi := Keeps.refl s
  unfold execAssertIntx
  try extract_lets
  refine ⟨_, rfl, ?_⟩
  iterate 14 (all_goals first | assumption | with_reducible apply present_keeps | with_reducible apply ite_keeps | (intro _) | split | (refine Keeps.upd rfl rfl rfl rfl rfl rfl rfl rfl ?_) | dsimp +zetaDelta only)

theorem execDeassertIntx_keeps (lane : Fin 4) (beat : Beat) (s : State) : ∃ x, execDeassertIntx lane beat s = .next x ∧ Keeps noGain s x := by
  have hi := Keeps.refl s
  unfold execDeassertIntx
  try extract_lets
  refine ⟨_, rfl, ?_⟩
  iterate 14 (all_goals first | assumption | with_reducible apply present_keeps | with_reducible apply ite_keeps | (intro _) | split | (refine Keeps.upd rfl rfl rfl rfl rfl rfl rfl rfl ?_) | dsimp +zetaDelta only)

theorem execRouse_keeps (lane : Fin 4) (beat : Beat) (s : State) : ∃ x, execRouse lane beat s = .next x ∧ Keeps noGain s x := by
  have hi := Keeps.refl s
  unfold execRouse
  try extract_lets
  refine ⟨_, rfl, ?_⟩
  iterate 14 (all_goals first | assumption | with_reducible apply present_keeps | with_reducible apply ite_keeps | (intro _) | split | (refine Keeps.upd rfl rfl rfl rfl rfl rfl rfl rfl ?_) | dsimp +zetaDelta only)

theorem execWakeBeat_keeps (_lane : Fin 4) (s : State) : ∃ x, execWakeBeat _lane s = .next x ∧ Keeps noGain s x := by
  have hi := Keeps.refl s
  unfold execWakeBeat
  try extract_lets
  refine ⟨_, rfl, ?_⟩
  iterate 14 (all_goals first | assumption | with_reducible apply wakeBeat_keeps | with_reducible apply ite_keeps | (intro _) | split | (refine Keeps.upd rfl rfl rfl rfl rfl rfl rfl rfl ?_) | dsimp +zetaDelta only)

theorem execQuarAck_keeps  (s : State) : ∃ x, execQuarAck s = .next x ∧ Keeps noGain s x := by
  have hi := Keeps.refl s
  unfold execQuarAck
  try extract_lets
  refine ⟨_, rfl, ?_⟩
  iterate 14 (all_goals first | assumption | with_reducible apply ite_keeps | (intro _) | split | (refine Keeps.upd rfl rfl rfl rfl rfl rfl rfl rfl ?_) | dsimp +zetaDelta only)

theorem execStrangerWindowEnd_keeps  (s : State) : ∃ x, execStrangerWindowEnd s = .next x ∧ Keeps noGain s x := by
  have hi := Keeps.refl s
  unfold execStrangerWindowEnd
  try extract_lets
  refine ⟨_, rfl, ?_⟩
  iterate 14 (all_goals first | assumption | with_reducible apply strangerTick_keeps | with_reducible apply ite_keeps | (intro _) | split | (refine Keeps.upd rfl rfl rfl rfl rfl rfl rfl rfl ?_) | dsimp +zetaDelta only)

theorem execArbiterRound_keeps  (s : State) : ∃ x, execArbiterRound s = .next x ∧ Keeps noGain s x := by
  have hi := Keeps.refl s
  unfold execArbiterRound
  try extract_lets
  refine ⟨_, rfl, ?_⟩
  iterate 14 (all_goals first | assumption | (with_reducible refine Keeps.inner ?_ (arbiterStep_inner (hi := Inner.refl _) ..)) | with_reducible apply ite_keeps | (intro _) | split | (refine Keeps.upd rfl rfl rfl rfl rfl rfl rfl rfl ?_) | dsimp +zetaDelta only)

theorem execEgressAccept_keeps (tag : BitVec 8) (s : State) : ∃ x, execEgressAccept tag s = .next x ∧ Keeps noGain s x := by
  have hi := Keeps.refl s
  unfold execEgressAccept
  try extract_lets
  refine ⟨_, rfl, ?_⟩
  iterate 14 (all_goals first | assumption | with_reducible apply egressOutcome_keeps | with_reducible apply accepted_keeps | with_reducible apply ite_keeps | (intro _) | split | (refine Keeps.upd rfl rfl rfl rfl rfl rfl rfl rfl ?_) | dsimp +zetaDelta only)

theorem execEgressReject_keeps (tag : BitVec 8) (s : State) : ∃ x, execEgressReject tag s = .next x ∧ Keeps noGain s x := by
  have hi := Keeps.refl s
  unfold execEgressReject
  try extract_lets
  refine ⟨_, rfl, ?_⟩
  iterate 14 (all_goals first | assumption | with_reducible apply egressOutcome_keeps | with_reducible apply refused_keeps | with_reducible apply ite_keeps | (intro _) | split | (refine Keeps.upd rfl rfl rfl rfl rfl rfl rfl rfl ?_) | dsimp +zetaDelta only)

theorem execBatchTimeout_keeps (target : BitVec 16) (s : State) : ∃ x, execBatchTimeout target s = .next x ∧ Keeps noGain s x := by
  have hi := Keeps.refl s
  unfold execBatchTimeout
  try extract_lets
  refine ⟨_, rfl, ?_⟩
  iterate 14 (all_goals first | assumption | with_reducible apply engineSettle_keeps | (with_reducible refine Keeps.inner ?_ (settleAll_inner (hi := Inner.refl _) ..)) | (with_reducible refine Keeps.inner ?_ (batchEnd_inner (hi := Inner.refl _) ..)) | with_reducible apply ite_keeps | (intro _) | split | (refine Keeps.upd rfl rfl rfl rfl rfl rfl rfl rfl ?_) | dsimp +zetaDelta only)

theorem execWatchdogExpiry_keeps (target : BitVec 16) (s : State) : ∃ x, execWatchdogExpiry target s = .next x ∧ Keeps noGain s x := by
  have hi := Keeps.refl s
  unfold execWatchdogExpiry
  try extract_lets
  refine ⟨_, rfl, ?_⟩
  iterate 14 (all_goals first | assumption | with_reducible apply activity_keeps | (with_reducible refine Keeps.inner ?_ (wdogExpire_inner (hi := Inner.refl _) ..)) | with_reducible apply ite_keeps | (intro _) | split | (refine Keeps.upd rfl rfl rfl rfl rfl rfl rfl rfl ?_) | dsimp +zetaDelta only)

theorem execAcquire_keeps (port : Port) (u : EaId) (lease : BitVec 16) (s : State) : ∃ x, execAcquire port u lease s = .next x ∧ Keeps noGain s x := by
  have hi := Keeps.refl s
  unfold execAcquire
  try extract_lets
  refine ⟨_, rfl, ?_⟩
  iterate 14 (all_goals first | assumption | with_reducible apply unitWrite_keeps | with_reducible apply acquire_keeps | with_reducible apply writeAt_keeps | with_reducible apply ite_keeps | (intro _) | split | (refine Keeps.upd rfl rfl rfl rfl rfl rfl rfl rfl ?_) | dsimp +zetaDelta only)

theorem execRead_keeps (port : Port) (u : EaId) (s : State) : ∃ x, execRead port u s = .next x ∧ Keeps noGain s x := by
  have hi := Keeps.refl s
  unfold execRead
  try extract_lets
  refine ⟨_, rfl, ?_⟩
  iterate 14 (all_goals first | assumption | with_reducible apply unitWrite_keeps | with_reducible apply eaRead_keeps | with_reducible apply writeAt_keeps | with_reducible apply ite_keeps | (intro _) | split | (refine Keeps.upd rfl rfl rfl rfl rfl rfl rfl rfl ?_) | dsimp +zetaDelta only)

theorem execStage_keeps (port : Port) (u : EaId) (s : State) : ∃ x, execStage port u s = .next x ∧ Keeps noGain s x := by
  have hi := Keeps.refl s
  unfold execStage
  try extract_lets
  refine ⟨_, rfl, ?_⟩
  iterate 14 (all_goals first | assumption | with_reducible apply unitWrite_keeps | with_reducible apply writeAt_keeps | (with_reducible refine Keeps.inner ?_ (eaStage_inner (hi := Inner.refl _) ..)) | with_reducible apply ite_keeps | (intro _) | split | (refine Keeps.upd rfl rfl rfl rfl rfl rfl rfl rfl ?_) | dsimp +zetaDelta only)

theorem execApply_keeps (port : Port) (u : EaId) (s : State) : ∃ x, execApply port u s = .next x ∧ Keeps noGain s x := by
  have hi := Keeps.refl s
  unfold execApply
  try extract_lets
  refine ⟨_, rfl, ?_⟩
  iterate 14 (all_goals first | assumption | with_reducible apply unitWrite_keeps | with_reducible apply eaApply_keeps | with_reducible apply writeAt_keeps | with_reducible apply ite_keeps | (intro _) | split | (refine Keeps.upd rfl rfl rfl rfl rfl rfl rfl rfl ?_) | dsimp +zetaDelta only)

theorem execRelease_keeps (port : Port) (u : EaId) (s : State) : ∃ x, execRelease port u s = .next x ∧ Keeps noGain s x := by
  have hi := Keeps.refl s
  unfold execRelease
  try extract_lets
  refine ⟨_, rfl, ?_⟩
  iterate 14 (all_goals first | assumption | with_reducible apply unitWrite_keeps | with_reducible apply writeAt_keeps | (with_reducible refine Keeps.inner ?_ (eaRelease_inner (hi := Inner.refl _) ..)) | with_reducible apply ite_keeps | (intro _) | split | (refine Keeps.upd rfl rfl rfl rfl rfl rfl rfl rfl ?_) | dsimp +zetaDelta only)

theorem execFence_keeps (port : Port) (u : EaId) (s : State) : ∃ x, execFence port u s = .next x ∧ Keeps noGain s x := by
  have hi := Keeps.refl s
  unfold execFence
  try extract_lets
  refine ⟨_, rfl, ?_⟩
  iterate 14 (all_goals first | assumption | with_reducible apply unitWrite_keeps | with_reducible apply eaFence_keeps | with_reducible apply writeAt_keeps | with_reducible apply ite_keeps | (intro _) | split | (refine Keeps.upd rfl rfl rfl rfl rfl rfl rfl rfl ?_) | dsimp +zetaDelta only)

theorem execLeaseExpiry_keeps (timer : Fin 64) (s : State) : ∃ x, execLeaseExpiry timer s = .next x ∧ Keeps noGain s x := by
  have hi := Keeps.refl s
  unfold execLeaseExpiry
  try extract_lets
  refine ⟨_, rfl, ?_⟩
  iterate 14 (all_goals first | assumption | with_reducible apply activity_keeps | (with_reducible refine Keeps.inner ?_ (lockBreak_inner (hi := Inner.refl _) ..)) | with_reducible apply ite_keeps | (intro _) | split | (refine Keeps.upd rfl rfl rfl rfl rfl rfl rfl rfl ?_) | dsimp +zetaDelta only)

theorem execTEoi_keeps (port : Port) (target : BitVec 16) (wdata : Word) (s : State) : ∃ x, execTEoi port target wdata s = .next x ∧ Keeps noGain s x := by
  have hi := Keeps.refl s
  unfold execTEoi
  try extract_lets
  refine ⟨_, rfl, ?_⟩
  iterate 14 (all_goals first | assumption | with_reducible apply queuedAt_keeps | with_reducible apply queuedWrite_keeps | with_reducible apply ite_keeps | (intro _) | split | (refine Keeps.upd rfl rfl rfl rfl rfl rfl rfl rfl ?_) | dsimp +zetaDelta only)

theorem execTHead_keeps (port : Port) (target : BitVec 16) (wdata : Word) (s : State) : ∃ x, execTHead port target wdata s = .next x ∧ Keeps noGain s x := by
  have hi := Keeps.refl s
  unfold execTHead
  try extract_lets
  refine ⟨_, rfl, ?_⟩
  iterate 14 (all_goals first | assumption | with_reducible apply queuedAt_keeps | with_reducible apply queuedWrite_keeps | with_reducible apply ite_keeps | (intro _) | split | (refine Keeps.upd rfl rfl rfl rfl rfl rfl rfl rfl ?_) | dsimp +zetaDelta only)

theorem execTRearm_keeps (port : Port) (target : BitVec 16) (_wdata : Word) (s : State) : ∃ x, execTRearm port target _wdata s = .next x ∧ Keeps noGain s x := by
  have hi := Keeps.refl s
  unfold execTRearm
  try extract_lets
  refine ⟨_, rfl, ?_⟩
  iterate 14 (all_goals first | assumption | with_reducible apply queuedAt_keeps | with_reducible apply queuedWrite_keeps | with_reducible apply ite_keeps | (intro _) | split | (refine Keeps.upd rfl rfl rfl rfl rfl rfl rfl rfl ?_) | dsimp +zetaDelta only)

theorem execTHint_keeps (port : Port) (target : BitVec 16) (wdata : Word) (s : State) : ∃ x, execTHint port target wdata s = .next x ∧ Keeps noGain s x := by
  have hi := Keeps.refl s
  unfold execTHint
  try extract_lets
  refine ⟨_, rfl, ?_⟩
  iterate 14 (all_goals first | assumption | with_reducible apply queuedAt_keeps | with_reducible apply queuedWrite_keeps | with_reducible apply ite_keeps | (intro _) | split | (refine Keeps.upd rfl rfl rfl rfl rfl rfl rfl rfl ?_) | dsimp +zetaDelta only)

theorem execTCprio_keeps (port : Port) (target : BitVec 16) (wdata : Word) (s : State) : ∃ x, execTCprio port target wdata s = .next x ∧ Keeps noGain s x := by
  have hi := Keeps.refl s
  unfold execTCprio
  try extract_lets
  refine ⟨_, rfl, ?_⟩
  iterate 14 (all_goals first | assumption | with_reducible apply portWrite_keeps | with_reducible apply writeAt_keeps | (with_reducible refine Keeps.inner ?_ (applyCprio_inner (hi := Inner.refl _) ..)) | with_reducible apply ite_keeps | (intro _) | split | (refine Keeps.upd rfl rfl rfl rfl rfl rfl rfl rfl ?_) | dsimp +zetaDelta only)

theorem execAmaskLoRead_keeps (port : Port) (target : BitVec 16) (s : State) : ∃ x, execAmaskLoRead port target s = .next x ∧ Keeps noGain s x := by
  have hi := Keeps.refl s
  unfold execAmaskLoRead
  try extract_lets
  refine ⟨_, rfl, ?_⟩
  iterate 14 (all_goals first | assumption | with_reducible apply amaskRead_keeps | with_reducible apply portServe_keeps | with_reducible apply ite_keeps | (intro _) | split | (refine Keeps.upd rfl rfl rfl rfl rfl rfl rfl rfl ?_) | dsimp +zetaDelta only)

theorem execCreditRefill_keeps  (s : State) : ∃ x, execCreditRefill s = .next x ∧ Keeps noGain s x := by
  have hi := Keeps.refl s
  unfold execCreditRefill
  try extract_lets
  refine ⟨_, rfl, ?_⟩
  iterate 14 (all_goals first | assumption | with_reducible apply stirring_keeps | with_reducible apply creditTick_keeps | with_reducible apply ite_keeps | (intro _) | split | (refine Keeps.upd rfl rfl rfl rfl rfl rfl rfl rfl ?_) | dsimp +zetaDelta only)

theorem execDeadlineArrival_keeps (h : BitVec 24) (s : State) : ∃ x, execDeadlineArrival h s = .next x ∧ Keeps noGain s x := by
  have hi := Keeps.refl s
  unfold execDeadlineArrival
  try extract_lets
  refine ⟨_, rfl, ?_⟩
  iterate 14 (all_goals first | assumption | with_reducible apply activity_keeps | with_reducible apply deadlineAct_keeps | with_reducible apply ite_keeps | (intro _) | split | (refine Keeps.upd rfl rfl rfl rfl rfl rfl rfl rfl ?_) | dsimp +zetaDelta only)

theorem execSweep_keeps  (s : State) : ∃ x, execSweep s = .next x ∧ Keeps noGain s x := by
  have hi := Keeps.refl s
  unfold execSweep
  try extract_lets
  refine ⟨_, rfl, ?_⟩
  iterate 14 (all_goals first | assumption | with_reducible apply sweepTick_keeps | with_reducible apply ite_keeps | (intro _) | split | (refine Keeps.upd rfl rfl rfl rfl rfl rfl rfl rfl ?_) | dsimp +zetaDelta only)

theorem execLinkUp_keeps (host : BitVec 8) (tenant : BitVec 12) (s : State) : ∃ x, execLinkUp host tenant s = .next x ∧ Keeps noGain s x := by
  have hi := Keeps.refl s
  unfold execLinkUp
  try extract_lets
  refine ⟨_, rfl, ?_⟩
  iterate 14 (all_goals first | assumption | with_reducible apply hostEvent_keeps | with_reducible apply ite_keeps | (intro _) | split | (refine Keeps.upd rfl rfl rfl rfl rfl rfl rfl rfl ?_) | dsimp +zetaDelta only)

theorem execLinkDown_keeps (host : BitVec 8) (tenant : BitVec 12) (s : State) : ∃ x, execLinkDown host tenant s = .next x ∧ Keeps noGain s x := by
  have hi := Keeps.refl s
  unfold execLinkDown
  try extract_lets
  refine ⟨_, rfl, ?_⟩
  iterate 14 (all_goals first | assumption | with_reducible apply hostEvent_keeps | with_reducible apply ite_keeps | (intro _) | split | (refine Keeps.upd rfl rfl rfl rfl rfl rfl rfl rfl ?_) | dsimp +zetaDelta only)

theorem execLowPower_keeps (host : BitVec 8) (tenant : BitVec 12) (s : State) : ∃ x, execLowPower host tenant s = .next x ∧ Keeps noGain s x := by
  have hi := Keeps.refl s
  unfold execLowPower
  try extract_lets
  refine ⟨_, rfl, ?_⟩
  iterate 14 (all_goals first | assumption | with_reducible apply hostEvent_keeps | with_reducible apply ite_keeps | (intro _) | split | (refine Keeps.upd rfl rfl rfl rfl rfl rfl rfl rfl ?_) | dsimp +zetaDelta only)

theorem execHostReset_keeps (host : BitVec 8) (tenant : BitVec 12) (s : State) : ∃ x, execHostReset host tenant s = .next x ∧ Keeps noGain s x := by
  have hi := Keeps.refl s
  unfold execHostReset
  try extract_lets
  refine ⟨_, rfl, ?_⟩
  iterate 14 (all_goals first | assumption | with_reducible apply hostEvent_keeps | with_reducible apply ite_keeps | (intro _) | split | (refine Keeps.upd rfl rfl rfl rfl rfl rfl rfl rfl ?_) | dsimp +zetaDelta only)

theorem execLoad_keeps  (s : State) : ∃ x, execLoad s = .next x ∧ Keeps noGain s x := by
  have hi := Keeps.refl s
  unfold execLoad
  try extract_lets
  refine ⟨_, rfl, ?_⟩
  iterate 14 (all_goals first | assumption | with_reducible apply opStart_keeps | with_reducible apply furnCmd_keeps | with_reducible apply writeAt_keeps | with_reducible apply ite_keeps | (intro _) | split | (refine Keeps.upd rfl rfl rfl rfl rfl rfl rfl rfl ?_) | dsimp +zetaDelta only)

theorem execReform_keeps (tenant : BitVec 12) (s : State) : ∃ x, execReform tenant s = .next x ∧ Keeps noGain s x := by
  have hi := Keeps.refl s
  unfold execReform
  try extract_lets
  refine ⟨_, rfl, ?_⟩
  iterate 14 (all_goals first | assumption | with_reducible apply opStart_keeps | with_reducible apply furnCmd_keeps | with_reducible apply writeAt_keeps | with_reducible apply ite_keeps | (intro _) | split | (refine Keeps.upd rfl rfl rfl rfl rfl rfl rfl rfl ?_) | dsimp +zetaDelta only)

theorem execAbandon_keeps  (s : State) : ∃ x, execAbandon s = .next x ∧ Keeps noGain s x := by
  have hi := Keeps.refl s
  unfold execAbandon
  try extract_lets
  refine ⟨_, rfl, ?_⟩
  iterate 14 (all_goals first | assumption | with_reducible apply abandon_keeps | with_reducible apply furnCmd_keeps | with_reducible apply writeAt_keeps | with_reducible apply ite_keeps | (intro _) | split | (refine Keeps.upd rfl rfl rfl rfl rfl rfl rfl rfl ?_) | dsimp +zetaDelta only)

theorem execWarmForm_keeps  (s : State) : ∃ x, execWarmForm s = .next x ∧ Keeps noGain s x := by
  have hi := Keeps.refl s
  unfold execWarmForm
  try extract_lets
  refine ⟨_, rfl, ?_⟩
  iterate 14 (all_goals first | assumption | with_reducible apply opStart_keeps | with_reducible apply furnCmd_keeps | with_reducible apply writeAt_keeps | with_reducible apply ite_keeps | (intro _) | split | (refine Keeps.upd rfl rfl rfl rfl rfl rfl rfl rfl ?_) | dsimp +zetaDelta only)

theorem execApprovalTimeout_keeps  (s : State) : ∃ x, execApprovalTimeout s = .next x ∧ Keeps noGain s x := by
  have hi := Keeps.refl s
  unfold execApprovalTimeout
  try extract_lets
  refine ⟨_, rfl, ?_⟩
  iterate 14 (all_goals first | assumption | with_reducible apply opFail_keeps | with_reducible apply ite_keeps | (intro _) | split | (refine Keeps.upd rfl rfl rfl rfl rfl rfl rfl rfl ?_) | dsimp +zetaDelta only)

theorem execValidateComplete_keeps  (s : State) : ∃ x, execValidateComplete s = .next x ∧ Keeps noGain s x := by
  have hi := Keeps.refl s
  unfold execValidateComplete
  try extract_lets
  refine ⟨_, rfl, ?_⟩
  iterate 14 (all_goals first | assumption | with_reducible apply validate_keeps | with_reducible apply ite_keeps | (intro _) | split | (refine Keeps.upd rfl rfl rfl rfl rfl rfl rfl rfl ?_) | dsimp +zetaDelta only)

theorem execReformDrainComplete_keeps  (s : State) : ∃ x, execReformDrainComplete s = .next x ∧ Keeps noGain s x := by
  have hi := Keeps.refl s
  unfold execReformDrainComplete
  try extract_lets
  refine ⟨_, rfl, ?_⟩
  iterate 14 (all_goals first | assumption | with_reducible apply drainEnd_keeps | with_reducible apply ite_keeps | (intro _) | split | (refine Keeps.upd rfl rfl rfl rfl rfl rfl rfl rfl ?_) | dsimp +zetaDelta only)

theorem execReformAcceptTimeout_keeps (target : BitVec 16) (s : State) : ∃ x, execReformAcceptTimeout target s = .next x ∧ Keeps noGain s x := by
  have hi := Keeps.refl s
  unfold execReformAcceptTimeout
  try extract_lets
  refine ⟨_, rfl, ?_⟩
  iterate 14 (all_goals first | assumption | with_reducible apply egressSettle_keeps | (with_reducible refine Keeps.inner ?_ (drainReturn_inner (hi := Inner.refl _) ..)) | with_reducible refine forEach_keeps (fun _ _ _ => ?_) ?_ | with_reducible apply ite_keeps | (intro _) | split | (refine Keeps.upd rfl rfl rfl rfl rfl rfl rfl rfl ?_) | dsimp +zetaDelta only)

theorem execPropose_keeps (p : Party) (s : State) : ∃ x, execPropose p s = .next x ∧ Keeps noGain s x := by
  have hi := Keeps.refl s
  unfold execPropose
  try extract_lets
  refine ⟨_, rfl, ?_⟩
  iterate 14 (all_goals first | assumption | with_reducible apply partyWrite_keeps | with_reducible apply propose_keeps | with_reducible apply writeAt_keeps | with_reducible apply ite_keeps | (intro _) | split | (refine Keeps.upd rfl rfl rfl rfl rfl rfl rfl rfl ?_) | dsimp +zetaDelta only)

theorem execWithdraw_keeps (p : Party) (s : State) : ∃ x, execWithdraw p s = .next x ∧ Keeps noGain s x := by
  have hi := Keeps.refl s
  unfold execWithdraw
  try extract_lets
  refine ⟨_, rfl, ?_⟩
  iterate 14 (all_goals first | assumption | with_reducible apply partyWrite_keeps | with_reducible apply writeAt_keeps | (with_reducible refine Keeps.inner ?_ (withdraw_inner (hi := Inner.refl _) ..)) | with_reducible apply ite_keeps | (intro _) | split | (refine Keeps.upd rfl rfl rfl rfl rfl rfl rfl rfl ?_) | dsimp +zetaDelta only)

theorem execVeto_keeps (p : Party) (idLo : Word) (s : State) : ∃ x, execVeto p idLo s = .next x ∧ Keeps noGain s x := by
  have hi := Keeps.refl s
  unfold execVeto
  try extract_lets
  refine ⟨_, rfl, ?_⟩
  iterate 14 (all_goals first | assumption | with_reducible apply partyWrite_keeps | with_reducible apply writeAt_keeps | (with_reducible refine Keeps.inner ?_ (veto_inner (hi := Inner.refl _) ..)) | with_reducible apply ite_keeps | (intro _) | split | (refine Keeps.upd rfl rfl rfl rfl rfl rfl rfl rfl ?_) | dsimp +zetaDelta only)

theorem execApprove_keeps (p : Party) (idHi : Word) (s : State) : ∃ x, execApprove p idHi s = .next x ∧ Keeps noGain s x := by
  have hi := Keeps.refl s
  unfold execApprove
  try extract_lets
  refine ⟨_, rfl, ?_⟩
  iterate 14 (all_goals first | assumption | with_reducible apply partyWrite_keeps | with_reducible apply approve_keeps | with_reducible apply writeAt_keeps | with_reducible apply ite_keeps | (intro _) | split | (refine Keeps.upd rfl rfl rfl rfl rfl rfl rfl rfl ?_) | dsimp +zetaDelta only)

theorem execDcStageWrite_keeps (p : Party) (form : Form) (n : Fin 16) (wdata : Word) (s : State) : ∃ x, execDcStageWrite p form n wdata s = .next x ∧ Keeps noGain s x := by
  have hi := Keeps.refl s
  unfold execDcStageWrite
  try extract_lets
  refine ⟨_, rfl, ?_⟩
  iterate 14 (all_goals first | assumption | with_reducible apply partyWrite_keeps | with_reducible apply writeAt_keeps | (with_reducible refine Keeps.inner ?_ (stageWrite_inner (hi := Inner.refl _) ..)) | with_reducible apply ite_keeps | (intro _) | split | (refine Keeps.upd rfl rfl rfl rfl rfl rfl rfl rfl ?_) | dsimp +zetaDelta only)

theorem execDcWindowExpiry_keeps (p : Party) (s : State) : ∃ x, execDcWindowExpiry p s = .next x ∧ Keeps noGain s x := by
  have hi := Keeps.refl s
  unfold execDcWindowExpiry
  try extract_lets
  refine ⟨_, rfl, ?_⟩
  iterate 14 (all_goals first | assumption | with_reducible apply stirring_keeps | (with_reducible refine Keeps.inner ?_ (propClose_inner (hi := Inner.refl _) ..)) | with_reducible apply ite_keeps | (intro _) | split | (refine Keeps.upd rfl rfl rfl rfl rfl rfl rfl rfl ?_) | dsimp +zetaDelta only)

theorem execTimeValidLoss_keeps  (s : State) : ∃ x, execTimeValidLoss s = .next x ∧ Keeps noGain s x := by
  have hi := Keeps.refl s
  unfold execTimeValidLoss
  try extract_lets
  refine ⟨_, rfl, ?_⟩
  iterate 14 (all_goals first | assumption | with_reducible apply startEstimate_keeps | with_reducible apply stirring_keeps | with_reducible apply ite_keeps | (intro _) | split | (refine Keeps.upd rfl rfl rfl rfl rfl rfl rfl rfl ?_) | dsimp +zetaDelta only)

theorem execCdcRetry_keeps (code : Crossing) (line : BitVec 16) (s : State) : ∃ x, execCdcRetry code line s = .next x ∧ Keeps noGain s x := by
  have hi := Keeps.refl s
  unfold execCdcRetry
  try extract_lets
  refine ⟨_, rfl, ?_⟩
  iterate 14 (all_goals first | assumption | with_reducible apply cdcRetry_keeps | with_reducible apply stirring_keeps | with_reducible apply whenLive_keeps | with_reducible apply ite_keeps | (intro _) | split | (refine Keeps.upd rfl rfl rfl rfl rfl rfl rfl rfl ?_) | dsimp +zetaDelta only)

theorem execCdcDeferred_keeps (code : Crossing) (line : BitVec 16) (s : State) : ∃ x, execCdcDeferred code line s = .next x ∧ Keeps noGain s x := by
  have hi := Keeps.refl s
  unfold execCdcDeferred
  try extract_lets
  refine ⟨_, rfl, ?_⟩
  iterate 14 (all_goals first | assumption | with_reducible apply cdcDeferred_keeps | with_reducible apply stirring_keeps | with_reducible apply whenLive_keeps | with_reducible apply ite_keeps | (intro _) | split | (refine Keeps.upd rfl rfl rfl rfl rfl rfl rfl rfl ?_) | dsimp +zetaDelta only)

theorem execThrottleChange_keeps (level : BitVec 3) (s : State) : ∃ x, execThrottleChange level s = .next x ∧ Keeps noGain s x := by
  have hi := Keeps.refl s
  unfold execThrottleChange
  try extract_lets
  refine ⟨_, rfl, ?_⟩
  iterate 14 (all_goals first | assumption | with_reducible apply throttleTake_keeps | with_reducible apply cdcClear_keeps | with_reducible apply ite_keeps | (intro _) | split | (refine Keeps.upd rfl rfl rfl rfl rfl rfl rfl rfl ?_) | dsimp +zetaDelta only)

theorem execVddOkFall_keeps  (s : State) : ∃ x, execVddOkFall s = .next x ∧ Keeps noGain s x := by
  have hi := Keeps.refl s
  unfold execVddOkFall
  try extract_lets
  refine ⟨_, rfl, ?_⟩
  iterate 14 (all_goals first | assumption | with_reducible apply fatalFault_keeps | with_reducible apply whenLive_keeps | with_reducible apply ite_keeps | (intro _) | split | (refine Keeps.upd rfl rfl rfl rfl rfl rfl rfl rfl ?_) | dsimp +zetaDelta only)

theorem execTimeLoRead_keeps (access : ReadAccess) (s : State) : ∃ x, execTimeLoRead access s = .next x ∧ Keeps noGain s x := by
  have hi := Keeps.refl s
  unfold execTimeLoRead
  try extract_lets
  refine ⟨_, rfl, ?_⟩
  iterate 14 (all_goals first | assumption | with_reducible apply regRead_keeps | with_reducible apply portServe_keeps | with_reducible apply ite_keeps | (intro _) | split | (refine Keeps.upd rfl rfl rfl rfl rfl rfl rfl rfl ?_) | dsimp +zetaDelta only)

theorem execSleepElapsedLoRead_keeps (port : Port) (s : State) : ∃ x, execSleepElapsedLoRead port s = .next x ∧ Keeps noGain s x := by
  have hi := Keeps.refl s
  unfold execSleepElapsedLoRead
  try extract_lets
  refine ⟨_, rfl, ?_⟩
  iterate 14 (all_goals first | assumption | with_reducible apply sleepElapsedRead_keeps | with_reducible apply portServe_keeps | with_reducible apply ite_keeps | (intro _) | split | (refine Keeps.upd rfl rfl rfl rfl rfl rfl rfl rfl ?_) | dsimp +zetaDelta only)

theorem execJournalBucketRefill_keeps  (s : State) : ∃ x, execJournalBucketRefill s = .next x ∧ Keeps noGain s x := by
  have hi := Keeps.refl s
  unfold execJournalBucketRefill
  try extract_lets
  refine ⟨_, rfl, ?_⟩
  iterate 14 (all_goals first | assumption | with_reducible apply bucketTick_keeps | with_reducible apply ite_keeps | (intro _) | split | (refine Keeps.upd rfl rfl rfl rfl rfl rfl rfl rfl ?_) | dsimp +zetaDelta only)

theorem execHwFieldWriteback_keeps  (s : State) : ∃ x, execHwFieldWriteback s = .next x ∧ Keeps noGain s x := by
  have hi := Keeps.refl s
  unfold execHwFieldWriteback
  try extract_lets
  refine ⟨_, rfl, ?_⟩
  iterate 14 (all_goals first | assumption | with_reducible apply stirring_keeps | with_reducible apply writebackTick_keeps | with_reducible apply ite_keeps | (intro _) | split | (refine Keeps.upd rfl rfl rfl rfl rfl rfl rfl rfl ?_) | dsimp +zetaDelta only)

theorem execLevelLineChange_keeps (n : Fin 3840) (high : Bool) (s : State) : ∃ x, execLevelLineChange n high s = .next x ∧ Keeps noGain s x := by
  have hi := Keeps.refl s
  unfold execLevelLineChange
  try extract_lets
  refine ⟨_, rfl, ?_⟩
  iterate 14 (all_goals first | assumption | with_reducible apply lineMoves_keeps | with_reducible apply ite_keeps | (intro _) | split | (refine Keeps.upd rfl rfl rfl rfl rfl rfl rfl rfl ?_) | dsimp +zetaDelta only)

theorem execSampledEdge_keeps (n : Fin 3840) (s : State) : ∃ x, execSampledEdge n s = .next x ∧ Keeps noGain s x := by
  have hi := Keeps.refl s
  unfold execSampledEdge
  try extract_lets
  refine ⟨_, rfl, ?_⟩
  iterate 14 (all_goals first | assumption | with_reducible apply edgeLine_keeps | with_reducible apply ite_keeps | (intro _) | split | (refine Keeps.upd rfl rfl rfl rfl rfl rfl rfl rfl ?_) | dsimp +zetaDelta only)

theorem execCountedStep_keeps (m : Fin 256) (gray : BitVec 4) (s : State) : ∃ x, execCountedStep m gray s = .next x ∧ Keeps noGain s x := by
  have hi := Keeps.refl s
  unfold execCountedStep
  try extract_lets
  refine ⟨_, rfl, ?_⟩
  iterate 14 (all_goals first | assumption | with_reducible apply countedLine_keeps | with_reducible apply ite_keeps | (intro _) | split | (refine Keeps.upd rfl rfl rfl rfl rfl rfl rfl rfl ?_) | dsimp +zetaDelta only)

theorem execWiredLevelWake_keeps (n : Fin 3840) (s : State) : ∃ x, execWiredLevelWake n s = .next x ∧ Keeps noGain s x := by
  have hi := Keeps.refl s
  unfold execWiredLevelWake
  try extract_lets
  refine ⟨_, rfl, ?_⟩
  iterate 14 (all_goals first | assumption | with_reducible apply edgeLine_keeps | with_reducible apply ite_keeps | (intro _) | split | (refine Keeps.upd rfl rfl rfl rfl rfl rfl rfl rfl ?_) | dsimp +zetaDelta only)

theorem execAoWakeComparator_keeps  (s : State) : ∃ x, execAoWakeComparator s = .next x ∧ Keeps noGain s x := by
  have hi := Keeps.refl s
  unfold execAoWakeComparator
  try extract_lets
  refine ⟨_, rfl, ?_⟩
  iterate 14 (all_goals first | assumption | with_reducible apply wakeSource_keeps | with_reducible apply ite_keeps | (intro _) | split | (refine Keeps.upd rfl rfl rfl rfl rfl rfl rfl rfl ?_) | dsimp +zetaDelta only)

theorem execIdleEntry_keeps  (s : State) : ∃ x, execIdleEntry s = .next x ∧ Keeps noGain s x := by
  have hi := Keeps.refl s
  unfold execIdleEntry
  try extract_lets
  refine ⟨_, rfl, ?_⟩
  iterate 14 (all_goals first | assumption | with_reducible apply idleEnter_keeps | with_reducible apply ite_keeps | (intro _) | split | (refine Keeps.upd rfl rfl rfl rfl rfl rfl rfl rfl ?_) | dsimp +zetaDelta only)

theorem execEntryAttempt_keeps  (s : State) : ∃ x, execEntryAttempt s = .next x ∧ Keeps noGain s x := by
  have hi := Keeps.refl s
  unfold execEntryAttempt
  try extract_lets
  refine ⟨_, rfl, ?_⟩
  iterate 14 (all_goals first | assumption | with_reducible apply tryAttempt_keeps | with_reducible apply ite_keeps | (intro _) | split | (refine Keeps.upd rfl rfl rfl rfl rfl rfl rfl rfl ?_) | dsimp +zetaDelta only)

theorem execEntryRetry_keeps  (s : State) : ∃ x, execEntryRetry s = .next x ∧ Keeps noGain s x := by
  have hi := Keeps.refl s
  unfold execEntryRetry
  try extract_lets
  refine ⟨_, rfl, ?_⟩
  iterate 14 (all_goals first | assumption | with_reducible apply tryAttempt_keeps | with_reducible apply ite_keeps | (intro _) | split | (refine Keeps.upd rfl rfl rfl rfl rfl rfl rfl rfl ?_) | dsimp +zetaDelta only)

theorem execEntryDrainComplete_keeps  (s : State) : ∃ x, execEntryDrainComplete s = .next x ∧ Keeps noGain s x := by
  have hi := Keeps.refl s
  unfold execEntryDrainComplete
  try extract_lets
  refine ⟨_, rfl, ?_⟩
  iterate 14 (all_goals first | assumption | with_reducible apply entryArm_keeps | with_reducible apply ite_keeps | (intro _) | split | (refine Keeps.upd rfl rfl rfl rfl rfl rfl rfl rfl ?_) | dsimp +zetaDelta only)

theorem execEntryDeliveryTimeout_keeps  (s : State) : ∃ x, execEntryDeliveryTimeout s = .next x ∧ Keeps noGain s x := by
  have hi := Keeps.refl s
  unfold execEntryDeliveryTimeout
  try extract_lets
  refine ⟨_, rfl, ?_⟩
  iterate 14 (all_goals first | assumption | with_reducible apply refuse_keeps | with_reducible apply ite_keeps | (intro _) | split | (refine Keeps.upd rfl rfl rfl rfl rfl rfl rfl rfl ?_) | dsimp +zetaDelta only)

/-- The wake pin; out of OFF it is a power-on reset. -/
theorem execWakePin_keeps (s : State) (n : s.md.mode ≠ .off) : ∃ x, execWakePin s = .next x ∧ Keeps noGain s x := by
  have hi := Keeps.refl s
  unfold execWakePin
  refine ⟨_, rfl, ?_⟩
  rw [if_neg n]
  exact ite_keeps hi (ite_keeps (Keeps.upd rfl rfl rfl rfl rfl rfl rfl rfl hi) (ite_keeps (wakeSource_keeps _ hi) hi))

theorem execModeReqWrite_keeps (form : Form) (wdata : Word) (s : State) : ∃ x, execModeReqWrite form wdata s = .next x ∧ Keeps noGain s x := by
  have hi := Keeps.refl s
  unfold execModeReqWrite
  try extract_lets
  refine ⟨_, rfl, ?_⟩
  iterate 14 (all_goals first | assumption | with_reducible apply modeReqWrite_keeps | with_reducible apply writeAt_keeps | with_reducible apply ite_keeps | (intro _) | split | (refine Keeps.upd rfl rfl rfl rfl rfl rfl rfl rfl ?_) | dsimp +zetaDelta only)

theorem execAliveToggle_keeps  (s : State) : ∃ x, execAliveToggle s = .next x ∧ Keeps noGain s x := by
  have hi := Keeps.refl s
  unfold execAliveToggle
  try extract_lets
  refine ⟨_, rfl, ?_⟩
  iterate 14 (all_goals first | assumption | with_reducible apply aliveToggle_keeps | with_reducible apply ite_keeps | (intro _) | split | (refine Keeps.upd rfl rfl rfl rfl rfl rfl rfl rfl ?_) | dsimp +zetaDelta only)

theorem execHeartbeat_keeps  (s : State) : ∃ x, execHeartbeat s = .next x ∧ Keeps noGain s x := by
  have hi := Keeps.refl s
  unfold execHeartbeat
  try extract_lets
  refine ⟨_, rfl, ?_⟩
  iterate 14 (all_goals first | assumption | with_reducible apply ite_keeps | (intro _) | split | (refine Keeps.upd rfl rfl rfl rfl rfl rfl rfl rfl ?_) | dsimp +zetaDelta only)

theorem execWedged_keeps  (s : State) : ∃ x, execWedged s = .next x ∧ Keeps noGain s x := by
  have hi := Keeps.refl s
  unfold execWedged
  try extract_lets
  refine ⟨_, rfl, ?_⟩
  iterate 14 (all_goals first | assumption | with_reducible apply fatalFault_keeps | with_reducible apply ite_keeps | (intro _) | split | (refine Keeps.upd rfl rfl rfl rfl rfl rfl rfl rfl ?_) | dsimp +zetaDelta only)

theorem execPollRefresh_keeps  (s : State) : ∃ x, execPollRefresh s = .next x ∧ Keeps noGain s x := by
  have hi := Keeps.refl s
  unfold execPollRefresh
  try extract_lets
  refine ⟨_, rfl, ?_⟩
  iterate 14 (all_goals first | assumption | with_reducible apply pollRefresh_keeps | with_reducible apply ite_keeps | (intro _) | split | (refine Keeps.upd rfl rfl rfl rfl rfl rfl rfl rfl ?_) | dsimp +zetaDelta only)

theorem execClkFabLoss_keeps  (s : State) : ∃ x, execClkFabLoss s = .next x ∧ Keeps noGain s x := by
  have hi := Keeps.refl s
  unfold execClkFabLoss
  try extract_lets
  refine ⟨_, rfl, ?_⟩
  iterate 14 (all_goals first | assumption | with_reducible apply fatalFault_keeps | with_reducible apply ite_keeps | (intro _) | split | (refine Keeps.upd rfl rfl rfl rfl rfl rfl rfl rfl ?_) | dsimp +zetaDelta only)

theorem execClkRegLoss_keeps  (s : State) : ∃ x, execClkRegLoss s = .next x ∧ Keeps noGain s x := by
  have hi := Keeps.refl s
  unfold execClkRegLoss
  try extract_lets
  refine ⟨_, rfl, ?_⟩
  iterate 14 (all_goals first | assumption | with_reducible apply regStop_keeps | with_reducible apply ite_keeps | (intro _) | split | (refine Keeps.upd rfl rfl rfl rfl rfl rfl rfl rfl ?_) | dsimp +zetaDelta only)

theorem execAoClockStop_keeps  (s : State) : ∃ x, execAoClockStop s = .next x ∧ Keeps noGain s x := by
  have hi := Keeps.refl s
  unfold execAoClockStop
  try extract_lets
  refine ⟨_, rfl, ?_⟩
  iterate 14 (all_goals first | assumption | with_reducible apply aoStop_keeps | with_reducible apply stirring_keeps | with_reducible apply whenLive_keeps | with_reducible apply ite_keeps | (intro _) | split | (refine Keeps.upd rfl rfl rfl rfl rfl rfl rfl rfl ?_) | dsimp +zetaDelta only)

theorem execAoEdgeSeenAgain_keeps  (s : State) : ∃ x, execAoEdgeSeenAgain s = .next x ∧ Keeps noGain s x := by
  have hi := Keeps.refl s
  unfold execAoEdgeSeenAgain
  try extract_lets
  refine ⟨_, rfl, ?_⟩
  iterate 14 (all_goals first | assumption | with_reducible apply aoHeldAct_keeps | with_reducible apply ite_keeps | (intro _) | split | (refine Keeps.upd rfl rfl rfl rfl rfl rfl rfl rfl ?_) | dsimp +zetaDelta only)

theorem execLastGasp_keeps  (s : State) : ∃ x, execLastGasp s = .next x ∧ Keeps noGain s x := by
  have hi := Keeps.refl s
  unfold execLastGasp
  try extract_lets
  refine ⟨_, rfl, ?_⟩
  iterate 14 (all_goals first | assumption | with_reducible apply lastGaspWrite_keeps | with_reducible apply ite_keeps | (intro _) | split | (refine Keeps.upd rfl rfl rfl rfl rfl rfl rfl rfl ?_) | dsimp +zetaDelta only)

theorem execResetCmd_keeps (port : Port) (wdata : Word) (s : State) : ∃ x, execResetCmd port wdata s = .next x ∧ Keeps noGain s x := by
  have hi := Keeps.refl s
  unfold execResetCmd
  try extract_lets
  refine ⟨_, rfl, ?_⟩
  iterate 14 (all_goals first | assumption | with_reducible apply resetCmd_keeps | with_reducible apply writeAt_keeps | with_reducible apply ite_keeps | (intro _) | split | (refine Keeps.upd rfl rfl rfl rfl rfl rfl rfl rfl ?_) | dsimp +zetaDelta only)

theorem execPing_keeps (frame : SbFrame) (s : State) : ∃ x, execPing frame s = .next x ∧ Keeps noGain s x := by
  have hi := Keeps.refl s
  unfold execPing
  try extract_lets
  refine ⟨_, rfl, ?_⟩
  iterate 14 (all_goals first | assumption | with_reducible apply sbExchange_keeps | with_reducible apply ite_keeps | (intro _) | split | (refine Keeps.upd rfl rfl rfl rfl rfl rfl rfl rfl ?_) | dsimp +zetaDelta only)

theorem execSbWake_keeps (frame : SbFrame) (s : State) : ∃ x, execSbWake frame s = .next x ∧ Keeps noGain s x := by
  have hi := Keeps.refl s
  unfold execSbWake
  try extract_lets
  refine ⟨_, rfl, ?_⟩
  iterate 14 (all_goals first | assumption | with_reducible apply sbExchange_keeps | with_reducible apply ite_keeps | (intro _) | split | (refine Keeps.upd rfl rfl rfl rfl rfl rfl rfl rfl ?_) | dsimp +zetaDelta only)

theorem execReadPoll_keeps (frame : SbFrame) (n : BitVec 4) (s : State) : ∃ x, execReadPoll frame n s = .next x ∧ Keeps noGain s x := by
  have hi := Keeps.refl s
  unfold execReadPoll
  try extract_lets
  refine ⟨_, rfl, ?_⟩
  iterate 14 (all_goals first | assumption | with_reducible apply sbExchange_keeps | with_reducible apply ite_keeps | (intro _) | split | (refine Keeps.upd rfl rfl rfl rfl rfl rfl rfl rfl ?_) | dsimp +zetaDelta only)

theorem execReadAo_keeps (frame : SbFrame) (index : BitVec 16) (s : State) : ∃ x, execReadAo frame index s = .next x ∧ Keeps noGain s x := by
  have hi := Keeps.refl s
  unfold execReadAo
  try extract_lets
  refine ⟨_, rfl, ?_⟩
  iterate 14 (all_goals first | assumption | with_reducible apply sbExchange_keeps | with_reducible apply ite_keeps | (intro _) | split | (refine Keeps.upd rfl rfl rfl rfl rfl rfl rfl rfl ?_) | dsimp +zetaDelta only)

theorem execSbReset_keeps (frame : SbFrame) (key : BitVec 16) (s : State) : ∃ x, execSbReset frame key s = .next x ∧ Keeps noGain s x := by
  have hi := Keeps.refl s
  unfold execSbReset
  try extract_lets
  refine ⟨_, rfl, ?_⟩
  iterate 14 (all_goals first | assumption | with_reducible apply sbExchange_keeps | with_reducible apply ite_keeps | (intro _) | split | (refine Keeps.upd rfl rfl rfl rfl rfl rfl rfl rfl ?_) | dsimp +zetaDelta only)

theorem execBadCmd_keeps (frame : SbFrame) (cmd : Byte) (s : State) : ∃ x, execBadCmd frame cmd s = .next x ∧ Keeps noGain s x := by
  have hi := Keeps.refl s
  unfold execBadCmd
  try extract_lets
  refine ⟨_, rfl, ?_⟩
  iterate 14 (all_goals first | assumption | with_reducible apply sbExchange_keeps | with_reducible apply ite_keeps | (intro _) | split | (refine Keeps.upd rfl rfl rfl rfl rfl rfl rfl rfl ?_) | dsimp +zetaDelta only)

theorem execSbFrameTimeout_keeps  (s : State) : ∃ x, execSbFrameTimeout s = .next x ∧ Keeps noGain s x := by
  have hi := Keeps.refl s
  unfold execSbFrameTimeout
  try extract_lets
  refine ⟨_, rfl, ?_⟩
  iterate 14 (all_goals first | assumption | with_reducible apply sbAbandon_keeps | with_reducible apply ite_keeps | (intro _) | split | (refine Keeps.upd rfl rfl rfl rfl rfl rfl rfl rfl ?_) | dsimp +zetaDelta only)

theorem execSbFrameAbandonBothRails_keeps  (s : State) : ∃ x, execSbFrameAbandonBothRails s = .next x ∧ Keeps noGain s x := by
  have hi := Keeps.refl s
  unfold execSbFrameAbandonBothRails
  try extract_lets
  refine ⟨_, rfl, ?_⟩
  iterate 14 (all_goals first | assumption | with_reducible apply sbAbandon_keeps | with_reducible apply ite_keeps | (intro _) | split | (refine Keeps.upd rfl rfl rfl rfl rfl rfl rfl rfl ?_) | dsimp +zetaDelta only)

theorem execVteReadReturn_keeps (tag : BitVec 8) (data : Words8) (s : State) : ∃ x, execVteReadReturn tag data s = .next x ∧ Keeps noGain s x := by
  have hi := Keeps.refl s
  unfold execVteReadReturn
  try extract_lets
  refine ⟨_, rfl, ?_⟩
  iterate 14 (all_goals first | assumption | with_reducible apply onTag_keeps | with_reducible apply readArrive_keeps | with_reducible apply ite_keeps | (intro _) | split | (refine Keeps.upd rfl rfl rfl rfl rfl rfl rfl rfl ?_) | dsimp +zetaDelta only)

theorem execApertureReadError_keeps (tag : BitVec 8) (s : State) : ∃ x, execApertureReadError tag s = .next x ∧ Keeps noGain s x := by
  have hi := Keeps.refl s
  unfold execApertureReadError
  try extract_lets
  refine ⟨_, rfl, ?_⟩
  iterate 14 (all_goals first | assumption | with_reducible apply onTag_keeps | with_reducible apply readError_keeps | with_reducible apply ite_keeps | (intro _) | split | (refine Keeps.upd rfl rfl rfl rfl rfl rfl rfl rfl ?_) | dsimp +zetaDelta only)

theorem execApertureReadTimeout_keeps (tag : BitVec 8) (s : State) : ∃ x, execApertureReadTimeout tag s = .next x ∧ Keeps noGain s x := by
  have hi := Keeps.refl s
  unfold execApertureReadTimeout
  try extract_lets
  refine ⟨_, rfl, ?_⟩
  iterate 14 (all_goals first | assumption | with_reducible apply onTag_keeps | with_reducible apply readError_keeps | with_reducible apply ite_keeps | (intro _) | split | (refine Keeps.upd rfl rfl rfl rfl rfl rfl rfl rfl ?_) | dsimp +zetaDelta only)

theorem execFormCommit_keeps (stored : List (Nat × Words8)) (s : State) : ∃ x, execFormCommit stored s = .next x ∧ Keeps noGain s x := by
  have hi := Keeps.refl s
  unfold execFormCommit
  try extract_lets
  refine ⟨_, rfl, ?_⟩
  iterate 14 (all_goals first | assumption | with_reducible apply formCommit_keeps | with_reducible apply ite_keeps | (intro _) | split | (refine Keeps.upd rfl rfl rfl rfl rfl rfl rfl rfl ?_) | dsimp +zetaDelta only)

theorem execFetchComplete_keeps (image : List Byte) (s : State) : ∃ x, execFetchComplete image s = .next x ∧ Keeps noGain s x := by
  have hi := Keeps.refl s
  unfold execFetchComplete
  try extract_lets
  refine ⟨_, rfl, ?_⟩
  iterate 14 (all_goals first | assumption | with_reducible apply imageReturn_keeps | with_reducible apply ite_keeps | (intro _) | split | (refine Keeps.upd rfl rfl rfl rfl rfl rfl rfl rfl ?_) | dsimp +zetaDelta only)

theorem execApertureWriteAck_keeps (tag : BitVec 8) (copy : Copy) (s : State) : ∃ x, execApertureWriteAck tag copy s = .next x ∧ Keeps noGain s x := by
  have hi := Keeps.refl s
  unfold execApertureWriteAck
  try extract_lets
  refine ⟨_, rfl, ?_⟩
  iterate 14 (all_goals first | assumption | with_reducible apply onWrite_keeps | with_reducible apply writeAck_keeps | with_reducible apply ite_keeps | (intro _) | split | (refine Keeps.upd rfl rfl rfl rfl rfl rfl rfl rfl ?_) | dsimp +zetaDelta only)

theorem execApertureWriteError_keeps (tag : BitVec 8) (copy : Copy) (s : State) : ∃ x, execApertureWriteError tag copy s = .next x ∧ Keeps noGain s x := by
  have hi := Keeps.refl s
  unfold execApertureWriteError
  try extract_lets
  refine ⟨_, rfl, ?_⟩
  iterate 14 (all_goals first | assumption | with_reducible apply onWrite_keeps | with_reducible apply writeError_keeps | with_reducible apply ite_keeps | (intro _) | split | (refine Keeps.upd rfl rfl rfl rfl rfl rfl rfl rfl ?_) | dsimp +zetaDelta only)

theorem execResync_keeps  (s : State) : ∃ x, execResync s = .next x ∧ Keeps noGain s x := by
  have hi := Keeps.refl s
  unfold execResync
  try extract_lets
  refine ⟨_, rfl, ?_⟩
  iterate 14 (all_goals first | assumption | with_reducible apply resync_keeps | with_reducible apply portWrite_keeps | with_reducible apply writeAt_keeps | with_reducible apply ite_keeps | (intro _) | split | (refine Keeps.upd rfl rfl rfl rfl rfl rfl rfl rfl ?_) | dsimp +zetaDelta only)

theorem execResyncComplete_keeps  (s : State) : ∃ x, execResyncComplete s = .next x ∧ Keeps noGain s x := by
  have hi := Keeps.refl s
  unfold execResyncComplete
  try extract_lets
  refine ⟨_, rfl, ?_⟩
  iterate 14 (all_goals first | assumption | (with_reducible refine Keeps.inner ?_ (apDrop_inner (hi := Inner.refl _) ..)) | with_reducible apply ite_keeps | (intro _) | split | (refine Keeps.upd rfl rfl rfl rfl rfl rfl rfl rfl ?_) | dsimp +zetaDelta only)

theorem execInjectPlaneAMismatch_keeps (key : BitVec 16) (s : State) : ∃ x, execInjectPlaneAMismatch key s = .next x ∧ Keeps noGain s x := by
  have hi := Keeps.refl s
  unfold execInjectPlaneAMismatch
  try extract_lets
  refine ⟨_, rfl, ?_⟩
  iterate 14 (all_goals first | assumption | with_reducible apply injectWrite_keeps | with_reducible apply ite_keeps | (intro _) | split | (refine Keeps.upd rfl rfl rfl rfl rfl rfl rfl rfl ?_) | dsimp +zetaDelta only)

theorem execInjectFenceA_keeps (key : BitVec 16) (s : State) : ∃ x, execInjectFenceA key s = .next x ∧ Keeps noGain s x := by
  have hi := Keeps.refl s
  unfold execInjectFenceA
  try extract_lets
  refine ⟨_, rfl, ?_⟩
  iterate 14 (all_goals first | assumption | with_reducible apply injectWrite_keeps | with_reducible apply ite_keeps | (intro _) | split | (refine Keeps.upd rfl rfl rfl rfl rfl rfl rfl rfl ?_) | dsimp +zetaDelta only)

theorem execInjectFenceB_keeps (key : BitVec 16) (s : State) : ∃ x, execInjectFenceB key s = .next x ∧ Keeps noGain s x := by
  have hi := Keeps.refl s
  unfold execInjectFenceB
  try extract_lets
  refine ⟨_, rfl, ?_⟩
  iterate 14 (all_goals first | assumption | with_reducible apply injectWrite_keeps | with_reducible apply ite_keeps | (intro _) | split | (refine Keeps.upd rfl rfl rfl rfl rfl rfl rfl rfl ?_) | dsimp +zetaDelta only)

theorem execInjectEccSingle_keeps (key : BitVec 16) (s : State) : ∃ x, execInjectEccSingle key s = .next x ∧ Keeps noGain s x := by
  have hi := Keeps.refl s
  unfold execInjectEccSingle
  try extract_lets
  refine ⟨_, rfl, ?_⟩
  iterate 14 (all_goals first | assumption | with_reducible apply injectWrite_keeps | with_reducible apply ite_keeps | (intro _) | split | (refine Keeps.upd rfl rfl rfl rfl rfl rfl rfl rfl ?_) | dsimp +zetaDelta only)

theorem execInjectEccDouble_keeps (key : BitVec 16) (s : State) : ∃ x, execInjectEccDouble key s = .next x ∧ Keeps noGain s x := by
  have hi := Keeps.refl s
  unfold execInjectEccDouble
  try extract_lets
  refine ⟨_, rfl, ?_⟩
  iterate 14 (all_goals first | assumption | with_reducible apply injectWrite_keeps | with_reducible apply ite_keeps | (intro _) | split | (refine Keeps.upd rfl rfl rfl rfl rfl rfl rfl rfl ?_) | dsimp +zetaDelta only)

theorem execInjectCdcDisagree_keeps (key : BitVec 16) (s : State) : ∃ x, execInjectCdcDisagree key s = .next x ∧ Keeps noGain s x := by
  have hi := Keeps.refl s
  unfold execInjectCdcDisagree
  try extract_lets
  refine ⟨_, rfl, ?_⟩
  iterate 14 (all_goals first | assumption | with_reducible apply injectWrite_keeps | with_reducible apply ite_keeps | (intro _) | split | (refine Keeps.upd rfl rfl rfl rfl rfl rfl rfl rfl ?_) | dsimp +zetaDelta only)

theorem execInjectApertureReadError_keeps (key : BitVec 16) (s : State) : ∃ x, execInjectApertureReadError key s = .next x ∧ Keeps noGain s x := by
  have hi := Keeps.refl s
  unfold execInjectApertureReadError
  try extract_lets
  refine ⟨_, rfl, ?_⟩
  iterate 14 (all_goals first | assumption | with_reducible apply injectWrite_keeps | with_reducible apply ite_keeps | (intro _) | split | (refine Keeps.upd rfl rfl rfl rfl rfl rfl rfl rfl ?_) | dsimp +zetaDelta only)

theorem execInjectHeartbeatStop_keeps (key : BitVec 16) (s : State) : ∃ x, execInjectHeartbeatStop key s = .next x ∧ Keeps noGain s x := by
  have hi := Keeps.refl s
  unfold execInjectHeartbeatStop
  try extract_lets
  refine ⟨_, rfl, ?_⟩
  iterate 14 (all_goals first | assumption | with_reducible apply injectWrite_keeps | with_reducible apply ite_keeps | (intro _) | split | (refine Keeps.upd rfl rfl rfl rfl rfl rfl rfl rfl ?_) | dsimp +zetaDelta only)

theorem execInjectCollectorParity_keeps (key : BitVec 16) (s : State) : ∃ x, execInjectCollectorParity key s = .next x ∧ Keeps noGain s x := by
  have hi := Keeps.refl s
  unfold execInjectCollectorParity
  try extract_lets
  refine ⟨_, rfl, ?_⟩
  iterate 14 (all_goals first | assumption | with_reducible apply injectWrite_keeps | with_reducible apply ite_keeps | (intro _) | split | (refine Keeps.upd rfl rfl rfl rfl rfl rfl rfl rfl ?_) | dsimp +zetaDelta only)

theorem execRefresh_keeps (hot : Bool) (array : BitVec 8) (row : BitVec 16) (copied : Bool) (ecc : Ecc) (s : State) : ∃ x, execRefresh hot array row copied ecc s = .next x ∧ Keeps noGain s x := by
  have hi := Keeps.refl s
  unfold execRefresh
  try extract_lets
  refine ⟨_, rfl, ?_⟩
  iterate 14 (all_goals first | assumption | with_reducible apply refreshRow_keeps | with_reducible apply stirring_keeps | with_reducible apply whenLive_keeps | with_reducible apply ite_keeps | (intro _) | split | (refine Keeps.upd rfl rfl rfl rfl rfl rfl rfl rfl ?_) | dsimp +zetaDelta only)

theorem execSeqClear_keeps (port : Port) (reg : ScReg) (wdata : Word) (s : State) : ∃ x, execSeqClear port reg wdata s = .next x ∧ Keeps noGain s x := by
  have hi := Keeps.refl s
  unfold execSeqClear
  try extract_lets
  refine ⟨_, rfl, ?_⟩
  iterate 14 (all_goals first | assumption | with_reducible apply seqClear_keeps | with_reducible apply writeAt_keeps | with_reducible apply ite_keeps | (intro _) | split | (refine Keeps.upd rfl rfl rfl rfl rfl rfl rfl rfl ?_) | dsimp +zetaDelta only)

theorem execRegWrite_keeps (port : Port) (addr : BitVec 22) (wdata : Word) (s : State) : ∃ x, execRegWrite port addr wdata s = .next x ∧ Keeps noGain s x := by
  have hi := Keeps.refl s
  unfold execRegWrite
  try extract_lets
  refine ⟨_, rfl, ?_⟩
  iterate 14 (all_goals first | assumption | with_reducible apply regWrite_keeps | with_reducible apply portServe_keeps | with_reducible apply ite_keeps | (intro _) | split | (refine Keeps.upd rfl rfl rfl rfl rfl rfl rfl rfl ?_) | dsimp +zetaDelta only)

theorem noteHung_keeps {d : Fin 4 → Int} {s t : State}  (hi : Keeps d s t) : Keeps d s (noteHung t) := by
  unfold noteHung
  try extract_lets
  iterate 14 (all_goals first | assumption | (with_reducible refine Keeps.inner ?_ (raiseStatus_inner (hi := Inner.refl _) ..)) | with_reducible apply ite_keeps | (intro _) | split | (refine Keeps.upd rfl rfl rfl rfl rfl rfl rfl rfl ?_) | exact wakeful_serving | exact wakeful_draining | exact wakeful_unformed | exact wakeful_idle | exact wakeful_ite | dsimp +zetaDelta only)

theorem execAccessGuardTimeout_keeps (port : Port) (s : State) : ∃ x, execAccessGuardTimeout port s = .next x ∧ Keeps noGain s x := by
  have hi := Keeps.refl s
  unfold execAccessGuardTimeout
  try extract_lets
  refine ⟨_, rfl, ?_⟩
  iterate 14 (all_goals first | assumption | with_reducible apply noteHung_keeps | with_reducible apply portServe_keeps | with_reducible apply portAnswer_keeps | with_reducible apply ite_keeps | (intro _) | split | (refine Keeps.upd rfl rfl rfl rfl rfl rfl rfl rfl ?_) | dsimp +zetaDelta only)

theorem execEngineEnSet_keeps  (s : State) : ∃ x, execEngineEnSet s = .next x ∧ Keeps noGain s x := by
  have hi := Keeps.refl s
  unfold execEngineEnSet
  try extract_lets
  refine ⟨_, rfl, ?_⟩
  iterate 14 (all_goals first | assumption | with_reducible apply ctlBit_keeps | with_reducible apply writeAt_keeps | with_reducible apply ite_keeps | (intro _) | split | (refine Keeps.upd rfl rfl rfl rfl rfl rfl rfl rfl ?_) | dsimp +zetaDelta only)

theorem execEngineEnClear_keeps  (s : State) : ∃ x, execEngineEnClear s = .next x ∧ Keeps noGain s x := by
  have hi := Keeps.refl s
  unfold execEngineEnClear
  try extract_lets
  refine ⟨_, rfl, ?_⟩
  iterate 14 (all_goals first | assumption | with_reducible apply ctlBit_keeps | with_reducible apply writeAt_keeps | with_reducible apply ite_keeps | (intro _) | split | (refine Keeps.upd rfl rfl rfl rfl rfl rfl rfl rfl ?_) | dsimp +zetaDelta only)

theorem execIngressEnClear_keeps  (s : State) : ∃ x, execIngressEnClear s = .next x ∧ Keeps noGain s x := by
  have hi := Keeps.refl s
  unfold execIngressEnClear
  try extract_lets
  refine ⟨_, rfl, ?_⟩
  iterate 14 (all_goals first | assumption | with_reducible apply ctlBit_keeps | with_reducible apply writeAt_keeps | with_reducible apply ite_keeps | (intro _) | split | (refine Keeps.upd rfl rfl rfl rfl rfl rfl rfl rfl ?_) | dsimp +zetaDelta only)

theorem execIngressEnSet_keeps  (s : State) : ∃ x, execIngressEnSet s = .next x ∧ Keeps noGain s x := by
  have hi := Keeps.refl s
  unfold execIngressEnSet
  try extract_lets
  refine ⟨_, rfl, ?_⟩
  iterate 14 (all_goals first | assumption | with_reducible apply ctlBit_keeps | with_reducible apply writeAt_keeps | with_reducible apply ite_keeps | (intro _) | split | (refine Keeps.upd rfl rfl rfl rfl rfl rfl rfl rfl ?_) | dsimp +zetaDelta only)

theorem execDeliverEnClear_keeps  (s : State) : ∃ x, execDeliverEnClear s = .next x ∧ Keeps noGain s x := by
  have hi := Keeps.refl s
  unfold execDeliverEnClear
  try extract_lets
  refine ⟨_, rfl, ?_⟩
  iterate 14 (all_goals first | assumption | with_reducible apply ctlBit_keeps | with_reducible apply writeAt_keeps | with_reducible apply ite_keeps | (intro _) | split | (refine Keeps.upd rfl rfl rfl rfl rfl rfl rfl rfl ?_) | dsimp +zetaDelta only)

theorem execDeliverEnSet_keeps  (s : State) : ∃ x, execDeliverEnSet s = .next x ∧ Keeps noGain s x := by
  have hi := Keeps.refl s
  unfold execDeliverEnSet
  try extract_lets
  refine ⟨_, rfl, ?_⟩
  iterate 14 (all_goals first | assumption | with_reducible apply ctlBit_keeps | with_reducible apply writeAt_keeps | with_reducible apply ite_keeps | (intro _) | split | (refine Keeps.upd rfl rfl rfl rfl rfl rfl rfl rfl ?_) | dsimp +zetaDelta only)

theorem execFreezeSet_keeps  (s : State) : ∃ x, execFreezeSet s = .next x ∧ Keeps noGain s x := by
  have hi := Keeps.refl s
  unfold execFreezeSet
  try extract_lets
  refine ⟨_, rfl, ?_⟩
  iterate 14 (all_goals first | assumption | with_reducible apply freezeBit_keeps | with_reducible apply writeAt_keeps | with_reducible apply ite_keeps | (intro _) | split | (refine Keeps.upd rfl rfl rfl rfl rfl rfl rfl rfl ?_) | dsimp +zetaDelta only)

theorem execFreezeClear_keeps  (s : State) : ∃ x, execFreezeClear s = .next x ∧ Keeps noGain s x := by
  have hi := Keeps.refl s
  unfold execFreezeClear
  try extract_lets
  refine ⟨_, rfl, ?_⟩
  iterate 14 (all_goals first | assumption | with_reducible apply freezeBit_keeps | with_reducible apply writeAt_keeps | with_reducible apply ite_keeps | (intro _) | split | (refine Keeps.upd rfl rfl rfl rfl rfl rfl rfl rfl ?_) | dsimp +zetaDelta only)

theorem execLockSet_keeps (bits : Word) (s : State) : ∃ x, execLockSet bits s = .next x ∧ Keeps noGain s x := by
  have hi := Keeps.refl s
  unfold execLockSet
  try extract_lets
  refine ⟨_, rfl, ?_⟩
  iterate 14 (all_goals first | assumption | with_reducible apply lockPut_keeps | with_reducible apply portWrite_keeps | with_reducible apply writeAt_keeps | with_reducible apply ite_keeps | (intro _) | split | (refine Keeps.upd rfl rfl rfl rfl rfl rfl rfl rfl ?_) | dsimp +zetaDelta only)

theorem execJnlHeadWrite_keeps (form : Form) (wdata : Word) (s : State) : ∃ x, execJnlHeadWrite form wdata s = .next x ∧ Keeps noGain s x := by
  have hi := Keeps.refl s
  unfold execJnlHeadWrite
  try extract_lets
  refine ⟨_, rfl, ?_⟩
  iterate 14 (all_goals first | assumption | with_reducible apply jnlHeadPut_keeps | with_reducible apply portWrite_keeps | with_reducible apply writeAt_keeps | with_reducible apply ite_keeps | (intro _) | split | (refine Keeps.upd rfl rfl rfl rfl rfl rfl rfl rfl ?_) | dsimp +zetaDelta only)


end Sys2Proof.Machine
end

