-- ==== Sys2Proof/Laws/State.lean ====
section
/-! SUPPORT. Tables and updates of State: what is read after it is put, and for each named update the fields it leaves. -/

namespace Sys2Proof.Machine

/-! ### Sparse tables -/

@[simp] theorem find_put_same {α : Type} (k : Nat) (v : α) : ∀ m : List (Nat × α), find (put m k v) k = some v := by
  intro m
  induction m with
  | nil => simp [put, find]
  | cons e r ih =>
    obtain ⟨a, b⟩ := e
    unfold put
    split
    · simp [find]
    · split
      · simp [find]
      · rename_i h _
        simp [find, Ne.symm h, ih]

theorem find_put_ne {α : Type} {j k : Nat} (h : j ≠ k) (v : α) : ∀ m : List (Nat × α), find (put m k v) j = find m j := by
  intro m
  induction m with
  | nil => simp [put, find, Ne.symm h]
  | cons e r ih =>
    obtain ⟨a, b⟩ := e
    unfold put
    split
    · rename_i e
      subst e
      simp [find, Ne.symm h]
    · split
      · simp [find, Ne.symm h]
      · simp only [find, ih]

/-! ### The queue -/

@[simp] theorem withPending_md (s : State) (q : List Instr) : (s.withPending q).md = s.md := rfl
@[simp] theorem withPending_ctl (s : State) (q : List Instr) : (s.withPending q).ctl = s.ctl := rfl
@[simp] theorem withPending_status (s : State) (q : List Instr) : (s.withPending q).status = s.status := rfl
@[simp] theorem withPending_cnt (s : State) (q : List Instr) : (s.withPending q).cnt = s.cnt := rfl
@[simp] theorem withPending_tm (s : State) (q : List Instr) : (s.withPending q).tm = s.tm := rfl
@[simp] theorem withPending_pw (s : State) (q : List Instr) : (s.withPending q).pw = s.pw := rfl
@[simp] theorem withPending_ao (s : State) (q : List Instr) : (s.withPending q).ao = s.ao := rfl
@[simp] theorem withPending_ap (s : State) (q : List Instr) : (s.withPending q).ap = s.ap := rfl
@[simp] theorem withPending_fu (s : State) (q : List Instr) : (s.withPending q).fu = s.fu := rfl
@[simp] theorem withPending_eaM (s : State) (q : List Instr) : (s.withPending q).eaM = s.eaM := rfl
@[simp] theorem withPending_eaT (s : State) (q : List Instr) : (s.withPending q).eaT = s.eaT := rfl
@[simp] theorem withPending_dcM (s : State) (q : List Instr) : (s.withPending q).dcM = s.dcM := rfl
@[simp] theorem withPending_dcS (s : State) (q : List Instr) : (s.withPending q).dcS = s.dcS := rfl
@[simp] theorem withPending_flt (s : State) (q : List Instr) : (s.withPending q).flt = s.flt := rfl
@[simp] theorem withPending_jn (s : State) (q : List Instr) : (s.withPending q).jn = s.jn := rfl
@[simp] theorem withPending_vat (s : State) (q : List Instr) : (s.withPending q).vat = s.vat := rfl
@[simp] theorem withPending_ws (s : State) (q : List Instr) : (s.withPending q).ws = s.ws := rfl
@[simp] theorem withPending_vs (s : State) (q : List Instr) : (s.withPending q).vs = s.vs := rfl
@[simp] theorem withPending_ts (s : State) (q : List Instr) : (s.withPending q).ts = s.ts := rfl
@[simp] theorem withPending_ar (s : State) (q : List Instr) : (s.withPending q).ar = s.ar := rfl
@[simp] theorem withPending_io (s : State) (q : List Instr) : (s.withPending q).io = s.io := rfl
@[simp] theorem withPending_free (s : State) (q : List Instr) : (s.withPending q).free = s.free := rfl

@[simp] theorem withPending_pending (s : State) (q : List Instr) : (s.withPending q).pending = q := rfl

/-! ### The mode -/

@[simp] theorem setMode_ctl (s : State) (m : Mode) : (setMode s m).ctl = s.ctl := rfl
@[simp] theorem setMode_status (s : State) (m : Mode) : (setMode s m).status = s.status := rfl
@[simp] theorem setMode_cnt (s : State) (m : Mode) : (setMode s m).cnt = s.cnt := rfl
@[simp] theorem setMode_tm (s : State) (m : Mode) : (setMode s m).tm = s.tm := rfl
@[simp] theorem setMode_pw (s : State) (m : Mode) : (setMode s m).pw = s.pw := rfl
@[simp] theorem setMode_ao (s : State) (m : Mode) : (setMode s m).ao = s.ao := rfl
@[simp] theorem setMode_ap (s : State) (m : Mode) : (setMode s m).ap = s.ap := rfl
@[simp] theorem setMode_fu (s : State) (m : Mode) : (setMode s m).fu = s.fu := rfl
@[simp] theorem setMode_eaM (s : State) (m : Mode) : (setMode s m).eaM = s.eaM := rfl
@[simp] theorem setMode_eaT (s : State) (m : Mode) : (setMode s m).eaT = s.eaT := rfl
@[simp] theorem setMode_dcM (s : State) (m : Mode) : (setMode s m).dcM = s.dcM := rfl
@[simp] theorem setMode_dcS (s : State) (m : Mode) : (setMode s m).dcS = s.dcS := rfl
@[simp] theorem setMode_flt (s : State) (m : Mode) : (setMode s m).flt = s.flt := rfl
@[simp] theorem setMode_jn (s : State) (m : Mode) : (setMode s m).jn = s.jn := rfl
@[simp] theorem setMode_vat (s : State) (m : Mode) : (setMode s m).vat = s.vat := rfl
@[simp] theorem setMode_ws (s : State) (m : Mode) : (setMode s m).ws = s.ws := rfl
@[simp] theorem setMode_vs (s : State) (m : Mode) : (setMode s m).vs = s.vs := rfl
@[simp] theorem setMode_ts (s : State) (m : Mode) : (setMode s m).ts = s.ts := rfl
@[simp] theorem setMode_io (s : State) (m : Mode) : (setMode s m).io = s.io := rfl
@[simp] theorem setMode_free (s : State) (m : Mode) : (setMode s m).free = s.free := rfl
@[simp] theorem setMode_pending (s : State) (m : Mode) : (setMode s m).pending = s.pending := rfl

@[simp] theorem setMode_ar_heap (s : State) (m : Mode) : (setMode s m).ar.heap = s.ar.heap := rfl
@[simp] theorem setMode_ar_heapWait (s : State) (m : Mode) : (setMode s m).ar.heapWait = s.ar.heapWait := rfl
@[simp] theorem setMode_ar_open_ (s : State) (m : Mode) : (setMode s m).ar.open_ = s.ar.open_ := rfl
@[simp] theorem setMode_ar_flight (s : State) (m : Mode) : (setMode s m).ar.flight = s.ar.flight := rfl
@[simp] theorem setMode_ar_bells (s : State) (m : Mode) : (setMode s m).ar.bells = s.ar.bells := rfl
@[simp] theorem setMode_ar_strobes (s : State) (m : Mode) : (setMode s m).ar.strobes = s.ar.strobes := rfl
@[simp] theorem setMode_ar_strobeAt (s : State) (m : Mode) : (setMode s m).ar.strobeAt = s.ar.strobeAt := rfl

@[simp] theorem setMode_busyAt (s : State) (m : Mode) : (setMode s m).ar.busyAt = now s := rfl
@[simp] theorem setMode_mode (s : State) (m : Mode) : (setMode s m).md.mode = m := rfl
@[simp] theorem setMode_prev (s : State) (m : Mode) : (setMode s m).md.prev = s.md.mode := rfl
@[simp] theorem setMode_seq (s : State) (m : Mode) : (setMode s m).md.seq = s.md.seq + 1 := rfl
@[simp] theorem setMode_md_engineEn (s : State) (m : Mode) : (setMode s m).md.engineEn = s.md.engineEn := rfl
@[simp] theorem setMode_md_lock (s : State) (m : Mode) : (setMode s m).md.lock = s.md.lock := rfl
@[simp] theorem setMode_md_lockTaken (s : State) (m : Mode) : (setMode s m).md.lockTaken = s.md.lockTaken := rfl


@[simp] theorem noteBusy_md (s : State) : (noteBusy s).md = s.md := rfl
@[simp] theorem noteBusy_ctl (s : State) : (noteBusy s).ctl = s.ctl := rfl
@[simp] theorem noteBusy_status (s : State) : (noteBusy s).status = s.status := rfl
@[simp] theorem noteBusy_cnt (s : State) : (noteBusy s).cnt = s.cnt := rfl
@[simp] theorem noteBusy_tm (s : State) : (noteBusy s).tm = s.tm := rfl
@[simp] theorem noteBusy_pw (s : State) : (noteBusy s).pw = s.pw := rfl
@[simp] theorem noteBusy_ao (s : State) : (noteBusy s).ao = s.ao := rfl
@[simp] theorem noteBusy_ap (s : State) : (noteBusy s).ap = s.ap := rfl
@[simp] theorem noteBusy_fu (s : State) : (noteBusy s).fu = s.fu := rfl
@[simp] theorem noteBusy_eaM (s : State) : (noteBusy s).eaM = s.eaM := rfl
@[simp] theorem noteBusy_eaT (s : State) : (noteBusy s).eaT = s.eaT := rfl
@[simp] theorem noteBusy_dcM (s : State) : (noteBusy s).dcM = s.dcM := rfl
@[simp] theorem noteBusy_dcS (s : State) : (noteBusy s).dcS = s.dcS := rfl
@[simp] theorem noteBusy_flt (s : State) : (noteBusy s).flt = s.flt := rfl
@[simp] theorem noteBusy_jn (s : State) : (noteBusy s).jn = s.jn := rfl
@[simp] theorem noteBusy_vat (s : State) : (noteBusy s).vat = s.vat := rfl
@[simp] theorem noteBusy_ws (s : State) : (noteBusy s).ws = s.ws := rfl
@[simp] theorem noteBusy_vs (s : State) : (noteBusy s).vs = s.vs := rfl
@[simp] theorem noteBusy_ts (s : State) : (noteBusy s).ts = s.ts := rfl
@[simp] theorem noteBusy_io (s : State) : (noteBusy s).io = s.io := rfl
@[simp] theorem noteBusy_free (s : State) : (noteBusy s).free = s.free := rfl
@[simp] theorem noteBusy_pending (s : State) : (noteBusy s).pending = s.pending := rfl

@[simp] theorem noteBusy_ar_heap (s : State) : (noteBusy s).ar.heap = s.ar.heap := rfl
@[simp] theorem noteBusy_ar_heapWait (s : State) : (noteBusy s).ar.heapWait = s.ar.heapWait := rfl
@[simp] theorem noteBusy_ar_open_ (s : State) : (noteBusy s).ar.open_ = s.ar.open_ := rfl
@[simp] theorem noteBusy_ar_flight (s : State) : (noteBusy s).ar.flight = s.ar.flight := rfl
@[simp] theorem noteBusy_ar_bells (s : State) : (noteBusy s).ar.bells = s.ar.bells := rfl
@[simp] theorem noteBusy_ar_strobes (s : State) : (noteBusy s).ar.strobes = s.ar.strobes := rfl
@[simp] theorem noteBusy_ar_strobeAt (s : State) : (noteBusy s).ar.strobeAt = s.ar.strobeAt := rfl

@[simp] theorem noteBusy_busyAt (s : State) : (noteBusy s).ar.busyAt = now s := rfl
@[simp] theorem noteBusy_noteBusy (s : State) : noteBusy (noteBusy s) = noteBusy s := rfl

/-! ### The vector store -/

@[simp] theorem enqueue_md (s : State) (h : Nat) : (enqueue s h).md = s.md := by unfold enqueue; split <;> rfl
@[simp] theorem enqueue_ctl (s : State) (h : Nat) : (enqueue s h).ctl = s.ctl := by unfold enqueue; split <;> rfl
@[simp] theorem enqueue_status (s : State) (h : Nat) : (enqueue s h).status = s.status := by unfold enqueue; split <;> rfl
@[simp] theorem enqueue_cnt (s : State) (h : Nat) : (enqueue s h).cnt = s.cnt := by unfold enqueue; split <;> rfl
@[simp] theorem enqueue_tm (s : State) (h : Nat) : (enqueue s h).tm = s.tm := by unfold enqueue; split <;> rfl
@[simp] theorem enqueue_pw (s : State) (h : Nat) : (enqueue s h).pw = s.pw := by unfold enqueue; split <;> rfl
@[simp] theorem enqueue_ao (s : State) (h : Nat) : (enqueue s h).ao = s.ao := by unfold enqueue; split <;> rfl
@[simp] theorem enqueue_ap (s : State) (h : Nat) : (enqueue s h).ap = s.ap := by unfold enqueue; split <;> rfl
@[simp] theorem enqueue_fu (s : State) (h : Nat) : (enqueue s h).fu = s.fu := by unfold enqueue; split <;> rfl
@[simp] theorem enqueue_eaM (s : State) (h : Nat) : (enqueue s h).eaM = s.eaM := by unfold enqueue; split <;> rfl
@[simp] theorem enqueue_eaT (s : State) (h : Nat) : (enqueue s h).eaT = s.eaT := by unfold enqueue; split <;> rfl
@[simp] theorem enqueue_dcM (s : State) (h : Nat) : (enqueue s h).dcM = s.dcM := by unfold enqueue; split <;> rfl
@[simp] theorem enqueue_dcS (s : State) (h : Nat) : (enqueue s h).dcS = s.dcS := by unfold enqueue; split <;> rfl
@[simp] theorem enqueue_flt (s : State) (h : Nat) : (enqueue s h).flt = s.flt := by unfold enqueue; split <;> rfl
@[simp] theorem enqueue_jn (s : State) (h : Nat) : (enqueue s h).jn = s.jn := by unfold enqueue; split <;> rfl
@[simp] theorem enqueue_vat (s : State) (h : Nat) : (enqueue s h).vat = s.vat := by unfold enqueue; split <;> rfl
@[simp] theorem enqueue_ws (s : State) (h : Nat) : (enqueue s h).ws = s.ws := by unfold enqueue; split <;> rfl
@[simp] theorem enqueue_ts (s : State) (h : Nat) : (enqueue s h).ts = s.ts := by unfold enqueue; split <;> rfl
@[simp] theorem enqueue_ar (s : State) (h : Nat) : (enqueue s h).ar = s.ar := by unfold enqueue; split <;> rfl
@[simp] theorem enqueue_io (s : State) (h : Nat) : (enqueue s h).io = s.io := by unfold enqueue; split <;> rfl
@[simp] theorem enqueue_free (s : State) (h : Nat) : (enqueue s h).free = s.free := by unfold enqueue; split <;> rfl
@[simp] theorem enqueue_pending (s : State) (h : Nat) : (enqueue s h).pending = s.pending := by unfold enqueue; split <;> rfl
@[simp] theorem enqueue_vs_vtes (s : State) (h : Nat) : (enqueue s h).vs.vtes = s.vs.vtes := by unfold enqueue; split <;> rfl
@[simp] theorem enqueue_vs_vecs (s : State) (h : Nat) : (enqueue s h).vs.vecs = s.vs.vecs := by unfold enqueue; split <;> rfl
@[simp] theorem enqueue_vs_ring (s : State) (h : Nat) : (enqueue s h).vs.ring = s.vs.ring := by unfold enqueue; split <;> rfl
@[simp] theorem enqueue_vs_pinned (s : State) (h : Nat) : (enqueue s h).vs.pinned = s.vs.pinned := by unfold enqueue; split <;> rfl
@[simp] theorem enqueue_vs_spilled (s : State) (h : Nat) : (enqueue s h).vs.spilled = s.vs.spilled := by unfold enqueue; split <;> rfl
@[simp] theorem enqueue_vs_calendar (s : State) (h : Nat) : (enqueue s h).vs.calendar = s.vs.calendar := by unfold enqueue; split <;> rfl
@[simp] theorem enqueue_vs_sweepList (s : State) (h : Nat) : (enqueue s h).vs.sweepList = s.vs.sweepList := by unfold enqueue; split <;> rfl
@[simp] theorem enqueue_vs_dirty (s : State) (h : Nat) : (enqueue s h).vs.dirty = s.vs.dirty := by unfold enqueue; split <;> rfl
@[simp] theorem enqueue_vs_owed (s : State) (h : Nat) : (enqueue s h).vs.owed = s.vs.owed := by unfold enqueue; split <;> rfl
@[simp] theorem enqueue_vs_away (s : State) (h : Nat) : (enqueue s h).vs.away = s.vs.away := by unfold enqueue; split <;> rfl
@[simp] theorem enqueue_vs_reload (s : State) (h : Nat) : (enqueue s h).vs.reload = s.vs.reload := by unfold enqueue; split <;> rfl
@[simp] theorem vecOf_enqueue (s : State) (h k : Nat) : vecOf (enqueue s h) k = vecOf s k := by simp [vecOf]

@[simp] theorem vecPut_md (s : State) (h : Nat) (v : Vec) : (vecPut s h v).md = s.md := rfl
@[simp] theorem vecPut_ctl (s : State) (h : Nat) (v : Vec) : (vecPut s h v).ctl = s.ctl := rfl
@[simp] theorem vecPut_status (s : State) (h : Nat) (v : Vec) : (vecPut s h v).status = s.status := rfl
@[simp] theorem vecPut_cnt (s : State) (h : Nat) (v : Vec) : (vecPut s h v).cnt = s.cnt := rfl
@[simp] theorem vecPut_tm (s : State) (h : Nat) (v : Vec) : (vecPut s h v).tm = s.tm := rfl
@[simp] theorem vecPut_pw (s : State) (h : Nat) (v : Vec) : (vecPut s h v).pw = s.pw := rfl
@[simp] theorem vecPut_ao (s : State) (h : Nat) (v : Vec) : (vecPut s h v).ao = s.ao := rfl
@[simp] theorem vecPut_ap (s : State) (h : Nat) (v : Vec) : (vecPut s h v).ap = s.ap := rfl
@[simp] theorem vecPut_fu (s : State) (h : Nat) (v : Vec) : (vecPut s h v).fu = s.fu := rfl
@[simp] theorem vecPut_eaM (s : State) (h : Nat) (v : Vec) : (vecPut s h v).eaM = s.eaM := rfl
@[simp] theorem vecPut_eaT (s : State) (h : Nat) (v : Vec) : (vecPut s h v).eaT = s.eaT := rfl
@[simp] theorem vecPut_dcM (s : State) (h : Nat) (v : Vec) : (vecPut s h v).dcM = s.dcM := rfl
@[simp] theorem vecPut_dcS (s : State) (h : Nat) (v : Vec) : (vecPut s h v).dcS = s.dcS := rfl
@[simp] theorem vecPut_flt (s : State) (h : Nat) (v : Vec) : (vecPut s h v).flt = s.flt := rfl
@[simp] theorem vecPut_jn (s : State) (h : Nat) (v : Vec) : (vecPut s h v).jn = s.jn := rfl
@[simp] theorem vecPut_vat (s : State) (h : Nat) (v : Vec) : (vecPut s h v).vat = s.vat := rfl
@[simp] theorem vecPut_ws (s : State) (h : Nat) (v : Vec) : (vecPut s h v).ws = s.ws := rfl
@[simp] theorem vecPut_ts (s : State) (h : Nat) (v : Vec) : (vecPut s h v).ts = s.ts := rfl
@[simp] theorem vecPut_ar (s : State) (h : Nat) (v : Vec) : (vecPut s h v).ar = s.ar := rfl
@[simp] theorem vecPut_io (s : State) (h : Nat) (v : Vec) : (vecPut s h v).io = s.io := rfl
@[simp] theorem vecPut_free (s : State) (h : Nat) (v : Vec) : (vecPut s h v).free = s.free := rfl
@[simp] theorem vecPut_pending (s : State) (h : Nat) (v : Vec) : (vecPut s h v).pending = s.pending := rfl

@[simp] theorem vecPut_vs_vtes (s : State) (h : Nat) (v : Vec) : (vecPut s h v).vs.vtes = s.vs.vtes := rfl
@[simp] theorem vecPut_vs_ring (s : State) (h : Nat) (v : Vec) : (vecPut s h v).vs.ring = s.vs.ring := rfl
@[simp] theorem vecPut_vs_pinned (s : State) (h : Nat) (v : Vec) : (vecPut s h v).vs.pinned = s.vs.pinned := rfl
@[simp] theorem vecPut_vs_spilled (s : State) (h : Nat) (v : Vec) : (vecPut s h v).vs.spilled = s.vs.spilled := rfl
@[simp] theorem vecPut_vs_calendar (s : State) (h : Nat) (v : Vec) : (vecPut s h v).vs.calendar = s.vs.calendar := rfl
@[simp] theorem vecPut_vs_sweepList (s : State) (h : Nat) (v : Vec) : (vecPut s h v).vs.sweepList = s.vs.sweepList := rfl
@[simp] theorem vecPut_vs_dirty (s : State) (h : Nat) (v : Vec) : (vecPut s h v).vs.dirty = s.vs.dirty := rfl
@[simp] theorem vecPut_vs_owed (s : State) (h : Nat) (v : Vec) : (vecPut s h v).vs.owed = s.vs.owed := rfl
@[simp] theorem vecPut_vs_away (s : State) (h : Nat) (v : Vec) : (vecPut s h v).vs.away = s.vs.away := rfl
@[simp] theorem vecPut_vs_queue (s : State) (h : Nat) (v : Vec) : (vecPut s h v).vs.queue = s.vs.queue := rfl
@[simp] theorem vecPut_vs_reload (s : State) (h : Nat) (v : Vec) : (vecPut s h v).vs.reload = s.vs.reload := rfl

@[simp] theorem vecOf_vecPut_same (s : State) (h : Nat) (v : Vec) : vecOf (vecPut s h v) h = v := by simp [vecOf, vecPut]
theorem vecOf_vecPut_ne (s : State) {k h : Nat} (v : Vec) (n : k ≠ h) : vecOf (vecPut s h v) k = vecOf s k := by simp [vecOf, vecPut, find_put_ne n]

@[simp] theorem vtePut_md (s : State) (h : Nat) (v : Vte) : (vtePut s h v).md = s.md := rfl
@[simp] theorem vtePut_ctl (s : State) (h : Nat) (v : Vte) : (vtePut s h v).ctl = s.ctl := rfl
@[simp] theorem vtePut_status (s : State) (h : Nat) (v : Vte) : (vtePut s h v).status = s.status := rfl
@[simp] theorem vtePut_cnt (s : State) (h : Nat) (v : Vte) : (vtePut s h v).cnt = s.cnt := rfl
@[simp] theorem vtePut_tm (s : State) (h : Nat) (v : Vte) : (vtePut s h v).tm = s.tm := rfl
@[simp] theorem vtePut_pw (s : State) (h : Nat) (v : Vte) : (vtePut s h v).pw = s.pw := rfl
@[simp] theorem vtePut_ao (s : State) (h : Nat) (v : Vte) : (vtePut s h v).ao = s.ao := rfl
@[simp] theorem vtePut_ap (s : State) (h : Nat) (v : Vte) : (vtePut s h v).ap = s.ap := rfl
@[simp] theorem vtePut_fu (s : State) (h : Nat) (v : Vte) : (vtePut s h v).fu = s.fu := rfl
@[simp] theorem vtePut_eaM (s : State) (h : Nat) (v : Vte) : (vtePut s h v).eaM = s.eaM := rfl
@[simp] theorem vtePut_eaT (s : State) (h : Nat) (v : Vte) : (vtePut s h v).eaT = s.eaT := rfl
@[simp] theorem vtePut_dcM (s : State) (h : Nat) (v : Vte) : (vtePut s h v).dcM = s.dcM := rfl
@[simp] theorem vtePut_dcS (s : State) (h : Nat) (v : Vte) : (vtePut s h v).dcS = s.dcS := rfl
@[simp] theorem vtePut_flt (s : State) (h : Nat) (v : Vte) : (vtePut s h v).flt = s.flt := rfl
@[simp] theorem vtePut_jn (s : State) (h : Nat) (v : Vte) : (vtePut s h v).jn = s.jn := rfl
@[simp] theorem vtePut_vat (s : State) (h : Nat) (v : Vte) : (vtePut s h v).vat = s.vat := rfl
@[simp] theorem vtePut_ws (s : State) (h : Nat) (v : Vte) : (vtePut s h v).ws = s.ws := rfl
@[simp] theorem vtePut_ts (s : State) (h : Nat) (v : Vte) : (vtePut s h v).ts = s.ts := rfl
@[simp] theorem vtePut_ar (s : State) (h : Nat) (v : Vte) : (vtePut s h v).ar = s.ar := rfl
@[simp] theorem vtePut_io (s : State) (h : Nat) (v : Vte) : (vtePut s h v).io = s.io := rfl
@[simp] theorem vtePut_free (s : State) (h : Nat) (v : Vte) : (vtePut s h v).free = s.free := rfl
@[simp] theorem vtePut_pending (s : State) (h : Nat) (v : Vte) : (vtePut s h v).pending = s.pending := rfl

@[simp] theorem vtePut_vs_vecs (s : State) (h : Nat) (v : Vte) : (vtePut s h v).vs.vecs = s.vs.vecs := rfl
@[simp] theorem vtePut_vs_ring (s : State) (h : Nat) (v : Vte) : (vtePut s h v).vs.ring = s.vs.ring := rfl
@[simp] theorem vtePut_vs_pinned (s : State) (h : Nat) (v : Vte) : (vtePut s h v).vs.pinned = s.vs.pinned := rfl
@[simp] theorem vtePut_vs_spilled (s : State) (h : Nat) (v : Vte) : (vtePut s h v).vs.spilled = s.vs.spilled := rfl
@[simp] theorem vtePut_vs_calendar (s : State) (h : Nat) (v : Vte) : (vtePut s h v).vs.calendar = s.vs.calendar := rfl
@[simp] theorem vtePut_vs_sweepList (s : State) (h : Nat) (v : Vte) : (vtePut s h v).vs.sweepList = s.vs.sweepList := rfl
@[simp] theorem vtePut_vs_dirty (s : State) (h : Nat) (v : Vte) : (vtePut s h v).vs.dirty = s.vs.dirty := rfl
@[simp] theorem vtePut_vs_owed (s : State) (h : Nat) (v : Vte) : (vtePut s h v).vs.owed = s.vs.owed := rfl
@[simp] theorem vtePut_vs_away (s : State) (h : Nat) (v : Vte) : (vtePut s h v).vs.away = s.vs.away := rfl
@[simp] theorem vtePut_vs_queue (s : State) (h : Nat) (v : Vte) : (vtePut s h v).vs.queue = s.vs.queue := rfl
@[simp] theorem vtePut_vs_reload (s : State) (h : Nat) (v : Vte) : (vtePut s h v).vs.reload = s.vs.reload := rfl

@[simp] theorem vteOn_vtePut_same (s : State) (h : Nat) (v : Vte) : vteOn (vtePut s h v) h = some v := by simp [vteOn, vtePut]
theorem vteOn_vtePut_ne (s : State) {k h : Nat} (v : Vte) (n : k ≠ h) : vteOn (vtePut s h v) k = vteOn s k := by simp [vteOn, vtePut, find_put_ne n]

@[simp] theorem awayPut_md (s : State) (h : Nat) (x : Snap) : (awayPut s h x).md = s.md := rfl
@[simp] theorem awayPut_ctl (s : State) (h : Nat) (x : Snap) : (awayPut s h x).ctl = s.ctl := rfl
@[simp] theorem awayPut_status (s : State) (h : Nat) (x : Snap) : (awayPut s h x).status = s.status := rfl
@[simp] theorem awayPut_cnt (s : State) (h : Nat) (x : Snap) : (awayPut s h x).cnt = s.cnt := rfl
@[simp] theorem awayPut_tm (s : State) (h : Nat) (x : Snap) : (awayPut s h x).tm = s.tm := rfl
@[simp] theorem awayPut_pw (s : State) (h : Nat) (x : Snap) : (awayPut s h x).pw = s.pw := rfl
@[simp] theorem awayPut_ao (s : State) (h : Nat) (x : Snap) : (awayPut s h x).ao = s.ao := rfl
@[simp] theorem awayPut_ap (s : State) (h : Nat) (x : Snap) : (awayPut s h x).ap = s.ap := rfl
@[simp] theorem awayPut_fu (s : State) (h : Nat) (x : Snap) : (awayPut s h x).fu = s.fu := rfl
@[simp] theorem awayPut_eaM (s : State) (h : Nat) (x : Snap) : (awayPut s h x).eaM = s.eaM := rfl
@[simp] theorem awayPut_eaT (s : State) (h : Nat) (x : Snap) : (awayPut s h x).eaT = s.eaT := rfl
@[simp] theorem awayPut_dcM (s : State) (h : Nat) (x : Snap) : (awayPut s h x).dcM = s.dcM := rfl
@[simp] theorem awayPut_dcS (s : State) (h : Nat) (x : Snap) : (awayPut s h x).dcS = s.dcS := rfl
@[simp] theorem awayPut_flt (s : State) (h : Nat) (x : Snap) : (awayPut s h x).flt = s.flt := rfl
@[simp] theorem awayPut_jn (s : State) (h : Nat) (x : Snap) : (awayPut s h x).jn = s.jn := rfl
@[simp] theorem awayPut_vat (s : State) (h : Nat) (x : Snap) : (awayPut s h x).vat = s.vat := rfl
@[simp] theorem awayPut_ws (s : State) (h : Nat) (x : Snap) : (awayPut s h x).ws = s.ws := rfl
@[simp] theorem awayPut_ts (s : State) (h : Nat) (x : Snap) : (awayPut s h x).ts = s.ts := rfl
@[simp] theorem awayPut_ar (s : State) (h : Nat) (x : Snap) : (awayPut s h x).ar = s.ar := rfl
@[simp] theorem awayPut_io (s : State) (h : Nat) (x : Snap) : (awayPut s h x).io = s.io := rfl
@[simp] theorem awayPut_free (s : State) (h : Nat) (x : Snap) : (awayPut s h x).free = s.free := rfl
@[simp] theorem awayPut_pending (s : State) (h : Nat) (x : Snap) : (awayPut s h x).pending = s.pending := rfl

@[simp] theorem awayPut_vs_vtes (s : State) (h : Nat) (x : Snap) : (awayPut s h x).vs.vtes = s.vs.vtes := rfl
@[simp] theorem awayPut_vs_vecs (s : State) (h : Nat) (x : Snap) : (awayPut s h x).vs.vecs = s.vs.vecs := rfl
@[simp] theorem awayPut_vs_ring (s : State) (h : Nat) (x : Snap) : (awayPut s h x).vs.ring = s.vs.ring := rfl
@[simp] theorem awayPut_vs_pinned (s : State) (h : Nat) (x : Snap) : (awayPut s h x).vs.pinned = s.vs.pinned := rfl
@[simp] theorem awayPut_vs_spilled (s : State) (h : Nat) (x : Snap) : (awayPut s h x).vs.spilled = s.vs.spilled := rfl
@[simp] theorem awayPut_vs_calendar (s : State) (h : Nat) (x : Snap) : (awayPut s h x).vs.calendar = s.vs.calendar := rfl
@[simp] theorem awayPut_vs_sweepList (s : State) (h : Nat) (x : Snap) : (awayPut s h x).vs.sweepList = s.vs.sweepList := rfl
@[simp] theorem awayPut_vs_dirty (s : State) (h : Nat) (x : Snap) : (awayPut s h x).vs.dirty = s.vs.dirty := rfl
@[simp] theorem awayPut_vs_owed (s : State) (h : Nat) (x : Snap) : (awayPut s h x).vs.owed = s.vs.owed := rfl
@[simp] theorem awayPut_vs_queue (s : State) (h : Nat) (x : Snap) : (awayPut s h x).vs.queue = s.vs.queue := rfl
@[simp] theorem awayPut_vs_reload (s : State) (h : Nat) (x : Snap) : (awayPut s h x).vs.reload = s.vs.reload := rfl

@[simp] theorem awaySnap_awayPut_same (s : State) (h : Nat) (x : Snap) : awaySnap (awayPut s h x) h = x := by simp [awaySnap, awayPut]
theorem awaySnap_awayPut_ne (s : State) {k h : Nat} (x : Snap) (n : k ≠ h) : awaySnap (awayPut s h x) k = awaySnap s k := by simp [awaySnap, awayPut, find_put_ne n]

/-! ### The target store -/

@[simp] theorem tgtPut_md (s : State) (t : Nat) (g : Tgt) : (tgtPut s t g).md = s.md := rfl
@[simp] theorem tgtPut_ctl (s : State) (t : Nat) (g : Tgt) : (tgtPut s t g).ctl = s.ctl := rfl
@[simp] theorem tgtPut_status (s : State) (t : Nat) (g : Tgt) : (tgtPut s t g).status = s.status := rfl
@[simp] theorem tgtPut_cnt (s : State) (t : Nat) (g : Tgt) : (tgtPut s t g).cnt = s.cnt := rfl
@[simp] theorem tgtPut_tm (s : State) (t : Nat) (g : Tgt) : (tgtPut s t g).tm = s.tm := rfl
@[simp] theorem tgtPut_pw (s : State) (t : Nat) (g : Tgt) : (tgtPut s t g).pw = s.pw := rfl
@[simp] theorem tgtPut_ao (s : State) (t : Nat) (g : Tgt) : (tgtPut s t g).ao = s.ao := rfl
@[simp] theorem tgtPut_ap (s : State) (t : Nat) (g : Tgt) : (tgtPut s t g).ap = s.ap := rfl
@[simp] theorem tgtPut_fu (s : State) (t : Nat) (g : Tgt) : (tgtPut s t g).fu = s.fu := rfl
@[simp] theorem tgtPut_eaM (s : State) (t : Nat) (g : Tgt) : (tgtPut s t g).eaM = s.eaM := rfl
@[simp] theorem tgtPut_eaT (s : State) (t : Nat) (g : Tgt) : (tgtPut s t g).eaT = s.eaT := rfl
@[simp] theorem tgtPut_dcM (s : State) (t : Nat) (g : Tgt) : (tgtPut s t g).dcM = s.dcM := rfl
@[simp] theorem tgtPut_dcS (s : State) (t : Nat) (g : Tgt) : (tgtPut s t g).dcS = s.dcS := rfl
@[simp] theorem tgtPut_flt (s : State) (t : Nat) (g : Tgt) : (tgtPut s t g).flt = s.flt := rfl
@[simp] theorem tgtPut_jn (s : State) (t : Nat) (g : Tgt) : (tgtPut s t g).jn = s.jn := rfl
@[simp] theorem tgtPut_vat (s : State) (t : Nat) (g : Tgt) : (tgtPut s t g).vat = s.vat := rfl
@[simp] theorem tgtPut_ws (s : State) (t : Nat) (g : Tgt) : (tgtPut s t g).ws = s.ws := rfl
@[simp] theorem tgtPut_vs (s : State) (t : Nat) (g : Tgt) : (tgtPut s t g).vs = s.vs := rfl
@[simp] theorem tgtPut_ar (s : State) (t : Nat) (g : Tgt) : (tgtPut s t g).ar = s.ar := rfl
@[simp] theorem tgtPut_io (s : State) (t : Nat) (g : Tgt) : (tgtPut s t g).io = s.io := rfl
@[simp] theorem tgtPut_free (s : State) (t : Nat) (g : Tgt) : (tgtPut s t g).free = s.free := rfl
@[simp] theorem tgtPut_pending (s : State) (t : Nat) (g : Tgt) : (tgtPut s t g).pending = s.pending := rfl

@[simp] theorem tgtPut_ts_groups (s : State) (t : Nat) (g : Tgt) : (tgtPut s t g).ts.groups = s.ts.groups := rfl
@[simp] theorem tgtPut_ts_couches (s : State) (t : Nat) (g : Tgt) : (tgtPut s t g).ts.couches = s.ts.couches := rfl
@[simp] theorem tgtPut_ts_tenants (s : State) (t : Nat) (g : Tgt) : (tgtPut s t g).ts.tenants = s.ts.tenants := rfl
@[simp] theorem tgtPut_ts_keys (s : State) (t : Nat) (g : Tgt) : (tgtPut s t g).ts.keys = s.ts.keys := rfl
@[simp] theorem tgtPut_ts_lmem (s : State) (t : Nat) (g : Tgt) : (tgtPut s t g).ts.lmem = s.ts.lmem := rfl
@[simp] theorem tgtPut_ts_reload (s : State) (t : Nat) (g : Tgt) : (tgtPut s t g).ts.reload = s.ts.reload := rfl

@[simp] theorem tgtOf_tgtPut_same (s : State) (t : Nat) (g : Tgt) : tgtOf (tgtPut s t g) t = g := by simp [tgtOf, tgtPut]
theorem tgtOf_tgtPut_ne (s : State) {k t : Nat} (g : Tgt) (n : k ≠ t) : tgtOf (tgtPut s t g) k = tgtOf s k := by simp [tgtOf, tgtPut, find_put_ne n]

@[simp] theorem groupPut_md (s : State) (g : Nat) (x : Group) : (groupPut s g x).md = s.md := rfl
@[simp] theorem groupPut_ctl (s : State) (g : Nat) (x : Group) : (groupPut s g x).ctl = s.ctl := rfl
@[simp] theorem groupPut_status (s : State) (g : Nat) (x : Group) : (groupPut s g x).status = s.status := rfl
@[simp] theorem groupPut_cnt (s : State) (g : Nat) (x : Group) : (groupPut s g x).cnt = s.cnt := rfl
@[simp] theorem groupPut_tm (s : State) (g : Nat) (x : Group) : (groupPut s g x).tm = s.tm := rfl
@[simp] theorem groupPut_pw (s : State) (g : Nat) (x : Group) : (groupPut s g x).pw = s.pw := rfl
@[simp] theorem groupPut_ao (s : State) (g : Nat) (x : Group) : (groupPut s g x).ao = s.ao := rfl
@[simp] theorem groupPut_ap (s : State) (g : Nat) (x : Group) : (groupPut s g x).ap = s.ap := rfl
@[simp] theorem groupPut_fu (s : State) (g : Nat) (x : Group) : (groupPut s g x).fu = s.fu := rfl
@[simp] theorem groupPut_eaM (s : State) (g : Nat) (x : Group) : (groupPut s g x).eaM = s.eaM := rfl
@[simp] theorem groupPut_eaT (s : State) (g : Nat) (x : Group) : (groupPut s g x).eaT = s.eaT := rfl
@[simp] theorem groupPut_dcM (s : State) (g : Nat) (x : Group) : (groupPut s g x).dcM = s.dcM := rfl
@[simp] theorem groupPut_dcS (s : State) (g : Nat) (x : Group) : (groupPut s g x).dcS = s.dcS := rfl
@[simp] theorem groupPut_flt (s : State) (g : Nat) (x : Group) : (groupPut s g x).flt = s.flt := rfl
@[simp] theorem groupPut_jn (s : State) (g : Nat) (x : Group) : (groupPut s g x).jn = s.jn := rfl
@[simp] theorem groupPut_vat (s : State) (g : Nat) (x : Group) : (groupPut s g x).vat = s.vat := rfl
@[simp] theorem groupPut_ws (s : State) (g : Nat) (x : Group) : (groupPut s g x).ws = s.ws := rfl
@[simp] theorem groupPut_vs (s : State) (g : Nat) (x : Group) : (groupPut s g x).vs = s.vs := rfl
@[simp] theorem groupPut_ar (s : State) (g : Nat) (x : Group) : (groupPut s g x).ar = s.ar := rfl
@[simp] theorem groupPut_io (s : State) (g : Nat) (x : Group) : (groupPut s g x).io = s.io := rfl
@[simp] theorem groupPut_free (s : State) (g : Nat) (x : Group) : (groupPut s g x).free = s.free := rfl
@[simp] theorem groupPut_pending (s : State) (g : Nat) (x : Group) : (groupPut s g x).pending = s.pending := rfl

@[simp] theorem groupPut_ts_targets (s : State) (g : Nat) (x : Group) : (groupPut s g x).ts.targets = s.ts.targets := rfl
@[simp] theorem groupPut_ts_couches (s : State) (g : Nat) (x : Group) : (groupPut s g x).ts.couches = s.ts.couches := rfl
@[simp] theorem groupPut_ts_tenants (s : State) (g : Nat) (x : Group) : (groupPut s g x).ts.tenants = s.ts.tenants := rfl
@[simp] theorem groupPut_ts_keys (s : State) (g : Nat) (x : Group) : (groupPut s g x).ts.keys = s.ts.keys := rfl
@[simp] theorem groupPut_ts_lmem (s : State) (g : Nat) (x : Group) : (groupPut s g x).ts.lmem = s.ts.lmem := rfl
@[simp] theorem groupPut_ts_dirty (s : State) (g : Nat) (x : Group) : (groupPut s g x).ts.dirty = s.ts.dirty := rfl
@[simp] theorem groupPut_ts_reload (s : State) (g : Nat) (x : Group) : (groupPut s g x).ts.reload = s.ts.reload := rfl

@[simp] theorem groupOf_groupPut_same (s : State) (g : Nat) (x : Group) : groupOf (groupPut s g x) g = x := by simp [groupOf, groupPut]

@[simp] theorem couchPut_md (s : State) (g : Nat) (c : Couch) : (couchPut s g c).md = s.md := rfl
@[simp] theorem couchPut_ctl (s : State) (g : Nat) (c : Couch) : (couchPut s g c).ctl = s.ctl := rfl
@[simp] theorem couchPut_status (s : State) (g : Nat) (c : Couch) : (couchPut s g c).status = s.status := rfl
@[simp] theorem couchPut_cnt (s : State) (g : Nat) (c : Couch) : (couchPut s g c).cnt = s.cnt := rfl
@[simp] theorem couchPut_tm (s : State) (g : Nat) (c : Couch) : (couchPut s g c).tm = s.tm := rfl
@[simp] theorem couchPut_pw (s : State) (g : Nat) (c : Couch) : (couchPut s g c).pw = s.pw := rfl
@[simp] theorem couchPut_ao (s : State) (g : Nat) (c : Couch) : (couchPut s g c).ao = s.ao := rfl
@[simp] theorem couchPut_ap (s : State) (g : Nat) (c : Couch) : (couchPut s g c).ap = s.ap := rfl
@[simp] theorem couchPut_fu (s : State) (g : Nat) (c : Couch) : (couchPut s g c).fu = s.fu := rfl
@[simp] theorem couchPut_eaM (s : State) (g : Nat) (c : Couch) : (couchPut s g c).eaM = s.eaM := rfl
@[simp] theorem couchPut_eaT (s : State) (g : Nat) (c : Couch) : (couchPut s g c).eaT = s.eaT := rfl
@[simp] theorem couchPut_dcM (s : State) (g : Nat) (c : Couch) : (couchPut s g c).dcM = s.dcM := rfl
@[simp] theorem couchPut_dcS (s : State) (g : Nat) (c : Couch) : (couchPut s g c).dcS = s.dcS := rfl
@[simp] theorem couchPut_flt (s : State) (g : Nat) (c : Couch) : (couchPut s g c).flt = s.flt := rfl
@[simp] theorem couchPut_jn (s : State) (g : Nat) (c : Couch) : (couchPut s g c).jn = s.jn := rfl
@[simp] theorem couchPut_vat (s : State) (g : Nat) (c : Couch) : (couchPut s g c).vat = s.vat := rfl
@[simp] theorem couchPut_ws (s : State) (g : Nat) (c : Couch) : (couchPut s g c).ws = s.ws := rfl
@[simp] theorem couchPut_vs (s : State) (g : Nat) (c : Couch) : (couchPut s g c).vs = s.vs := rfl
@[simp] theorem couchPut_ar (s : State) (g : Nat) (c : Couch) : (couchPut s g c).ar = s.ar := rfl
@[simp] theorem couchPut_io (s : State) (g : Nat) (c : Couch) : (couchPut s g c).io = s.io := rfl
@[simp] theorem couchPut_free (s : State) (g : Nat) (c : Couch) : (couchPut s g c).free = s.free := rfl
@[simp] theorem couchPut_pending (s : State) (g : Nat) (c : Couch) : (couchPut s g c).pending = s.pending := rfl

@[simp] theorem couchPut_ts_targets (s : State) (g : Nat) (c : Couch) : (couchPut s g c).ts.targets = s.ts.targets := rfl
@[simp] theorem couchPut_ts_groups (s : State) (g : Nat) (c : Couch) : (couchPut s g c).ts.groups = s.ts.groups := rfl
@[simp] theorem couchPut_ts_tenants (s : State) (g : Nat) (c : Couch) : (couchPut s g c).ts.tenants = s.ts.tenants := rfl
@[simp] theorem couchPut_ts_keys (s : State) (g : Nat) (c : Couch) : (couchPut s g c).ts.keys = s.ts.keys := rfl
@[simp] theorem couchPut_ts_lmem (s : State) (g : Nat) (c : Couch) : (couchPut s g c).ts.lmem = s.ts.lmem := rfl
@[simp] theorem couchPut_ts_dirty (s : State) (g : Nat) (c : Couch) : (couchPut s g c).ts.dirty = s.ts.dirty := rfl
@[simp] theorem couchPut_ts_reload (s : State) (g : Nat) (c : Couch) : (couchPut s g c).ts.reload = s.ts.reload := rfl

@[simp] theorem couchOf_couchPut_same (s : State) (g : Nat) (c : Couch) : couchOf (couchPut s g c) g = c := by simp [couchOf, couchPut]

@[simp] theorem tnPut_md (s : State) (t : Nat) (x : TenantSt) : (tnPut s t x).md = s.md := rfl
@[simp] theorem tnPut_ctl (s : State) (t : Nat) (x : TenantSt) : (tnPut s t x).ctl = s.ctl := rfl
@[simp] theorem tnPut_status (s : State) (t : Nat) (x : TenantSt) : (tnPut s t x).status = s.status := rfl
@[simp] theorem tnPut_cnt (s : State) (t : Nat) (x : TenantSt) : (tnPut s t x).cnt = s.cnt := rfl
@[simp] theorem tnPut_tm (s : State) (t : Nat) (x : TenantSt) : (tnPut s t x).tm = s.tm := rfl
@[simp] theorem tnPut_pw (s : State) (t : Nat) (x : TenantSt) : (tnPut s t x).pw = s.pw := rfl
@[simp] theorem tnPut_ao (s : State) (t : Nat) (x : TenantSt) : (tnPut s t x).ao = s.ao := rfl
@[simp] theorem tnPut_ap (s : State) (t : Nat) (x : TenantSt) : (tnPut s t x).ap = s.ap := rfl
@[simp] theorem tnPut_fu (s : State) (t : Nat) (x : TenantSt) : (tnPut s t x).fu = s.fu := rfl
@[simp] theorem tnPut_eaM (s : State) (t : Nat) (x : TenantSt) : (tnPut s t x).eaM = s.eaM := rfl
@[simp] theorem tnPut_eaT (s : State) (t : Nat) (x : TenantSt) : (tnPut s t x).eaT = s.eaT := rfl
@[simp] theorem tnPut_dcM (s : State) (t : Nat) (x : TenantSt) : (tnPut s t x).dcM = s.dcM := rfl
@[simp] theorem tnPut_dcS (s : State) (t : Nat) (x : TenantSt) : (tnPut s t x).dcS = s.dcS := rfl
@[simp] theorem tnPut_flt (s : State) (t : Nat) (x : TenantSt) : (tnPut s t x).flt = s.flt := rfl
@[simp] theorem tnPut_jn (s : State) (t : Nat) (x : TenantSt) : (tnPut s t x).jn = s.jn := rfl
@[simp] theorem tnPut_vat (s : State) (t : Nat) (x : TenantSt) : (tnPut s t x).vat = s.vat := rfl
@[simp] theorem tnPut_ws (s : State) (t : Nat) (x : TenantSt) : (tnPut s t x).ws = s.ws := rfl
@[simp] theorem tnPut_vs (s : State) (t : Nat) (x : TenantSt) : (tnPut s t x).vs = s.vs := rfl
@[simp] theorem tnPut_ar (s : State) (t : Nat) (x : TenantSt) : (tnPut s t x).ar = s.ar := rfl
@[simp] theorem tnPut_io (s : State) (t : Nat) (x : TenantSt) : (tnPut s t x).io = s.io := rfl
@[simp] theorem tnPut_free (s : State) (t : Nat) (x : TenantSt) : (tnPut s t x).free = s.free := rfl
@[simp] theorem tnPut_pending (s : State) (t : Nat) (x : TenantSt) : (tnPut s t x).pending = s.pending := rfl

@[simp] theorem tnPut_ts_targets (s : State) (t : Nat) (x : TenantSt) : (tnPut s t x).ts.targets = s.ts.targets := rfl
@[simp] theorem tnPut_ts_groups (s : State) (t : Nat) (x : TenantSt) : (tnPut s t x).ts.groups = s.ts.groups := rfl
@[simp] theorem tnPut_ts_couches (s : State) (t : Nat) (x : TenantSt) : (tnPut s t x).ts.couches = s.ts.couches := rfl
@[simp] theorem tnPut_ts_keys (s : State) (t : Nat) (x : TenantSt) : (tnPut s t x).ts.keys = s.ts.keys := rfl
@[simp] theorem tnPut_ts_lmem (s : State) (t : Nat) (x : TenantSt) : (tnPut s t x).ts.lmem = s.ts.lmem := rfl
@[simp] theorem tnPut_ts_dirty (s : State) (t : Nat) (x : TenantSt) : (tnPut s t x).ts.dirty = s.ts.dirty := rfl
@[simp] theorem tnPut_ts_reload (s : State) (t : Nat) (x : TenantSt) : (tnPut s t x).ts.reload = s.ts.reload := rfl

@[simp] theorem tnOf_tnPut_same (s : State) (t : Nat) (x : TenantSt) : tnOf (tnPut s t x) t = x := by simp [tnOf, tnPut]

/-! ### Units and parties -/

@[simp] theorem eaPut_md (s : State) (u : EaId) (e : EaUnit) : (eaPut s u e).md = s.md := by cases u <;> rfl
@[simp] theorem eaPut_ctl (s : State) (u : EaId) (e : EaUnit) : (eaPut s u e).ctl = s.ctl := by cases u <;> rfl
@[simp] theorem eaPut_status (s : State) (u : EaId) (e : EaUnit) : (eaPut s u e).status = s.status := by cases u <;> rfl
@[simp] theorem eaPut_cnt (s : State) (u : EaId) (e : EaUnit) : (eaPut s u e).cnt = s.cnt := by cases u <;> rfl
@[simp] theorem eaPut_tm (s : State) (u : EaId) (e : EaUnit) : (eaPut s u e).tm = s.tm := by cases u <;> rfl
@[simp] theorem eaPut_pw (s : State) (u : EaId) (e : EaUnit) : (eaPut s u e).pw = s.pw := by cases u <;> rfl
@[simp] theorem eaPut_ao (s : State) (u : EaId) (e : EaUnit) : (eaPut s u e).ao = s.ao := by cases u <;> rfl
@[simp] theorem eaPut_ap (s : State) (u : EaId) (e : EaUnit) : (eaPut s u e).ap = s.ap := by cases u <;> rfl
@[simp] theorem eaPut_fu (s : State) (u : EaId) (e : EaUnit) : (eaPut s u e).fu = s.fu := by cases u <;> rfl
@[simp] theorem eaPut_dcM (s : State) (u : EaId) (e : EaUnit) : (eaPut s u e).dcM = s.dcM := by cases u <;> rfl
@[simp] theorem eaPut_dcS (s : State) (u : EaId) (e : EaUnit) : (eaPut s u e).dcS = s.dcS := by cases u <;> rfl
@[simp] theorem eaPut_flt (s : State) (u : EaId) (e : EaUnit) : (eaPut s u e).flt = s.flt := by cases u <;> rfl
@[simp] theorem eaPut_jn (s : State) (u : EaId) (e : EaUnit) : (eaPut s u e).jn = s.jn := by cases u <;> rfl
@[simp] theorem eaPut_vat (s : State) (u : EaId) (e : EaUnit) : (eaPut s u e).vat = s.vat := by cases u <;> rfl
@[simp] theorem eaPut_ws (s : State) (u : EaId) (e : EaUnit) : (eaPut s u e).ws = s.ws := by cases u <;> rfl
@[simp] theorem eaPut_vs (s : State) (u : EaId) (e : EaUnit) : (eaPut s u e).vs = s.vs := by cases u <;> rfl
@[simp] theorem eaPut_ts (s : State) (u : EaId) (e : EaUnit) : (eaPut s u e).ts = s.ts := by cases u <;> rfl
@[simp] theorem eaPut_ar (s : State) (u : EaId) (e : EaUnit) : (eaPut s u e).ar = s.ar := by cases u <;> rfl
@[simp] theorem eaPut_io (s : State) (u : EaId) (e : EaUnit) : (eaPut s u e).io = s.io := by cases u <;> rfl
@[simp] theorem eaPut_free (s : State) (u : EaId) (e : EaUnit) : (eaPut s u e).free = s.free := by cases u <;> rfl
@[simp] theorem eaPut_pending (s : State) (u : EaId) (e : EaUnit) : (eaPut s u e).pending = s.pending := by cases u <;> rfl

@[simp] theorem eaOf_eaPut_same (s : State) (u : EaId) (e : EaUnit) : eaOf (eaPut s u e) u = e := by cases u <;> simp [eaOf, eaPut]

@[simp] theorem dcPut_md (s : State) (p : Party) (d : PartyUnit) : (dcPut s p d).md = s.md := by cases p <;> rfl
@[simp] theorem dcPut_ctl (s : State) (p : Party) (d : PartyUnit) : (dcPut s p d).ctl = s.ctl := by cases p <;> rfl
@[simp] theorem dcPut_status (s : State) (p : Party) (d : PartyUnit) : (dcPut s p d).status = s.status := by cases p <;> rfl
@[simp] theorem dcPut_cnt (s : State) (p : Party) (d : PartyUnit) : (dcPut s p d).cnt = s.cnt := by cases p <;> rfl
@[simp] theorem dcPut_tm (s : State) (p : Party) (d : PartyUnit) : (dcPut s p d).tm = s.tm := by cases p <;> rfl
@[simp] theorem dcPut_pw (s : State) (p : Party) (d : PartyUnit) : (dcPut s p d).pw = s.pw := by cases p <;> rfl
@[simp] theorem dcPut_ao (s : State) (p : Party) (d : PartyUnit) : (dcPut s p d).ao = s.ao := by cases p <;> rfl
@[simp] theorem dcPut_ap (s : State) (p : Party) (d : PartyUnit) : (dcPut s p d).ap = s.ap := by cases p <;> rfl
@[simp] theorem dcPut_fu (s : State) (p : Party) (d : PartyUnit) : (dcPut s p d).fu = s.fu := by cases p <;> rfl
@[simp] theorem dcPut_eaM (s : State) (p : Party) (d : PartyUnit) : (dcPut s p d).eaM = s.eaM := by cases p <;> rfl
@[simp] theorem dcPut_eaT (s : State) (p : Party) (d : PartyUnit) : (dcPut s p d).eaT = s.eaT := by cases p <;> rfl
@[simp] theorem dcPut_flt (s : State) (p : Party) (d : PartyUnit) : (dcPut s p d).flt = s.flt := by cases p <;> rfl
@[simp] theorem dcPut_jn (s : State) (p : Party) (d : PartyUnit) : (dcPut s p d).jn = s.jn := by cases p <;> rfl
@[simp] theorem dcPut_vat (s : State) (p : Party) (d : PartyUnit) : (dcPut s p d).vat = s.vat := by cases p <;> rfl
@[simp] theorem dcPut_ws (s : State) (p : Party) (d : PartyUnit) : (dcPut s p d).ws = s.ws := by cases p <;> rfl
@[simp] theorem dcPut_vs (s : State) (p : Party) (d : PartyUnit) : (dcPut s p d).vs = s.vs := by cases p <;> rfl
@[simp] theorem dcPut_ts (s : State) (p : Party) (d : PartyUnit) : (dcPut s p d).ts = s.ts := by cases p <;> rfl
@[simp] theorem dcPut_ar (s : State) (p : Party) (d : PartyUnit) : (dcPut s p d).ar = s.ar := by cases p <;> rfl
@[simp] theorem dcPut_io (s : State) (p : Party) (d : PartyUnit) : (dcPut s p d).io = s.io := by cases p <;> rfl
@[simp] theorem dcPut_free (s : State) (p : Party) (d : PartyUnit) : (dcPut s p d).free = s.free := by cases p <;> rfl
@[simp] theorem dcPut_pending (s : State) (p : Party) (d : PartyUnit) : (dcPut s p d).pending = s.pending := by cases p <;> rfl

@[simp] theorem dcOf_dcPut_same (s : State) (p : Party) (d : PartyUnit) : dcOf (dcPut s p d) p = d := by cases p <;> rfl
@[simp] theorem dcOf_dcPut_other (s : State) (p : Party) (d : PartyUnit) : dcOf (dcPut s p d) (otherParty p) = dcOf s (otherParty p) := by cases p <;> rfl

/-! ### Flags, answers and lines -/

@[simp] theorem raiseStatus_md (s : State) (f : Nat) : (raiseStatus s f).md = s.md := rfl
@[simp] theorem raiseStatus_ctl (s : State) (f : Nat) : (raiseStatus s f).ctl = s.ctl := rfl
@[simp] theorem raiseStatus_cnt (s : State) (f : Nat) : (raiseStatus s f).cnt = s.cnt := rfl
@[simp] theorem raiseStatus_tm (s : State) (f : Nat) : (raiseStatus s f).tm = s.tm := rfl
@[simp] theorem raiseStatus_pw (s : State) (f : Nat) : (raiseStatus s f).pw = s.pw := rfl
@[simp] theorem raiseStatus_ao (s : State) (f : Nat) : (raiseStatus s f).ao = s.ao := rfl
@[simp] theorem raiseStatus_ap (s : State) (f : Nat) : (raiseStatus s f).ap = s.ap := rfl
@[simp] theorem raiseStatus_fu (s : State) (f : Nat) : (raiseStatus s f).fu = s.fu := rfl
@[simp] theorem raiseStatus_eaM (s : State) (f : Nat) : (raiseStatus s f).eaM = s.eaM := rfl
@[simp] theorem raiseStatus_eaT (s : State) (f : Nat) : (raiseStatus s f).eaT = s.eaT := rfl
@[simp] theorem raiseStatus_dcM (s : State) (f : Nat) : (raiseStatus s f).dcM = s.dcM := rfl
@[simp] theorem raiseStatus_dcS (s : State) (f : Nat) : (raiseStatus s f).dcS = s.dcS := rfl
@[simp] theorem raiseStatus_flt (s : State) (f : Nat) : (raiseStatus s f).flt = s.flt := rfl
@[simp] theorem raiseStatus_jn (s : State) (f : Nat) : (raiseStatus s f).jn = s.jn := rfl
@[simp] theorem raiseStatus_vat (s : State) (f : Nat) : (raiseStatus s f).vat = s.vat := rfl
@[simp] theorem raiseStatus_ws (s : State) (f : Nat) : (raiseStatus s f).ws = s.ws := rfl
@[simp] theorem raiseStatus_vs (s : State) (f : Nat) : (raiseStatus s f).vs = s.vs := rfl
@[simp] theorem raiseStatus_ts (s : State) (f : Nat) : (raiseStatus s f).ts = s.ts := rfl
@[simp] theorem raiseStatus_ar (s : State) (f : Nat) : (raiseStatus s f).ar = s.ar := rfl
@[simp] theorem raiseStatus_io (s : State) (f : Nat) : (raiseStatus s f).io = s.io := rfl
@[simp] theorem raiseStatus_free (s : State) (f : Nat) : (raiseStatus s f).free = s.free := rfl
@[simp] theorem raiseStatus_pending (s : State) (f : Nat) : (raiseStatus s f).pending = s.pending := rfl

@[simp] theorem raiseStatus_status (s : State) (f : Nat) : (raiseStatus s f).status = s.status.raise f := rfl

@[simp] theorem fltRaise_md (s : State) (m : BitVec 24) : (fltRaise s m).md = s.md := rfl
@[simp] theorem fltRaise_ctl (s : State) (m : BitVec 24) : (fltRaise s m).ctl = s.ctl := rfl
@[simp] theorem fltRaise_status (s : State) (m : BitVec 24) : (fltRaise s m).status = s.status := rfl
@[simp] theorem fltRaise_cnt (s : State) (m : BitVec 24) : (fltRaise s m).cnt = s.cnt := rfl
@[simp] theorem fltRaise_tm (s : State) (m : BitVec 24) : (fltRaise s m).tm = s.tm := rfl
@[simp] theorem fltRaise_pw (s : State) (m : BitVec 24) : (fltRaise s m).pw = s.pw := rfl
@[simp] theorem fltRaise_ap (s : State) (m : BitVec 24) : (fltRaise s m).ap = s.ap := rfl
@[simp] theorem fltRaise_fu (s : State) (m : BitVec 24) : (fltRaise s m).fu = s.fu := rfl
@[simp] theorem fltRaise_eaM (s : State) (m : BitVec 24) : (fltRaise s m).eaM = s.eaM := rfl
@[simp] theorem fltRaise_eaT (s : State) (m : BitVec 24) : (fltRaise s m).eaT = s.eaT := rfl
@[simp] theorem fltRaise_dcM (s : State) (m : BitVec 24) : (fltRaise s m).dcM = s.dcM := rfl
@[simp] theorem fltRaise_dcS (s : State) (m : BitVec 24) : (fltRaise s m).dcS = s.dcS := rfl
@[simp] theorem fltRaise_jn (s : State) (m : BitVec 24) : (fltRaise s m).jn = s.jn := rfl
@[simp] theorem fltRaise_vat (s : State) (m : BitVec 24) : (fltRaise s m).vat = s.vat := rfl
@[simp] theorem fltRaise_ws (s : State) (m : BitVec 24) : (fltRaise s m).ws = s.ws := rfl
@[simp] theorem fltRaise_vs (s : State) (m : BitVec 24) : (fltRaise s m).vs = s.vs := rfl
@[simp] theorem fltRaise_ts (s : State) (m : BitVec 24) : (fltRaise s m).ts = s.ts := rfl
@[simp] theorem fltRaise_ar (s : State) (m : BitVec 24) : (fltRaise s m).ar = s.ar := rfl
@[simp] theorem fltRaise_io (s : State) (m : BitVec 24) : (fltRaise s m).io = s.io := rfl
@[simp] theorem fltRaise_free (s : State) (m : BitVec 24) : (fltRaise s m).free = s.free := rfl
@[simp] theorem fltRaise_pending (s : State) (m : BitVec 24) : (fltRaise s m).pending = s.pending := rfl

@[simp] theorem fltRaise_flt_fenced (s : State) (m : BitVec 24) : (fltRaise s m).flt.fenced = s.flt.fenced := rfl
@[simp] theorem fltRaise_flt_corr (s : State) (m : BitVec 24) : (fltRaise s m).flt.corr = s.flt.corr := rfl
@[simp] theorem fltRaise_flt_defer (s : State) (m : BitVec 24) : (fltRaise s m).flt.defer = s.flt.defer := rfl
@[simp] theorem fltRaise_flt_first (s : State) (m : BitVec 24) : (fltRaise s m).flt.first = s.flt.first := rfl
@[simp] theorem fltRaise_flt_inject (s : State) (m : BitVec 24) : (fltRaise s m).flt.inject = s.flt.inject := rfl
@[simp] theorem fltRaise_flt_fatal (s : State) (m : BitVec 24) : (fltRaise s m).flt.fatal = s.flt.fatal := rfl
@[simp] theorem fltRaise_flt_selfTest (s : State) (m : BitVec 24) : (fltRaise s m).flt.selfTest = s.flt.selfTest := rfl
@[simp] theorem fltRaise_flt_failPlane (s : State) (m : BitVec 24) : (fltRaise s m).flt.failPlane = s.flt.failPlane := rfl
@[simp] theorem fltRaise_flt_cdc (s : State) (m : BitVec 24) : (fltRaise s m).flt.cdc = s.flt.cdc := rfl
@[simp] theorem fltRaise_flt_beatStopped (s : State) (m : BitVec 24) : (fltRaise s m).flt.beatStopped = s.flt.beatStopped := rfl
@[simp] theorem fltRaise_flt_regStopped (s : State) (m : BitVec 24) : (fltRaise s m).flt.regStopped = s.flt.regStopped := rfl
@[simp] theorem fltRaise_flt_timeHeld (s : State) (m : BitVec 24) : (fltRaise s m).flt.timeHeld = s.flt.timeHeld := rfl
@[simp] theorem fltRaise_flt_regHeld (s : State) (m : BitVec 24) : (fltRaise s m).flt.regHeld = s.flt.regHeld := rfl

@[simp] theorem portAnswer_md (s : State) (p : Port) (w : Word) (e : Bool) : (portAnswer s p w e).md = s.md := by cases p <;> rfl
@[simp] theorem portAnswer_ctl (s : State) (p : Port) (w : Word) (e : Bool) : (portAnswer s p w e).ctl = s.ctl := by cases p <;> rfl
@[simp] theorem portAnswer_status (s : State) (p : Port) (w : Word) (e : Bool) : (portAnswer s p w e).status = s.status := by cases p <;> rfl
@[simp] theorem portAnswer_cnt (s : State) (p : Port) (w : Word) (e : Bool) : (portAnswer s p w e).cnt = s.cnt := by cases p <;> rfl
@[simp] theorem portAnswer_tm (s : State) (p : Port) (w : Word) (e : Bool) : (portAnswer s p w e).tm = s.tm := by cases p <;> rfl
@[simp] theorem portAnswer_pw (s : State) (p : Port) (w : Word) (e : Bool) : (portAnswer s p w e).pw = s.pw := by cases p <;> rfl
@[simp] theorem portAnswer_ao (s : State) (p : Port) (w : Word) (e : Bool) : (portAnswer s p w e).ao = s.ao := by cases p <;> rfl
@[simp] theorem portAnswer_ap (s : State) (p : Port) (w : Word) (e : Bool) : (portAnswer s p w e).ap = s.ap := by cases p <;> rfl
@[simp] theorem portAnswer_fu (s : State) (p : Port) (w : Word) (e : Bool) : (portAnswer s p w e).fu = s.fu := by cases p <;> rfl
@[simp] theorem portAnswer_eaM (s : State) (p : Port) (w : Word) (e : Bool) : (portAnswer s p w e).eaM = s.eaM := by cases p <;> rfl
@[simp] theorem portAnswer_eaT (s : State) (p : Port) (w : Word) (e : Bool) : (portAnswer s p w e).eaT = s.eaT := by cases p <;> rfl
@[simp] theorem portAnswer_dcM (s : State) (p : Port) (w : Word) (e : Bool) : (portAnswer s p w e).dcM = s.dcM := by cases p <;> rfl
@[simp] theorem portAnswer_dcS (s : State) (p : Port) (w : Word) (e : Bool) : (portAnswer s p w e).dcS = s.dcS := by cases p <;> rfl
@[simp] theorem portAnswer_flt (s : State) (p : Port) (w : Word) (e : Bool) : (portAnswer s p w e).flt = s.flt := by cases p <;> rfl
@[simp] theorem portAnswer_jn (s : State) (p : Port) (w : Word) (e : Bool) : (portAnswer s p w e).jn = s.jn := by cases p <;> rfl
@[simp] theorem portAnswer_vat (s : State) (p : Port) (w : Word) (e : Bool) : (portAnswer s p w e).vat = s.vat := by cases p <;> rfl
@[simp] theorem portAnswer_ws (s : State) (p : Port) (w : Word) (e : Bool) : (portAnswer s p w e).ws = s.ws := by cases p <;> rfl
@[simp] theorem portAnswer_vs (s : State) (p : Port) (w : Word) (e : Bool) : (portAnswer s p w e).vs = s.vs := by cases p <;> rfl
@[simp] theorem portAnswer_ts (s : State) (p : Port) (w : Word) (e : Bool) : (portAnswer s p w e).ts = s.ts := by cases p <;> rfl
@[simp] theorem portAnswer_ar (s : State) (p : Port) (w : Word) (e : Bool) : (portAnswer s p w e).ar = s.ar := by cases p <;> rfl
@[simp] theorem portAnswer_free (s : State) (p : Port) (w : Word) (e : Bool) : (portAnswer s p w e).free = s.free := by cases p <;> rfl
@[simp] theorem portAnswer_pending (s : State) (p : Port) (w : Word) (e : Bool) : (portAnswer s p w e).pending = s.pending := by cases p <;> rfl

@[simp] theorem portDone_md (s : State) (p : Port) : (portDone s p).md = s.md := by cases p <;> rfl
@[simp] theorem portDone_ctl (s : State) (p : Port) : (portDone s p).ctl = s.ctl := by cases p <;> rfl
@[simp] theorem portDone_status (s : State) (p : Port) : (portDone s p).status = s.status := by cases p <;> rfl
@[simp] theorem portDone_cnt (s : State) (p : Port) : (portDone s p).cnt = s.cnt := by cases p <;> rfl
@[simp] theorem portDone_tm (s : State) (p : Port) : (portDone s p).tm = s.tm := by cases p <;> rfl
@[simp] theorem portDone_pw (s : State) (p : Port) : (portDone s p).pw = s.pw := by cases p <;> rfl
@[simp] theorem portDone_ao (s : State) (p : Port) : (portDone s p).ao = s.ao := by cases p <;> rfl
@[simp] theorem portDone_ap (s : State) (p : Port) : (portDone s p).ap = s.ap := by cases p <;> rfl
@[simp] theorem portDone_fu (s : State) (p : Port) : (portDone s p).fu = s.fu := by cases p <;> rfl
@[simp] theorem portDone_eaM (s : State) (p : Port) : (portDone s p).eaM = s.eaM := by cases p <;> rfl
@[simp] theorem portDone_eaT (s : State) (p : Port) : (portDone s p).eaT = s.eaT := by cases p <;> rfl
@[simp] theorem portDone_dcM (s : State) (p : Port) : (portDone s p).dcM = s.dcM := by cases p <;> rfl
@[simp] theorem portDone_dcS (s : State) (p : Port) : (portDone s p).dcS = s.dcS := by cases p <;> rfl
@[simp] theorem portDone_flt (s : State) (p : Port) : (portDone s p).flt = s.flt := by cases p <;> rfl
@[simp] theorem portDone_jn (s : State) (p : Port) : (portDone s p).jn = s.jn := by cases p <;> rfl
@[simp] theorem portDone_vat (s : State) (p : Port) : (portDone s p).vat = s.vat := by cases p <;> rfl
@[simp] theorem portDone_ws (s : State) (p : Port) : (portDone s p).ws = s.ws := by cases p <;> rfl
@[simp] theorem portDone_vs (s : State) (p : Port) : (portDone s p).vs = s.vs := by cases p <;> rfl
@[simp] theorem portDone_ts (s : State) (p : Port) : (portDone s p).ts = s.ts := by cases p <;> rfl
@[simp] theorem portDone_ar (s : State) (p : Port) : (portDone s p).ar = s.ar := by cases p <;> rfl
@[simp] theorem portDone_free (s : State) (p : Port) : (portDone s p).free = s.free := by cases p <;> rfl
@[simp] theorem portDone_pending (s : State) (p : Port) : (portDone s p).pending = s.pending := by cases p <;> rfl

@[simp] theorem creditBack_md (s : State) (lane : Fin 4) : (creditBack s lane).md = s.md := rfl
@[simp] theorem creditBack_ctl (s : State) (lane : Fin 4) : (creditBack s lane).ctl = s.ctl := rfl
@[simp] theorem creditBack_status (s : State) (lane : Fin 4) : (creditBack s lane).status = s.status := rfl
@[simp] theorem creditBack_cnt (s : State) (lane : Fin 4) : (creditBack s lane).cnt = s.cnt := rfl
@[simp] theorem creditBack_tm (s : State) (lane : Fin 4) : (creditBack s lane).tm = s.tm := rfl
@[simp] theorem creditBack_pw (s : State) (lane : Fin 4) : (creditBack s lane).pw = s.pw := rfl
@[simp] theorem creditBack_ao (s : State) (lane : Fin 4) : (creditBack s lane).ao = s.ao := rfl
@[simp] theorem creditBack_ap (s : State) (lane : Fin 4) : (creditBack s lane).ap = s.ap := rfl
@[simp] theorem creditBack_fu (s : State) (lane : Fin 4) : (creditBack s lane).fu = s.fu := rfl
@[simp] theorem creditBack_eaM (s : State) (lane : Fin 4) : (creditBack s lane).eaM = s.eaM := rfl
@[simp] theorem creditBack_eaT (s : State) (lane : Fin 4) : (creditBack s lane).eaT = s.eaT := rfl
@[simp] theorem creditBack_dcM (s : State) (lane : Fin 4) : (creditBack s lane).dcM = s.dcM := rfl
@[simp] theorem creditBack_dcS (s : State) (lane : Fin 4) : (creditBack s lane).dcS = s.dcS := rfl
@[simp] theorem creditBack_flt (s : State) (lane : Fin 4) : (creditBack s lane).flt = s.flt := rfl
@[simp] theorem creditBack_jn (s : State) (lane : Fin 4) : (creditBack s lane).jn = s.jn := rfl
@[simp] theorem creditBack_ws (s : State) (lane : Fin 4) : (creditBack s lane).ws = s.ws := rfl
@[simp] theorem creditBack_vs (s : State) (lane : Fin 4) : (creditBack s lane).vs = s.vs := rfl
@[simp] theorem creditBack_ts (s : State) (lane : Fin 4) : (creditBack s lane).ts = s.ts := rfl
@[simp] theorem creditBack_ar (s : State) (lane : Fin 4) : (creditBack s lane).ar = s.ar := rfl
@[simp] theorem creditBack_io (s : State) (lane : Fin 4) : (creditBack s lane).io = s.io := rfl
@[simp] theorem creditBack_free (s : State) (lane : Fin 4) : (creditBack s lane).free = s.free := rfl
@[simp] theorem creditBack_pending (s : State) (lane : Fin 4) : (creditBack s lane).pending = s.pending := rfl

@[simp] theorem creditBack_vat_slots (s : State) (lane : Fin 4) : (creditBack s lane).vat.slots = s.vat.slots := rfl
@[simp] theorem creditBack_vat_taken (s : State) (lane : Fin 4) : (creditBack s lane).vat.taken = s.vat.taken := rfl
@[simp] theorem creditBack_vat_ports (s : State) (lane : Fin 4) : (creditBack s lane).vat.ports = s.vat.ports := rfl
@[simp] theorem creditBack_vat_quar (s : State) (lane : Fin 4) : (creditBack s lane).vat.quar = s.vat.quar := rfl

@[simp] theorem sbPut_md (s : State) (b : SbUnit) : (sbPut s b).md = s.md := rfl
@[simp] theorem sbPut_ctl (s : State) (b : SbUnit) : (sbPut s b).ctl = s.ctl := rfl
@[simp] theorem sbPut_status (s : State) (b : SbUnit) : (sbPut s b).status = s.status := rfl
@[simp] theorem sbPut_cnt (s : State) (b : SbUnit) : (sbPut s b).cnt = s.cnt := rfl
@[simp] theorem sbPut_tm (s : State) (b : SbUnit) : (sbPut s b).tm = s.tm := rfl
@[simp] theorem sbPut_pw (s : State) (b : SbUnit) : (sbPut s b).pw = s.pw := rfl
@[simp] theorem sbPut_ap (s : State) (b : SbUnit) : (sbPut s b).ap = s.ap := rfl
@[simp] theorem sbPut_fu (s : State) (b : SbUnit) : (sbPut s b).fu = s.fu := rfl
@[simp] theorem sbPut_eaM (s : State) (b : SbUnit) : (sbPut s b).eaM = s.eaM := rfl
@[simp] theorem sbPut_eaT (s : State) (b : SbUnit) : (sbPut s b).eaT = s.eaT := rfl
@[simp] theorem sbPut_dcM (s : State) (b : SbUnit) : (sbPut s b).dcM = s.dcM := rfl
@[simp] theorem sbPut_dcS (s : State) (b : SbUnit) : (sbPut s b).dcS = s.dcS := rfl
@[simp] theorem sbPut_flt (s : State) (b : SbUnit) : (sbPut s b).flt = s.flt := rfl
@[simp] theorem sbPut_jn (s : State) (b : SbUnit) : (sbPut s b).jn = s.jn := rfl
@[simp] theorem sbPut_vat (s : State) (b : SbUnit) : (sbPut s b).vat = s.vat := rfl
@[simp] theorem sbPut_ws (s : State) (b : SbUnit) : (sbPut s b).ws = s.ws := rfl
@[simp] theorem sbPut_vs (s : State) (b : SbUnit) : (sbPut s b).vs = s.vs := rfl
@[simp] theorem sbPut_ts (s : State) (b : SbUnit) : (sbPut s b).ts = s.ts := rfl
@[simp] theorem sbPut_ar (s : State) (b : SbUnit) : (sbPut s b).ar = s.ar := rfl
@[simp] theorem sbPut_io (s : State) (b : SbUnit) : (sbPut s b).io = s.io := rfl
@[simp] theorem sbPut_free (s : State) (b : SbUnit) : (sbPut s b).free = s.free := rfl
@[simp] theorem sbPut_pending (s : State) (b : SbUnit) : (sbPut s b).pending = s.pending := rfl

@[simp] theorem sbPut_sb (s : State) (b : SbUnit) : (sbPut s b).ao.sb = b := rfl
@[simp] theorem sbPut_ao_alive (s : State) (b : SbUnit) : (sbPut s b).ao.alive = s.ao.alive := rfl
@[simp] theorem sbPut_ao_toggles (s : State) (b : SbUnit) : (sbPut s b).ao.toggles = s.ao.toggles := rfl
@[simp] theorem sbPut_ao_sinceToggle (s : State) (b : SbUnit) : (sbPut s b).ao.sinceToggle = s.ao.sinceToggle := rfl
@[simp] theorem sbPut_ao_aliveRun (s : State) (b : SbUnit) : (sbPut s b).ao.aliveRun = s.ao.aliveRun := rfl
@[simp] theorem sbPut_ao_token (s : State) (b : SbUnit) : (sbPut s b).ao.token = s.ao.token := rfl
@[simp] theorem sbPut_ao_missed (s : State) (b : SbUnit) : (sbPut s b).ao.missed = s.ao.missed := rfl
@[simp] theorem sbPut_ao_sbAddr (s : State) (b : SbUnit) : (sbPut s b).ao.sbAddr = s.ao.sbAddr := rfl
@[simp] theorem sbPut_ao_sbKey (s : State) (b : SbUnit) : (sbPut s b).ao.sbKey = s.ao.sbKey := rfl
@[simp] theorem sbPut_ao_sbWrong (s : State) (b : SbUnit) : (sbPut s b).ao.sbWrong = s.ao.sbWrong := rfl
@[simp] theorem sbPut_ao_sbResp (s : State) (b : SbUnit) : (sbPut s b).ao.sbResp = s.ao.sbResp := rfl
@[simp] theorem sbPut_ao_poll (s : State) (b : SbUnit) : (sbPut s b).ao.poll = s.ao.poll := rfl
@[simp] theorem sbPut_ao_safeCause (s : State) (b : SbUnit) : (sbPut s b).ao.safeCause = s.ao.safeCause := rfl
@[simp] theorem sbPut_ao_safeCount (s : State) (b : SbUnit) : (sbPut s b).ao.safeCount = s.ao.safeCount := rfl
@[simp] theorem sbPut_ao_pollFenced (s : State) (b : SbUnit) : (sbPut s b).ao.pollFenced = s.ao.pollFenced := rfl
@[simp] theorem sbPut_ao_pollFlags (s : State) (b : SbUnit) : (sbPut s b).ao.pollFlags = s.ao.pollFlags := rfl
@[simp] theorem sbPut_ao_lg (s : State) (b : SbUnit) : (sbPut s b).ao.lg = s.ao.lg := rfl
@[simp] theorem sbPut_ao_lgNum (s : State) (b : SbUnit) : (sbPut s b).ao.lgNum = s.ao.lgNum := rfl
@[simp] theorem sbPut_ao_lgDue (s : State) (b : SbUnit) : (sbPut s b).ao.lgDue = s.ao.lgDue := rfl
@[simp] theorem sbPut_ao_digest (s : State) (b : SbUnit) : (sbPut s b).ao.digest = s.ao.digest := rfl
@[simp] theorem sbPut_ao_propNum (s : State) (b : SbUnit) : (sbPut s b).ao.propNum = s.ao.propNum := rfl
@[simp] theorem sbPut_ao_porst (s : State) (b : SbUnit) : (sbPut s b).ao.porst = s.ao.porst := rfl
@[simp] theorem sbPut_ao_resetting (s : State) (b : SbUnit) : (sbPut s b).ao.resetting = s.ao.resetting := rfl
@[simp] theorem sbPut_ao_heldPuts (s : State) (b : SbUnit) : (sbPut s b).ao.heldPuts = s.ao.heldPuts := rfl


@[simp] theorem sbAbandon_md (s : State) (b : SbUnit) : (sbAbandon s b).md = s.md := rfl
@[simp] theorem sbAbandon_ctl (s : State) (b : SbUnit) : (sbAbandon s b).ctl = s.ctl := rfl
@[simp] theorem sbAbandon_status (s : State) (b : SbUnit) : (sbAbandon s b).status = s.status := rfl
@[simp] theorem sbAbandon_cnt (s : State) (b : SbUnit) : (sbAbandon s b).cnt = s.cnt := rfl
@[simp] theorem sbAbandon_tm (s : State) (b : SbUnit) : (sbAbandon s b).tm = s.tm := rfl
@[simp] theorem sbAbandon_pw (s : State) (b : SbUnit) : (sbAbandon s b).pw = s.pw := rfl
@[simp] theorem sbAbandon_ap (s : State) (b : SbUnit) : (sbAbandon s b).ap = s.ap := rfl
@[simp] theorem sbAbandon_fu (s : State) (b : SbUnit) : (sbAbandon s b).fu = s.fu := rfl
@[simp] theorem sbAbandon_eaM (s : State) (b : SbUnit) : (sbAbandon s b).eaM = s.eaM := rfl
@[simp] theorem sbAbandon_eaT (s : State) (b : SbUnit) : (sbAbandon s b).eaT = s.eaT := rfl
@[simp] theorem sbAbandon_dcM (s : State) (b : SbUnit) : (sbAbandon s b).dcM = s.dcM := rfl
@[simp] theorem sbAbandon_dcS (s : State) (b : SbUnit) : (sbAbandon s b).dcS = s.dcS := rfl
@[simp] theorem sbAbandon_flt (s : State) (b : SbUnit) : (sbAbandon s b).flt = s.flt := rfl
@[simp] theorem sbAbandon_jn (s : State) (b : SbUnit) : (sbAbandon s b).jn = s.jn := rfl
@[simp] theorem sbAbandon_vat (s : State) (b : SbUnit) : (sbAbandon s b).vat = s.vat := rfl
@[simp] theorem sbAbandon_ws (s : State) (b : SbUnit) : (sbAbandon s b).ws = s.ws := rfl
@[simp] theorem sbAbandon_vs (s : State) (b : SbUnit) : (sbAbandon s b).vs = s.vs := rfl
@[simp] theorem sbAbandon_ts (s : State) (b : SbUnit) : (sbAbandon s b).ts = s.ts := rfl
@[simp] theorem sbAbandon_ar (s : State) (b : SbUnit) : (sbAbandon s b).ar = s.ar := rfl
@[simp] theorem sbAbandon_io (s : State) (b : SbUnit) : (sbAbandon s b).io = s.io := rfl
@[simp] theorem sbAbandon_free (s : State) (b : SbUnit) : (sbAbandon s b).free = s.free := rfl
@[simp] theorem sbAbandon_pending (s : State) (b : SbUnit) : (sbAbandon s b).pending = s.pending := rfl

@[simp] theorem sbAbandon_sb (s : State) (b : SbUnit) : (sbAbandon s b).ao.sb = b := rfl
@[simp] theorem sbAbandon_sbResp (s : State) (b : SbUnit) : (sbAbandon s b).ao.sbResp = none := rfl

@[simp] theorem aoHold_md (s : State) (form : Form) (a : Nat) (w : Word) (addr : BitVec 22) : (aoHold s form a w addr).md = s.md := rfl
@[simp] theorem aoHold_ctl (s : State) (form : Form) (a : Nat) (w : Word) (addr : BitVec 22) : (aoHold s form a w addr).ctl = s.ctl := rfl
@[simp] theorem aoHold_status (s : State) (form : Form) (a : Nat) (w : Word) (addr : BitVec 22) : (aoHold s form a w addr).status = s.status := rfl
@[simp] theorem aoHold_cnt (s : State) (form : Form) (a : Nat) (w : Word) (addr : BitVec 22) : (aoHold s form a w addr).cnt = s.cnt := rfl
@[simp] theorem aoHold_tm (s : State) (form : Form) (a : Nat) (w : Word) (addr : BitVec 22) : (aoHold s form a w addr).tm = s.tm := rfl
@[simp] theorem aoHold_pw (s : State) (form : Form) (a : Nat) (w : Word) (addr : BitVec 22) : (aoHold s form a w addr).pw = s.pw := rfl
@[simp] theorem aoHold_ap (s : State) (form : Form) (a : Nat) (w : Word) (addr : BitVec 22) : (aoHold s form a w addr).ap = s.ap := rfl
@[simp] theorem aoHold_fu (s : State) (form : Form) (a : Nat) (w : Word) (addr : BitVec 22) : (aoHold s form a w addr).fu = s.fu := rfl
@[simp] theorem aoHold_eaM (s : State) (form : Form) (a : Nat) (w : Word) (addr : BitVec 22) : (aoHold s form a w addr).eaM = s.eaM := rfl
@[simp] theorem aoHold_eaT (s : State) (form : Form) (a : Nat) (w : Word) (addr : BitVec 22) : (aoHold s form a w addr).eaT = s.eaT := rfl
@[simp] theorem aoHold_dcM (s : State) (form : Form) (a : Nat) (w : Word) (addr : BitVec 22) : (aoHold s form a w addr).dcM = s.dcM := rfl
@[simp] theorem aoHold_dcS (s : State) (form : Form) (a : Nat) (w : Word) (addr : BitVec 22) : (aoHold s form a w addr).dcS = s.dcS := rfl
@[simp] theorem aoHold_flt (s : State) (form : Form) (a : Nat) (w : Word) (addr : BitVec 22) : (aoHold s form a w addr).flt = s.flt := rfl
@[simp] theorem aoHold_jn (s : State) (form : Form) (a : Nat) (w : Word) (addr : BitVec 22) : (aoHold s form a w addr).jn = s.jn := rfl
@[simp] theorem aoHold_vat (s : State) (form : Form) (a : Nat) (w : Word) (addr : BitVec 22) : (aoHold s form a w addr).vat = s.vat := rfl
@[simp] theorem aoHold_ws (s : State) (form : Form) (a : Nat) (w : Word) (addr : BitVec 22) : (aoHold s form a w addr).ws = s.ws := rfl
@[simp] theorem aoHold_vs (s : State) (form : Form) (a : Nat) (w : Word) (addr : BitVec 22) : (aoHold s form a w addr).vs = s.vs := rfl
@[simp] theorem aoHold_ts (s : State) (form : Form) (a : Nat) (w : Word) (addr : BitVec 22) : (aoHold s form a w addr).ts = s.ts := rfl
@[simp] theorem aoHold_ar (s : State) (form : Form) (a : Nat) (w : Word) (addr : BitVec 22) : (aoHold s form a w addr).ar = s.ar := rfl
@[simp] theorem aoHold_io (s : State) (form : Form) (a : Nat) (w : Word) (addr : BitVec 22) : (aoHold s form a w addr).io = s.io := rfl
@[simp] theorem aoHold_free (s : State) (form : Form) (a : Nat) (w : Word) (addr : BitVec 22) : (aoHold s form a w addr).free = s.free := rfl
@[simp] theorem aoHold_pending (s : State) (form : Form) (a : Nat) (w : Word) (addr : BitVec 22) : (aoHold s form a w addr).pending = s.pending := rfl

@[simp] theorem aoHold_heldPuts (s : State) (form : Form) (a : Nat) (w : Word) (addr : BitVec 22) : (aoHold s form a w addr).ao.heldPuts = s.ao.heldPuts ++ [{ form := form, a := a, w := w, addr := addr }] := rfl
@[simp] theorem aoHold_ao_alive (s : State) (form : Form) (a : Nat) (w : Word) (addr : BitVec 22) : (aoHold s form a w addr).ao.alive = s.ao.alive := rfl
@[simp] theorem aoHold_ao_toggles (s : State) (form : Form) (a : Nat) (w : Word) (addr : BitVec 22) : (aoHold s form a w addr).ao.toggles = s.ao.toggles := rfl
@[simp] theorem aoHold_ao_sinceToggle (s : State) (form : Form) (a : Nat) (w : Word) (addr : BitVec 22) : (aoHold s form a w addr).ao.sinceToggle = s.ao.sinceToggle := rfl
@[simp] theorem aoHold_ao_aliveRun (s : State) (form : Form) (a : Nat) (w : Word) (addr : BitVec 22) : (aoHold s form a w addr).ao.aliveRun = s.ao.aliveRun := rfl
@[simp] theorem aoHold_ao_token (s : State) (form : Form) (a : Nat) (w : Word) (addr : BitVec 22) : (aoHold s form a w addr).ao.token = s.ao.token := rfl
@[simp] theorem aoHold_ao_missed (s : State) (form : Form) (a : Nat) (w : Word) (addr : BitVec 22) : (aoHold s form a w addr).ao.missed = s.ao.missed := rfl
@[simp] theorem aoHold_ao_sbAddr (s : State) (form : Form) (a : Nat) (w : Word) (addr : BitVec 22) : (aoHold s form a w addr).ao.sbAddr = s.ao.sbAddr := rfl
@[simp] theorem aoHold_ao_sbKey (s : State) (form : Form) (a : Nat) (w : Word) (addr : BitVec 22) : (aoHold s form a w addr).ao.sbKey = s.ao.sbKey := rfl
@[simp] theorem aoHold_ao_sbWrong (s : State) (form : Form) (a : Nat) (w : Word) (addr : BitVec 22) : (aoHold s form a w addr).ao.sbWrong = s.ao.sbWrong := rfl
@[simp] theorem aoHold_ao_sbResp (s : State) (form : Form) (a : Nat) (w : Word) (addr : BitVec 22) : (aoHold s form a w addr).ao.sbResp = s.ao.sbResp := rfl
@[simp] theorem aoHold_ao_sb (s : State) (form : Form) (a : Nat) (w : Word) (addr : BitVec 22) : (aoHold s form a w addr).ao.sb = s.ao.sb := rfl
@[simp] theorem aoHold_ao_poll (s : State) (form : Form) (a : Nat) (w : Word) (addr : BitVec 22) : (aoHold s form a w addr).ao.poll = s.ao.poll := rfl
@[simp] theorem aoHold_ao_safeCause (s : State) (form : Form) (a : Nat) (w : Word) (addr : BitVec 22) : (aoHold s form a w addr).ao.safeCause = s.ao.safeCause := rfl
@[simp] theorem aoHold_ao_safeCount (s : State) (form : Form) (a : Nat) (w : Word) (addr : BitVec 22) : (aoHold s form a w addr).ao.safeCount = s.ao.safeCount := rfl
@[simp] theorem aoHold_ao_pollFenced (s : State) (form : Form) (a : Nat) (w : Word) (addr : BitVec 22) : (aoHold s form a w addr).ao.pollFenced = s.ao.pollFenced := rfl
@[simp] theorem aoHold_ao_pollFlags (s : State) (form : Form) (a : Nat) (w : Word) (addr : BitVec 22) : (aoHold s form a w addr).ao.pollFlags = s.ao.pollFlags := rfl
@[simp] theorem aoHold_ao_lg (s : State) (form : Form) (a : Nat) (w : Word) (addr : BitVec 22) : (aoHold s form a w addr).ao.lg = s.ao.lg := rfl
@[simp] theorem aoHold_ao_lgNum (s : State) (form : Form) (a : Nat) (w : Word) (addr : BitVec 22) : (aoHold s form a w addr).ao.lgNum = s.ao.lgNum := rfl
@[simp] theorem aoHold_ao_lgDue (s : State) (form : Form) (a : Nat) (w : Word) (addr : BitVec 22) : (aoHold s form a w addr).ao.lgDue = s.ao.lgDue := rfl
@[simp] theorem aoHold_ao_digest (s : State) (form : Form) (a : Nat) (w : Word) (addr : BitVec 22) : (aoHold s form a w addr).ao.digest = s.ao.digest := rfl
@[simp] theorem aoHold_ao_propNum (s : State) (form : Form) (a : Nat) (w : Word) (addr : BitVec 22) : (aoHold s form a w addr).ao.propNum = s.ao.propNum := rfl
@[simp] theorem aoHold_ao_porst (s : State) (form : Form) (a : Nat) (w : Word) (addr : BitVec 22) : (aoHold s form a w addr).ao.porst = s.ao.porst := rfl
@[simp] theorem aoHold_ao_resetting (s : State) (form : Form) (a : Nat) (w : Word) (addr : BitVec 22) : (aoHold s form a w addr).ao.resetting = s.ao.resetting := rfl


@[simp] theorem lineLatch_md (s : State) (n : Nat) : (lineLatch s n).md = s.md := rfl
@[simp] theorem lineLatch_ctl (s : State) (n : Nat) : (lineLatch s n).ctl = s.ctl := rfl
@[simp] theorem lineLatch_status (s : State) (n : Nat) : (lineLatch s n).status = s.status := rfl
@[simp] theorem lineLatch_cnt (s : State) (n : Nat) : (lineLatch s n).cnt = s.cnt := rfl
@[simp] theorem lineLatch_tm (s : State) (n : Nat) : (lineLatch s n).tm = s.tm := rfl
@[simp] theorem lineLatch_pw (s : State) (n : Nat) : (lineLatch s n).pw = s.pw := rfl
@[simp] theorem lineLatch_ao (s : State) (n : Nat) : (lineLatch s n).ao = s.ao := rfl
@[simp] theorem lineLatch_ap (s : State) (n : Nat) : (lineLatch s n).ap = s.ap := rfl
@[simp] theorem lineLatch_fu (s : State) (n : Nat) : (lineLatch s n).fu = s.fu := rfl
@[simp] theorem lineLatch_eaM (s : State) (n : Nat) : (lineLatch s n).eaM = s.eaM := rfl
@[simp] theorem lineLatch_eaT (s : State) (n : Nat) : (lineLatch s n).eaT = s.eaT := rfl
@[simp] theorem lineLatch_dcM (s : State) (n : Nat) : (lineLatch s n).dcM = s.dcM := rfl
@[simp] theorem lineLatch_dcS (s : State) (n : Nat) : (lineLatch s n).dcS = s.dcS := rfl
@[simp] theorem lineLatch_flt (s : State) (n : Nat) : (lineLatch s n).flt = s.flt := rfl
@[simp] theorem lineLatch_jn (s : State) (n : Nat) : (lineLatch s n).jn = s.jn := rfl
@[simp] theorem lineLatch_vat (s : State) (n : Nat) : (lineLatch s n).vat = s.vat := rfl
@[simp] theorem lineLatch_vs (s : State) (n : Nat) : (lineLatch s n).vs = s.vs := rfl
@[simp] theorem lineLatch_ts (s : State) (n : Nat) : (lineLatch s n).ts = s.ts := rfl
@[simp] theorem lineLatch_ar (s : State) (n : Nat) : (lineLatch s n).ar = s.ar := rfl
@[simp] theorem lineLatch_io (s : State) (n : Nat) : (lineLatch s n).io = s.io := rfl
@[simp] theorem lineLatch_free (s : State) (n : Nat) : (lineLatch s n).free = s.free := rfl
@[simp] theorem lineLatch_pending (s : State) (n : Nat) : (lineLatch s n).pending = s.pending := rfl

@[simp] theorem lineLatch_ws_high (s : State) (n : Nat) : (lineLatch s n).ws.high = s.ws.high := rfl
@[simp] theorem lineLatch_ws_gray (s : State) (n : Nat) : (lineLatch s n).ws.gray = s.ws.gray := rfl
@[simp] theorem lineLatch_ws_grayNow (s : State) (n : Nat) : (lineLatch s n).ws.grayNow = s.ws.grayNow := rfl
@[simp] theorem lineLatch_ws_roundDue (s : State) (n : Nat) : (lineLatch s n).ws.roundDue = s.ws.roundDue := rfl


@[simp] theorem lineSet_md (s : State) (n : Nat) (high : Bool) : (lineSet s n high).md = s.md := rfl
@[simp] theorem lineSet_ctl (s : State) (n : Nat) (high : Bool) : (lineSet s n high).ctl = s.ctl := rfl
@[simp] theorem lineSet_status (s : State) (n : Nat) (high : Bool) : (lineSet s n high).status = s.status := rfl
@[simp] theorem lineSet_cnt (s : State) (n : Nat) (high : Bool) : (lineSet s n high).cnt = s.cnt := rfl
@[simp] theorem lineSet_tm (s : State) (n : Nat) (high : Bool) : (lineSet s n high).tm = s.tm := rfl
@[simp] theorem lineSet_pw (s : State) (n : Nat) (high : Bool) : (lineSet s n high).pw = s.pw := rfl
@[simp] theorem lineSet_ao (s : State) (n : Nat) (high : Bool) : (lineSet s n high).ao = s.ao := rfl
@[simp] theorem lineSet_ap (s : State) (n : Nat) (high : Bool) : (lineSet s n high).ap = s.ap := rfl
@[simp] theorem lineSet_fu (s : State) (n : Nat) (high : Bool) : (lineSet s n high).fu = s.fu := rfl
@[simp] theorem lineSet_eaM (s : State) (n : Nat) (high : Bool) : (lineSet s n high).eaM = s.eaM := rfl
@[simp] theorem lineSet_eaT (s : State) (n : Nat) (high : Bool) : (lineSet s n high).eaT = s.eaT := rfl
@[simp] theorem lineSet_dcM (s : State) (n : Nat) (high : Bool) : (lineSet s n high).dcM = s.dcM := rfl
@[simp] theorem lineSet_dcS (s : State) (n : Nat) (high : Bool) : (lineSet s n high).dcS = s.dcS := rfl
@[simp] theorem lineSet_flt (s : State) (n : Nat) (high : Bool) : (lineSet s n high).flt = s.flt := rfl
@[simp] theorem lineSet_jn (s : State) (n : Nat) (high : Bool) : (lineSet s n high).jn = s.jn := rfl
@[simp] theorem lineSet_vat (s : State) (n : Nat) (high : Bool) : (lineSet s n high).vat = s.vat := rfl
@[simp] theorem lineSet_vs (s : State) (n : Nat) (high : Bool) : (lineSet s n high).vs = s.vs := rfl
@[simp] theorem lineSet_ts (s : State) (n : Nat) (high : Bool) : (lineSet s n high).ts = s.ts := rfl
@[simp] theorem lineSet_ar (s : State) (n : Nat) (high : Bool) : (lineSet s n high).ar = s.ar := rfl
@[simp] theorem lineSet_io (s : State) (n : Nat) (high : Bool) : (lineSet s n high).io = s.io := rfl
@[simp] theorem lineSet_free (s : State) (n : Nat) (high : Bool) : (lineSet s n high).free = s.free := rfl
@[simp] theorem lineSet_pending (s : State) (n : Nat) (high : Bool) : (lineSet s n high).pending = s.pending := rfl

@[simp] theorem lineSet_ws_latch (s : State) (n : Nat) (high : Bool) : (lineSet s n high).ws.latch = s.ws.latch := rfl
@[simp] theorem lineSet_ws_gray (s : State) (n : Nat) (high : Bool) : (lineSet s n high).ws.gray = s.ws.gray := rfl
@[simp] theorem lineSet_ws_grayNow (s : State) (n : Nat) (high : Bool) : (lineSet s n high).ws.grayNow = s.ws.grayNow := rfl

end Sys2Proof.Machine
end

