-- ==== Sys2Proof/WellFormed.lean ====
section
/-! DEFINITION. Which commands are well formed: the operand values that the spec's ports can carry. -/

namespace Sys2Proof

/-- The switch presents ingress ports 0 to 143 (R44). -/
def beatOk (b : Beat) : Bool := decide (b.port.toNat < 144)

/-- The security port has twelve address bits (R43). -/
def portAddr (p : Port) (addr : BitVec 22) : Bool := decide (p ≠ .sec) || decide (addr.toNat < 4096)

/-- The command codes that R79 names. -/
def sbCommand (c : Byte) : Bool :=
  decide (c = 0x10) || decide (c = 0x20) || (decide (0x30 ≤ c.toNat) && decide (c.toNat ≤ 0x3F)) || decide (c = 0x40) || decide (c = 0x50)

/-- Stored entries lie at rising 32-byte offsets inside the largest aperture (R96, R369). -/
def storedOk (lo : Nat) (l : List (Nat × Words8)) : Bool :=
  match l with
  | [] => true
  | (o, _) :: r => decide (lo ≤ o) && decide (o % 32 = 0) && decide (o + 32 ≤ 137438953472) && storedOk (o + 32) r

/-- A seq-clear register and the port that writes it: party S's status is on the security port, every other on the register port
(R344, R381). -/
def scPort (p : Port) (r : ScReg) : Bool :=
  match r with
  | .dc .S => decide (p = .sec)
  | _ => decide (p ≠ .sec)

/-- The well-formed commands. -/
def Instr.wellFormed (i : Instr) : Bool :=
  match i with
  | .regWrite port addr _ => portAddr port addr
  | .accessGuardTimeout _ => true
  | .memoryWriteBeat _ beat => beatOk beat
  | .assertIntx _ beat => beatOk beat
  | .deassertIntx _ beat => beatOk beat
  | .rouse _ beat => beatOk beat
  | .wakeBeat _ => true
  | .vteReadReturn _ _ => true
  | .apertureReadError _ => true
  | .apertureReadTimeout _ => true
  | .apertureWriteAck _ _ => true
  | .apertureWriteError _ _ => true
  | .egressAccept _ => true
  | .egressReject _ => true
  | .levelLineChange _ _ => true
  | .sampledEdge _ => true
  | .countedStep _ _ => true
  | .cdcRetry _ _ => true
  | .cdcDeferred _ _ => true
  | .timeAccept _ => true
  | .timeValidLoss => true
  | .throttleChange _ => true
  | .vddOkFall => true
  | .pwrAck _ => true
  | .linkUp _ _ => true
  | .linkDown _ _ => true
  | .lowPower _ _ => true
  | .hostReset _ _ => true
  | .quarAck => true
  | .wakePin => true
  | .wiredLevelWake _ => true
  | .aoWakeComparator => true
  | .porstFall => true
  | .porstRelease _ _ => true
  | .ping frame => decide (frame.moves ≤ 50)
  | .sbWake frame => decide (frame.moves ≤ 50)
  | .readPoll frame _ => decide (frame.moves ≤ 114)
  | .readAo frame _ => decide (frame.moves ≤ 146)
  | .sbReset frame _ => decide (frame.moves ≤ 82)
  | .badCmd frame cmd => !sbCommand cmd && decide (frame.moves ≤ 50)
  | .sbFrameTimeout => true
  | .resetCmd _ _ => true
  | .blockResetComplete _ _ => true
  | .modeReqWrite _ _ => true
  | .engineEnSet => true
  | .engineEnClear => true
  | .ingressEnClear => true
  | .ingressEnSet => true
  | .deliverEnClear => true
  | .deliverEnSet => true
  | .freezeSet => true
  | .freezeClear => true
  | .lockSet _ => true
  | .load => true
  | .reform _ => true
  | .abandon => true
  | .warmForm => true
  | .fetchComplete image => decide (image.length ≤ 1048576)
  | .approvalTimeout => true
  | .validateComplete => true
  | .reformDrainComplete => true
  | .reformAcceptTimeout _ => true
  | .formCommit stored => storedOk 0 stored
  | .acquire port _ _ => decide (port ≠ .sec)
  | .read port _ => decide (port ≠ .sec)
  | .stage port _ => decide (port ≠ .sec)
  | .apply port _ => decide (port ≠ .sec)
  | .release port _ => decide (port ≠ .sec)
  | .fence port _ => decide (port ≠ .sec)
  | .leaseExpiry _ => true
  | .propose _ => true
  | .withdraw _ => true
  | .veto p idLo => decide (p = .S) || decide (idLo = 0)
  | .approve _ _ => true
  | .dcStageWrite p form _ _ => decide (p = .M) || decide (form = .plain)
  | .dcWindowExpiry _ => true
  | .injectPlaneAMismatch _ => true
  | .injectFenceA _ => true
  | .injectFenceB _ => true
  | .injectEccSingle _ => true
  | .injectEccDouble _ => true
  | .injectCdcDisagree _ => true
  | .injectApertureReadError _ => true
  | .injectHeartbeatStop _ => true
  | .injectCollectorParity _ => true
  | .resync => true
  | .resyncComplete => true
  | .jnlHeadWrite _ _ => true
  | .seqClear port reg _ => scPort port reg
  | .timeLoRead access => portAddr access.port access.addr
  | .sleepElapsedLoRead port => decide (port ≠ .sec)
  | .amaskLoRead port _ => decide (port ≠ .sec)
  | .tEoi port _ _ => decide (port ≠ .sec)
  | .tHead port _ _ => decide (port ≠ .sec)
  | .tRearm port _ _ => decide (port ≠ .sec)
  | .tHint port _ _ => decide (port ≠ .sec)
  | .tCprio port _ _ => decide (port ≠ .sec)
  | .rankingRound _ _ => true
  | .selfTest _ _ _ => true
  | .arbiterRound => true
  | .holdoffWindowEnd _ => true
  | .deadlineArrival _ => true
  | .couchTimeLimit _ => true
  | .sweep => true
  | .batchTimeout _ => true
  | .watchdogExpiry _ => true
  | .creditRefill => true
  | .strangerWindowEnd => true
  | .journalBucketRefill => true
  | .hwFieldWriteback => true
  | .aliveToggle => true
  | .heartbeat => true
  | .wedged => true
  | .pollRefresh => true
  | .clkFabLoss => true
  | .clkRegLoss => true
  | .aoClockStop => true
  | .refresh _ _ _ _ _ => true
  | .safeEntry _ _ => true
  | .lastGasp => true
  | .idleEntry => true
  | .entryAttempt => true
  | .entryRetry => true
  | .entryDrainComplete => true
  | .entryDeliveryTimeout => true
  | .entryCommit => true
  | .sbFrameAbandonBothRails => true
  | .aoEdgeSeenAgain => true

end Sys2Proof
end

