-- ==== Sys2Proof/Tests/Slice0.lean ====
section
/-! SUPPORT. Tests: ill-formed commands are refused, worked values of the spec, and for every statement with hypotheses a concrete state that meets
them, with what the command does there. -/

namespace Sys2Proof.Tests

set_option Elab.async false

open Sys2Proof Sys2Proof.Machine

/-! ### Ill-formed commands -/

/-- A beat that every check passes. -/
def beat : Beat := { off := 0, rid := 0, port := 0, tenant := 0, data := 5, len := 4, poison := false }

theorem test_beat_port_bound : Instr.wellFormed (.memoryWriteBeat 0 { beat with port := 144 }) = false := by decide
theorem test_beat_port_top : Instr.wellFormed (.memoryWriteBeat 0 { beat with port := 143 }) = true := by decide
theorem test_sec_address_bound : Instr.wellFormed (.regWrite .sec 0x1000 0) = false := by decide
theorem test_badCmd_names_a_command : Instr.wellFormed (.badCmd ⟨0, 50⟩ 0x3F) = false := by decide
theorem test_stored_offset_aligned : Instr.wellFormed (.formCommit [(16, Vector.replicate 8 0)]) = false := by decide
theorem test_stored_offsets_rise : Instr.wellFormed (.formCommit [(32, Vector.replicate 8 0), (32, Vector.replicate 8 0)]) = false := by decide
theorem test_acquire_not_on_security_port : Instr.wellFormed (.acquire .sec .mgmt 0) = false := by decide
theorem test_veto_of_M_names_no_id : Instr.wellFormed (.veto .M 1) = false := by decide
theorem test_stage_alias_only_for_M : Instr.wellFormed (.dcStageWrite .S .set 0 0) = false := by decide
theorem test_seqClear_port : Instr.wellFormed (.seqClear .mgmt (.dc .S) 0) = false := by decide
theorem test_elapsed_not_on_security_port : Instr.wellFormed (.sleepElapsedLoRead .sec) = false := by decide
theorem test_tEoi_not_on_security_port : Instr.wellFormed (.tEoi .sec 0 0) = false := by decide

/-! ### States -/

/-- A slice of tenant 0 and one of tenant 1. -/
def slices : List Slice :=
  [{ tenant := 0, sizeClass := 2, base := 4096, vecCount := 16, targetBase := 0, targetCount := 34, groupBase := 0, groupCount := 1,
     couchBase := 0, couchCount := 0, bucket := 4, refill := 1 },
   { tenant := 1, sizeClass := 2, base := 4352, vecCount := 256, targetBase := 34, targetCount := 2, groupBase := 1, groupCount := 1,
     couchBase := 0, couchCount := 2, bucket := 8, refill := 3 }]

/-- A small structure: line 1 wakes, local target 0 has 32 slots. -/
def furn : Furnish :=
  { buildId := 1, geometry := { handleTop := 8192, targetTop := 36, groupTop := 2, couchTop := 2, pinMax := 16 }, slices := slices,
    regions := [{ kind := 1, tenant := 0, size4k := 33, offset := 0 }, { kind := 1, tenant := 1, size4k := 2, offset := 135168 },
                { kind := 2, tenant := 0, size4k := 1, offset := 147456 }],
    leaseTimers := 64, slots := [1], classes := [], lockBits := 4, dcScope := 0, dcWindowMs := 100, leaseDefaultMs := 1000,
    allowed := 0xF, wakeSrc := 0x1F, idleAfterUs := 10, wiredWake := 2, localRings := [(0, 5)] }

/-- The block with that structure formed, in UNFORMED. -/
def formed : State :=
  { State.reset with
    tm := { State.tmReset with now := 1000000, accepted := true, ivValid := true, lastAcc := 1000000, base := 1000000 },
    fu := { State.fuReset with phase := .formed, formed := some furn },
    ap := { State.apReset with log2 := 30, state := 1 } }

/-- In service. -/
def serving : State := { formed with md := { State.mdReset with mode := .serving, engineEn := true } }

/-- Draining under FREEZE. -/
def draining : State :=
  { formed with md := { State.mdReset with mode := .draining, engineEn := true }, ctl := { State.ctlReset with freeze := true } }

/-- In IDLE. -/
def idle : State := { formed with md := { State.mdReset with mode := .idle, engineEn := true }, pw := { State.pwReset with pwrState := 3 } }

/-- In REST. -/
def rest : State :=
  { formed with md := { State.mdReset with mode := .rest, engineEn := true }, pw := { State.pwReset with pwrState := 2, pwrReq := 2 },
                tm := { formed.tm with tEntry := 1000000 } }

/-- In DORMANT. -/
def dormant : State :=
  { rest with md := { rest.md with mode := .dormant }, pw := { State.pwReset with pwrState := 1, pwrReq := 3, saveValid := true } }

/-- What a command answers. -/
def after (i : Instr) (s : State) : State :=
  match exec i s with
  | .next t => t
  | _ => s

/-! ### Worked values of the spec -/

theorem test_crc_check_value : crc32 [0x31, 0x32, 0x33, 0x34, 0x35, 0x36, 0x37, 0x38, 0x39] = 0xCBF43926 := by decide +kernel
theorem test_mode_word_at_reset : modeWord State.reset = 0x00000404 := by decide +kernel
theorem test_reset_credits : State.reset.vat.credits[(3 : Fin 4)] = 2048 := by decide +kernel

/-! ### The queue -/

/-- What a step answers. -/
def stepped (s : State) : State :=
  match step s with
  | .next t => t
  | _ => s

theorem test_step_takes_the_front : (stepped { State.reset with pending := [.rouse 0 beat, .quarAck] }).pending = [.quarAck]
    ∧ (stepped { State.reset with pending := [.rouse 0 beat, .quarAck] }).cnt.ingress = 1 := by decide +kernel
theorem witness_empty_queue : serving.pending = [] ∧ mute serving = false ∧ serving.tm.aoStopped = false ∧ serving.ao.heldPuts = []
    ∧ (aoClock serving).tm.aoCount = 1 ∧ (aoClock serving).ao.missed = 1 ∧ serving.tm.estimated = false ∧ (aoClock serving).tm.now = 1000000
    ∧ timeRuns rest = false ∧ (aoClock rest).tm.now = 1000000 := by decide +kernel
theorem test_empty_queue_is_a_clock_edge : (stepped serving).free = 1 := by
  simp only [stepped, step, show serving.pending = [] from rfl, clockEdge]
  cases Config.nextEdgeAo serving.free <;> decide +kernel
/-- The same with an estimate running. -/
def estimating : State := { serving with tm := { serving.tm with estimated := true } }
theorem witness_empty_queue_estimate : estimating.pending = [] ∧ estimating.tm.estimated = true ∧ estimating.tm.accepted = true
    ∧ timeRuns estimating = true ∧ (aoClock estimating).tm.now = 1000000 + 30517 := by
  decide +kernel
/-- Three bits of a request have passed, and no line has changed for a number of AO ticks. -/
def framed (quiet : Nat) : State :=
  { serving with ao := { State.aoReset with sb := { State.sbReset with rx := [false, true, true], quiet := quiet } } }
theorem witness_empty_queue_frame : (framed 63).pending = [] ∧ mute (framed 63) = false ∧ sbBusy (framed 63) = true
    ∧ (aoClock (framed 63)).ao.sb.quiet = 64
    ∧ (aoClock { framed 63 with flt := { State.fltReset with cdc := [(.regTime, 0), (.time, 0)] } }).flt.cdc = [(.time, 0)] := by decide +kernel
/-- 13 cycles of IV_CLK_FAB after an accepted value. -/
def cycles13 : State := { serving with tm := { serving.tm with cycles := 13, now := 1000006 } }
theorem witness_fab_cycle : fabRuns cycles13 = true ∧ (fabCycle cycles13).tm.now = 1000007 ∧ (fabCycle (fabCycle cycles13)).tm.now = 1000007
    ∧ (fabCycle serving).tm.now = 1000000 ∧ fabRuns rest = false ∧ (fabCycle rest).tm.now = 1000000 := by decide +kernel
theorem witness_fab_count : fabRuns State.reset = true ∧ State.reset.tm.accepted = false ∧ (fabCycle State.reset).tm.fab = 1
    ∧ (fabCycle State.reset).tm.now = 0 ∧ (fabCycle serving).tm.fab = 1 ∧ (fabCycle rest).tm.fab = 0 := by decide +kernel
theorem witness_held_write_acts : serving.ao.resetting = false ∧ (aoHold serving .plain 0x50C 0x77359401 0x50C).ao.heldPuts.length = 1
    ∧ (aoClock (aoHold serving .plain 0x50C 0x77359401 0x50C)).tm.aoCal = 0x77359401
    ∧ (aoClock (aoHold serving .plain 0x50C 0x77359401 0x50C)).ao.heldPuts = [] := by decide +kernel

/-! ### Whole-machine statements -/

theorem witness_steps_keep_memory : Memory.wf serving.ts.lmem = true ∧ Memory.wf [(5, 1), (9, 255)] = true := by decide +kernel
theorem witness_steps_keep_credits : serving.md.mode ≠ .safe ∧ laneSum serving 3 = 2048 := by decide +kernel
/-- The block in SAFE. -/
def inSafe : State := after (.safeEntry false false) (after .clkFabLoss serving)
theorem witness_safe_cleared : inSafe.md.mode = .safe ∧ inSafe.md.engineEn = false ∧ inSafe.vat.slots = [] ∧ inSafe.vs.vecs = []
    ∧ inSafe.dcM.st = .empty ∧ inSafe.dcS.st = .empty ∧ (after .wakePin inSafe).md.mode = .safe := by decide +kernel
theorem witness_sleep_held : sleeping rest = true ∧ rest.tm.now = rest.tm.tEntry := by decide +kernel
theorem witness_only_resets_undo : resets (.lockSet 5) = false ∧ acknowledges (.lockSet 5) = false ∧ (after (.lockSet 5) serving).md.lock = 5
    ∧ (after (.lockSet 2) (after (.lockSet 5) serving)).md.lock = 7 := by decide +kernel
theorem witness_fenced_stays : { State.fltReset with fenced := 1 }.fenced ≠ 0
    ∧ (after .quarAck { serving with flt := { State.fltReset with fenced := 1 } }).flt.fenced = 1 := by decide +kernel
/-- FENCED shown by the retention set of a DORMANT block. -/
def fencedDormant : State :=
  { dormant with flt := { State.fltReset with fenced := 1 }, md := { dormant.md with lock := 5 },
                 pw := { dormant.pw with ret := retentionSet { dormant with flt := { State.fltReset with fenced := 1 }, md := { dormant.md with lock := 5 } } } }
/-- Its wake under way. -/
def fencedWaking : State := { fencedDormant with pw := { fencedDormant.pw with ackWait := true, wakeReq := some 1 } }
theorem witness_retention_true : fencedDormant.md.mode = .dormant ∧ fld (fencedDormant.pw.ret.getD 26 0) 14 2 = fencedDormant.flt.fenced
    ∧ fld (fencedDormant.pw.ret.getD 3 0) 0 8 = fencedDormant.md.lock ∧ fld fencedDormant.flt.sum.flags 14 2 = (0 : BitVec 2)
    ∧ fencedDormant.flt.fenced ≠ 0 ∧ fencedDormant.flt.selfTest = none ∧ acknowledges (.pwrAck none) = true ∧ keepsRetention fencedWaking = true
    ∧ powersUp (.pwrAck none) fencedWaking = false ∧ (after (.pwrAck none) fencedWaking).flt.fenced = 1 ∧ (after (.pwrAck none) fencedWaking).md.lock = 5 := by
  decide +kernel
theorem witness_powers_up : powersUp .wakePin fencedDormant = false ∧ (after .wakePin fencedDormant).tm.now = 1000000 := by decide +kernel
theorem witness_time_never_decreases : now serving ≤ now (after (.timeAccept 5) serving) ∧ (after (.timeAccept 5) serving).md.mode ≠ .off := by
  decide +kernel
/-- SERVING with an attempt under way. -/
def attempting (step : EntryStep) : State :=
  { idle with pw := { idle.pw with entry := some { target := .rest, step := step, origin := .idle, since := 900000, armedAt := 900000 } } }
theorem witness_activity_idle : idle.md.mode = .idle ∧ (activity idle false).md.mode = .serving := by decide +kernel
theorem witness_activity_attempt : (attempting .armed).pw.entry.isSome = true ∧ (activity (attempting .armed) false).pw.retryAt = some 2000000 := by
  decide +kernel
theorem witness_calm : calm serving = true ∧ calm State.reset = true := by decide +kernel

/-! ### Ports -/

theorem witness_open_register : awake serving = true ∧ portsDead serving = false ∧ frozenBy serving lkArb = false ∧ frozenBy serving lkCouch = false
    ∧ frozenBy serving lkPower = false ∧ frozenBy serving lkFault = false ∧ frozenBy serving lkAlive = false
    ∧ (after (.regWrite .mgmt 0x310 0x0A000123) serving).ctl.maxResend = 10 := by decide +kernel
theorem witness_aliases : aliasOff .set + 0x310 < 2 ^ 22
    ∧ (after (.regWrite .mgmt (BitVec.ofNat 22 (aliasOff .set + 0x310)) 0x03000003) serving).ctl.maxResend = 11
    ∧ (after (.regWrite .mgmt (BitVec.ofNat 22 (aliasOff .clear + 0x310)) 0x00000008) serving).ctl.periodUs = 0x3E0
    ∧ (after (.regWrite .mgmt (BitVec.ofNat 22 (aliasOff .toggle + 0x310)) 0x09000001) serving).ctl.maxResend = 1 := by decide +kernel
/-- Every register group frozen. -/
def locked : State := { serving with md := { serving.md with lock := 0xFF } }
theorem witness_frozen_register : awake locked = true ∧ frozenBy locked lkArb = true
    ∧ (after (.regWrite .mgmt 0x310 0) locked).ctl.maxResend = 8 ∧ (after (.regWrite .mgmt 0x310 0) locked).ctl.cfgOffset = 0xC4
    ∧ (after (.regWrite .mgmt 0x310 0x080003E8) locked).status = locked.status := by decide +kernel
theorem witness_misaligned : awake serving = true ∧ portsDead serving = false ∧ (0x3FFFFF : BitVec 22).toNat % 4 ≠ 0
    ∧ (after (.regWrite .mgmt 0x3FFFFF 0) serving).io.err = true ∧ (after (.regWrite .sec 2 0) serving).io.secErr = true
    ∧ (tnOf (after (.regWrite (.tenant 1) 0x3FFFFF 0) serving) 1).denied = 1 := by decide +kernel
theorem witness_misaligned_read : (after (.timeLoRead ⟨.mgmt, 1⟩) serving).io.err = true ∧ (after (.timeLoRead ⟨.sec, 0xFFF⟩) serving).io.secErr = true
    ∧ (tnOf (after (.timeLoRead ⟨.tenant 1, 0x80001⟩) serving) 1).denied = 1 ∧ (after (.timeLoRead ⟨.tenant 1, 0x80001⟩) serving).io.err = false := by
  decide +kernel
theorem witness_guard : awake State.reset = true ∧ portsDead State.reset = false ∧ (after (.accessGuardTimeout .sec) State.reset).io.secErr = true
    ∧ (after (.accessGuardTimeout .mgmt) State.reset).status.has stHung = true := by decide +kernel
theorem witness_guard_asleep : live rest = true ∧ portsDead rest = false ∧ sleeping rest = true ∧ (after (.accessGuardTimeout .mgmt) rest).pw.hungs = 1
    ∧ rest.pw.heldWrites = [] ∧ (after (.accessGuardTimeout .mgmt) rest).io.err = true := by decide +kernel
theorem witness_guard_other_modes : portsDead inSafe = false ∧ sleeping inSafe = false ∧ inSafe.ao.resetting = false
    ∧ (after (.accessGuardTimeout (.tenant 1)) inSafe).io.err = true ∧ (after (.accessGuardTimeout (.tenant 1)) inSafe).status.has stHung = true
    ∧ (after (.accessGuardTimeout .sec) rest).pw.hungs = 1 := by decide +kernel
theorem witness_guard_held : let s := { rest with pw := { rest.pw with heldWrites := [.eoi 32 4096] } }
    live s = true ∧ portsDead s = false ∧ sleeping s = true ∧ s.pw.heldWrites ≠ [] ∧ (after (.accessGuardTimeout .mgmt) s).io.err = false := by decide +kernel
theorem witness_denied : awake serving = true ∧ targetReach serving (.tenant 1) 33 = false ∧ targetReach serving (.tenant 1) 35 = true
    ∧ (tnOf (after (.tEoi (.tenant 1) 33 0) serving) 1).denied = 1 := by decide +kernel
/-- Three status flags set. -/
def flagged : State := { serving with status := { seq := 3, flags := 0x111 } }
theorem witness_seqClear_matches : awake flagged = true ∧ fld (0x03000101 : Word) 24 8 = flagged.status.seq
    ∧ (after (.seqClear .mgmt .status 0x03000101) flagged).status.flags = 0x10 := by decide +kernel
theorem witness_seqClear_other : fld (0x02000101 : Word) 24 8 ≠ flagged.status.seq ∧ fld (0x02000101 : Word) 24 8 ≠ flagged.flt.sum.seq
    ∧ fld (0 : Word) 24 8 = flagged.dcM.status.seq ∧ (after (.seqClear .mgmt .status 0x02000101) flagged).status.flags = 0x111 := by decide +kernel
/-- Flags 0 and 4 set, with SEQ 3. -/
def sc3 : Sc := { seq := 3, flags := 0x11 }
/-- Every seq-clear register so. -/
def allFlagged : State :=
  { serving with status := sc3, fu := { serving.fu with status := sc3 }, eaM := { State.eaReset with status := sc3 },
                 eaT := [(1, { State.eaReset with status := sc3 })], dcM := { State.dcReset with status := sc3 }, dcS := { State.dcReset with status := sc3 },
                 flt := { State.fltReset with sum := sc3 },
                 ts := { State.tsReset with tenants := [(1, { credits := 0, strangers := 0, denied := 0, status := sc3 })] } }
/-- The registers that the register port reaches. -/
def portRegs : List ScReg := [.status, .furnStatus, .ea .mgmt, .ea (.tw 1), .tw 1, .dc .M, .fltSum]
/-- The seq-clear register of a name. -/
def scAt (s : State) (r : ScReg) : Sc :=
  match r with
  | .status => s.status
  | .furnStatus => s.fu.status
  | .ea u => (eaOf s u).status
  | .tw n => (tnOf s n.toNat).status
  | .dc p => (dcOf s p).status
  | .fltSum => s.flt.sum
theorem witness_seqClear_every_register : awake allFlagged = true ∧ portsDead allFlagged = false
    ∧ (portRegs.all fun r => scReach allFlagged .mgmt r && decide ((scAt (after (.seqClear .mgmt r 0x03000001) allFlagged) r) = { seq := 3, flags := 0x10 })
        && decide ((scAt (after (.seqClear .mgmt r 0x02000001) allFlagged) r) = sc3)) = true := by decide +kernel
theorem witness_seqClear_other_ports :
    scReach allFlagged (.tenant 1) (.tw 1) = true ∧ scAt (after (.seqClear (.tenant 1) (.tw 1) 0x03000001) allFlagged) (.tw 1) = { seq := 3, flags := 0x10 }
    ∧ scReach allFlagged (.tenant 1) (.ea (.tw 1)) = true
    ∧ scAt (after (.seqClear (.tenant 1) (.ea (.tw 1)) 0x03000001) allFlagged) (.ea (.tw 1)) = { seq := 3, flags := 0x10 }
    ∧ scAt (after (.seqClear .sec (.dc .S) 0x03000001) allFlagged) (.dc .S) = { seq := 3, flags := 0x10 }
    ∧ scAt (after (.seqClear .sec (.dc .S) 0x04000001) allFlagged) (.dc .S) = sc3 := by decide +kernel
theorem witness_seq_of_earlier_read : fld (0x03000001 : Word) 24 8 = (3 : BitVec 8) ∧ [0].length % 256 ≠ 0
    ∧ (Sc.raise { seq := 3, flags := 1 } 0).clear 0x03000001 = { seq := 4, flags := 1 } := by decide +kernel
theorem witness_seq_after_256_sets : (List.replicate 256 0).length % 256 = 0
    ∧ (((List.replicate 256 0).foldl Sc.raise { seq := 3, flags := 0 }).clear 0x03000001).flags = 0 := by decide +kernel
theorem witness_low_half_reads : live serving = true ∧ portsDead serving = false ∧ targetReach serving .mgmt 35 = true
    ∧ targetReach serving .mgmt 36 = false ∧ (after (.timeLoRead ⟨.mgmt, 0x500⟩) serving).io.rdata = 1000000
    ∧ (after (.timeLoRead ⟨.sec, 8⟩) serving).io.secRdata = 1000000 ∧ (after (.timeLoRead ⟨.mgmt, 0x310⟩) serving).io.rdata = 0x080003E8 := by decide +kernel
/-- Target 33 with two priorities active. -/
def masked : State := { serving with ts := { State.tsReset with targets := [(33, { tgtForm furn 33 with amask := 0x8000000000000201 })] } }
theorem witness_amask_read : (after (.amaskLoRead .mgmt 33) masked).io.rdata = 0x201
    ∧ (tgtOf (after (.amaskLoRead .mgmt 33) masked) 33).amaskLatch = 0x80000000 := by decide +kernel


/-! ### Message intake -/

theorem witness_parked : calm State.reset = true ∧ State.reset.md.mode = .unformed ∧ drainTenant State.reset = none
    ∧ State.reset.vat.credits[(0 : Fin 4)] ≠ 0 ∧ State.reset.vat.slots.length + 1 < 8192 ∧ freeReason .memWrite beat = 0 ∧ beat.poison = false
    ∧ (after (.memoryWriteBeat 0 beat) State.reset).cnt.parked = 1 ∧ (after (.assertIntx 3 beat) State.reset).vat.credits[(3 : Fin 4)] = 2047 := by
  decide +kernel
theorem witness_poison : calm serving = true ∧ serving.vat.credits[(1 : Fin 4)] ≠ 0 ∧ { beat with poison := true }.poison = true
    ∧ (after (.deassertIntx 1 { beat with poison := true }) serving).cnt.noise = 1 ∧ (after (.rouse 1 beat) serving).cnt.ingress = 1
    ∧ (after (.rouse 1 { beat with poison := true }) serving).cnt.noise = 1 := by
  decide +kernel
/-- A port that reached the limit of strangers and one that did not. -/
def strangers : State :=
  { serving with vat := { State.vatReset with ports := [(3, { count := 1024, raised := true }), (4, { count := 1023, raised := true })], quar := [3, 4] } }
theorem witness_quarantine : live strangers = true ∧ awake strangers = true ∧ ranking strangers = true ∧ (after .quarAck strangers).vat.quar = [4]
    ∧ ranking { strangers with md := State.mdReset } = false ∧ (after .quarAck { strangers with md := State.mdReset }).vat.quar = [3, 4] := by
  decide +kernel
/-- The window's end has come. -/
def windowEnd : State := { strangers with tm := { strangers.tm with now := 1048576 } }
theorem witness_stranger_window : windowEnd.tm.ticks.stranger < now windowEnd / 1048576 ∧ now strangers / 1048576 ≤ strangers.tm.ticks.stranger
    ∧ (after .strangerWindowEnd windowEnd).vat.ports = [(3, { count := 0, raised := true }), (4, { count := 0, raised := false })]
    ∧ (after .strangerWindowEnd strangers).vat.ports = strangers.vat.ports := by decide +kernel


/-! ### Entries and the aperture -/

/-- Fields of a message vector of tenant 0 for target 33. -/
def cfg : VteCfg :=
  { kind := 1, tenant := 0, pin := false, groupTarget := false, cls := 0, prio := 9, polarity := false, level := false, mask := false, valid := true,
    couch := 0, target := 33, originCheck := false, originPort := 0, originRid := 0, data := 7 }

/-- Its entry. -/
def vte : Vte := { cfg := cfg, lastTarget := 0, epoch := 65535, delivered := 0, dropped := 0, stored := 0 }

/-- Target 33: a remote ring of 32 records, enabled. -/
def tgt33 : Tgt := { tgtForm furn 33 with baseLo := 0x1000, ringLog2 := 5, enable := true, dbLo := 0x2000 }

/-- In service with the entry of handle 4,096 on chip and target 33 enabled. -/
def ready : State :=
  { serving with vs := { State.vsReset with vtes := [(4096, vte)], ring := [(4096, true)] },
                 ts := { State.tsReset with targets := [(33, tgt33)] } }

/-- A change of the entry by the fabric manager: MASK. -/
def maskChange (valid : Bool) (kind : BitVec 4) : Change :=
  { caller := .mgmt, u := some .mgmt, words := some (vteWords { vte with cfg := { cfg with mask := true, valid := valid, kind := kind } } 0) }

theorem witness_epoch_advances : vteOn ready 4096 = some vte ∧ vteWaits ready 4096 vte vte.cfg = false
    ∧ (vteApply ready 4096 (maskChange true 1)).map (fun t => (vteOn t 4096).map fun v => (v.epoch, v.cfg.mask)) = some (some (0, true)) := by
  decide +kernel
theorem witness_epoch_stays : (vteApply ready 4096 (maskChange true 0)).map (fun t => vteOn t 4096) = some (some vte) := by decide +kernel
/-- The same through window 1, by its tenant or by the fabric manager acting as it. -/
def windowChange (c : Caller) : Change := { maskChange true 1 with caller := c, u := some (.tw 1) }
theorem witness_epoch_of_other_tenant : callerForeign (windowChange (.tenant 1)) vte.cfg = true ∧ callerForeign (windowChange .mgmt) vte.cfg = true
    ∧ callerForeign (maskChange true 1) vte.cfg = false
    ∧ (vteApply ready 4096 (windowChange .mgmt)).map (fun t => vteOn t 4096) = some (some vte)
    ∧ (vteApply ready 4096 (windowChange (.tenant 1))).map (fun t => vteOn t 4096) = some (some vte) := by decide +kernel


/-- Handle 4,097's entry has been asked for. -/
def asked (p : Purpose) (write : Bool) : State :=
  { ready with ap := { ready.ap with reqs := [(255, { purpose := p, write := write, offset := 0, data := [], runs := [], onPrimary := true, onSecondary := false, since := 0 })] } }

theorem witness_vte_return : awake (asked (.vteRead 4097) false) = true ∧ undisturbed (asked (.vteRead 4097) false) = true
    ∧ (tagOf (asked (.vteRead 4097) false).ap.reqs 255).isSome = true ∧ vteCrcOk (vteWords vte 0) = true
    ∧ (asked (.vteRead 4097) false).vs.ring.length < 61440 ∧ fetchingOf (asked (.vteRead 4097) false) 4097 = []
    ∧ (vecOf (asked (.vteRead 4097) false) 4097).changes = [] ∧ readingUnits (asked (.vteRead 4097) false) 4097 = []
    ∧ (asked (.vteRead 4097) false).ap.waiting = []
    ∧ ((units (asked (.vteRead 4097) false)).all fun u => decide ((eaOf (asked (.vteRead 4097) false) u).busy = none)) = true
    ∧ vteOn (after (.vteReadReturn 255 (vteWords vte 0)) (asked (.vteRead 4097) false)) 4097 = some vte := by decide +kernel

/-- Both copies in use, with a read or a write out. -/
def mirrored (write : Bool) : State :=
  { ready with tm := { formed.tm with fab := 20000 },
               ap := { ready.ap with state := 2, mirrorEn := true,
                                     reqs := [(0, { purpose := .journal, write := write, offset := 0, data := [], runs := [], onPrimary := true, onSecondary := write, since := 0 })] } }

theorem witness_read_fails_over : awake (mirrored false) = true ∧ dualWrites (mirrored false) = true ∧ (mirrored false).pw.entry = none
    ∧ (mirrored false).fu.stored = none ∧ (mirrored false).tm.accepted = true
    ∧ (tagOf (mirrored false).ap.reqs 0).map (fun r => decide (r.since + 20000 ≤ (mirrored false).tm.fab)) = some true
    ∧ (tagOf (mirrored false).ap.reqs 0).map (fun r => r.write) = some false
    ∧ (after (.apertureReadError 0) (mirrored false)).ap.readSec = true ∧ (after (.apertureReadTimeout 0) (mirrored false)).ap.state = 1 := by
  decide +kernel
/-- One cycle of IV_CLK_FAB before 10 µs have passed since the read's issue, and local time far on. -/
def early : State := { mirrored false with tm := { formed.tm with fab := 19999 } }
theorem witness_read_timeout_early : (tagOf early.ap.reqs 0).map (fun r => decide (early.tm.fab < r.since + 20000)) = some true ∧ early.tm.accepted = true
    ∧ (after (.apertureReadTimeout 0) early).ap.state = 2 := by decide +kernel
theorem witness_write_fails_over : (tagOf (mirrored true).ap.reqs 0).map (fun r => (r.write, awaits r .primary, awaits r .secondary)) = some (true, true, true)
    ∧ (after (.apertureWriteError 0 .primary) (mirrored true)).ap.readSec = true
    ∧ (after (.apertureWriteError 0 .secondary) (mirrored true)).ap.readSec = false := by decide +kernel
theorem witness_last_ack : live (asked .journal true) = true
    ∧ (tagOf (asked .journal true).ap.reqs 255).map (fun r => (r.write, awaits r .primary, reqDone (copyDone r .primary))) = some (true, true, true)
    ∧ isResync .journal = false ∧ (asked .journal true).ap.waiting = [] ∧ (asked .journal true).pw.entry = none ∧ (asked .journal true).fu.stored = none
    ∧ (after (.apertureWriteAck 255 .primary) (asked .journal true)).ap.reqs = [] := by decide +kernel
/-- One copy in use of a mirrored pair. -/
def alone (state : BitVec 2) : State := { ready with ap := { ready.ap with state := state, mirrorEn := true } }
theorem witness_resync : awake (alone 1) = true ∧ portsDead (alone 1) = false ∧ (alone 1).ap.mirrorEn = true ∧ frozenBy (alone 1) lkAperture = false
    ∧ (after .resync (alone 1)).ap.state = 3 ∧ (alone 2).ap.state ≠ 1 ∧ (after .resync (alone 2)).ap.state = 2
    ∧ copying (alone 3) = false ∧ (after .resyncComplete (alone 3)).ap.state = 2 := by decide +kernel
/-- The copying is still outstanding. -/
def copyingNow : State := { asked .resync true with ap := { (asked .resync true).ap with state := 3, mirrorEn := true } }
theorem witness_copying : awake copyingNow = true ∧ copying copyingNow = true ∧ (after .resyncComplete copyingNow).ap.state = 3 := by decide +kernel

/-! ### Ranking and delivery -/

/-- A slot CHECKED for handle 4,096. -/
def slot : Slot := { no := 0, lane := 2, kind := .memWrite, beat := beat, stamp := 999000, st := .checked 4096 (snapOf vte) }

/-- An event of the vector. -/
def ev : Ev :=
  { snap := snapOf vte, time := 998000, deadline := 998000, cls := 0, count := 65535, data := 1, truncated := false, stillOn := false, couch := 0,
    released := true, wasHeld := false, stream := none, first := none }

/-- A message waits for its round, with an event pending or none. -/
def toRank (e : Option Ev) : State :=
  { ready with vat := { State.vatReset with slots := [slot], taken := 1, credits := Vector.ofFn fun i => if i = 2 then 2047 else 2048 },
               vs := { ready.vs with vecs := [(4096, { vecZero with ev := e })] } }

theorem witness_round_takes_message : rounding (toRank none) = true ∧ undisturbed (toRank none) = true ∧ (toRank none).ctl.ingressEn = true
    ∧ noWaits (toRank none) = true ∧ roundReady (toRank none) 4096 = true ∧ vteOn (toRank none) 4096 = some vte ∧ checkedOf (toRank none) 4096 = [(slot, snapOf vte)]
    ∧ couchFor (toRank none) vte.cfg = none ∧ (vecOf (toRank none) 4096).changes = [] ∧ (vecOf (toRank none) 4096).eois = []
    ∧ ((vecOf (after (.rankingRound 4096 .agree) (toRank none)) 4096).ev.map fun e => (e.count, e.time, e.data, e.deadline, e.stream))
        = some (1, 999000, 5, 999000, some 33)
    ∧ (after (.rankingRound 4096 .agree) (toRank none)).vat.credits[(2 : Fin 4)] = 2048 := by decide +kernel
theorem witness_round_merges : (vecOf (toRank (some ev)) 4096).ev = some ev ∧ ev.snap = snapOf vte
    ∧ ((vecOf (after (.rankingRound 4096 .agree) (toRank (some ev))) 4096).ev.map fun e => (e.count, e.time, e.data, e.deadline))
        = some (65535, 998000, 5, 998000) := by decide +kernel
/-- The same with LEVEL 1. -/
def toRankLevel (e : Option Ev) : State :=
  { toRank e with vs := { (toRank e).vs with vtes := [(4096, { vte with cfg := { cfg with level := true } })] } }
theorem witness_level_round : roundReady (toRankLevel (some ev)) 4096 = true ∧ (vecOf (toRankLevel (some ev)) 4096).ev = some ev
    ∧ (checkedOf (toRankLevel (some ev)) 4096).map (fun x => x.1) = [slot]
    ∧ ((vecOf (after (.rankingRound 4096 .agree) (toRankLevel (some ev))) 4096).ev.map fun e => (e.count, e.time, e.data)) = some (65535, 998000, 1)
    ∧ (after (.rankingRound 4096 .agree) (toRankLevel (some ev))).vat.slots = [] := by decide +kernel
/-- An EOI waits for the vector's round. -/
def toEnd (a : Option Active) : State :=
  { ready with vs := { ready.vs with vecs := [(4096, { vecZero with active := a, eois := [33] })] },
               ts := { ready.ts with targets := [(33, { tgt33 with amask := 0x201 })] } }
theorem witness_round_takes_eoi : rounding (toEnd none) = true ∧ undisturbed (toEnd none) = true ∧ noWaits (toEnd none) = true ∧ roundReady (toEnd none) 4096 = true
    ∧ checkedOf (toEnd none) 4096 = [] ∧ (vecOf (toEnd none) 4096).eois = [33] ∧ vte.cfg.level = false
    ∧ (tgtOf (after (.rankingRound 4096 .agree) (toEnd (some { target := 33, prio := 9, accepted := true, ev := ev }))) 33).amask = 1
    ∧ (vecOf (after (.rankingRound 4096 .agree) (toEnd (some { target := 33, prio := 9, accepted := true, ev := ev }))) 4096).active = none
    ∧ (after (.rankingRound 4096 .agree) (toEnd none)).cnt.eoiStray = 1 := by decide +kernel
/-- A round held by the self-test. -/
def testing : State := { ready with flt := { State.fltReset with selfTest := some { h := 4096 } } }
theorem witness_self_test : rounding testing = true ∧ testing.flt.selfTest.isSome = true ∧ testing.flt.failPlane = 0 ∧ testing.ctl.degradeEn = true
    ∧ testing.ctl.deferFatal = false ∧ (after (.selfTest true false false) testing).flt.fenced = 2
    ∧ (after (.selfTest false true false) testing).flt.fenced = 1
    ∧ ((after (.selfTest false false true) testing).flt.fatal.map fun f => f.source) = some 0x21
    ∧ ((after (.selfTest true true false) testing).flt.fatal.map fun f => f.source) = some 0x20
    ∧ (after (.selfTest true true true) testing).flt.corr = 1 := by decide +kernel
theorem witness_self_test_no_degrade : { testing.ctl with degradeEn := false }.degradeEn = false
    ∧ ((after (.selfTest true false true) { testing with ctl := { testing.ctl with degradeEn := false } }).flt.fatal.map fun f => f.source) = some 0x23 := by
  decide +kernel
/-- One event in the stream of target 33. -/
def toGrant : State :=
  { ready with vs := { ready.vs with vecs := [(4096, { vecZero with ev := some { ev with stream := some 33 } })] },
               ar := { State.arReset with heap := [33] }, ctl := { State.ctlReset with batchMax := 1 } }
theorem witness_round_grants : arbiterOn toGrant = true ∧ noWaits toGrant = true ∧ toGrant.ar.open_ = none ∧ toGrant.ar.heap = [33]
    ∧ toGrant.ar.heapWait = [] ∧ streamOf toGrant 33 = [(4096, { ev with stream := some 33 })] ∧ requests toGrant 33 = true
    ∧ toGrant.ar.bells = [] ∧ freeTag toGrant.ar.flight = some 0 ∧ isLocal 33 = false
    ∧ (vecOf (after .arbiterRound toGrant) 4096).active.isSome = true ∧ (tgtOf (after .arbiterRound toGrant) 33).amask = 0x200
    ∧ ((tagOf (after .arbiterRound toGrant).ar.flight 0).map fun w => (w.addr, w.handles, w.data.length)) = some (0x1000, [4096], 32) := by
  decide +kernel
/-- Its write is out, or a doorbell. -/
def out (bell : Bool) : State :=
  { ready with vs := { ready.vs with vecs := [(4096, { vecZero with active := some { target := 33, prio := 9, accepted := false, ev := ev } })] },
               ts := { ready.ts with targets := [(33, { tgt33 with amask := 0x200, tail := 30 })] },
               ar := { State.arReset with flight := [(7, { doorbell := bell, tenant := 0, addr := 0x1000, data := [], target := 33,
                                                           handles := if bell then [] else [4096], void := false })] } }
theorem witness_egress_outcome : live (out false) = true ∧ undisturbed (out false) = true ∧ (out false).md.engineEn = true ∧ noWaits (out false) = true ∧ (out false).ar.bells = []
    ∧ (tagOf (out false).ar.flight 7).map (fun w => (w.void, w.doorbell, w.handles)) = some (false, false, [4096])
    ∧ (tgtOf (out false) 33).tail.toNat + 1 < ringSize 33 (tgtOf (out false) 33)
    ∧ (tgtOf (after (.egressAccept 7) (out false)) 33).tail = 31 ∧ (after (.egressAccept 7) (out false)).cnt.delivered = 1
    ∧ (tgtOf (after (.egressReject 7) (out false)) 33).unreach = true ∧ (tgtOf (after (.egressReject 7) (out false)) 33).amask = 0
    ∧ (vecOf (after (.egressReject 7) (out false)) 4096).ev.isSome = true := by decide +kernel
theorem witness_doorbell_accepted : (tagOf (out true).ar.flight 7).map (fun w => (w.void, w.doorbell)) = some (false, true)
    ∧ (after (.egressAccept 7) (out true)).ar.flight = [] := by decide +kernel
/-- One record of a write. -/
def rec0 (e : Ev) : Out := { h := 4096, ev := e, prio := 9, heldFull := false, degraded := false, rerouted := false }
/-- Local target 0 at its last slot, its batch 2 µs old. -/
def tgt0 : Tgt := { tgtForm furn 0 with enable := true, tail := 31, batch := some { progress := 1, start := 0, wasEmpty := true } }
/-- A write open there. -/
def local0 (e : Ev) : State :=
  { ready with tm := { formed.tm with fab := 4000 }, ts := { ready.ts with targets := [(0, tgt0)] }, ar := { State.arReset with open_ := some { target := 0, recs := [rec0 e] } } }
theorem witness_batch_timeout : awake (local0 ev) = true ∧ (local0 ev).md.engineEn = true ∧ noWaits (local0 ev) = true
    ∧ batchDue (local0 ev) 0 = true ∧ isLocal 0 = true ∧ (local0 ev).ar.open_ = some { target := 0, recs := [rec0 ev] }
    ∧ (after (.batchTimeout 0) (local0 ev)).ar.open_ = none ∧ Memory.read (after (.batchTimeout 0) (local0 ev)).ts.lmem (992 + 26) = 9
    ∧ Memory.read (after (.batchTimeout 0) (local0 ev)).ts.lmem (992 + 24) = 255 ∧ Memory.read (after (.batchTimeout 0) (local0 ev)).ts.lmem 1024 = 0 := by
  decide +kernel
theorem witness_batch_timeout_closed : batchDue { local0 ev with ar := State.arReset } 0 = true
    ∧ (after (.batchTimeout 0) { local0 ev with ar := State.arReset }).ts.lmem = [] := by decide +kernel
theorem witness_batch_timeout_early : tdReloading (local0 ev) 0 = false ∧ batchDue { local0 ev with tm := { formed.tm with fab := 3999 } } 0 = false
    ∧ (after (.batchTimeout 0) { local0 ev with tm := { formed.tm with fab := 3999 } }).ts = (local0 ev).ts := by decide +kernel
/-- The same with the row of its descriptor being reloaded. -/
def local0Reloading : State := { local0 ev with ts := { (local0 ev).ts with reload := [0] } }
theorem witness_close_waits_for_reload : tdReloading local0Reloading 0 = true ∧ (closeWrite local0Reloading).ar.open_ = local0Reloading.ar.open_
    ∧ (after (.batchTimeout 0) local0Reloading).ts.lmem = [] := by decide +kernel
/-- A watchdog has run out. -/
def unheard (resend : Nat) : State :=
  { ready with ts := { ready.ts with targets := [(33, { tgt33 with tail := 1, resend := resend, maxResend := 8, wdog := some 1000000 })] } }
theorem witness_watchdog : calm (unheard 7) = true ∧ wdogDue (unheard 7) 33 = true ∧ (tgtOf (unheard 7) 33).maxResend.toNat = 8
    ∧ (tgtOf (after (.watchdogExpiry 33) (unheard 7)) 33).resend = 8 ∧ (tgtOf (after (.watchdogExpiry 33) (unheard 8)) 33).stalled = true
    ∧ wdogDue ready 33 = false ∧ (tgtOf (after (.watchdogExpiry 33) ready) 33).resend = 0 := by
  decide +kernel
theorem witness_coalesced : tdReloading (local0 ev) 0 = false ∧ (local0 ev).ar.open_.map (fun w => isLocal w.target.toNat) = some true ∧ (freeTag (out false).ar.flight).isSome = true
    ∧ (closeWrite (local0 { ev with wasHeld := true, count := 5 })).cnt.coalesced = 4 := by decide +kernel
/-- Group 0 of tenant 1 in a mode, holding one event or none. -/
def couched (c : Couch) (e : Option Ev) : State :=
  { ready with vs := { ready.vs with vecs := [(4352, { vecZero with ev := e })], calendar := [calCouch 0] }, ts := { ready.ts with couches := [(0, c)] } }
/-- A held event. -/
def heldEv : Ev := { ev with released := false, deadline := 1000000 }
/-- A hold-off group whose window ends now. -/
def couch1 (held : BitVec 11) : Couch :=
  { elastic := false, mode := 1, countMax := 0, timeMax := 0, holdoff := 10, timer := 65, window := some 1000000, held := held, changes := [] }
theorem witness_holdoff_end : calm (couched (couch1 1) (some heldEv)) = true ∧ effMode (couched (couch1 1) (some heldEv)) 0 = 1
    ∧ couchHeld (couched (couch1 1) (some heldEv)) 0 = [heldEv] ∧ couchHeld (after (.holdoffWindowEnd 0) (couched (couch1 1) (some heldEv))) 0 = []
    ∧ (couchOf (after (.holdoffWindowEnd 0) (couched (couch1 1) (some heldEv))) 0).window = some 1000080
    ∧ (couchOf (after (.holdoffWindowEnd 0) (couched (couch1 0) none)) 0).window = none
    ∧ (couched (couch1 1) none).md.mode ≠ .unformed ∧ (couchOf (couched (couch1 1) none) 0).changes = []
    ∧ (couchOf (after (.holdoffWindowEnd 0) (couched { couch1 0 with window := some 1000001 } none)) 0).window = some 1000001 := by decide +kernel
theorem witness_couch_fatal : (couched (couch1 1) (some heldEv)).flt.fatal = none
    ∧ (couchHeld (after (.holdoffWindowEnd 0) (after .clkFabLoss (couched (couch1 1) (some heldEv)))) 0).length = 1 := by decide +kernel
theorem witness_couch_time_limit : effMode (couched { couch1 1 with mode := 2, window := none } (some heldEv)) 0 = 2
    ∧ couchInstant (couched { couch1 1 with mode := 2, window := none } (some heldEv)) 0 = some 1000000
    ∧ calCouch 0 ∈ (couched { couch1 1 with mode := 2, window := none } (some heldEv)).vs.calendar
    ∧ couchHeld (after (.couchTimeLimit 0) (couched { couch1 1 with mode := 2, window := none } (some heldEv))) 0 = [] := by decide +kernel
/-- An event that waited for its deadline. -/
def waiting (sweep : Bool) : State :=
  { ready with vs := { ready.vs with vecs := [(4096, { vecZero with ev := some ev })], calendar := if sweep then [] else [4096],
                                     sweepList := if sweep then [4096] else [] } }
theorem witness_deadline_round : undisturbed (waiting false) = true ∧ (waiting false).ws.roundDue = false ∧ vteOn (waiting false) 4096 = some vte
    ∧ roundReady (waiting false) 4096 = true ∧ (waiting false).vs.queue = [] ∧ checkedOf (waiting false) 4096 = []
    ∧ couchFor (waiting false) vte.cfg = none ∧ evCouch (waiting false) ev = none ∧ roundReady (waiting true) 4096 = true := by decide +kernel
theorem witness_deadline_fatal : (after .clkFabLoss (waiting false)).flt.fatal.isSome = true
    ∧ ((vecOf (after (.deadlineArrival 4096) (after .clkFabLoss (waiting false))) 4096).ev.map fun e => e.stream) = some none := by decide +kernel
theorem witness_deadline : calm (waiting false) = true ∧ ranking (waiting false) = true ∧ (waiting false).flt.fatal = none ∧ noWaits (waiting false) = true
    ∧ ev.deadline ≤ now (waiting false) ∧ blockedAt (waiting false) ev 33 = false ∧ eligibleOn ev (tgtOf (waiting false) 33) = true
    ∧ 4096 ∈ (waiting false).vs.calendar ∧ (waiting true).vs.sweepList = [4096]
    ∧ (waiting true).tm.ticks.sweep < now (waiting true) / 1024
    ∧ ((vecOf (after (.deadlineArrival 4096) (waiting false)) 4096).ev.map fun e => e.stream) = some (some 33)
    ∧ ((vecOf (after .sweep (waiting true)) 4096).ev.map fun e => e.stream) = some (some 33) := by decide +kernel

/-! ### Target windows, tenants, the journal and host events -/

/-- Target 35 of tenant 1: records 1 and 2 of its 16 are unread. -/
def tgt35 : Tgt := { tgtForm furn 35 with ringLog2 := 4, enable := true, head := 1, tail := 3, stalled := true, resend := 5, threshold := 0x3F }

/-- In service with targets 33 to 35 of which 35 has unread records. -/
def busy35 : State := { ready with ts := { ready.ts with targets := [(33, tgt33), (35, tgt35)] } }

theorem witness_target_writes : calm busy35 = true ∧ portsDead busy35 = false ∧ targetReach busy35 (.tenant 1) 35 = true ∧ (handleSlice busy35 4607).isSome = true
    ∧ (handleSlice busy35 4608).isSome = false ∧ (vecOf (after (.tEoi (.tenant 1) 35 4607) busy35) 4607).eois = [35] ∧ (after (.tEoi (.tenant 1) 35 4607) busy35).vs.queue = [4607]
    ∧ (vecOf (after (.tEoi .mgmt 35 4095) busy35) 4095).eois = [35] := by decide +kernel
theorem witness_head_write : headOk 35 (tgtOf busy35 35) 3 false = true ∧ headOk 35 (tgtOf busy35 35) 4 false = false
    ∧ headOk 35 (tgtOf busy35 35) 3 true = false ∧ (tgtOf (after (.tHead (.tenant 1) 35 0x100003) busy35) 35).head = 3
    ∧ (tgtOf (after (.tHead (.tenant 1) 35 0x100003) busy35) 35).stalled = false
    ∧ (tgtOf (after (.tHead (.tenant 1) 35 0x100004) busy35) 35).head = 1 := by decide +kernel
theorem witness_rearm_hint_cprio : (tgtOf (after (.tRearm (.tenant 1) 35 0) busy35) 35).resend = 0
    ∧ (tgtOf (after (.tRearm .mgmt 31 0) busy35) 31).arm = true ∧ (tgtOf (after (.tHint (.tenant 1) 35 3) busy35) 35).pstate = 3
    ∧ (tgtOf (after (.tCprio (.tenant 1) 35 0x3F000400) busy35) 35).threshold = 4
    ∧ (tgtOf (after (.tCprio (.tenant 1) 35 0x00210021) busy35) 35).cprio = 0x21 := by decide +kernel
/-- The same where only two parties may change a local target's THRESHOLD. -/
def twoPartyThreshold : State := { busy35 with fu := { busy35.fu with formed := some { furn with dcScope := 0x20 } } }
theorem witness_threshold_kept : thresholdKept twoPartyThreshold .mgmt 31 = true ∧ thresholdKept twoPartyThreshold .mgmt 35 = false ∧ thresholdKept busy35 .mgmt 31 = false
    ∧ (tgtOf (after (.tCprio .mgmt 31 0x3F000400) twoPartyThreshold) 31).threshold = 0 ∧ (tgtOf (after (.tCprio .mgmt 31 0x00210021) twoPartyThreshold) 31).cprio = 0x21
    ∧ (tgtOf (after (.tCprio .mgmt 31 0x3F000400) busy35) 31).threshold = 4 := by decide +kernel
/-- REST with targets and 63 queued writes in each queue. -/
def restFull : State :=
  { rest with pw := { rest.pw with eoiQ := List.replicate 63 (.eoi 35 0), hintQ := List.replicate 63 (.hint 35 0) }, ts := busy35.ts }
theorem witness_sleep_queues : live restFull = true ∧ sleeping restFull = true ∧ targetReach restFull (.tenant 1) 35 = true
    ∧ restFull.pw.eoiQ.length = 63 ∧ restFull.pw.hintQ.length = 63 ∧ (after (.tEoi (.tenant 1) 35 9) restFull).pw.eoiQ.length = 64
    ∧ (after (.tHint (.tenant 1) 35 2) restFull).pw.hintQ.length = 64 ∧ (tgtOf (after (.tCprio (.tenant 1) 35 0x3F000400) restFull) 35).threshold = 0x3F
    ∧ portsDead restFull = false ∧ (after (.tCprio .mgmt 35 0x3F000400) restFull).pw.ignored.length = 1 := by decide +kernel
/-- REST with full queues, and a write held or none. -/
def restHeld (held : List Queued) : State :=
  { rest with pw := { rest.pw with eoiQ := List.replicate 64 (.eoi 35 0), heldWrites := held }, ts := busy35.ts }
theorem witness_write_held : 64 ≤ (restHeld []).pw.eoiQ.length ∧ (after (.tEoi (.tenant 1) 35 9) (restHeld [])).pw.heldWrites = [.eoi 35 9]
    ∧ (after (.tEoi (.tenant 1) 35 9) (restHeld [])).pw.wakeReq = some 8
    ∧ (after (.tEoi (.tenant 1) 35 9) (restHeld [.hint 35 1])).pw.heldWrites = [.hint 35 1, .eoi 35 9]
    ∧ (after (.tHead (.tenant 1) 35 3) restFull).pw.hintQ.length = 64 ∧ restFull.pw.heldWrites = [] := by decide +kernel
/-- Credits near the bucket, an empty journal bucket, changed entries, and a journal of 16 slots. -/
def accounts : State :=
  { busy35 with ts := { busy35.ts with tenants := [(0, { credits := 1, strangers := 0, denied := 0, status := State.scReset }),
                                                   (1, { credits := 6, strangers := 0, denied := 0, status := State.scReset })], dirty := [35] },
                vs := { busy35.vs with dirty := [4096] },
                jn := { State.jnReset with log2 := 10, head := 14, tail := 2, buckets := [(66, { tokens := 0, skipped := 3 })] } }
theorem witness_refills : awake accounts = true ∧ calm accounts = true ∧ accounts.fu.formed = some furn ∧ (furn.slices.map fun e => e.tenant).Nodup
    ∧ accounts.tm.ticks.credit < now accounts / 1000000 ∧ (tnOf (after .creditRefill accounts) 0).credits = 2
    ∧ (tnOf (after .creditRefill accounts) 1).credits = 8 ∧ now accounts / 1000000000 ≤ accounts.tm.ticks.bucket
    ∧ (after .journalBucketRefill accounts).jn.buckets = [(66, { tokens := 0, skipped := 3 })]
    ∧ now accounts / 1024000 ≤ accounts.tm.ticks.writeback ∧ (after .hwFieldWriteback accounts).vs.dirty = [4096] := by decide +kernel
/-- One second of local time. -/
def aSecond : State := { accounts with tm := { accounts.tm with now := 1000000000, ticks := { State.ticksReset with credit := 999 } } }
theorem witness_ticks : aSecond.tm.ticks.bucket < now aSecond / 1000000000 ∧ aSecond.tm.ticks.writeback < now aSecond / 1024000
    ∧ (after .journalBucketRefill aSecond).jn.buckets = [(66, { tokens := 64, skipped := 3 })]
    ∧ (after .hwFieldWriteback aSecond).vs.dirty = [] ∧ (after .hwFieldWriteback aSecond).ts.dirty = []
    ∧ (tnOf (after .creditRefill aSecond) 0).credits = 2 ∧ (tnOf (after .creditRefill (after .creditRefill aSecond)) 0).credits = 2 := by decide +kernel
/-- The journal full but for one slot, or full. -/
def nearlyFull (head : BitVec 31) : State := { accounts with jn := { accounts.jn with head := head } }
theorem witness_journal_put : journalOn (nearlyFull 4) = true ∧ jnlSlots (nearlyFull 4) = 16
    ∧ (jnlPut (nearlyFull 4) .journal (Vector.replicate 16 7)).jn.tail = 3 ∧ (jnlPut (nearlyFull 4) .journal (Vector.replicate 16 7)).jn.head = 4
    ∧ (jnlPut (nearlyFull 3) .journal (Vector.replicate 16 7)).jn.head = 4
    ∧ (jnlPut (nearlyFull 3) .journal (Vector.replicate 16 7)).status.has stJnlWrap = true
    ∧ ((jnlPut (nearlyFull 4) .journal (Vector.replicate 16 7)).ap.reqs.map fun e => (e.2.write, e.2.offset, e.2.data.length)) = [(true, 128, 16)]
    ∧ journalOn { accounts with ctl := { accounts.ctl with journalEn := false } } = false := by decide +kernel
theorem witness_journal_head : (after (.jnlHeadWrite .plain 2) accounts).jn.head = 2 ∧ (after (.jnlHeadWrite .plain 15) accounts).jn.head = 15
    ∧ (after (.jnlHeadWrite .plain 3) accounts).jn.head = 14 ∧ (after (.jnlHeadWrite .plain 16) accounts).jn.head = 14 := by decide +kernel
theorem witness_host_events : calm busy35 = true ∧ busy35.md.engineEn = true ∧ noWaits busy35 = true ∧ (sliceOf busy35 1).isSome = true
    ∧ tenantTargets busy35 1 = [34, 35] ∧ (after (.linkDown 9 1) busy35).io.hostAcks = 1 ∧ (tgtOf (after (.linkDown 9 1) busy35) 35).unreach = true
    ∧ (tgtOf (after (.lowPower 9 1) busy35) 34).hostUnreach = true ∧ (tgtOf (after (.hostReset 9 1) busy35) 33).unreach = false
    ∧ (tgtOf (after (.linkUp 9 1) (after (.hostReset 9 1) busy35)) 35).unreach = false := by decide +kernel
theorem witness_host_events_elsewhere : sliceOf busy35 2 = none ∧ (tgtOf (after (.linkDown 9 2) busy35) 35).unreach = false ∧ live rest = true ∧ sleeping rest = true
    ∧ (after (.linkUp 9 1) rest).pw.wakeReq = some 7 := by decide +kernel

/-! ### Furnish -/

/-- A section of an image. -/
def section_ (type : Byte) (count : Nat) (body : List Byte) : List Byte :=
  [type, 0, 0, 0] ++ wordBytes (w32 body.length) ++ wordBytes (w32 count) ++ List.replicate 4 0 ++ body

/-- An APERTURE entry of tenant 0. -/
def region_ (kind : Byte) (size4k offset4k : Nat) : List Byte :=
  [kind, 0, 0, 0] ++ wordBytes (w32 size4k) ++ wordBytes (w32 (4096 * offset4k)) ++ List.replicate 4 0

/-- An image without its digest: no vectors but the wired ones, 32 local targets, five regions. -/
def imageHead (magic : Byte) : List Byte :=
  [magic, 0x52, 0x55, 0x46, 1, 0, 0x60, 0x09] ++ wordBytes 1120 ++ [9, 0, 0, 0] ++ List.replicate 48 0
    ++ section_ 1 1 (wordBytes 4112 ++ wordBytes 32 ++ List.replicate 24 0)
    ++ section_ 2 1 ([0, 0, 2, 0] ++ List.replicate 10 0 ++ [32, 0] ++ List.replicate 16 0)
    ++ section_ 3 5 (region_ 1 32 0 ++ region_ 2 1 32 ++ region_ 5 4096 33 ++ region_ 6 16 4129 ++ region_ 7 512 4145)
    ++ section_ 4 0 ([64, 0] ++ List.replicate 14 0) ++ section_ 5 16 (List.replicate 64 0)
    ++ section_ 6 1 ([4, 0x0F, 0, 0] ++ wordBytes 100 ++ wordBytes 10 ++ List.replicate 4 0)
    ++ section_ 7 1 (List.replicate 496 0) ++ section_ 8 32 (List.replicate 128 0) ++ [0xFF, 0, 0, 0, 48] ++ List.replicate 11 0

/-- Its SHA-384 digest, computed outside the model. -/
def digest : List Word :=
  [0x7cef3f83, 0xd3824f6a, 0x0e4f5258, 0x2016caeb, 0x145c8a06, 0x71a41099, 0x87c6668b, 0xa506810a, 0xd4717f91, 0x4d3684a5, 0xbfae17b0, 0xf407c201]

/-- The image: its digest big-endian in the END body. -/
def image : List Byte := imageHead 0x4E ++ digest.flatMap fun w => (wordBytes w).reverse

theorem test_image_digest : (imageDigest image 1120).toList = digest := by decide +kernel

/-- The loader with an image offset of 4,145 pages and its length. -/
def loading (phase : Phase) (op : Option FurnOp) : State :=
  { State.reset with tm := formed.tm, ap := { State.apReset with log2 := 30, state := 1 },
                     fu := { State.fuReset with off := 265280, len := 1120, phase := phase, op := op } }

theorem witness_furnish_start : calm (loading .empty none) = true ∧ portsDead (loading .empty none) = false ∧ loadOk (loading .empty none) = true
    ∧ commandErr (loading .empty none) .load = none ∧ commandErr (loading .empty none) .warm = none
    ∧ (after .load (loading .empty none)).fu.phase = .fetch ∧ (after .warmForm (loading .empty none)).fu.op = some .warm
    ∧ (after .abandon (after .load (loading .empty none))).fu.phase = .empty := by decide +kernel
theorem witness_furnish_fails : (commandErr { loading .empty none with fu := { (loading .empty none).fu with len := 1121 } } .load).isSome = true
    ∧ (after .load { loading .empty none with fu := { (loading .empty none).fu with len := 1121 } }).fu.err = 1
    ∧ loadOk serving = false ∧ (after .load serving).fu.status.has fuCmdRej = true ∧ abandonOk serving = false
    ∧ live rest = true ∧ (after .abandon rest).fu.status.has fuCmdRej = true := by decide +kernel
/-- A reform of tenant 1 whose image lies elsewhere. -/
def reforming : State := { serving with fu := { serving.fu with off := 265280, len := 1120 } }
theorem witness_reform_start : calm reforming = true ∧ reformOk reforming 1 = true ∧ reformOk reforming 0 = false
    ∧ commandErr reforming (.reform 1) = none ∧ (after (.reform 1) reforming).fu.phase = .fetch := by decide +kernel
theorem witness_fetch_complete : awake (loading .fetch (some .load)) = true ∧ imageBytes (loading .fetch (some .load)) image = image
    ∧ (match sections image image.length with | .ok l => decide (l.length = 9) | .error _ => false) = true
    ∧ (endDigest image image.length).toList = digest ∧ (loading .fetch (some .load)).fu.approved = none := by decide +kernel
theorem witness_fetch_error : (imageHead 0x4F ++ List.replicate 48 0).length = 1120
    ∧ (match sections (imageHead 0x4F ++ List.replicate 48 0) 1120 with | .ok _ => 0 | .error e => e.code) = 4
    ∧ (after (.fetchComplete (imageHead 0x4F ++ List.replicate 48 0)) (loading .fetch (some .load))).fu.err = 4 := by decide +kernel
/-- Ten seconds later. -/
def late : State := { loading .await (some .load) with tm := { formed.tm with now := 10000000000 } }
theorem witness_approval_timeout : late.fu.phase = .await ∧ late.fu.awaitAt + 10000000000 ≤ now late
    ∧ now (loading .await (some .load)) < (loading .await (some .load)).fu.awaitAt + 10000000000 ∧ (after .approvalTimeout late).fu.err = 9 := by
  decide +kernel
/-- The image fetched. -/
def validating : State :=
  { loading .validate (some .load) with fu := { (loading .validate (some .load)).fu with image := image, computed := some (Vector.replicate 12 1) } }
/-- Its sections. -/
def imageSections : List Section :=
  [{ hdr := 64, len := 32, count := 1 }, { hdr := 112, len := 32, count := 1 }, { hdr := 160, len := 80, count := 5 },
   { hdr := 256, len := 16, count := 0 }, { hdr := 288, len := 64, count := 16 }, { hdr := 368, len := 16, count := 1 },
   { hdr := 400, len := 496, count := 1 }, { hdr := 912, len := 128, count := 32 }, { hdr := 1056, len := 48, count := 0 }]
theorem witness_validate : awake validating = true ∧ validating.fu.phase = .validate ∧ validating.flt.inject = none
    ∧ (match sections image 1120 with | .ok l => decide (l = imageSections) | .error _ => false) = true := by decide +kernel
theorem witness_validate_reserved : checkReserved image imageSections = none := by decide +kernel
theorem witness_validate_fields :
    checkFields image imageSections (furnishOf image imageSections) (imageOff validating) 1120 validating.ap.log2.toNat = none := by decide +kernel
/-- The tables written. -/
def forming : State := { loading .form (some .load) with fu := { (loading .form (some .load)).fu with next := some furn, computed := some (Vector.replicate 12 1) } }
theorem witness_form_commit : awake forming = true ∧ forming.fu.phase = .form ∧ forming.fu.op = some .load ∧ forming.fu.next = some furn
    ∧ forming.flt.fatal = none ∧ (after (.formCommit []) forming).fu.phase = .formed
    ∧ (after (.formCommit []) forming).ao.digest = some (Vector.replicate 12 1) ∧ (after (.formCommit []) forming).ctl.dcWindow = 100
    ∧ fetchingAll forming = []
    ∧ (after (.formCommit []) forming).ctl.allow = 0xF := by decide +kernel
/-- A stored VTE of zeros with a CRC that fails. -/
def wd8Bad : Words8 := (vteWords vteZero 0).set 3 99
/-- A stored VTE that a warm form rewrites (R112). -/
def warmRewritten (w : Words8) : Bool := !vteCrcOk w || decide (fld (wd8 w 4) 16 3 ≠ (0 : BitVec 3))
/-- A warm form whose tables are read. -/
def warming : State := { forming with fu := { forming.fu with op := some .warm } }
/-- The stored entry of wired line 0: as it stands, with a STATE of 3, or with a CRC that fails. -/
def storedOk : List (Nat × Words8) := [(0, vteWords { vte with cfg := { cfg with kind := 0 } } 0)]
/-- With STATE 3. -/
def storedState : List (Nat × Words8) := [(0, vteWords { vte with cfg := { cfg with kind := 0 } } 3)]
/-- With a wrong CRC. -/
def storedBad : List (Nat × Words8) := [(0, (vteWords { vte with cfg := { cfg with kind := 0 } } 0).set 3 99)]
theorem witness_warm_commit : warming.fu.op = some .warm ∧ warming.fu.next = some furn ∧ warming.fu.stored = none ∧ warming.flt.inject = none
    ∧ (storedVtes furn storedOk).map (fun x => (x.1, warmRewritten x.2)) = [(0, false)]
    ∧ (after (.formCommit storedOk) warming).fu.phase = .formed ∧ vteOn (after (.formCommit storedOk) warming) 0 = some { vte with cfg := { cfg with kind := 0 } }
    := by decide +kernel
/-- Its rewrites are out. -/
def rewriting (stored : List (Nat × Words8)) : State := after (.formCommit stored) warming
theorem witness_warm_rewrites : (storedVtes furn storedState).map (fun x => warmRewritten x.2) = [true]
    ∧ (storedVtes furn storedBad).map (fun x => warmRewritten x.2) = [true] ∧ (rewriting storedState).fu.phase = .form
    ∧ (rewriting storedState).fu.stored = some storedState ∧ apHas (rewriting storedBad) .form = true
    ∧ ((rewriting storedBad).ap.reqs.map fun e => (e.1, e.2.write, awaits e.2 .primary, reqDone (copyDone e.2 .primary))) = [(0, true, true, true)]
    ∧ apHas (apDone (rewriting storedBad) 0) .form = false ∧ (after (.apertureWriteAck 0 .primary) (rewriting storedBad)).fu.phase = .formed
    ∧ ((vteOn (after (.apertureWriteAck 0 .primary) (rewriting storedBad)) 0).map fun v => v.cfg.valid) = some false
    ∧ ((vteOn (after (.apertureWriteAck 0 .primary) (rewriting storedState)) 0).map fun v => (v.stored, v.cfg.valid)) = some (0, true) := by decide +kernel
/-- One of two rewrites is still out. -/
def rewritingTwo : State := rewriting (storedBad ++ [(32, wd8Bad)])
theorem witness_warm_waits : apHas (apDone rewritingTwo 0) .form = true ∧ (after (.apertureWriteAck 0 .primary) rewritingTwo).fu.phase = .form := by decide +kernel
/-- More bad entries than a warm form bears. -/
def manyBad : List (Nat × Words8) := (List.range 1025).map fun i => (32 * i, wd8Bad)
theorem witness_warm_fails : 1024 < (manyBad.filter fun x => !vteCrcOk x.2).length := by decide +kernel
theorem witness_warm_fails_handles : (storedVtes furn manyBad).length = 1025 := by decide +kernel
/-- A re-form of tenant 1 whose tables are written: its slice keeps 16 of its 256 vectors. -/
def furnSmall : Furnish :=
  { furn with slices := [slices.headD (sliceIn furn 0), { sliceIn furn 1 with vecCount := 16, bucket := 5 }] }
/-- With an event of vector 4,400 and the entry of 4,352 on chip. -/
def reformEnding : State :=
  { serving with fu := { serving.fu with phase := .form, op := some (.reform 1), next := some furnSmall, computed := some (Vector.replicate 12 2) },
                 vs := { State.vsReset with vecs := [(4400, { vecZero with ev := some ev })], vtes := [(4352, vte), (4400, vte)],
                                            ring := [(4352, true), (4400, true)] } }
theorem witness_reform_commit : reformEnding.fu.formed = some furn ∧ (sliceIn furn 1).base + keptCount (sliceIn furn 1) (sliceIn furnSmall 1) = 4368
    ∧ (after (.formCommit []) reformEnding).fu.phase = .formed ∧ (vecOf (after (.formCommit []) reformEnding) 4400).ev = none
    ∧ vteOn (after (.formCommit []) reformEnding) 4400 = none ∧ (tnOf (after (.formCommit []) reformEnding) 1).credits = 5
    ∧ (after (.formCommit []) reformEnding).ao.digest = some (Vector.replicate 12 2) := by decide +kernel
/-- Tenant 1 in re-form drain, with a write of it in flight or none, begun 1 ms ago. -/
def drainState (flight : Bool) : State :=
  { busy35 with fu := { serving.fu with phase := .drain, op := some (.reform 1), next := some furn },
                ar := { State.arReset with flight := if flight then [(3, { doorbell := false, tenant := 1, addr := 0, data := [], target := 35,
                                                                            handles := [4352], void := false })] else [] } }
theorem witness_reform_drain : drainBusy (drainState true) 1 = true ∧ drainBusy (drainState false) 1 = false ∧ noWaits (drainState false) = true
    ∧ (drainState false).flt.fatal = none ∧ ((sliceOf (drainState false) 1).map (drainChecked (drainState false))) = some []
    ∧ (drainState false).vs.vecs = [] ∧ (drainState false).ts.couches = [] ∧ (after .reformDrainComplete (drainState true)).fu.phase = .drain
    ∧ (after .reformDrainComplete (drainState false)).fu.phase = .form := by decide +kernel
theorem witness_reform_accept_timeout : awake (drainState true) = true ∧ (drainState true).fu.drainAt + 1000000 ≤ now (drainState true)
    ∧ (drainState true).md.engineEn = true ∧ (drainState true).ar.bells = [] ∧ (drainState true).ar.open_ = none
    ∧ writeOf (drainState true) 1 35 [4352] = true
    ∧ ((after (.reformAcceptTimeout 35) (drainState true)).ar.flight.map fun e => e.2.void) = [true] := by decide +kernel

/-! ### Entry access and two-party change -/

/-- The management unit names an entry, with its lock or none. -/
def unit (kind : BitVec 3) (index : BitVec 24) (lock : Option Lock) : EaUnit := { State.eaReset with kind := kind, index := index, lock := lock }
/-- A lock on an entry, its lease ending now. -/
def lock (kind : BitVec 3) (index : BitVec 24) (staged : Option Words8) : Lock :=
  { kind := kind, index := index, staged := staged, leaseMs := 10, timer := 0, expiry := 1000000 }
/-- In service with a management unit. -/
def withUnit (kind : BitVec 3) (index : BitVec 24) (l : Option Lock) : State := { ready with eaM := unit kind index l }

theorem witness_acquire : calm (withUnit 1 4111 none) = true ∧ portsDead (withUnit 1 4111 none) = false
    ∧ unitReach (withUnit 1 4111 none) .mgmt .mgmt = true
    ∧ entryReach (withUnit 1 4111 none) .mgmt (unit 1 4111 none) = true ∧ locksHeld (withUnit 1 4111 none) = []
    ∧ freeTimer (withUnit 1 4111 none) .mgmt = some 0
    ∧ ((after (.acquire .mgmt .mgmt 9) (withUnit 1 4111 none)).eaM.lock.map fun l => (l.index, l.expiry)) = some (4111, 11000000)
    ∧ ((after (.acquire .mgmt .mgmt 0) (withUnit 1 4111 none)).eaM.lock.map fun l => l.expiry) = some 1001000000 := by decide +kernel
/-- Tenant 1's unit on an entry of its slice, with the lock of another unit on an entry, or none. -/
def tenantUnit (other : Option Lock) : State :=
  { withUnit 1 0 other with vs := { ready.vs with vtes := [(4096, vte), (4352, { vte with cfg := { cfg with tenant := 1 } })] },
                            eaT := [(1, unit 1 4352 none)] }
/-- The same on an entry that is off chip, of a tenant, while the unit reads it or not. -/
def tenantOff (tenant : BitVec 12) (busy : Option Busy) : State :=
  { withUnit 1 0 none with vs := { ready.vs with away := [(4353, snapOf { vte with cfg := { cfg with tenant := tenant } })] },
                           eaT := [(1, { unit 1 4353 none with busy := busy })] }
theorem witness_acquire_off_chip : calm (tenantOff 1 (some (.reading 4353))) = true ∧ unitReach (tenantOff 1 none) (.tenant 1) (.tw 1) = true
    ∧ entryReach (tenantOff 1 none) (.tw 1) (unit 1 4353 none) = true ∧ entryReach (tenantOff 0 none) (.tw 1) (unit 1 4353 none) = false
    ∧ (eaOf (after (.acquire (.tenant 1) (.tw 1) 9) (tenantOff 1 (some (.reading 4353)))) (.tw 1)).lock.isSome = true
    ∧ (eaOf (after (.acquire (.tenant 1) (.tw 1) 9) (tenantOff 0 none)) (.tw 1)).status.has eaRange = true := by
  decide +kernel
theorem witness_release_off_chip : (eaOf (after (.release (.tenant 1) (.tw 1)) (tenantOff 0 none)) (.tw 1)).status.has eaRange = true
    ∧ structured (tenantOff 0 none) = true ∧ (eaOf (after (.release (.tenant 1) (.tw 1)) (tenantOff 1 none)) (.tw 1)).status.has eaNoLock = true := by decide +kernel
theorem witness_acquire_by_tenant : unitReach (tenantUnit none) (.tenant 1) (.tw 1) = true
    ∧ entryReach (tenantUnit none) (.tw 1) (unit 1 4352 none) = true
    ∧ freeTimer (tenantUnit none) (.tw 1) = some 1
    ∧ ((eaOf (after (.acquire (.tenant 1) (.tw 1) 9) (tenantUnit none)) (.tw 1)).lock.map fun l => (l.index, l.timer)) = some (4352, 1)
    ∧ (eaOf (after (.acquire .sec (.tw 1) 9) (tenantUnit none)) (.tw 1)).lock = none := by decide +kernel
theorem witness_acquire_contended : entryReach (withUnit 1 4111 (some (lock 1 0 none))) .mgmt (unit 1 4111 (some (lock 1 0 none))) = true
    ∧ (after (.acquire .mgmt .mgmt 9) (withUnit 1 4111 (some (lock 1 0 none)))).eaM.status.has eaContended = true
    ∧ entryReach (withUnit 1 4112 none) .mgmt (unit 1 4112 none) = false
    ∧ (after (.acquire .mgmt .mgmt 9) (withUnit 1 4112 none)).eaM.status.has eaRange = true := by decide +kernel
theorem witness_acquire_contended_by_other :
    ((locksHeld (tenantUnit (some (lock 1 4352 none)))).any fun l => lockOn l.2 1 (entryIndex (.tw 1) (unit 1 4352 none))) = true
    ∧ (eaOf (after (.acquire (.tenant 1) (.tw 1) 9) (tenantUnit (some (lock 1 4352 none)))) (.tw 1)).status.has eaContended = true := by decide +kernel
/-- Every lease timer of the tenants is taken. -/
def noTimer : State :=
  { tenantUnit none with eaT := (1, unit 1 4352 none) :: (List.range 63).map fun i => (100 + i, unit 1 0 (some { lock 1 0 none with timer := i + 1 })) }
theorem witness_acquire_no_timer : freeTimer noTimer (.tw 1) = none ∧ entryReach noTimer (.tw 1) (unit 1 4352 none) = true
    ∧ ((locksHeld noTimer).all fun l => !lockOn l.2 1 (entryIndex (.tw 1) (unit 1 4352 none))) = true
    ∧ (eaOf (after (.acquire (.tenant 1) (.tw 1) 9) noTimer) (.tw 1)).status.has eaNoTimer = true := by decide +kernel
theorem witness_release : holdsLock .mgmt (unit 1 4111 (some (lock 1 4111 none))) = true ∧ calm (withUnit 1 4111 (some (lock 1 4111 none))) = true
    ∧ (withUnit 1 4111 (some (lock 1 4111 none))).eaM.busy = none
    ∧ (after (.release .mgmt .mgmt) (withUnit 1 4111 (some (lock 1 4111 none)))).eaM.lock = none
    ∧ holdsLock .mgmt (unit 1 4111 none) = false ∧ (after (.release .mgmt .mgmt) (withUnit 1 4111 none)).eaM.status.has eaNoLock = true := by decide +kernel
theorem witness_lease_expiry : leaseDue (withUnit 1 0 (some (lock 1 0 none))) 0 = some .mgmt
    ∧ (after (.leaseExpiry 0) (withUnit 1 0 (some (lock 1 0 none)))).eaM.broken = true
    ∧ awake { idle with eaM := unit 1 0 (some (lock 1 0 none)) } = true
    ∧ (after (.leaseExpiry 0) { idle with eaM := unit 1 0 (some (lock 1 0 none)) }).eaM.lock = none := by decide +kernel
theorem witness_read : (withUnit 1 4096 none).eaM.busy = none ∧ undisturbed (withUnit 1 4096 none) = true ∧ reloading (withUnit 1 4096 none) 4096 = false ∧ (entryWords (withUnit 1 4096 none) 1 4096).isSome = true
    ∧ wd8 (after (.read .mgmt .mgmt) (withUnit 1 4096 none)).eaM.data 3 = 7 ∧ structured (withUnit 1 8000 none) = true
    ∧ entryReach (withUnit 1 8000 none) .mgmt (unit 1 8000 none) = false
    ∧ (after (.read .mgmt .mgmt) (withUnit 1 8000 none)).eaM.status.flags = 3 := by decide +kernel
theorem witness_no_lock : entryReach (withUnit 2 33 none) .mgmt (unit 2 33 none) = true ∧ (2 : BitVec 3) ≠ 6
    ∧ (after (.stage .mgmt .mgmt) (withUnit 2 33 none)).eaM.status.has eaNoLock = true
    ∧ (after (.apply .mgmt .mgmt) (withUnit 2 33 none)).eaM.status.has eaNoLock = true := by decide +kernel
theorem witness_stage : holdsLock .mgmt (unit 2 33 (some (lock 2 33 none))) = true
    ∧ ((after (.stage .mgmt .mgmt) (withUnit 2 33 (some (lock 2 33 none)))).eaM.lock.map fun l => (l.staged.isSome, l.expiry)) = some (true, 11000000) := by
  decide +kernel
/-- THRESHOLD 5 staged for target 33. -/
def tdStaged : Words8 := tdWords { tgt33 with threshold := 5, enable := false } false
theorem witness_apply : entryReach (withUnit 2 33 (some (lock 2 33 (some tdStaged)))) .mgmt (unit 2 33 (some (lock 2 33 (some tdStaged)))) = true
    ∧ isLocal 33 = false ∧ inTransfer (withUnit 2 33 (some (lock 2 33 (some tdStaged)))) 33 = false
    ∧ (tgtOf (withUnit 2 33 (some (lock 2 33 (some tdStaged)))) 33).changes = []
    ∧ tdCheck ready 33 (tdTake ready 33 .mgmt tgt33 tdStaged) = true
    ∧ (tgtOf (after (.apply .mgmt .mgmt) (withUnit 2 33 (some (lock 2 33 (some tdStaged))))) 33).threshold = 5
    ∧ (tgtOf (after (.apply .mgmt .mgmt) (withUnit 2 33 (some (lock 2 33 (some tdStaged))))) 33).enable = false := by decide +kernel
theorem witness_fence : fenceClear (withUnit 1 4096 (some (lock 1 4096 none))) 4096 (epochOf (withUnit 1 4096 (some (lock 1 4096 none))) 4096) = true
    ∧ (vteOn (withUnit 1 4096 (some (lock 1 4096 none))) 4096).isSome = true
    ∧ (after (.fence .mgmt .mgmt) (withUnit 1 4096 (some (lock 1 4096 none)))).eaM.status.has eaDone = true
    ∧ vteOn (withUnit 1 4100 (some (lock 1 4100 none))) 4100 = none
    ∧ (after (.fence .mgmt .mgmt) (withUnit 1 4100 (some (lock 1 4100 none)))).eaM.busy = some (.fenceRead 4100) := by decide +kernel


/-- Party S's key for tenant 1 in a state of its proposal. -/
def keyParty (st : PropSt) : PartyUnit :=
  { State.dcReset with stage := mk16 [5, 1, 11, 12, 13, 14], bound := mk16 [5, 1, 11, 12, 13, 14], st := st, idLo := 77, idHi := 3, windowEnd := 1000000 }
/-- In service with that proposal. -/
def keyed (st : PropSt) : State := { ready with dcS := keyParty st, dcM := { State.dcReset with approveLo := 77 } }
theorem witness_propose : calm (keyed .empty) = true ∧ portsDead (keyed .empty) = false ∧ proposeOk (keyed .empty) .S = true ∧ proposeOk (keyed .empty) .M = false
    ∧ (after (.propose .S) (keyed .empty)).dcS.st = .open ∧ (after (.propose .S) (keyed .empty)).dcS.idHi = 1
    ∧ (after (.propose .M) (keyed .empty)).dcM.status.has dcProposeRej = true := by decide +kernel
theorem witness_proposal_ends : (dcOf (keyed .open) .S).st = .open ∧ (dcOf (keyed .open) .S).windowEnd ≤ now (keyed .open)
    ∧ (after (.withdraw .S) (keyed .open)).dcS.st = .empty ∧ (after (.veto .M 0) (keyed .open)).dcS.status.has dcVetoed = true
    ∧ wd16 (after (.dcStageWrite .S .plain 15 9) (keyed .open)).dcS.stage 15 = 9 ∧ (after (.dcWindowExpiry .S) (keyed .open)).dcS.idLo = 0 := by
  decide +kernel
theorem witness_approve : (dcOf (keyed .open) .M).approveLo = (dcOf (keyed .open) .S).idLo ∧ propKind (dcOf (keyed .open) .S) = 5
    ∧ keyOf (after (.approve .M 3) (keyed .open)) 1 = 0x0000000E0000000D0000000C0000000B ∧ wd16 (after (.approve .M 3) (keyed .open)).dcS.stage 5 = 0
    ∧ (4 : Word) ≠ (dcOf (keyed .open) .S).idHi ∧ (after (.approve .M 4) (keyed .open)).dcM.status.has dcBadId = true := by decide +kernel
/-- A proposal of party M: the digest of an image, or that of a re-form of tenant 1. -/
def proposed (kind : BitVec 32) : State :=
  let w : Words16 := mk16 ([kind, 21, 22] ++ List.replicate 10 0 ++ [1, 0, 0])
  { ready with dcM := { State.dcReset with stage := w, bound := w, st := .open, idLo := 77, idHi := 3, windowEnd := 1000000 },
               dcS := { State.dcReset with approveLo := 77 } }
theorem witness_approved_digest : (dcOf (proposed 6) .M).st = .open ∧ (dcOf (proposed 6) .S).approveLo = (dcOf (proposed 6) .M).idLo
    ∧ (proposed 6).fu.phase ≠ .await ∧ propKind (dcOf (proposed 6) .M) = 6
    ∧ (after (.approve .S 3) (proposed 6)).fu.approved = some (.furnish (stageDigest (proposed 6).dcM.bound))
    ∧ (after (.approve .S 3) (proposed 6)).dcM.status.has dcApplied = true ∧ propKind (dcOf (proposed 4) .M) = 4
    ∧ (after (.approve .S 3) (proposed 4)).fu.approved = some (.reform (stageDigest (proposed 4).dcM.bound) 1) := by decide +kernel
/-- A two-party change of target 33's THRESHOLD and ENABLE, with a record in transfer there or none. -/
def tdProposal (busy : Bool) (enable : Bool) : State :=
  let w : Words16 := mk16 ([2, 33, 0x3FF] ++ (tdWords { tgt33 with threshold := 5, enable := enable, tenant := if enable then 9 else 0 } false).toList ++ List.replicate 5 0)
  { (if busy then out false else ready) with
      dcM := { State.dcReset with stage := w, bound := w, st := .open, idLo := 77, idHi := 3, windowEnd := 1000000 },
      dcS := { State.dcReset with approveLo := 77 } }
theorem witness_approved_change : propKind (tdProposal false false).dcM = 2 ∧ (wd16 (tdProposal false false).dcM.bound 1).toNat = 33
    ∧ hasHome (tdProposal false false) 2 33 = true ∧ (tgtOf (tdProposal false false) 33).changes = [] ∧ inTransfer (tdProposal false false) 33 = false
    ∧ inTransfer (tdProposal true false) 33 = true ∧ (after (.approve .S 3) (tdProposal true false)).dcM.st = .approved
    ∧ (tgtOf (after (.approve .S 3) (tdProposal true false)) 33).changes.length = 1
    ∧ (after (.approve .S 3) (tdProposal false false)).dcM.st = .empty
    ∧ (after (.approve .S 3) (tdProposal false false)).dcM.status.has dcApplied = true
    ∧ (tgtOf (after (.approve .S 3) (tdProposal false false)) 33).threshold = 5 := by decide +kernel
theorem witness_refused_change : tdCheck (tdProposal false true) 33 (tdTake (tdProposal false true) 33 (.party (wd16 (tdProposal false true).dcM.bound 2))
      (tgtOf (tdProposal false true) 33) (stageEntry (tdProposal false true).dcM.bound)) = false
    ∧ (after (.approve .S 3) (tdProposal false true)).dcM.status.has dcRefused = true
    ∧ (tgtOf (after (.approve .S 3) (tdProposal false true)) 33).threshold = tgt33.threshold := by decide +kernel
theorem witness_veto : otherParty .S = .M ∧ (after (.veto .M 5) (keyed .open)).dcS.status.has dcVetoed = true
    ∧ otherParty .M = .S ∧ (proposed 6).dcM.idLo = 77 ∧ (after (.veto .S 77) (proposed 6)).dcM.status.has dcVetoed = true
    ∧ (after (.veto .S 78) (proposed 6)).dcS.status.has dcBadId = true
    ∧ wd16 (after (.dcStageWrite .S .plain 3 9) (keyed .open)).dcS.stage 3 = 9
    ∧ wd16 (after (.dcStageWrite .S .plain 3 9) (keyed .open)).dcS.stage 2 = 0 := by decide +kernel
theorem witness_stage_of_empty : (dcOf (keyed .empty) .S).st = .empty ∧ wd16 (after (.dcStageWrite .S .plain 0 4) (keyed .empty)).dcS.stage 0 = 4 := by
  decide +kernel

/-! ### Wired inputs -/

/-- Wired line 5 and counted line 0 with VALID entries. -/
def wired (s : State) : State :=
  { s with vs := { State.vsReset with vtes := [(5, { vte with cfg := { cfg with kind := 0 } }), (3840, { vte with cfg := { cfg with kind := 5 } })] } }
theorem witness_wired_edge : live (wired serving) = true ∧ calm (wired serving) = true ∧ (lineCfg (wired serving) 5).valid = true
    ∧ (lineCfg (wired serving) 5).level = false ∧ (vecOf (after (.sampledEdge 5) (wired serving)) 5).steps = 1
    ∧ (after (.sampledEdge 5) (wired serving)).vs.queue = [5]
    ∧ sleeping (wired rest) = true ∧ (after (.sampledEdge 5) (wired rest)).ws.latch.getLsbD 5 = true := by decide +kernel
theorem witness_wired_latch : calm formed = true ∧ formed.md.mode ≠ .serving ∧ (lineCfg formed 9).level = false ∧ (after (.sampledEdge 9) formed).ws.latch = setBit 0 9
    ∧ calm (wired draining) = true ∧ (after (.sampledEdge 5) (wired draining)).ws.latch = setBit 0 5 := by decide +kernel
/-- An attempt whose latches are being armed. -/
def arming : State :=
  wired { idle with pw := { idle.pw with entry := some { target := .rest, step := .armed, origin := .idle, since := 900000, armedAt := 1000000 } } }
theorem witness_wake_window : awake arming = true ∧ wakeWindow arming = true ∧ (lineCfg arming 5).level = false
    ∧ (after (.sampledEdge 5) arming).ws.latch = 0 ∧ (vecOf (after (.sampledEdge 5) arming) 5).steps = 0
    ∧ (after (.sampledEdge 5) arming).pw.entry.isSome = true := by decide +kernel
theorem witness_edge_of_attempt : (wired (attempting .armed)).md.mode = .idle ∧ (lineCfg (wired (attempting .armed)) 5).valid = true
    ∧ ((wired (attempting .armed)).pw.entry.map fun e => decide (e.armedAt = now (wired (attempting .armed)))) = some false
    ∧ (after (.sampledEdge 5) (wired (attempting .armed))).pw.entry = none ∧ (after (.sampledEdge 5) (wired (attempting .armed))).vs.queue = [5]
    ∧ (after (.sampledEdge 5) (wired (attempting .draining))).md.mode = .serving ∧ (after (.sampledEdge 5) (wired (attempting .draining))).ws.latch = 0 := by
  decide +kernel
theorem witness_counted_steps : (lineCfg (wired serving) 3840).valid = true ∧ (vecOf (after (.countedStep 0 0b1000) (wired serving)) 3840).steps = 15
    ∧ (vecOf (after (.countedStep 0 0b0011) (wired serving)) 3840).steps = 2 := by decide +kernel
theorem test_level_line : (after (.levelLineChange 3839 true) serving).ws.high.getLsbD 3839 = true := by decide +kernel
/-- Line 5 with LEVEL 1. -/
def levelled : State := { serving with vs := { State.vsReset with vtes := [(5, { vte with cfg := { cfg with kind := 0, level := true } })] } }
theorem witness_level_line : awake levelled = true ∧ (lineCfg levelled 5).level = true ∧ levelled.ws.high.getLsbD 5 ≠ true
    ∧ (after (.levelLineChange 5 true) levelled).vs.queue = [5] ∧ (after (.levelLineChange 5 true) levelled).ws.latch = 0 := by decide +kernel

/-! ### Time, throttle, supply and clocks -/

theorem witness_time : timeRuns estimating = true ∧ estimating.tm.accepted = true ∧ (after (.timeAccept 3000000) estimating).tm.now = 3000000
    ∧ (after (.timeAccept 3000000) { estimating with flt := { State.fltReset with cdc := [(.time, 0)] } }).flt.cdc = []
    ∧ (after (.timeAccept 999999) serving).tm.now = 1000000 ∧ (after (.timeAccept 999999) serving).status.has stTimeJump = true
    ∧ (after .timeValidLoss serving).tm.estimated = true := by decide +kernel
theorem witness_throttle : awake serving = true ∧ (after (.throttleChange 7) serving).pw.throttle = 7 ∧ (after (.throttleChange 7) serving).pw.thrChanges = 1
    ∧ sleeping rest = true ∧ (after (.throttleChange 7) rest).pw.throttle = 0 ∧ (after (.throttleChange 7) rest).pw.thrPin = 7
    ∧ mute inSafe = false ∧ (after (.throttleChange 7) inSafe).pw.throttle = 7 := by decide +kernel
theorem witness_supply : live serving = true ∧ serving.pw.ackWait = false ∧ serving.flt.fatal = none
    ∧ ((after .vddOkFall serving).flt.fatal.map fun f => f.source) = some 0x29 ∧ rest.pw.ackWait = false ∧ (after .vddOkFall rest).pw.vddFell = true
    ∧ (after .vddOkFall { rest with pw := { rest.pw with ackWait := true } }).pw.vddFell = false := by decide +kernel
/-- Four heartbeats missed. -/
def missing (n : Nat) : State := { serving with ao := { State.aoReset with missed := n } }
theorem witness_clocks : awake (missing 4) = true ∧ ranking (missing 4) = true ∧ (missing 4).flt.fatal = none
    ∧ ((after .wedged (missing 4)).flt.fatal.map fun f => f.source) = some 0x2A ∧ (after .wedged (missing 3)).flt.fatal = none
    ∧ ((after .clkRegLoss serving).flt.fatal.map fun f => f.source) = some 0x28
    ∧ ((after .clkRegLoss (after .clkFabLoss serving)).flt.fatal.map fun f => f.source) = some 0x27
    ∧ (after .clkRegLoss (after .clkFabLoss serving)).flt.first = firstWord 3 0x28 0
    ∧ (after .clkRegLoss serving).flt.regStopped = true ∧ (after (.resetCmd .mgmt 0xB10C0001) (after .clkRegLoss serving)).ao.resetting = false := by decide +kernel
theorem witness_crossings : serving.ctl.deferFatal = false ∧ serving.tm.aoStopped = false ∧ (after (.cdcRetry .time 0) serving).flt.corr = 1
    ∧ (after (.cdcDeferred .counted 255) serving).flt.defer = 1 ∧ (.counted, 255) ∈ (after (.cdcDeferred .counted 255) serving).flt.cdc
    ∧ cdcFaulted serving .counted 255 = false ∧ cdcFaulted (after (.cdcDeferred .counted 255) serving) .counted 255 = true
    ∧ (after (.cdcDeferred .counted 255) (after (.cdcDeferred .counted 255) serving)).flt.defer = 1
    ∧ (after .aoClockStop serving).tm.aoStopped = true ∧ (after .aoEdgeSeenAgain (after .aoClockStop serving)).tm.aoStopped = false := by decide +kernel

/-- A write of REQ 6 that waits for an edge of IV_CLK_AO. -/
def heldReq : State := after (.modeReqWrite .plain 6) (after .aoClockStop serving)
theorem witness_ao_writes_held : heldReq.tm.aoStopped = true ∧ heldReq.ao.heldPuts = [{ form := .plain, a := 0x0C, w := 6, addr := 0x0C }]
    ∧ heldReq.pw.req = 0 ∧ (after .aoEdgeSeenAgain heldReq).pw.req = 6 ∧ (after .aoEdgeSeenAgain heldReq).md.mode = .draining
    ∧ (after .aoEdgeSeenAgain heldReq).ao.heldPuts = [] ∧ (after .aoClockStop serving).ao.heldPuts = [] := by decide +kernel

/-! ### The always-on island -/

theorem witness_heartbeat : awake serving = true ∧ serving.flt.beatStopped = false ∧ (after .heartbeat serving).ao.token = true
    ∧ (after .heartbeat { serving with flt := { State.fltReset with beatStopped := true } }).ao.token = false
    ∧ pollHeld serving = false ∧ pollWord (after .pollRefresh serving) 4 = 1000000 ∧ pollHeld (attempting .draining) = false
    ∧ awake (attempting .armed) = true ∧ pollHeld (attempting .armed) = true ∧ pollWord (after .pollRefresh (attempting .armed)) 4 = 0 := by decide +kernel
/-- A toggle due, or one 2^-16 ns too early. -/
def toggling (n : Nat) : State := { serving with ao := { State.aoReset with sinceToggle := n } }
theorem witness_alive : mute (toggling 6553600000) = false ∧ max (aliveHalf (toggling 6553600000)) 0x77359400 = 6553600000
    ∧ (after .aliveToggle (toggling 6553600000)).ao.alive = true ∧ (toggling 6553599999).ao.sinceToggle < aliveHalf (toggling 6553599999)
    ∧ (after .aliveToggle (toggling 6553599999)).ao.toggles = 0
    ∧ (after .aliveToggle { toggling 6553600000 with tm := { formed.tm with aoStopped := true } }).ao.toggles = 0 := by decide +kernel
/-- A sideband key set, with wrong keys counted. -/
def sideband (wrong : Nat) : State := { serving with ao := { State.aoReset with sbAddr := 0x3C, sbKey := 0xBEEF, sbWrong := wrong } }
theorem witness_sideband : mute (sideband 0) = false ∧ (sideband 0).ao.sb = State.sbReset ∧ (0x3C : Byte) = (sideband 0).ao.sbAddr
    ∧ (0x3D : Byte) ≠ (sideband 0).ao.sbAddr
    ∧ (after (.ping ⟨0x3C, 50⟩) (sideband 0)).ao.sbResp = some { status := 0x05, data := [] }
    ∧ (after (.ping ⟨0x3C, 50⟩) (sideband 0)).ao.sb = State.sbReset ∧ sbBusy (after (.ping ⟨0x3C, 49⟩) (sideband 0)) = true
    ∧ (after (.readAo ⟨0x3C, 146⟩ 1023) (sideband 0)).ao.sbResp.map (fun r => r.status) = some 0x05
    ∧ (after (.readAo ⟨0x3C, 146⟩ 1024) (sideband 0)).ao.sbResp = some { status := 0x35, data := [0, 0] }
    ∧ (after (.badCmd ⟨0x3C, 50⟩ 0x11) (sideband 0)).ao.sbResp = some { status := 0x15, data := [] }
    ∧ (after (.readAo ⟨0x3C, 146⟩ 1023) (sideband 0)).ao.sb = State.sbReset := by decide +kernel
theorem witness_sideband_mismatch : (after (.readPoll ⟨0x3D, 114⟩ 0) (sideband 0)).ao.sbResp = some { status := 0xF0, data := [0, 0] }
    ∧ (after (.readPoll ⟨0x3D, 114⟩ 0) (sideband 0)).ao.sb = State.sbReset
    ∧ (after (.ping ⟨0x3D, 50⟩) (sideband 0)).ao.sbResp = some { status := 0xF0, data := [] }
    ∧ (after (.sbWake ⟨0x3D, 50⟩) (sideband 0)).ao.sb = State.sbReset
    ∧ (after (.badCmd ⟨0x3D, 50⟩ 0x11) (sideband 0)).ao.sbResp = some { status := 0xF0, data := [] }
    ∧ (after (.sbReset ⟨0x3D, 82⟩ 1) (sideband 0)).ao.sbWrong = 0 ∧ (after (.sbReset ⟨0x3D, 82⟩ 1) (sideband 0)).ao.sb = State.sbReset := by decide +kernel
/-- A PING cut off after a number of line changes. -/
def cut (moves : Nat) : State := after (.ping ⟨0x3C, moves⟩) (sideband 0)
/-- The same, 64 AO ticks later. -/
def quietLate (moves : Nat) : State := { cut moves with ao := { (cut moves).ao with sb := { (cut moves).ao.sb with quiet := 64 } } }
theorem witness_sideband_request : (cut 24).ao.sb.rx = (msbBits (0x3C : Byte) ++ msbBits (0x10 : Byte)).take 12 ∧ (cut 24).ao.sbResp = none
    ∧ sbAck (cut 24) = .low ∧ sbAck (cut 25) = .high ∧ (cut 25).ao.sb.rx = (cut 24).ao.sb.rx ∧ sbReceiving (cut 25) = true
    ∧ (after .sbFrameAbandonBothRails (cut 24)).ao.sb = State.sbReset ∧ sbAck (after .sbFrameAbandonBothRails (cut 25)) = .low
    ∧ sbBusy (quietLate 25) = true ∧ sbAck (after .sbFrameTimeout (quietLate 25)) = .released := by decide +kernel
theorem witness_sideband_response : (cut 32).ao.sb.tx = msbBits (0x05 : Byte) ∧ sbAck (cut 32) = .released ∧ sbD0 (cut 32) = .released
    ∧ sbD1 (cut 32) = .released ∧ sbD0 (cut 33) = .low ∧ sbD1 (cut 33) = .low ∧ sbD0 (cut 34) = .high ∧ sbD1 (cut 34) = .low ∧ sbD0 (cut 35) = .low
    ∧ sbReceiving (cut 33) = false ∧ (after .sbFrameAbandonBothRails (cut 33)).ao.sb = (cut 33).ao.sb
    ∧ (after .sbFrameTimeout (quietLate 34)).ao.sbResp = none ∧ (after .sbFrameTimeout (cut 34)).ao.sb = (cut 34).ao.sb := by decide +kernel
theorem test_sideband_mode_word :
    (after (.readPoll ⟨0x3C, 114⟩ 0) { sideband 0 with md := { mode := .serving, seq := 0x17, prev := .idle, engineEn := true, lock := 0, lockTaken := true } }).ao.sbResp
      = some { status := 0x05, data := [0x1700, 0x0305] } := by decide +kernel
theorem witness_sideband_key : (sideband 7).ao.sbWrong < 8 ∧ (0xBEEF : BitVec 16) = (sideband 7).ao.sbKey ∧ (0xBEEF : BitVec 16) ≠ 0
    ∧ (after (.sbReset ⟨0x3C, 82⟩ 0xBEEF) (sideband 7)).ao.resetting = true ∧ (after (.sbReset ⟨0x3C, 82⟩ 1) (sideband 7)).ao.sbWrong = 8
    ∧ 8 ≤ (sideband 8).ao.sbWrong ∧ (after (.sbReset ⟨0x3C, 82⟩ 0xBEEF) (sideband 8)).ao.resetting = false := by decide +kernel
/-- Asleep with every wake source enabled. -/
def sleeper (s : State) : State :=
  { s with ctl := { State.ctlReset with wakeEn := 0x1F }, pw := { s.pw with comparator := some 0 }, vs := (wired s).vs }
theorem witness_wake_sources : live (sleeper dormant) = true ∧ (sleeper dormant).pw.wakeReq = none ∧ (sleeper dormant).pw.entry = none
    ∧ comparatorHit (sleeper dormant) = true ∧ lineWakes (sleeper rest) 1 = true ∧ sbIdle (sleeper rest) = true ∧ (after .wakePin (sleeper dormant)).pw.wakeCause = 1 ∧ (after .wakePin (sleeper dormant)).pw.wakeReq = some 1
    ∧ (after .aoWakeComparator (sleeper dormant)).pw.wakeReq = some 5 ∧ (after (.sbWake ⟨0, 32⟩) (sleeper rest)).pw.wakeReq = some 2
    ∧ (after (.wiredLevelWake 1) (sleeper rest)).pw.wakeReq = some 4 := by decide +kernel
/-- An attempt under way with every wake source enabled. -/
def attemptingAwake : State := { attempting .armed with ctl := { State.ctlReset with wakeEn := 0x1F } }
theorem witness_sideband_wake_abandons : awake attemptingAwake = true ∧ attemptingAwake.ctl.wakeEn.getLsbD 1 = true ∧ sbIdle attemptingAwake = true
    ∧ (attemptingAwake.pw.entry.map fun e => e.step.undoable) = some true ∧ (after (.sbWake ⟨0, 32⟩) attemptingAwake).pw.entry = none
    ∧ (after (.sbWake ⟨0, 32⟩) attemptingAwake).pw.retryAt = some 2000000 := by decide +kernel
theorem witness_wake_beat : (after (.wakeBeat 0) (sleeper rest)).pw.wakeReq = some 3 ∧ rest.ctl.wakeEn.getLsbD 2 = false
    ∧ (after (.wakeBeat 0) rest).pw.wakeReq = none ∧ (after (.wakeBeat 0) idle).md.mode = .serving := by decide +kernel

/-! ### Modes, power and resets -/

theorem witness_power_on_reset : (after .porstFall serving).ao.porst = true ∧ (after (.porstRelease true true) (after .porstFall serving)).md = State.mdReset
    ∧ serving.ao.porst = false := by decide +kernel
/-- Power-on reset, out of OFF by the wake pin. -/
def powered : State := after .wakePin { State.reset with md := { State.mdReset with mode := .off } }
theorem witness_wake_from_off : powered.ao.porst = true ∧ powered.md = State.mdReset ∧ powered.pw.pwrState = 4
    ∧ (after (.porstRelease true false) powered).flt.fenced = 2 ∧ (after (.porstRelease false true) powered).flt.fenced = 1
    ∧ (after (.porstRelease false true) powered).flt.defer = 1
    ∧ ((after (.porstRelease false false) powered).flt.fatal.map fun f => f.source) = some 0x21
    ∧ (after (.porstRelease false false) powered).md.mode = .unformed := by decide +kernel
/-- A block reset under way. -/
def resetting : State := { locked with ao := { State.aoReset with resetting := true } }
theorem witness_block_reset : mute serving = false ∧ resetKeyed 0xB10C0001 = true ∧ serving.ao.resetting = false
    ∧ (after (.resetCmd .mgmt 0xB10C0001) serving).ao.resetting = true ∧ (after (.resetCmd .sec 0xB10C0001) serving).ao.resetting = true
    ∧ resetting.ao.resetting = true ∧ resetting.pw.ackWait = false ∧ (after (.blockResetComplete true true) resetting).md = State.mdReset
    ∧ (after (.blockResetComplete true true) resetting).tm.now = 1000000 ∧ portsDead serving = false := by decide +kernel
/-- The same out of REST, 10 AO ticks after the entry. -/
def resettingRest : State := { rest with ao := { State.aoReset with resetting := true }, tm := { rest.tm with aoCount := 10 } }
theorem witness_block_reset_from_sleep : mute resettingRest = false ∧ sleeping resettingRest = true
    ∧ (after (.blockResetComplete true true) resettingRest).tm.now = 1305175
    ∧ (after (.porstRelease true true) { after .porstFall serving with pw := { State.pwReset with thrPin := 5 } }).pw.throttle = 5 := by decide +kernel
/-- SAFE that followed REST, with its block reset under way. -/
def resettingSafe : State := { resettingRest with md := { State.mdReset with mode := .safe, prev := .rest } }
theorem witness_block_reset_from_safe : coreSlept resettingSafe = true ∧ resettingSafe.ao.resetting = true ∧ resettingSafe.pw.ackWait = false
    ∧ coreSlept resetting = false ∧ (after (.blockResetComplete true true) resettingSafe).tm.now = 1305175 := by decide +kernel
theorem witness_reset_self_test : (after (.blockResetComplete true false) resetting).flt.fenced = 2
    ∧ (after (.blockResetComplete false true) resetting).flt.fenced = 1
    ∧ ((after (.blockResetComplete false false) resetting).flt.fatal.map fun f => f.source) = some 0x21 := by decide +kernel
theorem witness_engineEn_set : awake formed = true ∧ formed.md.mode = .unformed ∧ formed.md.engineEn = false ∧ formed.fu.phase = .formed
    ∧ formed.fu.formed = some furn ∧ formed.tm.accepted = true ∧ formed.md.lockTaken = false ∧ portsDead formed = false ∧ formed.pw.entry = none ∧ (after .engineEnSet formed).md.mode = .serving
    ∧ (after .engineEnSet formed).md.lock = 4 := by decide +kernel
/-- An attempt to OFF has committed in UNFORMED. -/
def offCommitted : State :=
  { formed with pw := { State.pwReset with entry := some { target := .off, step := .committed, origin := .unformed, since := 0, armedAt := 0 } } }
theorem witness_engineEn_committed : awake offCommitted = true ∧ offCommitted.md.mode = .unformed
    ∧ (offCommitted.pw.entry.map fun e => e.step.undoable) = some false ∧ (after .engineEnSet offCommitted).md.engineEn = true
    ∧ (after .engineEnSet offCommitted).md.mode = .unformed := by decide +kernel
theorem witness_engineEn_refused : State.reset.md.engineEn = false ∧ State.reset.fu.phase ≠ .formed
    ∧ (after .engineEnSet State.reset).ctl.cfgCount = 1 ∧ (after .engineEnSet State.reset).md.engineEn = false := by decide +kernel
theorem witness_engineEn_clear : calm ready = true ∧ ranking ready = true ∧ ready.md.engineEn = true ∧ transferNone ready = true ∧ noWaits ready = true
    ∧ (ready.ts.targets.all fun e => decide (e.2.batch = none)) = true ∧ (ready.vs.vecs.all fun e => decide (e.2.changes = [])) = true
    ∧ ready.ts.couches = [] ∧ (after .engineEnClear ready).md.mode = .unformed := by decide +kernel
theorem witness_control_bits : calm serving = true ∧ portsDead serving = false ∧ frozenBy serving lkCtl = false ∧ serving.flt.inject = none ∧ (after .ingressEnClear serving).ctl.ingressEn = false
    ∧ (after .ingressEnSet (after .ingressEnClear serving)).ctl.ingressEn = true ∧ (after .deliverEnClear serving).ctl.deliverEn = false
    ∧ (after .deliverEnSet (after .deliverEnClear serving)).ctl.deliverEn = true := by decide +kernel
theorem witness_freeze : (after .freezeSet locked).md.mode = .draining ∧ calm draining = true ∧ draining.md.engineEn = true
    ∧ (after .freezeClear draining).md.mode = .serving := by decide +kernel
theorem witness_mode_request_held : calm (after .aoClockStop serving) = true ∧ (after .aoClockStop serving).tm.aoStopped = true
    ∧ (after (.modeReqWrite .plain 6) (after .aoClockStop serving)).ao.heldPuts.length = 1
    ∧ (aoClock (after (.modeReqWrite .plain 6) (after .aoClockStop serving))).pw.req = 0 := by decide +kernel
theorem witness_mode_request : (after (.modeReqWrite .plain 6) serving).md.mode = .serving
    ∧ (aoClock (after (.modeReqWrite .plain 6) serving)).md.mode = .draining
    ∧ (aoClock (after (.modeReqWrite .plain 0) { draining with ctl := State.ctlReset })).md.mode = .serving ∧ reqNamed 7 = false
    ∧ (aoClock (after (.modeReqWrite .plain 7) serving)).status.has stCfgRej = true := by decide +kernel
/-- IDLE allowed and IDLE_AFTER set. -/
def allowed (s : State) : State := { s with ctl := { State.ctlReset with allow := 3, idleAfter := 10 } }
theorem witness_idle_entry : live (allowed serving) = true ∧ (allowed serving).pw.entry = none ∧ quiet (allowed serving) = true
    ∧ (allowed serving).ar.busyAt + 1000 * (allowed serving).ctl.idleAfter.toNat ≤ now (allowed serving)
    ∧ (after .idleEntry (allowed serving)).md.mode = .idle ∧ serving.ctl.allow.getLsbD 0 = false ∧ (after .idleEntry serving).md.mode = .serving
    ∧ (after .idleEntry { allowed serving with ar := { State.arReset with busyAt := 990001 } }).md.mode = .serving := by
  decide +kernel
/-- IDLE with an attempt due, and a slot occupied or none. -/
def dueIdle (slots : List Slot) : State :=
  { allowed idle with pw := { idle.pw with due := true, req := 2, retryAt := some 1000000 }, vat := { State.vatReset with slots := slots } }
theorem witness_entry_attempt : live (dueIdle []) = true ∧ attemptTarget (dueIdle []) = some .rest ∧ faultRefuses (dueIdle []) = false
    ∧ commitRefuses (dueIdle []) = false ∧ locksHeld (dueIdle []) = [] ∧ (dueIdle []).pw.due = true
    ∧ (after .entryAttempt (dueIdle [])).pw.entry.isSome = true ∧ (after .entryAttempt (dueIdle [slot])).pw.refCode = 2
    ∧ (after .entryRetry { dueIdle [] with pw := { (dueIdle []).pw with due := false } }).pw.entry.isSome = true := by decide +kernel
theorem witness_entry_drains : (transferNone (attempting .draining) && writesDone (attempting .draining)) = true
    ∧ ((after .entryDrainComplete (attempting .draining)).pw.entry.map fun e => e.step) = some .armed
    ∧ (after .entryDrainComplete (attempting .draining)).pw.copies = homeCopies (attempting .draining) := by decide +kernel
/-- A write has not completed in 50 µs. -/
def stuck : State := { attempting .draining with ap := (asked .journal true).ap, tm := { formed.tm with now := 950000 } }
theorem witness_entry_delivery_timeout : (transferNone stuck && writesDone stuck) = false ∧ 900000 + 50000 ≤ now stuck
    ∧ (after .entryDeliveryTimeout stuck).pw.refCode = 1 := by decide +kernel
/-- Its last round finds a bad row, or a mismatch that is not classified. -/
def lastRound (inject : BitVec 4) : State :=
  { toRank none with md := idle.md, pw := (attempting .armed).pw, vs := { (toRank none).vs with queue := [4096] },
                     flt := { State.fltReset with inject := some inject } }
theorem witness_last_round_mismatch : live (lastRound 2) = true ∧ (lastRounds (lastRound 2)).flt.fatal = none ∧ (lastRounds (lastRound 2)).flt.selfTest.isSome = true
    ∧ (after .entryCommit (lastRound 2)).pw.refCode = 7 ∧ (after .entryCommit (lastRound 2)).md.mode = .idle := by decide +kernel
theorem witness_last_round_fatal :
    (lastRounds { lastRound 5 with ctl := { State.ctlReset with deferFatal := true } }).flt.fatal.isSome = true
    ∧ (after .entryCommit { lastRound 5 with ctl := { State.ctlReset with deferFatal := true } }).md.mode = .idle := by decide +kernel
theorem witness_entry_commit : (lastRounds (attempting .armed)).flt.fatal = none ∧ (lastRounds (attempting .armed)).flt.selfTest = none ∧ live (attempting .armed) = true ∧ (attempting .armed).flt.fatal = none ∧ (attempting .armed).tm.aoStopped = false
    ∧ timerRefuses (lastRounds (attempting .armed)) .rest = false ∧ (attempting .armed).vs.queue = []
    ∧ (after .entryCommit (attempting .armed)).md.mode = .rest := by decide +kernel
/-- A watchdog will expire 10 µs from now. -/
def soon : State := { attempting .armed with ts := { State.tsReset with targets := [(33, { tgt33 with tail := 1, wdog := some 1010000 })] } }
theorem witness_entry_refused_by_timer : (lastRounds soon).flt.fatal = none ∧ (lastRounds soon).flt.selfTest = none ∧ timerRefuses (lastRounds soon) .rest = true ∧ (after .entryCommit soon).pw.refCode = 6 := by decide +kernel
theorem witness_entry_refused_without_edges :
    (after .entryCommit { attempting .armed with tm := { formed.tm with aoStopped := true } }).pw.refCode = 7
    ∧ (after .entryCommit { attempting .armed with tm := { formed.tm with aoStopped := true } }).md.mode = .idle := by decide +kernel
/-- The power controller has been asked. -/
def askedFor (mode : Mode) (step : EntryStep) (target : SleepTarget) : State :=
  { rest with md := { rest.md with mode := mode },
              pw := { rest.pw with ackWait := true, entry := some { target := target, step := step, origin := .idle, since := 0, armedAt := 0 } } }
theorem witness_power_ack : live (askedFor .rest .askedRest .rest) = true ∧ (askedFor .rest .askedRest .rest).pw.wakeReq = none
    ∧ (after (.pwrAck none) (askedFor .rest .askedRest .rest)).pw.pwrState = 2
    ∧ (after (.pwrAck none) (askedFor .rest .askedRest .dormant)).pw.pwrReq = 3 ∧ sleeping (askedFor .rest .askedDormant .dormant) = true
    ∧ (after (.pwrAck none) (askedFor .rest .askedDormant .dormant)).md.mode = .dormant
    ∧ (after (.pwrAck none) (askedFor .rest .askedOff .off)).md.mode = .off := by decide +kernel
/-- IV_WAKE_N asked on the way to OFF: the board powers Ivsyn up once OFF is reached (R284, R291, R295). -/
theorem test_wake_pin_on_the_way_to_off :
    (after (.pwrAck none) (after .wakePin (askedFor .rest .askedOff .off))).ao.porst = true := by decide +kernel
/-- A wake under way, with the supply lost in between or not. -/
def waking (fell : Bool) : State :=
  { rest with pw := { rest.pw with ackWait := true, wakeReq := some 5, vddFell := fell }, tm := { rest.tm with aoCount := 104862, aoCal := 1999920003 } }
theorem witness_wake : live (waking false) = true ∧ sleeping (waking false) = true ∧ retentionLost (waking false) = false
    ∧ (after (.pwrAck none) (waking false)).tm.now = 1000000 + 3200006276 ∧ ranking (after (.pwrAck none) (waking false)) = true
    ∧ retentionLost (waking true) = true ∧ (after (.pwrAck none) (waking true)).md.mode = .unformed
    ∧ (after (.pwrAck none) (waking true)).pw.retLost = true := by decide +kernel
/-- DORMANT with its retention set saved, and counters and a lock bit that have changed since. -/
def dormantWaking : State :=
  { dormant with pw := { dormant.pw with ackWait := true, wakeReq := some 1, ret := retentionSet { dormant with flt := { State.fltReset with corr := 5 } } },
                 flt := { State.fltReset with corr := 9 }, md := { dormant.md with lock := 0xFF } }
theorem witness_wake_restores : live dormantWaking = true ∧ dormantWaking.md.mode = .dormant ∧ dormantWaking.pw.ackWait = true ∧ dormantWaking.pw.entry = none
    ∧ dormantWaking.pw.wakeReq = some 1 ∧ dormantWaking.pw.ignored = [] ∧ (after (.pwrAck none) dormantWaking).md.engineEn = true
    ∧ (after (.pwrAck none) dormantWaking).ctl = dormantWaking.ctl ∧ (waking false).pw.ignored = []
    ∧ (after (.pwrAck none) (waking false)).md.lock = (waking false).md.lock
    ∧ ((after (.pwrAck none) (waking true)).ao.lgDue.map fun r => (fld (wd16 r 0) 0 8 : Byte)) = some 0x2C := by decide +kernel
theorem test_wake_restores_the_retention_set : retentionLost dormantWaking = false ∧ (after (.pwrAck none) dormantWaking).flt.corr = 5
    ∧ (after (.pwrAck none) dormantWaking).md.lock = 0 ∧ (after (.pwrAck none) dormantWaking).md.mode = .serving := by decide +kernel
theorem witness_safe_entry : live serving = true ∧ (after .clkFabLoss serving).flt.fatal.isSome = true ∧ inSafe.md.prev = .serving
    ∧ inSafe.ao.lgDue.isSome = true ∧ serving.flt.fatal = none ∧ (after (.safeEntry false true) serving).md.mode = .serving
    ∧ (after (.safeEntry true false) serving).md.mode = .safe
    ∧ ((after (.safeEntry true false) serving).ao.lgDue.map fun r => (fld (wd16 r 0) 0 8 : Byte)) = some 0x24 := by decide +kernel
/-- A fatal fault while the record of a loss of retention is still due. -/
def lostTwice : State := after .clkFabLoss (after (.pwrAck none) (waking true))
theorem witness_due_record_written_first : lostTwice.ao.lgDue.isSome = true ∧ lostTwice.flt.fatal.isSome = true
    ∧ ((after (.safeEntry false false) lostTwice).ao.lg.getD 0 none).map (fun r => (fld (wd16 r 0) 0 8 : Byte)) = some 0x2C
    ∧ (after (.safeEntry false false) lostTwice).ao.lgNum = 1
    ∧ ((after (.safeEntry false false) lostTwice).ao.lgDue.map fun r => (fld (wd16 r 0) 0 8 : Byte)) = some 0x27 := by decide +kernel
theorem witness_last_gasp : mute inSafe = false ∧ inSafe.tm.aoStopped = false ∧ (after .lastGasp inSafe).ao.lgNum = 1
    ∧ (after .lastGasp inSafe).ao.safeCause = 0x27 := by decide +kernel

/-! ### Faults -/

theorem witness_injection_armed : awake serving = true ∧ serving.flt.inject = none ∧ serving.flt.failPlane = 0 ∧ frozenBy serving lkFault = false
    ∧ bothPlanes serving = true ∧ portsDead serving = false ∧ cdcFaulted serving .fabReg 0 = false ∧ (after (.injectPlaneAMismatch 0xFA17) serving).flt.inject = some 1
    ∧ (after (.injectFenceB 0xFA17) serving).flt.inject = some 3 ∧ (after (.injectApertureReadError 0xFA17) serving).flt.inject = some 7 := by
  decide +kernel
theorem witness_injection_acts : (after (.injectHeartbeatStop 0xFA17) serving).flt.beatStopped = true
    ∧ ((after (.injectCollectorParity 0xFA17) serving).flt.fatal.map fun f => f.source) = some 0x24
    ∧ (after (.injectCdcDisagree 0xFA17) serving).flt.corr = 3 ∧ (after (.injectCdcDisagree 0xFA17) serving).flt.defer = 1 := by decide +kernel
theorem witness_injection_rejected : frozenBy locked lkFault = true ∧ (after (.injectEccSingle 0xFA17) locked).status.has stCfgRej = true
    ∧ (after (.injectEccDouble 0xFA16) serving).flt.inject = none
    ∧ (after (.injectFenceA 0xFA17) (after (.injectEccSingle 0xFA17) serving)).flt.inject = some 4 := by decide +kernel
theorem witness_refresh : sleeping serving = false ∧ (after (.refresh true 1 9 true .single) serving).flt.corr = 1
    ∧ (after (.refresh true 1 9 true .single) rest).pw.faultsHeld.length = 1 ∧ (after (.refresh true 1 9 true .clean) serving).pw.refreshHot = true
    ∧ (after (.refresh true 4 1 false .double) serving).flt.defer = 1 := by decide +kernel
/-- A vector of the cache whose row holds merge state. -/
def merged : State := { ready with vs := { ready.vs with vecs := [(4096, { vecZero with ev := some ev })] } }
theorem witness_refresh_without_copy : rowCopied ready 1 0 true = true ∧ rowCopied ready 1 0 false = false ∧ rowCopied merged 1 0 true = false
    ∧ rowCopied ready 5 0 true = false ∧ rowCopied ready 3 0 true = true
    ∧ ((after (.refresh false 1 0 true .double) merged).flt.fatal.map fun f => f.source) = some 0x25
    ∧ ((after (.refresh false 6 0 true .double) ready).flt.fatal.map fun f => f.source) = some 0x25 := by decide +kernel
theorem witness_refresh_reload : rowHandle ready 1 0 = some 4096 ∧ ready.fu.formed.isSome = true ∧ ready.flt.fatal = none
    ∧ (after (.refresh false 1 0 true .double) ready).flt.defer = 1 ∧ reloading (after (.refresh false 1 0 true .double) ready) 4096 = true
    ∧ (after (.refresh false 2 33 true .double) ready).ts.reload = [33]
    ∧ ((after (.refresh false 5 0 false .double) ready).flt.fatal.map fun f => f.source) = some 0x25 := by decide +kernel

/-! ### Intake, level rows, the arbiter and requests, in states of the sections above -/

theorem witness_parked_elsewhere : calm draining = true ∧ draining.md.mode ≠ .serving ∧ drainTenant draining = none ∧ freeReason .memWrite beat = 0
    ∧ ((after (.memoryWriteBeat 0 beat) draining).vat.slots.map fun x => x.st) = [.parked]
    ∧ ((after (.memoryWriteBeat 0 beat) State.reset).vat.slots.map fun x => (x.st, x.stamp)) = [(.parked, 0)] := by decide +kernel
/-- Offset 0 of a tenant's slice, from a port. -/
def beatOf (tenant : BitVec 12) (len : BitVec 13) (off : BitVec 26) : Beat := { beat with tenant := tenant, len := len, off := off }
/-- Tenant 1 in re-form drain with parked messages. -/
def drainParked (n : Nat) : State :=
  { drainState false with vat := { State.vatReset with slots := List.replicate n { slot with beat := beatOf 1 4 0, st := .parked } } }
theorem witness_parked_in_drain : calm (drainParked 1) = true ∧ (drainParked 1).md.mode = .serving ∧ drainTenant (drainParked 1) = some 1
    ∧ parkedOf (drainParked 1) 1 = 1 ∧ ((after (.memoryWriteBeat 0 (beatOf 1 4 0)) (drainParked 1)).vat.slots.map fun x => x.st) = [.parked, .parked]
    ∧ ((after (.memoryWriteBeat 0 beat) (drainParked 1)).vat.slots.map fun x => x.st) = [.parked, .checked 4096 (snapOf vte)] := by decide +kernel
theorem witness_parked_over_limit : parkedOf (drainParked 1024) 1 = 1024 ∧ drainTenant (drainParked 1024) = some 1 ∧ calm (drainParked 1024) = true
    ∧ (after (.memoryWriteBeat 0 (beatOf 1 4 0)) (drainParked 1024)).fu.discarded = 1
    ∧ (after (.memoryWriteBeat 0 (beatOf 1 4 0)) (drainParked 1024)).cnt.noise = 1
    ∧ parkedOf (drainParked 1023) 1 = 1023 ∧ (after (.memoryWriteBeat 0 (beatOf 1 4 0)) (drainParked 1023)).cnt.parked = 1 := by decide +kernel
theorem witness_beat_checked : calm ready = true ∧ ready.md.mode = .serving ∧ drainTenant ready = none ∧ ready.flt.inject = none
    ∧ vteOn ready 4096 = some vte ∧ reloading ready 4096 = false ∧ accepts vte.cfg.kind .memWrite = true ∧ originReason vte.cfg beat = 0
    ∧ ((after (.memoryWriteBeat 0 beat) ready).vat.slots.map fun x => x.st) = [.checked 4096 (snapOf vte)]
    ∧ (after (.memoryWriteBeat 0 beat) ready).vs.queue = [4096] ∧ (after (.memoryWriteBeat 0 beat) ready).vat.credits[(0 : Fin 4)] = 2047 := by decide +kernel
theorem witness_beat_fetching : vteOn ready 4352 = none ∧ ((after (.memoryWriteBeat 0 (beatOf 1 4 0)) ready).vat.slots.map fun x => x.st) = [.fetching 4352]
    ∧ apHas (after (.memoryWriteBeat 0 (beatOf 1 4 0)) ready) (.vteRead 4352) = true
    ∧ reloading { ready with vs := { ready.vs with reload := [4096] } } 4096 = true
    ∧ ((after (.memoryWriteBeat 0 beat) { ready with vs := { ready.vs with reload := [4096] } }).vat.slots.map fun x => x.st) = [.fetching 4096] := by
  decide +kernel
theorem witness_noise_reasons : freeReason .memWrite (beatOf 0 3 0) = 2 ∧ freeReason .memWrite (beatOf 0 4 2) = 3 ∧ freeReason .memWrite (beatOf 0 4097 0) = 12
    ∧ (after (.memoryWriteBeat 0 (beatOf 0 3 0)) ready).cnt.noise = 1 ∧ (after (.memoryWriteBeat 0 (beatOf 0 4 2)) ready).cnt.noise = 1
    ∧ (after (.memoryWriteBeat 0 (beatOf 0 4097 0)) ready).vat.credits[(0 : Fin 4)] = 2048
    ∧ sliceOf ready 9 = none ∧ (after (.memoryWriteBeat 0 (beatOf 9 4 0)) ready).cnt.noise = 1
    ∧ (after (.memoryWriteBeat 0 (beatOf 0 4 64)) ready).cnt.noise = 1 ∧ (after (.memoryWriteBeat 0 (beatOf 0 4 60)) ready).cnt.noise = 0
    ∧ accepts vte.cfg.kind .assert = false ∧ ((vteOn (after (.assertIntx 0 beat) ready) 4096).map fun e => e.dropped) = some 1 := by decide +kernel
/-- The entry of handle 4,096 with other fields, and a port's count. -/
def guarded (c : VteCfg) (n : Nat) : State :=
  { ready with vs := { ready.vs with vtes := [(4096, { vte with cfg := c })] }, vat := { State.vatReset with ports := [(0, { count := n, raised := false })] } }
theorem witness_invalid_entry : (after (.memoryWriteBeat 0 beat) (guarded { cfg with valid := false } 0)).cnt.noise = 1
    ∧ ((vteOn (after (.memoryWriteBeat 0 beat) (guarded { cfg with valid := false } 0)) 4096).map fun e => e.dropped) = some 1 := by decide +kernel
theorem witness_no_credit : let s := { ready with vat := { State.vatReset with credits := Vector.replicate 4 0 } }
    s.vat.credits[(1 : Fin 4)] = 0 ∧ (after (.memoryWriteBeat 1 beat) s).cnt.noise = 1 ∧ (after (.memoryWriteBeat 1 beat) s).vat.credits[(1 : Fin 4)] = 0 := by
  decide +kernel
theorem witness_stranger : originReason { cfg with originCheck := true, originRid := 7 } beat = 2 ∧ ready.ctl.quarEn = false
    ∧ (after (.memoryWriteBeat 0 beat) (guarded { cfg with originCheck := true, originRid := 7 } 0)).cnt.stranger = 1
    ∧ (after (.memoryWriteBeat 0 beat) (guarded { cfg with originCheck := true, originRid := 7 } 0)).cnt.noise = 0
    ∧ (tnOf (after (.memoryWriteBeat 0 beat) (guarded { cfg with originCheck := true, originRid := 7 } 0)) 0).strangers = 1
    ∧ (after (.memoryWriteBeat 0 beat) (guarded { cfg with tenant := 1 } 1023)).vat.ports = [(0, { count := 1024, raised := false })] := by decide +kernel
/-- The same with QUAR_EN 1. -/
def quarantining (n : Nat) : State := { guarded { cfg with tenant := 1 } n with ctl := { State.ctlReset with quarEn := true } }
theorem witness_stranger_limit : (portOf (quarantining 1023) 0).count = 1023 ∧ (after (.memoryWriteBeat 0 beat) (quarantining 1023)).vat.quar = [0]
    ∧ (portOf (after (.memoryWriteBeat 0 beat) (quarantining 1023)) 0).raised = true
    ∧ (after (.memoryWriteBeat 0 beat) (quarantining 1022)).vat.quar = [] ∧ (after (.memoryWriteBeat 0 beat) (quarantining 1024)).vat.quar = [] := by
  decide +kernel

/-- The entry of an INTx vector with LEVEL 1. -/
def lvte : Vte := { vte with cfg := { cfg with kind := 3, level := true } }
/-- An event of it. -/
def lev : Ev := { ev with snap := snapOf lvte, count := 1 }
/-- The vector's record at target 33. -/
def act33 : Active := { target := 33, prio := 9, accepted := true, ev := lev }
/-- A vector with that entry, and messages that wait for its round. -/
def leveled (v : Vec) (kinds : List BeatKind) : State :=
  { ready with vs := { ready.vs with vtes := [(4096, lvte)], vecs := [(4096, v)] },
               ts := { ready.ts with targets := [(33, { tgt33 with amask := 0x201 })] },
               vat := { State.vatReset with slots := kinds.map fun k => { slot with kind := k, st := .checked 4096 (snapOf lvte) },
                                            credits := Vector.ofFn fun i => if i = 2 then 2048 - kinds.length else 2048 } }
/-- After the round of the vector. -/
def ranked (s : State) : State := after (.rankingRound 4096 .agree) s
/-- What a round leaves of a vector: whether its source is noted, and COUNT, TIME, DATA and LEVEL_STILL_ASSERTED of its event. -/
def seen (s : State) (h : Nat) (on : Bool) (e : Option (Nat × Nat × Word × Bool)) : Bool :=
  decide ((vecOf s h).lineOn = on) && decide ((vecOf s h).ev.map (fun e => (e.count, e.time, e.data, e.stillOn)) = e)
theorem witness_level_ready : rounding (leveled vecZero [.assert]) = true ∧ undisturbed (leveled vecZero [.assert]) = true
    ∧ noWaits (leveled vecZero [.assert]) = true ∧ (leveled vecZero [.assert]).ws.roundDue = false ∧ vteOn (leveled vecZero [.assert]) 4096 = some lvte
    ∧ roundReady (leveled vecZero [.assert]) 4096 = true ∧ couchFor (leveled vecZero [.assert]) lvte.cfg = none
    ∧ (leveled vecZero [.assert]).ctl.ingressEn = true ∧ (checkedOf (leveled vecZero [.assert]) 4096).length = 1 := by decide +kernel
theorem witness_level_asserts : seen (ranked (leveled vecZero [.assert])) 4096 true (some (1, 999000, 7, false)) = true
    ∧ (ranked (leveled vecZero [.assert])).vat.slots = [] ∧ (ranked (leveled vecZero [.assert])).vat.credits[(2 : Fin 4)] = 2048
    ∧ seen (ranked (leveled { vecZero with ev := some lev } [.assert])) 4096 true (some (1, 998000, 1, false)) = true
    ∧ seen (ranked (leveled { vecZero with active := some act33 } [.assert])) 4096 true none = true := by decide +kernel
theorem witness_level_deasserts : seen (ranked (leveled { vecZero with ev := some lev, lineOn := true } [.deassert])) 4096 false none = true
    ∧ seen (ranked (leveled { vecZero with ev := some lev } [.deassert])) 4096 false (some (1, 998000, 1, false)) = true
    ∧ seen (ranked (leveled { vecZero with active := some act33, lineOn := true } [.deassert])) 4096 false none = true
    ∧ (ranked (leveled { vecZero with active := some act33, lineOn := true } [.deassert]) |> fun t => (vecOf t 4096).active) = some act33
    ∧ (ranked (leveled { vecZero with ev := some lev, lineOn := true } [.deassert])).cnt = (leveled vecZero []).cnt := by decide +kernel
theorem witness_level_eoi : roundReady (leveled { vecZero with active := some act33, eois := [33], lineOn := true } []) 4096 = true
    ∧ seen (ranked (leveled { vecZero with active := some act33, eois := [33], lineOn := true } [])) 4096 true (some (1, 1000000, 7, true)) = true
    ∧ (vecOf (ranked (leveled { vecZero with active := some act33, eois := [33], lineOn := true } [])) 4096).active = none
    ∧ (tgtOf (ranked (leveled { vecZero with active := some act33, eois := [33], lineOn := true } [])) 33).amask = 1
    ∧ seen (ranked (leveled { vecZero with active := some act33, eois := [33] } [])) 4096 false none = true := by decide +kernel
/-- Wired line 5 with LEVEL 1, high or low. -/
def lined (high : Bool) (v : Vec) : State :=
  { levelled with ws := { State.wsReset with high := if high then setBit 0 5 else 0 }, vs := { levelled.vs with vecs := [(5, v)] },
                  ts := { ready.ts with targets := [(33, tgt33)] } }
theorem witness_wired_level : roundReady (lined true vecZero) 5 = true ∧ (lined true vecZero).md.mode = .serving ∧ (lineCfg (lined true vecZero) 5).kind = 0
    ∧ seen (after (.rankingRound 5 .agree) (lined true vecZero)) 5 true (some (1, 1000000, 7, false)) = true
    ∧ seen (after (.rankingRound 5 .agree) (lined false { vecZero with ev := some lev, lineOn := true })) 5 false none = true
    ∧ seen (after (.rankingRound 5 .agree) (lined true { vecZero with active := some act33 })) 5 true none = true
    ∧ (after (.rankingRound 5 .agree) (lined false { vecZero with ev := some lev, lineOn := true })).cnt = (lined false vecZero).cnt := by decide +kernel

/-- The events of targets 32 and 33, with their deadlines, and the targets' waits. -/
def rivals (d32 d33 : Nat) (w32' w33 : Byte) : State :=
  { ready with vs := { ready.vs with vtes := [(4096, vte), (4097, { vte with cfg := { cfg with target := 32 } })], ring := [(4096, true), (4097, true)],
                                     vecs := [(4096, { vecZero with ev := some { ev with stream := some 33, deadline := d33 } }),
                                              (4097, { vecZero with ev := some { ev with snap := snapOf { vte with cfg := { cfg with target := 32 } },
                                                                                          stream := some 32, deadline := d32 } })] },
               ts := { ready.ts with targets := [(32, { tgt33 with wait := w32' }), (33, { tgt33 with wait := w33 })] },
               ar := { State.arReset with heap := [33, 32] }, ctl := { State.ctlReset with waitLim := 8 } }
/-- The vectors that hold a record after a round. -/
def holders (s : State) : List Nat := ((after .arbiterRound s).vs.vecs.filter fun v => v.2.active.isSome).map fun v => v.1
theorem witness_rivals : arbiterOn (rivals 9 8 0 0) = true ∧ noWaits (rivals 9 8 0 0) = true ∧ (rivals 9 8 0 0).ar.heapWait = [] ∧ (rivals 9 8 0 0).ar.heap.Nodup
    ∧ requests (rivals 9 8 0 0) 32 = true ∧ requests (rivals 9 8 0 0) 33 = true
    ∧ ((streamOf (rivals 9 8 0 0) 32).all fun e => mayStay (rivals 9 8 0 0) e.2 32) = true
    ∧ ((streamOf (rivals 9 8 0 0) 33).all fun e => mayStay (rivals 9 8 0 0) e.2 33) = true
    ∧ (streamHead (rivals 9 8 0 0) 33).map (fun e => e.1) = some 4096 := by decide +kernel
theorem witness_rival_wins : holders (rivals 9 8 0 0) = [4096] ∧ holders (rivals 8 9 0 0) = [4097] ∧ holders (rivals 8 8 0 1) = [4096]
    ∧ holders (rivals 8 8 1 1) = [4097] ∧ holders (rivals 8 9 0 8) = [4096] ∧ holders (rivals 8 9 0 7) = [4097] ∧ holders (rivals 8 9 8 8) = [4097]
    ∧ (tgtOf (after .arbiterRound (rivals 9 8 3 255)) 33).wait = 0 ∧ (tgtOf (after .arbiterRound (rivals 8 9 3 7)) 33).wait = 8
    ∧ (tgtOf (after .arbiterRound (rivals 8 9 9 255)) 33).wait = 255 := by decide +kernel
/-- The same with a write open at target 33. -/
def rivalOpen (preempt : Bool) : State :=
  let s := rivals 8 9 0 0
  { s with ctl := { s.ctl with preemptEn := preempt }, ar := { s.ar with open_ := some { target := 33, recs := [rec0 ev] } },
           ts := { s.ts with targets := [(32, tgt33), (33, { tgt33 with batch := some { progress := 1, start := 0, wasEmpty := true } })] } }
theorem witness_open_write_kept : requests (rivalOpen false) 33 = true ∧ holders (rivalOpen false) = [4096] ∧ (freeTag (rivalOpen false).ar.flight).isSome = true
    ∧ ((after .arbiterRound (rivalOpen false)).ar.flight.map fun e => (e.2.doorbell, e.2.target, e.2.handles)) = [(false, 33, [4096, 4096]), (true, 33, [])] := by
  decide +kernel
theorem witness_open_write_preempted : requests (rivalOpen true) 32 = true ∧ holders (rivalOpen true) = [4097] ∧ (rivalOpen true).ctl.preemptEn = true
    ∧ ((tagOf (after .arbiterRound (rivalOpen true)).ar.flight 0).map fun e => (e.doorbell, e.target, e.handles)) = some (false, 33, [4096]) := by
  decide +kernel

/-- A write of IV_MODE_REQ, and the next edge of IV_CLK_AO. -/
def requested (v : Word) (s : State) : State := aoClock (after (.modeReqWrite .plain v) s)
/-- Every depth allowed. -/
def deep (s : State) : State := { s with ctl := { s.ctl with allow := 0xF } }
theorem witness_mode_request_attempts : attemptTarget { aoEdge (deep serving) with pw := { serving.pw with req := 2 } } = some .rest
    ∧ (requested 2 (deep serving)).pw.entry.map (fun e => (e.target, e.step, e.origin)) = some (.rest, .draining, .serving)
    ∧ (requested 1 (deep idle)).pw.entry.map (fun e => (e.target, e.step, e.origin)) = some (.dormant, .draining, .idle)
    ∧ (requested 8 (deep formed)).pw.entry.map (fun e => (e.target, e.step, e.origin)) = some (.off, .armed, .unformed)
    ∧ (requested 2 (deep { serving with vat := { State.vatReset with slots := [slot] } })).pw.refCode = 2
    ∧ (requested 8 serving).pw = { serving.pw with req := 8 } ∧ (requested 1 (deep formed)).pw = { formed.pw with req := 1 } := by decide +kernel
theorem witness_mode_request_draining : draining.pw.due = false ∧ draining.pw.entry = none ∧ (requested 2 draining).pw = { draining.pw with req := 2 }
    ∧ (requested 2 draining).md.mode = .draining ∧ (requested 1 { draining with ctl := State.ctlReset }).md.mode = .serving
    ∧ (requested 1 { draining with ctl := State.ctlReset }).pw.entry = none := by decide +kernel
theorem witness_mode_request_asleep : live dormant = true ∧ sleeping dormant = true ∧ portsDead dormant = false ∧ dormant.tm.aoStopped = false
    ∧ dormant.ao.heldPuts = [] ∧ dormant.pw.wakeReq = none ∧ dormant.pw.entry = none ∧ (requested 0 dormant).pw.wakeReq = some 6
    ∧ (requested 6 rest).pw.wakeCause = 6 ∧ (requested 6 rest).pw.pwrReq = 0 ∧ (requested 6 rest).pw.ackWait = true
    ∧ (requested 8 rest).pw = { rest.pw with req := 8 } ∧ (requested 8 rest).md.mode = .rest ∧ (requested 2 dormant).tm.now = dormant.tm.now := by decide +kernel
theorem witness_idle_never : (allowed serving).ctl.idleAfter ≠ 0
    ∧ (after .idleEntry { allowed serving with ctl := { State.ctlReset with allow := 3 } }).md.mode = .serving
    ∧ (after .idleEntry (allowed draining)).md.mode = .draining ∧ (after .idleEntry (allowed formed)).md.mode = .unformed
    ∧ (after .idleEntry (attempting .armed)).pw.entry.isSome = true := by decide +kernel
/-- SERVING and quiet after a wake with IDLE_AFTER 0, REST asked for and allowed. -/
def woken (woke : Bool) (retry : Option Nat) : State :=
  { serving with ctl := { State.ctlReset with allow := 3 }, pw := { serving.pw with req := 2, woke := woke, retryAt := retry } }
theorem witness_attempt_from_serving : quietServing (woken true none) = true ∧ attemptTarget (woken true none) = some .rest
    ∧ (after .entryAttempt (woken true none)).pw.entry.map (fun e => (e.step, e.origin)) = some (.draining, .serving)
    ∧ (after .entryRetry (woken false (some 1000000))).pw.entry.isSome = true ∧ (after .entryRetry (woken false (some 1000001))).pw.entry = none
    ∧ (after .entryAttempt (woken false none)).pw.entry = none ∧ (after .entryRetry (woken true none)).pw.entry = none
    ∧ quietServing { woken true none with ctl := { State.ctlReset with allow := 3, idleAfter := 10 } } = false
    ∧ (after .entryAttempt { woken true none with ctl := { State.ctlReset with allow := 3, idleAfter := 10 } }).pw.entry = none
    ∧ attemptTarget { woken true none with pw := { serving.pw with req := 2, woke := true } } = some .rest
    ∧ attemptTarget { dueIdle [] with pw := { (dueIdle []).pw with req := 0 } } = none
    ∧ (after .entryAttempt { dueIdle [] with pw := { (dueIdle []).pw with req := 0 } }).pw.entry = none := by decide +kernel
/-- The code with which an attempt is refused. -/
def refusal (s : State) : BitVec 4 × Option Nat := ((after .entryAttempt s).pw.refCode, (after .entryAttempt s).pw.retryAt)
theorem witness_refusers : refusal { dueIdle [] with tm := { formed.tm with aoStopped := true } } = (7, some 2000000)
    ∧ refusal { dueIdle [] with fu := { formed.fu with phase := .await } } = (5, some 2000000)
    ∧ refusal { dueIdle [] with dcS := keyParty .open } = (3, some 2000000)
    ∧ refusal { dueIdle [] with eaM := unit 1 4111 (some (lock 1 4111 none)) } = (4, some 2000000)
    ∧ refusal { dueIdle [slot] with eaM := unit 1 4111 (some (lock 1 4111 none)) } = (4, some 2000000)
    ∧ refusal { dueIdle [slot] with dcS := keyParty .open, fu := { formed.fu with phase := .await } } = (5, some 2000000) := by decide +kernel
/-- An attempt to OFF from UNFORMED, with the journal's write out or none. -/
def offAttempt (step : EntryStep) (write : Bool) : State :=
  { formed with pw := { State.pwReset with entry := some { target := .off, step := step, origin := .unformed, since := 0, armedAt := 0 } },
                ap := if write then (asked .journal true).ap else formed.ap }
theorem witness_off_commit : live (offAttempt .armed false) = true ∧ writesDone (offAttempt .armed false) = true ∧ journalOn (offAttempt .armed false) = false
    ∧ (after .entryCommit (offAttempt .armed false)).pw.pwrReq = 4 ∧ ((after .entryCommit (offAttempt .armed false)).pw.entry.map fun e => e.step) = some .askedOff
    ∧ (after .entryCommit (offAttempt .armed false)).pw.ackWait = true ∧ writesDone (offAttempt .armed true) = false
    ∧ ((after .entryCommit (offAttempt .armed true)).pw.entry.map fun e => e.step) = some .committed
    ∧ (after .entryCommit (offAttempt .armed true)).pw.pwrReq = 0 := by decide +kernel
theorem witness_last_write_of_entry : writesDone (apDone (offAttempt .committed true) 255) = true
    ∧ ((after (.apertureWriteAck 255 .primary) (offAttempt .committed true)).pw.entry.map fun e => e.step) = some .askedOff
    ∧ (after (.apertureWriteAck 255 .primary) (offAttempt .committed true)).pw.pwrReq = 4
    ∧ ((after (.apertureWriteAck 255 .primary) { attempting .committed with ap := (asked .journal true).ap }).pw.entry.map fun e => e.step) = some .askedRest
    ∧ (after (.apertureWriteAck 255 .primary) { attempting .committed with ap := (asked .journal true).ap }).pw.pwrReq = 2 := by decide +kernel

/-- The sideband with its key disabled. -/
def keyless : State := { serving with ao := { State.aoReset with sbAddr := 0x3C, sbKey := 0 } }
theorem witness_sideband_key_zero : keyless.ao.sbKey = 0 ∧ (after (.sbReset ⟨0x3C, 82⟩ 0) keyless).ao.sbWrong = 1
    ∧ (after (.sbReset ⟨0x3C, 82⟩ 0) keyless).ao.resetting = false
    ∧ (after (.sbReset ⟨0x3C, 82⟩ 0) keyless).ao.sbResp.map (fun r => r.status) = (after (.sbReset ⟨0x3C, 82⟩ 1) (sideband 0)).ao.sbResp.map (fun r => r.status) := by
  decide +kernel
/-- An APPLY with nothing staged. -/
def nothingStaged : Change := { maskChange true 1 with words := none }
theorem witness_epoch_nothing_staged : nothingStaged.words = none
    ∧ (vteApply ready 4096 nothingStaged).map (fun t => (vteOn t 4096).map fun v => (v.epoch, v.cfg)) = some (some (0, cfg))
    ∧ (vteApply { ready with vs := { ready.vs with vtes := [(4096, { vte with cfg := { cfg with kind := 0 } })] } } 4096 nothingStaged).map
        (fun t => (vteOn t 4096).map fun v => v.epoch) = some (some 65535) := by decide +kernel
theorem witness_release_out_of_reach :
    (let s := { tenantOff 0 none with eaT := [(1, unit 1 4353 (some (lock 1 4353 none)))] }
     (eaOf (after (.release (.tenant 1) (.tw 1)) s) (.tw 1)).status.has eaRange = true ∧ (eaOf (after (.release (.tenant 1) (.tw 1)) s) (.tw 1)).lock.isSome = true)
    := by decide +kernel
/-- The descriptor of target 33 is being reloaded. -/
def reading33 : State := { withUnit 2 33 none with ts := { ready.ts with reload := [33] } }
theorem witness_read_waits_for_reload : tdReloading reading33 33 = true ∧ entryReach reading33 .mgmt (unit 2 33 none) = true
    ∧ (after (.read .mgmt .mgmt) reading33).eaM.busy = some (.readingTd 33) ∧ (after (.read .mgmt .mgmt) reading33).eaM.data = State.eaReset.data := by
  decide +kernel
theorem test_threshold_written_during_a_reload_is_kept :
    (tgtOf (after (.tCprio .mgmt 33 0x3F000400) { ready with ts := { ready.ts with reload := [33] } }) 33).thrKeep = 0x3F
    ∧ (tgtOf (after (.tCprio .mgmt 33 0x3F000400) ready) 33).thrKeep = 0 := by decide +kernel
theorem test_slot_of_a_group_without_owner : slotTake none .mgmt 0 0xFFFF 5 = 0xFFFF ∧ slotTake (some 1) .mgmt 0 5 99 = 5
    ∧ slotTake (some 0) .mgmt 0 5 99 = 99 ∧ borrowed none 31 = true ∧ borrowed none 32 = false := by decide +kernel
/-- Wired line 5 pending in DRAINING, and then SAFE. -/
def pendingLine : State := { wired draining with vs := { (wired draining).vs with vecs := [(5, { vecZero with ev := some ev })] } }
theorem test_wpend_in_safe : portRead pendingLine .mgmt 0x1000 = 0x20
    ∧ portRead (after (.safeEntry false false) (after .clkFabLoss pendingLine)) .mgmt 0x1000 = 0 := by decide +kernel

end Sys2Proof.Tests
end

section
/-! PROOF. What closing a write does to the open write, the egress port and the count of events saved by coalescing (R211, R231): of all that
it does, the account of the records alone adds to the count. -/

namespace Sys2Proof.Machine

/-- The count of saved events, the write under construction and the writes on the egress port. -/
def writeSide (s : State) : Word × Option OpenWrite × List (BitVec 8 × EgWrite) := (s.cnt.coalesced, s.ar.open_, s.ar.flight)

/-- A fold leaves alone what each of its steps leaves alone. -/
theorem forEach_writeSide {α : Type} {f : State → α → State} (hf : ∀ s x, writeSide (f s x) = writeSide s) (l : List α) (s : State) :
    writeSide (forEach l s f) = writeSide s := by
  induction l generalizing s with
  | nil => rfl
  | cons x r ih => exact (ih (f s x)).trans (hf s x)

/-! ### Tables and queues -/

@[simp] theorem vecPut_writeSide (s : State) (h : Nat) (v : Vec) : writeSide (vecPut s h v) = writeSide s := rfl
@[simp] theorem vteHw_writeSide (s : State) (h : Nat) (v : Vte) : writeSide (vteHw s h v) = writeSide s := rfl
@[simp] theorem owedPut_writeSide (s : State) (h : Nat) (o : Owed) : writeSide (owedPut s h o) = writeSide s := rfl
@[simp] theorem tgtPut_writeSide (s : State) (t : Nat) (g : Tgt) : writeSide (tgtPut s t g) = writeSide s := rfl

@[simp] theorem enqueue_writeSide (s : State) (h : Nat) : writeSide (enqueue s h) = writeSide s := by
  unfold enqueue
  split <;> rfl

@[simp] theorem addDelivered_writeSide (s : State) (h t : Nat) : writeSide (addDelivered s h t) = writeSide s := by
  unfold addDelivered
  split <;> rfl

/-! ### The aperture and the journal -/

@[simp] theorem apPut_writeSide (s : State) (r : AperReq) : writeSide (apPut s r) = writeSide s := by
  unfold apPut
  split <;> rfl

@[simp] theorem apRequest_writeSide (s : State) (p : Purpose) (write : Bool) (offset : Nat) (data : List Word) :
    writeSide (apRequest s p write offset data) = writeSide s := apPut_writeSide ..

@[simp] theorem fetchVte_writeSide (s : State) (h : Nat) : writeSide (fetchVte s h) = writeSide s := by
  unfold fetchVte
  split
  · rfl
  · exact apRequest_writeSide ..

@[simp] theorem jnlPut_writeSide (s : State) (p : Purpose) (r : Rec) : writeSide (jnlPut s p r) = writeSide s := by
  have hreq := apRequest_writeSide s p true (s.jn.base.toNat * 4096 + 64 * s.jn.tail.toNat) r.toList
  unfold jnlPut
  dsimp only
  split
  · split <;> exact hreq
  · rfl

@[simp] theorem jnlCopy_writeSide (s : State) (r : Rec) : writeSide (jnlCopy s r) = writeSide s := by
  unfold jnlCopy
  dsimp only
  split
  · split
    · rfl
    · exact (apRequest_writeSide ..).trans (apRequest_writeSide ..)
  · rfl

@[simp] theorem jnlRatedW1_writeSide (s : State) (tenant : Nat) (code : Byte) (arg : BitVec 24) (w1 : Word) (t : Nat) (ws : List (Nat × Word)) :
    writeSide (jnlRatedW1 s tenant code arg w1 t ws) = writeSide s := by
  unfold jnlRatedW1
  dsimp only
  split
  · split
    · rfl
    · exact (jnlCopy_writeSide ..).trans (jnlPut_writeSide ..)
  · rfl

/-! ### Faults and the comparison of the planes -/

@[simp] theorem faultCount_writeSide (s : State) (cls : BitVec 2) (src : BitVec 8) (arg m : BitVec 24) (inj : Bool) :
    writeSide (faultCount s cls src arg m inj) = writeSide s := rfl

@[simp] theorem jnlFault_writeSide (s : State) (t : Nat) (code : Byte) (src : BitVec 8) (arg : BitVec 24) (w5 w6 : Word) (inj : Bool) :
    writeSide (jnlFault s t code src arg w5 w6 inj) = writeSide s := by
  unfold jnlFault
  dsimp only
  split
  · exact jnlRatedW1_writeSide ..
  · exact jnlPut_writeSide ..

@[simp] theorem corrected_writeSide (s : State) (src : BitVec 8) (arg : BitVec 24) (inj : Bool) :
    writeSide (corrected s src arg inj) = writeSide s :=
  (jnlFault_writeSide ..).trans (faultCount_writeSide ..)

@[simp] theorem roundCompare_writeSide (s : State) (h : BitVec 24) (check : PlaneCheck) :
    writeSide (roundCompare s h check).1 = writeSide s := by
  unfold roundCompare
  dsimp only
  split
  · split <;> rfl
  · split
    · rfl
    · split
      · exact corrected_writeSide ..
      · split
        · rfl
        · split
          · rfl
          · cases check with
            | retryAgrees => exact corrected_writeSide ..
            | agree | residueError | disagree => rfl

/-! ### The acceptance of records -/

@[simp] theorem outcomeGather_writeSide (s : State) (h : Nat) (ok : Bool) : writeSide (outcomeGather s h ok) = writeSide s :=
  enqueue_writeSide ..

@[simp] theorem acceptVec_writeSide (s : State) (h : Nat) : writeSide (acceptVec s h) = writeSide s := by
  unfold acceptVec
  dsimp only
  split <;> rfl

theorem outcomeAt_writeSide {act : State → Nat → State} (ha : ∀ s h, writeSide (act s h) = writeSide s) (s : State) (h : Nat) (ok : Bool) :
    writeSide (outcomeAt s h ok act) = writeSide s := by
  unfold outcomeAt
  dsimp only
  split
  · exact outcomeGather_writeSide ..
  · split
    · exact (ha ..).trans (roundCompare_writeSide ..)
    · exact (outcomeGather_writeSide ..).trans (roundCompare_writeSide ..)

@[simp] theorem acceptOne_writeSide (t : Nat) (s : State) (h : Nat) : writeSide (acceptOne t s h) = writeSide s := by
  have hout := outcomeAt_writeSide acceptVec_writeSide s h true
  unfold acceptOne
  dsimp only
  split
  · exact (fetchVte_writeSide ..).trans ((addDelivered_writeSide ..).trans hout)
  · exact (addDelivered_writeSide ..).trans hout

@[simp] theorem wdogFix_writeSide (s : State) (t : Nat) : writeSide (wdogFix s t) = writeSide s := by
  unfold wdogFix
  dsimp only
  split <;> split <;> rfl

@[simp] theorem acceptRecs_writeSide (s : State) (t : Nat) (hs : List Nat) : writeSide (acceptRecs s t hs) = writeSide s := by
  unfold acceptRecs
  dsimp only
  rw [wdogFix_writeSide, tgtPut_writeSide, forEach_writeSide (acceptOne_writeSide t)]

/-! ### The account of the records -/

@[simp] theorem lateRec_writeSide (s : State) (t : Nat) (o : Out) (issue : Nat) : writeSide (lateRec s t o issue) = writeSide s := by
  unfold lateRec
  dsimp only
  split
  · exact jnlRatedW1_writeSide ..
  · rfl

@[simp] theorem strobe_writeSide (s : State) : writeSide (strobe s) = writeSide s := by
  unfold strobe
  dsimp only
  split <;> rfl

/-- A bit of a Bool is set at its own place alone. -/
theorem getLsbD_bit {w : Nat} (b : Bool) (i j : Nat) : (bit b i : BitVec w).getLsbD j = (b && decide (i = j) && decide (j < w)) := by
  cases b with
  | false => simp [bit]
  | true => simp only [bit, if_true, BitVec.getLsbD_ofNat, Nat.testBit_two_pow, Bool.true_and, Bool.and_comm]

/-- Bit 0 of FLAGS is COALESCED: the event was held and merged (R230). -/
theorem recFlags_coalesced (o : Out) (late even : Bool) : (recFlags o late even).getLsbD 0 = (o.ev.wasHeld && decide (1 < o.ev.count)) := by
  simp only [recFlags, BitVec.getLsbD_or, getLsbD_bit]
  simp

/-- A record adds to the count what coalescedSum takes for it. -/
theorem coalRec_writeSide (s : State) (o : Out) :
    writeSide (coalRec s o) = (s.cnt.coalesced + coalescedSum [o], s.ar.open_, s.ar.flight) := by
  simp only [coalescedSum, List.foldr, recFlags_coalesced, coalRec]
  split <;> simp [writeSide]

/-- What the issue of one record does: its LATE account, its COALESCED account and the trace strobe. -/
def issueRec (t issue : Nat) (s : State) (o : Out) : State := strobe (coalRec (lateRec s t o issue) o)

theorem issueRec_writeSide (t issue : Nat) (s : State) (o : Out) :
    writeSide (issueRec t issue s o) = (s.cnt.coalesced + coalescedSum [o], s.ar.open_, s.ar.flight) := by
  have hlate := lateRec_writeSide s t o issue
  simp only [writeSide, Prod.mk.injEq] at hlate
  obtain ⟨hcnt, hopen, hflight⟩ := hlate
  rw [issueRec, strobe_writeSide, coalRec_writeSide, hcnt, hopen, hflight]

theorem coalescedSum_cons (o : Out) (r : List Out) : coalescedSum (o :: r) = coalescedSum [o] + coalescedSum r := by
  simp [coalescedSum]

/-- The records of a write add up; the open write and the egress port stand. -/
theorem forEach_issueRec_writeSide (t issue : Nat) (recs : List Out) (s : State) :
    writeSide (forEach recs s (issueRec t issue)) = (s.cnt.coalesced + coalescedSum recs, s.ar.open_, s.ar.flight) := by
  induction recs generalizing s with
  | nil => simp [forEach, coalescedSum, writeSide]
  | cons o r ih =>
    have hone := issueRec_writeSide t issue s o
    simp only [writeSide, Prod.mk.injEq] at hone
    obtain ⟨hcnt, hopen, hflight⟩ := hone
    rw [forEach, ih, hcnt, hopen, hflight, coalescedSum_cons o r, BitVec.add_assoc]

/-! ### The close of a write -/

/-- The state in which the records of an open write have been accounted for and nothing has been issued yet. -/
def issuedRecs (s : State) (w : OpenWrite) : State :=
  forEach w.recs { s with ar := { s.ar with open_ := none } } (issueRec w.target.toNat (now s))

theorem issuedRecs_writeSide (s : State) (w : OpenWrite) :
    writeSide (issuedRecs s w) = (s.cnt.coalesced + coalescedSum w.recs, none, s.ar.flight) :=
  forEach_issueRec_writeSide ..

/-- The write waits while its target's descriptor is being reloaded (R316, assumption log 91). -/
theorem closeWrite_of_reloading {s : State} {w : OpenWrite} (ho : s.ar.open_ = some w) (hr : tdReloading s w.target.toNat = true) :
    closeWrite s = s := by
  simp [closeWrite, ho, hr]

/-- A write to a local ring is accepted at once: it leaves what its records' account left. -/
theorem closeWrite_local_writeSide {s : State} {w : OpenWrite} (ho : s.ar.open_ = some w) (hr : tdReloading s w.target.toNat = false)
    (hl : isLocal w.target.toNat = true) : writeSide (closeWrite s) = (s.cnt.coalesced + coalescedSum w.recs, none, s.ar.flight) := by
  simp only [closeWrite, ho, hr, hl, if_true, Bool.false_eq_true, if_false]
  exact (acceptRecs_writeSide ..).trans (issuedRecs_writeSide s w)

/-- A remote write takes the free tag: besides what its records' account left, it stands on the egress port. -/
theorem closeWrite_remote_writeSide {s : State} {w : OpenWrite} {tag : BitVec 8} (ho : s.ar.open_ = some w)
    (hr : tdReloading s w.target.toNat = false) (hl : isLocal w.target.toNat = false) (ht : freeTag s.ar.flight = some tag) :
    ∃ e, writeSide (closeWrite s) = (s.cnt.coalesced + coalescedSum w.recs, none, s.ar.flight ++ [(tag, e)]) := by
  have hs := issuedRecs_writeSide s w
  simp only [writeSide, Prod.mk.injEq] at hs
  obtain ⟨hcnt, hopen, hflight⟩ := hs
  rw [← hflight] at ht ⊢
  rw [← hcnt, ← hopen]
  unfold issuedRecs issueRec at ht ⊢
  simp only [closeWrite, ho, hr, hl, ht, Bool.false_eq_true, if_false]
  exact ⟨_, rfl⟩

end Sys2Proof.Machine

namespace Sys2Proof

open Sys2Proof.Machine

/-- Settles O30: the account of the records is the one step of the close that adds to the count, and it adds COUNT - 1 for each record that
carries COALESCED. -/
theorem coalescedRecordsAreCounted : Obligations.CoalescedRecordsAreCounted := by
  intro s w ho
  refine ⟨fun hr hway => ?_, closeWrite_of_reloading ho⟩
  have hside : ∃ fl, writeSide (closeWrite s) = (s.cnt.coalesced + coalescedSum w.recs, none, fl) := by
    cases hl : isLocal w.target.toNat with
    | true => exact ⟨_, closeWrite_local_writeSide ho hr hl⟩
    | false =>
      obtain ⟨tag, ht⟩ := Option.isSome_iff_exists.mp (hway.resolve_left (by simp [hl]))
      obtain ⟨e, he⟩ := closeWrite_remote_writeSide ho hr hl ht
      exact ⟨_, he⟩
  obtain ⟨fl, hfl⟩ := hside
  simp only [writeSide, Prod.mk.injEq] at hfl
  obtain ⟨hcnt, hopen, _⟩ := hfl
  exact ⟨hcnt, hopen⟩

end Sys2Proof
end

section
/-! PROOF. What a run of hardware sets does to a seq-clear register (R353): SEQ counts the sets modulo 256, so a clear that carries the SEQ of
before the run is accepted exactly after a multiple of 256 of them. -/

namespace Sys2Proof.Machine

theorem getLsbD_setBit {w : Nat} (m : BitVec w) (i j : Nat) (hj : j < w) :
    (setBit m i).getLsbD j = (m.getLsbD j || decide (j = i)) := by
  rw [setBit, BitVec.getLsbD_or, BitVec.getLsbD_ofNat, Nat.testBit_two_pow]
  simp [hj, eq_comm]

/-! ### One set, one clear -/

@[simp] theorem Sc.seq_raise (r : Sc) (f : Nat) : (r.raise f).seq = r.seq + 1 := rfl

theorem Sc.has_raise (r : Sc) {f : Nat} (g : Nat) (hf : f < 24) : (r.raise g).has f = (r.has f || decide (f = g)) :=
  getLsbD_setBit r.flags g f hf

theorem Sc.clear_of_seq_eq {r : Sc} {w : Word} (h : fld w 24 8 = r.seq) :
    r.clear w = { seq := r.seq, flags := r.flags &&& ~~~(fld w 0 24) } := if_pos h

theorem Sc.clear_of_seq_ne {r : Sc} {w : Word} (h : fld w 24 8 ≠ r.seq) : r.clear w = r := if_neg h

/-! ### A run of sets -/

theorem Sc.seq_foldl_raise (r : Sc) (fs : List Nat) : (fs.foldl Sc.raise r).seq = r.seq + BitVec.ofNat 8 fs.length := by
  induction fs generalizing r with
  | nil => simp
  | cons g fs ih =>
    calc (fs.foldl Sc.raise (r.raise g)).seq
        = (r.raise g).seq + BitVec.ofNat 8 fs.length := ih (r.raise g)
      _ = r.seq + BitVec.ofNat 8 (fs.length + 1) := by
        rw [seq_raise, Nat.add_comm, BitVec.ofNat_add, BitVec.add_assoc]
        rfl

theorem Sc.has_foldl_raise (r : Sc) (fs : List Nat) {f : Nat} (hf : f < 24) :
    (fs.foldl Sc.raise r).has f = (r.has f || decide (f ∈ fs)) := by
  induction fs generalizing r with
  | nil => simp
  | cons g fs ih => simp [ih, has_raise r g hf, Bool.or_assoc]

/-- SEQ is back at the value read exactly after a multiple of 256 sets. -/
theorem Sc.seq_foldl_raise_eq_iff (r : Sc) (fs : List Nat) : (fs.foldl Sc.raise r).seq = r.seq ↔ fs.length % 256 = 0 := by
  rw [seq_foldl_raise, BitVec.add_right_eq_self, ← BitVec.toNat_inj, BitVec.toNat_ofNat]
  rfl

end Sys2Proof.Machine

namespace Sys2Proof

open Sys2Proof.Machine

/-- Settles O16: by induction on the run of sets SEQ counts them modulo 256 and the flags gather them; a clear then goes by whether SEQ is back
at the value its write carries. -/
theorem seqAdvancesAtEachSet : Obligations.SeqAdvancesAtEachSet := by
  intro r fs w
  have hback : fld w 24 8 = r.seq → (fld w 24 8 = (fs.foldl Sc.raise r).seq ↔ fs.length % 256 = 0) := fun hw => by
    rw [hw, eq_comm, Sc.seq_foldl_raise_eq_iff]
  refine ⟨Sc.seq_foldl_raise r fs, fun hw hn => ?_, fun hw hz => ?_, fun f => Sc.has_foldl_raise r fs⟩
  · exact Sc.clear_of_seq_ne (mt (hback hw).mp hn)
  · rw [Sc.clear_of_seq_eq ((hback hw).mpr hz), (Sc.seq_foldl_raise_eq_iff r fs).mpr hz]

end Sys2Proof
end

section
/-! PROOF. What activity leaves, how an access at a port that answers is served, and the queue's step (R36, R279, R280, R284). -/

namespace Sys2Proof.Machine

/-! ### The modes in which the core runs -/

theorem live_of_awake {s : State} (h : awake s = true) : live s = true := by
  rw [awake, Bool.and_eq_true] at h
  exact h.1

theorem sleeping_of_awake {s : State} (h : awake s = true) : sleeping s = false := by
  rw [awake, Bool.and_eq_true] at h
  simpa using h.2

theorem mute_of_portsDead {s : State} (h : portsDead s = false) : mute s = false := by
  rw [portsDead, Bool.or_eq_false_iff] at h
  exact h.1

/-! ### Activity -/

/-- The state without the mode and the power unit. -/
def offPower (s : State) : State := { s with md := State.mdReset, pw := State.pwReset }

/-- Activity with no beat changes the mode, the power unit and the instant at which Ivsyn was last busy alone. -/
theorem activity_offPower (s : State) : offPower (activity s false) = offPower (noteBusy s) := by
  unfold activity
  cases he : s.pw.entry with
  | none => cases hd : s.pw.due <;> simp only [noteBusy_pw, he, hd, Bool.false_eq_true, if_true, if_false] <;> (split <;> rfl)
  | some e => cases hu : e.step.undoable <;> simp only [noteBusy_pw, he, hu, Bool.false_eq_true, if_true, if_false] <;> (split <;> rfl)

@[simp] theorem activity_ctl (s : State) : (activity s false).ctl = s.ctl := (congrArg State.ctl (activity_offPower s) :)
@[simp] theorem activity_status (s : State) : (activity s false).status = s.status := (congrArg State.status (activity_offPower s) :)
@[simp] theorem activity_cnt (s : State) : (activity s false).cnt = s.cnt := (congrArg State.cnt (activity_offPower s) :)
@[simp] theorem activity_tm (s : State) : (activity s false).tm = s.tm := (congrArg State.tm (activity_offPower s) :)
@[simp] theorem activity_ao (s : State) : (activity s false).ao = s.ao := (congrArg State.ao (activity_offPower s) :)
@[simp] theorem activity_ap (s : State) : (activity s false).ap = s.ap := (congrArg State.ap (activity_offPower s) :)
@[simp] theorem activity_fu (s : State) : (activity s false).fu = s.fu := (congrArg State.fu (activity_offPower s) :)
@[simp] theorem activity_eaM (s : State) : (activity s false).eaM = s.eaM := (congrArg State.eaM (activity_offPower s) :)
@[simp] theorem activity_eaT (s : State) : (activity s false).eaT = s.eaT := (congrArg State.eaT (activity_offPower s) :)
@[simp] theorem activity_dcM (s : State) : (activity s false).dcM = s.dcM := (congrArg State.dcM (activity_offPower s) :)
@[simp] theorem activity_dcS (s : State) : (activity s false).dcS = s.dcS := (congrArg State.dcS (activity_offPower s) :)
@[simp] theorem activity_flt (s : State) : (activity s false).flt = s.flt := (congrArg State.flt (activity_offPower s) :)
@[simp] theorem activity_jn (s : State) : (activity s false).jn = s.jn := (congrArg State.jn (activity_offPower s) :)
@[simp] theorem activity_vat (s : State) : (activity s false).vat = s.vat := (congrArg State.vat (activity_offPower s) :)
@[simp] theorem activity_ws (s : State) : (activity s false).ws = s.ws := (congrArg State.ws (activity_offPower s) :)
@[simp] theorem activity_vs (s : State) : (activity s false).vs = s.vs := (congrArg State.vs (activity_offPower s) :)
@[simp] theorem activity_ts (s : State) : (activity s false).ts = s.ts := (congrArg State.ts (activity_offPower s) :)
@[simp] theorem activity_ar (s : State) : (activity s false).ar = (noteBusy s).ar := (congrArg State.ar (activity_offPower s) :)
@[simp] theorem activity_io (s : State) : (activity s false).io = s.io := (congrArg State.io (activity_offPower s) :)
@[simp] theorem activity_free (s : State) : (activity s false).free = s.free := (congrArg State.free (activity_offPower s) :)
@[simp] theorem activity_pending (s : State) : (activity s false).pending = s.pending := (congrArg State.pending (activity_offPower s) :)

/-- In a calm state activity notes the instant and changes nothing else (R280, R284). -/
theorem activity_of_calm {s : State} (h : calm s = true) (beat : Bool) : activity s beat = noteBusy s := by
  simp only [calm, Bool.and_eq_true, decide_eq_true_eq, Option.isNone_iff_eq_none, Bool.not_eq_true'] at h
  obtain ⟨⟨⟨-, hm⟩, he⟩, hd⟩ := h
  simp only [activity, noteBusy_pw, he, hd, Bool.false_eq_true, if_false, noteBusy_md, hm]

/-- Activity returns Ivsyn from IDLE to SERVING (R280). -/
theorem activity_of_idle {s : State} (h : s.md.mode = .idle) :
    (activity s false).md = { s.md with mode := .serving, prev := .idle, seq := s.md.seq + 1 } ∧ (activity s false).pw.pwrState = 4 := by
  unfold activity
  cases he : s.pw.entry with
  | none => cases hd : s.pw.due <;> simp [he, hd, abandonEntry, h, setMode]
  | some e => cases hu : e.step.undoable <;> simp [he, hu, abandonEntry, h, setMode]

/-- Outside IDLE activity leaves the mode. -/
theorem activity_md {s : State} (h : s.md.mode ≠ .idle) : (activity s false).md = s.md := by
  unfold activity
  cases he : s.pw.entry with
  | none => cases hd : s.pw.due <;> simp [he, hd, abandonEntry, h]
  | some e => cases hu : e.step.undoable <;> simp [he, hu, abandonEntry, h]

/-- Activity abandons an attempt that has not committed (R284). -/
theorem activity_of_undoable {s : State} {e : Entry} (he : s.pw.entry = some e) (hu : e.step.undoable = true) :
    (activity s false).pw.entry = none ∧ (activity s false).pw.retryAt = some (now s + oneMs) := by
  unfold activity
  by_cases h : s.md.mode = .idle <;> simp [he, hu, abandonEntry, h] <;> rfl

/-- Writes that sleep's queues hold are not activity's to change. -/
@[simp] theorem activity_pw_heldWrites (s : State) : (activity s false).pw.heldWrites = s.pw.heldWrites := by
  unfold activity
  cases he : s.pw.entry with
  | none => cases hd : s.pw.due <;> by_cases h : s.md.mode = .idle <;> simp [he, hd, abandonEntry, h]
  | some e => cases hu : e.step.undoable <;> by_cases h : s.md.mode = .idle <;> simp [he, hu, abandonEntry, h]

@[simp] theorem now_activity (s : State) : now (activity s false) = now s := by simp [now]

/-- Activity keeps Ivsyn awake. -/
theorem awake_activity {s : State} (h : awake s = true) : awake (activity s false) = true := by
  by_cases hm : s.md.mode = .idle
  · simp_all [awake, live, sleeping, activity_of_idle hm]
  · simpa only [awake, live, sleeping, activity_md hm, activity_ao] using h

/-! ### Accesses at a port that answers -/

theorem portServe_of_answers {s : State} (h : portsDead s = false) (f : State → State) : portServe s f = f s := by
  simp [portServe, h]

theorem writeAt_of_answers {s : State} (h : portsDead s = false) (p : Port) (f : State → State) : writeAt s p f = portDone (f s) p :=
  portServe_of_answers h _

/-- Awake, a management write that its location takes is activity and then acts (R280). -/
theorem portWrite_mgmt {s : State} (h : awake s = true) (addr : BitVec 22) (f : State → State) :
    portWrite s .mgmt true addr f = f (activity s false) := by
  simp [portWrite, live_of_awake h, sleeping_of_awake h]

/-- Awake, a tenant's write that its location takes is activity and then acts (R280). -/
theorem portWrite_tenant {s : State} (h : awake s = true) (n : BitVec 12) (addr : BitVec 22) (f : State → State) :
    portWrite s (.tenant n) true addr f = f (activity s false) := by
  simp [portWrite, live_of_awake h, sleeping_of_awake h]

/-- Awake, a tenant's write out of reach is denied (R40). -/
theorem portWrite_denied {s : State} (h : awake s = true) (n : BitVec 12) (addr : BitVec 22) (f : State → State) :
    portWrite s (.tenant n) false addr f = denied (activity s false) n.toNat := by
  simp [portWrite, live_of_awake h, deniedWrite, h]

@[simp] theorem denied_pw (s : State) (t : Nat) : (denied s t).pw = s.pw := by
  unfold denied; split <;> rfl
@[simp] theorem denied_vs (s : State) (t : Nat) : (denied s t).vs = s.vs := by
  unfold denied; split <;> rfl
@[simp] theorem denied_ts_targets (s : State) (t : Nat) : (denied s t).ts.targets = s.ts.targets := by
  unfold denied; split <;> rfl

/-- Awake, a denied access counts in its tenant's IV_TW_DENIED and sets DENIED (R252). -/
theorem tnOf_denied {s : State} (h : awake s = true) (t : Nat) :
    tnOf (denied s t) t = { tnOf s t with denied := (tnOf s t).denied + 1, status := (tnOf s t).status.raise twDenied } := by
  simp [denied, h, twRaise]

/-- A queued write that is denied awake (R40, R252). -/
theorem queuedAt_denied {s : State} {n : BitVec 12} {t : BitVec 16} (ha : awake s = true) (hp : portsDead s = false)
    (hr : targetReach s (.tenant n) t.toNat = false) (off : Nat) (q : Queued) :
    (queuedAt s (.tenant n) fun s => queuedWrite s (.tenant n) t off q) = deniedAt s n := by
  have hw : queuedWrite s (.tenant n) t off q = denied (activity s false) n.toNat := by
    simp only [queuedWrite, hr, Bool.and_false, Bool.false_eq_true, if_false]
    exact portWrite_denied ha ..
  rw [queuedAt, portServe_of_answers hp, hw, doneUnlessHeld, if_pos (by simp)]
  rfl

end Sys2Proof.Machine

namespace Sys2Proof

open Sys2Proof.Machine

/-- Settles O1: a step matches on the queue. -/
theorem stepTakesTheFrontCommand : Obligations.StepTakesTheFrontCommand := by
  intro s c q
  rfl

/-- Settles O5: the words of the reset state, computed. -/
theorem resetRegisters : Obligations.ResetRegisters := by
  unfold Obligations.ResetRegisters
  decide

/-- Settles O11, from what activity does in IDLE, during an attempt and in a calm state. -/
theorem activityEndsIdleAndEntry : Obligations.ActivityEndsIdleAndEntry := by
  intro s
  refine ⟨fun h => ?_, fun e he hs => activity_of_undoable he ?_, fun h => activity_of_calm h, ?_, ?_, ?_, ?_, ?_⟩
  · obtain ⟨hmd, hpw⟩ := activity_of_idle h
    simp [hmd, hpw]
  · rcases hs with hs | hs <;> rw [hs] <;> rfl
  all_goals simp

/-- Settles O14: out of reach, every write of a target window is denied alike. -/
theorem deniedWriteIsCounted : Obligations.DeniedWriteIsCounted := by
  intro s n t w ha hp hr
  have hc : execTCprio (.tenant n) t w s = .next (deniedAt s n) := by
    rw [execTCprio, writeAt_of_answers hp, hr, portWrite_denied ha]
    rfl
  have ht : tnOf (deniedAt s n) n.toNat = tnOf (denied (activity s false) n.toNat) n.toNat := rfl
  refine ⟨congrArg _ (queuedAt_denied ha hp hr ..), congrArg _ (queuedAt_denied ha hp hr ..), congrArg _ (queuedAt_denied ha hp hr ..),
    congrArg _ (queuedAt_denied ha hp hr ..), hc, ?_, ?_, ?_, ?_⟩
  · rw [ht, tnOf_denied (awake_activity ha)]
    simp [tnOf]
  · rw [ht, tnOf_denied (awake_activity ha)]
    exact (Sc.has_raise _ twDenied (by decide)).trans (by simp)
  · simp [deniedAt, portDone, portAnswer]
  · simp [deniedAt, portDone, portAnswer]

end Sys2Proof
end

section
/-! PROOF. Register accesses while Ivsyn is awake: fields taken under a mask, writes of the control window, reads, and the guard
(R36, R39 to R43, R345 to R353). -/

namespace Sys2Proof.Machine

/-! ### Fields under a mask -/

theorem getLsbD_takeBits (cur new mask : Word) (i : Nat) :
    (takeBits cur new mask).getLsbD i = if mask.getLsbD i then new.getLsbD i else cur.getLsbD i := by
  by_cases hi : i < 32
  · simp only [takeBits, BitVec.getLsbD_or, BitVec.getLsbD_and, BitVec.getLsbD_not, hi, decide_true, Bool.true_and]
    cases mask.getLsbD i <;> simp
  · simp [takeBits, BitVec.getLsbD_of_ge _ _ (Nat.le_of_not_lt hi)]

theorem fld_takeBits {cur new mask : Word} {lo n : Nat} (h : ∀ i < n, mask.getLsbD (lo + i) = true) :
    fld (takeBits cur new mask) lo n = fld new lo n := by
  refine BitVec.eq_of_getLsbD_eq fun i hi => ?_
  simp [fld, hi, getLsbD_takeBits, h i hi]

theorem fld_or {w : Nat} (a b : BitVec w) (lo n : Nat) : fld (a ||| b) lo n = fld a lo n ||| fld b lo n := by
  refine BitVec.eq_of_getLsbD_eq fun i hi => ?_
  simp [fld, hi]

/-- A field placed in a word reads back. -/
theorem fld_at_same {n : Nat} (w lo : Nat) (f : BitVec n) (h : lo + n ≤ w) : fld (at_ w lo f) lo n = f := by
  refine BitVec.eq_of_getLsbD_eq fun i hi => ?_
  have h1 : lo + i < w := by omega
  simp [fld, at_, hi, h1]

/-- A field does not reach into another's place. -/
theorem fld_at_apart {m : Nat} (w lo lo' n : Nat) (f : BitVec m) (h : lo' + m ≤ lo ∨ lo + n ≤ lo') : fld (at_ w lo' f) lo n = 0 := by
  refine BitVec.eq_of_getLsbD_eq fun i hi => ?_
  rcases h with h | h
  · simp [fld, at_, hi, BitVec.getLsbD_of_ge f _ (show m ≤ lo + i - lo' by omega)]
  · simp [fld, at_, hi, show lo + i < lo' by omega]

/-- A register whose lock bit is clear takes the masked bits (R348). -/
theorem lockedPut_open {s : State} {cur v mask : Word} {addr : BitVec 22} {load : Word → State → State} :
    lockedPut s cur v mask false addr load = load (takeBits cur v mask) s := by
  simp [lockedPut, fieldMerge, rejectIf]

/-- A register whose lock bit is set stays; a change is reported (R357, R358). -/
theorem lockedPut_frozen {s : State} {cur v mask : Word} {addr : BitVec 22} {load : Word → State → State} :
    lockedPut s cur v mask true addr load = if (cur ^^^ v) &&& mask = 0 then load cur s else rejectWrite (load cur s) addr := by
  simp [lockedPut, fieldMerge, rejectIf]

/-! ### Writes of the control window -/

theorem mode_of_awake {s : State} (h : awake s = true) : s.md.mode ≠ .safe ∧ s.ao.resetting = false := by
  have hl := live_of_awake h
  simp only [live, Bool.and_eq_true, decide_eq_true_eq, Bool.not_eq_true'] at hl
  exact ⟨hl.2, hl.1.1.2⟩

/-- Awake, a management write at a location of the control window that the AO island does not hold is activity and then acts (R279, R347). -/
theorem regWrite_ctlWindow {s : State} (ha : awake s = true) (hp : portsDead s = false) {addr : BitVec 22} {form : Form} {a : Nat} (w : Word)
    (hal : addr.toNat % 4 = 0) (hlt : addr.toNat < 0x80000) (hcl : classM addr.toNat = some (form, a)) (hao : aoLocation a = false) (hcmd : a ≠ 0x124)
    (hheld : (ctlWindowPut (activity s false) form a w addr).pw.heldWrites = s.pw.heldWrites) :
    exec (.regWrite .mgmt addr w) s = .next (portDone (ctlWindowPut (activity s false) form a w addr) .mgmt) := by
  obtain ⟨hsafe, hres⟩ := mode_of_awake ha
  have hw : registerWrite s .mgmt addr w = ctlWindowPut (activity s false) form a w addr := by
    simp only [registerWrite, hcl, classMWrite, hres, hao, hsafe, hcmd, if_neg (show ¬ 0x200000 ≤ addr.toNat by omega),
      show ¬ 0x80000 ≤ addr.toNat by omega, decide_false, Bool.false_and, Bool.false_eq_true, if_false]
    exact portWrite_mgmt ha ..
  refine congrArg Host.Outcome.next ?_
  rw [portServe_of_answers hp]
  simp only [regWrite, hal, ne_eq, not_true_eq_false, if_false, hw]
  rw [doneUnlessHeld, if_pos (by rw [hheld])]

/-- The fields of a word and the values that its aliases put read back as the model's register words form them. -/
theorem dlvWdog_fields (s : State) : fld (dlvWdogWord s) 24 4 = s.ctl.maxResend ∧ fld (dlvWdogWord s) 0 20 = s.ctl.periodUs := by
  simp only [dlvWdogWord, fld_or]
  exact ⟨by rw [fld_at_same _ _ _ (by decide), fld_at_apart _ _ _ _ _ (by decide)]; exact BitVec.or_zero,
    by rw [fld_at_same _ _ _ (by decide), fld_at_apart _ _ _ _ _ (by decide)]; exact BitVec.zero_or⟩

/-- IV_DLV_WDOG, unfrozen, takes the fields of a value (R220). -/
theorem dlvWdog_put {s : State} (h : frozenBy s lkArb = false) (v : Word) (addr : BitVec 22) :
    highPut s 0x310 v addr = { s with ctl := { s.ctl with maxResend := fld v 24 4, periodUs := fld v 0 20 } } := by
  simp only [highPut, Nat.reduceEqDiff, Nat.reduceLeDiff, Nat.reduceLT, decide_true, decide_false, Bool.and_true, Bool.false_eq_true, if_true, if_false]
  rw [h, lockedPut_open, fld_takeBits (by decide), fld_takeBits (by decide)]

/-- IV_DLV_WDOG, frozen, stays, and a change is reported (R357). -/
theorem dlvWdog_frozen {s : State} (h : frozenBy s lkArb = true) (v : Word) (addr : BitVec 22) :
    highPut s 0x310 v addr = if (dlvWdogWord s ^^^ v) &&& 0x0F0FFFFF = 0 then s else rejectWrite s addr := by
  simp only [highPut, Nat.reduceEqDiff, Nat.reduceLeDiff, Nat.reduceLT, decide_true, decide_false, Bool.and_true, Bool.false_eq_true, if_true, if_false]
  obtain ⟨hm, hp⟩ := dlvWdog_fields s
  rw [h, lockedPut_frozen, hm, hp]

theorem couchCtl_put {s : State} (h : frozenBy s lkCouch = false) (v : Word) (addr : BitVec 22) :
    highPut s 0x400 v addr = { s with ctl := { s.ctl with elasticEn := v.getLsbD 8, couchEn := v.getLsbD 0 } } := by
  simp only [highPut, Nat.reduceEqDiff, Nat.reduceLeDiff, Nat.reduceLT, decide_true, decide_false, Bool.and_false, Bool.and_true, Bool.false_eq_true, if_true, if_false]
  rw [h, lockedPut_open, getLsbD_takeBits, getLsbD_takeBits]
  rfl

theorem energy_put {s : State} (h : frozenBy s lkPower = false) (v : Word) (addr : BitVec 22) :
    highPut s 0x644 v addr = { s with ctl := { s.ctl with nowakeLevel := fld v 16 3, graceUs := fld v 0 16 } } := by
  simp only [highPut, Nat.reduceEqDiff, Nat.reduceLeDiff, Nat.reduceLT, decide_true, decide_false, Bool.and_false, Bool.and_true, Bool.false_eq_true, if_true, if_false]
  rw [h, lockedPut_open, fld_takeBits (by decide), fld_takeBits (by decide)]

theorem fltPolicy_put {s : State} (h : frozenBy s lkFault = false) (v : Word) (addr : BitVec 22) :
    highPut s 0x710 v addr
      = { s with ctl := { s.ctl with deferFatal := v.getLsbD 4, aperWerrFatal := v.getLsbD 1, degradeEn := v.getLsbD 0 } } := by
  simp only [highPut, Nat.reduceEqDiff, Nat.reduceLeDiff, Nat.reduceLT, decide_true, decide_false, Bool.and_false, Bool.and_true, Bool.false_eq_true, if_true, if_false]
  rw [h, lockedPut_open, getLsbD_takeBits, getLsbD_takeBits, getLsbD_takeBits]
  rfl

theorem aliveCtl_put {s : State} (h : frozenBy s lkAlive = false) (v : Word) (addr : BitVec 22) :
    highPut s 0x718 v addr = { s with ctl := { s.ctl with halfUs := fld v 0 16 } } := by
  simp only [highPut, Nat.reduceEqDiff, Nat.reduceLeDiff, Nat.reduceLT, decide_true, decide_false, Bool.and_false, Bool.and_true, Bool.false_eq_true, if_true, if_false]
  rw [h, lockedPut_open, fld_takeBits (by decide)]

/-- A register's lock bits are not activity's to change. -/
theorem activity_md_lock (s : State) : (activity s false).md.lock = s.md.lock := by
  by_cases hm : s.md.mode = .idle
  · rw [(activity_of_idle hm).1]
  · rw [activity_md hm]

theorem frozenBy_activity (s : State) (b : Nat) : frozenBy (activity s false) b = frozenBy s b := by
  rw [frozenBy, activity_md_lock, frozenBy]

/-- Awake, a management write of an aliased register of the upper control window acts by `highPut` (R345, R347, R349). -/
theorem regWrite_high {s : State} (ha : awake s = true) (hp : portsDead s = false) {form : Form} {a : Nat} {addr : BitVec 22} (w : Word) {t : State}
    (hin : a ∈ [0x310, 0x400, 0x644, 0x710, 0x718]) (haddr : addr.toNat = aliasOff form + a)
    (hput : highPut (activity s false) a (formValue form (homeWord (activity s false) a) w) addr = t)
    (hheld : t.pw.heldWrites = s.pw.heldWrites) :
    exec (.regWrite .mgmt addr w) s = .next (portDone t .mgmt) := by
  have hctl : ctlWindowPut (activity s false) form a w addr = t := by
    rw [← hput]
    simp only [List.mem_cons, List.not_mem_nil, or_false] at hin
    rcases hin with rfl | rfl | rfl | rfl | rfl <;> rfl
  have hmod : a % 4 = 0 ∧ a < 0x4000 ∧ aoLocation a = false ∧ a ≠ 0x124 := by
    simp only [List.mem_cons, List.not_mem_nil, or_false] at hin
    rcases hin with rfl | rfl | rfl | rfl | rfl <;> decide
  obtain ⟨hal, hlt, hao, hcmd⟩ := hmod
  have hcl : classM addr.toNat = some (form, a) := by
    rw [haddr]
    cases form <;> simp only [classM, aliasOff] <;> grind
  refine hctl ▸ regWrite_ctlWindow ha hp w ?_ ?_ hcl hao hcmd (hctl.symm ▸ hheld)
  · rw [haddr]; cases form <;> simp only [aliasOff] <;> omega
  · rw [haddr]; cases form <;> simp only [aliasOff] <;> omega

/-! ### Seq-clear writes -/

/-- The units that no seq-clear write touches. -/
def offClears (s : State) : ModeUnit × CtlRegs × Counters × TimeUnit × VatUnit × VecStore × List (Nat × Tgt) × List Host.Cell :=
  (s.md, s.ctl, s.cnt, s.tm, s.vat, s.vs, s.ts.targets, s.ts.lmem)

@[simp] theorem scClear_offClears (s : State) (r : ScReg) (w : Word) : offClears (scClear s r w) = offClears s := by
  cases r with
  | ea u => cases u <;> rfl
  | dc p => cases p <;> rfl
  | _ => rfl

@[simp] theorem portDone_offClears (s : State) (p : Port) : offClears (portDone s p) = offClears s := by
  cases p <;> rfl

/-- A seq-clear write that reaches its register is activity and then clears (R280, R352). -/
theorem seqClear_of_reach {s : State} {p : Port} {r : ScReg} (ha : awake s = true)
    (hr : (r = .dc .S ∧ p = .sec) ∨ (r ≠ .dc .S ∧ scReach s p r = true)) (w : Word) :
    seqClear s p r w = scClear (activity s false) r w := by
  rcases hr with ⟨rfl, rfl⟩ | ⟨hne, hreach⟩
  · simp [seqClear, partyWrite, live_of_awake ha, sleeping_of_awake ha]
  · have hw : seqClear s p r w = portWrite s p (scReach s p r) (scAddr r) fun s => scClear s r w := by
      cases r with
      | dc q => cases q with
        | S => exact absurd rfl hne
        | M => rfl
      | _ => rfl
    rw [hw, hreach]
    cases p with
    | mgmt => exact portWrite_mgmt ha ..
    | tenant n => exact portWrite_tenant ha ..
    | sec =>
      cases r with
      | ea u => cases u <;> simp [scReach, unitReach, windowReach] at hreach
      | _ => simp [scReach, windowReach] at hreach

/-! ### The access guard -/

@[simp] theorem sleeping_portAnswer (s : State) (p : Port) (w : Word) (err : Bool) : sleeping (portAnswer s p w err) = sleeping s := by
  cases p <;> rfl

/-- The guard ends an access that no full queue holds and no block reset has answered (R41). -/
theorem guard_ends {s : State} {p : Port} (hp : portsDead s = false)
    (h : ((s.ao.resetting || (sleeping s && !s.pw.heldWrites.isEmpty)) && decide (p ≠ .sec)) = false) :
    exec (.accessGuardTimeout p) s = .next (noteHung (portAnswer s p 0 true)) := by
  refine congrArg Host.Outcome.next ((portServe_of_answers hp _).trans ?_)
  simp only [h, Bool.false_eq_true, if_false]

/-- It does not end an access that a full queue holds or a block reset has answered (R41, R87). -/
theorem guard_held {s : State} {p : Port} (hp : portsDead s = false)
    (h : ((s.ao.resetting || (sleeping s && !s.pw.heldWrites.isEmpty)) && decide (p ≠ .sec)) = true) :
    exec (.accessGuardTimeout p) s = .next s := by
  refine congrArg Host.Outcome.next ((portServe_of_answers hp _).trans ?_)
  simp only [h, if_true]

end Sys2Proof.Machine

namespace Sys2Proof

open Sys2Proof.Machine hiding scOf

/-- A seq-clear write clears its own register and leaves the others (R352). -/
theorem scOf_scClear (s : State) (r : ScReg) (w : Word) : scOf (scClear s r w) r = (scOf s r).clear w := by
  cases r with
  | ea u => cases u <;> simp [scClear, scOf, eaOf, eaPut]
  | dc p => cases p <;> rfl
  | tw n => simp [scClear, scOf]
  | _ => rfl

theorem scOf_scClear_ne (s : State) {r q : ScReg} (w : Word) (h : q ≠ r) : scOf (scClear s r w) q = scOf s q := by
  cases r with
  | ea u =>
    cases u with
    | mgmt => cases q with
      | ea v => cases v with
        | mgmt => exact absurd rfl h
        | tw m => rfl
      | dc p => cases p <;> rfl
      | _ => rfl
    | tw n => cases q with
      | ea v => cases v with
        | mgmt => rfl
        | tw m =>
          have hne : m.toNat ≠ n.toNat := fun e => h (by rw [BitVec.eq_of_toNat_eq e])
          simp only [scClear, scOf, eaOf, eaPut, find_put_ne hne]
      | dc p => cases p <;> rfl
      | _ => rfl
  | tw n => cases q with
    | tw m =>
      have hne : m.toNat ≠ n.toNat := fun e => h (by rw [BitVec.eq_of_toNat_eq e])
      simp only [scClear, scOf, tnOf, tnPut, find_put_ne hne]
    | ea v => cases v <;> rfl
    | dc p => cases p <;> rfl
    | _ => rfl
  | dc p => cases p <;> cases q with
    | dc o => cases o <;> first | rfl | exact absurd rfl h
    | ea v => cases v <;> rfl
    | _ => rfl
  | _ => cases q with
    | ea v => cases v <;> rfl
    | dc p => cases p <;> rfl
    | _ => first | rfl | exact absurd rfl h

/-- A port's answer leaves every seq-clear register. -/
@[simp] theorem scOf_portDone (s : State) (p : Port) (r : ScReg) : scOf (portDone s p) r = scOf s r := by
  cases p <;> cases r with
  | ea u => cases u <;> rfl
  | dc p => cases p <;> rfl
  | _ => rfl

/-- Settles O4: the lanes' credits, the empty memory and the cleared flags of the reset state, computed. -/
theorem resetIsSafe : Obligations.ResetIsSafe where
  credits := fun _ => by decide
  cleared := fun h => absurd h (by decide)
  held := fun h => absurd h (by decide)
  memory := show Memory.wf State.reset.ts.lmem = true from rfl
  retained := ⟨by decide, fun h => absurd h (by decide)⟩
  fence := fun h => absurd rfl h

/-- Settles O12: every write acts by its register's lemma on the state after activity. -/
theorem registerWritesHonourTheLock : Obligations.RegisterWritesHonourTheLock := by
  refine ⟨fun s w ha hp => ⟨fun h => ?_, fun h => ?_, fun h => ?_, fun h => ?_, fun h => ?_, fun f h => ?_⟩, fun s w ha hp h => ?_⟩
  · exact regWrite_high ha hp (form := .plain) w (by decide) rfl (dlvWdog_put ((frozenBy_activity ..).trans h) w _) (by simp)
  · exact regWrite_high ha hp (form := .plain) w (by decide) rfl (couchCtl_put ((frozenBy_activity ..).trans h) w _) (by simp)
  · exact regWrite_high ha hp (form := .plain) w (by decide) rfl (energy_put ((frozenBy_activity ..).trans h) w _) (by simp)
  · exact regWrite_high ha hp (form := .plain) w (by decide) rfl (fltPolicy_put ((frozenBy_activity ..).trans h) w _) (by simp)
  · exact regWrite_high ha hp (form := .plain) w (by decide) rfl (aliveCtl_put ((frozenBy_activity ..).trans h) w _) (by simp)
  · have hw : homeWord (activity s false) 0x310 = dlvWdogWord s := by
      show dlvWdogWord (activity s false) = _
      simp [dlvWdogWord]
    refine regWrite_high ha hp (form := f) w (by decide) ?_ (dlvWdog_put ((frozenBy_activity ..).trans h) _ _) (by simp)
      |>.trans (by rw [hw])
    cases f <;> rfl
  · refine regWrite_high ha hp (form := .plain) w (by decide) rfl (dlvWdog_frozen ((frozenBy_activity ..).trans h) w _) ?_ |>.trans ?_
    · split
      · simp
      · exact activity_pw_heldWrites s
    · have hw : dlvWdogWord (activity s false) = dlvWdogWord s := by simp [dlvWdogWord]
      simp only [hw, rejectWrite, activity_ctl]
      rfl

/-- Settles O13: a misaligned access by its port, and the guard by its mode. -/
theorem errorResponses : Obligations.ErrorResponses := by
  refine ⟨fun s addr w n ha hp hm => ?_, fun s p hp => ⟨fun hs hr => ?_, fun hs hr => ?_, fun hne hr => ?_⟩⟩
  · have hl := live_of_awake ha
    have hwr (p : Port) : exec (.regWrite p addr w) s = .next (regWrite s p addr w) := congrArg _ (portServe_of_answers hp _)
    have hrd (p : Port) : exec (.timeLoRead ⟨p, addr⟩) s = .next (regRead s p addr) := congrArg _ (portServe_of_answers hp _)
    simp only [hwr, hrd, regWrite, regRead, if_pos hm, if_neg hm, misalignedErr, hl, Bool.true_or, if_true, deniedWrite, ha]
    exact ⟨rfl, rfl, trivial, rfl, rfl, trivial⟩
  · rw [guard_ends hp (by rcases hr with rfl | hr <;> simp [*]), noteHung, if_neg (by rw [sleeping_portAnswer, hs]; decide)]
    cases p <;> rfl
  · rw [guard_ends hp (by rcases hr with rfl | ⟨hq, hr⟩ <;> simp [*]), noteHung, if_pos (by rw [sleeping_portAnswer, hs])]
    cases p <;> rfl
  · refine guard_held hp ?_
    rcases hr with hr | ⟨hs, hq⟩ <;> simp [*]

/-- Settles O15: the write reaches its register, clears it by its SEQ, and leaves the others. -/
theorem seqClearNeedsItsSeq : Obligations.SeqClearNeedsItsSeq := by
  intro s p r w ha hp hr a
  have hex : exec (.seqClear p r w) s = .next (portDone (scClear a r w) p) :=
    congrArg _ ((writeAt_of_answers hp ..).trans (by rw [seqClear_of_reach ha hr]))
  have hoff : offClears (portDone (scClear a r w) p) = offClears a := by simp
  simp only [offClears, Prod.mk.injEq] at hoff
  refine ⟨_, hex, fun h => ?_, fun h => ?_, fun q hq => ?_, hoff⟩
  · rw [scOf_portDone, scOf_scClear, Sc.clear_of_seq_eq h]
  · rw [scOf_portDone, scOf_scClear, Sc.clear_of_seq_ne h]
  · rw [scOf_portDone, scOf_scClear_ne _ _ hq]

/-- Settles O17: the latching locations latch, and every other one answers what it reads as. -/
theorem lowHalfReadLatchesUpperHalf : Obligations.LowHalfReadLatchesUpperHalf := by
  intro s n hl hp
  have hres : s.ao.resetting = false := by
    simp only [live, Bool.and_eq_true, Bool.not_eq_true'] at hl
    exact hl.1.1.2
  refine ⟨congrArg _ ((portServe_of_answers hp _).trans ?_), congrArg _ ((portServe_of_answers hp _).trans ?_),
    congrArg _ ((portServe_of_answers hp _).trans ?_), fun h => ?_, fun hr => congrArg _ ((portServe_of_answers hp _).trans ?_),
    fun addr hal hlt h5 h51 => congrArg _ ((portServe_of_answers hp _).trans ?_)⟩
  · show timeLatch s .mgmt = _
    simp only [timeLatch, hl, if_true]
    rfl
  · show timeLatch s .sec = _
    simp only [timeLatch, hl, if_true]
    rfl
  · simp only [sleepElapsedRead, hres, Bool.false_eq_true, if_false]
    rfl
  · simp [seenElapsed, h]
  · simp only [amaskRead, hl, hr, Bool.and_self, if_true]
    rfl
  · have h5' : addr.toNat ≠ 0x500 := fun e => h5 (BitVec.eq_of_toNat_eq e)
    have h51' : addr.toNat ≠ 0x510 := fun e => h51 (BitVec.eq_of_toNat_eq e)
    simp only [regRead, if_pos hal, alignedRead, if_neg h5', if_neg h51', show ¬ 0x200000 ≤ addr.toNat by omega, decide_false, Bool.false_and,
      Bool.false_eq_true, if_false]
    rfl

end Sys2Proof
end
section
/-! PROOF. The journal's side: what requests of the aperture port, records and their copies leave alone (R58, R126, R336, R338). -/

namespace Sys2Proof.Machine

/-- The state without what a journal record changes: the outstanding requests, the journal and IV_STATUS. -/
def offJournal (s : State) : State :=
  { s with ap := { s.ap with reqs := [], waiting := [] }, jn := State.jnReset, status := State.scReset }

@[simp] theorem raiseStatus_offJournal (s : State) (f : Nat) : offJournal (raiseStatus s f) = offJournal s := rfl

@[simp] theorem apPut_offJournal (s : State) (r : AperReq) : offJournal (apPut s r) = offJournal s := by
  unfold apPut
  split <;> rfl

@[simp] theorem apRequest_offJournal (s : State) (p : Purpose) (write : Bool) (offset : Nat) (data : List Word) :
    offJournal (apRequest s p write offset data) = offJournal s := apPut_offJournal ..

@[simp] theorem fetchVte_offJournal (s : State) (h : Nat) : offJournal (fetchVte s h) = offJournal s := by
  unfold fetchVte
  split
  · rfl
  · exact apRequest_offJournal ..

@[simp] theorem jnlPut_offJournal (s : State) (p : Purpose) (r : Rec) : offJournal (jnlPut s p r) = offJournal s := by
  have hreq := apRequest_offJournal s p true (s.jn.base.toNat * 4096 + 64 * s.jn.tail.toNat) r.toList
  unfold jnlPut
  dsimp only
  split
  · split <;> exact hreq
  · rfl

@[simp] theorem jnlCopy_offJournal (s : State) (r : Rec) : offJournal (jnlCopy s r) = offJournal s := by
  unfold jnlCopy
  dsimp only
  split
  · split
    · rfl
    · exact (apRequest_offJournal ..).trans (apRequest_offJournal ..)
  · rfl

@[simp] theorem jnl_offJournal (s : State) (code : Byte) (arg : BitVec 24) (t : Nat) (ws : List (Nat × Word)) :
    offJournal (jnl s code arg t ws) = offJournal s := (jnlCopy_offJournal ..).trans (jnlPut_offJournal ..)

@[simp] theorem jnlRatedW1_offJournal (s : State) (tenant : Nat) (code : Byte) (arg : BitVec 24) (w1 : Word) (t : Nat) (ws : List (Nat × Word)) :
    offJournal (jnlRatedW1 s tenant code arg w1 t ws) = offJournal s := by
  unfold jnlRatedW1
  dsimp only
  split
  · split
    · rfl
    · exact (jnlCopy_offJournal ..).trans (jnlPut_offJournal ..)
  · rfl

@[simp] theorem jnlRated_offJournal (s : State) (tenant : Nat) (code : Byte) (arg : BitVec 24) (t : Nat) (ws : List (Nat × Word)) :
    offJournal (jnlRated s tenant code arg t ws) = offJournal s := jnlRatedW1_offJournal ..

@[simp] theorem jnlFault_offJournal (s : State) (t : Nat) (code : Byte) (src : BitVec 8) (arg : BitVec 24) (w5 w6 : Word) (inj : Bool) :
    offJournal (jnlFault s t code src arg w5 w6 inj) = offJournal s := by
  unfold jnlFault
  dsimp only
  split
  · exact jnlRatedW1_offJournal ..
  · exact jnlPut_offJournal ..

end Sys2Proof.Machine
end

section
/-! PROOF. Clock edges, the time unit, pins of the power controller, signs of life and the last-gasp slots
(R65, R69, R70, R73, R127, R235 to R248, R300, R307, R327, R328, R339, R368). -/

namespace Sys2Proof.Machine

/-! ### An edge of IV_CLK_AO -/

/-- What an edge of IV_CLK_AO does where one comes: the sampled heartbeat, the frame's quiet ticks and the crossings into IV_CLK_REG, with the
count and the toggle's time. -/
def aoTicked (s : State) : State :=
  let s1 := regAgree (sbQuiet (beatSample s))
  { s1 with tm := { s1.tm with aoCount := s1.tm.aoCount + 1 }, ao := { s1.ao with sinceToggle := s1.ao.sinceToggle + s1.tm.aoCal.toNat } }

theorem beatSample_eq (s : State) : beatSample s = { s with ao := { s.ao with
    token := false, missed := if s.ao.token then 0 else if ranking s then s.ao.missed + 1 else 0 } } := by
  unfold beatSample
  cases h : s.ao.token <;> simp [h]

/-- The edge's effect, field by field. -/
theorem aoTicked_eq (s : State) : aoTicked s = { s with
    tm := { s.tm with aoCount := s.tm.aoCount + 1 },
    ao := { s.ao with token := false, missed := if s.ao.token then 0 else if ranking s then s.ao.missed + 1 else 0,
                      sb := { s.ao.sb with quiet := if sbBusy s then s.ao.sb.quiet + 1 else 0 },
                      sinceToggle := s.ao.sinceToggle + s.tm.aoCal.toNat },
    flt := (regAgree s).flt } := by
  rw [aoTicked, beatSample_eq]
  rfl

theorem aoEdge_eq {s : State} (h : mute s = false) (h' : s.tm.aoStopped = false) : aoEdge s = estimateTick (aoTicked s) := by
  simp only [aoEdge, h, h', Bool.or_self, Bool.false_eq_true, if_false]
  rfl

theorem aoClock_eq {s : State} (h : mute s = false) (h' : s.tm.aoStopped = false) : aoClock s = aoHeldAct (aoEdge s) := by
  simp only [aoClock, h, h', Bool.or_self, Bool.false_eq_true, if_false]

/-- The estimate advances by one AO tick (R245). -/
theorem estimateTick_runs {s : State} (he : s.tm.estimated = true) (ha : s.tm.accepted = true) (hr : timeRuns s = true) :
    estimateTick s = { s with tm := { s.tm with
      now := max s.tm.now (s.tm.base + (s.tm.estFrac.toNat + s.tm.aoCal.toNat) / 65536),
      base := s.tm.base + (s.tm.estFrac.toNat + s.tm.aoCal.toNat) / 65536, cycles := 0,
      estFrac := BitVec.ofNat 16 (s.tm.estFrac.toNat + s.tm.aoCal.toNat) } } := by
  simp only [estimateTick, he, ha, hr, Bool.and_self, if_true]

theorem estimateTick_rests {s : State} (h : s.tm.estimated = false ∨ s.tm.accepted = false ∨ timeRuns s = false) : estimateTick s = s := by
  unfold estimateTick
  rw [if_neg]
  rcases h with h | h | h <;> simp [h]

/-- The estimate is the time unit's alone. -/
theorem estimateTick_eq (s : State) : estimateTick s = { s with tm := (estimateTick s).tm } := by
  unfold estimateTick
  split <;> rfl

theorem aoHeldAct_nil {s : State} (h : s.ao.heldPuts = []) : aoHeldAct s = s := by
  unfold aoHeldAct
  simp only [h, forEach, ite_self]
  rw [← h]

theorem mem_cdc_cdcClear_self (s : State) (c : Crossing) (line : BitVec 16) : (c, line) ∉ (cdcClear s c line).flt.cdc := by
  simp [cdcClear]

theorem mem_cdc_cdcClear {s : State} {x : Crossing × BitVec 16} (h : x ∉ s.flt.cdc) (c : Crossing) (line : BitVec 16) :
    x ∉ (cdcClear s c line).flt.cdc := fun hx => h (List.mem_filter.mp hx).1

/-! ### A cycle of IV_CLK_FAB -/

theorem fabCycle_runs {s : State} (h : fabRuns s = true) : fabCycle s = interpolate { s with tm := { s.tm with fab := s.tm.fab + 1 } } := by
  simp only [fabCycle, h, if_true]

/-- From the first accepted value on, a cycle runs local time on (R235, R245). -/
theorem interpolate_accepted {s : State} (h : s.tm.accepted = true) : interpolate s = { s with tm := { s.tm with
    cycles := min (s.tm.cycles + 1) (2 * fabRoom s), now := max s.tm.now (s.tm.base + min (s.tm.cycles + 1) (2 * fabRoom s) / 2) } } := by
  simp only [interpolate, h, if_true]

theorem interpolate_unset {s : State} (h : s.tm.accepted = false) : interpolate s = s := by
  simp only [interpolate, h, Bool.false_eq_true, if_false]

end Sys2Proof.Machine

namespace Sys2Proof

open Sys2Proof.Machine

/-- Settles O2: an edge of IV_CLK_AO field by field, and a cycle of IV_CLK_FAB. -/
theorem emptyQueueIsOneClockEdge : Obligations.EmptyQueueIsOneClockEdge := by
  intro s
  refine ⟨fun h => ?_, fun hm hs => ⟨fun hh => ?_, fun x hx hr => ?_⟩, fun hf => ?_, fun hf => ?_⟩
  · simp only [step, h, clockEdge]
    cases Config.nextEdgeAo s.free with
    | true => exact Or.inl rfl
    | false => exact Or.inr rfl
  · have hc : aoClock s = estimateTick (aoTicked s) := by
      rw [aoClock_eq hm hs, aoEdge_eq hm hs, aoHeldAct_nil]
      rw [estimateTick_eq, aoTicked_eq]
      exact hh
    have hrest : timeRuns (aoTicked s) = timeRuns s ∧ (aoTicked s).tm = { s.tm with aoCount := s.tm.aoCount + 1 } := by
      rw [aoTicked_eq]
      exact ⟨rfl, rfl⟩
    obtain ⟨hruns, htm⟩ := hrest
    have htime (h : s.tm.estimated = false ∨ s.tm.accepted = false ∨ timeRuns s = false) : (aoClock s).tm = { s.tm with aoCount := s.tm.aoCount + 1 } := by
      rw [hc, estimateTick_rests (by rw [hruns, htm]; exact h), htm]
    have hrun (he : s.tm.estimated = true) (ha : s.tm.accepted = true) (hr : timeRuns s = true) := by
      simpa only [htm] using hc.trans (estimateTick_runs (s := aoTicked s) (by rw [htm]; exact he) (by rw [htm]; exact ha) (hruns.trans hr))
    have hcount : (aoClock s).tm.aoCount = s.tm.aoCount + 1 := by
      by_cases he : s.tm.estimated = true ∧ s.tm.accepted = true ∧ timeRuns s = true
      · rw [hrun he.1 he.2.1 he.2.2]
      · rw [htime (by simpa only [not_and_or, Bool.not_eq_true] using he)]
    have hself : aoClock s = { s with tm := (aoClock s).tm, ao := (aoTicked s).ao, flt := (regAgree s).flt } := by
      rw [hc, estimateTick_eq, aoTicked_eq]
    have hao : (aoClock s).ao = (aoTicked s).ao := by rw [hself]
    have hflt : (aoClock s).flt = (regAgree s).flt := by rw [hself]
    rw [aoTicked_eq] at hao
    refine ⟨by rw [hself], hcount, by rw [hao], by rw [hao], by rw [hao], ?_, ?_, fun h => by rw [htime h], fun he ha hr => ?_, by rw [hself], by rw [hself],
      by rw [hself], by rw [hself], by rw [hself]⟩
    · rw [hflt]
      exact mem_cdc_cdcClear (mem_cdc_cdcClear (mem_cdc_cdcClear_self s .regTime 0) .aoReg 0) .fabReg 0
    · rw [hflt]
      rfl
    · rw [hrun he ha hr]
      refine ⟨?_, rfl, rfl⟩
      simp only [BitVec.toNat_ofNat]
      omega
  · rw [aoClock_eq hm hs]
    have hheld : (aoEdge s).ao.heldPuts = [x] ∧ (aoEdge s).ao.resetting = false := by
      rw [aoEdge_eq hm hs, estimateTick_eq, aoTicked_eq]
      exact ⟨hx, hr⟩
    simp only [aoHeldAct, hheld, Bool.false_eq_true, if_false, forEach]
  · rw [fabCycle_runs hf]
    refine ⟨?_, fun ha => ?_, fun ha => ?_, ?_⟩
    · cases ha : s.tm.accepted with
      | true => rw [interpolate_accepted (by exact ha)]
      | false => rw [interpolate_unset (by exact ha)]
    · rw [interpolate_accepted (by exact ha)]
      refine ⟨rfl, rfl, fun he => ?_⟩
      have hroom : fabRoom { s with tm := { s.tm with fab := s.tm.fab + 1 } } = 7 := by simp only [fabRoom, he, Bool.false_eq_true, if_false]
      simp only [hroom]
      omega
    · rw [interpolate_unset (by exact ha)]
      exact ⟨rfl, rfl⟩
    · cases ha : s.tm.accepted with
      | true => rw [interpolate_accepted (by exact ha)]
      | false => rw [interpolate_unset (by exact ha)]
  · simp only [fabCycle, hf, Bool.false_eq_true, if_false]

end Sys2Proof
end

section
/-! PROOF. The quarantine port, the time unit, pins of the power controller, signs of life and the last-gasp slots
(R65, R69, R70, R73, R127, R235 to R245, R300, R324, R327, R328, R339, R368). -/

namespace Sys2Proof.Machine

/-! ### Accepted values and estimates -/

theorem timeTake_eq (s : State) (v : Nat) : timeTake s v = cdcClear { s with
    status := if timeJump s v then s.status.raise stTimeJump else s.status,
    tm := { s.tm with now := max s.tm.now v, accepted := true, lastAcc := v, lastAo := s.tm.aoCount, estimated := false, ivValid := true,
                      estFrac := 0, base := v, cycles := 0, fab := fabAccept s v, fabAcc := fabAccept s v } } .time 0 := by
  unfold timeTake
  cases timeJump s v <;> rfl

theorem le_fabAccept (s : State) (v : Nat) : s.tm.fab ≤ fabAccept s v := by
  unfold fabAccept
  split <;> omega

@[simp] theorem jnlEstimated_offJournal (s : State) (cause from_ : Nat) (a b : Word) : offJournal (jnlEstimated s cause from_ a b) = offJournal s :=
  jnl_offJournal ..

/-- An estimate starts from local time; but for the journal's record nothing else changes (R65, R245). -/
theorem startEstimate_offJournal (s : State) (cause : Nat) : ∃ tm, tm.now = s.tm.now ∧ tm.lastAcc = s.tm.lastAcc ∧ tm.ivValid = s.tm.ivValid
    ∧ tm.estimated = (s.tm.estimated || s.tm.accepted) ∧ offJournal (startEstimate s cause) = offJournal { s with tm := tm } := by
  unfold startEstimate
  split
  next h =>
    rw [Bool.and_eq_true] at h
    exact ⟨{ s.tm with estimated := true, estFrac := 0, base := s.tm.now, cycles := 0 }, rfl, rfl, rfl, by simp only [h.1, Bool.or_true], jnlEstimated_offJournal ..⟩
  next h =>
    refine ⟨s.tm, rfl, rfl, rfl, ?_, rfl⟩
    cases ha : s.tm.accepted <;> simp_all

/-- Something that Ivsyn does of itself is done after activity or at once (R279). -/
theorem stirring_eq (f : State → State) (s : State) : stirring f s = f (activity s false) ∨ stirring f s = f s := by
  unfold stirring
  split
  · exact Or.inl rfl
  · exact Or.inr rfl

/-! ### IV_ALIVE -/

theorem aliveCarry_lt (s : State) (half : Nat) : aliveCarry s half < max 1 s.tm.aoCal.toNat := by
  unfold aliveCarry
  split
  next h =>
    simp only [Bool.and_eq_true, decide_eq_true_eq] at h
    omega
  next => omega

/-! ### The last-gasp slots -/

theorem wd16_set_same (r : Rec) {i : Nat} (h : i < 16) (w : Word) : wd16 (r.set i w) i = w := by
  simp [wd16, Vector.getD, h]

theorem wd16_set_ne (r : Rec) {i j : Nat} (h : i < 16) (hj : j < 16) (hne : i ≠ j) (w : Word) : wd16 (r.set i w) j = wd16 r j := by
  simp [wd16, Vector.getD, hj, hne]

theorem lg_set_same (v : Vector (Option Rec) 4) {i : Nat} (h : i < 4) (x : Option Rec) : (v.setIfInBounds i x).getD i none = x := by
  simp [Vector.getD, h]

theorem lg_set_ne (v : Vector (Option Rec) 4) {i j : Nat} (hj : j < 4) (h : i ≠ j) (x : Option Rec) :
    (v.setIfInBounds i x).getD j none = v.getD j none := by
  simp [Vector.getD, hj, h]

end Sys2Proof.Machine

namespace Sys2Proof

open Sys2Proof.Machine

/-- Settles O20: the request stands only where the quarantine port shows one, and the window's end is taken once a multiple has come. -/
theorem quarantineRequestsAndCountsEnd : Obligations.QuarantineRequestsAndCountsEnd := by
  refine ⟨fun s hl hm => ?_, fun s hr hm => ?_, fun s ha => ⟨fun hlt => ?_, fun hle => ?_⟩⟩
  · have hq : quarReq s = s.vat.quar.head? := by
      simp only [quarReq, hl, Bool.true_and, Bool.or_eq_true, decide_eq_true_eq, hm, if_true]
    refine congrArg Host.Outcome.next ?_
    rw [hq]
    cases hv : s.vat.quar with
    | nil => simp only [List.head?_nil, Option.isSome_none, Bool.false_eq_true, if_false, List.drop_nil]; rw [← hv]
    | cons x r => rfl
  · have hq : quarReq s = none := by simp [quarReq, hr, hm]
    refine ⟨hq, congrArg Host.Outcome.next ?_⟩
    rw [hq]
    rfl
  · refine congrArg Host.Outcome.next ?_
    rw [if_pos ha, strangerTick, if_neg (by unfold ticksDue; omega)]
    rfl
  · refine congrArg Host.Outcome.next ?_
    rw [if_pos ha, strangerTick, if_pos (by unfold ticksDue; omega)]

/-- Settles O43: an accepted value by its equation, and the loss of IV time as a stirring that starts the estimate. -/
theorem timeFollowsItsSource : Obligations.TimeFollowsItsSource := by
  refine ⟨fun s v hr => ⟨timeTake s v.toNat, congrArg Host.Outcome.next (if_pos hr), ?_⟩, fun s hr ha => ?_⟩
  · rw [timeTake_eq]
    exact ⟨rfl, rfl, rfl, rfl, le_fabAccept .., mem_cdc_cdcClear_self _ _ _, rfl, rfl, rfl, rfl, rfl, rfl⟩
  · have hest (x : State) (hx : x.tm.accepted = true) : ∃ tm, tm.now = x.tm.now ∧ tm.lastAcc = x.tm.lastAcc ∧ tm.ivValid = false ∧ tm.estimated = true
        ∧ offJournal (startEstimate { x with tm := { x.tm with ivValid := false } } 3) = offJournal { x with tm := tm } := by
      obtain ⟨tm, h1, h2, h3, h4, h5⟩ := startEstimate_offJournal { x with tm := { x.tm with ivValid := false } } 3
      exact ⟨tm, h1, h2, h3, h4.trans (by simp only [hx, Bool.or_true]), h5⟩
    refine ⟨_, congrArg Host.Outcome.next (if_pos hr), ?_⟩
    rcases stirring_eq (fun s => startEstimate { s with tm := { s.tm with ivValid := false } } 3) s with hs | hs
    · obtain ⟨tm, hnow, hacc, hval, hes, hoff⟩ := hest (activity s false) (by simpa using ha)
      rw [← hs] at hoff
      have htm := (congrArg State.tm hoff :)
      simp only [activity_tm] at hnow hacc
      refine ⟨?_, ?_, ?_, ?_, (congrArg State.ctl hoff :).trans (activity_ctl s), (congrArg State.vs hoff :).trans (activity_vs s),
        (congrArg State.ts hoff :).trans (activity_ts s), fun hc => ?_⟩
      · exact (congrArg TimeUnit.estimated htm :).trans hes
      · exact (congrArg TimeUnit.ivValid htm :).trans hval
      · exact (congrArg TimeUnit.now htm :).trans hnow
      · exact (congrArg TimeUnit.lastAcc htm :).trans hacc
      · rw [activity_of_calm hc] at hoff
        exact ⟨(congrArg State.md hoff :), (congrArg State.pw hoff :)⟩
    · obtain ⟨tm, hnow, hacc, hval, hes, hoff⟩ := hest s ha
      rw [← hs] at hoff
      have htm := (congrArg State.tm hoff :)
      exact ⟨(congrArg TimeUnit.estimated htm :).trans hes, (congrArg TimeUnit.ivValid htm :).trans hval, (congrArg TimeUnit.now htm :).trans hnow,
        (congrArg TimeUnit.lastAcc htm :).trans hacc, (congrArg State.ctl hoff :), (congrArg State.vs hoff :), (congrArg State.ts hoff :),
        fun _ => ⟨(congrArg State.md hoff :), (congrArg State.pw hoff :)⟩⟩

/-- Settles O44: the level is taken at once or kept for the wake, and the supply's fall goes by the acknowledge and the mode. -/
theorem throttleAndSupplyPins : Obligations.ThrottleAndSupplyPins := by
  refine ⟨fun s l hm => ⟨fun hs => ?_, fun hs => ⟨congrArg Host.Outcome.next (if_pos ?_), rfl⟩⟩, fun s hl => ⟨fun h => ?_, fun h hs => ?_, fun h hs hf => ?_⟩⟩
  · have hn : ¬((mute { s with pw := { s.pw with thrPin := l } } || sleeping { s with pw := { s.pw with thrPin := l } }) = true) := by
      show ¬((mute s || sleeping s) = true)
      simp [hm, hs]
    exact ⟨_, congrArg Host.Outcome.next (if_neg hn), rfl, rfl, rfl, mem_cdc_cdcClear_self _ _ _, rfl, rfl, rfl⟩
  · show (mute s || sleeping s) = true
    simp [hs]
  · exact congrArg Host.Outcome.next ((if_pos hl).trans (if_pos h))
  · exact congrArg Host.Outcome.next ((if_pos hl).trans ((if_neg (by simp [h])).trans (if_pos hs)))
  · refine congrArg Host.Outcome.next ((if_pos hl).trans ((if_neg (by simp [h])).trans ((if_neg (by simp [hs])).trans ?_)))
    simp only [fatalFault, hf, Bool.false_eq_true, if_false, Option.getD_none]

/-- Settles O46: the core's token, the poll words by their places, and the toggle by its half-period. -/
theorem signsOfLife : Obligations.SignsOfLife := by
  refine ⟨fun s ha => ⟨fun h => ?_, fun h => ?_, fun h => ?_, fun h => ?_⟩, fun s hm => ⟨fun h => ?_, fun h hr hle => ?_, fun h => ?_⟩⟩
  · exact congrArg Host.Outcome.next (if_pos (by simp [ha, h]))
  · exact congrArg Host.Outcome.next (if_neg (by simp [h]))
  · exact congrArg Host.Outcome.next (if_neg (by simp [h]))
  · exact ⟨pollRefresh s, congrArg Host.Outcome.next (if_pos (by simp [ha, h])), rfl, rfl, rfl, rfl, rfl, rfl, rfl, rfl, rfl⟩
  · exact congrArg Host.Outcome.next (if_pos (by simp [h]))
  · refine ⟨{ s with ao := { s.ao with alive := !s.ao.alive, toggles := s.ao.toggles + 1, sinceToggle := aliveCarry s (max (aliveHalf s) s.tm.aoCal.toNat) } },
      congrArg Host.Outcome.next ((if_neg (by simp [hm, h])).trans (if_pos ?_)), rfl, rfl, aliveCarry_lt .., rfl⟩
    simp only [hr, Bool.true_and, decide_eq_true_eq]
    exact hle
  · refine congrArg Host.Outcome.next ?_
    split
    · rfl
    · refine if_neg ?_
      simp only [Bool.and_eq_true, decide_eq_true_eq, not_and]
      rcases h with h | h
      · simp [h]
      · omega

/-- Settles O58: the slot after the newest takes the record with its count and number, and then the journal's copy marks it. -/
theorem lastGaspIsWritten : Obligations.LastGaspIsWritten := by
  intro s r hm hs hd
  have hslot : s.ao.lgNum % 4 < 4 := Nat.mod_lt _ (by decide)
  have hdue : gaspDue s = some ((r.set 7 s.tm.aoCount).set 10 (w32 (s.ao.lgNum + 1))) := by rw [gaspDue, hd]; rfl
  refine ⟨lastGaspWrite s, congrArg Host.Outcome.next (if_neg (by simp [hm, hs])), ?_⟩
  have hg0 : wd16 ((r.set 7 s.tm.aoCount).set 10 (w32 (s.ao.lgNum + 1))) 0 = wd16 r 0 := by
    rw [wd16_set_ne _ (by decide) (by decide) (by decide), wd16_set_ne _ (by decide) (by decide) (by decide)]
  have hg7 : wd16 ((r.set 7 s.tm.aoCount).set 10 (w32 (s.ao.lgNum + 1))) 7 = s.tm.aoCount := by
    rw [wd16_set_ne _ (by decide) (by decide) (by decide), wd16_set_same _ (by decide)]
  have hg10 : wd16 ((r.set 7 s.tm.aoCount).set 10 (w32 (s.ao.lgNum + 1))) 10 = w32 (s.ao.lgNum + 1) := wd16_set_same _ (by decide) _
  generalize (r.set 7 s.tm.aoCount).set 10 (w32 (s.ao.lgNum + 1)) = g at hdue hg0 hg7 hg10
  have hsl : lastGaspSlot s = { s with ao := { s.ao with lg := s.ao.lg.setIfInBounds (s.ao.lgNum % 4) (some g), lgNum := s.ao.lgNum + 1, lgDue := none,
                                                                      safeCause := fld (wd16 g 0) 0 8, safeCount := fld (wd16 g 0) 16 8 } } := by simp only [lastGaspSlot, hdue]
  simp only [lastGaspWrite, hdue]
  split
  · have hoff := jnlPut_offJournal (lastGaspSlot s) .lastGasp g
    have hao := (congrArg State.ao hoff :)
    have hmd := (congrArg State.md hoff :)
    have hts := (congrArg State.ts hoff :)
    have htm := (congrArg State.tm hoff :)
    simp only [offJournal, hsl] at hao hmd hts htm
    rw [hsl, hao, hmd, hts, htm]
    refine ⟨rfl, rfl, by rw [← hg0], ⟨_, lg_set_same _ hslot _, ?_, ?_, ?_⟩, fun k hk hne => ?_, rfl, rfl, rfl⟩
    · rw [wd16_set_ne _ (by decide) (by decide) (by decide), hg7]
    · rw [wd16_set_ne _ (by decide) (by decide) (by decide), hg10]
    · rw [wd16_set_ne _ (by decide) (by decide) (by decide), hg0]
    · rw [lg_set_ne _ hk (Ne.symm hne), lg_set_ne _ hk (Ne.symm hne)]
  · rw [hsl]
    exact ⟨rfl, rfl, by rw [← hg0], ⟨_, lg_set_same _ hslot _, hg7, hg10, hg0⟩, fun k hk hne => lg_set_ne _ hk (Ne.symm hne) _, rfl, rfl, rfl⟩

end Sys2Proof
end

section
/-! PROOF. What a command leaves alone in SAFE (R325): the mode unit, the vat, the vectors and both parties' sides. Nothing that needs the core
running acts there; what still acts belongs to the ports, the always-on island and the pins. -/

namespace Sys2Proof.Machine

/-- What SAFE empties, and the mode itself. -/
def safeSide (s : State) : ModeUnit × VatUnit × VecStore × PartyUnit × PartyUnit := (s.md, s.vat, s.vs, s.dcM, s.dcS)

theorem safeSide_of_offJournal {s t : State} (h : offJournal t = offJournal s) : safeSide t = safeSide s :=
  show safeSide (offJournal t) = safeSide (offJournal s) from congrArg safeSide h

theorem ite_safeSide {c : Prop} [Decidable c] {x y s : State} (hx : safeSide x = safeSide s) (hy : safeSide y = safeSide s) :
    safeSide (if c then x else y) = safeSide s := by
  by_cases h : c
  · rw [if_pos h, hx]
  · rw [if_neg h, hy]

/-! ### The guards -/

theorem live_of_safe {s : State} (h : s.md.mode = .safe) : live s = false := by simp [live, h]
theorem awake_of_safe {s : State} (h : s.md.mode = .safe) : awake s = false := by simp [awake, live_of_safe h]
theorem sleeping_of_safe {s : State} (h : s.md.mode = .safe) : sleeping s = false := by simp [sleeping, h]
theorem ranking_of_safe {s : State} (h : s.md.mode = .safe) : ranking s = false := by simp [ranking, h]

/-! ### Ports -/

@[simp] theorem portAnswer_safeSide (s : State) (p : Port) (w : Word) (err : Bool) : safeSide (portAnswer s p w err) = safeSide s := by
  cases p <;> rfl

@[simp] theorem portDone_safeSide (s : State) (p : Port) : safeSide (portDone s p) = safeSide s := portAnswer_safeSide ..

theorem portServe_safeSide {s : State} {f : State → State} (h : safeSide (f s) = safeSide s) : safeSide (portServe s f) = safeSide s := by
  unfold portServe
  split
  · rfl
  · exact h

theorem writeAt_safeSide {s : State} {p : Port} {f : State → State} (h : safeSide (f s) = safeSide s) : safeSide (writeAt s p f) = safeSide s :=
  portServe_safeSide ((portDone_safeSide ..).trans h)

theorem portWrite_of_safe {s : State} (h : s.md.mode = .safe) (p : Port) (reach : Bool) (addr : BitVec 22) (f : State → State) :
    portWrite s p reach addr f = s := by simp [portWrite, live_of_safe h]

theorem partyWrite_of_safe {s : State} (h : s.md.mode = .safe) (p : Party) (addr : BitVec 22) (f : State → State) :
    partyWrite s p addr f = s := by
  cases p with
  | M => exact portWrite_of_safe h .mgmt true addr f
  | S => simp [partyWrite, live_of_safe h]

theorem furnCmd_of_safe {s : State} (h : s.md.mode = .safe) (ok : Bool) (f : State → State) : furnCmd s ok f = s := by
  simp [furnCmd, live_of_safe h]

theorem denied_of_safe {s : State} (h : s.md.mode = .safe) (t : Nat) : denied s t = s := by simp [denied, awake_of_safe h]

/-! ### Reads -/

theorem timeLatch_safeSide {s : State} (h : s.md.mode = .safe) (p : Port) : safeSide (timeLatch s p) = safeSide s := by
  simp [timeLatch, live_of_safe h]

theorem sleepElapsedRead_safeSide {s : State} (h : s.md.mode = .safe) (p : Port) : safeSide (sleepElapsedRead s p) = safeSide s := by
  cases p with
  | mgmt =>
    simp only [sleepElapsedRead]
    split
    · exact portAnswer_safeSide ..
    · exact (portAnswer_safeSide ..).trans rfl
  | sec => exact portAnswer_safeSide ..
  | tenant t => simp [sleepElapsedRead, live_of_safe h]

theorem amaskRead_safeSide {s : State} (h : s.md.mode = .safe) (p : Port) (t : Nat) : safeSide (amaskRead s p t) = safeSide s := by
  cases p <;> simp [amaskRead, live_of_safe h, denied_of_safe h]

theorem alignedRead_safeSide {s : State} (h : s.md.mode = .safe) (p : Port) (addr : BitVec 22) : safeSide (alignedRead s p addr) = safeSide s := by
  cases p with
  | mgmt =>
    simp only [alignedRead]
    split
    · exact timeLatch_safeSide h _
    · split
      · exact sleepElapsedRead_safeSide h _
      · split
        · exact amaskRead_safeSide h ..
        · exact portAnswer_safeSide ..
  | sec =>
    simp only [alignedRead]
    split
    · exact timeLatch_safeSide h _
    · exact portAnswer_safeSide ..
  | tenant t => simp [alignedRead, live_of_safe h]

theorem regRead_safeSide {s : State} (h : s.md.mode = .safe) (p : Port) (addr : BitVec 22) : safeSide (regRead s p addr) = safeSide s := by
  unfold regRead
  split
  · exact alignedRead_safeSide h ..
  · cases p <;> simp [live_of_safe h]

/-! ### Writes -/

theorem resetRequest_safeSide (s : State) : safeSide (resetRequest s) = safeSide s := by
  unfold resetRequest
  split
  · rfl
  · dsimp only
    split <;> rfl

theorem resetCmd_safeSide {s : State} (h : s.md.mode = .safe) (p : Port) (w : Word) : safeSide (resetCmd s p w) = safeSide s := by
  cases p <;> simp only [resetCmd, live_of_safe h, Bool.false_eq_true, if_false]
  all_goals
    split
    · exact resetRequest_safeSide s
    · rfl

theorem aoReject_of_safe {s : State} (h : s.md.mode = .safe) (addr : BitVec 22) : aoReject s addr = s := by
  simp [aoReject, live_of_safe h]

theorem modeReqPut_safeSide {s : State} (h : s.md.mode = .safe) (f : Form) (w : Word) (addr : BitVec 22) :
    safeSide (modeReqPut s f w addr) = safeSide s := by
  simp only [modeReqPut, live_of_safe h, Bool.false_eq_true, if_false, modeReqSafe]
  split <;> rfl

theorem aoCalPut_safeSide {s : State} (h : s.md.mode = .safe) (v : Word) (addr : BitVec 22) : safeSide (aoCalPut s v addr) = safeSide s := by
  simp only [aoCalPut, aoReject_of_safe h]
  split
  · rfl
  · split <;> rfl

theorem sbAddrPut_safeSide {s : State} (h : s.md.mode = .safe) (f : Form) (v : Word) (addr : BitVec 22) :
    safeSide (sbAddrPut s f v addr) = safeSide s := by
  simp only [sbAddrPut, aoReject_of_safe h, ite_self]
  split <;> rfl

theorem aoAct_safeSide {s : State} (h : s.md.mode = .safe) (f : Form) (a : Nat) (w : Word) (addr : BitVec 22) :
    safeSide (aoAct s f a w addr) = safeSide s := by
  unfold aoAct
  split
  · exact modeReqPut_safeSide h ..
  · split
    · split
      · exact resetCmd_safeSide h ..
      · rfl
    · split
      · exact aoCalPut_safeSide h ..
      · split
        · exact sbAddrPut_safeSide h ..
        · rfl

theorem aoPut_safeSide {s : State} (h : s.md.mode = .safe) (f : Form) (a : Nat) (w : Word) (addr : BitVec 22) :
    safeSide (aoPut s f a w addr) = safeSide s := by
  unfold aoPut
  split
  · rfl
  · exact aoAct_safeSide h ..

/-- A mode that shows through the side. -/
theorem safe_of_safeSide {s t : State} (h : s.md.mode = .safe) (k : safeSide t = safeSide s) : t.md.mode = .safe :=
  (congrArg (fun x => x.1.mode) k).trans h

theorem forEach_safeSide {α : Type} {f : State → α → State} (hf : ∀ s x, s.md.mode = .safe → safeSide (f s x) = safeSide s) (l : List α)
    {s : State} (h : s.md.mode = .safe) : safeSide (forEach l s f) = safeSide s := by
  induction l generalizing s with
  | nil => rfl
  | cons x r ih => exact (ih (safe_of_safeSide h (hf s x h))).trans (hf s x h)

theorem aoHeldAct_safeSide {s : State} (h : s.md.mode = .safe) : safeSide (aoHeldAct s) = safeSide s := by
  unfold aoHeldAct
  dsimp only
  split
  · rfl
  · exact forEach_safeSide (fun s x k => aoAct_safeSide k ..) _ (s := { s with ao := { s.ao with heldPuts := [] } }) h

theorem rejectIf_safeSide (b : Bool) (s : State) (addr : BitVec 22) : safeSide (rejectIf b s addr) = safeSide s := by
  cases b <;> rfl

theorem aperturePut_safeSide (s : State) (b b2 : BitVec 34) (l : BitVec 6) (addr : BitVec 22) : safeSide (aperturePut s b b2 l addr) = safeSide s := by
  unfold aperturePut
  split
  · rfl
  · split <;> rfl

theorem aperCtlPut_safeSide (s : State) (v : Word) (addr : BitVec 22) : safeSide (aperCtlPut s v false addr) = safeSide s :=
  rejectIf_safeSide ..

/-- Of the locations that SAFE serves, those below 0x300 are the aperture's. -/
theorem lowPut_safeSide {a : Nat} (ha : safeLocation a = true) (hl : a < 0x300) (s : State) (v : Word) (addr : BitVec 22) :
    safeSide (lowPut s a v addr) = safeSide s := by
  simp only [safeLocation, Bool.or_eq_true, Bool.and_eq_true, decide_eq_true_eq] at ha
  unfold lowPut
  rw [if_neg (by omega), if_neg (by omega)]
  iterate 5 refine ite_safeSide (aperturePut_safeSide ..) ?_
  rw [if_neg (by omega), if_neg (by omega), if_neg (by omega), if_neg (by omega), if_neg (by omega), if_neg]
  simp only [Bool.and_eq_true, decide_eq_true_eq]
  omega

/-- Of the locations that SAFE serves, those from 0x300 on are the refusal counts. -/
theorem highPut_safeSide {a : Nat} (ha : safeLocation a = true) (hl : 0x300 ≤ a) (s : State) (v : Word) (addr : BitVec 22) :
    safeSide (highPut s a v addr) = safeSide s := by
  simp only [safeLocation, Bool.or_eq_true, Bool.and_eq_true, decide_eq_true_eq] at ha
  unfold highPut
  rw [if_neg (by omega), if_neg (by omega), if_neg (by simp only [Bool.and_eq_true, decide_eq_true_eq]; omega), if_neg (by omega), if_neg (by omega),
    if_pos (by simp only [Bool.and_eq_true, decide_eq_true_eq]; omega)]
  rfl

theorem safePut_safeSide {a : Nat} (ha : safeLocation a = true) (s : State) (f : Form) (w : Word) (addr : BitVec 22) :
    safeSide (safePut s f a w addr) = safeSide s := by
  unfold safePut
  split
  · exact aperCtlPut_safeSide ..
  · dsimp only
    split
    · exact lowPut_safeSide ha ‹_› ..
    · exact highPut_safeSide ha (by omega) ..

theorem furnCmdPut_of_safe {s : State} (h : s.md.mode = .safe) (w : Word) : furnCmdPut s w = s := by
  simp [furnCmdPut, furnCmd_of_safe h]

theorem classMWrite_safeSide {s : State} (h : s.md.mode = .safe) (f : Form) (a : Nat) (w : Word) (addr : BitVec 22) :
    safeSide (classMWrite s f a w addr) = safeSide s := by
  unfold classMWrite
  split
  · rfl
  · split
    · exact aoPut_safeSide h ..
    · split
      · rename_i ha
        exact safePut_safeSide (by simpa [h] using ha) ..
      · rw [furnCmdPut_of_safe h, portWrite_of_safe h, ite_self]

theorem queuedWrite_of_safe {s : State} (h : s.md.mode = .safe) (p : Port) (t : BitVec 16) (off : Nat) (q : Queued) :
    queuedWrite s p t off q = s := by simp [queuedWrite, live_of_safe h, portWrite_of_safe h]

theorem registerWrite_safeSide {s : State} (h : s.md.mode = .safe) (p : Port) (addr : BitVec 22) (w : Word) :
    safeSide (registerWrite s p addr w) = safeSide s := by
  unfold registerWrite
  dsimp only
  split
  · simp [targetPut, queuedWrite_of_safe h, portWrite_of_safe h]
  · split
    · rw [portWrite_of_safe h]
    · split
      · exact classMWrite_safeSide h ..
      · rw [portWrite_of_safe h]

theorem securityWrite_safeSide {s : State} (h : s.md.mode = .safe) (a : Nat) (w : Word) : safeSide (securityWrite s a w) = safeSide s := by
  unfold securityWrite
  split
  · exact resetCmd_safeSide h ..
  · rw [partyWrite_of_safe h, ite_self]

theorem doneUnlessHeld_safeSide (s t : State) (p : Port) : safeSide (doneUnlessHeld s t p) = safeSide t := by
  unfold doneUnlessHeld
  split
  · exact portDone_safeSide ..
  · rfl

theorem regWrite_safeSide {s : State} (h : s.md.mode = .safe) (p : Port) (addr : BitVec 22) (w : Word) :
    safeSide (regWrite s p addr w) = safeSide s := by
  unfold regWrite
  split
  · cases p <;> simp [live_of_safe h]
  · cases p with
    | sec => exact (portDone_safeSide ..).trans (securityWrite_safeSide h ..)
    | mgmt => exact (doneUnlessHeld_safeSide ..).trans (registerWrite_safeSide h ..)
    | tenant t => exact (doneUnlessHeld_safeSide ..).trans (registerWrite_safeSide h ..)

theorem seqClear_of_safe {s : State} (h : s.md.mode = .safe) (p : Port) (r : ScReg) (w : Word) : seqClear s p r w = s := by
  unfold seqClear
  split
  · rw [partyWrite_of_safe h, ite_self]
  · exact portWrite_of_safe h ..

/-! ### The sideband -/

theorem sbSend_safeSide (s : State) (status : Byte) (data : List (BitVec 16)) : safeSide (sbSend s status data) = safeSide s := rfl

theorem sbWakeAct_of_safe {s : State} (h : s.md.mode = .safe) : sbWakeAct s = s := by simp [sbWakeAct, live_of_safe h]

theorem sbResetAct_safeSide (s : State) (key : BitVec 16) : safeSide (sbResetAct s key) = safeSide s := by
  unfold sbResetAct
  split
  · rfl
  · split <;> rfl

theorem sbCommand_safeSide {s : State} (h : s.md.mode = .safe) (cmd : Byte) (data : BitVec 16) : safeSide (sbCommand s cmd data) = safeSide s := by
  unfold sbCommand
  split
  · rfl
  · split
    · rw [sbWakeAct_of_safe (s := sbSend s (sbStatus s 0) []) h]
      rfl
    · split
      · rfl
      · split
        · split <;> rfl
        · split
          · exact sbResetAct_safeSide ..
          · rfl

theorem sbTake_safeSide {s : State} (h : s.md.mode = .safe) (v : Bool) : safeSide (sbTake s v) = safeSide s := by
  unfold sbTake
  dsimp only
  split
  · unfold sbExecute
    split
    · exact (sbCommand_safeSide (s := sbPut s (ackLower s.ao.sb v)) h ..).trans rfl
    · rfl
  · rfl

theorem sbGive_safeSide (s : State) (tx : List Bool) : safeSide (sbGive s tx) = safeSide s := by
  cases tx with
  | nil =>
    simp only [sbGive, sbSent]
    split
    · exact (resetRequest_safeSide _).trans rfl
    · rfl
  | cons v r => rfl

theorem sbMove_safeSide {s : State} (h : s.md.mode = .safe) (m : SbMove) : safeSide (sbMove s m) = safeSide s := by
  unfold sbMove
  split
  · rfl
  · exact sbTake_safeSide h _
  · rfl
  · exact sbGive_safeSide ..
  · rfl
  · exact sbGive_safeSide ..
  · rfl

theorem sbExchange_safeSide {s : State} (h : s.md.mode = .safe) (f : SbFrame) (cmd : Byte) (data : List Bool) :
    safeSide (sbExchange s f cmd data) = safeSide s := by
  have hfold : ∀ (l : List SbMove) {s : State}, s.md.mode = .safe → safeSide (l.foldl sbMove s) = safeSide s := by
    intro l
    induction l with
    | nil => intro s _; rfl
    | cons m r ih => intro s h; exact (ih (safe_of_safeSide h (sbMove_safeSide h m))).trans (sbMove_safeSide h m)
  unfold sbExchange
  split
  · rfl
  · exact hfold _ h

/-! ### Lines, time and the last-gasp area -/

theorem lineMoves_safeSide {s : State} (h : s.md.mode = .safe) (n : Nat) (high : Bool) : safeSide (lineMoves s n high) = safeSide s := by
  simp [lineMoves, live_of_safe h, safeSide]

theorem countedLine_safeSide {s : State} (h : s.md.mode = .safe) (m : Nat) (g : BitVec 4) : safeSide (countedLine s m g) = safeSide s := by
  unfold countedLine
  have ha := awake_of_safe h
  simp only [ha, Bool.false_eq_true, if_false]
  rfl

theorem activity_safeSide {s : State} (h : s.md.mode = .safe) : safeSide (activity s false) = safeSide s := by
  unfold activity
  dsimp only [Bool.false_eq_true, if_false]
  split
  · split <;> simp [h, safeSide, abandonEntry]
  · split <;> simp [h, safeSide, abandonEntry]

theorem stirring_safeSide {f : State → State} (hf : ∀ s, safeSide (f s) = safeSide s) {s : State} (h : s.md.mode = .safe) :
    safeSide (stirring f s) = safeSide s := by
  unfold stirring
  split
  · exact (hf _).trans (activity_safeSide h)
  · exact hf s

theorem startEstimate_safeSide (s : State) (cause : Nat) : safeSide (startEstimate s cause) = safeSide s := by
  unfold startEstimate
  split
  · exact (safeSide_of_offJournal (jnl_offJournal ..)).trans rfl
  · rfl

theorem timeTake_safeSide (s : State) (v : Nat) : safeSide (timeTake s v) = safeSide s := by
  unfold timeTake
  dsimp only
  split <;> rfl

theorem lastGaspSlot_safeSide (s : State) : safeSide (lastGaspSlot s) = safeSide s := by
  unfold lastGaspSlot
  split <;> rfl

theorem lastGaspWrite_safeSide (s : State) : safeSide (lastGaspWrite s) = safeSide s := by
  unfold lastGaspWrite
  split
  · rfl
  · dsimp only
    split
    · exact (safeSide_of_offJournal (jnlPut_offJournal ..)).trans (lastGaspSlot_safeSide s)
    · exact lastGaspSlot_safeSide s

/-! ### Commands -/

/-- The commands that act only where Ivsyn is live: rounds, timers, beats, aperture outcomes and the like. -/
def needsLive (i : Instr) : Bool :=
  match i with
  | .memoryWriteBeat .. | .assertIntx .. | .deassertIntx .. | .rouse .. | .wakeBeat _ => true
  | .vteReadReturn .. | .apertureReadError _ | .apertureReadTimeout _ | .apertureWriteAck .. | .apertureWriteError .. => true
  | .cdcRetry .. | .cdcDeferred .. | .vddOkFall | .linkUp .. | .linkDown .. | .lowPower .. | .hostReset .. | .quarAck => true
  | .wiredLevelWake _ | .aoWakeComparator | .fetchComplete _ | .approvalTimeout | .validateComplete | .reformDrainComplete => true
  | .reformAcceptTimeout _ | .formCommit _ | .leaseExpiry _ | .dcWindowExpiry _ | .resyncComplete | .rankingRound .. | .selfTest .. => true
  | .arbiterRound | .holdoffWindowEnd _ | .deadlineArrival _ | .couchTimeLimit _ | .sweep | .batchTimeout _ | .watchdogExpiry _ => true
  | .creditRefill | .strangerWindowEnd | .journalBucketRefill | .hwFieldWriteback | .heartbeat | .wedged | .pollRefresh => true
  | .clkFabLoss | .aoClockStop | .refresh .. | .safeEntry .. | .idleEntry | .entryAttempt | .entryRetry | .entryDrainComplete => true
  | .entryDeliveryTimeout | .entryCommit => true
  | _ => false

theorem awake_of_not_live {s : State} (h : live s = false) : awake s = false := by simp [awake, h]

/-- Such a command changes nothing where Ivsyn is not live (R325, log 1). -/
theorem exec_of_not_live {s : State} (h : live s = false) {i : Instr} (hi : needsLive i = true) : exec i s = .next s := by
  have ha := awake_of_not_live h
  cases i
  case entryDeliveryTimeout => refine congrArg Host.Outcome.next ?_; cases s.pw.entry <;> simp [h]
  case entryCommit => refine congrArg Host.Outcome.next ?_; cases s.pw.entry <;> simp [h]
  case entryRetry => refine congrArg Host.Outcome.next ?_; cases s.pw.retryAt <;> simp [h]
  case quarAck => refine congrArg Host.Outcome.next ?_; simp [quarReq, h]
  all_goals try exact absurd hi Bool.false_ne_true
  all_goals exact congrArg Host.Outcome.next (by simp [h, ha, present, onTag, onWrite, whenLive, hostEvent, rounding, arbiterOn])

/-- A write that its port takes only while Ivsyn is live does nothing but complete (R325). -/
theorem writeAt_safeSide_of_eq {s : State} {p : Port} {f : State → State} (h : f s = s) : safeSide (writeAt s p f) = safeSide s :=
  writeAt_safeSide (by rw [h])

theorem queuedAt_safeSide_of_eq {s : State} {p : Port} {f : State → State} (h : f s = s) : safeSide (queuedAt s p f) = safeSide s :=
  portServe_safeSide ((doneUnlessHeld_safeSide ..).trans (by rw [h]))

theorem egressOutcome_safeSide {s : State} (h : s.md.mode = .safe) (tag : BitVec 8) (f : State → BitVec 8 → EgWrite → State) :
    safeSide (egressOutcome s tag f) = safeSide s := by
  unfold egressOutcome
  rw [if_neg (by rw [live_of_safe h]; decide)]
  exact ite_safeSide rfl rfl

theorem execPwrAck_safeSide {s : State} (h : s.md.mode = .safe) (v : Option DWord) : ∃ t, execPwrAck v s = .next t ∧ safeSide t = safeSide s := by
  refine ⟨_, rfl, ite_safeSide rfl (ite_safeSide ?_ ?_)⟩
  · unfold resetAck
    exact ite_safeSide rfl rfl
  · rw [if_pos h]
    rfl

theorem execWakePin_safeSide {s : State} (h : s.md.mode = .safe) : execWakePin s = .next s := by
  refine congrArg Host.Outcome.next ?_
  simp [h, live_of_safe h]

theorem execTimeValidLoss_safeSide {s : State} (h : s.md.mode = .safe) :
    safeSide (if timeRuns s then stirring (fun s => startEstimate { s with tm := { s.tm with ivValid := false } } 3) s else s) = safeSide s := by
  have hf (x : State) : safeSide (startEstimate { x with tm := { x.tm with ivValid := false } } 3) = safeSide x :=
    startEstimate_safeSide { x with tm := { x.tm with ivValid := false } } 3
  split
  · exact stirring_safeSide hf h
  · rfl

theorem noteHung_safeSide (s : State) : safeSide (noteHung s) = safeSide s := by
  unfold noteHung
  exact ite_safeSide rfl rfl

/-- The register writes whose location takes them only where Ivsyn is live. -/
def writesLive (i : Instr) : Bool :=
  match i with
  | .seqClear .. | .load | .reform _ | .abandon | .warmForm | .tEoi .. | .tHead .. | .tRearm .. => true
  | .tHint .. | .propose _ | .withdraw _ | .veto .. | .approve .. | .dcStageWrite .. | .engineEnSet | .engineEnClear => true
  | .ingressEnClear | .ingressEnSet | .deliverEnClear | .deliverEnSet | .freezeSet | .freezeClear | .resync | .lockSet _ => true
  | .jnlHeadWrite .. | .tCprio .. | .acquire .. | .read .. | .stage .. | .apply .. | .release .. | .fence .. => true
  | .injectPlaneAMismatch _ | .injectFenceA _ | .injectFenceB _ | .injectEccSingle _ | .injectEccDouble _ | .injectCdcDisagree _ | .injectApertureReadError _ | .injectHeartbeatStop _ => true
  | .injectCollectorParity _ => true
  | _ => false

/-- In SAFE such a write does nothing but complete. -/
theorem exec_writesLive_safeSide {s : State} (h : s.md.mode = .safe) {i : Instr} (hi : writesLive i = true) :
    ∃ t, exec i s = .next t ∧ safeSide t = safeSide s := by
  have hpw (p : Port) (r : Bool) (a : BitVec 22) (f : State → State) := portWrite_of_safe h p r a f
  have hparty (p : Party) (a : BitVec 22) (f : State → State) := partyWrite_of_safe h p a f
  cases i with
  | seqClear p r w => exact ⟨_, rfl, writeAt_safeSide_of_eq (seqClear_of_safe h ..)⟩
  | load => exact ⟨_, rfl, writeAt_safeSide_of_eq (furnCmd_of_safe h ..)⟩
  | reform t => exact ⟨_, rfl, writeAt_safeSide_of_eq (furnCmd_of_safe h ..)⟩
  | abandon => exact ⟨_, rfl, writeAt_safeSide_of_eq (furnCmd_of_safe h ..)⟩
  | warmForm => exact ⟨_, rfl, writeAt_safeSide_of_eq (furnCmd_of_safe h ..)⟩
  | tEoi p t w => exact ⟨_, rfl, queuedAt_safeSide_of_eq (queuedWrite_of_safe h ..)⟩
  | tHead p t w => exact ⟨_, rfl, queuedAt_safeSide_of_eq (queuedWrite_of_safe h ..)⟩
  | tRearm p t w => exact ⟨_, rfl, queuedAt_safeSide_of_eq (queuedWrite_of_safe h ..)⟩
  | tHint p t w => exact ⟨_, rfl, queuedAt_safeSide_of_eq (queuedWrite_of_safe h ..)⟩
  | propose p => exact ⟨_, rfl, writeAt_safeSide_of_eq (hparty ..)⟩
  | withdraw p => exact ⟨_, rfl, writeAt_safeSide_of_eq (hparty ..)⟩
  | veto p w => exact ⟨_, rfl, writeAt_safeSide_of_eq (hparty ..)⟩
  | approve p w => exact ⟨_, rfl, writeAt_safeSide_of_eq (hparty ..)⟩
  | dcStageWrite p f n w => exact ⟨_, rfl, writeAt_safeSide_of_eq (hparty ..)⟩
  | engineEnSet => exact ⟨_, rfl, writeAt_safeSide_of_eq (hpw ..)⟩
  | engineEnClear => exact ⟨_, rfl, writeAt_safeSide_of_eq (hpw ..)⟩
  | ingressEnClear => exact ⟨_, rfl, writeAt_safeSide_of_eq (hpw ..)⟩
  | ingressEnSet => exact ⟨_, rfl, writeAt_safeSide_of_eq (hpw ..)⟩
  | deliverEnClear => exact ⟨_, rfl, writeAt_safeSide_of_eq (hpw ..)⟩
  | deliverEnSet => exact ⟨_, rfl, writeAt_safeSide_of_eq (hpw ..)⟩
  | freezeSet => exact ⟨_, rfl, writeAt_safeSide_of_eq (hpw ..)⟩
  | freezeClear => exact ⟨_, rfl, writeAt_safeSide_of_eq (hpw ..)⟩
  | resync => exact ⟨_, rfl, writeAt_safeSide_of_eq (hpw ..)⟩
  | lockSet b => exact ⟨_, rfl, writeAt_safeSide_of_eq (hpw ..)⟩
  | jnlHeadWrite f w => exact ⟨_, rfl, writeAt_safeSide_of_eq (hpw ..)⟩
  | tCprio p t w => exact ⟨_, rfl, writeAt_safeSide_of_eq (hpw ..)⟩
  | acquire p u l => exact ⟨_, rfl, writeAt_safeSide_of_eq (hpw ..)⟩
  | read p u => exact ⟨_, rfl, writeAt_safeSide_of_eq (hpw ..)⟩
  | stage p u => exact ⟨_, rfl, writeAt_safeSide_of_eq (hpw ..)⟩
  | apply p u => exact ⟨_, rfl, writeAt_safeSide_of_eq (hpw ..)⟩
  | release p u => exact ⟨_, rfl, writeAt_safeSide_of_eq (hpw ..)⟩
  | fence p u => exact ⟨_, rfl, writeAt_safeSide_of_eq (hpw ..)⟩
  | injectPlaneAMismatch k => exact ⟨_, rfl, writeAt_safeSide_of_eq (hpw ..)⟩
  | injectFenceA k => exact ⟨_, rfl, writeAt_safeSide_of_eq (hpw ..)⟩
  | injectFenceB k => exact ⟨_, rfl, writeAt_safeSide_of_eq (hpw ..)⟩
  | injectEccSingle k => exact ⟨_, rfl, writeAt_safeSide_of_eq (hpw ..)⟩
  | injectEccDouble k => exact ⟨_, rfl, writeAt_safeSide_of_eq (hpw ..)⟩
  | injectCdcDisagree k => exact ⟨_, rfl, writeAt_safeSide_of_eq (hpw ..)⟩
  | injectApertureReadError k => exact ⟨_, rfl, writeAt_safeSide_of_eq (hpw ..)⟩
  | injectHeartbeatStop k => exact ⟨_, rfl, writeAt_safeSide_of_eq (hpw ..)⟩
  | injectCollectorParity k => exact ⟨_, rfl, writeAt_safeSide_of_eq (hpw ..)⟩
  | _ => exact absurd hi Bool.false_ne_true

/-- In SAFE a command that is no reset leaves the mode, the vat, the vectors and the parties' sides (R268, R324, R325). -/
theorem exec_safeSide {s : State} (h : s.md.mode = .safe) {i : Instr} (hi : resets i = false) :
    ∃ t, exec i s = .next t ∧ safeSide t = safeSide s := by
  by_cases hn : needsLive i = true
  · exact ⟨s, exec_of_not_live (live_of_safe h) hn, rfl⟩
  by_cases hw : writesLive i = true
  · exact exec_writesLive_safeSide h hw
  cases i with
  | regWrite p a w => exact ⟨_, rfl, portServe_safeSide (regWrite_safeSide h ..)⟩
  | accessGuardTimeout p =>
    exact ⟨_, rfl, portServe_safeSide (ite_safeSide rfl ((noteHung_safeSide _).trans (portAnswer_safeSide ..)))⟩
  | egressAccept tag => exact ⟨_, rfl, egressOutcome_safeSide h ..⟩
  | egressReject tag => exact ⟨_, rfl, egressOutcome_safeSide h ..⟩
  | levelLineChange n high => exact ⟨_, rfl, lineMoves_safeSide h ..⟩
  | sampledEdge n => exact ⟨_, rfl, (lineMoves_safeSide (s := lineSet s n.val (lineCfg s n.val).polarity) h ..).trans rfl⟩
  | countedStep m g => exact ⟨_, rfl, countedLine_safeSide h ..⟩
  | timeAccept v => exact ⟨_, rfl, ite_safeSide (timeTake_safeSide ..) rfl⟩
  | timeValidLoss =>
    exact ⟨_, rfl, execTimeValidLoss_safeSide h⟩
  | throttleChange l => exact ⟨_, rfl, ite_safeSide rfl rfl⟩
  | pwrAck v => exact execPwrAck_safeSide h v
  | wakePin => exact ⟨s, execWakePin_safeSide h, rfl⟩
  | ping f => exact ⟨_, rfl, sbExchange_safeSide h ..⟩
  | sbWake f => exact ⟨_, rfl, sbExchange_safeSide h ..⟩
  | readPoll f n => exact ⟨_, rfl, sbExchange_safeSide h ..⟩
  | readAo f k => exact ⟨_, rfl, sbExchange_safeSide h ..⟩
  | sbReset f k => exact ⟨_, rfl, sbExchange_safeSide h ..⟩
  | badCmd f c => exact ⟨_, rfl, sbExchange_safeSide h ..⟩
  | sbFrameTimeout => exact ⟨_, rfl, ite_safeSide rfl rfl⟩
  | sbFrameAbandonBothRails => exact ⟨_, rfl, ite_safeSide rfl rfl⟩
  | resetCmd p w => exact ⟨_, rfl, writeAt_safeSide (resetCmd_safeSide h ..)⟩
  | modeReqWrite f w => exact ⟨_, rfl, writeAt_safeSide (ite_safeSide rfl rfl)⟩
  | timeLoRead a => exact ⟨_, rfl, portServe_safeSide (regRead_safeSide h ..)⟩
  | sleepElapsedLoRead p => exact ⟨_, rfl, portServe_safeSide (sleepElapsedRead_safeSide h _)⟩
  | amaskLoRead p t => exact ⟨_, rfl, portServe_safeSide (amaskRead_safeSide h ..)⟩
  | aliveToggle => exact ⟨_, rfl, ite_safeSide rfl (ite_safeSide rfl rfl)⟩
  | clkRegLoss => exact ⟨_, rfl, ite_safeSide rfl (by rw [regStop, whenLive, if_neg (by rw [live_of_safe (by exact h)]; decide)]; rfl)⟩
  | lastGasp => exact ⟨_, rfl, ite_safeSide rfl (lastGaspWrite_safeSide s)⟩
  | aoEdgeSeenAgain => exact ⟨_, rfl, ite_safeSide rfl ((aoHeldAct_safeSide (s := { s with tm := { s.tm with aoStopped := false } }) h).trans rfl)⟩
  | porstFall => exact absurd hi Bool.false_ne_true.symm
  | porstRelease a b => exact absurd hi Bool.false_ne_true.symm
  | blockResetComplete a b => exact absurd hi Bool.false_ne_true.symm
  | _ => first | exact absurd rfl hn | exact absurd rfl hw

/-- Without a reset SAFE is not left (R325). -/
theorem exec_safe {s t : State} (h : s.md.mode = .safe) {i : Instr} (hi : resets i = false) (he : exec i s = .next t) : t.md.mode = .safe := by
  obtain ⟨x, hx, hside⟩ := exec_safeSide h hi
  rw [hx] at he
  exact Host.Outcome.next.inj he ▸ safe_of_safeSide h hside

end Sys2Proof.Machine
end

section
/-! PROOF. Every command and every clock edge: the queue, memory, the lanes, what SAFE leaves empty and what sleep holds
(R46, R235, R239, R245, R268, R324, R325). -/

namespace Sys2Proof.Machine

/-- The commands that reset Ivsyn, set its time, enter SAFE or sleep, or may power it up. -/
def turnsOver (i : Instr) : Bool :=
  match i with
  | .timeAccept _ | .pwrAck _ | .porstFall | .porstRelease .. | .blockResetComplete .. | .safeEntry .. | .entryCommit | .wakePin => true
  | _ => false

/-- Every other command keeps what `Keeps` lists. -/
theorem exec_keeps (s : State) {i : Instr} (hn : turnsOver i = false) : ∃ t, exec i s = .next t ∧ Keeps noGain s t := by
  cases i with
  | regWrite port addr wdata => exact execRegWrite_keeps port addr wdata s
  | accessGuardTimeout port => exact execAccessGuardTimeout_keeps port s
  | memoryWriteBeat lane beat => exact execMemoryWriteBeat_keeps lane beat s
  | assertIntx lane beat => exact execAssertIntx_keeps lane beat s
  | deassertIntx lane beat => exact execDeassertIntx_keeps lane beat s
  | rouse lane beat => exact execRouse_keeps lane beat s
  | wakeBeat lane => exact execWakeBeat_keeps lane s
  | vteReadReturn tag data => exact execVteReadReturn_keeps tag data s
  | apertureReadError tag => exact execApertureReadError_keeps tag s
  | apertureReadTimeout tag => exact execApertureReadTimeout_keeps tag s
  | apertureWriteAck tag copy => exact execApertureWriteAck_keeps tag copy s
  | apertureWriteError tag copy => exact execApertureWriteError_keeps tag copy s
  | egressAccept tag => exact execEgressAccept_keeps tag s
  | egressReject tag => exact execEgressReject_keeps tag s
  | levelLineChange n high => exact execLevelLineChange_keeps n high s
  | sampledEdge n => exact execSampledEdge_keeps n s
  | countedStep m gray => exact execCountedStep_keeps m gray s
  | cdcRetry code line => exact execCdcRetry_keeps code line s
  | cdcDeferred code line => exact execCdcDeferred_keeps code line s
  | timeValidLoss => exact execTimeValidLoss_keeps s
  | throttleChange level => exact execThrottleChange_keeps level s
  | vddOkFall => exact execVddOkFall_keeps s
  | linkUp host tenant => exact execLinkUp_keeps host tenant s
  | linkDown host tenant => exact execLinkDown_keeps host tenant s
  | lowPower host tenant => exact execLowPower_keeps host tenant s
  | hostReset host tenant => exact execHostReset_keeps host tenant s
  | quarAck => exact execQuarAck_keeps s
  | wiredLevelWake n => exact execWiredLevelWake_keeps n s
  | aoWakeComparator => exact execAoWakeComparator_keeps s
  | ping frame => exact execPing_keeps frame s
  | sbWake frame => exact execSbWake_keeps frame s
  | readPoll frame n => exact execReadPoll_keeps frame n s
  | readAo frame index => exact execReadAo_keeps frame index s
  | sbReset frame key => exact execSbReset_keeps frame key s
  | badCmd frame cmd => exact execBadCmd_keeps frame cmd s
  | sbFrameTimeout => exact execSbFrameTimeout_keeps s
  | resetCmd port wdata => exact execResetCmd_keeps port wdata s
  | modeReqWrite form wdata => exact execModeReqWrite_keeps form wdata s
  | engineEnSet => exact execEngineEnSet_keeps s
  | engineEnClear => exact execEngineEnClear_keeps s
  | ingressEnClear => exact execIngressEnClear_keeps s
  | ingressEnSet => exact execIngressEnSet_keeps s
  | deliverEnClear => exact execDeliverEnClear_keeps s
  | deliverEnSet => exact execDeliverEnSet_keeps s
  | freezeSet => exact execFreezeSet_keeps s
  | freezeClear => exact execFreezeClear_keeps s
  | lockSet bits => exact execLockSet_keeps bits s
  | load => exact execLoad_keeps s
  | reform tenant => exact execReform_keeps tenant s
  | abandon => exact execAbandon_keeps s
  | warmForm => exact execWarmForm_keeps s
  | fetchComplete image => exact execFetchComplete_keeps image s
  | approvalTimeout => exact execApprovalTimeout_keeps s
  | validateComplete => exact execValidateComplete_keeps s
  | reformDrainComplete => exact execReformDrainComplete_keeps s
  | reformAcceptTimeout target => exact execReformAcceptTimeout_keeps target s
  | formCommit stored => exact execFormCommit_keeps stored s
  | acquire port u lease => exact execAcquire_keeps port u lease s
  | read port u => exact execRead_keeps port u s
  | stage port u => exact execStage_keeps port u s
  | apply port u => exact execApply_keeps port u s
  | release port u => exact execRelease_keeps port u s
  | fence port u => exact execFence_keeps port u s
  | leaseExpiry timer => exact execLeaseExpiry_keeps timer s
  | propose p => exact execPropose_keeps p s
  | withdraw p => exact execWithdraw_keeps p s
  | veto p idLo => exact execVeto_keeps p idLo s
  | approve p idHi => exact execApprove_keeps p idHi s
  | dcStageWrite p form n wdata => exact execDcStageWrite_keeps p form n wdata s
  | dcWindowExpiry p => exact execDcWindowExpiry_keeps p s
  | injectPlaneAMismatch key => exact execInjectPlaneAMismatch_keeps key s
  | injectFenceA key => exact execInjectFenceA_keeps key s
  | injectFenceB key => exact execInjectFenceB_keeps key s
  | injectEccSingle key => exact execInjectEccSingle_keeps key s
  | injectEccDouble key => exact execInjectEccDouble_keeps key s
  | injectCdcDisagree key => exact execInjectCdcDisagree_keeps key s
  | injectApertureReadError key => exact execInjectApertureReadError_keeps key s
  | injectHeartbeatStop key => exact execInjectHeartbeatStop_keeps key s
  | injectCollectorParity key => exact execInjectCollectorParity_keeps key s
  | resync => exact execResync_keeps s
  | resyncComplete => exact execResyncComplete_keeps s
  | jnlHeadWrite form wdata => exact execJnlHeadWrite_keeps form wdata s
  | seqClear port reg wdata => exact execSeqClear_keeps port reg wdata s
  | timeLoRead access => exact execTimeLoRead_keeps access s
  | sleepElapsedLoRead port => exact execSleepElapsedLoRead_keeps port s
  | amaskLoRead port target => exact execAmaskLoRead_keeps port target s
  | tEoi port target wdata => exact execTEoi_keeps port target wdata s
  | tHead port target wdata => exact execTHead_keeps port target wdata s
  | tRearm port target wdata => exact execTRearm_keeps port target wdata s
  | tHint port target wdata => exact execTHint_keeps port target wdata s
  | tCprio port target wdata => exact execTCprio_keeps port target wdata s
  | rankingRound h check => exact execRankingRound_keeps h check s
  | selfTest aPass bPass thirdAgrees => exact execSelfTest_keeps aPass bPass thirdAgrees s
  | arbiterRound => exact execArbiterRound_keeps s
  | holdoffWindowEnd g => exact execHoldoffWindowEnd_keeps g s
  | deadlineArrival h => exact execDeadlineArrival_keeps h s
  | couchTimeLimit g => exact execCouchTimeLimit_keeps g s
  | sweep => exact execSweep_keeps s
  | batchTimeout target => exact execBatchTimeout_keeps target s
  | watchdogExpiry target => exact execWatchdogExpiry_keeps target s
  | creditRefill => exact execCreditRefill_keeps s
  | strangerWindowEnd => exact execStrangerWindowEnd_keeps s
  | journalBucketRefill => exact execJournalBucketRefill_keeps s
  | hwFieldWriteback => exact execHwFieldWriteback_keeps s
  | aliveToggle => exact execAliveToggle_keeps s
  | heartbeat => exact execHeartbeat_keeps s
  | wedged => exact execWedged_keeps s
  | pollRefresh => exact execPollRefresh_keeps s
  | clkFabLoss => exact execClkFabLoss_keeps s
  | clkRegLoss => exact execClkRegLoss_keeps s
  | aoClockStop => exact execAoClockStop_keeps s
  | refresh hot array row copied ecc => exact execRefresh_keeps hot array row copied ecc s
  | lastGasp => exact execLastGasp_keeps s
  | idleEntry => exact execIdleEntry_keeps s
  | entryAttempt => exact execEntryAttempt_keeps s
  | entryRetry => exact execEntryRetry_keeps s
  | entryDrainComplete => exact execEntryDrainComplete_keeps s
  | entryDeliveryTimeout => exact execEntryDeliveryTimeout_keeps s
  | sbFrameAbandonBothRails => exact execSbFrameAbandonBothRails_keeps s
  | aoEdgeSeenAgain => exact execAoEdgeSeenAgain_keeps s
  | _ => exact absurd hn.symm Bool.false_ne_true

/-! ### What is carried over -/

/-- What a step carries over from a state that has it: the queue, canonical memory, whole lanes, what SAFE leaves empty, and the local time that
sleep holds. -/
structure Carries (s t : State) : Prop where
  pending : t.pending = s.pending
  memory : MemoryCanonical s → MemoryCanonical t
  credits : CreditsWhole s → CreditsWhole t
  cleared : SafeCleared s → SafeCleared t
  held : SleepHeld s → SleepHeld t

theorem Carries.trans {s t u : State} (h : Carries s t) (k : Carries t u) : Carries s u where
  pending := k.pending.trans h.pending
  memory := k.memory ∘ h.memory
  credits := k.credits ∘ h.credits
  cleared := k.cleared ∘ h.cleared
  held := k.held ∘ h.held

theorem laneSum_of_keeps {s t : State} (k : Keeps noGain s t) (l : Fin 4) : laneSum t l = laneSum s l := by
  have h := k.lanes l
  simp only [noGain, Int.add_zero] at h
  exact_mod_cast h

theorem sleepHeld_of_keeps {s t : State} (k : Keeps noGain s t) (h : SleepHeld s) : SleepHeld t := fun hs => by
  rw [k.now, k.entry]
  exact h (k.asleep hs)

/-- What keeps its fields, and in SAFE leaves what SAFE empties, carries all of it over. -/
theorem Carries.of_keeps {s t : State} (k : Keeps noGain s t) (hs : s.md.mode = .safe → safeSide t = safeSide s) : Carries s t where
  pending := k.pending
  memory := k.lmem
  credits h m l := (laneSum_of_keeps k l).trans (h (mt (fun e => safe_of_safeSide e (hs e)) m) l)
  cleared h m := by
    have hside := hs (k.safe m)
    simp only [safeSide, Prod.mk.injEq] at hside
    obtain ⟨hmd, hvat, hvs, hM, hS⟩ := hside
    rw [hmd, hvat, hvs, hM, hS]
    exact h (k.safe m)
  held := sleepHeld_of_keeps k

theorem Carries.of_keeps_outside {s t : State} (k : Keeps noGain s t) (hs : s.md.mode ≠ .safe) : Carries s t :=
  .of_keeps k fun h => absurd h hs

/-- A state with fresh lanes and memory, awake or off, carries all of it over. -/
theorem Carries.fresh {s t : State} (hp : t.pending = s.pending) (hm : t.md.mode = .unformed ∨ t.md.mode = .off) (hv : t.vat = State.vatReset)
    (hl : t.ts.lmem = State.reset.ts.lmem) : Carries s t where
  pending := hp
  memory _ := by
    rw [MemoryCanonical, hl]
    rfl
  credits _ _ l := by
    rw [laneSum, hv]
    revert l
    decide
  cleared _ m := by rcases hm with hm | hm <;> rw [hm] at m <;> exact absurd m (by decide)
  held _ m := by
    rw [sleeping] at m
    rcases hm with hm | hm <;> rw [hm] at m <;> exact absurd m (by decide)

/-- A state in SAFE with nothing left carries all of it over. -/
theorem Carries.safe {s t : State} (hp : t.pending = s.pending) (hm : t.md.mode = .safe) (hl : MemoryCanonical s → MemoryCanonical t)
    (hc : t.md.engineEn = false ∧ t.vat.slots = [] ∧ t.vs.vecs = [] ∧ t.dcM.st = .empty ∧ t.dcS.st = .empty) : Carries s t where
  pending := hp
  memory := hl
  credits _ m := absurd hm m
  cleared _ _ := hc
  held _ m := by
    rw [sleeping, hm] at m
    exact absurd m (by decide)

/-- A change of local time while Ivsyn does not sleep, and of what `Keeps` does not see. -/
theorem Carries.awake_time {s t : State} (hp : t.pending = s.pending) (hmd : t.md = s.md) (hvat : t.vat = s.vat) (hvs : t.vs = s.vs)
    (hM : t.dcM = s.dcM) (hS : t.dcS = s.dcS) (hts : t.ts.lmem = s.ts.lmem) (hn : sleeping s = false) : Carries s t where
  pending := hp
  memory h := by rw [MemoryCanonical, hts]; exact h
  credits h := by
    unfold CreditsWhole laneSum
    rw [hmd, hvat]
    exact h
  cleared h := by
    unfold SafeCleared
    rw [hmd, hvat, hvs, hM, hS]
    exact h
  held _ m := by
    rw [sleeping, hmd, ← sleeping, hn] at m
    exact absurd m Bool.false_ne_true

/-! ### Resets -/

theorem porst_carries (s : State) : Carries s (porst s) := .fresh rfl (.inl rfl) rfl rfl

theorem porstFall_carries (s : State) : Carries s (porstFall s) := .fresh rfl (.inl rfl) rfl rfl

theorem porstRelease_carries (s : State) (a b : Bool) : Carries s (porstRelease s a b) :=
  (porst_carries s).trans (.of_keeps_outside (planeTest_keeps _ _ (wakeThrottle_keeps (.refl (porst s)))) (show Mode.unformed ≠ .safe by decide))

/-- What a block reset leaves before the planes' self-test. -/
theorem resetCore_carries {s u : State} (tm : TimeUnit) (hp : s.pending = u.pending) : Carries u { resetCore s tm with md := State.mdReset } :=
  .fresh hp (.inl rfl) rfl rfl

theorem lastGaspSlot_pending (s : State) : (lastGaspSlot s).pending = s.pending := by
  unfold lastGaspSlot
  split <;> rfl

/-! ### The entry into SAFE -/

/-- What stands in the block before SAFE discards it. -/
def beforeDiscard (s : State) (completes : Bool) : State := heldDone (openEnd (lastGaspWrite s) completes)

theorem beforeDiscard_keeps {s t : State} (completes : Bool) (h : Keeps noGain s t) : Keeps noGain s (beforeDiscard t completes) :=
  heldDone_keeps (openEnd_keeps _ (lastGaspWrite_keeps h))

/-- A fatal fault enters SAFE, and what stood before is discarded (R324). -/
theorem safeEnter_of_fatal {s : State} {f : Fatal} (hf : s.flt.fatal = some f) (completes : Bool) : ∃ r,
    safeEnter s completes = { setMode (safeDiscard (beforeDiscard s completes)) .safe with
      ao := { (beforeDiscard s completes).ao with aliveRun := false, lgDue := some r } } := by
  simp only [safeEnter, hf]
  exact ⟨_, rfl⟩

theorem safeEnter_of_none {s : State} (hf : s.flt.fatal = none) (completes : Bool) : safeEnter s completes = s := by
  simp only [safeEnter, hf]

theorem safeEnter_carries {s t : State} (h : Keeps noGain s t) (hs : s.md.mode ≠ .safe) (completes : Bool) :
    Carries s (safeEnter t completes) := by
  cases hf : t.flt.fatal with
  | none =>
    rw [safeEnter_of_none hf]
    exact .of_keeps_outside h hs
  | some f =>
    obtain ⟨r, hr⟩ := safeEnter_of_fatal hf completes
    have hk := beforeDiscard_keeps completes h
    rw [hr]
    exact .safe hk.pending rfl hk.lmem ⟨rfl, rfl, rfl, rfl, rfl⟩

theorem execSafeEntry_carries (s : State) (parity completes : Bool) : ∃ t, execSafeEntry parity completes s = .next t ∧ Carries s t := by
  refine ⟨_, rfl, ?_⟩
  unfold whenLive
  split
  next hl =>
    have hs : s.md.mode ≠ .safe := fun e => absurd (live_of_safe e) (by simp [hl])
    cases parity with
    | true => exact safeEnter_carries (collectorFault_keeps false (.refl s)) hs completes
    | false => exact safeEnter_carries (.refl s) hs completes
  next => exact .of_keeps (.refl s) fun _ => rfl

/-! ### A block reset -/

theorem resetOwed_pending (s : State) : (resetOwed s).pending = s.pending := by
  rw [resetOwed, lastGaspSlot_pending]
  split
  next h =>
    cases hf : s.flt.fatal with
    | none => rw [safeEnter_of_none hf]
    | some f =>
      obtain ⟨r, hr⟩ := safeEnter_of_fatal hf false
      rw [hr]
      exact (beforeDiscard_keeps false (.refl s)).pending
  next => rfl

theorem blockReset_carries (s : State) (a b : Bool) : Carries s (blockReset s a b) :=
  (resetCore_carries (resetTime s) (resetOwed_pending s)).trans
    (.of_keeps_outside (planeTest_keeps _ _ (wakeThrottle_keeps (.refl _))) (show Mode.unformed ≠ .safe by decide))

/-! ### The commit of an entry -/

theorem entryPass_keeps {s t : State} (e : Entry) (h : Keeps noGain s t) : Keeps noGain s (entryPass t e) := by
  unfold entryPass
  exact entryGo_keeps (jnlSleep_keeps _ _ (entryTo_keeps _ (.upd rfl rfl rfl rfl rfl rfl rfl rfl h)))

/-- The commit captures the pair: Ivsyn sleeps, and local time is the one saved (R245, R283). -/
theorem entryCapture_carries {s t : State} (h : Carries s t) (hs : t.md.mode ≠ .safe) (e : Entry) : Carries s (entryCapture t e) := by
  have hw : Keeps noGain t (if decide (e.target = .off) then writeback t else t) :=
    ite_keeps ((Keeps.refl t).inner (writeback_inner (.refl t))) (.refl t)
  refine h.trans ?_
  unfold entryCapture
  generalize (if decide (e.target = .off) then writeback t else t) = u at hw
  exact { pending := hw.pending, memory := hw.lmem, credits := fun c _ l => (laneSum_of_keeps hw l).trans (c hs l),
          cleared := fun _ m => absurd (show Mode.rest = .safe from m) (by decide), held := fun _ _ => rfl }

theorem entryCommit_carries {s : State} (hs : s.md.mode ≠ .safe) (e : Entry) : Carries s (entryCommit s e) := by
  have hr := lastRounds_keeps (Keeps.refl s)
  have hrs : (lastRounds s).md.mode ≠ .safe := fun m => hs (hr.safe m)
  have hc := Carries.of_keeps_outside hr hs
  unfold entryCommit
  dsimp only
  split
  · exact .of_keeps_outside (entryPass_keeps e (.refl s)) hs
  · split
    · exact hc
    · split
      · exact hc.trans (.of_keeps_outside (refuse_keeps _ _ _ (.refl _)) hrs)
      · split
        · exact hc.trans (.of_keeps_outside (refuse_keeps _ _ _ (.refl _)) hrs)
        · exact (entryCapture_carries hc hrs e).trans (.of_keeps_outside (entryPass_keeps e (.refl _)) (show Mode.rest ≠ .safe by decide))

theorem execEntryCommit_carries (s : State) : ∃ t, execEntryCommit s = .next t ∧ Carries s t := by
  refine ⟨_, rfl, ?_⟩
  have hself : Carries s s := .of_keeps (.refl s) fun _ => rfl
  split
  next e _ =>
    split
    next h =>
      have hs : s.md.mode ≠ .safe := fun m => by simp [live_of_safe m] at h
      split
      · exact .of_keeps_outside (refuse_keeps _ _ _ (.refl s)) hs
      · exact entryCommit_carries hs e
    next => exact hself
  next => exact hself

/-! ### The wake -/

/-- The wake up to local time: the retention set restored, and the wake's fields of the power unit (R292 steps 1 to 4). -/
def wakeTimed (s : State) (cause : BitVec 4) (iv : Option DWord) : State :=
  let s0 := wakeRestore s
  { wakeTime s0 iv with pw := { s0.pw with saveValid := false, wakeReq := none, comparator := none, vddFell := false, entry := none,
                                           ackWait := false, woke := true, due := false, retryAt := none, wakeCause := cause,
                                           wakes := s.pw.wakes + 1, copies := [] } }

/-- The wake up to the change of mode: queued writes, expiries and ticks (R246, R292 step 5). -/
def wakeCaught (s : State) (iv : Option DWord) : State :=
  ticksAct (wakeGroups (duesAct (wakeQueues (wakeThrottle (wakeTimeAgree (wakeTimeReport s iv) iv)))).1)

/-- Ivsyn serves or drains again (R292 step 6). -/
def wakeServing (s : State) : State := setMode s (if drainHeld s then .draining else .serving)

/-- A wake's record: the state slept in, the cause, the elapsed time, and how many queued writes and expiries it applied (R292). -/
def wakeRec (s t : State) (cause : BitVec 4) (n m : Nat) : Rec :=
  mkRec 0x03 (at_ 24 4 s.md.mode.code ||| at_ 24 0 cause) 0 (now t) [(4, fld t.tm.elapsed 0 32), (5, fld t.tm.elapsed 32 32), (6, w32 n), (7, w32 m)]

/-- IV_PWR_STATE shows Run (R292). -/
def showRun (s : State) : State := { s with pw := { s.pw with pwrState := 4 } }

/-- What follows the change of mode: the merges, the reports, the record, and what sleep held (R246, R292). -/
def wakeReported (t : State) : State := reportFaults (reportIgnored (showRun (wakeMerge t)))

/-- The wake with its throttle level and its report of local time. -/
def wakeThrottled (s : State) (iv : Option DWord) : State := wakeThrottle (wakeTimeAgree (wakeTimeReport s iv) iv)

theorem wakeRun_eq (s : State) (cause : BitVec 4) (iv : Option DWord) : wakeRun s cause iv =
    let u := wakeThrottled (wakeTimed s cause iv) iv
    let t := wakeReported (wakeServing (wakeCaught (wakeTimed s cause iv) iv))
    releaseAll (wakeHeld (jnlPut t .journal
      (wakeRec s t cause (u.pw.eoiQ.length + u.pw.hintQ.length) (duesAct (wakeQueues u)).2))) := by
  unfold wakeRun
  extract_lets slept s0 _ _ s1 s2 n x s4 s5 _ s6 s7 u t
  have h4 : s4 = wakeCaught (wakeTimed s cause iv) iv := rfl
  have h2 : s2 = u := rfl
  have ht : t = wakeReported (wakeServing (wakeCaught (wakeTimed s cause iv) iv)) := rfl
  have h7 : s7 = jnlPut s6 .journal (wakeRec s s6 cause (s2.pw.eoiQ.length + s2.pw.hintQ.length) (duesAct (wakeQueues s2)).2) := rfl
  clear_value t s7 s4
  have h5 : s5 = wakeMerge (wakeServing s4) := rfl
  clear_value s5
  have h6 : s6 = reportFaults (reportIgnored (showRun s5)) := rfl
  rw [h7, h6, ht, h5, h4, h2]
  rfl

theorem wakeCaught_keeps {s t : State} (iv : Option DWord) (h : Keeps noGain s t) : Keeps noGain s (wakeCaught t iv) :=
  ticksAct_keeps (wakeGroups_keeps (duesAct_keeps (wakeQueues_keeps (wakeThrottle_keeps (wakeTimeAgree_keeps iv (wakeTimeReport_keeps iv h))))))

theorem wakeServing_keeps {s t : State} (h : Keeps noGain s t) : Keeps noGain s (wakeServing t) := h.setMode wakeful_ite

theorem wakeReported_keeps {s t : State} (h : Keeps noGain s t) : Keeps noGain s (wakeReported t) :=
  reportFaults_keeps (reportIgnored_keeps (.upd rfl rfl rfl rfl rfl rfl rfl rfl (wakeMerge_keeps h)))

/-- From the change of mode on a wake keeps what `Keeps` lists. -/
theorem wakeRun_keeps {s u : State} {cause : BitVec 4} {iv : Option DWord} (h : Keeps noGain u (wakeServing (wakeCaught (wakeTimed s cause iv) iv))) :
    Keeps noGain u (wakeRun s cause iv) := by
  rw [wakeRun_eq]
  exact releaseAll_keeps (wakeHeld_keeps ((wakeReported_keeps h).inner (jnlPut_inner _ _ (.refl _))))

theorem wakeRestore_rest (s : State) : (wakeRestore s).pending = s.pending ∧ (wakeRestore s).md.mode = s.md.mode ∧ (wakeRestore s).vat = s.vat
    ∧ (wakeRestore s).ts = s.ts ∧ (wakeRestore s).tm.now = s.tm.now ∧ (wakeRestore s).tm.tEntry = s.tm.tEntry
    ∧ estimateTime (wakeRestore s) = estimateTime s := by
  unfold wakeRestore
  split <;> exact ⟨rfl, rfl, rfl, rfl, rfl, rfl, rfl⟩

theorem wakeServing_wakeful (s : State) : wakeful (wakeServing s).md.mode := wakeful_ite

/-- After a wake Ivsyn serves or drains: it is neither asleep nor in SAFE. -/
theorem wakeRun_awake (s : State) (cause : BitVec 4) (iv : Option DWord) :
    sleeping (wakeRun s cause iv) = false ∧ (wakeRun s cause iv).md.mode ≠ .safe := by
  have hk := wakeRun_keeps (.refl (wakeServing (wakeCaught (wakeTimed s cause iv) iv)))
  have hm := wakeServing_wakeful (wakeCaught (wakeTimed s cause iv) iv)
  generalize wakeServing (wakeCaught (wakeTimed s cause iv) iv) = u at hk hm
  obtain ⟨hsafe, hrest, hdor⟩ := hm
  refine ⟨?_, fun e => hsafe (hk.safe e)⟩
  cases hs : sleeping (wakeRun s cause iv) with
  | false => rfl
  | true =>
    have := hk.asleep hs
    simp only [sleeping, hrest, hdor, decide_false, Bool.or_self] at this
    exact this.symm

theorem wakeRun_carries {s : State} (hs : s.md.mode ≠ .safe) (cause : BitVec 4) (iv : Option DWord) : Carries s (wakeRun s cause iv) := by
  have hk := wakeRun_keeps (wakeServing_keeps (wakeCaught_keeps iv (.refl (wakeTimed s cause iv))))
  obtain ⟨hp, -, hvat, hts, -⟩ := wakeRestore_rest s
  obtain ⟨hawake, hsafe⟩ := wakeRun_awake s cause iv
  refine ⟨hk.pending.trans hp, fun h => hk.lmem ?_, fun h _ l => ?_, fun _ m => absurd m hsafe, fun _ m => absurd m (by simp [hawake])⟩
  · show Memory.wf (wakeRestore s).ts.lmem = true
    rw [hts]
    exact h
  · rw [laneSum_of_keeps hk l, ← h hs l]
    show laneSum (wakeRestore s) l = laneSum s l
    rw [laneSum, laneSum, hvat]

/-- A wake that finds retention lost comes up like after a reset (R326). -/
theorem wakeLost_carries (s : State) (cause : BitVec 4) (iv : Option DWord) : Carries s (wakeLost s cause iv) := by
  unfold wakeLost
  extract_lets first _ s1 r s2
  have hfresh : Carries s { s2 with
      md := { s2.md with mode := .unformed, prev := s.md.mode, seq := s.md.seq + 1 },
      pw := { s2.pw with req := s.pw.req, retLost := true, wakes := s.pw.wakes + 1, wakeCause := cause, saveValid := false },
      flt := { s2.flt with first := first }, ao := { s2.ao with lgDue := some r } } := .fresh rfl (.inl rfl) rfl rfl
  exact hfresh.trans (.of_keeps_outside (wakeThrottle_keeps (.refl _)) (show Mode.unformed ≠ .safe by decide))

/-! ### The acknowledge of the power controller -/

theorem offState_carries (s : State) : Carries s (offState s) := .fresh rfl (.inr rfl) rfl rfl

theorem offReached_carries (s : State) : Carries s (offReached s) := by
  unfold offReached
  split
  · exact (offState_carries s).trans (porstFall_carries _)
  · exact offState_carries s

/-- A change of the power unit alone carries everything over. -/
theorem Carries.power (s : State) (p : PowerUnit) : Carries s { s with pw := p } where
  pending := rfl
  memory := id
  credits := id
  cleared := id
  held := id

/-- Ivsyn goes from REST to DORMANT (R287). -/
theorem setDormant_carries {s : State} (h : sleeping s = true) : Carries s (setMode s .dormant) where
  pending := rfl
  memory := id
  credits c _ l := c (fun e => by rw [sleeping_of_safe e] at h; exact absurd h Bool.false_ne_true) l
  cleared _ m := absurd (show Mode.dormant = .safe from m) (by decide)
  held k _ := k h

theorem entryAck_carries (s : State) (e : Entry) : Carries s (entryAck s e) := by
  unfold entryAck
  split
  · dsimp only
    split
    · exact .power s _
    · split
      · exact .power s _
      · exact .power s _
  · extract_lets _ s0 s1
    have h : Carries s s1 := by
      by_cases hs : sleeping s0 = true
      · rw [show s1 = setMode s0 .dormant from if_pos hs]
        exact (Carries.power s _).trans (setDormant_carries hs)
      · rw [show s1 = s0 from if_neg hs]
        exact .power s _
    clear_value s1
    split
    · exact h.trans (.power _ _)
    · split
      · exact h.trans (.power _ _)
      · exact h.trans (.power _ _)
  · exact offReached_carries s
  · exact .power s s.pw

theorem execPwrAck_carries (s : State) (iv : Option DWord) : ∃ t, execPwrAck iv s = .next t ∧ Carries s t := by
  refine ⟨_, rfl, ?_⟩
  have hself : Carries s s := .power s s.pw
  split
  · exact hself
  · split
    · unfold resetAck
      split
      · exact .power s _
      · exact .power s _
    · split
      · exact .power s _
      next hsafe =>
        split
        next e _ => exact entryAck_carries s e
        next =>
          split
          next c _ =>
            split
            · unfold wakeDone
              split
              · exact wakeLost_carries ..
              · exact wakeRun_carries hsafe ..
            · exact .power s _
          next => exact .power s _

/-! ### Every command, every edge, every step -/

theorem timeTake_carries {s : State} (h : timeRuns s = true) (v : Nat) : Carries s (timeTake s v) := by
  have hn : sleeping s = false := by
    simp only [timeRuns, Bool.and_eq_true, Bool.not_eq_true'] at h
    exact h.2
  rw [timeTake_eq]
  exact .awake_time rfl rfl rfl rfl rfl rfl rfl hn

theorem execWakePin_carries (s : State) : ∃ t, execWakePin s = .next t ∧ Carries s t := by
  by_cases hm : s.md.mode = .off
  · refine ⟨_, rfl, ?_⟩
    rw [if_pos hm]
    split
    · exact .power s s.pw
    · exact porstFall_carries s
  · obtain ⟨t, ht, hk⟩ := execWakePin_keeps s hm
    by_cases hs : s.md.mode = .safe
    · rw [execWakePin_safeSide hs] at ht
      exact ⟨s, execWakePin_safeSide hs, .power s s.pw⟩
    · exact ⟨t, ht, .of_keeps_outside hk hs⟩

theorem exec_carries (i : Instr) (s : State) : ∃ t, exec i s = .next t ∧ Carries s t := by
  by_cases hn : turnsOver i = true
  · have hself : Carries s s := .power s s.pw
    cases i with
    | timeAccept v =>
      refine ⟨_, rfl, ?_⟩
      split
      next h => exact timeTake_carries h _
      next => exact hself
    | pwrAck iv => exact execPwrAck_carries s iv
    | porstFall => exact ⟨_, rfl, porstFall_carries s⟩
    | porstRelease a b =>
      refine ⟨_, rfl, ?_⟩
      split
      · exact porstRelease_carries s a b
      · exact hself
    | blockResetComplete a b =>
      refine ⟨_, rfl, ?_⟩
      split
      · exact blockReset_carries s a b
      · exact hself
    | safeEntry p c => exact execSafeEntry_carries s p c
    | entryCommit => exact execEntryCommit_carries s
    | wakePin => exact execWakePin_carries s
    | _ => exact absurd hn Bool.false_ne_true
  · have hr : resets i = false := by
      cases i with
      | porstFall => exact absurd rfl hn
      | porstRelease a b => exact absurd rfl hn
      | blockResetComplete a b => exact absurd rfl hn
      | _ => rfl
    obtain ⟨t, ht, hk⟩ := exec_keeps s (Bool.not_eq_true _ ▸ hn)
    refine ⟨t, ht, .of_keeps hk fun hs => ?_⟩
    obtain ⟨x, hx, hside⟩ := exec_safeSide hs hr
    rw [ht] at hx
    exact Host.Outcome.next.inj hx ▸ hside

theorem aoClock_carries (s : State) : Carries s (aoClock s) := by
  have hself : Carries s s := .power s s.pw
  unfold aoClock
  split
  · exact hself
  next h =>
    simp only [Bool.or_eq_true, not_or, Bool.not_eq_true] at h
    have hedge : Carries s (aoEdge s) := by
      rw [aoEdge_eq h.1 h.2]
      have htick : Carries s (aoTicked s) := by
        rw [aoTicked_eq]
        exact ⟨rfl, id, id, id, id⟩
      refine htick.trans ?_
      unfold estimateTick
      split
      next hr =>
        simp only [Bool.and_eq_true, timeRuns, Bool.not_eq_true'] at hr
        exact .awake_time rfl rfl rfl rfl rfl rfl rfl hr.2.2
      next => exact .power _ _
    exact hedge.trans (.of_keeps (aoHeldAct_keeps (.refl _)) aoHeldAct_safeSide)

theorem fabCycle_carries (s : State) : Carries s (fabCycle s) := by
  unfold fabCycle
  split
  next h =>
    simp only [fabRuns, timeRuns, Bool.and_eq_true, Bool.not_eq_true'] at h
    have hn : sleeping s = false := h.1.1.2
    unfold interpolate
    split
    · exact .awake_time rfl rfl rfl rfl rfl rfl rfl hn
    · exact .awake_time rfl rfl rfl rfl rfl rfl rfl hn
  next => exact .power s s.pw

/-- Every step carries over memory, the lanes, what SAFE leaves empty and what sleep holds. -/
theorem step_carries {s t : State} (h : step s = .next t) :
    (MemoryCanonical s → MemoryCanonical t) ∧ (CreditsWhole s → CreditsWhole t) ∧ (SafeCleared s → SafeCleared t) ∧ (SleepHeld s → SleepHeld t) := by
  unfold step at h
  split at h
  · have ht : clockEdge s = t := Host.Outcome.next.inj h
    have hfree : Carries s { s with free := s.free + 1 } := ⟨rfl, id, id, id, id⟩
    have hc : Carries s t := by
      rw [← ht]
      unfold clockEdge
      dsimp only
      split
      · exact hfree.trans (aoClock_carries _)
      · exact hfree.trans (fabCycle_carries _)
    exact ⟨hc.memory, hc.credits, hc.cleared, hc.held⟩
  · next c q _ =>
    obtain ⟨x, hx, hc⟩ := exec_carries c (s.withPending q)
    rw [hx] at h
    exact Host.Outcome.next.inj h ▸ ⟨hc.memory, hc.credits, hc.cleared, hc.held⟩

end Sys2Proof.Machine

namespace Sys2Proof

open Sys2Proof.Machine

/-- Settles O3: every arm answers a next state, and none touches the queue. -/
theorem everyCommandCompletes : Obligations.EveryCommandCompletes := fun i s =>
  let ⟨t, ht, hc⟩ := exec_carries i s
  ⟨t, ht, hc.pending⟩

/-- Settles O6: the bytes that commands write keep memory canonical, and a reset's memory is empty. -/
theorem stepKeepsMemoryCanonical : Obligations.StepKeepsMemoryCanonical := fun _ _ h => (step_carries h).1

/-- Settles O7: outside SAFE no lane gains or loses, SAFE is left by a reset alone, and a reset issues every lane's credits. -/
theorem stepKeepsCreditsWhole : Obligations.StepKeepsCreditsWhole := fun _ _ h => (step_carries h).2.1

end Sys2Proof
end

section
/-! PROOF. Local time never decreases but for a power-on reset and OFF (R235, R238, R245). -/

namespace Sys2Proof.Machine

theorem now_of_keeps {d : Fin 4 → Int} {s t : State} (h : Keeps d s t) : now t = now s := h.now

/-- The time that a wake sets does not lie below the time at entry (R245). -/
theorem le_reconciled (s : State) (iv : Option DWord) : s.tm.tEntry ≤ reconciled s iv := by
  cases iv with
  | some v => exact Nat.le_max_right ..
  | none => exact Nat.le_add_right ..

theorem now_wakeRun (s : State) (cause : BitVec 4) (iv : Option DWord) : now (wakeRun s cause iv) = reconciled s iv := by
  have hk := wakeRun_keeps (wakeServing_keeps (wakeCaught_keeps iv (.refl (wakeTimed s cause iv))))
  obtain ⟨-, -, -, -, -, hentry, hest⟩ := wakeRestore_rest s
  rw [now_of_keeps hk]
  cases iv with
  | some v => exact congrArg (max v.toNat) hentry
  | none => exact hest

theorem now_wakeLost (s : State) (cause : BitVec 4) (iv : Option DWord) : now (wakeLost s cause iv) = reconciled s iv := by
  unfold wakeLost
  exact now_of_keeps (wakeThrottle_keeps (.refl _))

theorem now_safeEnter {s t : State} (h : Keeps noGain s t) (completes : Bool) : now (safeEnter t completes) = now s := by
  cases hf : t.flt.fatal with
  | none => rw [safeEnter_of_none hf, now_of_keeps h]
  | some f =>
    obtain ⟨r, hr⟩ := safeEnter_of_fatal hf completes
    rw [hr]
    exact (beforeDiscard_keeps completes h).now

theorem now_entryPass (s : State) (e : Entry) : now (entryPass s e) = now s := now_of_keeps (entryPass_keeps e (.refl s))

theorem now_entryCapture (s : State) (e : Entry) : now (entryCapture s e) = now s := by
  unfold entryCapture
  exact (ite_keeps (c := decide (e.target = .off) = true) ((Keeps.refl s).inner (writeback_inner (.refl s))) (.refl s)).now

theorem now_entryCommit (s : State) (e : Entry) : now (entryCommit s e) = now s := by
  have hr := now_of_keeps (lastRounds_keeps (Keeps.refl s))
  unfold entryCommit
  dsimp only
  split
  · exact now_entryPass s e
  · split
    · exact hr
    · split
      · exact (now_of_keeps (refuse_keeps _ _ _ (.refl _))).trans hr
      · split
        · exact (now_of_keeps (refuse_keeps _ _ _ (.refl _))).trans hr
        · exact (now_entryPass _ e).trans ((now_entryCapture _ e).trans hr)

/-- Local time runs on through a block reset (R238). -/
theorem now_blockReset (s : State) (a b : Bool) : now s ≤ now (blockReset s a b) := by
  have hk := planeTest_keeps a b (wakeThrottle_keeps (.refl { resetCore (resetOwed s) (resetTime s) with md := State.mdReset }))
  unfold blockReset
  rw [now_of_keeps hk]
  show s.tm.now ≤ if coreSlept s then max s.tm.now (estimateTime s) else s.tm.now
  split
  · exact Nat.le_max_left ..
  · exact Nat.le_refl _

/-- The acknowledge of a step of the entry leaves local time but where it powers Ivsyn off. -/
theorem now_entryAck {s : State} {e : Entry} (h : ¬(s.pw.wakeReq = some 1 ∧ e.step = .askedOff)) :
    (entryAck s e).md.mode = .off ∨ now (entryAck s e) = now s := by
  unfold entryAck
  split
  · dsimp only
    refine .inr ?_
    split
    · rfl
    · split <;> rfl
  · extract_lets _ s0 s1
    have h1 : now s1 = now s := by
      by_cases hs : sleeping s0 = true
      · rw [show s1 = setMode s0 .dormant from if_pos hs]; rfl
      · rw [show s1 = s0 from if_neg hs]; rfl
    clear_value s1
    refine .inr (Eq.trans ?_ h1)
    split
    · rfl
    · split <;> rfl
  next he =>
    rw [offReached, if_neg fun hw => h ⟨hw, he⟩]
    exact .inl rfl
  · exact .inr rfl

theorem now_execPwrAck {s : State} {iv : Option DWord} (h : powersUp (.pwrAck iv) s = false) (hs : SleepHeld s) :
    ∃ t, execPwrAck iv s = .next t ∧ (t.md.mode = .off ∨ now s ≤ now t) := by
  refine ⟨_, rfl, ?_⟩
  split
  · exact .inr (Nat.le_refl _)
  · split
    · unfold resetAck
      exact .inr (by split <;> exact Nat.le_refl _)
    · split
      · exact .inr (Nat.le_refl _)
      · split
        next e he =>
          have hoff : ¬(s.pw.wakeReq = some 1 ∧ e.step = .askedOff) := by simpa [powersUp, he] using h
          exact (now_entryAck hoff).imp_right fun k => Nat.le_of_eq (Eq.symm k)
        next =>
          split
          next c _ =>
            split
            next hsl =>
              have hle : now s ≤ reconciled s iv := (Nat.le_of_eq (hs hsl)).trans (le_reconciled s iv)
              unfold wakeDone
              split
              · exact .inr (hle.trans (Nat.le_of_eq (now_wakeLost s c iv).symm))
              · exact .inr (hle.trans (Nat.le_of_eq (now_wakeRun s c iv).symm))
            next => exact .inr (Nat.le_refl _)
          next => exact .inr (Nat.le_refl _)

end Sys2Proof.Machine

namespace Sys2Proof

open Sys2Proof.Machine

/-- Settles O10: most commands leave local time; an accepted value, a wake and a block reset take a maximum of it. -/
theorem localTimeNeverDecreases : Obligations.LocalTimeNeverDecreases := by
  intro i s t he hs hp
  by_cases hn : turnsOver i = true
  · have hself : now s ≤ now s := Nat.le_refl _
    cases i with
    | timeAccept v =>
      cases he
      refine .inr ?_
      split
      · rw [timeTake_eq]
        exact Nat.le_max_left ..
      · exact hself
    | pwrAck iv =>
      obtain ⟨x, hx, h⟩ := now_execPwrAck hp hs
      cases hx.symm.trans he
      exact h
    | porstFall => exact absurd hp.symm Bool.false_ne_true
    | porstRelease a b => exact absurd hp.symm Bool.false_ne_true
    | blockResetComplete a b =>
      cases he
      refine .inr ?_
      split
      · exact now_blockReset s a b
      · exact hself
    | safeEntry p c =>
      cases he
      refine .inr (Nat.le_of_eq ?_)
      unfold whenLive
      split
      · cases p with
        | true => exact (now_safeEnter (collectorFault_keeps false (.refl s)) c).symm
        | false => exact (now_safeEnter (.refl s) c).symm
      · rfl
    | entryCommit =>
      cases he
      refine .inr (Nat.le_of_eq ?_)
      split
      · split
        · split
          · exact (now_of_keeps (refuse_keeps _ _ _ (.refl s))).symm
          · exact (now_entryCommit ..).symm
        · rfl
      · rfl
    | wakePin =>
      obtain ⟨x, hx, hk⟩ := execWakePin_keeps s (by simpa [powersUp] using hp)
      cases hx.symm.trans he
      exact .inr (Nat.le_of_eq hk.now.symm)
    | _ => exact absurd hn Bool.false_ne_true
  · obtain ⟨x, hx, hk⟩ := exec_keeps s (Bool.not_eq_true _ ▸ hn)
    cases hx.symm.trans he
    exact .inr (Nat.le_of_eq hk.now.symm)

end Sys2Proof
end

section
/-! PROOF. Beats that are presented: what takes a slot, what is parked, resolved, noise or a stranger (R44 to R50, R122 to R127). -/

namespace Sys2Proof.Machine

/-- A beat has been taken: INGRESS counts it, and the switch holds one credit less of its lane. -/
def beatTaken (s : State) (lane : Fin 4) : State :=
  { s with cnt := { s.cnt with ingress := s.cnt.ingress + 1 },
           vat := { s.vat with credits := s.vat.credits.set lane (s.vat.credits[lane] - 1), taken := s.vat.taken + 1 } }

/-- The slot that a beat takes, in a state. -/
def beatSlot (s : State) (lane : Fin 4) (k : BeatKind) (b : Beat) (st : SlotSt) : Slot :=
  { no := s.vat.taken, lane := lane, kind := k, beat := b, stamp := now s, st := st }

/-- In a calm state a beat is taken at once: IV_IN_HOLD is 0 and activity only notes the instant (R45, R48). -/
theorem exec_beatCmd_of_calm {s : State} (hc : calm s = true) (k : BeatKind) (lane : Fin 4) (b : Beat) :
    exec (beatCmd k lane b) s = .next (takeBeat (noteBusy s) lane k b) := by
  have hp : exec (beatCmd k lane b) s = .next (present s lane k b) := by cases k <;> rfl
  have hact := activity_of_calm hc true
  simp only [calm, awake, Bool.and_eq_true, Bool.not_eq_true', decide_eq_true_eq, Option.isNone_iff_eq_none] at hc
  obtain ⟨⟨⟨⟨hl, hs⟩, hm⟩, he⟩, hd⟩ := hc
  have hporst : s.ao.porst = false := by
    simp only [live, Bool.and_eq_true, Bool.not_eq_true'] at hl
    exact hl.1.1.1
  have hh : inHold (noteBusy s) = false := by
    show (s.ao.porst || sleeping s || decide (s.md.mode = .idle) || s.pw.entry.isSome) = false
    simp [hporst, hs, hm, he]
  rw [hp, present, if_neg (by simp [hl]), if_neg (by simp [hs]), hact]
  exact congrArg Host.Outcome.next (if_neg (by simp [hh]))

/-! ### What taking a beat comes to -/

theorem takeBeat_noCredit {s : State} {lane : Fin 4} (h : s.vat.credits[lane] = 0) (k : BeatKind) (b : Beat) :
    takeBeat s lane k b = noise { s with cnt := { s.cnt with ingress := s.cnt.ingress + 1 } } b (now s) 11 none := by
  unfold takeBeat
  exact if_pos h

theorem takeBeat_rouse {s : State} {lane : Fin 4} (h : s.vat.credits[lane] ≠ 0) {b : Beat} (hp : b.poison = false) :
    takeBeat s lane .rouse b = creditBack (beatTaken s lane) lane := by
  have hr : (decide (BeatKind.rouse = .rouse) && !b.poison) = true := by simp [hp]
  unfold takeBeat
  refine (if_neg h).trans ?_
  dsimp only
  rw [if_pos hr, if_pos hr]
  rfl

/-- Every other beat goes by the structure-free checks, the re-form drain, parking and resolution, in this order. -/
theorem takeBeat_slot {s : State} {lane : Fin 4} (h : s.vat.credits[lane] ≠ 0) {k : BeatKind} {b : Beat}
    (hr : (decide (k = .rouse) && !b.poison) = false) :
    takeBeat s lane k b =
      let s2 := vatStage (beatTaken s lane)
      if freeReason k b ≠ 0 then creditBack (noise s2 b (now s) (freeReason k b) none) lane
      else if decide (drainTenant s2 = some b.tenant.toNat) && decide (1024 ≤ parkedOf s2 b.tenant) then
        creditBack (noise { s2 with fu := { s2.fu with discarded := s2.fu.discarded + 1 } } b (now s) 6 none) lane
      else if decide (s2.md.mode ≠ .serving) || decide (drainTenant s2 = some b.tenant.toNat) then
        vatPut { s2 with cnt := { s2.cnt with parked := s2.cnt.parked + 1 } } (beatSlot s lane k b .parked)
      else resolve s2 (beatSlot s lane k b .parked) := by
  have hr' : ¬ (decide (k = .rouse) && !b.poison) = true := by simp [hr]
  unfold takeBeat
  refine (if_neg h).trans ?_
  dsimp only
  rw [if_neg hr', if_neg hr']
  rfl

theorem vatStage_of_room {s : State} (h : s.vat.slots.length + 1 < 8192) : vatStage s = s := if_neg (by unfold vatMax; omega)

/-- PARK_OVF aside, staging changes nothing. -/
@[simp] theorem vatStage_offJournal (s : State) : offJournal (vatStage s) = offJournal s := by
  unfold vatStage
  split <;> rfl

/-- The credit that a beat took and returned stands as before. -/
theorem credits_set_back (v : Vector Nat 4) (lane : Fin 4) (h : v[lane] ≠ 0) :
    (v.set lane (v[lane] - 1)).set lane ((v.set lane (v[lane] - 1))[lane] + 1) = v := by
  ext i hi
  simp only [Vector.getElem_set]
  split
  next he => subst he; simp; simp at h; omega
  next => rfl

/-! ### Journal records -/

theorem Sc.has_raise_of_has {r : Sc} {f : Nat} (g : Nat) (h : r.has f = true) : (r.raise g).has f = true := by
  rw [Sc.has_raise r g (BitVec.lt_of_getLsbD h), h, Bool.true_or]

/-- The second state follows from the first by journal records alone: only requests were added, and flags of IV_STATUS set. -/
structure Logged (s t : State) : Prop where
  same : offJournal t = offJournal s
  flags : ∀ f, s.status.has f = true → t.status.has f = true
  reqs : s.ap.reqs <+: t.ap.reqs
  waiting : s.ap.waiting <+: t.ap.waiting

namespace Logged

theorem refl (s : State) : Logged s s := ⟨rfl, fun _ h => h, List.prefix_rfl, List.prefix_rfl⟩

theorem trans {s t u : State} (h : Logged s t) (k : Logged t u) : Logged s u :=
  ⟨k.same.trans h.same, fun f hf => k.flags f (h.flags f hf), h.reqs.trans k.reqs, h.waiting.trans k.waiting⟩

theorem raiseStatus (s : State) (f : Nat) : Logged s (Machine.raiseStatus s f) :=
  ⟨rfl, fun _ h => Sc.has_raise_of_has f h, List.prefix_rfl, List.prefix_rfl⟩

/-- The journal's own places. -/
theorem journal (s : State) (j : JnlUnit) : Logged s { s with jn := j } := ⟨rfl, fun _ h => h, List.prefix_rfl, List.prefix_rfl⟩

theorem apPut (s : State) (r : AperReq) : Logged s (Machine.apPut s r) := by
  unfold Machine.apPut
  split
  · exact ⟨rfl, fun _ h => h, List.prefix_append .., List.prefix_rfl⟩
  · exact ⟨rfl, fun _ h => h, List.prefix_rfl, List.prefix_append ..⟩

theorem apRequest (s : State) (p : Purpose) (write : Bool) (offset : Nat) (data : List Word) :
    Logged s (Machine.apRequest s p write offset data) := apPut ..

theorem fetchVte (s : State) (h : Nat) : Logged s (Machine.fetchVte s h) := by
  unfold Machine.fetchVte
  split
  · exact refl s
  · exact apRequest ..

theorem jnlPut (s : State) (p : Purpose) (r : Rec) : Logged s (Machine.jnlPut s p r) := by
  have hreq := apRequest s p true (s.jn.base.toNat * 4096 + 64 * s.jn.tail.toNat) r.toList
  unfold Machine.jnlPut
  dsimp only
  split
  · split
    · exact (hreq.trans (journal ..)).trans (raiseStatus ..)
    · exact hreq.trans (journal ..)
  · exact refl s

theorem jnlCopy (s : State) (r : Rec) : Logged s (Machine.jnlCopy s r) := by
  unfold Machine.jnlCopy
  dsimp only
  split
  · split
    · exact refl s
    · exact ((apRequest ..).trans (apRequest ..)).trans (journal ..)
  · exact refl s

theorem jnl (s : State) (code : Byte) (arg : BitVec 24) (t : Nat) (ws : List (Nat × Word)) : Logged s (Machine.jnl s code arg t ws) :=
  (jnlPut ..).trans (jnlCopy ..)

theorem jnlRatedW1 (s : State) (tenant : Nat) (code : Byte) (arg : BitVec 24) (w1 : Word) (t : Nat) (ws : List (Nat × Word)) :
    Logged s (Machine.jnlRatedW1 s tenant code arg w1 t ws) := by
  unfold Machine.jnlRatedW1
  dsimp only
  split
  · split
    · exact journal ..
    · exact ((journal ..).trans (jnlPut ..)).trans (jnlCopy ..)
  · exact refl s

theorem jnlRated (s : State) (tenant : Nat) (code : Byte) (arg : BitVec 24) (t : Nat) (ws : List (Nat × Word)) :
    Logged s (Machine.jnlRated s tenant code arg t ws) := jnlRatedW1 ..

section
variable {s t : State} (h : Logged s t)
include h

theorem withVat (v : VatUnit) : Logged { s with vat := v } { t with vat := v } :=
  ⟨congrArg (fun x : State => { x with vat := v }) h.same, h.flags, h.reqs, h.waiting⟩

theorem cnt : t.cnt = s.cnt := (congrArg State.cnt h.same :)
theorem vat : t.vat = s.vat := (congrArg State.vat h.same :)
theorem vs : t.vs = s.vs := (congrArg State.vs h.same :)
theorem ts : t.ts = s.ts := (congrArg State.ts h.same :)
theorem md : t.md = s.md := (congrArg State.md h.same :)
theorem ctl : t.ctl = s.ctl := (congrArg State.ctl h.same :)
theorem tm : t.tm = s.tm := (congrArg State.tm h.same :)
theorem fu : t.fu = s.fu := (congrArg State.fu h.same :)
theorem flt : t.flt = s.flt := (congrArg State.flt h.same :)
theorem pw : t.pw = s.pw := (congrArg State.pw h.same :)
theorem ao : t.ao = s.ao := (congrArg State.ao h.same :)
theorem ar : t.ar = s.ar := (congrArg State.ar h.same :)
theorem dcM : t.dcM = s.dcM := (congrArg State.dcM h.same :)
theorem dcS : t.dcS = s.dcS := (congrArg State.dcS h.same :)
theorem eaM : t.eaM = s.eaM := (congrArg State.eaM h.same :)
theorem eaT : t.eaT = s.eaT := (congrArg State.eaT h.same :)
theorem ws : t.ws = s.ws := (congrArg State.ws h.same :)
theorem vteOn (k : Nat) : Machine.vteOn t k = Machine.vteOn s k := by simp only [Machine.vteOn, h.vs]
theorem vecOf (k : Nat) : Machine.vecOf t k = Machine.vecOf s k := by simp only [Machine.vecOf, h.vs]
theorem tgtOf (k : Nat) : Machine.tgtOf t k = Machine.tgtOf s k := by simp only [Machine.tgtOf, h.ts, h.fu]

/-- What was asked of the aperture is still outstanding. -/
theorem apHas {p : Purpose} (hp : Machine.apHas s p = true) : Machine.apHas t p = true := by
  simp only [Machine.apHas, Bool.or_eq_true, List.any_eq_true] at hp ⊢
  rcases hp with ⟨x, hx, hy⟩ | ⟨x, hx, hy⟩
  · exact Or.inl ⟨x, h.reqs.subset hx, hy⟩
  · exact Or.inr ⟨x, h.waiting.subset hx, hy⟩

end

end Logged

theorem apHas_apRequest (s : State) (p : Purpose) (write : Bool) (offset : Nat) (data : List Word) : apHas (apRequest s p write offset data) p = true := by
  unfold apRequest apPut
  split <;> simp [apHas, apForm]

theorem apHas_fetchVte (s : State) (h : Nat) : apHas (fetchVte s h) (.vteRead h) = true := by
  unfold fetchVte
  split
  next hh => exact hh
  next => exact apHas_apRequest ..

/-! ### DROPPED -/

/-- DROPPED of an entry on chip advances, and its other fields stay. -/
theorem vteOn_addDropped {s : State} {h : Nat} {v : Vte} (hv : vteOn s h = some v) (n : Nat) :
    vteOn (addDropped s h n) h = some { v with dropped := v.dropped + w32 n } := by
  rw [addDropped, hv]
  exact vteOn_vtePut_same s h _

/-- Only the vector store changes. -/
theorem addDropped_frame (s : State) (h n : Nat) : addDropped s h n = { s with vs := (addDropped s h n).vs } := by
  unfold addDropped
  split <;> rfl

theorem addDropped_vs {s t : State} (e : s.vs = t.vs) (h n : Nat) : (addDropped s h n).vs = (addDropped t h n).vs := by
  have ho : vteOn s h = vteOn t h := by simp only [vteOn, e]
  unfold addDropped
  rw [ho]
  split <;> simp [owedPut, owedOf, vteHw, vtePut, e]

@[simp] theorem addDropped_vecs (s : State) (h n : Nat) : (addDropped s h n).vs.vecs = s.vs.vecs := by
  unfold addDropped
  split <;> rfl

@[simp] theorem addDropped_queue (s : State) (h n : Nat) : (addDropped s h n).vs.queue = s.vs.queue := by
  unfold addDropped
  split <;> rfl

/-! ### Noise -/

/-- A noise beat is counted, in DROPPED of its entry too where one is known. -/
def noiseCounted (s : State) (h : Option Nat) : State :=
  let s1 := raiseStatus { s with cnt := { s.cnt with noise := s.cnt.noise + 1 } } stNoise
  match h with
  | some h => addDropped s1 h 1
  | none => s1

theorem noise_logged (s : State) (b : Beat) (stamp reason : Nat) (h : Option Nat) : Logged (noiseCounted s h) (noise s b stamp reason h) := by
  unfold noise noiseCounted
  cases h <;> exact Logged.jnlRated ..

theorem noiseCounted_eq (s : State) (h : Option Nat) : ∃ vs, vs.vecs = s.vs.vecs ∧ vs.queue = s.vs.queue ∧ (h = none → vs = s.vs)
    ∧ noiseCounted s h = { s with cnt := { s.cnt with noise := s.cnt.noise + 1 }, status := s.status.raise stNoise, vs := vs } := by
  cases h with
  | none => exact ⟨s.vs, rfl, rfl, fun _ => rfl, rfl⟩
  | some h =>
    let x := raiseStatus { s with cnt := { s.cnt with noise := s.cnt.noise + 1 } } stNoise
    exact ⟨(addDropped x h 1).vs, addDropped_vecs x h 1, addDropped_queue x h 1, nofun, addDropped_frame x h 1⟩

/-! ### A beat that has been staged -/

/-- The second state is the first with a beat staged: it is counted and holds a credit of its lane, and has no slot of its own yet. -/
structure BeatStaged (s x : State) (lane : Fin 4) : Prop where
  cnt : x.cnt = { s.cnt with ingress := s.cnt.ingress + 1 }
  slots : x.vat.slots = s.vat.slots
  credits : x.vat.credits = s.vat.credits.set lane (s.vat.credits[lane] - 1)
  ports : x.vat.ports = s.vat.ports
  quar : x.vat.quar = s.vat.quar
  vecs : x.vs.vecs = s.vs.vecs
  queue : x.vs.queue = s.vs.queue
  ts : x.ts = s.ts
  md : x.md = s.md
  ctl : x.ctl = s.ctl
  tm : x.tm = s.tm

theorem beatStaged (s : State) (lane : Fin 4) : BeatStaged s (vatStage (beatTaken (noteBusy s) lane)) lane := by
  have h := vatStage_offJournal (beatTaken (noteBusy s) lane)
  exact ⟨(congrArg State.cnt h :), (congrArg (State.vat · |>.slots) h :), (congrArg (State.vat · |>.credits) h :), (congrArg (State.vat · |>.ports) h :),
    (congrArg (State.vat · |>.quar) h :), (congrArg (State.vs · |>.vecs) h :), (congrArg (State.vs · |>.queue) h :), (congrArg State.ts h :),
    (congrArg State.md h :), (congrArg State.ctl h :), (congrArg State.tm h :)⟩

/-- A staged beat that is noise leaves nothing inside: its credit returns. -/
theorem isNoise_of_staged {s x : State} {lane : Fin 4} (hx : BeatStaged s x lane) (hn : s.vat.credits[lane] ≠ 0) (b : Beat) (stamp reason : Nat)
    (h : Option Nat) : isNoise s (creditBack (noise x b stamp reason h) lane) := by
  have hl := noise_logged x b stamp reason h
  obtain ⟨vs, hvecs, hqueue, -, heq⟩ := noiseCounted_eq x h
  rw [heq] at hl
  have hcnt := hl.cnt
  have hvat := hl.vat
  have hts := hl.ts
  dsimp only at hcnt hvat hts
  rw [hx.cnt] at hcnt
  refine ⟨⟨?_, ?_, ?_, ?_, ?_, ?_, ?_, hl.md.trans hx.md, hl.ctl.trans hx.ctl, hl.tm.trans hx.tm⟩, ?_, ?_, ?_⟩
  · exact (congrArg Counters.ingress hcnt :)
  · exact (congrArg VatUnit.slots hvat).trans hx.slots
  · show (noise x b stamp reason h).vat.credits.set lane ((noise x b stamp reason h).vat.credits[lane] + 1) = _
    rw [hvat, hx.credits]
    exact credits_set_back _ _ hn
  · exact (congrArg VecStore.vecs hl.vs).trans (hvecs.trans hx.vecs)
  · exact (congrArg VecStore.queue hl.vs).trans (hqueue.trans hx.queue)
  · exact (congrArg TargetStore.targets (hts.trans hx.ts))
  · exact (congrArg TargetStore.lmem (hts.trans hx.ts))
  · exact (congrArg Counters.noise hcnt :)
  · exact hl.flags _ ((Sc.has_raise _ stNoise (by decide)).trans (by simp))
  · exact (congrArg Counters.stranger hcnt :)

/-! ### Strangers -/

/-- A stranger is counted against its entry, in IV_CNT_STRANGER and at its tenant. -/
def strangerCounted (s : State) (b : Beat) (h : Nat) : State :=
  { s with
    cnt := { s.cnt with stranger := s.cnt.stranger + 1 }, status := s.status.raise stStranger, vs := (addDropped s h 1).vs,
    ts := (twRaise (tnPut s b.tenant.toNat { tnOf s b.tenant.toNat with strangers := (tnOf s b.tenant.toNat).strangers + 1 })
      b.tenant.toNat twStranger).ts }

/-- One more stranger of a port brings its count to the limit, and no request is raised yet (R127). -/
def quarBrought (s : State) (p : BitVec 8) : Bool :=
  s.ctl.quarEn && decide ((portOf s p.toNat).count + 1 = 1024) && !(portOf s p.toNat).raised

/-- The vat with one more stranger of a port. -/
def quarVat (s : State) (p : BitVec 8) : VatUnit :=
  { s.vat with
    ports := put s.vat.ports p.toNat { count := (portOf s p.toNat).count + 1, raised := (portOf s p.toNat).raised || quarBrought s p },
    quar := if quarBrought s p && !(s.vat.quar.any (· = p)) then s.vat.quar ++ [p] else s.vat.quar }

theorem quarCount_logged (s : State) (p : BitVec 8) (sender : BitVec 12) : Logged { s with vat := quarVat s p } (quarCount s p sender) := by
  unfold quarCount
  dsimp only
  split
  · exact Logged.jnl ..
  · exact Logged.refl _

/-- The stranger's counts, then its port's, but for the journal. -/
theorem stranger_logged (s : State) (b : Beat) (stamp reason h : Nat) (e : Vte) :
    Logged { strangerCounted s b h with vat := quarVat s b.port } (stranger s b stamp reason h e) := by
  let y := jnlRated (strangerCounted s b h) b.tenant.toNat 0x20 (BitVec.ofNat 24 (reason * 1048576 + b.port.toNat * 4096 + b.tenant.toNat)) stamp
    [(4, w32 h), (5, at_ 32 16 e.cfg.tenant ||| at_ 32 0 b.rid), (6, b.data), (7, at_ 32 0 e.epoch)]
  have hy : stranger s b stamp reason h e = quarCount y b.port b.tenant := by
    let x := raiseStatus { s with cnt := { s.cnt with stranger := s.cnt.stranger + 1 } } stStranger
    have hx : addDropped x h 1 = { x with vs := (addDropped s h 1).vs } := 
      (addDropped_frame x h 1).trans (by rw [addDropped_vs (s := x) (t := s) rfl])
    unfold stranger
    dsimp only
    rw [hx]
    rfl
  have hj : Logged (strangerCounted s b h) y := Logged.jnlRated ..
  have hq : quarVat y b.port = quarVat s b.port := by
    have hvat : y.vat = s.vat := hj.vat
    have hctl : y.ctl = s.ctl := hj.ctl
    unfold quarVat quarBrought portOf
    rw [hvat, hctl]
  have hl := quarCount_logged y b.port b.tenant
  rw [hq] at hl
  rw [hy]
  exact (hj.withVat _).trans hl

theorem quarVat_brought {s : State} {p : BitVec 8} (h : quarBrought s p = true) : p ∈ (quarVat s p).quar := by
  simp only [quarVat, h, Bool.true_and]
  split
  · exact List.mem_append_right _ List.mem_cons_self
  next hn => simpa using hn

/-- What the stranger check leaves of a staged beat: its credit returns, and four places count it. -/
theorem isStranger_of_staged {s x : State} {lane : Fin 4} (hx : BeatStaged s x lane) (hn : s.vat.credits[lane] ≠ 0) (b : Beat) (stamp reason : Nat)
    {h : Nat} {v : Vte} (hv : vteOn x h = some v) (e : Vte) :
    ∃ t, t = creditBack (stranger x b stamp reason h e) lane ∧ nothingInside s t ∧ oneDropped t h v ∧ t.cnt.noise = s.cnt.noise
      ∧ t.cnt.stranger = s.cnt.stranger + 1 ∧ t.status.has stStranger = true
      ∧ (tnOf t b.tenant.toNat).strangers = (tnOf s b.tenant.toNat).strangers + 1 ∧ (tnOf t b.tenant.toNat).status.has twStranger = true
      ∧ portOf t b.port.toNat = { count := (portOf s b.port.toNat).count + 1, raised := (portOf s b.port.toNat).raised || quarBrought s b.port }
      ∧ (quarBrought s b.port = true → b.port ∈ t.vat.quar) ∧ (quarBrought s b.port = false → t.vat.quar = s.vat.quar) := by
  have hl := stranger_logged x b stamp reason h e
  have hon : vteOn (strangerCounted x b h) h = some { v with dropped := v.dropped + 1 } := vteOn_addDropped hv 1
  have hport : portOf x b.port.toNat = portOf s b.port.toNat := by simp only [portOf, hx.ports]
  have hbr : quarBrought x b.port = quarBrought s b.port := by simp only [quarBrought, hx.ctl, hport]
  have kcnt := hl.cnt
  have kvat := hl.vat
  have kts := hl.ts
  have kvs := hl.vs
  dsimp only [strangerCounted] at kcnt kvat kts kvs
  simp only [twRaise, tnPut, tnOf, hx.ts] at kts
  rw [hx.cnt] at kcnt
  have htenant : tnOf (creditBack (stranger x b stamp reason h e) lane) b.tenant.toNat
      = { tnOf s b.tenant.toNat with strangers := (tnOf s b.tenant.toNat).strangers + 1, status := (tnOf s b.tenant.toNat).status.raise twStranger } := by
    simp [tnOf, kts]
  refine ⟨_, rfl, ⟨?_, ?_, ?_, ?_, ?_, ?_, ?_, hl.md.trans hx.md, hl.ctl.trans hx.ctl, hl.tm.trans hx.tm⟩,
    ⟨_, (hl.vteOn h).trans hon, rfl, rfl, rfl⟩, ?_, ?_, ?_, ?_, ?_, ?_, fun hb => ?_, fun hb => ?_⟩
  · exact (congrArg Counters.ingress kcnt :)
  · exact (congrArg VatUnit.slots kvat).trans hx.slots
  · show (stranger x b stamp reason h e).vat.credits.set lane ((stranger x b stamp reason h e).vat.credits[lane] + 1) = _
    have hc : (stranger x b stamp reason h e).vat.credits = s.vat.credits.set lane (s.vat.credits[lane] - 1) :=
      (congrArg VatUnit.credits kvat).trans hx.credits
    rw [hc]
    exact credits_set_back _ _ hn
  · exact (congrArg VecStore.vecs kvs).trans ((addDropped_vecs ..).trans hx.vecs)
  · exact (congrArg VecStore.queue kvs).trans ((addDropped_queue ..).trans hx.queue)
  · exact (congrArg TargetStore.targets kts :)
  · exact (congrArg TargetStore.lmem kts :)
  · exact (congrArg Counters.noise kcnt :)
  · exact (congrArg Counters.stranger kcnt :)
  · exact hl.flags _ ((Sc.has_raise _ stStranger (by decide)).trans (by simp))
  · rw [htenant]
  · rw [htenant]
    exact (Sc.has_raise _ twStranger (by decide)).trans (by simp)
  · show (find (stranger x b stamp reason h e).vat.ports b.port.toNat).getD _ = _
    rw [kvat]
    simp [quarVat, hport, hbr]
  · show b.port ∈ (stranger x b stamp reason h e).vat.quar
    rw [kvat]
    exact quarVat_brought (hbr.trans hb)
  · show (stranger x b stamp reason h e).vat.quar = s.vat.quar
    rw [kvat]
    simp [quarVat, hbr, hb, hx.quar]

/-! ### Resolution -/

theorem cacheRead_of_noInject {s : State} (h : s.flt.inject = none) (k : Nat) : cacheRead s k = s := by
  unfold cacheRead
  simp [h]

theorem resolve_of_noHandle {s : State} {x : Slot} (h : beatHandle s x.beat = none) :
    ∃ r, resolve s x = creditBack (noise s x.beat x.stamp r none) x.lane := by
  unfold beatHandle at h
  unfold resolve
  split at h
  next hs => exact ⟨4, by simp only [hs]⟩
  next e hs =>
    have hi : e.vecCount ≤ x.beat.off.toNat / 4 := by
      split at h
      · simp at h
      · omega
    simp only [hs]
    by_cases hz : e.vecCount = 0
    · exact ⟨4, if_pos hz⟩
    · exact ⟨5, (if_neg hz).trans (if_pos hi)⟩

/-- With a handle, and no injection to act on the row, resolution goes by the entry. -/
theorem resolve_of_handle {s : State} {x : Slot} {k : Nat} (h : beatHandle s x.beat = some k) (hi : s.flt.inject = none) :
    (vteOn s k = none → resolve s x = fetchVte (vatPut s { x with st := .fetching k }) k)
    ∧ (∀ v, vteOn s k = some v → reloading s k = true → resolve s x = vatPut s { x with st := .fetching k })
    ∧ (∀ v, vteOn s k = some v → reloading s k = false → resolve s x = postResolve (touch s k) x k v) := by
  unfold beatHandle at h
  unfold resolve
  split at h
  next => exact absurd h (by simp)
  next e hs =>
    split at h
    next hlt =>
      have hk : e.base + x.beat.off.toNat / 4 = k := Option.some.inj h
      have hz : e.vecCount ≠ 0 := by omega
      simp only [hs, if_neg hz, if_neg (Nat.not_le.mpr hlt), hk, cacheRead_of_noInject hi]
      refine ⟨fun hv => by rw [hv], fun v hv hr => ?_, fun v hv hr => ?_⟩
      · rw [hv]
        exact if_pos hr
      · rw [hv]
        exact if_neg (by simp [hr])
    next => exact absurd h (by simp)

/-- An entry that accepts the beat makes it CHECKED, and its vector waits for a round. -/
theorem postResolve_accepts {s : State} {x : Slot} {k : Nat} {v : Vte} (hv : v.cfg.valid = true) (ha : accepts v.cfg.kind x.kind = true)
    (ht : v.cfg.tenant = x.beat.tenant) (ho : originReason v.cfg x.beat = 0) :
    Logged (enqueue (vatPut s { x with st := .checked k (snapOf v) }) k) (postResolve s x k v) := by
  unfold postResolve
  dsimp only
  rw [if_neg (by simp [hv]), if_neg (by simp [ha]), if_neg (by simp [ht]), if_neg (by simp [ho])]
  split
  · exact Logged.jnlRated ..
  · exact Logged.refl _

theorem postResolve_noise {s : State} {x : Slot} {k : Nat} {v : Vte} (h : v.cfg.valid = false ∨ accepts v.cfg.kind x.kind = false) :
    ∃ r, postResolve s x k v = creditBack (noise s x.beat x.stamp r (some k)) x.lane := by
  unfold postResolve
  dsimp only
  by_cases hv : v.cfg.valid = true
  · have ha : accepts v.cfg.kind x.kind = false := h.resolve_left (by simp [hv])
    exact ⟨10, (if_neg (by simp [hv])).trans (if_pos (by simp [ha]))⟩
  · exact ⟨9, if_pos (by simp [hv])⟩

theorem postResolve_stranger {s : State} {x : Slot} {k : Nat} {v : Vte} (hv : v.cfg.valid = true) (ha : accepts v.cfg.kind x.kind = true)
    (h : v.cfg.tenant ≠ x.beat.tenant ∨ originReason v.cfg x.beat ≠ 0) :
    ∃ r, postResolve s x k v = creditBack (stranger s x.beat x.stamp r k v) x.lane := by
  unfold postResolve
  dsimp only
  rw [if_neg (by simp [hv]), if_neg (by simp [ha])]
  by_cases ht : v.cfg.tenant = x.beat.tenant
  · exact ⟨_, (if_neg (by simp [ht])).trans (if_pos (h.resolve_left (by simp [ht])))⟩
  · exact ⟨_, if_pos ht⟩

/-- The reference bit of an entry's row is all that an access to it changes. -/
theorem BeatStaged.touch {s x : State} {lane : Fin 4} (h : BeatStaged s x lane) (k : Nat) : BeatStaged s (touch x k) lane :=
  ⟨h.cnt, h.slots, h.credits, h.ports, h.quar, h.vecs, h.queue, h.ts, h.md, h.ctl, h.tm⟩

theorem BeatStaged.withFu {s x : State} {lane : Fin 4} (h : BeatStaged s x lane) (f : FurnUnit) : BeatStaged s { x with fu := f } lane :=
  ⟨h.cnt, h.slots, h.credits, h.ports, h.quar, h.vecs, h.queue, h.ts, h.md, h.ctl, h.tm⟩

/-- A beat that is not parked takes its slot by the steps of the model. -/
theorem slotTaken_of_ne {st : SlotSt} (h : st ≠ .parked) (s : State) (lane : Fin 4) (k : BeatKind) (b : Beat) :
    slotTaken s lane k b st = vatPut (beatTaken (noteBusy s) lane) (beatSlot (noteBusy s) lane k b st) := by
  simp only [slotTaken, if_neg h, BitVec.ofNat_eq_ofNat, BitVec.add_zero]
  rfl

theorem mem_queue_enqueue (s : State) (h : Nat) : h ∈ (enqueue s h).vs.queue := by
  unfold enqueue
  split
  next hh => simpa using hh
  next => simp

end Sys2Proof.Machine

namespace Sys2Proof

open Sys2Proof.Machine

/-- Settles O18: the checks in their order, to parking or to resolution by the entry on chip. -/
theorem beatsAreParkedOrResolved : Obligations.BeatsAreParkedOrResolved := by
  intro s lane k b hc hk hf hn hlen
  have hcr : (noteBusy s).vat.credits[lane] ≠ 0 := hn
  have hroom : (beatTaken (noteBusy s) lane).vat.slots.length + 1 < 8192 := hlen
  have hfree : ¬ (freeReason k b ≠ 0) := by simp [hf]
  rw [exec_beatCmd_of_calm hc, takeBeat_slot hcr (by simp [hk]), vatStage_of_room hroom]
  dsimp only
  rw [if_neg hfree]
  refine ⟨fun hm hp => ?_, fun h hr hh => ?_⟩
  · have hfull : ¬ (decide (drainTenant s = some b.tenant.toNat) && decide (1024 ≤ parkedOf s b.tenant)) = true := by
      simpa using hp
    have hpark : (decide (s.md.mode ≠ .serving) || decide (drainTenant s = some b.tenant.toNat)) = true := by simpa using hm
    exact congrArg Host.Outcome.next ((if_neg hfull).trans (if_pos hpark))
  · obtain ⟨hserv, hdrain, hinj⟩ := hr
    have hfull : ¬ (decide (drainTenant (beatTaken (noteBusy s) lane) = some b.tenant.toNat) && decide (1024 ≤ parkedOf (beatTaken (noteBusy s) lane) b.tenant)) = true := by
      rw [show drainTenant (beatTaken (noteBusy s) lane) = drainTenant s from rfl]
      simp [hdrain]
    have hpark : ¬ (decide ((beatTaken (noteBusy s) lane).md.mode ≠ .serving) || decide (drainTenant (beatTaken (noteBusy s) lane) = some b.tenant.toNat)) = true := by
      rw [show drainTenant (beatTaken (noteBusy s) lane) = drainTenant s from rfl]
      simp [beatTaken, hserv, hdrain]
    rw [if_neg hfull, if_neg hpark]
    obtain ⟨hoff, hrel, hon⟩ := resolve_of_handle (s := beatTaken (noteBusy s) lane) (x := beatSlot (noteBusy s) lane k b .parked) hh hinj
    rw [slotTaken_of_ne (show SlotSt.fetching h ≠ .parked by simp)]
    refine ⟨fun hv => ?_, fun v hv hre => ?_, fun v hv hre hvalid hacc hten horg => ?_⟩
    · refine ⟨_, congrArg Host.Outcome.next (hoff hv), ?_⟩
      have hl := Logged.fetchVte (vatPut (beatTaken (noteBusy s) lane) (beatSlot (noteBusy s) lane k b (.fetching h))) h
      exact ⟨hl.vat, hl.cnt, apHas_fetchVte .., hl.vs, hl.ts, hl.ctl, hl.md⟩
    · exact congrArg Host.Outcome.next (hrel v hv hre)
    · have hl := postResolve_accepts (s := touch (beatTaken (noteBusy s) lane) h) (x := beatSlot (noteBusy s) lane k b .parked) (k := h) hvalid hacc hten horg
      rw [slotTaken_of_ne (show SlotSt.checked h (snapOf v) ≠ .parked by simp)]
      refine ⟨_, congrArg Host.Outcome.next (hon v hv hre), hl.vat.trans (by rw [enqueue_vat]; rfl), hl.cnt.trans (by rw [enqueue_cnt]; rfl), ?_, ?_, ?_,
        ?_, ?_, ?_, ?_⟩
      · rw [hl.vs]
        exact mem_queue_enqueue ..
      · rw [hl.vs, enqueue_vs_vecs]; rfl
      · rw [hl.vs, enqueue_vs_vtes]; rfl
      · rw [hl.ts, enqueue_ts]; rfl
      · rw [hl.ts, enqueue_ts]; rfl
      · rw [hl.ctl, enqueue_ctl]; rfl
      · rw [hl.md, enqueue_md]; rfl

/-- Settles O19: the checks in their order, each to noise, a stranger or the return of the credit. -/
theorem beatsThatMakeNoEvent : Obligations.BeatsThatMakeNoEvent := by
  refine ⟨fun s lane b hc hn hp => ?_, fun s lane k b hc => ⟨fun hz => ?_, fun hn hf => ?_, fun hn hk hf hd hfull => ?_, fun hn hk hf hr => ?_⟩⟩
  · have hback : creditBack (beatTaken (noteBusy s) lane) lane
        = { noteBusy s with cnt := { s.cnt with ingress := s.cnt.ingress + 1 }, vat := { s.vat with taken := s.vat.taken + 1 } } := by
      have hcr := credits_set_back s.vat.credits lane hn
      unfold creditBack beatTaken
      simp only [noteBusy_vat, noteBusy_cnt, hcr]
    have he : exec (.rouse lane b) s = .next (takeBeat (noteBusy s) lane .rouse b) := exec_beatCmd_of_calm hc .rouse lane b
    rw [he, takeBeat_rouse (s := noteBusy s) hn hp, hback]
  · rw [exec_beatCmd_of_calm hc, takeBeat_noCredit (s := noteBusy s) hz]
    refine ⟨_, rfl, ?_⟩
    have hl := noise_logged { noteBusy s with cnt := { s.cnt with ingress := s.cnt.ingress + 1 } } b (now s) 11 none
    have hst : (noise { noteBusy s with cnt := { s.cnt with ingress := s.cnt.ingress + 1 } } b (now s) 11 none).status.has stNoise = true :=
      hl.flags _ ((Sc.has_raise _ stNoise (by decide)).trans (by simp))
    exact ⟨⟨(congrArg Counters.ingress hl.cnt :), (congrArg VatUnit.slots hl.vat :), (congrArg VatUnit.credits hl.vat :), (congrArg VecStore.vecs hl.vs :),
      (congrArg VecStore.queue hl.vs :), (congrArg TargetStore.targets hl.ts :), (congrArg TargetStore.lmem hl.ts :), hl.md, hl.ctl, hl.tm⟩,
      (congrArg Counters.noise hl.cnt :), hst, (congrArg Counters.stranger hl.cnt :)⟩
  · have hr : (decide (k = .rouse) && !b.poison) = false := by
      cases hp : b.poison
      · cases k <;> simp_all [freeReason]
      · simp
    rw [exec_beatCmd_of_calm hc, takeBeat_slot (s := noteBusy s) hn hr]
    dsimp only
    rw [if_pos hf]
    refine ⟨_, rfl, isNoise_of_staged (beatStaged s lane) hn .., ?_⟩
    have hl := noise_logged (vatStage (beatTaken (noteBusy s) lane)) b (now s) (freeReason k b) none
    exact hl.vs.trans (congrArg State.vs (vatStage_offJournal (beatTaken (noteBusy s) lane)) :)
  · have hst : (vatStage (beatTaken (noteBusy s) lane)).fu = s.fu := (congrArg State.fu (vatStage_offJournal (beatTaken (noteBusy s) lane)) :)
    have hfull' : (decide (drainTenant (vatStage (beatTaken (noteBusy s) lane)) = some b.tenant.toNat)
        && decide (1024 ≤ parkedOf (vatStage (beatTaken (noteBusy s) lane)) b.tenant)) = true := by
      simp only [drainTenant, parkedOf, hst, (beatStaged s lane).slots, Bool.and_eq_true, decide_eq_true_eq]
      exact ⟨hd, hfull⟩
    rw [exec_beatCmd_of_calm hc, takeBeat_slot (s := noteBusy s) hn (by simp [hk])]
    dsimp only
    rw [if_neg (by simp [hf]), if_pos hfull']
    refine ⟨_, rfl, isNoise_of_staged ((beatStaged s lane).withFu _) hn .., ?_⟩
    refine (congrArg FurnUnit.discarded (noise_logged _ b (now s) 6 none).fu).trans ?_
    exact congrArg (·.discarded + 1) hst
  · have hst := vatStage_offJournal (beatTaken (noteBusy s) lane)
    have hfu : (vatStage (beatTaken (noteBusy s) lane)).fu = s.fu := (congrArg State.fu hst :)
    have hvs : (vatStage (beatTaken (noteBusy s) lane)).vs = s.vs := (congrArg State.vs hst :)
    have hdrain : drainTenant (vatStage (beatTaken (noteBusy s) lane)) = drainTenant s := by simp only [drainTenant, hfu]
    have hhand : beatHandle (vatStage (beatTaken (noteBusy s) lane)) b = beatHandle s b := by simp only [beatHandle, sliceOf, hfu]
    have hon (h : Nat) : vteOn (vatStage (beatTaken (noteBusy s) lane)) h = vteOn s h := by simp only [vteOn, hvs]
    have hrel (h : Nat) : reloading (vatStage (beatTaken (noteBusy s) lane)) h = reloading s h := by simp only [reloading, hvs]
    obtain ⟨hserv, hnd, hinj⟩ := hr
    have hinj' : (vatStage (beatTaken (noteBusy s) lane)).flt.inject = none := (congrArg (State.flt · |>.inject) hst :).trans hinj
    rw [exec_beatCmd_of_calm hc, takeBeat_slot (s := noteBusy s) hn (by simp [hk])]
    dsimp only
    rw [if_neg (by simp [hf]), if_neg (by simp [hdrain, hnd]), if_neg (by simp [hdrain, hnd, (beatStaged s lane).md, hserv])]
    refine ⟨fun hh => ?_, fun h v hh hv hre => ⟨fun hbad => ?_, fun hvalid hacc hstr => ?_⟩⟩
    · obtain ⟨r, he⟩ := resolve_of_noHandle (x := beatSlot (noteBusy s) lane k b .parked) (hhand.trans hh)
      refine ⟨_, congrArg Host.Outcome.next he, isNoise_of_staged (beatStaged s lane) hn .., ?_⟩
      exact (noise_logged _ b _ r none).vs.trans hvs
    · obtain ⟨r, he⟩ := postResolve_noise (s := touch (vatStage (beatTaken (noteBusy s) lane)) h) (x := beatSlot (noteBusy s) lane k b .parked) (k := h) hbad
      have hres := (resolve_of_handle (x := beatSlot (noteBusy s) lane k b .parked) (hhand.trans hh) hinj').2.2 v ((hon h).trans hv) ((hrel h).trans hre)
      refine ⟨_, congrArg Host.Outcome.next (hres.trans he), isNoise_of_staged ((beatStaged s lane).touch h) hn .., ?_⟩
      have hl := noise_logged (touch (vatStage (beatTaken (noteBusy s) lane)) h) b (now s) r (some h)
      have hadd : vteOn (noiseCounted (touch (vatStage (beatTaken (noteBusy s) lane)) h) (some h)) h = some { v with dropped := v.dropped + 1 } :=
        vteOn_addDropped (s := raiseStatus { touch (vatStage (beatTaken (noteBusy s) lane)) h with
          cnt := { (touch (vatStage (beatTaken (noteBusy s) lane)) h).cnt with noise := (touch (vatStage (beatTaken (noteBusy s) lane)) h).cnt.noise + 1 } } stNoise)
          ((hon h).trans hv) 1
      exact ⟨_, (hl.vteOn h).trans hadd, rfl, rfl, rfl⟩
    · obtain ⟨r, he⟩ := postResolve_stranger (s := touch (vatStage (beatTaken (noteBusy s) lane)) h) (x := beatSlot (noteBusy s) lane k b .parked) (k := h)
        hvalid hacc hstr
      have hres := (resolve_of_handle (x := beatSlot (noteBusy s) lane k b .parked) (hhand.trans hh) hinj').2.2 v ((hon h).trans hv) ((hrel h).trans hre)
      obtain ⟨t, ht, hin, hdrop, hnoise, hcount, hflag, hten, htw, hport, hq, hnq⟩ :=
        isStranger_of_staged ((beatStaged s lane).touch h) hn b (now s) r (v := v) ((hon h).trans hv) v
      refine ⟨t, congrArg Host.Outcome.next (hres.trans (he.trans ht.symm)), hin, hdrop, hnoise, hcount, hflag, hten, htw, ?_, fun hqe hc' hra => ?_, fun hno => ?_⟩
      · rw [hport]
      · have hbr : quarBrought s b.port = true := by simp [quarBrought, hqe, hc', hra]
        exact ⟨by rw [hport]; simp [hbr], hq hbr⟩
      · have hbr : quarBrought s b.port = false := by
          rcases hno with hno | hno | hno <;> simp [quarBrought, hno]
        exact ⟨by rw [hport]; simp [hbr], hnq hbr⟩

end Sys2Proof
end

section
/-! PROOF. Entries that return from the aperture, the epochs of their changes, and the aperture's two copies (R59, R129 to R137, R330, R331). -/

namespace Sys2Proof.Machine

/-- What every step of a fold leaves, the fold leaves. -/
theorem forEach_view {α β : Type} {v : State → β} {f : State → α → State} (hf : ∀ t a, v (f t a) = v t) :
    ∀ (l : List α) (s : State), v (forEach l s f) = v s := by
  intro l
  induction l with
  | nil => exact fun s => rfl
  | cons a r ih => exact fun s => (ih (f s a)).trans (hf s a)

/-- A fold whose every step does nothing to its state does nothing. -/
theorem forEach_id {α : Type} {f : State → α → State} {s : State} : ∀ (l : List α), (∀ a ∈ l, f s a = s) → forEach l s f = s := by
  intro l
  induction l with
  | nil => exact fun _ => rfl
  | cons a r ih =>
    intro h
    unfold forEach
    rw [h a List.mem_cons_self]
    exact ih fun b hb => h b (List.mem_cons_of_mem _ hb)

/-! ### Tags -/

theorem tagOf_tagErase_same {α : Type} (l : List (BitVec 8 × α)) (tag : BitVec 8) : tagOf (tagErase l tag) tag = none := by
  induction l with
  | nil => rfl
  | cons e r ih =>
    obtain ⟨t, a⟩ := e
    by_cases h : t = tag
    · simpa [tagErase, h] using ih
    · simpa [tagErase, h, tagOf] using ih

theorem apDone_of_noneWaits {s : State} (h : s.ap.waiting = []) (tag : BitVec 8) :
    apDone s tag = { noteBusy s with ap := { s.ap with reqs := tagErase s.ap.reqs tag } } := by
  unfold apDone
  simp only [noteBusy_ap, h]

/-! ### What fences leave -/

/-- The state without the units of entry access and the instant at which Ivsyn was last busy. -/
def offUnits (s : State) : State := { s with eaM := State.eaReset, eaT := [], ar := { s.ar with busyAt := 0 } }

@[simp] theorem eaPut_offUnits (s : State) (u : EaId) (e : EaUnit) : offUnits (eaPut s u e) = offUnits s := by cases u <;> rfl

@[simp] theorem eaRaise_offUnits (s : State) (u : EaId) (m : BitVec 24) : offUnits (eaRaise s u m) = offUnits s := (eaPut_offUnits ..).trans rfl

@[simp] theorem fenceCheck_offUnits (s : State) (u : EaId) : offUnits (fenceCheck s u) = offUnits s := by
  unfold fenceCheck
  split
  · split
    · rw [eaRaise_offUnits, eaPut_offUnits]
    · rfl
  · rfl

@[simp] theorem fenceAll_offUnits (s : State) : offUnits (fenceAll s) = offUnits s :=
  (forEach_view fenceCheck_offUnits ..).trans (fenceCheck_offUnits ..)

/-! ### Installation -/

@[simp] theorem vteOwed_of_none {s : State} {h : Nat} (ho : find s.vs.owed h = none) (v : Vte) : vteOwed s h v = v := by
  simp [vteOwed, owedOf, ho]

/-- An entry comes on chip with what is owed to it, and nothing but the vector store changes. -/
theorem vteLoad_spec (s : State) (h : Nat) (v : Vte) : vteOn (vteLoad s h v) h = some (vteOwed s h v)
    ∧ (∀ k, k ≠ h → vteOn (vteLoad s h v) k = vteOn s k) ∧ (vteLoad s h v).vs.vecs = s.vs.vecs
    ∧ vteLoad s h v = { s with vs := (vteLoad s h v).vs } := by
  unfold vteLoad
  split
  next ho => exact ⟨by rw [vteOn_vtePut_same, vteOwed_of_none ho], fun k hk => vteOn_vtePut_ne s v hk, rfl, rfl⟩
  next => exact ⟨vteOn_vtePut_same s h _, fun k hk => vteOn_vtePut_ne s _ hk, rfl, rfl⟩

/-- With room in the cache an entry is installed without an eviction. -/
theorem install_of_room {s : State} {h : Nat} (hm : 4096 ≤ h) (hr : s.vs.ring.length < 61440) (v : Vte) :
    ∃ t, install s h v = some t ∧ vteOn t h = some (vteOwed s h v) ∧ (∀ k, k ≠ h → vteOn t k = vteOn s k) ∧ t.vs.vecs = s.vs.vecs
      ∧ t = { s with vs := t.vs } := by
  unfold install
  rw [if_neg (by omega)]
  split
  · exact ⟨_, rfl, vteLoad_spec s h v⟩
  · rw [if_pos (by unfold cacheMax; omega)]
    obtain ⟨hon, hne, hvecs, heq⟩ := vteLoad_spec { s with vs := { s.vs with ring := s.vs.ring ++ [(h, true)] } } h v
    exact ⟨_, rfl, hon, hne, hvecs, heq⟩

/-! ### What waits for an entry -/

theorem fetchResolve_of_none {s : State} {h : Nat} (hf : fetchingOf s h = []) (v : Vte) : fetchResolve s h v = s := by
  have hs : (s.vat.slots.filter fun x => !isFetching h x) = s.vat.slots := by
    refine List.filter_eq_self.mpr fun x hx => ?_
    have hn : x ∉ s.vat.slots.filter (isFetching h) := by
      show x ∉ fetchingOf s h
      simp [hf]
    simpa [List.mem_filter, hx] using hn
  unfold fetchResolve
  rw [hf]
  simp only [forEach, fetchingDrop, hs]

theorem readsShow_of_none {s : State} {h : Nat} (hr : readingUnits s h = []) (w : Words8) (m : BitVec 24) : readsShow s h w m = s := by
  unfold readsShow
  rw [hr]
  rfl

theorem fencesBegin_of_none {s : State} {h : Nat} (hf : ∀ u ∈ units s, (eaOf s u).busy ≠ some (.fenceRead h)) : fencesBegin s h = s :=
  forEach_id _ fun u hu => by
    unfold fenceBegin
    rw [if_neg (by simpa using hf u hu)]

theorem vteTry_of_none {s : State} {h : Nat} (hc : (vecOf s h).changes = []) : vteTry s h = s := if_pos (by simp [hc])

theorem waitersIn_eq (s : State) (h : Nat) : waitersIn s h = s ∨ waitersIn s h = enqueue s h := by
  unfold waitersIn
  dsimp only
  split
  · exact Or.inl rfl
  · exact Or.inr rfl

/-- An entry for which neither messages, READs, FENCEs nor changes wait is installed, and its vector may go to its lane again. -/
theorem vteArrive_alone {s : State} {h : Nat} {v : Vte} {t : State} (hi : install s h v = some t) (ht : t = { s with vs := t.vs })
    (hvecs : t.vs.vecs = s.vs.vecs) (hf : fetchingOf s h = []) (hc : (vecOf s h).changes = []) (hr : readingUnits s h = [])
    (hb : ∀ u ∈ units s, (eaOf s u).busy ≠ some (.fenceRead h)) : vteArrive s h v = fenceAll (waitersIn t h) := by
  have hft : fetchingOf t h = [] := by rw [ht]; exact hf
  have hrt : readingUnits t h = [] := by rw [ht]; exact hr
  have hbt : ∀ u ∈ units t, (eaOf t u).busy ≠ some (.fenceRead h) := by rw [ht]; exact hb
  have hct : (vecOf (waitersIn t h) h).changes = [] := by
    have hv : vecOf t h = vecOf s h := by simp only [vecOf, hvecs]
    rcases waitersIn_eq t h with he | he <;> simp [he, hv, hc]
  unfold vteArrive
  simp only [hi, fetchResolve_of_none hft]
  cases entryWords t 1 h with
  | none => simp only [fencesBegin_of_none hbt, vteTry_of_none hct]
  | some w => simp only [readsShow_of_none hrt, fencesBegin_of_none hbt, vteTry_of_none hct]

end Sys2Proof.Machine

namespace Sys2Proof

open Sys2Proof.Machine

/-- Settles O22: the return frees its tag and installs the entry; what else may follow is a place in the lane and fences that complete. -/
theorem vteReturnIsInstalled : Obligations.VteReturnIsInstalled := by
  intro s tag w h r ha hu hreq hw hp hcrc hm hroom hf hc hread hwait hfence
  have hinj : readInjected s = false := by
    simp only [undisturbed, Bool.and_eq_true, Option.isNone_iff_eq_none] at hu
    simp [readInjected, hu.1.1]
  have hdone := apDone_of_noneWaits hwait tag
  obtain ⟨t, hi, hon, hne, hvecs, heq⟩ := install_of_room (s := apDone s tag) hm (by rw [hdone]; exact hroom) (vteOf w)
  have harr : vteArrive (apDone s tag) h (vteOf w) = fenceAll (waitersIn t h) := by
    refine vteArrive_alone hi heq hvecs ?_ ?_ ?_ ?_ <;> rw [hdone]
    · exact hf
    · exact hc
    · exact hread
    · exact hfence
  have hex : exec (.vteReadReturn tag w) s = .next (fenceAll (waitersIn t h)) := by
    refine congrArg Host.Outcome.next ?_
    show onTag s tag (fun r => if r.write then s else readArrive s tag r w) = _
    unfold onTag
    rw [if_pos ha]
    simp only [hreq, hw, Bool.false_eq_true, if_false, readArrive, hinj, readReturn, hp, hcrc, if_true]
    exact harr
  have hoff := fenceAll_offUnits (waitersIn t h)
  have hvs : (fenceAll (waitersIn t h)).vs = (waitersIn t h).vs := (congrArg State.vs hoff :)
  have hrest : offUnits { (fenceAll (waitersIn t h)) with vs := State.vsReset } = offUnits { (apDone s tag) with vs := State.vsReset } := by
    refine (congrArg (fun x : State => { x with vs := State.vsReset }) hoff).trans ?_
    rcases waitersIn_eq t h with hq | hq <;> rw [hq, heq]
    · rfl
    · unfold enqueue
      split <;> rfl
  rw [hdone] at hrest
  have hvtes : (waitersIn t h).vs.vtes = t.vs.vtes ∧ (waitersIn t h).vs.vecs = t.vs.vecs := by
    rcases waitersIn_eq t h with hq | hq <;> simp [hq]
  have hsame (k : Nat) : vteOn (fenceAll (waitersIn t h)) k = vteOn t k := by simp only [vteOn, hvs, hvtes.1]
  refine ⟨_, hex, (hsame h).trans (hon.trans ?_), ?_, fun k hk => (hsame k).trans ((hne k hk).trans ?_), ?_, (congrArg State.vat hrest :),
    (congrArg State.ts hrest :), (congrArg State.ctl hrest :), (congrArg State.md hrest :)⟩
  · rw [hdone]; rfl
  · have hap : (fenceAll (waitersIn t h)).ap = _ := (congrArg State.ap hrest :)
    rw [hap]
    exact tagOf_tagErase_same ..
  · rw [hdone]; rfl
  · rw [hvs, hvtes.2, hvecs, hdone]; rfl

end Sys2Proof
end

section
/-! PROOF. What the operations of a stream leave: the settings of every entry and target, and all that neither the arbiter, the lanes nor the
journal keep (R131, R155, R207 to R219). EPOCH at a change of an entry (R133). -/

namespace Sys2Proof.Machine

/-- The state without what streams, writes and their records change. -/
def offStreams (s : State) : State :=
  { s with
    status := State.scReset, cnt := State.cntReset, ao := aoRest s.ao, ap := { s.ap with reqs := [], waiting := [] }, flt := fltRest s.flt,
    jn := State.jnReset, vs := { s.vs with vtes := [], vecs := [], queue := [], dirty := [], owed := [] },
    ts := { s.ts with targets := [], lmem := [], dirty := [] }, ar := State.arReset }

/-- The settings of an entry and its EPOCH, where it is on chip. -/
def settingsOn (s : State) (h : Nat) : Option (VteCfg × BitVec 16) := (vteOn s h).map fun v => (v.cfg, v.epoch)

/-- A target without what writes, doorbells and its watchdog change. -/
def tgtRest (g : Tgt) : Tgt :=
  { g with tail := 0, tailPar := false, seq := 0, resend := 0, maxResend := 0, wdog := none, lastDb := 0, rearm := false, dbOwed := false,
           batch := none, wait := 0 }

/-- What the operations of a stream leave. -/
def streamView (s : State) : State × (Nat → Option (VteCfg × BitVec 16)) × (Nat → Tgt) :=
  (offStreams s, settingsOn s, fun k => tgtRest (tgtOf s k))

theorem streamView_congr {s t : State} (ho : offStreams t = offStreams s) (hv : t.vs.vtes = s.vs.vtes) (ht : t.ts.targets = s.ts.targets) :
    streamView t = streamView s := by
  have hset : settingsOn t = settingsOn s := by
    funext k
    simp only [settingsOn, vteOn, hv]
  have hfu : t.fu = s.fu := (congrArg State.fu ho :)
  have htgt : tgtOf t = tgtOf s := by
    funext k
    simp only [tgtOf, ht, hfu]
  simp only [streamView, ho, hset, htgt]

theorem streamView_ite {p : Prop} [Decidable p] {s a b : State} (ha : streamView a = streamView s) (hb : streamView b = streamView s) :
    streamView (if p then a else b) = streamView s := by
  split
  · exact ha
  · exact hb

/-! ### Tables and queues -/

@[simp] theorem vecPut_streamView (s : State) (h : Nat) (v : Vec) : streamView (vecPut s h v) = streamView s := streamView_congr rfl rfl rfl
@[simp] theorem owedPut_streamView (s : State) (h : Nat) (o : Owed) : streamView (owedPut s h o) = streamView s := streamView_congr rfl rfl rfl
@[simp] theorem noteBusy_streamView (s : State) : streamView (noteBusy s) = streamView s := streamView_congr rfl rfl rfl

@[simp] theorem enqueue_streamView (s : State) (h : Nat) : streamView (enqueue s h) = streamView s := by
  unfold enqueue
  split
  · rfl
  · exact streamView_congr rfl rfl rfl

theorem vteHw_streamView {s : State} {h : Nat} {v : Vte} (hv : settingsOn s h = some (v.cfg, v.epoch)) : streamView (vteHw s h v) = streamView s := by
  have hset : settingsOn (vteHw s h v) = settingsOn s := by
    funext k
    by_cases hk : k = h
    · subst hk
      rw [hv]
      exact congrArg (Option.map _) (vteOn_vtePut_same s k v)
    · exact congrArg (Option.map _) (vteOn_vtePut_ne s v hk)
  have htgt : tgtOf (vteHw s h v) = tgtOf s := rfl
  simp only [streamView, hset, htgt]
  rfl

@[simp] theorem addDropped_streamView (s : State) (h n : Nat) : streamView (addDropped s h n) = streamView s := by
  unfold addDropped
  split
  · exact owedPut_streamView ..
  next v hv => exact vteHw_streamView (by simp [settingsOn, hv])

@[simp] theorem addDelivered_streamView (s : State) (h t : Nat) : streamView (addDelivered s h t) = streamView s := by
  unfold addDelivered
  split
  · exact owedPut_streamView ..
  next v hv => exact vteHw_streamView (by simp [settingsOn, hv])

theorem tgtPut_streamView {s : State} {t : Nat} {g : Tgt} (hg : tgtRest g = tgtRest (tgtOf s t)) : streamView (tgtPut s t g) = streamView s := by
  have htgt : (fun k => tgtRest (tgtOf (tgtPut s t g) k)) = fun k => tgtRest (tgtOf s k) := by
    funext k
    by_cases hk : k = t
    · subst hk
      rw [tgtOf_tgtPut_same, hg]
    · rw [tgtOf_tgtPut_ne s g hk]
  have hset : settingsOn (tgtPut s t g) = settingsOn s := rfl
  simp only [streamView, htgt, hset]
  rfl

/-! ### The journal and the comparison of the planes -/

theorem Logged.streamView {s t : State} (h : Logged s t) : streamView t = streamView s :=
  streamView_congr (congrArg offStreams h.same :) (congrArg VecStore.vtes h.vs) (congrArg TargetStore.targets h.ts)

@[simp] theorem faultCount_streamView (s : State) (cls : BitVec 2) (src : BitVec 8) (arg m : BitVec 24) (inj : Bool) :
    streamView (faultCount s cls src arg m inj) = streamView s := streamView_congr rfl rfl rfl

@[simp] theorem jnlFault_streamView (s : State) (t : Nat) (code : Byte) (src : BitVec 8) (arg : BitVec 24) (w5 w6 : Word) (inj : Bool) :
    streamView (jnlFault s t code src arg w5 w6 inj) = streamView s := by
  unfold jnlFault
  dsimp only
  split
  · exact (Logged.jnlRatedW1 ..).streamView
  · exact (Logged.jnlPut ..).streamView

@[simp] theorem corrected_streamView (s : State) (src : BitVec 8) (arg : BitVec 24) (inj : Bool) :
    streamView (corrected s src arg inj) = streamView s :=
  (jnlFault_streamView ..).trans (faultCount_streamView ..)

/-- Both planes' comparison leaves all but the fault collector; a fatal fault comes of one plane alone (R164 to R167). -/
theorem roundCompare_streamView {s : State} {check : PlaneCheck} (hc : check ≠ .residueError) (h : BitVec 24) :
    streamView (roundCompare s h check).1 = streamView s := by
  unfold roundCompare
  dsimp only
  rw [if_neg hc]
  split
  · rfl
  · split
    · rfl
    · split
      · exact (corrected_streamView ..).trans (streamView_congr rfl rfl rfl)
      · split
        · exact streamView_congr rfl rfl rfl
        · split
          · exact streamView_congr rfl rfl rfl
          · cases check with
            | retryAgrees => exact corrected_streamView ..
            | agree | residueError => rfl
            | disagree => exact streamView_congr rfl rfl rfl

/-! ### The acceptance of records -/

@[simp] theorem outcomeGather_streamView (s : State) (h : Nat) (ok : Bool) : streamView (outcomeGather s h ok) = streamView s :=
  (enqueue_streamView ..).trans (vecPut_streamView ..)

@[simp] theorem acceptVec_streamView (s : State) (h : Nat) : streamView (acceptVec s h) = streamView s := by
  unfold acceptVec
  dsimp only
  split
  · exact vecPut_streamView ..
  · rfl

theorem outcomeAt_streamView {act : State → Nat → State} (ha : ∀ s h, streamView (act s h) = streamView s) (s : State) (h : Nat) (ok : Bool) :
    streamView (outcomeAt s h ok act) = streamView s := by
  have hcmp := roundCompare_streamView (s := s) (check := .agree) (by decide) (BitVec.ofNat 24 h)
  unfold outcomeAt
  dsimp only
  split
  · exact outcomeGather_streamView ..
  · split
    · exact (ha ..).trans hcmp
    · exact (outcomeGather_streamView ..).trans hcmp

@[simp] theorem acceptOne_streamView (t : Nat) (s : State) (h : Nat) : streamView (acceptOne t s h) = streamView s := by
  have hadd : streamView (addDelivered { (outcomeAt s h true acceptVec) with
      cnt := { (outcomeAt s h true acceptVec).cnt with delivered := (outcomeAt s h true acceptVec).cnt.delivered + 1 } } h t) = streamView s :=
    (addDelivered_streamView ..).trans ((streamView_congr rfl rfl rfl).trans (outcomeAt_streamView acceptVec_streamView s h true))
  unfold acceptOne
  dsimp only
  split
  · exact (Logged.fetchVte ..).streamView.trans hadd
  · exact hadd

@[simp] theorem wdogFix_streamView (s : State) (t : Nat) : streamView (wdogFix s t) = streamView s := by
  unfold wdogFix
  dsimp only
  split
  · split
    · rfl
    · exact tgtPut_streamView (by rfl)
  · split
    · exact tgtPut_streamView (by rfl)
    · rfl

@[simp] theorem acceptRecs_streamView (s : State) (t : Nat) (hs : List Nat) : streamView (acceptRecs s t hs) = streamView s :=
  (wdogFix_streamView ..).trans ((tgtPut_streamView (by rfl)).trans (forEach_view (acceptOne_streamView t) hs s))

/-! ### Writes and doorbells -/

theorem lateRec_streamView (s : State) (t : Nat) (o : Out) (issue : Nat) : streamView (lateRec s t o issue) = streamView s := by
  unfold lateRec
  dsimp only
  split
  · exact (Logged.jnlRated ..).streamView.trans (streamView_congr rfl rfl rfl)
  · rfl

theorem coalRec_streamView (s : State) (o : Out) : streamView (coalRec s o) = streamView s := by
  unfold coalRec
  split
  · exact streamView_congr rfl rfl rfl
  · rfl

theorem strobe_streamView (s : State) : streamView (strobe s) = streamView s := by
  unfold strobe
  dsimp only
  split
  · exact streamView_congr rfl rfl rfl
  · rfl

theorem issuedRecs_streamView (s : State) (w : OpenWrite) : streamView (issuedRecs s w) = streamView s :=
  (forEach_view (fun x o => (strobe_streamView _).trans ((coalRec_streamView _ o).trans (lateRec_streamView x _ o _))) ..).trans
    (streamView_congr rfl rfl rfl)

@[simp] theorem closeWrite_streamView (s : State) : streamView (closeWrite s) = streamView s := by
  unfold closeWrite
  split
  · rfl
  next w _ =>
    have hi := issuedRecs_streamView s w
    dsimp only
    split
    · rfl
    · split
      · exact (acceptRecs_streamView ..).trans ((streamView_congr rfl rfl rfl).trans hi)
      · split
        · exact (streamView_congr rfl rfl rfl).trans hi
        · rfl

@[simp] theorem closeWriteOf_streamView (s : State) (t : Nat) : streamView (closeWriteOf s t) = streamView s := by
  unfold closeWriteOf
  split
  · split
    · exact closeWrite_streamView s
    · rfl
  · rfl

@[simp] theorem bellSent_streamView (s : State) (t : Nat) : streamView (bellSent s t) = streamView s :=
  tgtPut_streamView (by dsimp only; split <;> rfl)

@[simp] theorem pumpBells_streamView (n : Nat) : ∀ s : State, streamView (pumpBells n s) = streamView s := by
  induction n with
  | zero => exact fun s => rfl
  | succ k ih =>
    intro s
    unfold pumpBells
    split
    · dsimp only
      split
      · exact (ih _).trans (streamView_congr rfl rfl rfl)
      · split
        · rfl
        · exact (ih _).trans ((bellSent_streamView ..).trans (streamView_congr rfl rfl rfl))
    · rfl

@[simp] theorem sendBell_streamView (s : State) (t : Nat) : streamView (sendBell s t) = streamView s := by
  unfold sendBell
  dsimp only
  split
  · rfl
  · split
    · exact tgtPut_streamView (by rfl)
    · exact (pumpBells_streamView ..).trans (streamView_congr rfl rfl rfl)

@[simp] theorem batchEnd_streamView (s : State) (t : Nat) : streamView (batchEnd s t) = streamView s := by
  unfold batchEnd
  split
  · rfl
  · dsimp only
    have hc := closeWriteOf_streamView s t
    split
    · refine (sendBell_streamView ..).trans ((tgtPut_streamView ?_).trans ((tgtPut_streamView (by rfl)).trans hc))
      rw [tgtOf_tgtPut_same]
      rfl
    · exact (tgtPut_streamView (by rfl)).trans hc

/-! ### Streams -/

@[simp] theorem heapRefill_streamView (s : State) : streamView (heapRefill s) = streamView s := by
  unfold heapRefill
  split
  · split
    · rfl
    · exact streamView_congr rfl rfl rfl
  · rfl

@[simp] theorem settleStream_streamView (s : State) (t : Nat) : streamView (settleStream s t) = streamView s := by
  unfold settleStream
  dsimp only
  split
  · refine (heapRefill_streamView _).trans ((batchEnd_streamView ..).trans ?_)
    split
    · exact (tgtPut_streamView (by rfl)).trans (streamView_congr (by rfl) (by rfl) (by rfl))
    · exact streamView_congr rfl rfl rfl
  · rfl

@[simp] theorem leaveStream_streamView (s : State) (h : Nat) : streamView (leaveStream s h) = streamView s := by
  unfold leaveStream
  dsimp only
  split
  · rfl
  · split
    · rfl
    · exact (settleStream_streamView ..).trans ((vecPut_streamView ..).trans (noteBusy_streamView s))

@[simp] theorem dropEv_streamView (s : State) (h : Nat) : streamView (dropEv s h) = streamView s :=
  (vecPut_streamView ..).trans (leaveStream_streamView s h)

@[simp] theorem promote_streamView (s : State) (h : Nat) : streamView (promote s h) = streamView s := by
  unfold promote
  dsimp only
  split
  · exact vecPut_streamView ..
  · rfl

@[simp] theorem joinStream_streamView (s : State) (h t : Nat) : streamView (joinStream s h t) = streamView s := by
  unfold joinStream
  extract_lets v
  split
  · rfl
  · refine streamView_ite (vecPut_streamView ..) (streamView_ite ?_ ?_)
    · exact (streamView_congr (by rfl) (by rfl) (by rfl)).trans (vecPut_streamView ..)
    · exact (streamView_congr (by rfl) (by rfl) (by rfl)).trans (vecPut_streamView ..)

/-! ### Changes of an entry -/

theorem settingsOn_of_streamView {s t : State} (h : streamView t = streamView s) : settingsOn t = settingsOn s := (congrArg (·.2.1) h :)

theorem vteOn_of_settingsOn {s : State} {h : Nat} {c : VteCfg} {e : BitVec 16} (hs : settingsOn s h = some (c, e)) :
    ∃ v, vteOn s h = some v ∧ v.epoch = e ∧ v.cfg = c := by
  obtain ⟨v, hv, he⟩ := Option.map_eq_some_iff.mp hs
  rw [Prod.mk.injEq] at he
  exact ⟨v, hv, he.2, he.1⟩

theorem settingsOn_of_vs {s t : State} (h : t.vs.vtes = s.vs.vtes) : settingsOn t = settingsOn s := by
  funext k
  simp only [settingsOn, vteOn, h]

@[simp] theorem propDone_vs (s : State) (p : Party) (ok : Bool) : (propDone s p ok).vs = s.vs := by
  unfold propDone
  dsimp only
  split
  · rfl
  · refine (Logged.jnl ..).vs.trans ?_
    simp [dcRaise, propEnd]

@[simp] theorem eaRaise_vs (s : State) (u : EaId) (m : BitVec 24) : (eaRaise s u m).vs = s.vs := by simp [eaRaise]

@[simp] theorem changeReport_vs (s : State) (c : Change) (ok : Bool) : (changeReport s c ok).vs = s.vs := by
  unfold changeReport
  split
  · exact propDone_vs ..
  · dsimp only
    split <;> simp [twRaise]

@[simp] theorem entryReject_vs (s : State) (kind i reason code : Nat) : (entryReject s kind i reason code).vs = s.vs :=
  (Logged.jnlRated ..).vs.trans rfl

@[simp] theorem changeRefused_vs (s : State) (c : Change) (kind i : Nat) : (changeRefused s c kind i).vs = s.vs :=
  (changeReport_vs ..).trans (entryReject_vs ..)

@[simp] theorem changeForeign_vs (s : State) (c : Change) : (changeForeign s c).vs = s.vs := by
  unfold changeForeign
  split <;> simp

@[simp] theorem pinChange_vtes (s : State) (h : Nat) (pin : Bool) : (pinChange s h pin).1.vs.vtes = s.vs.vtes := by
  unfold pinChange
  split
  · rfl
  · split
    · split
      · rfl
      · split <;> rfl
    · rfl

/-- An entry that is stored keeps its settings: STATE alone is noted. -/
@[simp] theorem vteStore_settingsOn (s : State) (h : Nat) : settingsOn (vteStore s h) = settingsOn s := by
  unfold vteStore
  split
  · rfl
  next v hv =>
    let x := apRequest s (.vteWrite h) true (vteOffset s h) (vteWords v (vteState s h)).toList
    have hx : x.vs = s.vs := (Logged.apRequest ..).vs
    refine (settingsOn_of_vs (t := _) (s := vtePut x h { v with stored := BitVec.ofNat 3 (vteState s h) }) rfl).trans ?_
    funext k
    by_cases hk : k = h
    · subst hk
      simp only [settingsOn, hv, vteOn_vtePut_same]
      rfl
    · simp only [settingsOn, vteOn_vtePut_ne _ _ hk]
      simp only [vteOn, hx]

theorem vteRetarget_streamView (s : State) (h : Nat) (n : VteCfg) : streamView (vteRetarget s h n) = streamView s := by
  unfold vteRetarget
  dsimp only
  split
  · rfl
  · exact streamView_ite rfl (leaveStream_streamView s h)

theorem vteGens_streamView (s : State) (h : Nat) (sn : Snap) (same : Bool) : streamView (vteGens s h sn same) = streamView s := by
  unfold vteGens
  split
  · exact (vecPut_streamView ..).trans (vteRetarget_streamView ..)
  · exact vecPut_streamView ..

theorem vteDiscard_streamView (s : State) (h : Nat) : streamView (vteDiscard s h) = streamView s :=
  (addDropped_streamView ..).trans ((vecPut_streamView ..).trans (dropEv_streamView s h))

/-- A change that is installed gives the entry its new settings, under the next EPOCH (R133). -/
theorem settingsOn_vteInstall (s : State) (h : Nat) (e : Vte) (n : VteCfg) (c : Change) :
    settingsOn (vteInstall s h e n c) h = some (n, e.epoch + 1) := by
  have hput : settingsOn (vtePut s h { e with cfg := n, epoch := e.epoch + 1 }) h = some (n, e.epoch + 1) := by
    simp [settingsOn]
  unfold vteInstall
  extract_lets ep s1 s2 s3 p s4
  have h3 : settingsOn s3 h = some (n, e.epoch + 1) := by
    have h2 : settingsOn s2 = settingsOn s1 := settingsOn_of_streamView (vteGens_streamView ..)
    have hs3 : settingsOn s3 = settingsOn s2 := settingsOn_of_streamView (streamView_ite rfl (vteDiscard_streamView ..))
    rw [hs3, h2]
    exact hput
  have h4 : settingsOn s4 h = some (n, e.epoch + 1) := by
    have hp : settingsOn p.1 = settingsOn s3 := settingsOn_of_vs (pinChange_vtes ..)
    rw [← h3, ← hp]
    exact congrFun (vteStore_settingsOn ..) h
  have hrep : ∀ x : State, settingsOn (changeReport x c true) = settingsOn x := fun x => settingsOn_of_vs (congrArg _ (changeReport_vs ..))
  rw [hrep]
  split
  · rw [settingsOn_of_vs (congrArg _ (entryReject_vs s4 ..)), h4]
  · exact h4

/-- A change at its boundary goes by its caller, by what must be waited for, and by the checks. -/
theorem vteApply_eq {s : State} {h : Nat} {e : Vte} (he : vteOn s h = some e) (c : Change) : vteApply s h c =
    if callerForeign c e.cfg then some (changeForeign s c)
    else if vteWaits s h e (appliedCfg s h c e) then none
    else if vteCheck s h (appliedCfg s h c e) (retires s h c.caller (namedCfg c e)) then some (vteInstall s h e (appliedCfg s h c e) c)
    else some (changeRefused s c 1 h) := by
  unfold vteApply appliedCfg namedCfg
  rw [he]
  cases c.words <;> rfl

end Sys2Proof.Machine

namespace Sys2Proof

open Sys2Proof.Machine

/-- Settles O21: an installed change sets EPOCH; a refusal reports alone, and the hardware's counts keep an entry's settings. -/
theorem epochAdvancesAtEachApply : Obligations.EpochAdvancesAtEachApply := by
  intro s h c e he
  have hset : settingsOn s h = some (e.cfg, e.epoch) := by simp [settingsOn, he]
  have hvs {t : State} (ht : t.vs = s.vs) : vteOn t h = some e := by simpa only [vteOn, ht] using he
  refine ⟨fun hf => ⟨changeForeign s c, ?_, hvs (changeForeign_vs s c)⟩, fun hf hw => ⟨fun hc => ?_, fun hc => ⟨changeRefused s c 1 h, ?_, hvs (changeRefused_vs ..)⟩⟩,
    fun n => vteOn_of_settingsOn ((congrFun (settingsOn_of_streamView (addDropped_streamView s h n)) h).trans hset),
    fun x => vteOn_of_settingsOn ((congrFun (settingsOn_of_streamView (acceptOne_streamView x s h)) h).trans hset)⟩
  · exact (vteApply_eq he c).trans (if_pos hf)
  · obtain ⟨v, hv, hep, hcfg⟩ := vteOn_of_settingsOn (settingsOn_vteInstall s h e (appliedCfg s h c e) c)
    exact ⟨_, v, (vteApply_eq he c).trans ((if_neg (by simp [hf])).trans ((if_neg (by simp [hw])).trans (if_pos hc))), hv, hep, hcfg⟩
  · exact (vteApply_eq he c).trans ((if_neg (by simp [hf])).trans ((if_neg (by simp [hw])).trans (if_neg (by simp [hc]))))

end Sys2Proof
end

section
/-! PROOF. The aperture's two copies: failover, completion, timeout and resync (R59, R330, R331). -/

namespace Sys2Proof.Machine

/-- The state without what a request that ends or a record that is written changes. -/
def offPort (s : State) : State := offJournal { s with ar := { s.ar with busyAt := 0 } }

theorem Logged.offPort {s t : State} (h : Logged s t) : offPort t = offPort s :=
  (congrArg (fun x : State => { x with ar := { x.ar with busyAt := 0 } }) h.same :)

@[simp] theorem apDone_offPort (s : State) (tag : BitVec 8) : offPort (apDone s tag) = offPort s := by
  unfold apDone
  dsimp only
  split <;> rfl

@[simp] theorem apDrop_offPort (s : State) (p : Purpose → Bool) : offPort (apDrop s p) = offPort s :=
  (forEach_view (fun t r => (Logged.apPut t r).offPort) ..).trans rfl

theorem warmGo_of_noneStored {s : State} (h : s.fu.stored = none) : warmGo s = s := by
  unfold warmGo
  rw [h]

theorem entryGo_of_noEntry {s : State} (h : s.pw.entry = none) : entryGo s = s := by
  unfold entryGo
  rw [h]

theorem go_of_none {s : State} (he : s.pw.entry = none) (hst : s.fu.stored = none) : warmGo (entryGo s) = s := by
  rw [entryGo_of_noEntry he, warmGo_of_noneStored hst]

/-- A failover leaves the other copy as the sole aperture, counted as one corrected fault (R59, R330). -/
theorem failover_offPort {s : State} (h : s.fu.stored = none) (c : Copy) (cause offset : Nat) (inj : Bool) :
    offPort (failover s c cause offset inj)
      = offPort { faultCount s 1 0x05 (BitVec.ofNat 24 (copyNum c)) (sourceFlag 0x05) inj with
          ap := { s.ap with state := 1, readSec := decide (c = .primary) } } := by
  unfold failover
  extract_lets s1 _ s2 _ s3 s4
  have h2 : offPort s2 = offPort { s1 with ap := { s1.ap with state := 1, readSec := decide (c = .primary) } } := apDrop_offPort ..
  have h4 : offPort s4 = offPort s2 := (forEach_view apDone_offPort ..).trans rfl
  have hj := (Logged.jnlPut s4 .journal (mkRec 0x85 (BitVec.ofNat 24 (cause * 16 + copyNum c)) (bit inj 0) (now s4)
    [(4, w32 offset), (5, w32hi offset), (6, aperCtlWord s4)])).offPort
  have hst : (jnlPut s4 .journal (mkRec 0x85 (BitVec.ofNat 24 (cause * 16 + copyNum c)) (bit inj 0) (now s4)
      [(4, w32 offset), (5, w32hi offset), (6, aperCtlWord s4)])).fu.stored = none :=
    (congrArg (State.fu · |>.stored) (hj.trans (h4.trans h2)) :).trans h
  rw [warmGo_of_noneStored hst]
  exact hj.trans (h4.trans h2)

/-- What a failover shows: the sole copy, one corrected fault and its flag; tables and settings stay. -/
theorem failover_shows {s t : State} {c : Copy} {b : Bool} (hb : b = decide (c = .primary)) {arg : BitVec 24}
    (h : offPort t = offPort { faultCount s 1 0x05 arg (sourceFlag 0x05) false with ap := { s.ap with state := 1, readSec := decide (c = .primary) } }) :
    t.ap.state = 1 ∧ t.ap.readSec = b ∧ t.flt.corr = satAdd s.flt.corr 1 ∧ t.flt.sum.has 6 = true ∧ t.ts = s.ts ∧ t.vs = s.vs ∧ t.ctl = s.ctl := by
  refine ⟨(congrArg (State.ap · |>.state) h :), hb ▸ (congrArg (State.ap · |>.readSec) h :), (congrArg (State.flt · |>.corr) h :), ?_,
    (congrArg State.ts h :), (congrArg State.vs h :), (congrArg State.ctl h :)⟩
  have hsum : t.flt.sum = (faultCount s 1 0x05 arg (sourceFlag 0x05) false).flt.sum := (congrArg (State.flt · |>.sum) h :)
  rw [hsum]
  show (s.flt.sum.flags ||| (sourceFlag 0x05 ||| 1 ||| bit false 8)).getLsbD 6 = true
  have hflag : (sourceFlag 0x05 ||| 1 ||| bit false 8 : BitVec 24).getLsbD 6 = true := by decide
  rw [BitVec.getLsbD_or, hflag, Bool.or_true]

theorem entryGo_failover {s : State} (hst : s.fu.stored = none) (he : s.pw.entry = none) (c : Copy) (cause offset : Nat) (inj : Bool) :
    entryGo (failover s c cause offset inj) = failover s c cause offset inj :=
  entryGo_of_noEntry ((congrArg (State.pw · |>.entry) (failover_offPort hst c cause offset inj) :).trans he)

theorem onTag_of_req {s : State} {tag : BitVec 8} {r : AperReq} (ha : awake s = true) (h : tagOf s.ap.reqs tag = some r) (f : AperReq → State) :
    onTag s tag f = f r := by
  unfold onTag
  rw [if_pos ha, h]

theorem onWrite_of_req {s : State} {tag : BitVec 8} {c : Copy} {r : AperReq} (hl : live s = true) (h : tagOf s.ap.reqs tag = some r)
    (hw : r.write = true) (ha : awaits r c = true) (f : AperReq → State) : onWrite s tag c f = f r := by
  unfold onWrite
  rw [if_pos hl, h]
  exact if_pos (by simp [hw, ha])

/-- A read error of a mirrored aperture takes the copy in use away (R59). -/
theorem readError_mirrored {s : State} (hd : dualWrites s = true) (hst : s.fu.stored = none) (tag : BitVec 8) (r : AperReq) (cause : Nat) :
    (readError s tag r cause false).ap.state = 1 ∧ (readError s tag r cause false).ap.readSec = !s.ap.readSec
      ∧ (readError s tag r cause false).flt.corr = satAdd s.flt.corr 1 ∧ (readError s tag r cause false).flt.sum.has 6 = true
      ∧ (readError s tag r cause false).ts = s.ts ∧ (readError s tag r cause false).vs = s.vs ∧ (readError s tag r cause false).ctl = s.ctl := by
  have he : readError s tag r cause false = failover s (readCopy s) cause r.offset false := if_pos hd
  rw [he]
  refine failover_shows (c := readCopy s) ?_ (failover_offPort hst ..)
  unfold readCopy
  cases s.ap.readSec <;> rfl

theorem resyncStart_offPort (s : State) : offPort (resyncStart s) = offPort s := by
  unfold resyncStart
  split
  · rfl
  · exact forEach_view (fun t r => (Logged.apPut t _).offPort) ..

end Sys2Proof.Machine

namespace Sys2Proof

open Sys2Proof.Machine

/-- Settles O23: failover by its equation, the completion of a write, and RESYNC with its completion. -/
theorem apertureCopiesFailAndReturn : Obligations.ApertureCopiesFailAndReturn := by
  refine ⟨fun s tag r i ha hd hreq he hst => ⟨fun h => ?_, fun hlt => ?_, fun c h => ?_⟩, fun s tag c r hl hreq hw haw hdone hres hwait he hst => ?_,
    fun s ha hp => ⟨fun h1 hm hfr => ?_, fun h1 => ?_⟩, fun s ha => ⟨fun h3 hc => ?_, fun h => ?_⟩⟩
  · obtain ⟨rfl | ⟨rfl, hlate⟩, hr⟩ := h
    · refine ⟨readError s tag r 1 false, congrArg Host.Outcome.next ?_, readError_mirrored hd hst ..⟩
      exact (onTag_of_req ha hreq _).trans (if_pos (by simp [isRead, hr]))
    · refine ⟨readError s tag r 3 false, congrArg Host.Outcome.next ?_, readError_mirrored hd hst ..⟩
      refine (onTag_of_req ha hreq _).trans (if_pos ?_)
      simp only [isRead, hr, Bool.not_false, Bool.true_or, Bool.true_and]
      exact decide_eq_true hlate
  · refine congrArg Host.Outcome.next ((onTag_of_req ha hreq _).trans (if_neg ?_))
    rw [Bool.and_eq_true]
    exact fun h => Nat.not_le.mpr hlt (of_decide_eq_true h.2)
  · obtain ⟨rfl, hw, haw⟩ := h
    refine ⟨failover s c 2 r.offset false, congrArg Host.Outcome.next ?_, failover_shows rfl (failover_offPort hst ..)⟩
    refine (onWrite_of_req (live_of_awake ha) hreq hw haw _).trans ((if_pos hd).trans ?_)
    exact entryGo_failover hst he ..
  · have hd : apDone s tag = { noteBusy s with ap := { s.ap with reqs := tagErase s.ap.reqs tag } } := apDone_of_noneWaits hwait tag
    refine congrArg Host.Outcome.next ((onWrite_of_req hl hreq hw haw _).trans ?_)
    show writeAck s tag r c = _
    unfold writeAck
    rw [if_neg (by simp [hres]), if_pos hdone, writeComplete, if_neg (by simp [hres]), hd]
    exact go_of_none he hst
  · have hok : resyncOk (activity s false) = true := by simp [resyncOk, h1, hm, frozenBy_activity, hfr]
    refine ⟨_, congrArg Host.Outcome.next ((writeAt_of_answers hp ..).trans (congrArg (portDone · .mgmt) (portWrite_mgmt ha ..))), ?_⟩
    have hoff := resyncStart_offPort { activity s false with ap := { (activity s false).ap with state := 3, pct := 0 } }
    have hr : resync (activity s false) = resyncStart { activity s false with ap := { (activity s false).ap with state := 3, pct := 0 } } := if_pos hok
    rw [hr]
    exact ⟨(congrArg (State.ap · |>.state) hoff :), (congrArg (State.ap · |>.pct) hoff :),
      Eq.trans (congrArg (State.ap · |>.readSec) hoff :) (congrArg AperUnit.readSec (activity_ap s) :),
      Eq.trans (congrArg State.ts hoff :) (activity_ts s), Eq.trans (congrArg State.vs hoff :) (activity_vs s),
      Eq.trans (congrArg State.ctl hoff :) (activity_ctl s)⟩
  · have hok : resyncOk (activity s false) = false := by
      have hst : decide ((activity s false).ap.state = 1) = false := decide_eq_false (by rw [activity_ap]; exact h1)
      simp only [resyncOk, hst, Bool.false_and]
    refine ⟨_, congrArg Host.Outcome.next ((writeAt_of_answers hp ..).trans (congrArg (portDone · .mgmt) (portWrite_mgmt ha ..))), ?_⟩
    have hr : resync (activity s false) = rejectWrite (activity s false) 0x114 := if_neg (by simp [hok])
    rw [hr]
    exact ⟨activity_ap s, (Sc.has_raise _ stCfgRej (by decide)).trans (by simp)⟩
  · exact ⟨_, congrArg Host.Outcome.next (if_pos (by simp [ha, h3, hc])), rfl, rfl, rfl, rfl, rfl, rfl⟩
  · refine congrArg Host.Outcome.next (if_neg ?_)
    rcases h with h | h
    · have hst : decide (s.ap.state = 3) = false := decide_eq_false h
      simp only [hst, Bool.and_false, Bool.false_and, Bool.false_eq_true, not_false_eq_true]
    · simp [h]

end Sys2Proof
end

section
/-! PROOF. Losses of clocks, missed beats, crossings that disagree, and the AO clock's stop (R237, R307, R310, R312, R328). -/

namespace Sys2Proof.Machine

/-! ### Counted faults -/

theorem correctedAt_offJournal (s : State) (t : Nat) (src : BitVec 8) (arg : BitVec 24) (inj : Bool) :
    offJournal (correctedAt s t src arg inj) = offJournal (faultCount s 1 src arg (sourceFlag src) inj) := jnlFault_offJournal ..

theorem corrected_offJournal (s : State) (src : BitVec 8) (arg : BitVec 24) (inj : Bool) :
    offJournal (corrected s src arg inj) = offJournal (faultCount s 1 src arg (sourceFlag src) inj) := correctedAt_offJournal ..

theorem deferredAt_offJournal {s : State} (h : s.ctl.deferFatal = false) (t : Nat) (src : BitVec 8) (arg : BitVec 24) (w5 w6 : Word) (inj : Bool) :
    offJournal (deferredAt s t src arg w5 w6 inj) = offJournal (faultCount s 2 src arg (sourceFlag src) inj) := by
  have hc : deferredCount s src arg inj = faultCount s 2 src arg (sourceFlag src) inj := if_neg (by simp [h])
  unfold deferredAt
  rw [if_neg (by simp [h]), hc]
  exact jnlFault_offJournal ..

/-- While Ivsyn is awake an array or crossing fault is counted at once. -/
theorem faultFound_corrected {s : State} (ha : sleeping s = false) {src : BitVec 8} (hsrc : src = 0x03 ∨ src = 0x04) (arg : BitVec 24) (inj : Bool) :
    offJournal (faultFound s src arg inj) = offJournal (faultCount s 1 src arg (sourceFlag src) inj) := by
  unfold faultFound
  rw [if_neg (by simp [ha]), faultAt, if_pos (by simpa using hsrc)]
  exact correctedAt_offJournal ..

theorem faultFound_deferred {s : State} (ha : sleeping s = false) (hd : s.ctl.deferFatal = false) {src : BitVec 8}
    (hsrc : ¬ (src = 0x03 ∨ src = 0x04)) (arg : BitVec 24) (inj : Bool) :
    offJournal (faultFound s src arg inj) = offJournal (faultCount s 2 src arg (sourceFlag src) inj) := by
  unfold faultFound
  rw [if_neg (by simp [ha]), faultAt, if_neg (by simpa using hsrc)]
  exact deferredAt_offJournal hd ..

/-- A flag that a fault's mask holds is set. -/
theorem has_faultCount {s : State} {cls : BitVec 2} {src : BitVec 8} {arg m : BitVec 24} {inj : Bool} {f : Nat}
    (hf : (m ||| (if cls = 1 then 1 else 2) ||| bit inj 8 : BitVec 24).getLsbD f = true) : (faultCount s cls src arg m inj).flt.sum.has f = true := by
  show (s.flt.sum.flags ||| _).getLsbD f = true
  rw [BitVec.getLsbD_or, hf, Bool.or_true]

/-- What a found fault of class corrected (1) or deferred (2) shows: one more of its class, its flag and the class's, and everything else as before. -/
theorem fault_shows {s x t : State} (hx : x.flt.corr = s.flt.corr ∧ x.flt.defer = s.flt.defer) {cls : BitVec 2} {src : BitVec 8} {arg : BitVec 24}
    {inj : Bool} (h : offJournal t = offJournal (faultCount x cls src arg (sourceFlag src) inj)) :
    t.flt.corr = (if cls = 1 then satAdd s.flt.corr 1 else s.flt.corr) ∧ t.flt.defer = (if cls = 2 then satAdd s.flt.defer 1 else s.flt.defer)
      ∧ (∀ f, (sourceFlag src ||| (if cls = 1 then 1 else 2) ||| bit inj 8 : BitVec 24).getLsbD f = true → t.flt.sum.has f = true)
      ∧ t.vs = x.vs ∧ t.ts = x.ts ∧ t.ctl = x.ctl ∧ t.tm = x.tm := by
  obtain ⟨hc, hd⟩ := hx
  have hflt : t.flt = (faultCount x cls src arg (sourceFlag src) inj).flt := (congrArg State.flt h :)
  refine ⟨?_, ?_, fun f hf => ?_, (congrArg State.vs h :), (congrArg State.ts h :), (congrArg State.ctl h :), (congrArg State.tm h :)⟩
  · rw [hflt, ← hc]; rfl
  · rw [hflt, ← hd]; rfl
  · rw [hflt]
    exact has_faultCount hf

/-! ### Crossings and clocks -/

/-- What Ivsyn does of itself starts from the state or from the one after activity. -/
theorem stirring_from (f : State → State) (s : State) : ∃ x, (x = s ∨ x = activity s false) ∧ stirring f s = f x := by
  rcases stirring_eq f s with he | he
  · exact ⟨_, Or.inr rfl, he⟩
  · exact ⟨_, Or.inl rfl, he⟩

theorem mute_of_live {s : State} (h : live s = true) : mute s = false := by
  simp only [live, Bool.and_eq_true, Bool.not_eq_true', decide_eq_true_eq] at h
  simp [mute, h.1.1.1, h.1.2]

theorem resetting_of_live {s : State} (h : live s = true) : s.ao.resetting = false := by
  simp only [live, Bool.and_eq_true, Bool.not_eq_true'] at h
  exact h.1.1.2

theorem stirring_of_still {f : State → State} {s : State} (h : f s = s) : stirring f s = s := by
  unfold stirring
  rw [h]
  simp

/-- A state after or without activity has the same fault collector, tables and settings, and Ivsyn is awake in it. -/
theorem stirred {s x : State} (ha : awake s = true) (h : x = s ∨ x = activity s false) :
    awake x = true ∧ x.flt = s.flt ∧ x.vs = s.vs ∧ x.ts = s.ts ∧ x.ctl = s.ctl ∧ x.tm = s.tm ∧ x.ao = s.ao := by
  rcases h with rfl | rfl
  · exact ⟨ha, rfl, rfl, rfl, rfl, rfl, rfl⟩
  · exact ⟨by rw [awake_activity]; exact ha, by simp, by simp, by simp, by simp, by simp, by simp⟩

/-- Noting what a crossing had last accepted changes the runs of disagreements alone. -/
theorem cdcNote_eq (s : State) (c : Crossing) : ∃ runs, cdcNote s c = { s with flt := { s.flt with runs := runs } } := by
  unfold cdcNote
  split
  · exact ⟨_, rfl⟩
  · exact ⟨s.flt.runs, rfl⟩

theorem fatalFault_flt (s : State) (src : BitVec 8) (detail : BitVec 24) (inj : Bool) : (fatalFault s src detail inj).flt.fatal
    = some (s.flt.fatal.getD { source := src, detail := detail, blind := false, injected := inj }) := by
  unfold fatalFault
  cases inj <;> rfl

/-- But for the fault collector and its copy in the AO island a fatal fault changes nothing at once. -/
theorem fatalFault_rest (s : State) (src : BitVec 8) (detail : BitVec 24) (inj : Bool) :
    ∃ flt ao, fatalFault s src detail inj = { s with flt := flt, ao := ao } := by
  unfold fatalFault
  cases inj
  · exact ⟨_, _, rfl⟩
  · exact ⟨_, _, rfl⟩

end Sys2Proof.Machine

namespace Sys2Proof

open Sys2Proof.Machine

/-- Settles O45: the fatal faults by their equation, and each found fault by the count that it comes to. -/
theorem clockAndCrossingFaults : Obligations.ClockAndCrossingFaults := by
  refine ⟨fun s ha => ⟨fun hf => ⟨?_, ?_, fun hr hm => ?_⟩, fun hf => ⟨?_, ?_, ?_⟩, fun h => ?_⟩, fun s p addr w hs => ?_,
    fun s c l ha hd => ⟨fun hn => ?_, fun hn => ?_, fun hy => ?_, fun hn => ?_, fun hp => ?_, fun x hst hx => ?_⟩⟩
  · refine congrArg Host.Outcome.next ((if_pos ha).trans ?_)
    simp only [fatalFault, hf, Bool.false_eq_true, if_false, Option.getD_none]
  · have hl : live { s with flt := { s.flt with regStopped := true } } = true := live_of_awake ha
    refine congrArg Host.Outcome.next ((if_neg ?_).trans ((if_pos hl).trans ?_))
    · simp [mute_of_live (live_of_awake ha)]
    · simp only [fatalFault, hf, Bool.false_eq_true, if_false, Option.getD_none]
  · obtain ⟨flt, ao, he⟩ := fatalFault_rest s 0x2A 0 s.flt.beatStopped
    refine ⟨_, congrArg Host.Outcome.next (if_pos (by simp [live_of_awake ha, hr, hm])), ?_, by rw [he], by rw [he]⟩
    rw [fatalFault_flt, hf]
    rfl
  · refine congrArg Host.Outcome.next ((if_pos ha).trans ?_)
    obtain ⟨f, hf⟩ := Option.isSome_iff_exists.mp hf
    simp only [fatalFault, hf, Bool.false_eq_true, if_false, Option.getD_some]
  · have hl : live { s with flt := { s.flt with regStopped := true } } = true := live_of_awake ha
    refine congrArg Host.Outcome.next ((if_neg ?_).trans ((if_pos hl).trans ?_))
    · simp [mute_of_live (live_of_awake ha)]
    · obtain ⟨f, hf⟩ := Option.isSome_iff_exists.mp hf
      simp only [fatalFault, hf, Bool.false_eq_true, if_false, Option.getD_some]
  · refine ⟨_, rfl, ?_⟩
    obtain ⟨f, hf⟩ := Option.isSome_iff_exists.mp hf
    obtain ⟨flt, ao, he⟩ := fatalFault_rest s 0x2A 0 s.flt.beatStopped
    split
    · refine ⟨?_, by rw [he], by rw [he], by rw [he]⟩
      rw [fatalFault_flt, hf]
      rfl
    · exact ⟨rfl, rfl, rfl, rfl⟩
  · refine congrArg Host.Outcome.next (if_neg ?_)
    rcases h with h | h
    · simp [h]
    · simp [Nat.not_le.mpr h]
  · have hp : portsDead s = true := by simp [portsDead, hs]
    have hserve (f : State → State) : portServe s f = s := by simp [portServe, hp]
    exact ⟨congrArg Host.Outcome.next (hserve _), congrArg Host.Outcome.next (hserve _), congrArg Host.Outcome.next (hserve _)⟩
  · refine ⟨_, congrArg Host.Outcome.next (if_pos (live_of_awake ha)), ?_⟩
    obtain ⟨x, hx, hst⟩ := stirring_from _ s
    rw [hst]
    obtain ⟨hax, hflt, hvs, hts, hctl, htm, -⟩ := stirred ha hx
    obtain ⟨runs, hnote⟩ := cdcNote_eq x c
    have hret : cdcRetry c l false x = faultFound { x with flt := { x.flt with runs := runs } } 0x04 (cdcArg c l) false := by
      unfold cdcRetry
      rw [if_neg (by simp [show cdcFaulted x c l = false by rw [cdcFaulted, hflt]; exact hn]), hnote]
    have hoff := faultFound_corrected (s := { x with flt := { x.flt with runs := runs } }) (sleeping_of_awake hax) (Or.inr rfl) (cdcArg c l) false
    obtain ⟨hcorr, hdef, hflags, kvs, kts, kctl, ktm⟩ := fault_shows (s := s) ⟨by rw [← hflt], by rw [← hflt]⟩ hoff
    rw [hret]
    exact ⟨hcorr, hflags 0 (by decide), hflags 3 (by decide), hdef, kvs.trans hvs, kts.trans hts, kctl.trans hctl, ktm.trans htm⟩
  · refine ⟨_, congrArg Host.Outcome.next (if_pos (live_of_awake ha)), ?_⟩
    obtain ⟨x, hx, hst⟩ := stirring_from _ s
    rw [hst]
    obtain ⟨hax, hflt, hvs, hts, hctl, htm, -⟩ := stirred ha hx
    have hoff := faultFound_deferred (sleeping_of_awake hax) (hctl ▸ hd) (show ¬ ((0x12 : BitVec 8) = 0x03 ∨ (0x12 : BitVec 8) = 0x04) by decide) (cdcArg c l) false
    obtain ⟨hcorr, hdef, hflags, kvs, kts, kctl, ktm⟩ := fault_shows (s := s) ⟨by rw [hflt], by rw [hflt]⟩ hoff
    have hcd : ∃ tm, tm.now = x.tm.now ∧ offJournal (cdcDeferred c l false x)
        = offJournal { cdcHold (faultFound x 0x12 (cdcArg c l) false) c l (cdcKept x c) with tm := tm } := by
      unfold cdcDeferred
      rw [if_neg (by simp [show cdcFaulted x c l = false by rw [cdcFaulted, hflt]; exact hn])]
      dsimp only
      split
      · obtain ⟨tm, h1, -, -, -, h5⟩ := startEstimate_offJournal (cdcHold (faultFound x 0x12 (cdcArg c l) false) c l (cdcKept x c)) 4
        exact ⟨tm, h1.trans (congrArg TimeUnit.now ktm), h5⟩
      · exact ⟨_, congrArg TimeUnit.now ktm, rfl⟩
    obtain ⟨tm, hnow, hcd⟩ := hcd
    have kflt := (congrArg State.flt hcd :)
    refine ⟨(congrArg FaultUnit.defer kflt :).trans hdef, ?_, ?_, ?_, (congrArg FaultUnit.corr kflt :).trans hcorr, (congrArg State.vs hcd :).trans (kvs.trans hvs),
      (congrArg State.ts hcd :).trans (kts.trans hts), (congrArg State.ctl hcd :).trans (kctl.trans hctl),
      (congrArg (State.tm · |>.now) hcd :).trans (hnow.trans (congrArg TimeUnit.now htm))⟩
    · exact (congrArg (fun f : FaultUnit => f.sum.has 1) kflt :).trans (hflags 1 (by decide))
    · exact (congrArg (fun f : FaultUnit => f.sum.has 3) kflt :).trans (hflags 3 (by decide))
    · have hc : (cdcDeferred c l false x).flt.cdc = (c, l) :: _ := (congrArg FaultUnit.cdc kflt :)
      rw [hc]
      exact List.mem_cons_self
  · constructor
    · exact congrArg Host.Outcome.next ((if_pos (live_of_awake ha)).trans (stirring_of_still (if_pos hy)))
    · exact congrArg Host.Outcome.next ((if_pos (live_of_awake ha)).trans (stirring_of_still (if_pos hy)))
  · refine ⟨_, congrArg Host.Outcome.next (if_pos (live_of_awake ha)), ?_⟩
    obtain ⟨x, hx, hst⟩ := stirring_from _ s
    rw [hst]
    obtain ⟨hax, hflt, hvs, hts, hctl, htm, -⟩ := stirred ha hx
    have hoff := faultFound_deferred (sleeping_of_awake hax) (hctl ▸ hd) (show ¬ ((0x18 : BitVec 8) = 0x03 ∨ (0x18 : BitVec 8) = 0x04) by decide) 0x050000 false
    obtain ⟨hcorr, hdef, hflags, kvs, kts, kctl, -⟩ := fault_shows (s := s) ⟨by rw [hflt], by rw [hflt]⟩ hoff
    have hstop : aoStop x = { faultFound x 0x18 0x050000 false with tm := { (faultFound x 0x18 0x050000 false).tm with aoStopped := true } } :=
      if_neg (by simp [htm, hn])
    rw [hstop]
    exact ⟨rfl, hdef, hflags 1 (by decide), hflags 7 (by decide), hcorr, kvs.trans hvs, kts.trans hts, kctl.trans hctl⟩
  · refine congrArg Host.Outcome.next ?_
    cases hst : s.tm.aoStopped
    · exact (if_pos (by simp)).trans (by rw [← hst])
    · exact (if_neg (by simp [mute_of_live (live_of_awake ha)])).trans (aoHeldAct_nil (s := { s with tm := { s.tm with aoStopped := false } }) hp)
  · refine congrArg Host.Outcome.next ((if_neg (by simp [hst, mute_of_live (live_of_awake ha)])).trans ?_)
    unfold aoHeldAct
    simp only [hx, resetting_of_live (live_of_awake ha), Bool.false_eq_true, if_false, forEach]

end Sys2Proof
end

section
/-! PROOF. What ranking rounds and closing writes may do to the fault collector: all of it comes of the comparison of the planes and of the rows
that a round reads (R142, R164, R165, R318, R321). -/

namespace Sys2Proof.Machine

/-! ### Operations that leave the fault collector -/

theorem ite_flt {p : Prop} [Decidable p] {a b : State} {f : FaultUnit} (ha : a.flt = f) (hb : b.flt = f) : (if p then a else b).flt = f := by
  split
  · exact ha
  · exact hb

@[simp] theorem addDropped_flt (s : State) (h n : Nat) : (addDropped s h n).flt = s.flt := by rw [addDropped_frame]

@[simp] theorem addDelivered_flt (s : State) (h t : Nat) : (addDelivered s h t).flt = s.flt := by
  unfold addDelivered
  split <;> rfl

@[simp] theorem fetchVte_flt (s : State) (h : Nat) : (fetchVte s h).flt = s.flt := (Logged.fetchVte s h).flt

@[simp] theorem apRequest_flt (s : State) (p : Purpose) (write : Bool) (offset : Nat) (data : List Word) :
    (apRequest s p write offset data).flt = s.flt := (Logged.apRequest ..).flt

@[simp] theorem heapRefill_flt (s : State) : (heapRefill s).flt = s.flt := by
  unfold heapRefill
  split
  · split <;> rfl
  · rfl

@[simp] theorem joinStream_flt (s : State) (h t : Nat) : (joinStream s h t).flt = s.flt := by
  unfold joinStream
  dsimp only
  split
  · rfl
  · exact ite_flt (by rfl) (ite_flt (by rfl) (by rfl))

@[simp] theorem wdogFix_flt (s : State) (t : Nat) : (wdogFix s t).flt = s.flt := by
  unfold wdogFix
  dsimp only
  split <;> split <;> rfl

@[simp] theorem pumpBells_flt (n : Nat) : ∀ s : State, (pumpBells n s).flt = s.flt := by
  induction n with
  | zero => exact fun s => rfl
  | succ k ih =>
    intro s
    unfold pumpBells
    split
    · dsimp only
      split
      · exact ih _
      · split
        · rfl
        · exact ih _
    · rfl

@[simp] theorem sendBell_flt (s : State) (t : Nat) : (sendBell s t).flt = s.flt := by
  unfold sendBell
  dsimp only
  split
  · rfl
  · split
    · rfl
    · exact pumpBells_flt ..

@[simp] theorem clearUnreach_flt (s : State) (t : Nat) (always : Bool) : (clearUnreach s t always).flt = s.flt := by
  unfold clearUnreach
  dsimp only
  split
  · rw [sendBell_flt, wdogFix_flt]
    rfl
  · rw [wdogFix_flt]
    rfl

@[simp] theorem acceptVec_flt (s : State) (h : Nat) : (acceptVec s h).flt = s.flt := by
  unfold acceptVec
  dsimp only
  split <;> rfl

@[simp] theorem outcomeGather_flt (s : State) (h : Nat) (ok : Bool) : (outcomeGather s h ok).flt = s.flt := enqueue_flt ..

@[simp] theorem issuedRecs_flt (s : State) (w : OpenWrite) : (issuedRecs s w).flt = s.flt := by
  refine (forEach_view (v := State.flt) (fun x o => ?_) ..).trans rfl
  have hs (y : State) : (strobe y).flt = y.flt := by
    unfold strobe
    dsimp only
    split <;> rfl
  have hc (y : State) : (coalRec y o).flt = y.flt := by
    unfold coalRec
    split <;> rfl
  have hl (y : State) (i : Nat) : (lateRec y w.target.toNat o i).flt = y.flt := by
    unfold lateRec
    split
    · exact (Logged.jnlRated ..).flt
    · rfl
  rw [issueRec, hs, hc, hl]

@[simp] theorem promote_flt (s : State) (h : Nat) : (promote s h).flt = s.flt := by
  unfold promote
  dsimp only
  split <;> rfl

@[simp] theorem propDone_flt (s : State) (p : Party) (ok : Bool) : (propDone s p ok).flt = s.flt := by
  unfold propDone
  dsimp only
  split
  · rfl
  · refine (Logged.jnl ..).flt.trans ?_
    simp [dcRaise, propEnd]

@[simp] theorem eaRaise_flt (s : State) (u : EaId) (m : BitVec 24) : (eaRaise s u m).flt = s.flt := by simp [eaRaise]

@[simp] theorem changeReport_flt (s : State) (c : Change) (ok : Bool) : (changeReport s c ok).flt = s.flt := by
  unfold changeReport
  split
  · exact propDone_flt ..
  · dsimp only
    split <;> simp [twRaise]

@[simp] theorem entryReject_flt (s : State) (kind i reason code : Nat) : (entryReject s kind i reason code).flt = s.flt :=
  (Logged.jnlRated ..).flt.trans rfl

@[simp] theorem changeRefused_flt (s : State) (c : Change) (kind i : Nat) : (changeRefused s c kind i).flt = s.flt :=
  (changeReport_flt ..).trans (entryReject_flt ..)

@[simp] theorem changeForeign_flt (s : State) (c : Change) : (changeForeign s c).flt = s.flt := by
  unfold changeForeign
  split <;> simp

@[simp] theorem pinChange_flt (s : State) (h : Nat) (pin : Bool) : (pinChange s h pin).1.flt = s.flt := by
  unfold pinChange
  split
  · rfl
  · split
    · split
      · rfl
      · split <;> rfl
    · rfl

@[simp] theorem vteStore_flt (s : State) (h : Nat) : (vteStore s h).flt = s.flt := by
  unfold vteStore
  split
  · rfl
  · exact apRequest_flt ..

@[simp] theorem tdStore_flt (s : State) (t : Nat) : (tdStore s t).flt = s.flt := apRequest_flt ..

@[simp] theorem fenceAll_flt (s : State) : (fenceAll s).flt = s.flt := (congrArg State.flt (fenceAll_offUnits s) :)

@[simp] theorem spillFetch_flt (s : State) (h : Nat) : (spillFetch s h).flt = s.flt := by
  unfold spillFetch
  split
  · rfl
  · split
    · rfl
    · exact apRequest_flt ..

/-! ### Coalescing groups and the calendar -/

@[simp] theorem couchRelease_flt (s : State) (g : Nat) : (couchRelease s g).flt = s.flt := rfl

@[simp] theorem calLeave_flt (s : State) (id : Nat) : (calLeave s id).flt = s.flt := by
  unfold calLeave
  split
  · dsimp only
    split <;> rfl
  · split <;> rfl

@[simp] theorem calEnter_flt (s : State) (id : Nat) : (calEnter s id).flt = s.flt := by
  unfold calEnter
  split
  · rfl
  · split <;> rfl

@[simp] theorem couchCalendar_flt (s : State) (g : Nat) : (couchCalendar s g).flt = s.flt := by
  unfold couchCalendar
  split <;> simp

@[simp] theorem holdoffDecision_flt (s : State) (g : Nat) (merged : Option Nat) : (holdoffDecision s g merged).flt = s.flt := by
  unfold holdoffDecision
  dsimp only
  cases hw : (couchOf s g).window with
  | none =>
    dsimp only
    split <;> rfl
  | some e =>
    dsimp only
    have h1 : (if e ≤ now s then
        if (couchOf s g).held ≠ 0 then couchPut (couchRelease s g) g { couchOf (couchRelease s g) g with window := some (windowEnd (couchOf s g) e) }
        else couchPut s g { couchOf s g with window := none }
      else s).flt = s.flt := ite_flt (ite_flt rfl rfl) rfl
    split <;> exact h1

@[simp] theorem countTimeDecision_flt (s : State) (g : Nat) : (countTimeDecision s g).flt = s.flt := by
  unfold countTimeDecision
  dsimp only
  split
  · rfl
  · split <;> split <;> rfl

@[simp] theorem couchDecide_flt (s : State) (g : Nat) (merged : Option Nat) : (couchDecide s g merged).flt = s.flt := by
  unfold couchDecide
  dsimp only
  rw [couchCalendar_flt]
  split
  · exact holdoffDecision_flt ..
  · split
    · exact countTimeDecision_flt ..
    · rfl

@[simp] theorem couchChange_flt (s : State) (g : Nat) (c : Couch) : (couchChange s g c).flt = s.flt := by
  unfold couchChange
  dsimp only
  split <;> rw [couchCalendar_flt] <;> rfl

/-! ### Inputs of a round -/

theorem ite_round_flt {p : Prop} [Decidable p] {a b : Round} {f : FaultUnit} (ha : a.st.flt = f) (hb : b.st.flt = f) :
    (if p then a else b).st.flt = f := by
  split
  · exact ha
  · exact hb

@[simp] theorem noteMerge_flt (r : Round) (sn : Snap) (n time : Nat) : (noteMerge r sn n time).st.flt = r.st.flt := by
  unfold noteMerge
  split <;> rfl

@[simp] theorem mergeIn_flt (r : Round) (h : Nat) (sn : Snap) (time count : Nat) (data : Word) (trunc : Bool) :
    (mergeIn r h sn time count data trunc).st.flt = r.st.flt := by
  unfold mergeIn
  dsimp only
  split
  · rfl
  · split
    · exact addDropped_flt ..
    · split
      · exact noteMerge_flt ..
      · rfl

@[simp] theorem levelOn_flt (r : Round) (h : Nat) (e : Vte) (sn : Snap) (time : Nat) : (levelOn r h e sn time).st.flt = r.st.flt := by
  unfold levelOn
  split
  · exact addDropped_flt ..
  · split
    · rfl
    · dsimp only
      split
      · exact noteMerge_flt ..
      · rfl

@[simp] theorem eoiStray_flt (s : State) (h t reason : Nat) (active : Word) : (eoiStray s h t reason active).flt = s.flt :=
  (Logged.jnlRated ..).flt.trans rfl

@[simp] theorem activeEnd_flt (s : State) (h : Nat) (a : Active) : (activeEnd s h a).flt = s.flt := promote_flt ..

@[simp] theorem eoiIn_flt (h : Nat) (r : Round) (t : BitVec 16) : (eoiIn h r t).st.flt = r.st.flt := by
  unfold eoiIn
  dsimp only
  split
  · exact eoiStray_flt ..
  · split
    · exact eoiStray_flt ..
    · split
      · exact eoiStray_flt ..
      · split
        · exact (noteMerge_flt ..).trans (activeEnd_flt ..)
        · exact activeEnd_flt ..

/-- What every step of a fold over rounds leaves of their states, the fold leaves. -/
theorem forEach_roundView {α β : Type} {v : State → β} {f : Round → α → Round} (hf : ∀ r a, v (f r a).st = v r.st) :
    ∀ (l : List α) (r : Round), v (forEach l r f).st = v r.st := by
  intro l
  induction l with
  | nil => exact fun r => rfl
  | cons a l ih => exact fun r => (ih (f r a)).trans (hf r a)

@[simp] theorem eoisIn_flt (r : Round) (h : Nat) : (eoisIn r h).st.flt = r.st.flt :=
  (forEach_roundView (v := State.flt) (eoiIn_flt h) ..).trans rfl

@[simp] theorem wiredMerge_flt (r : Round) (h : Nat) : (wiredMerge r h).st.flt = r.st.flt := by
  unfold wiredMerge
  dsimp only
  split
  · rfl
  · split
    · split
      · rfl
      · refine ite_round_flt ?_ ((mergeIn_flt ..).trans ?_)
        · exact ite_round_flt rfl (mergeIn_flt ..)
        · exact ite_round_flt rfl (mergeIn_flt ..)
    · rfl

@[simp] theorem stampSlept_flt (s : State) : (stampSlept s).flt = s.flt := by
  unfold stampSlept
  split <;> rfl

@[simp] theorem dequeue_flt (s : State) (h : Nat) : (dequeue s h).flt = s.flt := by
  unfold dequeue
  split <;> rfl

@[simp] theorem checkedFree_flt (s : State) (h : Nat) : (checkedFree s h).flt = s.flt :=
  (forEach_view (v := State.flt) (f := fun t (x : Slot × Snap) => creditBack t x.1.lane) (fun t x => creditBack_flt t x.1.lane) ..).trans rfl

@[simp] theorem heldFull_flt (s : State) (ev : Ev) : (heldFull s ev).flt = s.flt := by
  unfold heldFull
  dsimp only
  split
  · exact (Logged.jnlRated ..).flt.trans rfl
  · rfl

@[simp] theorem vecCalendar_flt (s : State) (h : Nat) : (vecCalendar s h).flt = s.flt := by
  unfold vecCalendar
  exact ite_flt (calEnter_flt ..) (calLeave_flt ..)

/-! ### What comparisons and reads of rows may do -/

/-- A relation that the comparisons of rounds whose planes agree and the reads of rows keep: every round and every close of a write keeps it then. -/
structure Compares (R : FaultUnit → FaultUnit → Prop) : Prop where
  refl : ∀ f, R f f
  trans : ∀ {f g h}, R f g → R g h → R f h
  cmp : ∀ s h, s.flt.fatal = none → R s.flt (roundCompare s h .agree).1.flt
  read : ∀ s h, s.flt.fatal = none → R s.flt (cacheRead s h).flt

section
variable {R : FaultUnit → FaultUnit → Prop} (hR : Compares R)
include hR

theorem Compares.of_eq {f g : FaultUnit} (h : g = f) : R f g := h ▸ hR.refl f

omit hR in
theorem ite_compares {p : Prop} [Decidable p] {f : FaultUnit} {a b : State} (ha : R f a.flt) (hb : R f b.flt) : R f (if p then a else b).flt := by
  split
  · exact ha
  · exact hb

theorem Compares.fold {α : Type} {g : State → α → State} (hg : ∀ s a, R s.flt (g s a).flt) :
    ∀ (l : List α) (s : State), R s.flt (forEach l s g).flt := by
  intro l
  induction l with
  | nil => exact fun s => hR.refl _
  | cons a l ih => exact fun s => hR.trans (hg s a) (ih (g s a))

theorem Compares.foldRound {α : Type} {g : Round → α → Round} (hg : ∀ r a, R r.st.flt (g r a).st.flt) :
    ∀ (l : List α) (r : Round), R r.st.flt (forEach l r g).st.flt := by
  intro l
  induction l with
  | nil => exact fun s => hR.refl _
  | cons a l ih => exact fun s => hR.trans (hg s a) (ih (g s a))

theorem unlessFatal_compares {f : State → State} {s : State} (hf : s.flt.fatal = none → R s.flt (f s).flt) : R s.flt (unlessFatal s f).flt := by
  unfold unlessFatal
  split
  · exact hR.refl _
  next h => exact hf (Option.not_isSome_iff_eq_none.mp h)

theorem outcomeAt_compares {act : State → Nat → State} (ha : ∀ s h, R s.flt (act s h).flt) (s : State) (h : Nat) (ok : Bool) :
    R s.flt (outcomeAt s h ok act).flt := by
  unfold outcomeAt
  dsimp only
  split
  · exact hR.of_eq (outcomeGather_flt ..)
  next hn =>
    have hfat : s.flt.fatal = none := by
      simp only [laneStopped, Bool.or_eq_true, not_or] at hn
      exact Option.not_isSome_iff_eq_none.mp hn.2
    have hc := hR.cmp s (BitVec.ofNat 24 h) hfat
    split
    · exact hR.trans hc (ha ..)
    · exact hR.trans hc (hR.of_eq (outcomeGather_flt ..))

theorem acceptOne_compares (t : Nat) (s : State) (h : Nat) : R s.flt (acceptOne t s h).flt := by
  have ho := outcomeAt_compares hR (fun s h => hR.of_eq (acceptVec_flt s h)) s h true
  have hd (x : State) : (addDelivered { x with cnt := { x.cnt with delivered := x.cnt.delivered + 1 } } h t).flt = x.flt := addDelivered_flt ..
  unfold acceptOne
  dsimp only
  split
  · rw [fetchVte_flt, hd]
    exact ho
  · rw [hd]
    exact ho

theorem acceptRecs_compares (s : State) (t : Nat) (hs : List Nat) : R s.flt (acceptRecs s t hs).flt := by
  unfold acceptRecs
  dsimp only
  rw [wdogFix_flt]
  exact hR.fold (acceptOne_compares hR t) hs s

theorem acceptRecs_from {s x : State} (hx : x.flt = s.flt) (ts : TargetStore) (t : Nat) (hs : List Nat) :
    R s.flt (acceptRecs { x with ts := ts } t hs).flt :=
  hR.trans (hR.of_eq hx) (acceptRecs_compares hR { x with ts := ts } t hs)

theorem closeWrite_compares (s : State) : R s.flt (closeWrite s).flt := by
  unfold closeWrite
  split
  · exact hR.refl _
  next w _ =>
    have hi := issuedRecs_flt s w
    dsimp only
    refine ite_compares (hR.refl _) (ite_compares ?_ ?_)
    · exact acceptRecs_from hR hi ..
    · split
      · exact hR.of_eq hi
      · exact hR.refl _

theorem closeWriteOf_compares (s : State) (t : Nat) : R s.flt (closeWriteOf s t).flt := by
  unfold closeWriteOf
  split
  · exact ite_compares (closeWrite_compares hR s) (hR.refl _)
  · exact hR.refl _

theorem batchEnd_compares (s : State) (t : Nat) : R s.flt (batchEnd s t).flt := by
  unfold batchEnd
  split
  · exact hR.refl _
  · dsimp only
    have hc := closeWriteOf_compares hR s t
    split
    · rw [sendBell_flt]
      exact hc
    · exact hc

theorem settleStream_compares (s : State) (t : Nat) : R s.flt (settleStream s t).flt := by
  unfold settleStream
  dsimp only
  split
  · rw [heapRefill_flt]
    refine hR.trans (hR.of_eq ?_) (batchEnd_compares hR ..)
    exact ite_flt rfl rfl
  · exact hR.refl _

theorem leaveStream_compares (s : State) (h : Nat) : R s.flt (leaveStream s h).flt := by
  unfold leaveStream
  dsimp only
  split
  · exact hR.refl _
  · split
    · exact hR.refl _
    · exact settleStream_compares hR (vecPut (noteBusy s) h _) _

theorem dropEv_compares (s : State) (h : Nat) : R s.flt (dropEv s h).flt := leaveStream_compares hR s h

/-! ### Changes of entries -/

theorem vteDiscard_compares (s : State) (h : Nat) : R s.flt (vteDiscard s h).flt := by
  unfold vteDiscard
  dsimp only
  rw [addDropped_flt]
  exact dropEv_compares hR s h

theorem vteGens_compares (s : State) (h : Nat) (sn : Snap) (same : Bool) : R s.flt (vteGens s h sn same).flt := by
  have hret : R s.flt (vteRetarget s h sn.cfg).flt := by
    unfold vteRetarget
    dsimp only
    split
    · exact hR.refl _
    · exact ite_compares (hR.refl _) (leaveStream_compares hR s h)
  unfold vteGens
  exact ite_compares hret (hR.refl _)

theorem vteInstall_compares (s : State) (h : Nat) (e : Vte) (n : VteCfg) (c : Change) : R s.flt (vteInstall s h e n c).flt := by
  have hg := vteGens_compares hR (vtePut s h { e with cfg := n, epoch := e.epoch + 1 }) h { cfg := n, epoch := e.epoch + 1 } (decide (n.tenant = e.cfg.tenant))
  have h3 := ite_compares (p := n.valid = true) hg (hR.trans hg (vteDiscard_compares hR _ h))
  unfold vteInstall
  dsimp only
  rw [changeReport_flt]
  refine ite_compares ?_ ?_
  · rw [entryReject_flt, vteStore_flt, pinChange_flt]
    exact h3
  · rw [vteStore_flt, pinChange_flt]
    exact h3

theorem vteApply_compares {s t : State} {h : Nat} {c : Change} (ha : vteApply s h c = some t) : R s.flt t.flt := by
  cases he : vteOn s h with
  | none => simp [vteApply, he] at ha
  | some e =>
    rw [vteApply_eq he] at ha
    split at ha
    · exact hR.of_eq (by rw [← Option.some.inj ha, changeForeign_flt])
    · split at ha
      · exact absurd ha (by simp)
      · split at ha
        · rw [← Option.some.inj ha]
          exact vteInstall_compares hR ..
        · exact hR.of_eq (by rw [← Option.some.inj ha, changeRefused_flt])

theorem vteBoundary_compares (k : Nat) : ∀ (s : State) (h : Nat), R s.flt (vteBoundary k s h).flt := by
  induction k with
  | zero => exact fun s h => hR.refl _
  | succ n ih =>
    intro s h
    unfold vteBoundary
    split
    · exact hR.refl _
    · split
      · exact hR.refl _
      · split
        · exact hR.refl _
        next s1 hs1 => exact hR.trans (vteApply_compares hR hs1) (ih (vecPut s1 h _) h)

theorem tdInstall_compares (s : State) (t : Nat) (g n : Tgt) : R s.flt (tdInstall s t g n).flt := by
  have hput : R s.flt (tgtPut s t (if ringMoves t g n then ringRestart n else n)).flt := hR.refl _
  have h2 := ite_compares (p := (g.enable && !n.enable) = true) (hR.trans hput (batchEnd_compares hR _ t)) hput
  unfold tdInstall
  dsimp only
  rw [tdStore_flt]
  split
  · rw [clearUnreach_flt]
    exact h2
  · rw [wdogFix_flt]
    exact h2

theorem tdApply_compares (s : State) (t : Nat) (c : Change) : R s.flt (tdApply s t c).flt := by
  unfold tdApply
  dsimp only
  refine ite_compares ?_ ?_
  · rw [changeReport_flt]
    exact tdInstall_compares hR ..
  · exact hR.of_eq (changeRefused_flt ..)

theorem tdBoundary_compares (k : Nat) : ∀ (s : State) (t : Nat), R s.flt (tdBoundary k s t).flt := by
  induction k with
  | zero => exact fun s h => hR.refl _
  | succ n ih =>
    intro s t
    unfold tdBoundary
    split
    · exact hR.refl _
    · split
      · exact hR.refl _
      · exact hR.trans (tdApply_compares hR (tgtPut s t _) t _) (ih ..)

omit hR in
theorem groupApply_flt (s : State) (i : Nat) (c : Change) : (groupApply s i c).flt = s.flt := by
  unfold groupApply
  dsimp only
  refine ite_flt ?_ ?_
  · rw [changeReport_flt, apRequest_flt]
    rfl
  · exact changeRefused_flt ..

omit hR in
theorem groupBoundary_flt (k : Nat) : ∀ (s : State) (gi : Nat), (groupBoundary k s gi).flt = s.flt := by
  induction k with
  | zero => exact fun s gi => rfl
  | succ n ih =>
    intro s gi
    unfold groupBoundary
    split
    · rfl
    · rw [ih, groupApply_flt]
      rfl

omit hR in
theorem couchApply_flt (s : State) (g : Nat) (c : Change) : (couchApply s g c).flt = s.flt := by
  unfold couchApply
  dsimp only
  refine ite_flt ?_ ?_
  · rw [changeReport_flt]
    refine ite_flt ?_ ?_
    · rw [entryReject_flt, apRequest_flt, couchChange_flt]
    · rw [apRequest_flt, couchChange_flt]
  · exact changeRefused_flt ..

omit hR in
theorem couchBoundary_flt (k : Nat) : ∀ (s : State) (g : Nat), (couchBoundary k s g).flt = s.flt := by
  induction k with
  | zero => exact fun s g => rfl
  | succ n ih =>
    intro s g
    unfold couchBoundary
    split
    · rfl
    · rw [ih, couchApply_flt]
      rfl

omit hR in
theorem couchDecision_flt (s : State) (g : Nat) (merged : Option Nat) : (couchDecision s g merged).flt = s.flt :=
  (couchDecide_flt ..).trans (couchBoundary_flt ..)

theorem settleAll_compares (s : State) : R s.flt (settleAll s).flt := by
  have hg (x : State) (g : Nat) : (groupTry x g).flt = x.flt := ite_flt (groupBoundary_flt ..) rfl
  have hc (x : State) (g : Nat) : (couchTry x g).flt = x.flt := ite_flt (couchBoundary_flt ..) rfl
  unfold settleAll
  dsimp only
  rw [fenceAll_flt, forEach_view (v := State.flt) hc, forEach_view (v := State.flt) hg]
  exact hR.fold (fun x t => tdBoundary_compares hR ..) ..

/-! ### The round -/

theorem returnOne_compares (s : State) (h : Nat) : R s.flt (returnOne s h).flt := by
  unfold returnOne
  dsimp only
  split
  · exact hR.refl _
  next a _ =>
    split
    · exact ite_compares (leaveStream_compares hR (tgtPut s _ _) h) (hR.refl _)
    · exact hR.refl _

theorem outcomeIn_compares (s : State) (h : Nat) : R s.flt (outcomeIn s h).flt := by
  unfold outcomeIn
  split
  · exact hR.refl _
  · dsimp only
    exact ite_compares (hR.of_eq (acceptVec_flt ..)) (returnOne_compares hR (vecPut s h _) h)

theorem levelWithdraw_compares (s : State) (h : Nat) : R s.flt (levelWithdraw s h).flt := by
  have hd : R s.flt (if isLevelEv (vecOf s h).ev then dropEv s h else s).flt := ite_compares (dropEv_compares hR s h) (hR.refl _)
  unfold levelWithdraw
  dsimp only
  exact ite_compares hd hd

theorem levelOff_compares (r : Round) (h : Nat) : R r.st.flt (levelOff r h).st.flt := by
  unfold levelOff
  split
  · exact ite_compares (levelWithdraw_compares hR (lineNote r.st h false) h) (hR.refl _)
  · exact hR.refl _

theorem levelIn_compares (r : Round) (h : Nat) (sn : Snap) (time : Nat) (on : Bool) : R r.st.flt (levelIn r h sn time on).st.flt := by
  unfold levelIn
  split
  · exact hR.refl _
  · cases on
    · exact levelOff_compares hR r h
    · exact hR.of_eq (levelOn_flt ..)

theorem wiredLevel_compares (r : Round) (h : Nat) : R r.st.flt (wiredLevel r h).st.flt := by
  unfold wiredLevel
  dsimp only
  split
  · exact hR.refl _
  · split
    · split
      · split
        · exact hR.refl _
        · exact levelIn_compares hR ..
      · split <;> exact hR.refl _
    · exact hR.refl _

theorem messageIn_compares (h : Nat) (r : Round) (x : Slot × Snap) : R r.st.flt (messageIn h r x).st.flt := by
  unfold messageIn
  split
  · exact hR.of_eq (mergeIn_flt ..)
  · exact levelIn_compares hR ..
  · exact levelIn_compares hR ..
  · exact hR.refl _

theorem vatIn_compares (r : Round) (h : Nat) : R r.st.flt (vatIn r h).st.flt := by
  unfold vatIn
  split
  · dsimp only
    have hfree : R r.st.flt (checkedFree r.st h).flt := hR.of_eq (checkedFree_flt ..)
    have hl := hR.foldRound (messageIn_compares hR h) ((checkedOf r.st h).filter isLevelMsg) { r with st := checkedFree r.st h }
    exact hR.trans hfree (hR.trans hl (hR.foldRound (messageIn_compares hR h) ..))
  · exact hR.refl _

omit hR in
theorem roundDecide_flt (r : Round) (h : Nat) : (roundDecide r h).flt = r.st.flt := by
  have hd := forEach_view (v := State.flt) (fun x g => couchDecision_flt x g (earliestMerge r.merges g)) (roundCouches r h) r.st
  exact ite_flt hd hd

omit hR in
theorem joinChosen_flt (s : State) (h : Nat) (ev : Ev) : (joinChosen s h ev).flt = s.flt := by
  unfold joinChosen
  split
  · dsimp only
    have hg : (groupSettle s (evGroup ev)).flt = s.flt := groupBoundary_flt ..
    split
    · exact hg
    · exact (joinStream_flt ..).trans hg
  · exact ite_flt rfl (joinStream_flt ..)

theorem candidate_compares (s : State) (h : Nat) : R s.flt (candidate s h).flt := by
  unfold candidate
  dsimp only
  split
  · exact hR.of_eq (vecCalendar_flt ..)
  · refine ite_compares (hR.refl _) ?_
    have hl := leaveStream_compares hR s h
    rw [vecCalendar_flt]
    refine ite_compares ?_ hl
    rw [joinChosen_flt, heldFull_flt]
    exact hl

theorem retreat_compares (s : State) (h : Nat) : R s.flt (retreat s h).flt := by
  unfold retreat
  dsimp only
  split
  · exact hR.of_eq (vecCalendar_flt ..)
  · refine ite_compares (hR.refl _) ?_
    rw [vecCalendar_flt]
    exact leaveStream_compares hR s h

theorem roundInputs_compares (s : State) (h : Nat) : R s.flt (roundInputs s h).st.flt := by
  unfold roundInputs
  dsimp only
  rw [wiredMerge_flt]
  refine hR.trans (outcomeIn_compares hR s h) (hR.trans (vteBoundary_compares hR (vecOf (outcomeIn s h) h).changes.length (outcomeIn s h) h) ?_)
  refine hR.trans ?_ (vatIn_compares hR ..)
  exact hR.trans (hR.of_eq (eoisIn_flt ..)) (wiredLevel_compares hR ..)

theorem roundSettle_compares (r : Round) (h : Nat) : R r.st.flt (roundSettle r h).st.flt := by
  unfold roundSettle
  dsimp only
  refine hR.trans (hR.of_eq ?_) (vteBoundary_compares hR ..)
  rw [promote_flt, roundDecide_flt]

theorem roundEnd_compares (r : Round) (h : Nat) : R r.st.flt (roundEnd r h).flt :=
  hR.trans (ite_compares (retreat_compares hR ..) (candidate_compares hR ..)) (settleAll_compares hR _)

theorem roundEois_compares (s : State) (h : Nat) : R s.flt (roundEois s h).flt := by
  have he : R s.flt (eoisIn { st := s, merges := [], defer := false } h).st.flt := hR.of_eq (eoisIn_flt { st := s, merges := [], defer := false } h)
  exact hR.trans he (hR.trans (roundSettle_compares hR ..) (hR.trans (retreat_compares hR ..) (settleAll_compares hR _)))

theorem roundFetch_compares (s : State) (h : Nat) : R s.flt (roundFetch s h).flt := by
  have he : R s.flt (roundEarly s h).flt := by
    unfold roundEarly
    dsimp only
    exact ite_compares (hR.trans (outcomeIn_compares hR s h) (roundEois_compares hR ..)) (outcomeIn_compares hR s h)
  unfold roundFetch
  dsimp only
  refine ite_compares ?_ (ite_compares ?_ he)
  · rw [fetchVte_flt]
    exact he
  · rw [spillFetch_flt]
    exact he

theorem roundCommit_compares (s : State) (h : Nat) : R s.flt (roundCommit s h).flt := by
  have h0 : R s.flt (stampSlept (dequeue s h)).flt := hR.of_eq (by rw [stampSlept_flt, dequeue_flt])
  unfold roundCommit
  dsimp only
  refine ite_compares (hR.refl _) (ite_compares ?_ ?_)
  · exact hR.trans h0 (roundFetch_compares hR ..)
  · exact hR.trans h0 (hR.trans (roundInputs_compares hR ..) (hR.trans (roundSettle_compares hR ..) (roundEnd_compares hR ..)))

theorem roundAt_compares (s : State) (h : Nat) : R s.flt (roundAt s h).flt :=
  unlessFatal_compares hR fun hf => hR.trans (hR.read s h hf) (unlessFatal_compares hR fun _ => roundCommit_compares hR ..)

theorem laneRounds_compares (s : State) (h : Nat) : R s.flt (laneRounds s h).flt :=
  hR.fold (fun x k => hR.trans (hR.fold (roundAt_compares hR) (risen x k) x) (roundAt_compares hR ..)) ..

end

/-! ### Two instances -/

/-- Once a fatal fault is in force, rounds and closing writes leave the collector. -/
theorem compares_fatal : Compares fun f g => f.fatal.isSome = true → g = f where
  refl _ _ := rfl
  trans h k hf := by
    have e := h hf
    subst e
    exact k hf
  cmp _ _ hn hf := absurd hf (by simp [hn])
  read _ _ hn hf := absurd hf (by simp [hn])

theorem roundCompare_quiet {s : State} (hi : s.flt.inject = none) (ht : s.flt.selfTest = none) (h : BitVec 24) : roundCompare s h .agree = (s, true) := by
  unfold roundCompare
  simp only [hi, ht]
  split <;> simp

/-- With no injection armed and no self-test awaited, rounds of planes that agree leave the collector. -/
theorem compares_quiet : Compares fun f g => f.inject = none → f.selfTest = none → g = f where
  refl _ _ _ := rfl
  trans h k hi ht := by
    have e := h hi ht
    subst e
    exact k hi ht
  cmp s h _ hi ht := by rw [roundCompare_quiet hi ht]
  read s h _ hi _ := by rw [cacheRead_of_noInject hi]

/-- What every step of a fold keeps, the fold keeps. -/
theorem forEach_preserves {α : Type} {P : State → Prop} {f : State → α → State} (hf : ∀ t a, P t → P (f t a)) :
    ∀ (l : List α) {s : State}, P s → P (forEach l s f) := by
  intro l
  induction l with
  | nil => exact fun h => h
  | cons a r ih => exact fun h => ih (hf _ a h)

theorem roundAt_inner_of_quiet {d : Fin 4 → Int} {s t : State} (h : Nat) (hk : Inner d s t) (hi : t.flt.inject = none) : Inner d s (roundAt t h) := by
  refine unlessFatal_inner hk ?_
  show Inner d s (unlessFatal (cacheRead t h) fun s => roundCommit s h)
  rw [cacheRead_of_noInject hi]
  exact unlessFatal_inner hk (roundCommit_inner h hk)

/-- With nothing armed and nothing awaited, the rounds of a lane are inner operations (R142, R156). -/
theorem laneRounds_inner_of_quiet (s : State) (h : Nat) (hi : s.flt.inject = none) (ht : s.flt.selfTest = none) :
    Inner noGain s (laneRounds s h) := by
  have hround (t : State) (a : Nat) (hk : Inner noGain s t ∧ t.flt = s.flt) : Inner noGain s (roundAt t a) ∧ (roundAt t a).flt = s.flt := by
    obtain ⟨hk, hf⟩ := hk
    refine ⟨roundAt_inner_of_quiet a hk (by rw [hf]; exact hi), ?_⟩
    exact (roundAt_compares compares_quiet t a (by rw [hf]; exact hi) (by rw [hf]; exact ht)).trans hf
  have hall : Inner noGain s (laneRounds s h) ∧ (laneRounds s h).flt = s.flt :=
    forEach_preserves (P := fun t => Inner noGain s t ∧ t.flt = s.flt)
      (fun t a hk => hround _ a (forEach_preserves hround (risen t a) hk)) _ ⟨Inner.refl s, rfl⟩
  exact hall.1

/-! ### A plane that is fenced -/

/-- Where degraded operation is allowed, a fence is one deferred fault (R165, R322). -/
theorem fencePlane_degrades {s : State} (hd : s.ctl.degradeEn = true) (hf : s.ctl.deferFatal = false) (hi : s.flt.inject = none)
    (hfat : s.flt.fatal = none) (plane : BitVec 2) (arg : BitVec 24) (lane handle : Word) (inj : Bool) :
    offJournal (fencePlane s plane arg lane handle inj)
      = offJournal { faultCount (pollSum { s with flt := { s.flt with fenced := plane } }) 2 0x17 arg (sourceFlag 0x17) inj with free := s.free + 1 } := by
  let s0 : State := { s with flt := { s.flt with fenced := plane } }
  have hcount : deferredCount (pollSum s0) 0x17 arg inj = faultCount (pollSum s0) 2 0x17 arg (sourceFlag 0x17) inj := if_neg (by simp [s0, pollSum, hf])
  have hnf : ¬ (faultCount (pollSum s0) 2 0x17 arg (sourceFlag 0x17) inj).flt.fatal.isSome = true := by
    show ¬ s.flt.fatal.isSome = true
    simp [hfat]
  have hs0 : ({ s with flt := { s.flt with fenced := plane, inject := none } } : State) = s0 := by
    rw [← hi]
  unfold fencePlane
  rw [if_neg (by simp [hd])]
  simp only [hi, Bool.false_eq_true, if_false, hs0, hcount]
  rw [if_neg hnf]
  exact jnlPut_offJournal ..

end Sys2Proof.Machine

namespace Sys2Proof

open Sys2Proof.Machine

/-- Settles O26: the outcome by the two results; the lane's rounds that follow leave the collector, since nothing is armed or awaited. -/
theorem selfTestDecides : Obligations.SelfTestDecides := by
  intro s r a b c hr ht hf
  have hexec (x : State) (hx : rounding x = true) (a b c : Bool) : exec (.selfTest a b c) x = .next (selfTestEnd x a b c) :=
    congrArg Host.Outcome.next (if_pos hx)
  have hfat : s.flt.fatal = none := by
    simp only [rounding, Bool.and_eq_true, Option.isNone_iff_eq_none] at hr
    exact hr.2
  let s1 : State := { s with flt := { s.flt with selfTest := none, failPlane := 0 } }
  have hend (a b c : Bool) : selfTestEnd s a b c =
      if a && b then (if c then laneRounds (corrected s1 0x02 (laneOf r.h.toNat) false) r.h.toNat else fatalFault s1 0x20 0 false)
      else if !a && !b then fatalFault s1 0x21 0 false
      else if (fencePlane s1 (if a then 2 else 1) (laneOf r.h.toNat) (w32 (r.h.toNat % 4)) (w32 r.h.toNat) false).flt.fatal.isSome then
        fencePlane s1 (if a then 2 else 1) (laneOf r.h.toNat) (w32 (r.h.toNat % 4)) (w32 r.h.toNat) false
      else laneRounds (fencePlane s1 (if a then 2 else 1) (laneOf r.h.toNat) (w32 (r.h.toNat % 4)) (w32 r.h.toNat) false) r.h.toNat := by
    unfold selfTestEnd
    simp [ht, hf, s1]
  have hrounds {x : State} (n : Nat) (hi : x.flt.inject = none) (hs : x.flt.selfTest = none) : (laneRounds x n).flt = x.flt :=
    laneRounds_compares compares_quiet x n hi hs
  have hnames {src : BitVec 8} : (fatalFault s1 src 0 false).flt.fatal = some { source := src, detail := 0, blind := false, injected := false } := by
    rw [fatalFault_flt]
    simp [s1, hfat]
  refine ⟨fun hab hde hdf hi => ?_, fun hab hde => ?_, ?_, ?_, fun hi => ?_, ?_⟩
  · have hoff := fencePlane_degrades (s := s1) hde hdf hi hfat (if a then 2 else 1) (laneOf r.h.toNat) (w32 (r.h.toNat % 4)) (w32 r.h.toNat) false
    have hx := congrArg State.flt hoff
    let x := fencePlane s1 (if a then 2 else 1) (laneOf r.h.toNat) (w32 (r.h.toNat % 4)) (w32 r.h.toNat) false
    have hxflt : x.flt = (faultCount (pollSum { s1 with flt := { s1.flt with fenced := if a then 2 else 1 } }) 2 0x17 (laneOf r.h.toNat) (sourceFlag 0x17) false).flt := hx
    have hinner := laneRounds_inner_of_quiet x r.h.toNat (by rw [hxflt]; exact hi) (by rw [hxflt]; rfl)
    have hl : (laneRounds x r.h.toNat).flt = x.flt := hrounds _ (by rw [hxflt]; exact hi) (by rw [hxflt]; rfl)
    have hnofat : ¬ x.flt.fatal.isSome = true := by
      rw [hxflt]
      show ¬ s.flt.fatal.isSome = true
      simp [hfat]
    refine ⟨laneRounds x r.h.toNat, (hexec s hr a b c).trans (congrArg Host.Outcome.next ((hend a b c).trans ?_)), ?_, ?_, ?_, ?_, ?_, ?_,
      hinner.ctl.trans (congrArg State.ctl hoff :), hinner.tm.trans (congrArg State.tm hoff :)⟩
    · have hand : (a && b) = false ∧ (!a && !b) = false := by
        cases a <;> cases b <;> simp at hab ⊢
      rw [if_neg (by simp [hand.1]), if_neg (by simp [hand.2])]
      exact if_neg hnofat
    · rw [hl, hxflt]; rfl
    · rw [hl, hxflt]; rfl
    · rw [hl, hxflt]
      exact has_faultCount (by decide)
    · rw [hl, hxflt]
      exact has_faultCount (by decide)
    · rw [hl, hxflt]; rfl
    · rw [hl, hxflt]; rfl
  · have hplane (p : BitVec 2) (arg : BitVec 24) (l h : Word) : fencePlane s1 p arg l h false = fatalFault s1 0x23 0 false := by
      unfold fencePlane
      rw [if_pos]
      show (!s.ctl.degradeEn) = true
      simp [hde]
    obtain ⟨flt, ao, hrest⟩ := fatalFault_rest s1 0x23 0 false
    refine ⟨fatalFault s1 0x23 0 false, _, (hexec s hr a b c).trans (congrArg Host.Outcome.next ((hend a b c).trans ?_)), hnames, rfl, rfl, ?_, ?_⟩
    · have hand : (a && b) = false ∧ (!a && !b) = false := by
        cases a <;> cases b <;> simp at hab ⊢
      rw [if_neg (by simp [hand.1]), if_neg (by simp [hand.2]), hplane]
      exact if_pos (by rw [hnames]; rfl)
    · rw [hrest]
    · rw [hrest]
  · obtain ⟨flt, ao, hrest⟩ := fatalFault_rest s1 0x21 0 false
    exact ⟨fatalFault s1 0x21 0 false, _, (hexec s hr false false c).trans (congrArg Host.Outcome.next (hend false false c)), hnames, rfl,
      by rw [hrest], by rw [hrest]⟩
  · obtain ⟨flt, ao, hrest⟩ := fatalFault_rest s1 0x20 0 false
    exact ⟨fatalFault s1 0x20 0 false, _, (hexec s hr true true false).trans (congrArg Host.Outcome.next (hend true true false)), hnames, rfl,
      by rw [hrest], by rw [hrest]⟩
  · have hoff := corrected_offJournal s1 0x02 (laneOf r.h.toNat) false
    have hx : (corrected s1 0x02 (laneOf r.h.toNat) false).flt = (faultCount s1 1 0x02 (laneOf r.h.toNat) (sourceFlag 0x02) false).flt := (congrArg State.flt hoff :)
    have hl : (laneRounds (corrected s1 0x02 (laneOf r.h.toNat) false) r.h.toNat).flt = (corrected s1 0x02 (laneOf r.h.toNat) false).flt :=
      hrounds _ (by rw [hx]; exact hi) (by rw [hx]; rfl)
    refine ⟨laneRounds (corrected s1 0x02 (laneOf r.h.toNat) false) r.h.toNat,
      (hexec s hr true true true).trans (congrArg Host.Outcome.next (hend true true true)), ?_, ?_, ?_⟩
    · rw [hl, hx]; rfl
    · rw [hl, hx]; rfl
    · rw [hl, hx]; rfl
  · have hr' : rounding { s with flt := { s.flt with selfTest := none } } = true := hr
    exact (hexec _ hr' a b c).trans rfl

end Sys2Proof
end

section
/-! PROOF. The entry into SAFE: its record, and what stands over it (R318, R323, R324, R340). -/

namespace Sys2Proof.Machine

/-! ### The record -/

theorem wd16_mkRec_zero (code : Byte) (arg : BitVec 24) (w1 : Word) (t : Nat) (ws : List (Nat × Word)) :
    wd16 (mkRec code arg w1 t ws) 0 = at_ 32 24 code ||| at_ 32 0 arg := by
  simp [wd16, mkRec, Vector.getD]

theorem wd16_mkRec_word (code : Byte) (arg : BitVec 24) (w1 : Word) (t : Nat) (ws : List (Nat × Word)) {i : Nat} (h : 4 ≤ i) (hi : i < 16) :
    wd16 (mkRec code arg w1 t ws) i = (find ws i).getD 0 := by
  have he : wd16 (mkRec code arg w1 t ws) i = (mkRec code arg w1 t ws)[i] := by simp [wd16, Vector.getD, hi]
  rw [he, mkRec, Vector.getElem_ofFn]
  dsimp only
  rw [if_neg (by omega), if_neg (by omega), if_neg (by omega), if_neg (by omega)]

/-- The low field of a word that holds a wider one. -/
theorem fld_at_low {m : Nat} (w n : Nat) (f : BitVec m) (h : n ≤ w) : fld (at_ w 0 f) 0 n = fld f 0 n := by
  refine BitVec.eq_of_getLsbD_eq fun i hi => ?_
  have h1 : i < w := by omega
  simp [fld, at_, hi, h1]

/-- Word 0 of a last-gasp record names its source (R340). -/
theorem lastGaspRec_source (s : State) (code source : BitVec 8) (detail : BitVec 24) (blind inj : Bool) (safe : BitVec 8) (mode : Word)
    (modeCode : BitVec 4) (lost : Nat) : fld (wd16 (lastGaspRec s code source detail blind inj safe mode modeCode lost) 0) 0 8 = source := by
  rw [lastGaspRec, wd16_mkRec_zero, fld_or, fld_at_apart _ _ _ _ _ (by decide), fld_at_low _ _ _ (by decide), fld_or, fld_or,
    fld_at_apart _ _ _ _ _ (by decide), fld_at_apart _ _ _ _ _ (by decide), fld_at_same _ _ _ (by decide)]
  simp

/-- A record of the collector's own error shows no classification (R323, R340). -/
theorem lastGaspRec_blind (s : State) (code source : BitVec 8) (detail : BitVec 24) (inj : Bool) (safe : BitVec 8) (mode : Word)
    (modeCode : BitVec 4) (lost : Nat) :
    wd16 (lastGaspRec s code source detail true inj safe mode modeCode lost) 4 = 0
      ∧ wd16 (lastGaspRec s code source detail true inj safe mode modeCode lost) 5 = 0 := by
  constructor <;> rw [lastGaspRec, wd16_mkRec_word _ _ _ _ _ (by decide) (by decide)] <;> rfl

/-- The record that SAFE owes of a fatal fault. -/
def fatalRec (s : State) (f : Fatal) : Rec :=
  lastGaspRec (gaspTime (lastGaspWrite s) f.source) (if f.source = 0x2A then 0x84 else 0x83) f.source f.detail f.blind f.injected
    ((lastGaspWrite s).ao.safeCount + 1) (modeWord (lastGaspWrite s)) (lastGaspWrite s).md.mode.code (occupied (lastGaspWrite s))

theorem safeEnter_eq {s : State} {f : Fatal} (hf : s.flt.fatal = some f) (completes : Bool) :
    safeEnter s completes = { setMode (safeDiscard (beforeDiscard s completes)) .safe with
      ao := { (beforeDiscard s completes).ao with aliveRun := false, lgDue := some (fatalRec s f) } } := by
  simp only [safeEnter, hf]
  rfl

/-! ### What stands before the discard -/

theorem heldDone_md (s : State) : (heldDone s).md = s.md := by unfold heldDone; split <;> simp
theorem heldDone_ctl (s : State) : (heldDone s).ctl = s.ctl := by unfold heldDone; split <;> simp
theorem heldDone_tm (s : State) : (heldDone s).tm = s.tm := by unfold heldDone; split <;> simp
theorem heldDone_ao (s : State) : (heldDone s).ao = s.ao := by unfold heldDone; split <;> simp
theorem heldDone_flt (s : State) : (heldDone s).flt = s.flt := by unfold heldDone; split <;> simp

theorem openEnd_inner (s : State) (completes : Bool) : Inner noGain s (openEnd s completes) := by
  have h : Inner noGain s (if completes then closeWrite s else s) := ite_inner (closeWrite_inner (.refl s)) (.refl s)
  exact { h with }

/-- While a fatal fault is in force, what closes the open write leaves the collector (R318). -/
theorem openEnd_flt {s : State} (hf : s.flt.fatal.isSome = true) (completes : Bool) : (openEnd s completes).flt = s.flt := by
  show (if completes then closeWrite s else s).flt = s.flt
  split
  · exact closeWrite_compares compares_fatal s hf
  · rfl

/-- Outside SAFE a last-gasp record is written without the journal's copy (R324 step 6). -/
theorem lastGaspWrite_of_mode {s : State} (hm : s.md.mode ≠ .safe) : lastGaspWrite s = lastGaspSlot s := by
  unfold lastGaspWrite
  split
  next h => simp only [lastGaspSlot, h]
  next r h =>
    have hslot : (lastGaspSlot s).md = s.md := by simp only [lastGaspSlot, h]
    exact if_neg (by simp [gaspCopies, hslot, hm])

/-- The AO island's last-gasp unit is all that the record's write changes. -/
theorem lastGaspSlot_rest (s : State) : ∃ ao, lastGaspSlot s = { s with ao := ao }  ∧ ao.sbKey = s.ao.sbKey := by
  unfold lastGaspSlot
  split
  · exact ⟨s.ao, rfl, rfl⟩
  · exact ⟨_, rfl, rfl⟩

/-- Outside SAFE and under a fatal fault, only the AO island's last-gasp unit has changed before the discard. -/
structure DiscardFrame (s t : State) : Prop where
  md : t.md = s.md
  ctl : t.ctl = s.ctl
  tm : t.tm = s.tm
  flt : t.flt = s.flt
  ao : aoRest t.ao = aoRest (lastGaspSlot s).ao

theorem beforeDiscard_frame {s : State} (hm : s.md.mode ≠ .safe) (hf : s.flt.fatal.isSome = true) (completes : Bool) :
    DiscardFrame s (beforeDiscard s completes) := by
  obtain ⟨ao, hslot, -⟩ := lastGaspSlot_rest s
  have hopen := openEnd_inner (lastGaspSlot s) completes
  have hflt : (openEnd (lastGaspSlot s) completes).flt = s.flt :=
    (openEnd_flt (by rw [hslot]; exact hf) completes).trans (by rw [hslot])
  rw [beforeDiscard, lastGaspWrite_of_mode hm]
  exact ⟨(heldDone_md _).trans (hopen.md.trans (by rw [hslot])), (heldDone_ctl _).trans (hopen.ctl.trans (by rw [hslot])),
    (heldDone_tm _).trans (hopen.tm.trans (by rw [hslot])), (heldDone_flt _).trans hflt, by rw [heldDone_ao]; exact hopen.ao⟩

end Sys2Proof.Machine

namespace Sys2Proof

open Sys2Proof.Machine

/-- Settles O57: SAFE is entered by the fault in force, or by the collector's own where none is. -/
theorem fatalFaultEntersSafe : Obligations.FatalFaultEntersSafe := by
  intro s c hl
  have hm : s.md.mode ≠ .safe := by
    simp only [live, Bool.and_eq_true, decide_eq_true_eq] at hl
    exact hl.2
  have hexec (parity : Bool) : exec (.safeEntry parity c) s = .next (safeEnter (if parity then collectorFault s false else s) c) :=
    congrArg Host.Outcome.next (if_pos hl)
  refine ⟨fun f hf => ?_, fun f r hf hr => ?_, fun hf => ?_, fun hf => ?_⟩
  · have b := beforeDiscard_frame hm (show s.flt.fatal.isSome = true by rw [hf]; rfl) c
    refine ⟨_, (hexec false).trans (congrArg Host.Outcome.next (safeEnter_eq hf c)), rfl, ?_, rfl, rfl, rfl, rfl, rfl, rfl, rfl, rfl, ?_, b.tm, b.ctl⟩
    · exact (congrArg ModeUnit.mode b.md :)
    · exact (congrArg ModeUnit.lock b.md :)
  · have b := beforeDiscard_frame hm (show s.flt.fatal.isSome = true by rw [hf]; rfl) c
    have hdue : gaspDue s = some ((r.set 7 s.tm.aoCount).set 10 (w32 (s.ao.lgNum + 1))) := by rw [gaspDue, hr]; rfl
    have hnum : (beforeDiscard s c).ao.lgNum = s.ao.lgNum + 1 :=
      (congrArg AoUnit.lgNum b.ao :).trans (by simp only [lastGaspSlot, hdue, aoRest])
    have hlg : (beforeDiscard s c).ao.lg = s.ao.lg.setIfInBounds (s.ao.lgNum % 4) (some ((r.set 7 s.tm.aoCount).set 10 (w32 (s.ao.lgNum + 1)))) :=
      (congrArg AoUnit.lg b.ao :).trans (by simp only [lastGaspSlot, hdue, aoRest])
    refine ⟨_, (r.set 7 s.tm.aoCount).set 10 (w32 (s.ao.lgNum + 1)), fatalRec s f,
      (hexec false).trans (congrArg Host.Outcome.next (safeEnter_eq hf c)), hnum, ?_, ?_, rfl, lastGaspRec_source ..⟩
    · show (beforeDiscard s c).ao.lg.getD _ none = _
      rw [hlg]
      exact lg_set_same _ (Nat.mod_lt _ (by decide)) _
    · rw [wd16_set_ne _ (by decide) (by decide) (by decide), wd16_set_ne _ (by decide) (by decide) (by decide)]
  · exact (hexec false).trans (congrArg Host.Outcome.next (safeEnter_of_none hf c))
  · let f : Fatal := { source := 0x24, detail := 0, blind := true, injected := false }
    let x : State := { s with flt := { s.flt with fatal := some f } }
    have hx : collectorFault s false = x := if_neg (by simp [hf])
    have b := beforeDiscard_frame (s := x) hm rfl c
    have hblind := lastGaspRec_blind (gaspTime (lastGaspWrite x) 0x24) 0x83 0x24 0 false ((lastGaspWrite x).ao.safeCount + 1)
      (modeWord (lastGaspWrite x)) (lastGaspWrite x).md.mode.code (occupied (lastGaspWrite x))
    refine ⟨_, fatalRec x f, (hexec true).trans (congrArg Host.Outcome.next ((congrArg (safeEnter · c) hx).trans (safeEnter_eq (s := x) rfl c))),
      rfl, rfl, lastGaspRec_source .., hblind.1, hblind.2, ?_, ?_, ?_⟩
    · exact (congrArg FaultUnit.first b.flt :)
    · exact (congrArg FaultUnit.corr b.flt :)
    · exact (congrArg FaultUnit.defer b.flt :)

end Sys2Proof
end

section
/-! PROOF. Power-on reset and block reset (R86, R87, R295, R300, R322, R333). -/

namespace Sys2Proof.Machine

/-! ### The throttle level at the end of a reset -/

/-- The level that the pins present is taken, whatever level stood. -/
theorem wakeThrottle_eq {s : State} (hf : s.flt = State.fltReset) :
    ∃ pw, wakeThrottle s = { s with pw := pw } ∧ pw.throttle = s.pw.thrPin := by
  have hclear (x : State) (hx : x.flt = State.fltReset) : cdcClear x .throttle 0 = x := by
    obtain ⟨⟩ := x
    subst hx
    rfl
  unfold wakeThrottle
  split
  next h => exact ⟨s.pw, hclear s hf, h.symm⟩
  next => exact ⟨_, hclear (throttleTake s s.pw.thrPin) hf, rfl⟩

/-! ### The self-test at the end of a reset -/

/-- The two results settle the fence, and what is reported of it (R322, assumption log 33). -/
theorem planeTest_after_reset {s : State} (hc : s.ctl = State.ctlReset) (hf : s.flt = State.fltReset) (a b : Bool) :
    (planeTest s a b).md = s.md ∧ (planeTest s a b).ao.porst = s.ao.porst ∧ (planeTest s a b).flt.fenced = (if a = b then 0 else if a then 2 else 1)
      ∧ (a = false → b = false → ∃ f, (planeTest s a b).flt.fatal = some f ∧ f.source = 0x21)
      ∧ (a ≠ b → (planeTest s a b).flt.defer = 1 ∧ (planeTest s a b).flt.sum.has 5 = true ∧ (planeTest s a b).flt.fatal = none) := by
  have hone (plane : BitVec 2) : (fencePlane s plane 0xFFFFFF 0 0xFFFFFFFF false).md = s.md
      ∧ (fencePlane s plane 0xFFFFFF 0 0xFFFFFFFF false).ao.porst = s.ao.porst ∧ (fencePlane s plane 0xFFFFFF 0 0xFFFFFFFF false).flt.fenced = plane
      ∧ (fencePlane s plane 0xFFFFFF 0 0xFFFFFFFF false).flt.defer = 1 ∧ (fencePlane s plane 0xFFFFFF 0 0xFFFFFFFF false).flt.sum.has 5 = true
      ∧ (fencePlane s plane 0xFFFFFF 0 0xFFFFFFFF false).flt.fatal = none := by
    have hoff := fencePlane_degrades (s := s) (by rw [hc]; rfl) (by rw [hc]; rfl) (by rw [hf]; rfl) (by rw [hf]; rfl) plane 0xFFFFFF 0 0xFFFFFFFF false
    have hflt := congrArg State.flt hoff
    refine ⟨(congrArg State.md hoff :), (congrArg (fun t => t.ao.porst) hoff :), (congrArg FaultUnit.fenced hflt :), ?_, ?_, ?_⟩
    · refine (congrArg FaultUnit.defer hflt :).trans ?_
      show satAdd s.flt.defer 1 = 1
      rw [hf]
      decide
    · rw [show (fencePlane s plane 0xFFFFFF 0 0xFFFFFFFF false).flt = _ from hflt]
      exact has_faultCount (by decide)
    · refine (congrArg FaultUnit.fatal hflt :).trans ?_
      show s.flt.fatal = none
      rw [hf]
      rfl
  cases a <;> cases b
  case true.true =>
    have hpass : planeTest s true true = s := rfl
    rw [hpass, hf]
    exact ⟨rfl, rfl, rfl, by simp, by simp⟩
  case false.false =>
    refine ⟨rfl, rfl, ?_, fun _ _ => ⟨_, (fatalFault_flt s 0x21 0 false :), ?_⟩, by simp⟩
    · show s.flt.fenced = 0
      rw [hf]
      rfl
    · rw [hf]
      rfl
  case true.false =>
    obtain ⟨h1, h2, h3, h4⟩ := hone 2
    exact ⟨h1, h2, h3, by simp, fun _ => h4⟩
  case false.true =>
    obtain ⟨h1, h2, h3, h4⟩ := hone 1
    exact ⟨h1, h2, h3, by simp, fun _ => h4⟩

/-- A block reset that is asked for while none is under way (R87). -/
theorem resetRequest_asks {s : State} (h : s.ao.resetting = false) : (resetRequest s).ao.resetting = true ∧ (resetRequest s).md = s.md := by
  unfold resetRequest
  rw [if_neg (by simp [h])]
  dsimp only
  split
  · exact ⟨rfl, rfl⟩
  · exact ⟨rfl, rfl⟩

/-! ### What a block reset keeps of what it still owes -/

theorem heldDone_thrPin (s : State) : (heldDone s).pw.thrPin = s.pw.thrPin := by unfold heldDone; split <;> simp

theorem lastGaspSlot_keeps_inputs (s : State) : (lastGaspSlot s).pw.thrPin = s.pw.thrPin ∧ (lastGaspSlot s).ao.sbKey = s.ao.sbKey := by
  obtain ⟨ao, he, hk⟩ := lastGaspSlot_rest s
  rw [he]
  exact ⟨rfl, hk⟩

/-- What a reset still owes leaves the throttle pins and the sideband's key (R333). -/
theorem resetOwed_keeps_inputs (s : State) : (resetOwed s).pw.thrPin = s.pw.thrPin ∧ (resetOwed s).ao.sbKey = s.ao.sbKey := by
  unfold resetOwed
  obtain ⟨h1, h2⟩ := lastGaspSlot_keeps_inputs (if s.flt.fatal.isSome && decide (s.md.mode ≠ .safe) then safeEnter s false else s)
  rw [h1, h2]
  split
  next h =>
    simp only [Bool.and_eq_true, decide_eq_true_eq] at h
    obtain ⟨hf, hm⟩ := h
    obtain ⟨f, hf⟩ := Option.isSome_iff_exists.mp hf
    obtain ⟨k1, k2⟩ := lastGaspSlot_keeps_inputs s
    have hopen := openEnd_inner (lastGaspSlot s) false
    have hb : beforeDiscard s false = heldDone (openEnd (lastGaspSlot s) false) := by rw [beforeDiscard, lastGaspWrite_of_mode hm]
    rw [safeEnter_eq hf]
    constructor
    · show (beforeDiscard s false).pw.thrPin = _
      rw [hb, heldDone_thrPin, hopen.pw, k1]
    · show (beforeDiscard s false).ao.sbKey = _
      rw [hb, heldDone_ao]
      exact (congrArg AoUnit.sbKey hopen.ao :).trans k2
  next => exact ⟨rfl, rfl⟩

/-- What a block reset has cleared, before the planes' self-test. -/
def resetCleared (s : State) : State := wakeThrottle { resetCore (resetOwed s) (resetTime s) with md := State.mdReset }

theorem resetCleared_eq (s : State) : ∃ pw, resetCleared s = { resetCore (resetOwed s) (resetTime s) with md := State.mdReset, pw := pw }
    ∧ pw.throttle = s.pw.thrPin := by
  obtain ⟨pw, he, ht⟩ := wakeThrottle_eq (s := { resetCore (resetOwed s) (resetTime s) with md := State.mdReset }) rfl
  exact ⟨pw, he, ht.trans (resetOwed_keeps_inputs s).1⟩

end Sys2Proof.Machine

namespace Sys2Proof

open Sys2Proof.Machine

/-- Settles O49: the two resets' clearings, and then the self-test on a cleared collector. -/
theorem resetsEndInUnformed : Obligations.ResetsEndInUnformed := by
  have hporst (s : State) : ∃ pw, wakeThrottle (porst s) = { porst s with pw := pw } ∧ pw.throttle = s.pw.thrPin :=
    wakeThrottle_eq (s := porst s) rfl
  refine ⟨fun s => ⟨⟨_, rfl, rfl, rfl⟩, fun hp => ?_, fun a b hp => ?_, fun a b hp => ?_, fun hp hm => ?_⟩, fun s w hm => ⟨fun hd hw hr => ?_, fun hr ha => ?_⟩,
    fun s a b hm hr ha => ?_⟩
  · obtain ⟨pw, he, ht⟩ := hporst s
    refine ⟨planeTest (wakeThrottle (porst s)) true true, congrArg Host.Outcome.next (if_pos hp), ?_⟩
    rw [show planeTest (wakeThrottle (porst s)) true true = { porst s with pw := pw } from he]
    exact ⟨rfl, rfl, rfl, rfl, rfl, rfl, rfl, rfl, ht⟩
  · exact congrArg Host.Outcome.next (if_neg (by simp [hp]))
  · obtain ⟨pw, he, -⟩ := hporst s
    obtain ⟨h1, h2, h3, h4, h5⟩ := planeTest_after_reset (s := wakeThrottle (porst s)) (by rw [he]; rfl) (by rw [he]; rfl) a b
    exact ⟨_, congrArg Host.Outcome.next (if_pos hp), (congrArg ModeUnit.mode h1).trans (by rw [he]; rfl), h2.trans (by rw [he]; rfl), h3, h4, h5⟩
  · exact congrArg Host.Outcome.next ((if_neg (by simp [hp])).trans (if_pos hm))
  · obtain ⟨hreq, hmd⟩ := resetRequest_asks hr
    have hmgmt : resetCmd s .mgmt w = resetRequest s := if_pos hw
    have hsec : resetCmd s .sec w = resetRequest s := if_pos hw
    refine ⟨_, _, congrArg Host.Outcome.next ((writeAt_of_answers hd ..).trans (congrArg (portDone · .mgmt) hmgmt)), ?_, ?_,
      congrArg Host.Outcome.next ((writeAt_of_answers hd ..).trans (congrArg (portDone · .sec) hsec)), ?_, ?_⟩
    · rw [portDone_ao, hreq]
    · rw [portDone_md, hmd]
    · rw [portDone_ao, hreq]
    · rw [portDone_md, hmd]
  · obtain ⟨pw, he, ht⟩ := resetCleared_eq s
    refine ⟨resetCleared s, congrArg Host.Outcome.next (if_pos (by simp [hm, hr, ha])), ?_⟩
    rw [he]
    exact ⟨rfl, rfl, rfl, rfl, rfl, rfl, rfl, rfl, ht, rfl, rfl, (resetOwed_keeps_inputs s).2⟩
  · obtain ⟨pw, he, -⟩ := resetCleared_eq s
    obtain ⟨h1, -, h3, h4, h5⟩ := planeTest_after_reset (s := resetCleared s) (by rw [he]; rfl) (by rw [he]; rfl) a b
    refine ⟨_, congrArg Host.Outcome.next (if_pos (by simp [hm, hr, ha])), ?_, h3, h4, fun hne => ⟨(h5 hne).1, (h5 hne).2.1⟩⟩
    show (planeTest (resetCleared s) a b).md.mode = .unformed
    rw [h1, he]
    rfl

end Sys2Proof
end

section
/-! PROOF. Fault injection (R321). -/

namespace Sys2Proof.Machine

/-! ### The disagreement of a crossing -/

/-- Counting a fault leaves the tables, the settings, the mode, and the crossings that are in deferred fault. -/
structure OnlyCounts (s t : State) : Prop where
  md : t.md = s.md
  vs : t.vs = s.vs
  ts : t.ts = s.ts
  ctl : t.ctl = s.ctl
  cdc : t.flt.cdc = s.flt.cdc

theorem OnlyCounts.trans {s t u : State} (h : OnlyCounts s t) (k : OnlyCounts t u) : OnlyCounts s u :=
  ⟨k.md.trans h.md, k.vs.trans h.vs, k.ts.trans h.ts, k.ctl.trans h.ctl, k.cdc.trans h.cdc⟩

theorem OnlyCounts.of_faultCount {s x t : State} {runs : List (Crossing × Seen)} (hx : x = { s with flt := { s.flt with runs := runs } }) {cls : BitVec 2}
    {src : BitVec 8} {arg m : BitVec 24} {inj : Bool} (h : offJournal t = offJournal (faultCount x cls src arg m inj)) : OnlyCounts s t := by
  subst hx
  exact ⟨(congrArg State.md h :), (congrArg State.vs h :), (congrArg State.ts h :), (congrArg State.ctl h :), (congrArg (fun u => u.flt.cdc) h :)⟩

/-- A retry at a crossing that agrees is one corrected fault (R310). -/
theorem cdcRetry_counts {s : State} (hs : sleeping s = false) {c : Crossing} {l : BitVec 16} (hn : cdcFaulted s c l = false) (inj : Bool) :
    OnlyCounts s (cdcRetry c l inj s) ∧ (cdcRetry c l inj s).flt.corr = satAdd s.flt.corr 1 ∧ (cdcRetry c l inj s).flt.defer = s.flt.defer := by
  obtain ⟨runs, hnote⟩ := cdcNote_eq s c
  have hret : cdcRetry c l inj s = faultFound { s with flt := { s.flt with runs := runs } } 0x04 (cdcArg c l) inj := by
    unfold cdcRetry
    rw [if_neg (by simp [hn]), hnote]
  have hoff := faultFound_corrected (s := { s with flt := { s.flt with runs := runs } }) hs (Or.inr rfl) (cdcArg c l) inj
  obtain ⟨hcorr, hdef, -⟩ := fault_shows (s := s) (x := { s with flt := { s.flt with runs := runs } }) ⟨rfl, rfl⟩ hoff
  rw [hret]
  exact ⟨.of_faultCount rfl hoff, hcorr, hdef⟩

/-- A crossing other than that of IV time that enters a deferred fault is one deferred fault (R310). -/
theorem cdcDeferred_counts {s : State} (hs : sleeping s = false) (hd : s.ctl.deferFatal = false) {c : Crossing} (hc : c ≠ .time) {l : BitVec 16}
    (hn : cdcFaulted s c l = false) (inj : Bool) :
    (cdcDeferred c l inj s).flt.corr = s.flt.corr ∧ (cdcDeferred c l inj s).flt.defer = satAdd s.flt.defer 1 ∧ (cdcDeferred c l inj s).vs = s.vs
      ∧ (cdcDeferred c l inj s).ts = s.ts ∧ (cdcDeferred c l inj s).ctl = s.ctl := by
  have hoff := faultFound_deferred hs hd (show ¬ ((0x12 : BitVec 8) = 0x03 ∨ (0x12 : BitVec 8) = 0x04) by decide) (cdcArg c l) inj
  obtain ⟨hcorr, hdef, -, hvs, hts, hctl, -⟩ := fault_shows (s := s) ⟨rfl, rfl⟩ hoff
  have he : cdcDeferred c l inj s = cdcHold (faultFound s 0x12 (cdcArg c l) inj) c l (cdcKept s c) := by
    unfold cdcDeferred
    rw [if_neg (by simp [hn])]
    exact if_neg (by simp [hc])
  rw [he]
  exact ⟨hcorr, hdef, hvs, hts, hctl⟩

/-- Sixty-four cycles of disagreement: three retries, the deferred fault, and the agreement that ends it (R310, R321). -/
theorem injectCdc_counts {s : State} (hs : sleeping s = false) (hd : s.ctl.deferFatal = false) (hn : cdcFaulted s .fabReg 0 = false) :
    (injectCdc s).flt.corr = satAdd (satAdd (satAdd s.flt.corr 1) 1) 1 ∧ (injectCdc s).flt.defer = satAdd s.flt.defer 1
      ∧ (.fabReg, 0) ∉ (injectCdc s).flt.cdc ∧ (injectCdc s).vs = s.vs ∧ (injectCdc s).ts = s.ts ∧ (injectCdc s).ctl = s.ctl := by
  have hstep {x : State} (h : OnlyCounts s x) : sleeping x = false ∧ cdcFaulted x .fabReg 0 = false :=
    ⟨by rw [sleeping, h.md]; exact hs, by rw [cdcFaulted, h.cdc]; exact hn⟩
  obtain ⟨k1, c1, d1⟩ := cdcRetry_counts hs hn true
  obtain ⟨k2, c2, d2⟩ := cdcRetry_counts (hstep k1).1 (hstep k1).2 true
  obtain ⟨k3, c3, d3⟩ := cdcRetry_counts (hstep (k1.trans k2)).1 (hstep (k1.trans k2)).2 true
  have k := (k1.trans k2).trans k3
  have hcorr3 := c3.trans (congrArg (satAdd · 1) (c2.trans (congrArg (satAdd · 1) c1)))
  have hdef3 := d3.trans (d2.trans d1)
  have he : injectCdc s = cdcClear (cdcDeferred .fabReg 0 true (cdcRetry .fabReg 0 true (cdcRetry .fabReg 0 true (cdcRetry .fabReg 0 true s)))) .fabReg 0 := rfl
  rw [he]
  generalize cdcRetry .fabReg 0 true (cdcRetry .fabReg 0 true (cdcRetry .fabReg 0 true s)) = x at k hcorr3 hdef3
  obtain ⟨kcorr, kdef, kvs, kts, kctl⟩ := cdcDeferred_counts (s := x) (hstep k).1 (by rw [k.ctl]; exact hd) (c := .fabReg) (by decide) (hstep k).2 true
  exact ⟨kcorr.trans hcorr3, kdef.trans (congrArg (satAdd · 1) hdef3), mem_cdc_cdcClear_self _ _ _, kvs.trans k.vs, kts.trans k.ts, kctl.trans k.ctl⟩

/-! ### The write of an injection -/

theorem awake_of_calm {s : State} (h : calm s = true) : awake s = true := by
  simp only [calm, Bool.and_eq_true] at h
  exact h.1.1.1

/-- Awake, an injection's write is activity and then acts (R280, R321). -/
theorem injectWrite_awake {s : State} (ha : awake s = true) (hp : portsDead s = false) (what : Nat) (key : BitVec 16) :
    injectWrite s what key = portDone (inject what key (activity s false)) .mgmt := by
  rw [injectWrite, writeAt_of_answers hp, portWrite_mgmt ha]

/-- After activity Ivsyn ranks, or it is UNFORMED (R278, R280). -/
theorem ranking_or_unformed_of_activity {s : State} (ha : awake s = true) :
    (ranking (activity s false) || decide ((activity s false).md.mode = .unformed)) = true := by
  have hact := awake_activity ha
  have hidle : (activity s false).md.mode ≠ .idle := by
    by_cases h : s.md.mode = .idle
    · rw [(activity_of_idle h).1]
      simp
    · rw [activity_md h]
      exact h
  simp only [awake, live, sleeping, Bool.and_eq_true, Bool.not_eq_true', Bool.or_eq_false_iff, decide_eq_true_eq, decide_eq_false_iff_not] at hact
  cases hm : (activity s false).md.mode <;> simp_all [ranking]

/-- The conditions under which an injection of the key is accepted. -/
theorem inject_accepted {s : State} (ha : awake s = true) (hi : s.flt.inject = none) (hp : s.flt.failPlane = 0) (hl : frozenBy s lkFault = false)
    {what : Nat} (hw : 1 ≤ what ∧ what ≤ 9) (hb : 3 < what ∨ bothPlanes s = true) :
    inject what 0xFA17 (activity s false) = injectArm (activity s false) what := by
  have hboth : bothPlanes (activity s false) = bothPlanes s := by rw [bothPlanes, activity_flt, activity_ctl, bothPlanes]
  have hok : injectOk (activity s false) what 0xFA17 = true := by
    simp only [injectOk, ranking_or_unformed_of_activity ha, activity_flt, hi, hp, frozenBy_activity, hl, hboth, hw.1, hw.2, injectKey]
    rcases hb with hb | hb <;> simp [hb]
  exact if_pos hok

/-- An injection with another key, or while one is armed or its register is frozen, is rejected (R321, R357). -/
theorem inject_rejected {s : State} {key : BitVec 16} (h : key ≠ 0xFA17 ∨ s.flt.inject.isSome = true ∨ frozenBy s lkFault = true) (what : Nat) :
    inject what key s = rejectWrite s 0x714 := by
  refine if_neg ?_
  simp only [injectOk, injectKey, Bool.and_eq_true, Option.isNone_iff_eq_none, Bool.not_eq_true']
  rintro ⟨⟨⟨⟨⟨⟨⟨hk, -⟩, -⟩, -⟩, hi⟩, -⟩, hl⟩, -⟩
  rcases h with h | h | h
  · exact h (of_decide_eq_true hk)
  · simp [hi] at h
  · simp [hl] at h

end Sys2Proof.Machine

namespace Sys2Proof

open Sys2Proof.Machine

/-- Settles O59: by the kind of an accepted injection, and by the cause of a rejected one. -/
theorem injectionsActByTheirKind : Obligations.InjectionsActByTheirKind := by
  have harm {s : State} (ha : awake s = true) (hp : portsDead s = false) (hi : s.flt.inject = none) (hf : s.flt.failPlane = 0)
      (hl : frozenBy s lkFault = false) {what : Nat} (hw : 1 ≤ what ∧ what ≤ 9) (hb : 3 < what ∨ bothPlanes s = true) :
      injectWrite s what 0xFA17 = portDone (injectArm (activity s false) what) .mgmt := by
    rw [injectWrite_awake ha hp, inject_accepted ha hi hf hl hw hb]
  have hwait {s : State} (ha : awake s = true) (hp : portsDead s = false) (hi : s.flt.inject = none) (hf : s.flt.failPlane = 0)
      (hl : frozenBy s lkFault = false) {what : Nat} (hw : 1 ≤ what ∧ what ≤ 9) (hn : what ≠ 6 ∧ what ≠ 8 ∧ what ≠ 9) (hb : 3 < what ∨ bothPlanes s = true) :
      Host.Outcome.next (injectWrite s what 0xFA17)
        = (Host.Outcome.next (portDone { activity s false with flt := { s.flt with inject := some (BitVec.ofNat 4 what) } } .mgmt) : Host.Outcome State Fault Refusal) := by
    rw [harm ha hp hi hf hl hw hb, injectArm, if_neg hn.1, if_neg hn.2.1, if_neg hn.2.2, activity_flt]
  refine ⟨fun s i n ha hp hi hf hl hk => ?_, fun s hc hp hi hf hl => ?_, fun s k i hc hp hk hi => ?_⟩
  · rcases hk with ⟨⟨rfl, rfl⟩ | ⟨rfl, rfl⟩ | ⟨rfl, rfl⟩, hb⟩ | ⟨rfl, rfl⟩ | ⟨rfl, rfl⟩ | ⟨rfl, rfl⟩
    · exact hwait (what := 1) ha hp hi hf hl (by decide) (by decide) (Or.inr hb)
    · exact hwait (what := 2) ha hp hi hf hl (by decide) (by decide) (Or.inr hb)
    · exact hwait (what := 3) ha hp hi hf hl (by decide) (by decide) (Or.inr hb)
    · exact hwait (what := 4) ha hp hi hf hl (by decide) (by decide) (Or.inl (by decide))
    · exact hwait (what := 5) ha hp hi hf hl (by decide) (by decide) (Or.inl (by decide))
    · exact hwait (what := 7) ha hp hi hf hl (by decide) (by decide) (Or.inl (by decide))
  · have ha : awake s = true := awake_of_calm hc
    have hact := activity_of_calm hc false
    have hw (what : Nat) (h1 : 1 ≤ what ∧ what ≤ 9) (h3 : 3 < what) : injectWrite s what 0xFA17 = portDone (injectArm (noteBusy s) what) .mgmt := by
      rw [harm ha hp hi hf hl h1 (Or.inl h3), hact]
    refine ⟨congrArg Host.Outcome.next (hw 8 (by decide) (by decide)), fun hfat => ?_, fun hd hn => ?_⟩
    · have hcol : collectorFault (noteBusy s) true = { noteBusy s with flt := { s.flt with fatal := some { source := 0x24, detail := 0, blind := true, injected := true } } } :=
        if_neg (by simp [hfat])
      exact congrArg Host.Outcome.next ((hw 9 (by decide) (by decide)).trans (congrArg (portDone · .mgmt) hcol))
    · obtain ⟨h1, h2, h3, h4, h5, h6⟩ := injectCdc_counts (s := noteBusy s) (sleeping_of_awake ha) hd hn
      refine ⟨_, congrArg Host.Outcome.next (hw 6 (by decide) (by decide)), ?_⟩
      rw [portDone_flt, portDone_vs, portDone_ts, portDone_ctl]
      exact ⟨h1, h2, h3, h4, h5, h6⟩
  · have hrej (what : Nat) : injectWrite s what k = portDone (rejectWrite (noteBusy s) 0x714) .mgmt := by
      rw [injectWrite_awake (awake_of_calm hc) hp, activity_of_calm hc, inject_rejected]
      exact hk
    have hall : exec i s = .next (portDone (rejectWrite (noteBusy s) 0x714) .mgmt) := by
      simp only [List.mem_cons, List.not_mem_nil, or_false] at hi
      rcases hi with rfl | rfl | rfl | rfl | rfl | rfl | rfl | rfl | rfl <;> exact congrArg Host.Outcome.next (hrej _)
    refine ⟨_, hall, rfl, ?_, rfl, rfl, rfl⟩
    rw [portDone_status]
    exact (Sc.has_raise _ stCfgRej (by decide)).trans (by simp)

end Sys2Proof
end

section
/-! PROOF. What rounds, the checks of messages and the faults that they find leave alone: the mode, the settings, time and the loader
(R164, R178, R316). -/

namespace Sys2Proof.Machine

/-- The core's work leaves the mode, the settings, time, the loader, the pins, the fence and what sleep ignored, and awake the power unit. -/
structure Steady (s t : State) : Prop where
  md : t.md = s.md
  ctl : t.ctl = s.ctl
  tm : t.tm = s.tm
  fu : t.fu = s.fu
  io : t.io = s.io
  pending : t.pending = s.pending
  ao : aoRest t.ao = aoRest s.ao
  fenced : t.flt.fenced = s.flt.fenced
  ignored : t.pw.ignored = s.pw.ignored
  pw : sleeping s = false → t.pw = s.pw

theorem Steady.refl (s : State) : Steady s s := ⟨rfl, rfl, rfl, rfl, rfl, rfl, rfl, rfl, rfl, fun _ => rfl⟩

theorem Steady.trans {s t u : State} (h : Steady s t) (k : Steady t u) : Steady s u where
  md := k.md.trans h.md
  ctl := k.ctl.trans h.ctl
  tm := k.tm.trans h.tm
  fu := k.fu.trans h.fu
  io := k.io.trans h.io
  pending := k.pending.trans h.pending
  ao := k.ao.trans h.ao
  fenced := k.fenced.trans h.fenced
  ignored := k.ignored.trans h.ignored
  pw hs := (k.pw (by rw [sleeping, h.md]; exact hs)).trans (h.pw hs)

theorem Steady.of_inner {d : Fin 4 → Int} {s t : State} (h : Inner d s t) : Steady s t :=
  ⟨h.md, h.ctl, h.tm, h.fu, h.io, h.pending, h.ao, (congrArg FaultUnit.fenced h.flt :), (congrArg PowerUnit.ignored h.pw :), fun _ => h.pw⟩

/-- The rounds' inner work keeps what is steady. -/
theorem Steady.inner {d : Fin 4 → Int} {s t u : State} (h : Steady s t) (k : Inner d t u) : Steady s u := h.trans (.of_inner k)

theorem Steady.live {s t : State} (h : Steady s t) : live t = live s := by
  have hp : t.ao.porst = s.ao.porst := (congrArg AoUnit.porst h.ao :)
  have hr : t.ao.resetting = s.ao.resetting := (congrArg AoUnit.resetting h.ao :)
  rw [Machine.live, Machine.live, hp, hr, h.md]

theorem Steady.ite {s t u : State} {c : Prop} [Decidable c] (h : Steady s t) (k : Steady s u) : Steady s (if c then t else u) := by
  split
  · exact h
  · exact k

theorem Steady.unlessFatal {s t : State} {f : State → State} (h : Steady s t) (k : Steady s (f t)) : Steady s (unlessFatal t f) := Steady.ite h k

theorem Steady.fold {α : Type} {s : State} {f : State → α → State} (hf : ∀ t a, Steady t (f t a)) (l : List α) {t : State} (h : Steady s t) :
    Steady s (forEach l t f) := forEach_preserves (P := Steady s) (fun t a k => k.trans (hf t a)) l h

/-! ### Faults -/

theorem fatalFault_steady (s : State) (src : BitVec 8) (detail : BitVec 24) (inj : Bool) : Steady s (fatalFault s src detail inj) := by
  unfold fatalFault
  cases inj <;> exact ⟨rfl, rfl, rfl, rfl, rfl, rfl, rfl, rfl, rfl, fun _ => rfl⟩

theorem faultCount_steady (s : State) (cls : BitVec 2) (src : BitVec 8) (arg m : BitVec 24) (inj : Bool) : Steady s (faultCount s cls src arg m inj) :=
  .of_inner (faultCount_inner cls src arg m inj (.refl s))

theorem jnlFault_steady (s : State) (t : Nat) (code : Byte) (src : BitVec 8) (arg : BitVec 24) (w5 w6 : Word) (inj : Bool) :
    Steady s (jnlFault s t code src arg w5 w6 inj) := .of_inner (jnlFault_inner t code src arg w5 w6 inj (.refl s))

theorem correctedAt_steady (s : State) (t : Nat) (src : BitVec 8) (arg : BitVec 24) (inj : Bool) : Steady s (correctedAt s t src arg inj) :=
  (faultCount_steady ..).trans (jnlFault_steady ..)

theorem corrected_steady (s : State) (src : BitVec 8) (arg : BitVec 24) (inj : Bool) : Steady s (corrected s src arg inj) := correctedAt_steady ..

theorem deferredCount_steady (s : State) (src : BitVec 8) (arg : BitVec 24) (inj : Bool) : Steady s (deferredCount s src arg inj) :=
  Steady.ite (fatalFault_steady ..) (faultCount_steady ..)

theorem deferredAt_steady (s : State) (t : Nat) (src : BitVec 8) (arg : BitVec 24) (w5 w6 : Word) (inj : Bool) :
    Steady s (deferredAt s t src arg w5 w6 inj) :=
  Steady.ite (fatalFault_steady ..) ((deferredCount_steady ..).trans (jnlFault_steady ..))

theorem faultAt_steady (s : State) (t : Nat) (src : BitVec 8) (arg : BitVec 24) (inj : Bool) : Steady s (faultAt s t src arg inj) :=
  Steady.ite (correctedAt_steady ..) (deferredAt_steady ..)

theorem faultFound_steady (s : State) (src : BitVec 8) (arg : BitVec 24) (inj : Bool) : Steady s (faultFound s src arg inj) := by
  unfold faultFound
  split
  next h => exact ⟨rfl, rfl, rfl, rfl, rfl, rfl, rfl, rfl, rfl, fun hs => absurd h (by simp [hs])⟩
  next => exact faultAt_steady ..

theorem injectSpent_steady (s : State) : Steady s (injectSpent s) := ⟨rfl, rfl, rfl, rfl, rfl, rfl, rfl, rfl, rfl, fun _ => rfl⟩

theorem cacheRead_steady (s : State) (h : Nat) : Steady s (cacheRead s h) :=
  Steady.ite (.refl s) (Steady.ite ((injectSpent_steady s).trans (faultFound_steady ..))
    (Steady.ite (((injectSpent_steady s).trans (faultFound_steady ..)).inner (vteReload_inner h (.refl _))) (.refl s)))

/-! ### Rounds -/

theorem roundAt_steady (s : State) (h : Nat) : Steady s (roundAt s h) :=
  Steady.unlessFatal (.refl s) (Steady.unlessFatal (cacheRead_steady s h) ((cacheRead_steady s h).inner (roundCommit_inner h (.refl _))))

theorem roundRisen_steady (s : State) (h : Nat) : Steady s (roundRisen s h) :=
  (Steady.fold roundAt_steady (risen s h) (.refl s)).trans (roundAt_steady ..)

theorem laneRounds_steady (s : State) (h : Nat) : Steady s (laneRounds s h) := Steady.fold roundRisen_steady _ (.refl s)

theorem holdRound_steady (s : State) (h : BitVec 24) (fail : BitVec 2) : Steady s (holdRound s h fail) :=
  ⟨rfl, rfl, rfl, rfl, rfl, rfl, rfl, rfl, rfl, fun _ => rfl⟩

theorem roundCompare_steady (s : State) (h : BitVec 24) (check : PlaneCheck) : Steady s (roundCompare s h check).1 := by
  have hspent := injectSpent_steady s
  have hcorr (t : State) (inj : Bool) : Steady t (corrected t 0x01 (laneOf h.toNat) inj) := corrected_steady ..
  unfold roundCompare
  dsimp only
  split
  · split
    · exact (fatalFault_steady s 0x22 (laneOf h.toNat) false :)
    · exact .refl s
  · split
    · exact .refl s
    · split
      · exact (hspent.trans (hcorr (injectSpent s) true) :)
      · split
        · exact hspent.trans (holdRound_steady ..)
        · split
          · exact hspent.trans (holdRound_steady ..)
          · cases check
            case agree => exact .refl s
            case residueError => exact .refl s
            case retryAgrees => exact (hcorr s false :)
            case disagree => exact holdRound_steady ..

theorem rankRound_steady (s : State) (h : BitVec 24) (check : PlaneCheck) : Steady s (rankRound s h check) :=
  Steady.ite ((roundCompare_steady s h check).trans (laneRounds_steady ..)) (roundCompare_steady s h check)

theorem inputRound_steady (s : State) (h : Nat) : Steady s (inputRound s h) := Steady.unlessFatal (.refl s) (rankRound_steady ..)

theorem laneBefore_steady (s : State) (h : Nat) : Steady s (laneBefore s h) := Steady.ite (Steady.fold inputRound_steady _ (.refl s)) (.refl s)

theorem lanesBefore_steady (s : State) (w : EgWrite) : Steady s (lanesBefore s w) := Steady.ite (.refl s) (Steady.fold laneBefore_steady _ (.refl s))

theorem lastRounds_steady (s : State) : Steady s (lastRounds s) := Steady.fold inputRound_steady _ (.refl s)

/-! ### Messages and wired lines -/

/-- An operation that gives a lane back what it lacks is steady. -/
theorem Steady.regain {e : Fin 4 → Int} {s : State} {f : State → State} (hf : Inner (fun l => e l - e l) s s → Inner e s (f s)) : Steady s (f s) :=
  .of_inner (hf (Inner.none e s))

theorem resolve_steady (s : State) (x : Slot) : Steady s (resolve s x) := by
  have hn (reason : Nat) : Steady s (creditBack (noise s x.beat x.stamp reason none) x.lane) :=
    Steady.regain (e := oneOn x.lane) (f := fun u => creditBack (noise u x.beat x.stamp reason none) x.lane) fun z =>
      creditBack_inner _ (noise_inner _ _ _ _ z)
  have hput (t : State) (st : SlotSt) : Steady t (vatPut t { x with st := st }) :=
    Steady.regain (e := oneOn x.lane) (f := fun u => vatPut u { x with st := st }) fun z => vatPut_inner _ z
  have hpost (t : State) (h : Nat) (v : Vte) : Steady t (postResolve (touch t h) x h v) :=
    Steady.regain (e := oneOn x.lane) (f := fun u => postResolve (touch u h) x h v) fun z => postResolve_inner _ _ _ (touch_inner _ z)
  have hread (h : Nat) (st : SlotSt) : Steady s (vatPut (cacheRead s h) { x with st := st }) := (cacheRead_steady s h).trans (hput _ st)
  unfold resolve
  dsimp only
  split
  · exact hn 4
  · refine Steady.ite (hn 4) (Steady.ite (hn 5) ?_)
    split
    · exact Steady.ite (hread ..) ((cacheRead_steady s _).trans (hpost ..))
    · exact (hread ..).inner (fetchVte_inner _ (.refl _))

theorem releaseParked_steady (s : State) (p : Slot → Bool) : Steady s (releaseParked s p) :=
  Steady.fold resolve_steady _ ⟨rfl, rfl, rfl, rfl, rfl, rfl, rfl, rfl, rfl, fun _ => rfl⟩

theorem releaseAll_steady (s : State) : Steady s (releaseAll s) := Steady.ite (releaseParked_steady ..) (.refl s)

theorem sleptIn_steady (s : State) (h n : Nat) : Steady s (sleptIn s h n) :=
  Steady.ite (.of_inner (enqueue_inner _ (vecPut_inner _ _ (.refl s)))) (.refl s)

theorem levelsIn_steady (s : State) : Steady s (levelsIn s) := Steady.fold (fun t h => .of_inner (enqueue_inner h (.refl t))) _ (.refl s)

/-- The latches and the counted lines' baselines have been taken (R285). -/
def linesTaken (s : State) : State :=
  { s with ws := { s.ws with latch := 0, gray := s.ws.grayNow, roundDue := true },
           flt := { s.flt with cdc := s.flt.cdc.filter fun x => decide (x.1 ≠ .counted) } }

theorem wiredRelease_steady (s : State) : Steady s (wiredRelease s) := by
  have h1 := Steady.fold (fun t n => sleptIn_steady t n 1) (if s.ws.latch = 0 then [] else (List.range 3840).filter s.ws.latch.getLsbD) (.refl s)
  have h2 := Steady.fold (fun t m => sleptIn_steady t (3840 + m) (grayStep (t.ws.gray.getD m 0) (t.ws.grayNow.getD m 0)))
    ((List.range 256).filter fun m => decide (s.ws.gray.getD m 0 ≠ s.ws.grayNow.getD m 0)) h1
  have he : ∃ t, Steady s t ∧ wiredRelease s = levelsIn (linesTaken t) := ⟨_, h2, rfl⟩
  obtain ⟨t, ht, he⟩ := he
  rw [he]
  have hl : Steady t (linesTaken t) := ⟨rfl, rfl, rfl, rfl, rfl, rfl, rfl, rfl, rfl, fun _ => rfl⟩
  exact ht.trans (hl.trans (levelsIn_steady (linesTaken t)))

/-! ### Changes of mode -/

/-- A change of mode and its record change the mode unit, and the instant at which Ivsyn was last busy. -/
theorem modeChange_eq (s : State) (m : Mode) (cause : Nat) : ∃ t, modeChange s m cause = t ∧ Steady (setMode s m) t := by
  exact ⟨_, rfl, .of_inner (jnlPut_inner _ _ (.refl _))⟩

end Sys2Proof.Machine
end

section
/-! PROOF. IV_CTL, IV_ARB_CTL and IV_LOCK: one bit at a time, and what ENGINE_EN and FREEZE do to the mode (R107, R214, R275, R278, R364, R365). -/

namespace Sys2Proof.Machine

/-! ### Writes that change one field -/

/-- A merge that refuses no change takes the fields' bits and leaves the others (R348). -/
theorem fieldMerge_open {cur new : Word} : ∀ {fs : List (Word × Bool)}, (∀ f ∈ fs, f.2 = true → (cur ^^^ new) &&& f.1 = 0) →
    (fieldMerge cur new fs).2 = false
      ∧ ∀ i, (fieldMerge cur new fs).1.getLsbD i = if fs.any (fun f => f.1.getLsbD i) then new.getLsbD i else cur.getLsbD i := by
  intro fs
  induction fs with
  | nil => exact fun _ => ⟨rfl, fun i => rfl⟩
  | cons f r ih =>
    intro h
    obtain ⟨ih2, ih1⟩ := ih fun g hg => h g (List.mem_cons_of_mem _ hg)
    cases hf : f.2 with
    | false =>
      have he : fieldMerge cur new (f :: r) = (takeBits (fieldMerge cur new r).1 new f.1, (fieldMerge cur new r).2) := if_neg (by simp [hf])
      refine ⟨by rw [he]; exact ih2, fun i => ?_⟩
      rw [he]
      dsimp only
      rw [getLsbD_takeBits, ih1, List.any_cons]
      cases f.1.getLsbD i
      · rw [if_neg (by decide), Bool.false_or]
      · rfl
    | true =>
      have hz := h f List.mem_cons_self hf
      have he : fieldMerge cur new (f :: r) = ((fieldMerge cur new r).1, (fieldMerge cur new r).2 || decide ((cur ^^^ new) &&& f.1 ≠ 0)) := if_pos hf
      refine ⟨by rw [he]; simp [ih2, hz], fun i => ?_⟩
      have hi : f.1.getLsbD i = true → cur.getLsbD i = new.getLsbD i := by
        intro hm
        have hb := congrArg (fun w : Word => w.getLsbD i) hz
        simpa [hm] using hb
      rw [he]
      dsimp only
      rw [ih1, List.any_cons]
      cases hm : f.1.getLsbD i
      · rw [Bool.false_or]
      · rw [hi hm, Bool.true_or, if_pos rfl, ite_self]

/-- The bit of a mask that a write sets or clears. -/
def withBit (cur mask : Word) (on : Bool) : Word := if on then cur ||| mask else cur &&& ~~~mask

theorem getLsbD_withBit (cur mask : Word) (on : Bool) (i : Nat) : (withBit cur mask on).getLsbD i = if mask.getLsbD i then on else cur.getLsbD i := by
  by_cases hi : i < 32
  · cases on
    · simp only [withBit, Bool.false_eq_true, if_false, BitVec.getLsbD_and, BitVec.getLsbD_not, hi, decide_true, Bool.true_and]
      cases mask.getLsbD i <;> simp
    · simp only [withBit, if_true, BitVec.getLsbD_or]
      cases mask.getLsbD i <;> simp
  · cases on <;> simp [withBit, BitVec.getLsbD_of_ge _ _ (Nat.le_of_not_lt hi)]

/-- A write that sets or clears bits of one mask changes nothing under another. -/
theorem withBit_apart {cur mask m : Word} (h : mask &&& m = 0) (on : Bool) : (cur ^^^ withBit cur mask on) &&& m = 0 := by
  refine BitVec.eq_of_getLsbD_eq fun i hi => ?_
  have hb : (mask &&& m).getLsbD i = false := by rw [h]; exact BitVec.getLsbD_zero
  rw [BitVec.getLsbD_and] at hb
  rw [BitVec.getLsbD_and, BitVec.getLsbD_xor, getLsbD_withBit]
  cases hm : mask.getLsbD i
  · simp
  · have hz : m.getLsbD i = false := by simpa [hm] using hb
    simp [hz]

/-! ### IV_CTL -/

theorem ctlWord_getLsbD (s : State) :
    (ctlWord s).getLsbD 0 = s.md.engineEn ∧ (ctlWord s).getLsbD 1 = s.ctl.ingressEn ∧ (ctlWord s).getLsbD 2 = s.ctl.deliverEn
      ∧ (ctlWord s).getLsbD 3 = s.ctl.planeCheckEn ∧ (ctlWord s).getLsbD 4 = s.ctl.journalEn ∧ (ctlWord s).getLsbD 8 = s.ctl.quarEn := by
  simp only [ctlWord, BitVec.getLsbD_or, getLsbD_bit]
  simp

/-- A write of `IV_CTL` that changes no frozen field but ENGINE_EN loads the fields' bits, and then follows DELIVER_EN and ENGINE_EN (R364). -/
theorem ctlPut_open {s : State} {v : Word} (h : frozenBy s lkCtl = true → (ctlWord s ^^^ v) &&& 0x116 = 0) (h3 : (ctlWord s ^^^ v) &&& 0x008 = 0)
    (addr : BitVec 22) :
    ctlPut s v addr =
      (let s1 := ctlLoad s v
       let s2 := if s.ctl.deliverEn && !v.getLsbD 2 then settleAll (batchEndAll s1) else s1
       let bad := v.getLsbD 0 && !s.md.engineEn && !engineOk s
       rejectIf bad (if v.getLsbD 0 then (if bad then s2 else engineOn s2 addr) else engineOff s2) addr) := by
  have hm := fieldMerge_open (cur := ctlWord s) (new := v) (fs := [(0x116, frozenBy s lkCtl), (0x008, frozenBy s lkCtl || engineLocked s)]) (by
    intro f hf
    simp only [List.mem_cons, List.not_mem_nil, or_false] at hf
    rcases hf with rfl | rfl
    · exact h
    · exact fun _ => h3)
  obtain ⟨hno, hbits⟩ := hm
  have hbit (i : Nat) (hi : i ∈ [1, 2, 3, 4, 8]) :
      (fieldMerge (ctlWord s) v [(0x116, frozenBy s lkCtl), (0x008, frozenBy s lkCtl || engineLocked s)]).1.getLsbD i = v.getLsbD i := by
    have hmask : ∀ i ∈ [1, 2, 3, 4, 8], ((0x116 : Word).getLsbD i || ((0x008 : Word).getLsbD i || false)) = true := by decide
    rw [hbits]
    exact if_pos (hmask i hi)
  have hload : ctlLoad s (fieldMerge (ctlWord s) v [(0x116, frozenBy s lkCtl), (0x008, frozenBy s lkCtl || engineLocked s)]).1 = ctlLoad s v := by
    unfold ctlLoad
    rw [hbit 1 (by simp), hbit 2 (by simp), hbit 3 (by simp), hbit 4 (by simp), hbit 8 (by simp)]
  unfold ctlPut
  dsimp only
  rw [hload, hno, Bool.false_or]
  rfl

/-- A write of `IV_CTL` that leaves ENGINE_EN (R364, R365). -/
theorem ctlPut_engine_stays {s : State} {v : Word} (h : frozenBy s lkCtl = true → (ctlWord s ^^^ v) &&& 0x116 = 0) (h3 : (ctlWord s ^^^ v) &&& 0x008 = 0)
    (he : v.getLsbD 0 = s.md.engineEn) (addr : BitVec 22) :
    ctlPut s v addr = if s.ctl.deliverEn && !v.getLsbD 2 then settleAll (batchEndAll (ctlLoad s v)) else ctlLoad s v := by
  have hmd : (if s.ctl.deliverEn && !v.getLsbD 2 then settleAll (batchEndAll (ctlLoad s v)) else ctlLoad s v).md = s.md := by
    have hload : (ctlLoad s v).md = s.md := by
      unfold ctlLoad
      dsimp only
      split <;> rfl
    split
    · exact (settleAll_inner (batchEndAll_inner (.refl _))).md.trans hload
    · exact hload
  rw [ctlPut_open h h3]
  dsimp only
  rw [he]
  generalize (if s.ctl.deliverEn && !v.getLsbD 2 then settleAll (batchEndAll (ctlLoad s v)) else ctlLoad s v) = x at hmd
  cases hen : s.md.engineEn
  · simp [engineOff, rejectIf, hmd, hen]
  · simp [engineOn, rejectIf, hmd, hen]

/-- A write of `IV_CTL` that changes ENGINE_EN alone loads nothing else, but may drop an injection that the planes' comparison alone would spend
(R321, R364). -/
theorem ctlLoad_same (s : State) (on : Bool) : ∃ inj, ctlLoad s (withBit (ctlWord s) 1 on) = { s with flt := { s.flt with inject := inj } } := by
  obtain ⟨-, h1, h2, h3, h4, h8⟩ := ctlWord_getLsbD s
  have hb (i : Nat) (hi : (1 : Word).getLsbD i = false) : (withBit (ctlWord s) 1 on).getLsbD i = (ctlWord s).getLsbD i := by
    rw [getLsbD_withBit, hi]
    rfl
  unfold ctlLoad
  rw [hb 1 (by decide), hb 2 (by decide), hb 3 (by decide), hb 4 (by decide), hb 8 (by decide), h1, h2, h3, h4, h8]
  rw [if_neg (by simp)]
  exact ⟨_, rfl⟩

theorem ctlLoad_of_noInject {s : State} (hi : s.flt.inject = none) (v : Word) :
    ctlLoad s v = { (if v.getLsbD 1 && !s.ctl.ingressEn then ingressOffer s else s) with
      ctl := { s.ctl with ingressEn := v.getLsbD 1, deliverEn := v.getLsbD 2, planeCheckEn := v.getLsbD 3, journalEn := v.getLsbD 4,
                          quarEn := v.getLsbD 8 } } := by
  have hflt : ({ s.flt with inject := none } : FaultUnit) = s.flt := by rw [← hi]
  unfold ctlLoad
  simp only [hi, Bool.and_false, Bool.false_eq_true, if_false, hflt]
  split <;> rfl

/-! ### Activity and the power unit -/

/-- Activity leaves the request for a mode, and an attempt where none is under way. -/
theorem activity_pw_req (s : State) : (activity s false).pw.req = s.pw.req := by
  unfold activity
  cases he : s.pw.entry with
  | none => cases hd : s.pw.due <;> by_cases h : s.md.mode = .idle <;> simp [he, hd, abandonEntry, h]
  | some e => cases hu : e.step.undoable <;> by_cases h : s.md.mode = .idle <;> simp [he, hu, abandonEntry, h]

theorem activity_entry_none {s : State} (he : s.pw.entry = none) : (activity s false).pw.entry = none := by
  unfold activity
  cases hd : s.pw.due <;> by_cases h : s.md.mode = .idle <;> simp [he, hd, abandonEntry, h]

/-- Outside IDLE activity leaves an attempt that has committed (R284). -/
theorem activity_of_committed {s : State} (h : s.md.mode ≠ .idle) {e : Entry} (he : s.pw.entry = some e) (hu : e.step.undoable = false) :
    activity s false = noteBusy s := by
  simp only [activity, noteBusy_pw, he, hu, Bool.false_eq_true, if_false, noteBusy_md, h]

/-! ### Boundaries where nothing waits -/

theorem filterMap_waits_eq_nil {α β γ : Type} {l : List (α × β)} {c : β → List γ} (h : ∀ e ∈ l, c e.2 = []) :
    (l.filterMap fun e => if (c e.2).isEmpty then none else some e.1) = [] := by
  refine List.filterMap_eq_nil_iff.mpr fun e he => ?_
  rw [h e he]
  rfl

/-- Where no committed change waits, boundaries end waiting fences alone (R138, R173, R184, R227). -/
theorem settleAll_of_noWaits {s : State} (h : noWaits s = true) : settleAll s = fenceAll s := by
  simp only [noWaits, Bool.and_eq_true, List.all_eq_true, List.isEmpty_iff] at h
  obtain ⟨⟨ht, hg⟩, hc⟩ := h
  unfold settleAll
  dsimp only
  rw [filterMap_waits_eq_nil (c := Tgt.changes) (fun e he => ht e he), filterMap_waits_eq_nil (c := Group.changes) (fun e he => hg e he),
    filterMap_waits_eq_nil (c := Couch.changes) (fun e he => hc e he)]
  rfl

/-- Where no target has a batch, there is none to end. -/
theorem batchEndAll_of_none {s : State} (h : ∀ e ∈ s.ts.targets, e.2.batch = none) : batchEndAll s = s := by
  have hl : (s.ts.targets.filterMap fun e => if e.2.batch.isSome then some e.1 else none) = [] := by
    refine List.filterMap_eq_nil_iff.mpr fun e he => ?_
    rw [h e he]
    rfl
  unfold batchEndAll
  rw [hl]
  rfl

/-! ### ENGINE_EN -/

theorem engineOn_serves {s : State} (hen : s.md.engineEn = false) (hok : engineOk s = true) (hm : s.md.mode = .unformed) (he : s.pw.entry = none)
    (addr : BitVec 22) : Steady (setMode (takeLocks { s with md := { s.md with engineEn := true } }) (if drainHeld s then .draining else .serving))
      (engineOn s addr) := by
  let s1 : State := { s with md := { s.md with engineEn := true } }
  have hd : drainHeld s1 = drainHeld s := rfl
  obtain ⟨t, ht, hs⟩ := modeChange_eq (takeLocks s1) (if drainHeld s then .draining else .serving) 1
  have hon : engineOn s addr = if t.md.mode = .serving then releaseAll (wiredRelease t) else t := by
    rw [← ht]
    unfold engineOn
    rw [if_neg (by simp [hen]), if_neg (by simp [hok]), if_pos (by simp [hm, he])]
    rfl
  rw [hon]
  exact Steady.ite (hs.trans ((wiredRelease_steady t).trans (releaseAll_steady _))) hs

/-- With nothing in transfer and nothing that waits, a clear of ENGINE_EN leads to UNFORMED at once (R278 row 8). -/
theorem engineOff_unforms {s : State} (hen : s.md.engineEn = true) (hr : ranking s = true) (ht : transferNone s = true) (hw : noWaits s = true)
    (hb : ∀ e ∈ s.ts.targets, e.2.batch = none) (hv : ∀ e ∈ s.vs.vecs, e.2.changes = []) (hc : ∀ e ∈ s.ts.couches, e.2.changes = []) :
    ∃ t, offUnits (engineOff s) = offUnits t ∧ Logged (setMode (entryOver (fenceAll { s with md := { s.md with engineEn := false } })) .unformed) t := by
  let s1 : State := { s with md := { s.md with engineEn := false } }
  have hoff : offUnits (fenceAll s1) = offUnits s1 := fenceAll_offUnits s1
  have hmd : (fenceAll s1).md = s1.md := (congrArg State.md hoff :)
  have hopen : (fenceAll s1).ar.open_ = s.ar.open_ := (congrArg (fun t => t.ar.open_) hoff :)
  have hfl : (fenceAll s1).ar.flight = s.ar.flight := (congrArg (fun t => t.ar.flight) hoff :)
  simp only [transferNone, Bool.and_eq_true, Option.isNone_iff_eq_none, List.isEmpty_iff] at ht
  obtain ⟨⟨ho, hf⟩, -⟩ := ht
  have hgo : (ranking (fenceAll s1) && !(fenceAll s1).md.engineEn && recordsNone (fenceAll s1)) = true := by
    have hrank : ranking (fenceAll s1) = true := by rw [ranking, hmd]; exact hr
    simp [hrank, hmd, s1, recordsNone, hopen, hfl, ho, hf]
  have heng : engineOff s = unformedSettle (modeChange (entryOver (fenceAll s1)) .unformed 2) := by
    have hset : settleAll (batchEndAll s1) = fenceAll s1 := by
      rw [batchEndAll_of_none (show ∀ e ∈ s1.ts.targets, e.2.batch = none from hb), settleAll_of_noWaits (show noWaits s1 = true from hw)]
    unfold engineOff
    rw [if_pos hen]
    show engineSettle (settleAll (batchEndAll s1)) = _
    rw [hset]
    exact if_pos hgo
  have hlog : Logged (setMode (entryOver (fenceAll s1)) .unformed) (modeChange (entryOver (fenceAll s1)) .unformed 2) := Logged.jnlPut ..
  refine ⟨_, ?_, hlog⟩
  rw [heng]
  generalize modeChange (entryOver (fenceAll s1)) .unformed 2 = z at hlog
  have hvs : z.vs = s.vs := hlog.vs.trans (congrArg State.vs hoff :)
  have hts : z.ts = s.ts := hlog.ts.trans (congrArg State.ts hoff :)
  have hz : unformedSettle z = fenceAll z := by
    unfold unformedSettle
    dsimp only
    rw [hvs, hts, filterMap_waits_eq_nil (c := Vec.changes) hv, filterMap_waits_eq_nil (c := Couch.changes) hc]
    exact settleAll_of_noWaits (s := z) (by rw [noWaits, hts]; exact hw)
  rw [hz]
  exact fenceAll_offUnits z

/-! ### FREEZE -/

/-- FREEZE or its end takes SERVING and DRAINING to each other, and what follows is steady (R278 rows 6 and 7). -/
theorem drainFollow_freezes {s : State} (hm : s.md.mode = .serving) (hd : drainHeld s = true) (hen : s.md.engineEn = true) :
    Steady (setMode s .draining) (drainFollow s) := by
  obtain ⟨t, ht, hs⟩ := modeChange_eq s .draining 3
  have hset : Steady (setMode s .draining) (settleAll (batchEndAll t)) := hs.inner (settleAll_inner (batchEndAll_inner (.refl t)))
  have he : drainFollow s = settleAll (batchEndAll t) := by
    unfold drainFollow
    rw [if_pos (by simp [hm, hd]), ht]
    exact if_neg (by simp [show (settleAll (batchEndAll t)).md.engineEn = true from (congrArg ModeUnit.engineEn hset.md).trans hen])
  rw [he]
  exact hset

theorem drainFollow_thaws {s : State} (hm : s.md.mode = .draining) (hd : drainHeld s = false) : Steady (setMode s .serving) (drainFollow s) := by
  obtain ⟨t, ht, hs⟩ := modeChange_eq s .serving 3
  have he : drainFollow s = releaseAll (wiredRelease t) := by
    unfold drainFollow
    rw [if_neg (by simp [hm]), if_pos (by simp [hm, hd]), ht]
  rw [he]
  exact hs.trans ((wiredRelease_steady t).trans (releaseAll_steady _))

theorem drainFollow_holds {s : State} (hm : s.md.mode = .draining) (hd : drainHeld s = true) : drainFollow s = s := by
  unfold drainFollow
  rw [if_neg (by simp [hm]), if_neg (by simp [hd])]

/-- A write of `IV_ARB_CTL` that changes FREEZE alone loads it, and the mode follows (R213, R214). -/
theorem arbPut_freeze (s : State) (on : Bool) (addr : BitVec 22) :
    arbPut s (withBit (arbCtlWord s) 1 on) addr = drainFollow { s with ctl := { s.ctl with freeze := on } } := by
  obtain ⟨hno, hbits⟩ := fieldMerge_open (cur := arbCtlWord s) (new := withBit (arbCtlWord s) 1 on)
    (fs := [(0x000FFF02, frozenBy s lkArb), (0x00000001, false)]) (by
      intro f hf
      simp only [List.mem_cons, List.not_mem_nil, or_false] at hf
      rcases hf with rfl | rfl
      · exact fun _ => withBit_apart (mask := 1) (m := 0x000FFF02) (by decide) on
      · exact fun h => absurd h (by decide))
  have hm1 : (fieldMerge (arbCtlWord s) (withBit (arbCtlWord s) 1 on) [(0x000FFF02, frozenBy s lkArb), (0x00000001, false)]).1
      = withBit (arbCtlWord s) 1 on := by
    refine BitVec.eq_of_getLsbD_eq fun i hi => ?_
    rw [hbits, getLsbD_withBit]
    cases h1 : (1 : Word).getLsbD i
    · simp
    · simp only [List.any_cons, h1, List.any_nil, Bool.or_true, Bool.true_or, if_true]
  have hfld (lo n : Nat) (h : 1 ≤ lo) : fld (withBit (arbCtlWord s) 1 on) lo n = fld (arbCtlWord s) lo n := by
    refine BitVec.eq_of_getLsbD_eq fun i hi => ?_
    have h1 : (1 : Word).getLsbD (lo + i) = false := by
      rw [BitVec.ofNat_eq_ofNat, BitVec.getLsbD_one]
      simp
      omega
    simp only [fld, BitVec.getLsbD_extractLsb', hi, decide_true, Bool.true_and, getLsbD_withBit, h1]
    rfl
  have hword : fld (arbCtlWord s) 16 4 = s.ctl.batchMax ∧ fld (arbCtlWord s) 8 8 = s.ctl.waitLim ∧ (arbCtlWord s).getLsbD 1 = s.ctl.preemptEn := by
    have hb (b : Bool) (i lo n : Nat) (h : i < lo) : fld (bit b i : Word) lo n = 0 := by
      refine BitVec.eq_of_getLsbD_eq fun j hj => ?_
      simp only [fld, BitVec.getLsbD_extractLsb', hj, getLsbD_bit, show ¬ i = lo + j by omega, decide_false, Bool.and_false,
        Bool.false_and]
      exact BitVec.getLsbD_zero.symm
    refine ⟨?_, ?_, ?_⟩
    · rw [arbCtlWord, fld_or, fld_or, fld_or, fld_at_same _ _ _ (by decide), fld_at_apart _ _ _ _ _ (by decide), hb _ _ _ _ (by decide),
        hb _ _ _ _ (by decide)]
      simp
    · rw [arbCtlWord, fld_or, fld_or, fld_or, fld_at_same _ _ _ (by decide), fld_at_apart _ _ _ _ _ (by decide), hb _ _ _ _ (by decide),
        hb _ _ _ _ (by decide)]
      simp
    · simp only [arbCtlWord, BitVec.getLsbD_or, getLsbD_bit]
      simp [at_]
  obtain ⟨hbm, hwl, hpe⟩ := hword
  have h0 : (withBit (arbCtlWord s) 1 on).getLsbD 0 = on := by
    rw [getLsbD_withBit]
    exact if_pos (by decide)
  have h1 : (withBit (arbCtlWord s) 1 on).getLsbD 1 = s.ctl.preemptEn := by
    rw [getLsbD_withBit, if_neg (by decide), hpe]
  unfold arbPut
  dsimp only
  rw [hno, hm1, hfld 16 4 (by decide), hfld 8 8 (by decide), hbm, hwl, h0, h1]
  rfl

end Sys2Proof.Machine

namespace Sys2Proof

open Sys2Proof.Machine

/-- Settles O50: the write of ENGINE_EN loads nothing else, and then the bit acts by what stands. -/
theorem engineEnTakesAndLeavesService : Obligations.EngineEnTakesAndLeavesService := by
  have hset {s : State} (ha : awake s = true) (hp : portsDead s = false) : exec .engineEnSet s
      = .next (portDone (ctlPut (activity s false) (withBit (ctlWord (activity s false)) 1 true) 0x10) .mgmt) := by
    refine congrArg Host.Outcome.next ((writeAt_of_answers hp ..).trans (congrArg (portDone · .mgmt) ?_))
    exact portWrite_mgmt ha ..
  have hclear {s : State} (ha : awake s = true) (hp : portsDead s = false) : exec .engineEnClear s
      = .next (portDone (ctlPut (activity s false) (withBit (ctlWord (activity s false)) 1 false) 0x10) .mgmt) := by
    refine congrArg Host.Outcome.next ((writeAt_of_answers hp ..).trans (congrArg (portDone · .mgmt) ?_))
    exact portWrite_mgmt ha ..
  have hput (s : State) (on : Bool) : ∃ inj, ctlPut s (withBit (ctlWord s) 1 on) 0x10 =
      rejectIf (on && !s.md.engineEn && !engineOk s)
        (if on then (if !s.md.engineEn && !engineOk s then { s with flt := { s.flt with inject := inj } }
          else engineOn { s with flt := { s.flt with inject := inj } } 0x10) else engineOff { s with flt := { s.flt with inject := inj } }) 0x10 := by
    obtain ⟨inj, hl⟩ := ctlLoad_same s on
    have h0 : (withBit (ctlWord s) 1 on).getLsbD 0 = on := by
      rw [getLsbD_withBit]
      exact if_pos (by decide)
    have h2 : (withBit (ctlWord s) 1 on).getLsbD 2 = s.ctl.deliverEn := by
      rw [getLsbD_withBit, if_neg (by decide), (ctlWord_getLsbD s).2.2.1]
    refine ⟨inj, ?_⟩
    rw [ctlPut_open (fun _ => withBit_apart (by decide) on) (withBit_apart (by decide) on)]
    dsimp only
    rw [h0, h2, hl, Bool.and_not_self]
    cases on <;> rfl
  refine ⟨fun s f ha hp hm hen hph hf hacc hlk he => ?_, fun s e ha hp hm hen hph hacc he hu => ?_, fun s ha hp hen hno => ?_,
    fun s hc hp hr hen ht hw hb hv hcc => ?_⟩
  · have hmd : (activity s false).md = s.md := activity_md (by simp [hm])
    obtain ⟨inj, hx⟩ := hput (activity s false) true
    let x : State := { activity s false with flt := { (activity s false).flt with inject := inj } }
    have hok : engineOk (activity s false) = true := by simp [engineOk, hph, hacc]
    have hon := engineOn_serves (s := x) (by rw [show x.md = s.md from hmd]; exact hen) hok (by rw [show x.md = s.md from hmd]; exact hm)
      (activity_entry_none he) 0x10
    have hdr : drainHeld x = drainHeld s := by
      show ((activity s false).ctl.freeze || decide ((activity s false).pw.req = 6)) = _
      rw [activity_ctl, activity_pw_req]
      rfl
    have hlocks : (takeLocks { x with md := { x.md with engineEn := true } }).md
        = { s.md with engineEn := true, lock := s.md.lock ||| f.lockBits, lockTaken := true } := by
      unfold takeLocks
      rw [if_neg (by show ¬ x.md.lockTaken = true; rw [show x.md = s.md from hmd, hlk]; decide)]
      dsimp only
      rw [show x.md = s.md from hmd, show x.fu = s.fu from activity_fu s, hf]
    have hrest : (takeLocks { x with md := { x.md with engineEn := true } }).ctl = s.ctl ∧ (takeLocks { x with md := { x.md with engineEn := true } }).tm = s.tm
        ∧ (takeLocks { x with md := { x.md with engineEn := true } }).fu = s.fu := by
      unfold takeLocks
      split <;> exact ⟨activity_ctl s, activity_tm s, activity_fu s⟩
    obtain ⟨hctl, htm, hfu⟩ := hrest
    have he : ctlPut (activity s false) (withBit (ctlWord (activity s false)) 1 true) 0x10 = engineOn x 0x10 := by
      rw [hx, hok]
      simp [rejectIf, x]
    refine ⟨_, hset ha hp, ?_⟩
    rw [he, portDone_md, portDone_ctl, portDone_tm, portDone_fu, hon.md, hon.ctl, hon.tm, hon.fu, hdr]
    simp only [hctl, htm, hfu, setMode, hlocks, hm]
    exact ⟨trivial, trivial, trivial, trivial, trivial, trivial, trivial⟩
  · have hact := activity_of_committed (by simp [hm]) he hu
    obtain ⟨inj, hx⟩ := hput (noteBusy s) true
    let x : State := { noteBusy s with flt := { (noteBusy s).flt with inject := inj } }
    have hok : engineOk (noteBusy s) = true := by simp [engineOk, hph, hacc]
    have hon : engineOn x 0x10 = { x with md := { x.md with engineEn := true } } := by
      unfold engineOn
      rw [if_neg (by show ¬ s.md.engineEn = true; simp [hen]), if_neg (by rw [show engineOk x = true from hok]; decide)]
      exact if_neg (by show ¬ (decide (s.md.mode = .unformed) && s.pw.entry.isNone) = true; simp [he])
    have hput' : ctlPut (noteBusy s) (withBit (ctlWord (noteBusy s)) 1 true) 0x10 = { x with md := { x.md with engineEn := true } } := by
      rw [hx, hok, ← hon]
      simp [rejectIf, x]
    refine ⟨_, hset ha hp, ?_⟩
    rw [hact, hput']
    exact ⟨rfl, rfl, rfl, rfl, rfl⟩
  · obtain ⟨inj, hx⟩ := hput (activity s false) true
    have hok : engineOk (activity s false) = false := by
      rcases hno with h | h <;> simp [engineOk, h]
    have hen' : (activity s false).md.engineEn = false := by
      by_cases hi : s.md.mode = .idle
      · rw [(activity_of_idle hi).1]
        exact hen
      · rw [activity_md hi]
        exact hen
    have hput' : ctlPut (activity s false) (withBit (ctlWord (activity s false)) 1 true) 0x10
        = rejectWrite { activity s false with flt := { (activity s false).flt with inject := inj } } 0x10 := by
      rw [hx, hok, hen']
      rfl
    refine ⟨_, hset ha hp, ?_⟩
    rw [hput', portDone_md, portDone_status, portDone_ctl, portDone_ts, portDone_vat]
    refine ⟨rfl, hen', (Sc.has_raise _ stCfgRej (by decide)).trans (by simp), ?_, rfl, activity_ts s, activity_vat s⟩
    show satAdd (activity s false).ctl.cfgCount 1 = _
    rw [activity_ctl]
  · have ha := awake_of_calm hc
    obtain ⟨inj, hx⟩ := hput (noteBusy s) false
    let x : State := { noteBusy s with flt := { (noteBusy s).flt with inject := inj } }
    obtain ⟨t, hoff, hlog⟩ := engineOff_unforms (s := x) hen hr ht hw hb hv hcc
    have hfence := fenceAll_offUnits { x with md := { x.md with engineEn := false } }
    have hput' : ctlPut (noteBusy s) (withBit (ctlWord (noteBusy s)) 1 false) 0x10 = engineOff x := by
      rw [hx]
      rfl
    have hmd : (engineOff x).md = { s.md with mode := .unformed, prev := s.md.mode, seq := s.md.seq + 1, engineEn := false } := by
      refine (congrArg State.md hoff :).trans (hlog.md.trans ?_)
      have hf : (fenceAll { x with md := { x.md with engineEn := false } }).md = { s.md with engineEn := false } := (congrArg State.md hfence :)
      simp only [setMode, entryOver, hf]
    refine ⟨_, hclear ha hp, ?_⟩
    rw [activity_of_calm hc, hput', portDone_md, portDone_vat, portDone_ts, portDone_vs, portDone_tm, hmd]
    exact ⟨rfl, rfl, rfl, (congrArg State.vat hoff :).trans (hlog.vat.trans (congrArg State.vat hfence :)),
      (congrArg State.ts hoff :).trans (hlog.ts.trans (congrArg State.ts hfence :)),
      (congrArg State.vs hoff :).trans (hlog.vs.trans (congrArg State.vs hfence :)),
      (congrArg State.tm hoff :).trans (hlog.tm.trans (congrArg State.tm hfence :)), rfl⟩

/-- Settles O51: by the bit that is written. -/
theorem controlBitsAct : Obligations.ControlBitsAct := by
  refine ⟨fun s hc hp hl hi => ?_, fun s hc hp hen => ?_, fun s w ha hp => ?_⟩
  · have hput (mask : Word) (on : Bool) (h3 : mask &&& 0x008 = 0) (h0 : mask.getLsbD 0 = false) :
        writeAt s .mgmt (fun s => ctlBit s mask on) = portDone
          (if s.ctl.deliverEn && !(withBit (ctlWord (noteBusy s)) mask on).getLsbD 2 then
            settleAll (batchEndAll (ctlLoad (noteBusy s) (withBit (ctlWord (noteBusy s)) mask on)))
          else ctlLoad (noteBusy s) (withBit (ctlWord (noteBusy s)) mask on)) .mgmt := by
      have hnf : frozenBy (noteBusy s) lkCtl = true → (ctlWord (noteBusy s) ^^^ withBit (ctlWord (noteBusy s)) mask on) &&& 0x116 = 0 :=
        fun h => absurd h (by rw [show frozenBy (noteBusy s) lkCtl = false from hl]; decide)
      have hen : (withBit (ctlWord (noteBusy s)) mask on).getLsbD 0 = (noteBusy s).md.engineEn := by
        rw [getLsbD_withBit, h0]
        exact (ctlWord_getLsbD (noteBusy s)).1
      rw [writeAt_of_answers hp]
      refine congrArg (portDone · .mgmt) ((portWrite_mgmt (awake_of_calm hc) ..).trans ?_)
      rw [activity_of_calm hc]
      exact ctlPut_engine_stays hnf (withBit_apart h3 on) hen 0x10
    have hload (v : Word) : ctlLoad (noteBusy s) v = { (if v.getLsbD 1 && !s.ctl.ingressEn then ingressOffer (noteBusy s) else noteBusy s) with
        ctl := { s.ctl with ingressEn := v.getLsbD 1, deliverEn := v.getLsbD 2, planeCheckEn := v.getLsbD 3, journalEn := v.getLsbD 4,
                            quarEn := v.getLsbD 8 } } := ctlLoad_of_noInject (s := noteBusy s) hi v
    obtain ⟨-, k1, k2, k3, k4, k8⟩ := ctlWord_getLsbD (noteBusy s)
    have hing (on : Bool) : writeAt s .mgmt (fun s => ctlBit s 2 on) = portDone
        { (if on && !s.ctl.ingressEn then ingressOffer (noteBusy s) else noteBusy s) with ctl := { s.ctl with ingressEn := on } } .mgmt := by
      have b1 : (withBit (ctlWord (noteBusy s)) 2 on).getLsbD 1 = on := by rw [getLsbD_withBit]; exact if_pos (by decide)
      have b2 : (withBit (ctlWord (noteBusy s)) 2 on).getLsbD 2 = s.ctl.deliverEn := by rw [getLsbD_withBit, if_neg (by decide)]; exact k2
      have b3 : (withBit (ctlWord (noteBusy s)) 2 on).getLsbD 3 = s.ctl.planeCheckEn := by rw [getLsbD_withBit, if_neg (by decide)]; exact k3
      have b4 : (withBit (ctlWord (noteBusy s)) 2 on).getLsbD 4 = s.ctl.journalEn := by rw [getLsbD_withBit, if_neg (by decide)]; exact k4
      have b8 : (withBit (ctlWord (noteBusy s)) 2 on).getLsbD 8 = s.ctl.quarEn := by rw [getLsbD_withBit, if_neg (by decide)]; exact k8
      rw [hput 2 on (by decide) (by decide), b2, Bool.and_not_self, hload, b1, b2, b3, b4, b8]
      rfl
    have hdel (on : Bool) : ctlLoad (noteBusy s) (withBit (ctlWord (noteBusy s)) 4 on) = { noteBusy s with ctl := { s.ctl with deliverEn := on } }
        ∧ (withBit (ctlWord (noteBusy s)) 4 on).getLsbD 2 = on := by
      have b1 : (withBit (ctlWord (noteBusy s)) 4 on).getLsbD 1 = s.ctl.ingressEn := by rw [getLsbD_withBit, if_neg (by decide)]; exact k1
      have b2 : (withBit (ctlWord (noteBusy s)) 4 on).getLsbD 2 = on := by rw [getLsbD_withBit]; exact if_pos (by decide)
      have b3 : (withBit (ctlWord (noteBusy s)) 4 on).getLsbD 3 = s.ctl.planeCheckEn := by rw [getLsbD_withBit, if_neg (by decide)]; exact k3
      have b4 : (withBit (ctlWord (noteBusy s)) 4 on).getLsbD 4 = s.ctl.journalEn := by rw [getLsbD_withBit, if_neg (by decide)]; exact k4
      have b8 : (withBit (ctlWord (noteBusy s)) 4 on).getLsbD 8 = s.ctl.quarEn := by rw [getLsbD_withBit, if_neg (by decide)]; exact k8
      rw [hload, b1, b2, b3, b4, b8, Bool.and_not_self]
      exact ⟨rfl, rfl⟩
    refine ⟨congrArg Host.Outcome.next ((hing false).trans ?_), congrArg Host.Outcome.next ((hing true).trans ?_),
      congrArg Host.Outcome.next ((hput 4 true (by decide) (by decide)).trans ?_), ?_⟩
    · rfl
    · cases s.ctl.ingressEn <;> rfl
    · rw [(hdel true).1, (hdel true).2, Bool.not_true, Bool.and_false]
      rfl
    · let y : State := { noteBusy s with ctl := { s.ctl with deliverEn := false } }
      have hst : Steady y (if s.ctl.deliverEn && !false then settleAll (batchEndAll y) else y) :=
        Steady.ite (.of_inner (settleAll_inner (batchEndAll_inner (.refl y)))) (.refl y)
      refine ⟨_, congrArg Host.Outcome.next ((hput 4 false (by decide) (by decide)).trans (by rw [(hdel false).1, (hdel false).2])), ?_⟩
      rw [portDone_ctl, portDone_md, portDone_tm, portDone_fu]
      exact ⟨hst.ctl, hst.md, hst.tm, hst.fu⟩
  · have hput (on : Bool) : writeAt s .mgmt (fun s => freezeBit s on)
        = portDone (drainFollow { noteBusy s with ctl := { s.ctl with freeze := on } }) .mgmt := by
      rw [writeAt_of_answers hp]
      refine congrArg (portDone · .mgmt) ((portWrite_mgmt (awake_of_calm hc) ..).trans ?_)
      rw [activity_of_calm hc]
      exact arbPut_freeze (noteBusy s) on 0x300
    refine ⟨fun hm => ?_, fun hm => ?_⟩
    · have hs := drainFollow_freezes (s := { noteBusy s with ctl := { s.ctl with freeze := true } }) hm (by simp [drainHeld]) hen
      refine ⟨_, congrArg Host.Outcome.next (hput true), ?_⟩
      rw [portDone_ctl, portDone_md, portDone_tm, hs.ctl, hs.md, hs.tm]
      exact ⟨rfl, rfl, hm, rfl, rfl⟩
    · refine ⟨_, congrArg Host.Outcome.next (hput false), ?_⟩
      rw [portDone_ctl, portDone_md, portDone_tm]
      by_cases h6 : s.pw.req = 6
      · rw [drainFollow_holds (s := { noteBusy s with ctl := { s.ctl with freeze := false } }) hm (by simp [drainHeld, h6]), if_pos h6]
        exact ⟨rfl, hm, rfl, rfl⟩
      · have hs := drainFollow_thaws (s := { noteBusy s with ctl := { s.ctl with freeze := false } }) hm (by
          show (false || decide (s.pw.req = 6)) = false
          rw [decide_eq_false h6, Bool.or_false])
        rw [hs.ctl, hs.md, hs.tm, if_neg h6]
        exact ⟨rfl, rfl, rfl, rfl⟩
  · refine congrArg Host.Outcome.next ((writeAt_of_answers hp ..).trans (congrArg (portDone · .mgmt) ((portWrite_mgmt ha ..).trans ?_)))
    show ({ activity s false with md := { (activity s false).md with lock := (activity s false).md.lock ||| fld w 0 8 } } : State) = _
    rw [activity_md_lock]

end Sys2Proof
end

section
/-! PROOF. Entry attempts: what a refusal and a start leave, and the commit (R281 to R284, R293, R299). -/

namespace Sys2Proof.Machine

/-- The commit of an attempt that was made outside UNFORMED, by what its last rounds leave (R283 steps 6 and 7, R318). -/
theorem entryCommit_of_awake (s : State) {e : Entry} (ho : e.origin ≠ .unformed) : ∃ d, entryCommit s e =
    if (lastRounds s).flt.fatal.isSome then lastRounds s
    else if (lastRounds s).flt.selfTest.isSome then refuse (lastRounds s) e.target 7 (fltSumWord (lastRounds s))
    else if timerRefuses (lastRounds s) e.target then refuse (lastRounds s) e.target 6 d
    else entryPass (entryCapture (lastRounds s) e) e := by
  unfold entryCommit
  rw [if_neg ho]
  exact ⟨_, rfl⟩

theorem entryArm_shows {s : State} {e : Entry} (he : s.pw.entry = some e) :
    (entryArm s).pw.entry = some { e with step := .armed, armedAt := now s } ∧ (entryArm s).md = s.md ∧ (entryArm s).pw.copies = homeCopies s
      ∧ (entryArm s).ts = s.ts ∧ (entryArm s).vs = s.vs ∧ (entryArm s).tm = s.tm := by
  unfold entryArm entryTo copiesTake
  generalize homeCopies s = l
  dsimp only
  rw [he]
  exact ⟨rfl, rfl, rfl, rfl, rfl, rfl⟩

/-! ### Refusals -/

/-- What a refused attempt leaves: the refusal's registers and a retry; the record goes to the journal alone (R282, R299). -/
structure Refused (s t : State) (g : SleepTarget) (code : BitVec 4) : Prop where
  entry : t.pw.entry = none
  code : t.pw.refCode = code
  target : t.pw.refTarget = g.code
  seq : t.pw.refSeq = s.pw.refSeq + 1
  retry : t.pw.retryAt = some (now s + 1000000)
  md : t.md = s.md
  tm : t.tm = s.tm
  ts : t.ts = s.ts
  vs : t.vs = s.vs
  ctl : t.ctl = s.ctl

theorem refuse_refused (s : State) (g : SleepTarget) (code : BitVec 4) (detail : Word) : Refused s (refuse s g code detail) g code := by
  have h : ∃ x, Logged x (refuse s g code detail) ∧ Refused s x g code := ⟨_, Logged.jnlRated .., ⟨rfl, rfl, rfl, rfl, rfl, rfl, rfl, rfl, rfl, rfl⟩⟩
  obtain ⟨x, hl, hx⟩ := h
  exact ⟨(congrArg PowerUnit.entry hl.pw).trans hx.entry, (congrArg PowerUnit.refCode hl.pw).trans hx.code,
    (congrArg PowerUnit.refTarget hl.pw).trans hx.target, (congrArg PowerUnit.refSeq hl.pw).trans hx.seq,
    (congrArg PowerUnit.retryAt hl.pw).trans hx.retry, hl.md.trans hx.md, hl.tm.trans hx.tm, hl.ts.trans hx.ts, hl.vs.trans hx.vs, hl.ctl.trans hx.ctl⟩

/-! ### An attempt -/

theorem attempt_made (s : State) (g : SleepTarget) : AttemptMade s (attempt s g) g := by
  let s0 : State := { s with pw := { s.pw with due := false, woke := false, retryAt := none } }
  have href (code : BitVec 4) (detail : Word) {t : State} (ht : t = refuse s0 g code detail) :
      t.pw.entry = none ∧ t.pw.refCode = code ∧ t.pw.refTarget = g.code ∧ t.pw.refSeq = s.pw.refSeq + 1
        ∧ t.pw.retryAt = some (now s + 1000000) ∧ t.md = s.md ∧ t.tm = s.tm ∧ t.ts = s.ts ∧ t.vs = s.vs ∧ t.ctl = s.ctl := by
    subst ht
    obtain ⟨h1, h2, h3, h4, h5, h6, h7, h8, h9, h10⟩ := refuse_refused s0 g code detail
    exact ⟨h1, h2, h3, h4, h5, h6, h7, h8, h9, h10⟩
  let e : Entry := { target := g, step := if s.md.mode = .unformed then .armed else .draining, origin := s.md.mode, since := now s, armedAt := now s }
  have hatt : attempt s g =
      if faultRefuses s then refuse s0 g 7 (fltSumWord s0)
      else if decide (s.fu.phase ≠ .empty) && decide (s.fu.phase ≠ .formed) then refuse s0 g 5 (at_ 32 0 s0.fu.phase.code)
      else if commitRefuses s then refuse s0 g 3 (dcStatusWord s0 .M)
      else if !(locksHeld s).isEmpty then refuse s0 g 4 (w32 (locksHeld s0).length)
      else if !s.vat.slots.isEmpty then refuse s0 g 2 (w32 (occupied s0))
      else settleAll (batchEndAll { s0 with pw := { s0.pw with entry := some e } }) := rfl
  refine ⟨fun hf => href 7 (fltSumWord s0) (hatt.trans (if_pos hf)), fun hf => ?_⟩
  rw [if_neg (by simp [hf])] at hatt
  refine ⟨fun hp => href 5 (at_ 32 0 s0.fu.phase.code) (hatt.trans (if_pos (by simp [hp.1, hp.2]))), fun hp => ?_⟩
  rw [if_neg (by rcases hp with hp | hp <;> simp [hp])] at hatt
  refine ⟨fun hc => href 3 (dcStatusWord s0 .M) (hatt.trans (if_pos hc)), fun hc => ?_⟩
  rw [if_neg (by simp [hc])] at hatt
  refine ⟨fun hl => href 4 (w32 (locksHeld s0).length) (hatt.trans (if_pos (by simp [hl]))), fun hl => ?_⟩
  rw [if_neg (by simp [hl])] at hatt
  refine ⟨fun hv => href 2 (w32 (occupied s0)) (hatt.trans (if_pos (by simp [hv]))), fun hv => ?_⟩
  rw [if_neg (by simp [hv])] at hatt
  have hi : Inner noGain { s0 with pw := { s0.pw with entry := some e } } (attempt s g) := by
    rw [hatt]
    exact settleAll_inner (batchEndAll_inner (.refl _))
  exact ⟨congrArg PowerUnit.entry hi.pw, congrArg PowerUnit.retryAt hi.pw, hi.md, hi.tm, hi.ctl⟩

/-- Where no attempt is under way and the mode allows it, one is made at the target that REQ and ALLOW name (R281). -/
theorem tryAttempt_made {s : State} (he : s.pw.entry = none) {g : SleepTarget} (hg : attemptTarget s = some g) (hm : attemptMode s g = true) :
    AttemptMade s (tryAttempt s) g := by
  have ht : tryAttempt s = attempt s g := by
    unfold tryAttempt
    rw [he, hg]
    exact if_pos hm
  rw [ht]
  exact attempt_made s g

theorem tryAttempt_of_noTarget {s : State} (hg : attemptTarget s = none) : tryAttempt s = s := by
  unfold tryAttempt
  rw [hg]
  split <;> simp_all

theorem tryAttempt_of_entry {s : State} (he : s.pw.entry.isSome = true) : tryAttempt s = s := by
  obtain ⟨e, he⟩ := Option.isSome_iff_exists.mp he
  unfold tryAttempt
  rw [he]

/-! ### The commit -/

/-- What an attempt that goes on changes is the power unit (R283 steps 7 and 8). -/
theorem entryGo_eq (s : State) : ∃ pw, entryGo s = { s with pw := pw } := by
  unfold entryGo
  split
  · split
    · split <;> exact ⟨_, rfl⟩
    · exact ⟨s.pw, rfl⟩
  · exact ⟨s.pw, rfl⟩

theorem entryGo_asks {s : State} {e : Entry} (he : s.pw.entry = some e) (hs : e.step = .committed) (hw : writesDone s = true) :
    entryGo s = { s with pw := { s.pw with entry := some { e with step := if e.origin = .unformed then .askedOff else .askedRest },
                                           pwrReq := if e.origin = .unformed then 4 else 2, ackWait := true } } := by
  unfold entryGo
  rw [he]
  simp only [hs, hw, decide_true, Bool.and_self, if_true]
  by_cases ho : e.origin = .unformed
  · simp only [ho, if_true, pwrAsk, entryTo, he, Option.map_some]
  · simp only [ho, if_false, pwrAsk, entryTo, he, Option.map_some]

theorem entryGo_waits {s : State} (hw : writesDone s = false) : entryGo s = s := by
  unfold entryGo
  split
  · exact if_neg (by simp [hw])
  · rfl

/-- A journal record while a journal is written is a write that is outstanding, and a write that is outstanding stays so (R283 step 3, R336). -/
theorem writesDone_of_prefix {s t : State} (hr : s.ap.reqs <+: t.ap.reqs) (hw : s.ap.waiting <+: t.ap.waiting) (h : writesDone s = false) :
    writesDone t = false := by
  simp only [writesDone, Bool.and_eq_false_iff, Bool.not_eq_false', List.any_eq_true] at h ⊢
  rcases h with ⟨e, he, hk⟩ | ⟨e, he, hk⟩
  · exact Or.inl ⟨e, hr.subset he, hk⟩
  · exact Or.inr ⟨e, hw.subset he, hk⟩

theorem writesDone_apRequest (s : State) (p : Purpose) (offset : Nat) (data : List Word) : writesDone (apRequest s p true offset data) = false := by
  unfold apRequest apPut
  split <;> simp [writesDone, apForm]

theorem writesDone_jnlPut {s : State} (h : journalOn s = true) (p : Purpose) (r : Rec) : writesDone (jnlPut s p r) = false := by
  have hreq := writesDone_apRequest s p (s.jn.base.toNat * 4096 + 64 * s.jn.tail.toNat) r.toList
  unfold jnlPut
  rw [if_pos h]
  dsimp only
  split <;> exact hreq

theorem jnlPut_of_off {s : State} (h : journalOn s = false) (p : Purpose) (r : Rec) : jnlPut s p r = s := by
  unfold jnlPut
  exact if_neg (by simp [h])

/-- An attempt that commits is counted, and its step is the commit (R283 step 7, R299). -/
def passing (s : State) : State :=
  entryTo { s with pw := { s.pw with refCnt := s.pw.refCnt.setIfInBounds 0 (s.pw.refCnt.getD 0 0 + 1), ignored := [], hungs := 0, vddFell := false } } .committed

/-- The commit's state before it goes on: the record names the target. -/
def committed (s : State) (e : Entry) : State := jnlSleep (passing s) e.origin e.target

theorem committed_logged (s : State) (e : Entry) : Logged (passing s) (committed s e) := Logged.jnlPut ..

theorem entryPass_eq (s : State) (e : Entry) : entryPass s e = entryGo (committed s e) := rfl

/-- The commit leaves the mode, time, the settings and the tables (R283 step 7). -/
theorem entryPass_frame (s : State) (e : Entry) :
    (entryPass s e).md = s.md ∧ (entryPass s e).tm = s.tm ∧ (entryPass s e).ts = s.ts ∧ (entryPass s e).vs = s.vs ∧ (entryPass s e).ctl = s.ctl := by
  have hl := committed_logged s e
  obtain ⟨pw, hg⟩ := entryGo_eq (committed s e)
  rw [entryPass_eq, hg]
  exact ⟨hl.md, hl.tm, hl.ts, hl.vs, hl.ctl⟩

theorem vteStore_lmem (s : State) (h : Nat) : (vteStore s h).ts.lmem = s.ts.lmem := by
  unfold vteStore
  split
  · rfl
  · exact congrArg TargetStore.lmem (Logged.apRequest ..).ts

theorem tdStore_lmem (s : State) (t : Nat) : (tdStore s t).ts.lmem = s.ts.lmem := by
  unfold tdStore
  exact (congrArg TargetStore.lmem (Logged.apRequest ..).ts :)

theorem writeback_lmem (s : State) : (writeback s).ts.lmem = s.ts.lmem := by
  unfold writeback
  dsimp only
  refine (forEach_view (v := fun x => x.ts.lmem) tdStore_lmem ..).trans ?_
  exact forEach_view (v := fun x => x.ts.lmem) vteStore_lmem ..

/-- The capture: the hardware fields are written back for OFF alone, the pair is saved, and MODE is REST (R245, R283, R293). -/
theorem entryCapture_shows (s : State) (e : Entry) :
    (entryCapture s e).md.mode = .rest ∧ (entryCapture s e).tm = { s.tm with tEntry := now s, aEntry := s.tm.aoCount } ∧ (entryCapture s e).ctl = s.ctl
      ∧ (entryCapture s e).ts.lmem = s.ts.lmem ∧ (e.target ≠ .off → (entryCapture s e).ts = s.ts ∧ (entryCapture s e).vs = s.vs) := by
  have hi : Inner noGain s (if decide (e.target = .off) then writeback s else s) := ite_inner (writeback_inner (.refl s)) (.refl s)
  have hl : (if decide (e.target = .off) then writeback s else s).ts.lmem = s.ts.lmem := by
    split
    · exact writeback_lmem s
    · rfl
  refine ⟨rfl, ?_, hi.ctl, hl, fun h => ?_⟩
  · show ({ (if decide (e.target = .off) then writeback s else s).tm with
      tEntry := (if decide (e.target = .off) then writeback s else s).tm.now, aEntry := (if decide (e.target = .off) then writeback s else s).tm.aoCount } : TimeUnit) = _
    rw [hi.tm]
    rfl
  · have hs : (if decide (e.target = .off) then writeback s else s) = s := if_neg (by simp [h])
    unfold entryCapture
    rw [hs]
    exact ⟨rfl, rfl⟩

end Sys2Proof.Machine

namespace Sys2Proof

open Sys2Proof.Machine

/-- Settles O53: by the occasions of IDLE and of an attempt. -/
theorem idleAndEntryAttempts : Obligations.IdleAndEntryAttempts := by
  have hatt (s : State) : exec .entryAttempt s = .next (if live s && ((s.pw.due && decide (s.md.mode = .idle)) || (s.pw.woke && quietServing s))
      then tryAttempt s else s) := rfl
  have hretry (s : State) : exec .entryRetry s = .next (match s.pw.retryAt with
    | some t => if live s && decide (t ≤ now s) && (decide (s.md.mode = .idle) || quietServing s) then tryAttempt s else s
    | none => s) := rfl
  have hmode {s : State} (h : s.md.mode = .idle ∨ quietServing s = true) (g : SleepTarget) : attemptMode s g = true := by
    rcases h with h | h
    · simp [attemptMode, h]
    · simp only [quietServing, Bool.and_eq_true, decide_eq_true_eq] at h
      simp [attemptMode, h.1.1]
  refine ⟨fun s => ⟨fun hl hm he ha hi hq hb => ?_, fun h => ?_⟩, fun s i hl he hocc => ?_, fun s => ⟨fun h => ?_, fun hd hw => ?_, fun r hr hlt => ?_, fun hr => ?_⟩⟩
  · refine ⟨idleEnter s, congrArg Host.Outcome.next (if_pos ?_), rfl, hm, rfl, rfl, ?_, rfl, rfl, rfl, rfl, rfl⟩
    · simp only [hl, hm, he, ha, quietLong, hq, Bool.and_eq_true, decide_eq_true_eq]
      exact ⟨⟨⟨⟨⟨trivial, trivial⟩, rfl⟩, trivial⟩, hi⟩, trivial, hb⟩
    · simp [idleEnter, sleepReq, Bool.decide_or, Bool.or_assoc]
  · refine congrArg Host.Outcome.next (if_neg ?_)
    simp only [quietLong, Bool.and_eq_true, decide_eq_true_eq, Option.isNone_iff_eq_none]
    rintro ⟨⟨⟨⟨⟨h1, h2⟩, h3⟩, h4⟩, h5⟩, h6, h7⟩
    rcases h with h | h | h | h | h | h | h
    · simp [h] at h1
    · exact h h2
    · simp [h3] at h
    · rw [h] at h4
      exact absurd h4 (by decide)
    · exact h5 h
    · simp [h] at h6
    · omega
  · have hocc' : (s.md.mode = .idle ∨ quietServing s = true) ∧ exec i s = .next (tryAttempt s) := by
      rcases hocc with ⟨rfl, ⟨hd, hm⟩ | ⟨hw, hq⟩⟩ | ⟨rfl, hm, r, hr, hle⟩
      · exact ⟨Or.inl hm, (hatt s).trans (congrArg Host.Outcome.next (if_pos (by simp [hl, hd, hm])))⟩
      · exact ⟨Or.inr hq, (hatt s).trans (congrArg Host.Outcome.next (if_pos (by simp [hl, hw, hq])))⟩
      · refine ⟨hm, (hretry s).trans ?_⟩
        rw [hr]
        refine congrArg Host.Outcome.next (if_pos ?_)
        rcases hm with hm | hm <;> simp [hl, hle, hm]
    obtain ⟨hm, hx⟩ := hocc'
    exact ⟨fun g hg => ⟨_, hx, tryAttempt_made he hg (hmode hm g)⟩, fun hg => hx.trans (congrArg Host.Outcome.next (tryAttempt_of_noTarget hg))⟩
  · have hstay : live s = false ∨ (s.md.mode ≠ .idle ∧ quietServing s = false) ∨ tryAttempt s = s := by
      rcases h with h | h | h
      · exact Or.inl h
      · exact Or.inr (Or.inl h)
      · exact Or.inr (Or.inr (tryAttempt_of_entry h))
    constructor
    · refine (hatt s).trans (congrArg Host.Outcome.next ?_)
      rcases hstay with h | ⟨h1, h2⟩ | h
      · exact if_neg (by simp [h])
      · exact if_neg (by simp [h1, h2])
      · rw [h, ite_self]
    · refine (hretry s).trans (congrArg Host.Outcome.next ?_)
      split
      · rcases hstay with h | ⟨h1, h2⟩ | h
        · exact if_neg (by simp [h])
        · exact if_neg (by simp [h1, h2])
        · rw [h, ite_self]
      · rfl
  · exact (hatt s).trans (congrArg Host.Outcome.next (if_neg (by simp [hd, hw])))
  · refine (hretry s).trans ?_
    rw [hr]
    exact congrArg Host.Outcome.next (if_neg (by simp [Nat.not_le.mpr hlt]))
  · refine (hretry s).trans ?_
    rw [hr]

/-- Settles O54: the drain's two ends, and the commit by what its last rounds leave. -/
theorem entryDrainsAndCommits : Obligations.EntryDrainsAndCommits := by
  have hcommit {s : State} {e : Entry} (hl : live s = true) (he : s.pw.entry = some e) (hs : e.step = .armed) (hf : s.flt.fatal = none)
      (ha : s.tm.aoStopped = false) : exec .entryCommit s = .next (entryCommit s e) := by
    show Host.Outcome.next (match s.pw.entry with
      | some e => if live s && decide (e.step = EntryStep.armed) && s.flt.fatal.isNone then (if s.tm.aoStopped then refuse s e.target 7 (fltSumWord s) else entryCommit s e) else s
      | none => s) = _
    rw [he]
    refine congrArg Host.Outcome.next ((if_pos (by simp [hl, hs, hf])).trans (if_neg (by simp [ha])))
  refine ⟨fun s e hl he hs => ⟨fun hd => ?_, fun hd hle => ?_⟩, fun s e hl he hs ho hf ha => ?_, fun s e hl he hs hf ha => ?_, fun s e hl he hs ho hf ha => ?_,
    fun s e tag c r hl he hs hreq hw haw hdone hres hst hwd => ?_⟩
  · have hat : entryAt s EntryStep.draining = true := by simp [entryAt, he, hs]
    obtain ⟨k1, k2, k3, k4, k5, k6⟩ := entryArm_shows he
    refine ⟨entryArm s, congrArg Host.Outcome.next (if_pos ?_), k1, k2, k3, k4, k5, k6⟩
    rw [Bool.and_assoc, hd, hl, hat]
    rfl
  · refine ⟨refuse s e.target 1 (w32 (inFlightCount s)), ?_, ?_⟩
    · show Host.Outcome.next (match s.pw.entry with
        | some e => if live s && decide (e.step = EntryStep.draining) && decide (e.since + drainMax ≤ now s) && !(transferNone s && writesDone s)
            then refuse s e.target 1 (w32 (inFlightCount s)) else s
        | none => s) = _
      rw [he]
      refine congrArg Host.Outcome.next (if_pos ?_)
      rw [hl, hd]
      simp only [hs, decide_true, Bool.true_and, Bool.not_false, Bool.and_true]
      exact decide_eq_true hle
    · obtain ⟨h1, h2, h3, -, h5, h6, -, h8, h9, -⟩ := refuse_refused s e.target 1 (w32 (inFlightCount s))
      exact ⟨h1, h2, h3, h5, h6, h8, h9⟩
  · have hr := lastRounds_steady s
    have hq (h : s.vs.queue = []) : lastRounds s = s := by rw [lastRounds, h]; rfl
    obtain ⟨d, hec⟩ := entryCommit_of_awake s ho
    refine ⟨fun h1 => ?_, fun h1 h2 => ?_, fun h1 h2 h3 => ?_, fun h1 h2 h3 => ?_⟩
    · exact (hcommit hl he hs hf ha).trans (congrArg Host.Outcome.next (hec.trans (if_pos h1)))
    · rw [if_neg (by simp [h1]), if_pos h2] at hec
      obtain ⟨k1, k2, -, -, -, k6, k7, -, -, k10⟩ := refuse_refused (lastRounds s) e.target 7 (fltSumWord (lastRounds s))
      exact ⟨_, (hcommit hl he hs hf ha).trans (congrArg Host.Outcome.next hec), k6.trans hr.md, k1, k2, k7.trans hr.tm, k10.trans hr.ctl⟩
    · rw [if_neg (by simp [h1]), if_neg (by simp [h2]), if_neg (by simp [h3])] at hec
      obtain ⟨k1, k2, k3, k4, k5⟩ := entryPass_frame (entryCapture (lastRounds s) e) e
      obtain ⟨c1, c2, c3, c4, c5⟩ := entryCapture_shows (lastRounds s) e
      refine ⟨_, (hcommit hl he hs hf ha).trans (congrArg Host.Outcome.next hec), ?_, ?_, ?_, ?_, k5.trans (c3.trans hr.ctl), fun hqn => ⟨?_, fun hne => ⟨?_, ?_⟩⟩⟩
      · rw [k1, c1]
      · rw [k2, c2, now, hr.tm]
        rfl
      · rw [k2, c2, hr.tm]
      · rw [k2, c2, hr.tm]
      · rw [k3, c4, hq hqn]
      · rw [k3, (c5 hne).1, hq hqn]
      · rw [k4, (c5 hne).2, hq hqn]
    · rw [if_neg (by simp [h1]), if_neg (by simp [h2]), if_pos h3] at hec
      obtain ⟨k1, k2, -, -, -, k6, k7, k8, k9, k10⟩ := refuse_refused (lastRounds s) e.target 6 d
      refine ⟨_, (hcommit hl he hs hf ha).trans (congrArg Host.Outcome.next hec), k6.trans hr.md, k1, k2, k7.trans hr.tm, k10.trans hr.ctl, fun hqn => ⟨?_, ?_⟩⟩
      · rw [k8, hq hqn]
      · rw [k9, hq hqn]
  · obtain ⟨k1, k2, -, -, -, k6, k7, k8, k9, -⟩ := refuse_refused s e.target 7 (fltSumWord s)
    refine ⟨_, ?_, k6, k1, k2, k7, k8, k9⟩
    show Host.Outcome.next (match s.pw.entry with
      | some e => if live s && decide (e.step = EntryStep.armed) && s.flt.fatal.isNone then (if s.tm.aoStopped then refuse s e.target 7 (fltSumWord s) else entryCommit s e) else s
      | none => s) = _
    rw [he]
    exact congrArg Host.Outcome.next ((if_pos (by simp [hl, hs, hf])).trans (if_pos ha))
  · obtain ⟨k1, k2, k3, k4, k5⟩ := entryPass_frame s e
    have hlog := committed_logged s e
    have hpass : (passing s).pw.entry = some { e with step := .committed } := by
      show Option.map _ s.pw.entry = _
      rw [he]
      rfl
    refine ⟨entryPass s e, (hcommit hl he hs hf ha).trans (congrArg Host.Outcome.next (if_pos ho)), k1, k2, k3, k4, k5, fun hw hj => ?_, fun h => ?_⟩
    · have hx : committed s e = passing s := jnlPut_of_off (s := passing s) hj _ _
      have hgo := entryGo_asks (s := passing s) hpass rfl hw
      rw [entryPass_eq, hx, hgo]
      simp only [ho, if_true]
      exact ⟨trivial, trivial, trivial⟩
    · have hnot : writesDone (committed s e) = false := by
        rcases h with h | h
        · exact writesDone_of_prefix hlog.reqs hlog.waiting h
        · exact writesDone_jnlPut (s := passing s) h _ _
      rw [entryPass_eq, entryGo_waits hnot, hlog.pw]
      exact ⟨hpass, rfl, rfl⟩
  · have hoff := apDone_offPort s tag
    have hpw : (apDone s tag).pw = s.pw := (congrArg State.pw hoff :)
    have hgo := entryGo_asks (s := apDone s tag) (hpw ▸ he) hs hwd
    have hack : writeAck s tag r c = entryGo (apDone s tag) := by
      unfold writeAck
      rw [if_neg (by simp [hres]), if_pos hdone, writeComplete, if_neg (by simp [hres])]
      refine warmGo_of_noneStored ?_
      rw [hgo]
      exact (congrArg (fun x => x.fu.stored) hoff :).trans hst
    refine ⟨writeAck s tag r c, congrArg Host.Outcome.next (onWrite_of_req hl hreq hw haw _), ?_⟩
    rw [hack, hgo]
    exact ⟨rfl, rfl, rfl, (congrArg State.md hoff :), (congrArg State.tm hoff :), (congrArg State.ts hoff :), (congrArg State.vs hoff :)⟩

end Sys2Proof
end

section
/-! PROOF. A write of IV_MODE_REQ with a value that R277 does not name (R277, R357). -/

namespace Sys2Proof.Machine

/-- The state after power-on reset in which REQ 3, a value that R277 does not name, waits for the edge of IV_CLK_AO. -/
def unnamedReqWaits : State := portDone (aoHold State.reset .plain 0x0C 3 (BitVec.ofNat 22 (aliasOff .plain + 0x0C))) .mgmt

theorem exec_unnamedReq : exec (.modeReqWrite .plain 3) State.reset = .next unnamedReqWaits := rfl

/-- At the edge the write is rejected, and IV_CFG_REJECT counts it (R357). -/
theorem unnamedReq_counted : (aoClock unnamedReqWaits).ctl.cfgCount = 1 := by decide

end Sys2Proof.Machine

namespace Sys2Proof

open Sys2Proof.Machine

/-- Refutes O52: its second clause says of every value that the settings stay, the refusal counts of IV_CFG_REJECT among them, but a value that R277
does not name is counted there (R357): REQ 3 written after a power-on reset takes COUNT from 0 to 1. -/
theorem not_modeRequestIsTaken : ¬ Obligations.ModeRequestIsTaken := by
  rintro ⟨h, -⟩
  obtain ⟨t, ht, -, -, hctl, -⟩ := (h State.reset (by decide) (by decide)).2 rfl rfl rfl .plain 3 3 (by decide)
  rw [exec_unnamedReq] at ht
  cases ht
  have hcount := unnamedReq_counted
  rw [hctl] at hcount
  exact absurd hcount (by decide)

end Sys2Proof
end

section
/-! PROOF. The power controller's acknowledges (R68, R287, R293). -/

namespace Sys2Proof.Machine

/-- An awaited acknowledge while an attempt is under way is that of its step. -/
theorem execPwrAck_of_entry {s : State} {e : Entry} (hl : live s = true) (ha : s.pw.ackWait = true) (he : s.pw.entry = some e) (v : Option DWord) :
    exec (.pwrAck v) s = .next (entryAck s e) := by
  simp only [live, Bool.and_eq_true, Bool.not_eq_true', decide_eq_true_eq] at hl
  obtain ⟨⟨⟨hp, hr⟩, ho⟩, hs⟩ := hl
  show execPwrAck v s = _
  unfold execPwrAck
  rw [if_neg (by simp [hp, ho, ha]), if_neg (by simp [hr]), if_neg hs, he]

/-- An awaited acknowledge of RUN in a sleep ends it (R292). -/
theorem execPwrAck_of_wake {s : State} {c : BitVec 4} (hl : live s = true) (ha : s.pw.ackWait = true) (he : s.pw.entry = none) (hw : s.pw.wakeReq = some c)
    (hs : sleeping s = true) (v : Option DWord) : exec (.pwrAck v) s = .next (wakeDone s c v) := by
  simp only [live, Bool.and_eq_true, Bool.not_eq_true', decide_eq_true_eq] at hl
  obtain ⟨⟨⟨hp, hr⟩, ho⟩, hn⟩ := hl
  show execPwrAck v s = _
  unfold execPwrAck
  rw [if_neg (by simp [hp, ho, ha]), if_neg (by simp [hr]), if_neg hn, he, hw]
  exact congrArg Host.Outcome.next (if_pos hs)

end Sys2Proof.Machine

namespace Sys2Proof

open Sys2Proof.Machine

/-- Settles O55: by the step that is acknowledged. -/
theorem powerAckEndsTheStep : Obligations.PowerAckEndsTheStep := by
  intro s v e hl ha he hw
  have hx := execPwrAck_of_entry hl ha he v
  refine ⟨fun hs ht => ?_, fun hs ht => ?_, fun hs ht hsl => ?_, fun hs => ?_⟩
  · refine hx.trans (congrArg Host.Outcome.next ?_)
    unfold entryAck
    rw [hs]
    simp [hw, ht]
  · have hack : entryAck s e = pwrAsk (entryTo (retentionSave { s with pw := { s.pw with pwrState := 2, ackWait := false } } e.origin) .askedDormant) 3 := by
      unfold entryAck
      rw [hs]
      simp [hw, ht]
    refine ⟨_, hx.trans (congrArg Host.Outcome.next hack), rfl, rfl, rfl, rfl, ?_, rfl, rfl, rfl⟩
    show Option.map _ s.pw.entry = _
    rw [he]
    rfl
  · let s0 : State := { s with pw := { s.pw with pwrState := 1, ackWait := false } }
    have hset : (if sleeping s0 then setMode s0 .dormant else s0) = setMode s0 .dormant := if_pos hsl
    have hack : entryAck s e = { setMode s0 .dormant with pw := { s.pw with pwrState := 1, ackWait := false, entry := none } } := by
      unfold entryAck
      rw [hs]
      dsimp only
      rw [hset, if_neg (show ¬ (setMode s0 .dormant).pw.wakeReq.isSome = true by simp [s0, hw]), if_neg (by simp [ht])]
      rfl
    exact ⟨_, hx.trans (congrArg Host.Outcome.next hack), rfl, rfl, rfl, rfl, rfl⟩
  · have hack : entryAck s e = offState s := by
      unfold entryAck
      rw [hs]
      exact if_neg (by simp [hw])
    exact ⟨_, hx.trans (congrArg Host.Outcome.next hack), rfl, rfl, rfl, rfl⟩

end Sys2Proof
end

section
/-! PROOF. The refresh engine's checks (R289, R316). -/

namespace Sys2Proof.Machine

/-! ### Faults and the tables -/

/-- A fault that is found, now or at the wake, leaves the tables (R316). -/
theorem faultFound_tables (s : State) (src : BitVec 8) (arg : BitVec 24) (inj : Bool) :
    (faultFound s src arg inj).vs = s.vs ∧ (faultFound s src arg inj).ts = s.ts := by
  have hcorr (t : Nat) : (correctedAt s t src arg inj).vs = s.vs ∧ (correctedAt s t src arg inj).ts = s.ts :=
    have h := correctedAt_offJournal s t src arg inj
    ⟨(congrArg State.vs h :), (congrArg State.ts h :)⟩
  have hdef (t : Nat) : (deferredAt s t src arg 0 0 inj).vs = s.vs ∧ (deferredAt s t src arg 0 0 inj).ts = s.ts := by
    cases hd : s.ctl.deferFatal
    · have h := deferredAt_offJournal hd t src arg 0 0 inj
      exact ⟨(congrArg State.vs h :), (congrArg State.ts h :)⟩
    · obtain ⟨flt, ao, he⟩ := fatalFault_rest s 0x2B arg inj
      have h : deferredAt s t src arg 0 0 inj = fatalFault s 0x2B arg inj := if_pos hd
      rw [h, he]
      exact ⟨rfl, rfl⟩
  unfold faultFound faultAt
  split
  · exact ⟨rfl, rfl⟩
  · split
    · exact hcorr _
    · exact hdef _

/-! ### Reloads -/

theorem mem_insertNat_self (k : Nat) : ∀ l : List Nat, k ∈ insertNat l k := by
  intro l
  induction l with
  | nil => simp [insertNat]
  | cons x r ih =>
    unfold insertNat
    split
    next h => simp [h]
    next =>
      split
      · simp
      · exact List.mem_cons_of_mem _ ih

/-- The reload of a corrupt entry's row: the vector waits, and the tables stand (R316). -/
theorem vteReload_shows (s : State) (h : Nat) :
    reloading (vteReload s h) h = true ∧ (vteReload s h).vs.vecs = s.vs.vecs ∧ (vteReload s h).vs.vtes = s.vs.vtes ∧ (vteReload s h).ts = s.ts
      ∧ (vteReload s h).flt = s.flt ∧ (vteReload s h).ctl = s.ctl ∧ (vteReload s h).pw = s.pw := by
  unfold vteReload
  split
  next hr => exact ⟨hr, rfl, rfl, rfl, rfl, rfl, rfl⟩
  next =>
    have hl := Logged.apRequest { s with vs := { s.vs with reload := insertNat s.vs.reload h } } (.vteReload h) false (vteOffset s h) []
    refine ⟨?_, (congrArg VecStore.vecs hl.vs :), (congrArg VecStore.vtes hl.vs :), hl.ts, hl.flt, hl.ctl, hl.pw⟩
    rw [reloading, hl.vs]
    simpa using mem_insertNat_self h s.vs.reload

/-- The reload of a corrupt descriptor's row: the target waits, and the tables stand (R316). -/
theorem tdReload_shows (s : State) (t : Nat) :
    t ∈ (tdReload s t).ts.reload ∧ (tdReload s t).vs = s.vs ∧ (tdReload s t).ts.targets = s.ts.targets ∧ (tdReload s t).flt = s.flt
      ∧ (tdReload s t).ctl = s.ctl ∧ (tdReload s t).pw = s.pw := by
  unfold tdReload
  split
  next hr => exact ⟨by simpa [tdReloading] using hr, rfl, rfl, rfl, rfl, rfl⟩
  next =>
    have hl := Logged.apRequest { s with ts := { s.ts with reload := insertNat s.ts.reload t } } (.tdReload t) false (tableOffset s 2 32 t) []
    refine ⟨?_, hl.vs, (congrArg TargetStore.targets hl.ts :), hl.flt, hl.ctl, hl.pw⟩
    rw [hl.ts]
    exact mem_insertNat_self t s.ts.reload

/-- A corrupt row that has an aperture copy is reloaded where a structure is formed: by the vector whose entry stands there, or by the target
(R316, assumption log 53). -/
theorem rowReload_shows {s : State} (hf : s.fu.formed.isSome = true) (array : BitVec 8) (row : BitVec 16) :
    (∀ h, rowHandle s array row = some h → reloading (rowReload s array row) h = true)
      ∧ (array = 2 → row.toNat < (geometry s).targetTop → row.toNat ∈ (rowReload s array row).ts.reload)
      ∧ (rowReload s array row).vs.vecs = s.vs.vecs ∧ (rowReload s array row).vs.vtes = s.vs.vtes ∧ (rowReload s array row).ts.targets = s.ts.targets
      ∧ (rowReload s array row).flt = s.flt ∧ (rowReload s array row).ctl = s.ctl := by
  unfold rowReload
  rw [if_neg (by simpa using Option.isSome_iff_ne_none.mp hf)]
  cases hh : rowHandle s array row with
  | some h =>
    obtain ⟨h1, h2, h3, h4, h5, h6, -⟩ := vteReload_shows s h
    refine ⟨fun k hk => ?_, fun h2 => ?_, h2, h3, congrArg TargetStore.targets h4, h5, h6⟩
    · cases hk
      exact h1
    · subst h2
      simp [rowHandle] at hh
  | none =>
    refine ⟨fun k hk => absurd hk (by simp), ?_⟩
    dsimp only
    split
    next hc =>
      obtain ⟨h1, h2, h3, h4, h5, -⟩ := tdReload_shows s row.toNat
      exact ⟨fun _ _ => h1, congrArg VecStore.vecs h2, congrArg VecStore.vtes h2, h3, h4, h5⟩
    next hc =>
      refine ⟨fun h2 ht => absurd ?_ hc, rfl, rfl, rfl, rfl, rfl⟩
      simp [h2, ht]

/-- A corrupt slot of local ring memory changes its own 32 bytes at most, whatever they then are (R316). -/
theorem read_lmemCorrupt (s : State) (row : BitVec 16) {a : Nat} (h : a < 32 * row.toNat ∨ 32 * row.toNat + 32 ≤ a) :
    Memory.read (lmemCorrupt s row).ts.lmem a = Memory.read s.ts.lmem a := by
  have hout (bs : List Byte) (hb : bs.length = 32) :
      Memory.read (Memory.writeBytes s.ts.lmem (32 * row.toNat) bs) a = Memory.read s.ts.lmem a := Memory.read_writeBytes_out (by rw [hb]; exact h)
  have hlen : ((List.range 32).map fun i => Config.corruptByte (s.free + i)).length = 32 := by rw [List.length_map, List.length_range]
  unfold lmemCorrupt
  generalize ((List.range 32).map fun i => Config.corruptByte (s.free + i)) = bs at hlen
  split
  · exact hout bs hlen
  · rfl

theorem lmemCorrupt_rest (s : State) (row : BitVec 16) : (lmemCorrupt s row).vs = s.vs ∧ (lmemCorrupt s row).md = s.md ∧ (lmemCorrupt s row).ctl = s.ctl := by
  unfold lmemCorrupt
  split <;> exact ⟨rfl, rfl, rfl⟩

/-! ### What Ivsyn does of itself -/

/-- An action that changes the power unit alone is no activity (R279). -/
theorem stirring_of_pw {f : State → State} {s : State} {p : PowerUnit} (h : f s = { s with pw := p }) : stirring f s = { s with pw := p } := by
  have hq : quiet ({ s with pw := p } : State) = quiet s := rfl
  unfold stirring
  rw [h, hq]
  exact if_neg (by simp)

end Sys2Proof.Machine

namespace Sys2Proof

open Sys2Proof.Machine

/-- Settles O60: by what the row shows, from the state or from the one after activity. -/
theorem refreshReportsErrors : Obligations.RefreshReportsErrors := by
  intro s hot array row copied hl hi
  have hexec (array : BitVec 8) (copied : Bool) (ecc : Ecc) : exec (.refresh hot array row copied ecc) s
      = .next (stirring (fun s => refreshRow { s with pw := { s.pw with refreshHot := hot } } array row copied ecc) s) :=
    congrArg Host.Outcome.next (if_pos hl)
  have hrow {x : State} (hx : x.flt.inject = none) (array : BitVec 8) (copied : Bool) (ecc : Ecc) : refreshRow x array row copied ecc = match ecc with
      | .clean => x
      | .single => faultFound x 0x03 (eccArg array row) false
      | .double => eccDouble x array row copied false := by
    unfold refreshRow
    exact (if_neg (by simp [hx])).trans ((if_neg (by simp [hx])).trans rfl)
  have hfrom (array : BitVec 8) (copied : Bool) (ecc : Ecc) : ∃ x, (x = s ∨ x = activity s false)
      ∧ exec (.refresh hot array row copied ecc) s = .next (refreshRow { x with pw := { x.pw with refreshHot := hot } } array row copied ecc) := by
    obtain ⟨x, hx, he⟩ := stirring_from (fun s => refreshRow { s with pw := { s.pw with refreshHot := hot } } array row copied ecc) s
    exact ⟨x, hx, (hexec array copied ecc).trans (congrArg Host.Outcome.next he)⟩
  refine ⟨fun hs => ?_, fun hs => ?_, ?_, ?_, fun hc hs hd hf => ?_, fun ha hc hfat => ?_⟩
  · obtain ⟨x, hx, he⟩ := hfrom array copied .single
    obtain ⟨hax, hflt, hvs, hts, hctl, -⟩ := stirred (by simp [awake, hl, hs]) hx
    let y : State := { x with pw := { x.pw with refreshHot := hot } }
    have hy : y.flt.inject = none := by show x.flt.inject = none; rw [hflt, hi]
    have hoff := faultFound_corrected (s := y) (sleeping_of_awake hax) (Or.inl rfl) (eccArg array row) false
    obtain ⟨hcorr, -, hflags, kvs, kts, kctl, -⟩ := fault_shows (s := y) ⟨rfl, rfl⟩ hoff
    refine ⟨_, he.trans (congrArg Host.Outcome.next (hrow hy array copied .single)), ?_, hflags 4 (by decide), (congrArg (fun t => t.pw.refreshHot) hoff :),
      kts.trans hts, kvs.trans hvs, kctl.trans hctl⟩
    exact hcorr.trans (congrArg (fun f : FaultUnit => satAdd f.corr 1) hflt)
  · refine (hexec array copied .single).trans (congrArg Host.Outcome.next (stirring_of_pw ?_))
    exact (hrow (x := { s with pw := { s.pw with refreshHot := hot } }) hi array copied .single).trans (if_pos hs)
  · exact (hexec array copied .clean).trans (congrArg Host.Outcome.next (stirring_of_pw (hrow (x := { s with pw := { s.pw with refreshHot := hot } }) hi array copied .clean)))
  · obtain ⟨x, hx, he⟩ := hfrom 4 copied .double
    let y : State := { x with pw := { x.pw with refreshHot := hot } }
    have hxs : x.flt = s.flt ∧ x.vs = s.vs ∧ x.ts = s.ts ∧ x.ctl = s.ctl ∧ (calm s = true → x.md = s.md) := by
      rcases hx with rfl | rfl
      · exact ⟨rfl, rfl, rfl, rfl, fun _ => rfl⟩
      · exact ⟨activity_flt s, activity_vs s, activity_ts s, activity_ctl s, fun hc => by rw [activity_of_calm hc]; rfl⟩
    obtain ⟨hflt, hvs, hts, hctl, hmd⟩ := hxs
    have hy : y.flt.inject = none := by show x.flt.inject = none; rw [hflt, hi]
    obtain ⟨c1, c2, c3⟩ := lmemCorrupt_rest y row
    obtain ⟨t1, t2⟩ := faultFound_tables (lmemCorrupt y row) 0x14 (at_ 24 0 row) false
    have hst := faultFound_steady (lmemCorrupt y row) 0x14 (at_ 24 0 row) false
    refine ⟨_, he.trans (congrArg Host.Outcome.next (hrow hy 4 copied .double)), t1.trans (c1.trans hvs), hst.ctl.trans (c3.trans hctl),
      fun hc => hst.md.trans (c2.trans (hmd hc)), fun a ha => ?_⟩
    refine (congrArg (fun ts : TargetStore => Memory.read ts.lmem a) t2 :).trans ((read_lmemCorrupt y row ha).trans ?_)
    exact congrArg (fun ts : TargetStore => Memory.read ts.lmem a) hts
  · obtain ⟨x, hx, he⟩ := hfrom array true .double
    obtain ⟨hax, hflt, hvs, hts, hctl, htm, -⟩ := stirred (by simp [awake, hl, hs]) hx
    have hfu : x.fu = s.fu := by
      rcases hx with rfl | rfl
      · rfl
      · exact activity_fu s
    let y : State := { x with pw := { x.pw with refreshHot := hot } }
    have hy : y.flt.inject = none := by show x.flt.inject = none; rw [hflt, hi]
    have ha4 : array ≠ 4 := by
      rintro rfl
      simp [rowCopied] at hc
    have hcopied : rowCopied y array row true = true := by
      refine Eq.trans ?_ hc
      unfold rowCopied rowMerged rowHandle vecOf
      rw [show y.vs = s.vs from hvs]
    have hoff := faultFound_deferred (s := y) (sleeping_of_awake hax) (by show x.ctl.deferFatal = false; rw [hctl, hd])
      (show ¬ ((0x13 : BitVec 8) = 0x03 ∨ (0x13 : BitVec 8) = 0x04) by decide) (eccArg array row) false
    obtain ⟨-, hdef, hflags, kvs, kts, kctl, -⟩ := fault_shows (s := y) ⟨rfl, rfl⟩ hoff
    have kfu : (faultFound y 0x13 (eccArg array row) false).fu = s.fu := (congrArg State.fu hoff :).trans hfu
    obtain ⟨r1, r2, r3, r4, r5, r6, r7⟩ := rowReload_shows (s := faultFound y 0x13 (eccArg array row) false) (by rw [kfu]; exact hf) array row
    have hhandle : rowHandle (faultFound y 0x13 (eccArg array row) false) array row = rowHandle s array row := by
      unfold rowHandle
      rw [kvs, show y.vs = s.vs from hvs]
    have hgeo : geometry (faultFound y 0x13 (eccArg array row) false) = geometry s := by rw [geometry, kfu, geometry]
    refine ⟨_, he.trans (congrArg Host.Outcome.next ((hrow hy array true .double).trans ((if_neg ha4).trans (if_pos hcopied)))), ?_, ?_, ?_,
      fun h hh => r1 h (hhandle.trans hh), fun h2 ht => r2 h2 (by rw [hgeo]; exact ht), ?_, ?_, ?_, r7.trans (kctl.trans hctl)⟩
    · rw [r6]
      exact hdef.trans (congrArg (fun f : FaultUnit => satAdd f.defer 1) hflt)
    · rw [r6]
      exact hflags 1 (by decide)
    · rw [r6]
      exact hflags 4 (by decide)
    · rw [r3, kvs]
      exact congrArg VecStore.vecs hvs
    · rw [r4, kvs]
      exact congrArg VecStore.vtes hvs
    · rw [r5, kts]
      exact congrArg TargetStore.targets hts
  · obtain ⟨x, hx, he⟩ := hfrom array copied .double
    have hxs : x.flt = s.flt ∧ x.vs = s.vs ∧ x.ts = s.ts := by
      rcases hx with rfl | rfl
      · exact ⟨rfl, rfl, rfl⟩
      · exact ⟨activity_flt s, activity_vs s, activity_ts s⟩
    obtain ⟨hflt, hvs, hts⟩ := hxs
    let y : State := { x with pw := { x.pw with refreshHot := hot } }
    have hy : y.flt.inject = none := by show x.flt.inject = none; rw [hflt, hi]
    have hnot : rowCopied y array row copied = false := by
      refine Eq.trans ?_ hc
      unfold rowCopied rowMerged rowHandle vecOf
      rw [show y.vs = s.vs from hvs]
    obtain ⟨flt, ao, hrest⟩ := fatalFault_rest y 0x25 (eccArg array row) false
    refine ⟨fatalFault y 0x25 (eccArg array row) false, _,
      he.trans (congrArg Host.Outcome.next ((hrow hy array copied .double).trans ((if_neg ha).trans (if_neg (by simp [hnot]))))),
      fatalFault_flt .., ?_, ?_, ?_⟩
    · rw [show y.flt.fatal = none by show x.flt.fatal = none; rw [hflt, hfat]]
      rfl
    · rw [hrest]
      exact hvs
    · rw [hrest]
      exact hts

end Sys2Proof
end

section
/-! PROOF. Wired lines: levels, edges and counted lines (R25, R60 to R62, R214, R285, R286). -/

namespace Sys2Proof.Machine

/-! ### Bits of a mask -/

theorem getLsbD_twoPow_nat {w : Nat} (i j : Nat) : (BitVec.ofNat w (2 ^ i)).getLsbD j = (decide (j < w) && decide (i = j)) := by
  rw [BitVec.getLsbD_ofNat, Nat.testBit_two_pow]

theorem getLsbD_setBit_ne {w : Nat} (m : BitVec w) {i j : Nat} (h : j ≠ i) : (setBit m i).getLsbD j = m.getLsbD j := by
  by_cases hj : j < w
  · rw [getLsbD_setBit _ _ _ hj, decide_eq_false h, Bool.or_false]
  · rw [BitVec.getLsbD_of_ge _ _ (Nat.le_of_not_lt hj), BitVec.getLsbD_of_ge _ _ (Nat.le_of_not_lt hj)]

theorem getLsbD_clrBit {w : Nat} (m : BitVec w) (i : Nat) {j : Nat} (hj : j < w) : (clrBit m i).getLsbD j = (m.getLsbD j && !decide (i = j)) := by
  rw [clrBit, BitVec.getLsbD_and, BitVec.getLsbD_not, getLsbD_twoPow_nat]
  simp [hj]

theorem high_lineSet_same (s : State) {n : Nat} (hn : n < 3840) (high : Bool) : (lineSet s n high).ws.high.getLsbD n = high := by
  cases high
  · show (clrBit s.ws.high n).getLsbD n = false
    rw [getLsbD_clrBit _ _ hn]
    simp
  · show (setBit s.ws.high n).getLsbD n = true
    rw [getLsbD_setBit _ _ _ hn]
    simp

theorem high_lineSet_ne (s : State) {n m : Nat} (h : m ≠ n) (high : Bool) : (lineSet s n high).ws.high.getLsbD m = s.ws.high.getLsbD m := by
  cases high
  · show (clrBit s.ws.high n).getLsbD m = _
    by_cases hm : m < 3840
    · rw [getLsbD_clrBit _ _ hm, decide_eq_false (Ne.symm h), Bool.not_false, Bool.and_true]
    · rw [BitVec.getLsbD_of_ge _ _ (Nat.le_of_not_lt hm), BitVec.getLsbD_of_ge _ _ (Nat.le_of_not_lt hm)]
  · exact getLsbD_setBit_ne _ h

/-! ### What a line's change leaves -/

/-- But for the line itself and its vector, the wired lines, the vectors and the tables stand. -/
structure LineFrame (n : Nat) (s t : State) : Prop where
  high : t.ws.high = s.ws.high
  latch : ∀ m, m ≠ n → t.ws.latch.getLsbD m = s.ws.latch.getLsbD m
  vecs : ∀ k, k ≠ n → vecOf t k = vecOf s k
  ts : t.ts = s.ts
  vat : t.vat = s.vat
  ctl : t.ctl = s.ctl

theorem LineFrame.refl (n : Nat) (s : State) : LineFrame n s s := ⟨rfl, fun _ _ => rfl, fun _ _ => rfl, rfl, rfl, rfl⟩

theorem LineFrame.trans {n : Nat} {s t u : State} (h : LineFrame n s t) (k : LineFrame n t u) : LineFrame n s u :=
  ⟨k.high.trans h.high, fun m hm => (k.latch m hm).trans (h.latch m hm), fun m hm => (k.vecs m hm).trans (h.vecs m hm), k.ts.trans h.ts,
    k.vat.trans h.vat, k.ctl.trans h.ctl⟩

theorem LineFrame.ite {n : Nat} {s t u : State} {c : Prop} [Decidable c] (h : LineFrame n s t) (k : LineFrame n s u) :
    LineFrame n s (if c then t else u) := by
  split
  · exact h
  · exact k

theorem wakeSource_eq (s : State) (c : BitVec 4) : ∃ pw, wakeSource s c = { s with pw := pw } := by
  unfold wakeSource
  split
  · split
    · exact ⟨s.pw, rfl⟩
    · split <;> exact ⟨_, rfl⟩
  · exact ⟨s.pw, rfl⟩

theorem lineWake_eq (s : State) (n : Nat) : ∃ pw, lineWake s n = { s with pw := pw } := by
  unfold lineWake
  split
  · exact wakeSource_eq s 4
  · exact ⟨s.pw, rfl⟩

theorem lineWake_frame (s : State) (n : Nat) : LineFrame n s (lineWake s n) := by
  obtain ⟨pw, he⟩ := lineWake_eq s n
  rw [he]
  exact ⟨rfl, fun _ _ => rfl, fun _ _ => rfl, rfl, rfl, rfl⟩

theorem lineLatch_frame (s : State) (n : Nat) : LineFrame n s (lineLatch s n) :=
  ⟨rfl, fun _ hm => getLsbD_setBit_ne _ hm, fun _ _ => rfl, rfl, rfl, rfl⟩

theorem activity_frame (s : State) (n : Nat) : LineFrame n s (activity s false) :=
  ⟨by rw [activity_ws], fun _ _ => by rw [activity_ws], fun _ _ => by rw [vecOf, activity_vs, vecOf], activity_ts s, activity_vat s, activity_ctl s⟩

theorem enqueue_frame (s : State) (n h : Nat) : LineFrame n s (enqueue s h) :=
  ⟨by rw [enqueue_ws], fun _ _ => by rw [enqueue_ws], fun _ _ => by rw [vecOf, enqueue_vs_vecs, vecOf], enqueue_ts s h, enqueue_vat s h, enqueue_ctl s h⟩

/-- A vector gathers events and waits for a round (R62). -/
def gathered (s : State) (n k : Nat) : State := enqueue (vecPut s n { vecOf s n with steps := (vecOf s n).steps + k }) n

theorem gathered_steps (s : State) (n k : Nat) : (vecOf (gathered s n k) n).steps = (vecOf s n).steps + k := by
  have h : vecOf (gathered s n k) n = { vecOf s n with steps := (vecOf s n).steps + k } := by
    rw [vecOf, gathered, enqueue_vs_vecs]
    exact vecOf_vecPut_same ..
  rw [h]

theorem gathered_waits (s : State) (n k : Nat) : n ∈ (gathered s n k).vs.queue := mem_queue_enqueue ..

theorem gathered_frame (s : State) (n k : Nat) : LineFrame n s (gathered s n k) :=
  have hput (v : Vec) : LineFrame n s (vecPut s n v) := ⟨rfl, fun _ _ => rfl, fun _ hm => vecOf_vecPut_ne s v hm, rfl, rfl, rfl⟩
  (hput _).trans (enqueue_frame _ n n)

theorem gathered_rest (s : State) (n k : Nat) : (gathered s n k).md = s.md ∧ (gathered s n k).pw = s.pw ∧ (gathered s n k).ws = s.ws :=
  ⟨enqueue_md .., enqueue_pw .., enqueue_ws ..⟩

/-! ### Edges -/

theorem edgeTake_eq (s : State) (n : Nat) : edgeTake s n =
    if sleeping s then lineWake (lineLatch s n) n
    else if wakeWindow s then s
    else if (activity s false).md.mode = .serving then (if (lineCfg s n).valid then gathered (activity s false) n 1 else activity s false)
    else lineLatch (activity s false) n := rfl

theorem edgeTake_frame (s : State) (n : Nat) : LineFrame n s (edgeTake s n) := by
  have ha := activity_frame s n
  rw [edgeTake_eq]
  exact .ite ((lineLatch_frame s n).trans (lineWake_frame ..))
    (.ite (.refl n s) (.ite (.ite (ha.trans (gathered_frame ..)) ha) (ha.trans (lineLatch_frame ..))))

theorem lineMoves_frame (s : State) (n : Nat) (high : Bool) : LineFrame n (lineSet s n high) (lineMoves s n high) := by
  unfold lineMoves
  dsimp only
  refine .ite (.refl ..) (.ite (edgeTake_frame ..) (.ite (.ite (lineWake_frame ..) (.refl ..)) (.ite (.refl ..) ?_)))
  exact (activity_frame ..).trans (enqueue_frame ..)

/-- An inactive-to-active transition of a line whose vector has LEVEL 0 is an edge (R61). -/
theorem edgeLine_takes {s : State} (hl : live s = true) {n : Nat} (hn : n < 3840) (h : (lineCfg s n).level = false) :
    edgeLine s n = edgeTake (lineSet (lineSet s n (lineCfg s n).polarity) n (!(lineCfg s n).polarity)) n := by
  let s0 := lineSet s n (lineCfg s n).polarity
  have hcfg : lineCfg s0 n = lineCfg s n := rfl
  have hon : lineActive (lineSet s0 n (!(lineCfg s n).polarity)) (lineCfg s n) n = true := by
    rw [lineActive, high_lineSet_same _ hn]
    cases (lineCfg s n).polarity <;> rfl
  have hoff : lineActive s0 (lineCfg s n) n = false := by
    rw [lineActive, high_lineSet_same _ hn]
    cases (lineCfg s n).polarity <;> rfl
  show lineMoves s0 n (!(lineCfg s n).polarity) = _
  unfold lineMoves
  dsimp only
  rw [hcfg, hon, hoff, h, if_neg (show ¬ (!live s0) = true by rw [show live s0 = true from hl]; decide)]
  rfl

/-! ### Counted lines -/

theorem countedLine_serves {s : State} (hc : calm s = true) (hm : s.md.mode = .serving) {m : Nat} (hv : (lineCfg s (3840 + m)).valid = true) (g : BitVec 4) :
    ∃ x, countedLine s m g = gathered x (3840 + m) (grayStep (s.ws.gray.getD m 0) g) ∧ x.vs = s.vs ∧ x.ts = s.ts ∧ x.ctl = s.ctl ∧ x.md = s.md
      ∧ x.ws.gray = s.ws.gray.setIfInBounds m g := by
  let s1 : State := { s with ws := { s.ws with grayNow := s.ws.grayNow.setIfInBounds m g } }
  have hact : activity s1 false = noteBusy s1 := activity_of_calm (s := s1) hc false
  unfold countedLine
  dsimp only
  rw [if_pos (show awake s = true from awake_of_calm hc)]
  rw [hact, if_pos (show (cdcClear (noteBusy s1) .counted (BitVec.ofNat 16 m)).md.mode = .serving from hm), if_pos hv]
  exact ⟨_, rfl, rfl, rfl, rfl, rfl, rfl⟩

end Sys2Proof.Machine

namespace Sys2Proof

open Sys2Proof.Machine

/-- Settles O42: level lines by the frame of a change, edges by the mode in which they come, and counted lines. -/
theorem wiredLinesAreSampled : Obligations.WiredLinesAreSampled := by
  refine ⟨fun s n high => ⟨?_, fun ha hlev hne => ?_⟩, fun s n hl hlev => ?_, fun s m g hc hm hv => ?_⟩
  · have hf := lineMoves_frame s n.val high
    refine ⟨lineMoves s n.val high, rfl, ?_, fun m hm => ⟨?_, hf.latch m hm⟩, hf.vecs, hf.ts, hf.vat, hf.ctl⟩
    · rw [hf.high, high_lineSet_same s n.isLt]
    · rw [hf.high, high_lineSet_ne s hm]
  · have hmv : lineMoves s n.val high = enqueue (activity (lineSet s n.val high) false) n.val := by
      unfold lineMoves
      dsimp only
      rw [if_neg (by simp [live_of_awake ha]), if_neg (by simp [hlev]), if_neg (by simp [sleeping_of_awake ha]), if_neg hne]
    refine ⟨_, congrArg Host.Outcome.next hmv, mem_queue_enqueue .., ?_, ?_⟩
    · rw [enqueue_vs_vecs, activity_vs]
      rfl
    · rw [enqueue_ws, activity_ws]
      rfl
  · obtain ⟨x, hx, hws, hxs⟩ : ∃ x, exec (.sampledEdge n) s = .next (edgeTake x n.val) ∧ x.ws.high.getLsbD n.val = !(lineCfg s n.val).polarity
        ∧ ∃ high, x = { s with ws := { s.ws with high := high } } :=
      ⟨_, congrArg Host.Outcome.next (edgeLine_takes hl n.isLt hlev), high_lineSet_same _ n.isLt _, _, rfl⟩
    obtain ⟨hi, rfl⟩ := hxs
    let x : State := { s with ws := { s.ws with high := hi } }
    have hfr := edgeTake_frame x n.val
    refine ⟨fun hm hc hv => ?_, fun hc hm => ?_, fun hs => ?_, fun ha hw => ?_, fun e hm he hstep hv => ?_⟩
    · have hact : activity x false = noteBusy x := activity_of_calm (s := x) hc false
      have hs := sleeping_of_awake (awake_of_calm hc)
      have hw : wakeWindow x = false := by
        simp only [calm, Bool.and_eq_true, Option.isNone_iff_eq_none] at hc
        show wakeWindow s = false
        simp [wakeWindow, hc.1.2]
      have he : edgeTake x n.val = gathered (noteBusy x) n.val 1 := by
        rw [edgeTake_eq, if_neg (by rw [show sleeping x = false from hs]; decide), if_neg (by rw [hw]; decide), hact, if_pos (show (noteBusy x).md.mode = .serving from hm)]
        exact if_pos hv
      obtain ⟨-, -, r3⟩ := gathered_rest (noteBusy x) n.val 1
      refine ⟨_, hx, ?_, ?_, ?_, hfr.vecs, ?_, hfr.ts, hfr.ctl⟩
      · rw [he, gathered_steps]
        rfl
      · rw [he]
        exact gathered_waits ..
      · rw [hfr.high]
        exact hws
      · rw [he, r3]
        rfl
    · have hact : activity x false = noteBusy x := activity_of_calm (s := x) hc false
      have hs := sleeping_of_awake (awake_of_calm hc)
      have hw : wakeWindow x = false := by
        simp only [calm, Bool.and_eq_true, Option.isNone_iff_eq_none] at hc
        show wakeWindow s = false
        simp [wakeWindow, hc.1.2]
      have he : edgeTake x n.val = lineLatch (noteBusy x) n.val := by
        rw [edgeTake_eq, if_neg (by rw [show sleeping x = false from hs]; decide), if_neg (by rw [hw]; decide), hact]
        exact if_neg hm
      exact ⟨_, hx.trans (congrArg Host.Outcome.next he), rfl, rfl, rfl, rfl, rfl⟩
    · obtain ⟨pw, hpw⟩ := lineWake_eq (lineLatch x n.val) n.val
      have he : edgeTake x n.val = { lineLatch x n.val with pw := pw } := by
        rw [edgeTake_eq, if_pos (show sleeping x = true from hs), hpw]
      exact ⟨_, hx.trans (congrArg Host.Outcome.next he), rfl, rfl, rfl, rfl⟩
    · have he : edgeTake x n.val = x := by
        rw [edgeTake_eq, if_neg (by rw [show sleeping x = false from sleeping_of_awake ha]; decide)]
        exact if_pos hw
      exact ⟨_, hx.trans (congrArg Host.Outcome.next he), rfl, rfl, rfl, rfl, rfl⟩
    · have hs : sleeping x = false := by
        show sleeping s = false
        rcases hm with hm | hm <;> simp [sleeping, hm]
      have hund : e.step.undoable = true := by rcases hstep with h | ⟨h, -⟩ <;> simp [h, EntryStep.undoable]
      have hw : wakeWindow x = false := by
        show wakeWindow s = false
        rcases hstep with h | ⟨h, hne⟩
        · simp [wakeWindow, he, h]
        · simp [wakeWindow, he, hne]
      have hserve : (activity x false).md.mode = .serving := by
        rcases hm with hm | hm
        · rw [activity_md (s := x) (by rw [show x.md.mode = .serving from hm]; decide)]
          exact hm
        · rw [(activity_of_idle (s := x) hm).1]
      have hev : edgeTake x n.val = gathered (activity x false) n.val 1 := by
        rw [edgeTake_eq, if_neg (by rw [hs]; decide), if_neg (by rw [hw]; decide), if_pos hserve]
        exact if_pos hv
      obtain ⟨h1, h2⟩ := activity_of_undoable (s := x) he hund
      obtain ⟨r1, r2, r3⟩ := gathered_rest (activity x false) n.val 1
      refine ⟨_, hx, ?_, ?_, ?_, ?_, ?_, ?_, hfr.ts, hfr.ctl⟩
      · rw [hev, r2, h1]
      · rw [hev, r2, h2]
        rfl
      · rw [hev, r1, hserve]
      · rw [hev, gathered_steps, vecOf, activity_vs]
        rfl
      · rw [hev]
        exact gathered_waits ..
      · rw [hev, r3, activity_ws]
  · obtain ⟨x, he, hvs, hts, hctl, hmd, hgray⟩ := countedLine_serves hc hm hv g
    have hfr := gathered_frame x (3840 + m.val) (grayStep (s.ws.gray.getD m.val 0) g)
    obtain ⟨r1, -, r3⟩ := gathered_rest x (3840 + m.val) (grayStep (s.ws.gray.getD m.val 0) g)
    refine ⟨_, congrArg Host.Outcome.next he, ?_, gathered_waits .., ?_, hfr.ts.trans hts, hfr.ctl.trans hctl, r1.trans hmd⟩
    · rw [gathered_steps, vecOf, hvs]
      rfl
    · rw [r3, hgray]
      simp [Vector.getD]

end Sys2Proof
end
section
/-! PROOF. Host-state events (R71, R72, R260, R291). -/

namespace Sys2Proof.Machine

/-! ### What an event does to each target -/

/-- What a host-state event leaves: what holds descriptors and the units that it has no part in. -/
def hostFrame (s : State) : List (Nat × Tgt) × List (Nat × Group) × List (Nat × Couch) × CtlRegs × ModeUnit × TimeUnit × FurnUnit × PortUnit :=
  (s.ts.targets, s.ts.groups, s.ts.couches, s.ctl, s.md, s.tm, s.fu, s.io)

theorem lockBreak_hostFrame (s : State) (u : EaId) (cause : Nat) : hostFrame (lockBreak s u cause) = hostFrame s := by
  unfold lockBreak
  dsimp only
  split
  · rfl
  · refine (congrArg hostFrame (Logged.jnl ..).same :).trans ?_
    cases u <;> rfl

theorem hostLocks_hostFrame (s : State) (t : BitVec 12) (k : HostKind) : hostFrame (hostLocks s t k) = hostFrame s := by
  cases k
  case linkDown => exact lockBreak_hostFrame ..
  case reset => exact lockBreak_hostFrame ..
  all_goals rfl

/-- UNREACH stands at b at the targets xs; every other target's stands, and so do the waiting changes and what streams do not touch. -/
structure Marks (b : Bool) (xs : List Nat) (s t : State) : Prop where
  off : offStreams t = offStreams s
  changes : ∀ k, (tgtOf t k).changes = (tgtOf s k).changes
  marked : ∀ k ∈ xs, (tgtOf t k).unreach = b ∧ (tgtOf t k).hostUnreach = b
  others : ∀ k, k ∉ xs → (tgtOf t k).unreach = (tgtOf s k).unreach ∧ (tgtOf t k).hostUnreach = (tgtOf s k).hostUnreach

theorem Marks.of_view {b : Bool} {x : Nat} {s t u : State} (h : Marks b [x] s t) (hv : streamView u = streamView t) : Marks b [x] s u := by
  have hg : ∀ k, tgtRest (tgtOf u k) = tgtRest (tgtOf t k) := fun k => congrFun (congrArg (·.2.2) hv) k
  have hu : ∀ k, (tgtOf u k).unreach = (tgtOf t k).unreach := fun k => (congrArg Tgt.unreach (hg k) :)
  have hh : ∀ k, (tgtOf u k).hostUnreach = (tgtOf t k).hostUnreach := fun k => (congrArg Tgt.hostUnreach (hg k) :)
  exact {
    off := (congrArg (·.1) hv).trans h.off
    changes := fun k => (congrArg Tgt.changes (hg k) :).trans (h.changes k)
    marked := fun k hk => by rw [hu, hh]; exact h.marked k hk
    others := fun k hk => by rw [hu, hh]; exact h.others k hk }

theorem Marks.tgtPut {b : Bool} {x : Nat} {s : State} {g : Tgt} (hu : g.unreach = b) (hh : g.hostUnreach = b) (hc : g.changes = (tgtOf s x).changes) :
    Marks b [x] s (tgtPut s x g) where
  off := rfl
  changes k := by
    by_cases hk : k = x
    · rw [hk, tgtOf_tgtPut_same, hc]
    · rw [tgtOf_tgtPut_ne s g hk]
  marked k hk := by
    rw [List.mem_singleton.mp hk, tgtOf_tgtPut_same]
    exact ⟨hu, hh⟩
  others k hk := by
    rw [tgtOf_tgtPut_ne s g (fun h => hk (List.mem_singleton.mpr h))]
    exact ⟨rfl, rfl⟩

theorem setUnreach_marks {x cause : Nat} (s : State) (hx : isLocal x = false) (hc : cause ≤ 3) (host : Word) :
    Marks true [x] s (setUnreach s x cause host) := by
  have hby : ((tgtOf s x).hostUnreach || decide (cause ≤ 3)) = true := by rw [decide_eq_true hc, Bool.or_true]
  unfold setUnreach
  dsimp only
  rw [if_neg (by rw [hx]; exact Bool.false_ne_true), hby]
  split
  · next h => exact Marks.tgtPut h rfl rfl
  · refine Marks.of_view ?_ ((Logged.jnl ..).streamView.trans (batchEnd_streamView ..))
    have h := Marks.tgtPut (b := true) (x := x) (s := { s with ar := { s.ar with bells := s.ar.bells.filter fun b => decide (b.target.toNat ≠ x) } })
      (g := { tgtOf s x with
        unreach := true, hostUnreach := true, wdog := none,
        dbOwed := (tgtOf s x).dbOwed || decide ((s.ar.bells.filter fun b => decide (b.target.toNat ≠ x)).length ≠ s.ar.bells.length) }) rfl rfl rfl
    exact ⟨h.off, h.changes, h.marked, h.others⟩

theorem clearUnreach_marks (s : State) (x : Nat) (always : Bool) : Marks false [x] s (clearUnreach s x always) := by
  have h := Marks.tgtPut (s := s) (x := x) (g := { tgtOf s x with unreach := false, hostUnreach := false, dbOwed := false }) rfl rfl rfl
  unfold clearUnreach
  dsimp only
  split
  · exact h.of_view ((sendBell_streamView ..).trans (wdogFix_streamView ..))
  · exact h.of_view (wdogFix_streamView ..)

theorem forEach_marks {b : Bool} {f : State → Nat → State} :
    ∀ (xs : List Nat) (s : State), (∀ t, ∀ x ∈ xs, Marks b [x] t (f t x)) → Marks b xs s (forEach xs s f)
  | [], _, _ => ⟨rfl, fun _ => rfl, fun _ hk => absurd hk List.not_mem_nil, fun _ _ => ⟨rfl, rfl⟩⟩
  | x :: xs, s, hf => by
    have h := hf s x List.mem_cons_self
    have ih := forEach_marks xs (f s x) fun t y hy => hf t y (List.mem_cons_of_mem _ hy)
    refine ⟨ih.off.trans h.off, fun k => (ih.changes k).trans (h.changes k), fun k hk => ?_, fun k hk => ?_⟩
    · by_cases hxs : k ∈ xs
      · exact ih.marked k hxs
      · have hkx : k ∈ [x] := List.mem_singleton.mpr ((List.mem_cons.mp hk).resolve_right hxs)
        obtain ⟨hu, hh⟩ := ih.others k hxs
        exact ⟨hu.trans (h.marked k hkx).1, hh.trans (h.marked k hkx).2⟩
    · obtain ⟨hu, hh⟩ := ih.others k fun hm => hk (List.mem_cons_of_mem _ hm)
      obtain ⟨hu', hh'⟩ := h.others k fun hm => hk (List.mem_cons.mpr (.inl (List.mem_singleton.mp hm)))
      exact ⟨hu.trans hu', hh.trans hh'⟩

/-! ### The event as a whole -/

/-- The action of an event at one target (R72). -/
def hostMark (e : HostEvt) (s : State) (x : Nat) : State :=
  match e.kind with
  | .linkUp => clearUnreach s x true
  | _ => setUnreach s x (hostCause e.kind) (e.host.setWidth 32)

theorem hostMark_marks (e : HostEvt) (s : State) {x : Nat} (hx : isLocal x = false) : Marks (decide (e.kind ≠ .linkUp)) [x] s (hostMark e s x) := by
  unfold hostMark
  cases hk : e.kind
  case linkUp => exact clearUnreach_marks ..
  all_goals exact setUnreach_marks _ hx (by decide) _

theorem tgtForm_changes (f : Furnish) (k : Nat) : (tgtForm f k).changes = [] := rfl

theorem mem_of_find {α : Type} {k : Nat} {v : α} : ∀ {l : List (Nat × α)}, find l k = some v → (k, v) ∈ l
  | (i, w) :: l, h => by
    unfold find at h
    split at h
    · next hi => rw [← Option.some.inj h, ← hi]; exact List.mem_cons_self
    · exact List.mem_cons_of_mem _ (mem_of_find h)

/-- Where no change waits in the list, none waits at any target. -/
theorem tgtOf_changes_of_noWaits {s : State} (h : noWaits s = true) (k : Nat) : (tgtOf s k).changes = [] := by
  simp only [noWaits, Bool.and_eq_true, List.all_eq_true, List.isEmpty_iff] at h
  unfold tgtOf
  split
  · next g hg => exact h.1.1 (k, g) (mem_of_find hg)
  · split <;> rfl

/-- Where no change waits at any target, nor in the groups, boundaries end waiting fences alone. -/
theorem settleAll_of_changesNone {s : State} (ht : ∀ k, (tgtOf s k).changes = []) (hg : ∀ e ∈ s.ts.groups, e.2.changes = [])
    (hc : ∀ e ∈ s.ts.couches, e.2.changes = []) : settleAll s = fenceAll s := by
  unfold settleAll
  dsimp only
  rw [filterMap_waits_eq_nil (c := Group.changes) hg, filterMap_waits_eq_nil (c := Couch.changes) hc]
  have hts := forEach_id (f := fun x t => tdBoundary (tgtOf x t).changes.length x t) (s := s)
    (s.ts.targets.filterMap fun e => if e.2.changes.isEmpty then none else some e.1) fun k _ => by rw [ht k]; rfl
  rw [hts]
  rfl

theorem tenantTargets_remote {s : State} {t x : Nat} (h : x ∈ tenantTargets s t) : isLocal x = false := by
  unfold tenantTargets at h
  split at h
  · exact absurd h List.not_mem_nil
  · have := (List.mem_filter.mp h).2
    simp only [Bool.and_eq_true, Bool.not_eq_true'] at this
    exact this.1

theorem tenantTargets_congr {s t : State} (ht : t.ts.targets = s.ts.targets) (hf : t.fu = s.fu) (n : Nat) : tenantTargets t n = tenantTargets s n := by
  have hs : sliceOf t n = sliceOf s n := by simp only [sliceOf, hf]
  have hg : tgtOf t = tgtOf s := funext fun k => by simp only [tgtOf, ht, hf]
  simp only [tenantTargets, hs, hg, ht]

theorem noWaits_congr {s t : State} (h : hostFrame t = hostFrame s) : noWaits t = noWaits s := by
  have ht : t.ts.targets = s.ts.targets := congrArg (·.1) h
  have hg : t.ts.groups = s.ts.groups := congrArg (·.2.1) h
  have hc : t.ts.couches = s.ts.couches := congrArg (·.2.2.1) h
  simp only [noWaits, ht, hg, hc]

theorem settleAll_of_marks {b : Bool} {xs : List Nat} {s t : State} (m : Marks b xs s t) (hw : noWaits s = true) : settleAll t = fenceAll t := by
  have hk := fun k => (m.changes k).trans (tgtOf_changes_of_noWaits hw k)
  have hg : t.ts.groups = s.ts.groups := congrArg (·.ts.groups) m.off
  have hc : t.ts.couches = s.ts.couches := congrArg (·.ts.couches) m.off
  simp only [noWaits, Bool.and_eq_true, List.all_eq_true, List.isEmpty_iff] at hw
  exact settleAll_of_changesNone hk (by rw [hg]; exact hw.1.2) (by rw [hc]; exact hw.2)

theorem engineSettle_of_engineEn {s : State} (h : s.md.engineEn = true) : engineSettle s = s := by
  simp only [engineSettle, h, Bool.not_true, Bool.and_false, Bool.false_and]
  rfl

/-- An event of a tenant that has a slice, while ENGINE_EN stands and no change waits: the locks, the marks, and the fences (R72, R260). -/
theorem applyHost_eq {s : State} (e : HostEvt) (hen : s.md.engineEn = true) (hw : noWaits s = true) (hn : e.tenant.toNat ≠ 0)
    (hs : (sliceOf s e.tenant.toNat).isSome = true) :
    ∃ t u, hostFrame t = hostFrame s ∧ Marks (decide (e.kind ≠ .linkUp)) (tenantTargets s e.tenant.toNat) t u ∧ applyHost s e = fenceAll u := by
  have hf := hostLocks_hostFrame s e.tenant e.kind
  have hx : tenantTargets (hostLocks s e.tenant e.kind) e.tenant.toNat = tenantTargets s e.tenant.toNat :=
    tenantTargets_congr (congrArg (·.1) hf :) (congrArg (·.2.2.2.2.2.2.1) hf :) _
  have m := forEach_marks (f := hostMark e) (tenantTargets s e.tenant.toNat) (hostLocks s e.tenant e.kind) fun t x h =>
    hostMark_marks e t (tenantTargets_remote h)
  refine ⟨_, _, hf, m, ?_⟩
  have hmd : (fenceAll (forEach (tenantTargets s e.tenant.toNat) (hostLocks s e.tenant e.kind) (hostMark e))).md = s.md :=
    (congrArg State.md (fenceAll_offUnits _) :).trans ((congrArg State.md m.off :).trans (congrArg (·.2.2.2.2.1) hf :))
  unfold applyHost
  dsimp only
  rw [if_neg (by simp [hn, Option.isSome_iff_ne_none.mp hs]), hx]
  exact (congrArg engineSettle (settleAll_of_marks m ((noWaits_congr hf).trans hw))).trans (engineSettle_of_engineEn (by rw [hmd]; exact hen))

/-- What holds after the marks of an event. -/
theorem applyHost_shows {s : State} (e : HostEvt) (hen : s.md.engineEn = true) (hw : noWaits s = true) (hn : e.tenant.toNat ≠ 0)
    (hs : (sliceOf s e.tenant.toNat).isSome = true) :
    (∀ x ∈ tenantTargets s e.tenant.toNat, (tgtOf (applyHost s e) x).unreach = decide (e.kind ≠ .linkUp)
      ∧ (tgtOf (applyHost s e) x).hostUnreach = decide (e.kind ≠ .linkUp))
    ∧ (applyHost s e).io = s.io ∧ (applyHost s e).ctl = s.ctl ∧ (applyHost s e).md = s.md ∧ (applyHost s e).tm = s.tm ∧ (applyHost s e).fu = s.fu := by
  obtain ⟨t, u, hf, m, heq⟩ := applyHost_eq e hen hw hn hs
  have ho := fenceAll_offUnits u
  have hg : tgtOf (fenceAll u) = tgtOf u := (congrArg tgtOf ho :)
  rw [heq, hg]
  exact ⟨m.marked,
    (congrArg State.io ho :).trans ((congrArg State.io m.off :).trans (congrArg (·.2.2.2.2.2.2.2) hf :)),
    (congrArg State.ctl ho :).trans ((congrArg State.ctl m.off :).trans (congrArg (·.2.2.2.1) hf :)),
    (congrArg State.md ho :).trans ((congrArg State.md m.off :).trans (congrArg (·.2.2.2.2.1) hf :)),
    (congrArg State.tm ho :).trans ((congrArg State.tm m.off :).trans (congrArg (·.2.2.2.2.2.1) hf :)),
    (congrArg State.fu ho :).trans ((congrArg State.fu m.off :).trans (congrArg (·.2.2.2.2.2.2.1) hf :))⟩

theorem hostEvent_awake {s : State} (hc : calm s = true) (e : HostEvt) : hostEvent s e = hostTake (noteBusy s) e := by
  have ha := awake_of_calm hc
  unfold hostEvent
  rw [if_pos (live_of_awake ha), if_neg (by rw [sleeping_of_awake ha]; exact Bool.false_ne_true), activity_of_calm hc false]

/-- An event of tenant 0, or of one without a slice, is acknowledged alone (R72). -/
theorem applyHost_of_noSlice {s : State} {e : HostEvt} (h : e.tenant = 0 ∨ sliceOf s e.tenant.toNat = none) : applyHost s e = s := by
  unfold applyHost
  refine if_pos ?_
  rcases h with h | h
  · simp [h]
  · simp [h]

end Sys2Proof.Machine

namespace Sys2Proof

open Sys2Proof.Machine

/-- Settles O35: an event is one host event whatever its kind; awake it marks its tenant's targets, and asleep it is queued. -/
theorem hostEventsSetReachability : Obligations.HostEventsSetReachability := by
  intro s host n i k hik
  have hexec : exec i s = .next (hostEvent s { host := host, tenant := n, kind := k }) := by
    rcases hik with ⟨rfl, rfl⟩ | ⟨rfl, rfl⟩ | ⟨rfl, rfl⟩ | ⟨rfl, rfl⟩ <;> rfl
  refine ⟨fun hc hen hw hn hs => ?_, fun hc hn => ?_, fun hl hsl => ?_⟩
  · have h := applyHost_shows (s := noteBusy s) { host := host, tenant := n, kind := k } hen hw (fun h0 => hn (BitVec.eq_of_toNat_eq h0)) hs
    obtain ⟨hx, hio, hctl, hmd, htm, hfu⟩ := h
    refine ⟨_, hexec.trans (congrArg Host.Outcome.next (hostEvent_awake hc _)), ?_, hx, hctl, hmd, htm, hfu⟩
    show ({ (applyHost (noteBusy s) _).io with hostAcks := (applyHost (noteBusy s) _).io.hostAcks + 1 } : PortUnit) = _
    rw [hio]
    rfl
  · refine hexec.trans (congrArg Host.Outcome.next ((hostEvent_awake hc _).trans ?_))
    exact congrArg hostAck (applyHost_of_noSlice hn)
  · refine hexec.trans (congrArg Host.Outcome.next ?_)
    unfold hostEvent
    rw [if_pos hl, if_pos hsl]

end Sys2Proof

end
section
/-! PROOF. The sideband: its frames as line changes, its commands and what ends a frame (R76 to R85), and the wake sources (R284, R291). -/

namespace Sys2Proof.Machine

/-! ### Bits of a frame -/

theorem bitsNat_concat (l : List Bool) (v : Bool) : bitsNat (l ++ [v]) = 2 * bitsNat l + v.toNat := by
  simp [bitsNat]

theorem length_msbBits {w : Nat} (v : BitVec w) : (msbBits v).length = w := by simp [msbBits]

/-- The first k bits of a field stand for its upper k bits. -/
theorem bitsNat_upper {w : Nat} (v : BitVec w) : ∀ k, k ≤ w → bitsNat ((List.range k).map fun i => v.getLsbD (w - 1 - i)) = v.toNat / 2 ^ (w - k)
  | 0, _ => by simp [bitsNat, Nat.div_eq_of_lt v.isLt]
  | k + 1, h => by
    have hk : w - k = w - (k + 1) + 1 := by omega
    have hb : (v.getLsbD (w - 1 - k)).toNat = v.toNat / 2 ^ (w - (k + 1)) % 2 := by
      rw [show w - 1 - k = w - (k + 1) by omega, BitVec.getLsbD, Nat.toNat_testBit]
    rw [List.range_succ, List.map_append, List.map_singleton, bitsNat_concat, bitsNat_upper v k (by omega), hb, hk, Nat.pow_succ, ← Nat.div_div_eq_div_mul]
    omega

@[simp] theorem bitsNat_msbBits {w : Nat} (v : BitVec w) : bitsNat (msbBits v) = v.toNat := by
  rw [msbBits, bitsNat_upper v w (Nat.le_refl w), Nat.sub_self, Nat.pow_zero, Nat.div_one]

/-- Bits complete a request when the data words of its command have come. -/
theorem sbRequest_frame (a c : Byte) (d : List Bool) :
    sbRequest (msbBits a ++ msbBits c ++ d) = if d.length = 16 * sbReqWords c then some (a, c, BitVec.ofNat 16 (bitsNat d)) else none := by
  have ha := length_msbBits a
  have hc := length_msbBits c
  have h1 : (msbBits a ++ msbBits c ++ d).take 8 = msbBits a := by rw [List.append_assoc, List.take_left' ha]
  have h2 : ((msbBits a ++ msbBits c ++ d).drop 8).take 8 = msbBits c := by rw [List.append_assoc, List.drop_left' ha, List.take_left' hc]
  have h3 : (msbBits a ++ msbBits c ++ d).drop 16 = d := List.drop_left' (by rw [List.length_append, ha, hc])
  have hl : (msbBits a ++ msbBits c ++ d).length = 16 + d.length := by simp only [List.length_append, ha, hc]
  unfold sbRequest
  rw [h1, h2, h3, hl, if_neg (by omega)]
  simp only [bitsNat_msbBits, BitVec.ofNat_toNat, BitVec.setWidth_eq, Nat.add_right_inj]

/-- No proper beginning of a request completes it. -/
theorem sbRequest_begun {a c : Byte} {d : List Bool} (hd : d.length = 16 * sbReqWords c) {j : Nat} (hj : j < 16 + d.length) :
    sbRequest ((msbBits a ++ msbBits c ++ d).take j) = none := by
  by_cases h : j < 16
  · unfold sbRequest
    exact if_pos (by rw [List.length_take]; omega)
  · have hl : (msbBits a ++ msbBits c).length = 16 := by rw [List.length_append, length_msbBits, length_msbBits]
    rw [List.take_append, List.take_of_length_le (by omega), sbRequest_frame, if_neg (by rw [List.length_take, hl]; omega)]

/-! ### Bits that Ivsyn receives -/

/-- The two line changes of a request bit. -/
def bitMoves (v : Bool) : List SbMove := [.dataRise v, .dataFall]

/-- The sideband after a bit that completes no request (R77). -/
def bitIn (b : SbUnit) (v : Bool) : SbUnit := ackLower (ackRaise b v) v

/-- The sideband after k line changes that send bits. -/
def bitsIn (b : SbUnit) (l : List Bool) (k : Nat) : SbUnit :=
  let x := (l.take (k / 2)).foldl bitIn b
  if k % 2 = 1 then ackRaise x (l.getD (k / 2) false) else x

theorem foldl_bitIn_rest (l : List Bool) (b : SbUnit) (hp : b.phase = .receive) :
    (l.foldl bitIn b).rx = b.rx ++ l ∧ (l.foldl bitIn b).phase = .receive ∧ (l.foldl bitIn b).d0 = b.d0 ∧ (l.foldl bitIn b).d1 = b.d1
      ∧ (l.foldl bitIn b).tx = b.tx ∧ (l.foldl bitIn b).resetDue = b.resetDue ∧ (b.ack = .low → (l.foldl bitIn b).ack = .low) := by
  induction l generalizing b with
  | nil => exact ⟨(List.append_nil _).symm, hp, rfl, rfl, rfl, rfl, id⟩
  | cons v l ih =>
    obtain ⟨hr, h⟩ := ih (bitIn b v) rfl
    refine ⟨hr.trans ?_, h.1, h.2.1, h.2.2.1, h.2.2.2.1, h.2.2.2.2.1, fun _ => h.2.2.2.2.2 rfl⟩
    show (b.rx ++ [v]) ++ l = b.rx ++ v :: l
    rw [List.append_assoc]
    rfl

/-- The wires and the bits received after k line changes that send bits. -/
theorem bitsIn_of_reset (l : List Bool) (k : Nat) :
    (bitsIn State.sbReset l k).rx = l.take (k / 2) ∧ (bitsIn State.sbReset l k).ack = (if k % 2 = 1 then .high else .low)
      ∧ (bitsIn State.sbReset l k).d0 = .released ∧ (bitsIn State.sbReset l k).d1 = .released := by
  obtain ⟨hrx, -, h0, h1, -, -, hack⟩ := foldl_bitIn_rest (l.take (k / 2)) State.sbReset rfl
  unfold bitsIn
  dsimp only
  split
  · exact ⟨hrx, rfl, h0, h1⟩
  · exact ⟨hrx, hack rfl, h0, h1⟩

/-- One bit from a receiver. -/
theorem bit_received {s : State} (hp : s.ao.sb.phase = .receive) (v : Bool) :
    [SbMove.dataRise v, .dataFall].foldl sbMove s = match sbRequest (s.ao.sb.rx ++ [v]) with
      | some (addr, cmd, data) => sbExecute (sbPut s (bitIn s.ao.sb v)) addr cmd data
      | none => sbPut s (bitIn s.ao.sb v) := by
  have h1 : sbMove s (.dataRise v) = sbPut s (ackRaise s.ao.sb v) := by
    unfold sbMove
    rw [hp]
  show sbMove (sbMove s (.dataRise v)) .dataFall = _
  rw [h1]
  rfl

/-- Line changes of bits none of which completes a request. -/
theorem bits_received (l : List Bool) (s : State) (k : Nat) (hp : s.ao.sb.phase = .receive) (hk : k ≤ 2 * l.length)
    (hn : ∀ j, 0 < j → 2 * j ≤ k → sbRequest (s.ao.sb.rx ++ l.take j) = none) :
    ((l.flatMap bitMoves).take k).foldl sbMove s = sbPut s (bitsIn s.ao.sb l k) := by
  induction l generalizing s k with
  | nil =>
    obtain rfl : k = 0 := by simpa using hk
    rfl
  | cons v l ih =>
    match k with
    | 0 => rfl
    | 1 =>
      show sbMove s (.dataRise v) = _
      unfold sbMove
      rw [hp]
      rfl
    | k + 2 =>
      have hb : [SbMove.dataRise v, .dataFall].foldl sbMove s = sbPut s (bitIn s.ao.sb v) := by
        have h1 := hn 1 (by omega) (by omega)
        simp only [List.take_succ_cons, List.take_zero] at h1
        rw [bit_received hp, h1]
      have ih' := ih (sbPut s (bitIn s.ao.sb v)) k rfl (by simp only [List.length_cons] at hk; omega) fun j hj hjk => by
        have h := hn (j + 1) (by omega) (by omega)
        rw [List.take_succ_cons] at h
        show sbRequest ((s.ao.sb.rx ++ [v]) ++ _) = none
        rw [List.append_assoc]
        exact h
      show ((l.flatMap bitMoves).take k).foldl sbMove ([SbMove.dataRise v, .dataFall].foldl sbMove s) = _
      rw [hb, ih']
      have hd : (k + 2) / 2 = k / 2 + 1 := by omega
      have hm : (k + 2) % 2 = k % 2 := by omega
      show sbPut s (bitsIn (bitIn s.ao.sb v) l k) = _
      simp only [bitsIn, hd, hm, List.take_succ_cons, List.foldl_cons, List.getD_cons_succ]

theorem length_bitMoves (l : List Bool) : (l.flatMap bitMoves).length = 2 * l.length := by
  induction l with
  | nil => rfl
  | cons v l ih =>
    rw [List.flatMap_cons, List.length_append, ih, List.length_cons]
    show 2 + _ = _
    omega

/-- A whole request executes its command (R79). -/
theorem request_received {s : State} {a c : Byte} {d : List Bool} (hp : s.ao.sb.phase = .receive) (hrx : s.ao.sb.rx = [])
    (hd : d.length = 16 * sbReqWords c) :
    ((msbBits a ++ msbBits c ++ d).flatMap bitMoves).foldl sbMove s
      = sbExecute (sbPut s ((msbBits a ++ msbBits c ++ d).foldl bitIn s.ao.sb)) a c (BitVec.ofNat 16 (bitsNat d)) := by
  have hreq := sbRequest_frame a c d
  have hbeg : ∀ j, j < 16 + d.length → sbRequest ((msbBits a ++ msbBits c ++ d).take j) = none := fun j hj => sbRequest_begun hd hj
  have hlen : (msbBits a ++ msbBits c ++ d).length = 16 + d.length := by simp only [List.length_append, length_msbBits]
  rw [if_pos hd] at hreq
  generalize msbBits a ++ msbBits c ++ d = l at hreq hbeg hlen ⊢
  obtain ⟨i, v, rfl⟩ : ∃ i v, l = i ++ [v] := ⟨l.dropLast, l.getLast (by intro h; rw [h, List.length_nil] at hlen; omega), (List.dropLast_append_getLast _).symm⟩
  have hi : i.length < 16 + d.length := by rw [List.length_append] at hlen; simp at hlen; omega
  have hin := bits_received i s (2 * i.length) hp (Nat.le_refl _) fun j _ hj => by
    have h := hbeg j (by omega)
    rw [hrx, List.nil_append]
    rwa [List.take_append_of_le_length (by omega)] at h
  rw [List.take_of_length_le (by rw [length_bitMoves])] at hin
  have hbits : bitsIn s.ao.sb i (2 * i.length) = i.foldl bitIn s.ao.sb := by
    simp only [bitsIn, Nat.mul_div_cancel_left _ (by decide : 0 < 2), Nat.mul_mod_right, List.take_length]
    rfl
  obtain ⟨hr, hph, -⟩ := foldl_bitIn_rest i s.ao.sb hp
  rw [List.flatMap_append, List.foldl_append, hin, hbits]
  refine (bit_received (s := sbPut s (i.foldl bitIn s.ao.sb)) hph v).trans ?_
  have hrx' : (sbPut s (i.foldl bitIn s.ao.sb)).ao.sb.rx ++ [v] = i ++ [v] := by
    show (i.foldl bitIn s.ao.sb).rx ++ [v] = _
    rw [hr, hrx, List.nil_append]
  rw [hrx', hreq, List.foldl_append]
  rfl

/-! ### Bits that Ivsyn sends -/

/-- The line changes by which the board controller takes n bits. -/
def takeMoves (n : Nat) : List SbMove := (List.replicate n [SbMove.ackRise, .ackFall]).flatten

/-- The state once a response has been sent whole (R82, R83). -/
def sbDone (s : State) : State := if s.ao.sb.resetDue then resetRequest (sbPut s State.sbReset) else sbPut s State.sbReset

theorem sbSent_eq {s : State} (hrx : s.ao.sb.rx = []) : sbSent s = sbDone s := by
  have h : turnToReceive s.ao.sb = State.sbReset := by simp only [turnToReceive, State.sbReset, hrx]
  unfold sbSent sbDone
  rw [h]

/-- The two line changes by which a bit on its data line is taken: the next one follows, or the response is at its end. -/
theorem bit_sent {s : State} (hp : s.ao.sb.phase = .sending) : [SbMove.ackRise, .ackFall].foldl sbMove s = sbGive (sbPut s (dataLower s.ao.sb)) s.ao.sb.tx.tail := by
  have h1 : sbMove s .ackRise = sbPut s (dataLower s.ao.sb) := by
    unfold sbMove
    rw [hp]
  show sbMove (sbMove s .ackRise) .ackFall = _
  rw [h1]
  rfl

/-- The turnaround. -/
theorem wires_turned {s : State} (hp : s.ao.sb.phase = .turning) : [SbMove.ackRise, .ackFall].foldl sbMove s = sbGive (sbPut s (dataDrive s.ao.sb)) s.ao.sb.tx := by
  have h1 : sbMove s .ackRise = sbPut s (dataDrive s.ao.sb) := by
    unfold sbMove
    rw [hp]
  show sbMove (sbMove s .ackRise) .ackFall = _
  rw [h1]
  rfl

theorem takeMoves_succ (n : Nat) : takeMoves (n + 1) = [SbMove.ackRise, .ackFall] ++ takeMoves n := rfl

theorem length_takeMoves (n : Nat) : (takeMoves n).length = 2 * n := by
  induction n with
  | zero => rfl
  | succ n ih =>
    rw [takeMoves_succ, List.length_append, ih]
    show 2 + _ = _
    omega

/-- The bits that are left, taken one by one. -/
theorem bits_sent (l : List Bool) (s : State) (hp : s.ao.sb.phase = .sending) (hrx : s.ao.sb.rx = []) (ht : s.ao.sb.tx.tail = l) :
    (takeMoves (l.length + 1)).foldl sbMove s = sbDone s := by
  induction l generalizing s with
  | nil =>
    rw [takeMoves_succ, List.foldl_append, bit_sent hp, ht]
    exact sbSent_eq (s := sbPut s (dataLower s.ao.sb)) hrx
  | cons v l ih =>
    rw [takeMoves_succ, List.foldl_append, bit_sent hp, ht]
    exact ih (sbPut s { dataRaise (dataLower s.ao.sb) v with tx := v :: l }) rfl hrx rfl

/-- A response that the wires have still to turn for, taken whole. -/
theorem response_sent {s : State} (hp : s.ao.sb.phase = .turning) (hrx : s.ao.sb.rx = []) :
    (takeMoves (s.ao.sb.tx.length + 1)).foldl sbMove s = sbDone s := by
  rw [takeMoves_succ, List.foldl_append, wires_turned hp]
  generalize ht : s.ao.sb.tx = l
  cases l with
  | nil => exact sbSent_eq (s := sbPut s (dataDrive s.ao.sb)) hrx
  | cons v l => exact bits_sent l (sbPut s { dataRaise (dataDrive s.ao.sb) v with tx := v :: l }) rfl hrx rfl

/-- A response of which the board controller is still to take bits: nothing changes but the sideband, and IV_SB_ACK is as it was. -/
structure Sending (s t : State) : Prop where
  busy : sbBusy t = true
  ack : t.ao.sb.ack = s.ao.sb.ack
  rest : t = sbPut s t.ao.sb

theorem Sending.of_phase {s : State} {b : SbUnit} (hp : b.phase ≠ .receive) (ha : b.ack = s.ao.sb.ack) : Sending s (sbPut s b) :=
  ⟨by simp [sbBusy, sbPut, hp], ha, rfl⟩

theorem Sending.after {s t : State} {b : SbUnit} (ha : b.ack = s.ao.sb.ack) (h : Sending (sbPut s b) t) : Sending s t :=
  ⟨h.busy, h.ack.trans ha, h.rest⟩

theorem bit_sending {s : State} (hp : s.ao.sb.phase = .sending) : Sending s (sbMove s .ackRise) := by
  unfold sbMove
  rw [hp]
  exact Sending.of_phase SbPhase.noConfusion rfl

/-- Some of the bits that are left, taken. -/
theorem bits_sending (l : List Bool) (s : State) (k : Nat) (hp : s.ao.sb.phase = .sending) (ht : s.ao.sb.tx.tail = l) (hk : k < 2 * (l.length + 1)) :
    Sending s (((takeMoves (l.length + 1)).take k).foldl sbMove s) := by
  induction l generalizing s k with
  | nil =>
    match k with
    | 0 => exact Sending.of_phase (b := s.ao.sb) (by rw [hp]; exact SbPhase.noConfusion) rfl
    | 1 => exact bit_sending hp
    | k + 2 => simp at hk
  | cons v l ih =>
    match k with
    | 0 => exact Sending.of_phase (b := s.ao.sb) (by rw [hp]; exact SbPhase.noConfusion) rfl
    | 1 => exact bit_sending hp
    | k + 2 =>
      have hg : [SbMove.ackRise, .ackFall].foldl sbMove s = sbPut s { dataRaise (dataLower s.ao.sb) v with tx := v :: l } := by
        rw [bit_sent hp, ht]
        rfl
      have hr : ((takeMoves (l.length + 1 + 1)).take (k + 2)) = [SbMove.ackRise, .ackFall] ++ (takeMoves (l.length + 1)).take k := rfl
      show Sending s (((takeMoves (l.length + 1 + 1)).take (k + 2)).foldl sbMove s)
      rw [hr, List.foldl_append, hg]
      exact Sending.after (b := { dataRaise (dataLower s.ao.sb) v with tx := v :: l }) rfl
        (ih _ k rfl rfl (by simp only [List.length_cons] at hk; omega))

/-- Some of the line changes by which a response is taken, the turnaround's first. -/
theorem response_sending {s : State} {k : Nat} (hp : s.ao.sb.phase = .turning) (hk : k < 2 * (s.ao.sb.tx.length + 1)) :
    Sending s (((takeMoves (s.ao.sb.tx.length + 1)).take k).foldl sbMove s) := by
  match k with
  | 0 => exact Sending.of_phase (b := s.ao.sb) (by rw [hp]; exact SbPhase.noConfusion) rfl
  | 1 =>
    show Sending s (sbMove s .ackRise)
    unfold sbMove
    rw [hp]
    exact Sending.of_phase SbPhase.noConfusion rfl
  | k + 2 =>
    rw [takeMoves_succ]
    show Sending s (((takeMoves s.ao.sb.tx.length).take k).foldl sbMove ([SbMove.ackRise, .ackFall].foldl sbMove s))
    rw [wires_turned hp]
    generalize s.ao.sb.tx = l at hk ⊢
    cases l with
    | nil => simp at hk
    | cons v l =>
      exact Sending.after (s := s) (b := { dataRaise (dataDrive s.ao.sb) v with tx := v :: l }) rfl (bits_sending l _ k rfl rfl
        (by simp only [List.length_cons] at hk; omega))

/-! ### Whole exchanges -/

/-- An exchange of enough line changes: the command acts on the whole request, and the response is taken whole. -/
theorem exchange_whole {s x : State} {frame : SbFrame} {c : Byte} {d : List Bool} (hm : mute s = false) (hp : s.ao.sb.phase = .receive)
    (hrx : s.ao.sb.rx = []) (hd : d.length = 16 * sbReqWords c) (hk : 2 * (16 + d.length) + 2 * (9 + 16 * sbRespWords c) ≤ frame.moves)
    (hx : sbExecute (sbPut s ((msbBits frame.addr ++ msbBits c ++ d).foldl bitIn s.ao.sb)) frame.addr c (BitVec.ofNat 16 (bitsNat d)) = x)
    (hxp : x.ao.sb.phase = .turning) (hxr : x.ao.sb.rx = []) (hxt : x.ao.sb.tx.length + 1 = 9 + 16 * sbRespWords c) :
    sbExchange s frame c d = sbDone x := by
  have hl : (msbBits frame.addr ++ msbBits c ++ d).length = 16 + d.length := by simp only [List.length_append, length_msbBits]
  have hmv : sbMoves (msbBits frame.addr ++ msbBits c ++ d) (sbRespWords c)
      = (msbBits frame.addr ++ msbBits c ++ d).flatMap bitMoves ++ takeMoves (x.ao.sb.tx.length + 1) := by
    rw [hxt]
    rfl
  unfold sbExchange
  rw [if_neg (by rw [hm]; exact Bool.false_ne_true), hmv, List.take_of_length_le (by rw [List.length_append, length_bitMoves, length_takeMoves, hl, hxt]; omega),
    List.foldl_append, request_received hp hrx hd, hx]
  exact response_sent hxp hxr

theorem length_respBits (r : SbResp) : (respBits r).length = 8 + 16 * r.data.length := by
  have : (r.data.flatMap msbBits).length = 16 * r.data.length := by
    induction r.data with
    | nil => rfl
    | cons v l ih => rw [List.flatMap_cons, List.length_append, ih, length_msbBits, List.length_cons]; omega
  rw [respBits, List.length_append, length_msbBits, this]

theorem sbDone_sbSend {s : State} {b : SbUnit} (hb : b.resetDue = false) (status : Byte) (data : List (BitVec 16)) :
    sbDone (sbSend (sbPut s b) status data) = answered s status data := by
  unfold sbDone
  refine (if_neg ?_).trans rfl
  show ¬ b.resetDue = true
  rw [hb]
  exact Bool.false_ne_true

/-- An exchange whose command only answers. -/
theorem exchange_answered {s : State} {frame : SbFrame} {c : Byte} {d : List Bool} {status : Byte} {data : List (BitVec 16)} (hm : mute s = false)
    (hsb : s.ao.sb = State.sbReset) (hd : d.length = 16 * sbReqWords c) (hk : 2 * (16 + d.length) + 2 * (9 + 16 * sbRespWords c) ≤ frame.moves)
    (hx : ∀ b, sbExecute (sbPut s b) frame.addr c (BitVec.ofNat 16 (bitsNat d)) = sbSend (sbPut s b) status data) (hl : data.length = sbRespWords c) :
    sbExchange s frame c d = answered s status data := by
  obtain ⟨-, -, -, -, -, hdue, -⟩ := foldl_bitIn_rest (msbBits frame.addr ++ msbBits c ++ d) s.ao.sb (by rw [hsb]; rfl)
  refine (exchange_whole hm (by rw [hsb]; rfl) (by rw [hsb]; rfl) hd hk (hx _) rfl rfl ?_).trans (sbDone_sbSend (hdue.trans (by rw [hsb]; rfl)) status data)
  show (respBits { status := status, data := data }).length + 1 = _
  rw [length_respBits, hl]
  omega

/-- A request to another address is answered 0xF0 with zero data (R80). -/
theorem exchange_elsewhere {s : State} {frame : SbFrame} {c : Byte} {d : List Bool} (hm : mute s = false)
    (hsb : s.ao.sb = State.sbReset) (ha : frame.addr ≠ s.ao.sbAddr) (hd : d.length = 16 * sbReqWords c)
    (hk : 2 * (16 + d.length) + 2 * (9 + 16 * sbRespWords c) ≤ frame.moves) :
    sbExchange s frame c d = answered s 0xF0 (List.replicate (sbRespWords c) 0) :=
  exchange_answered hm hsb hd hk (fun _ => if_neg ha) List.length_replicate

/-- A request to Ivsyn whose command only answers. -/
theorem exchange_here {s : State} {frame : SbFrame} {c : Byte} {d : List Bool} {status : Byte} {data : List (BitVec 16)} (hm : mute s = false)
    (hsb : s.ao.sb = State.sbReset) (ha : frame.addr = s.ao.sbAddr) (hd : d.length = 16 * sbReqWords c)
    (hk : 2 * (16 + d.length) + 2 * (9 + 16 * sbRespWords c) ≤ frame.moves)
    (hx : ∀ b, sbCommand (sbPut s b) c (BitVec.ofNat 16 (bitsNat d)) = sbSend (sbPut s b) status data) (hl : data.length = sbRespWords c) :
    sbExchange s frame c d = answered s status data :=
  exchange_answered hm hsb hd hk (fun b => (if_pos ha).trans (hx b)) hl

/-! ### The commands -/

theorem fld_bit_apart {w : Nat} (b : Bool) (i lo n : Nat) (hi : i < lo ∨ lo + n ≤ i) : fld (bit b i : BitVec w) lo n = 0 := by
  cases b
  · exact BitVec.eq_of_getLsbD_eq fun j hj => by simp [fld, bit]
  · refine BitVec.eq_of_getLsbD_eq fun j hj => ?_
    simp only [fld, bit, if_true, BitVec.getLsbD_extractLsb', getLsbD_twoPow_nat]
    simp
    omega

/-- A response's status byte: RESULT, DEGRADED and MODE (R80). -/
theorem sbStatus_fields (s : State) (r : BitVec 4) :
    fld (sbStatus s r) 4 4 = r ∧ (sbStatus s r).getLsbD 3 = (modeWord s).getLsbD 4 ∧ fld (sbStatus s r) 0 3 = (fld (modeWord s) 0 3 : BitVec 3) := by
  refine ⟨?_, ?_, ?_⟩
  · rw [sbStatus, fld_or, fld_or, fld_at_same _ _ _ (by decide), fld_bit_apart _ _ _ _ (by decide), fld_at_apart _ _ _ _ _ (by decide)]
    simp
  · have hl : ∀ b, (bit b 3 : Byte).getLsbD 3 = b := by decide
    have hw : ∀ b, (bit b 4 : Word).getLsbD 4 = b := by decide
    have hw' : ∀ b, (bit b 5 : Word).getLsbD 4 = false := by decide
    have hc : ∀ m : Mode, (at_ 32 0 m.code).getLsbD 4 = false := by rintro (_ | _) <;> rfl
    simp only [sbStatus, modeWord, BitVec.getLsbD_or, hl, hw, hw', hc]
    simp [at_]
  · rw [sbStatus, modeWord]
    simp only [fld_or, fld_at_apart 32 0 24 3 _ (.inr (by decide)), fld_at_apart 32 0 8 3 _ (.inr (by decide)), fld_bit_apart _ 5 0 3 (by decide),
      fld_bit_apart _ 4 0 3 (by decide), fld_bit_apart _ 3 0 3 (by decide), fld_at_apart 8 0 4 3 _ (.inr (by decide)), fld_at_low _ _ _ (by decide : 3 ≤ 32),
      fld_at_low _ _ _ (by decide : 3 ≤ 8)]
    cases s.md.mode <;> rfl

theorem pollCmd_facts (n : BitVec 4) : ((3 : BitVec 4) ++ n : Byte) ≠ 0x10 ∧ ((3 : BitVec 4) ++ n : Byte) ≠ 0x20 ∧ (fld ((3 : BitVec 4) ++ n : Byte) 4 4 : BitVec 4) = 3
    ∧ (fld ((3 : BitVec 4) ++ n : Byte) 0 4 : BitVec 4) = n ∧ sbReqWords ((3 : BitVec 4) ++ n) = 0 ∧ sbRespWords ((3 : BitVec 4) ++ n) = 2 := by
  revert n
  decide

theorem sbCommand_poll (s : State) (n : BitVec 4) (d : BitVec 16) : sbCommand s ((3 : BitVec 4) ++ n) d = sbSend s (sbStatus s 0) (sbWords (pollWord s n.toNat)) := by
  obtain ⟨h1, h2, h3, h4, -, -⟩ := pollCmd_facts n
  unfold sbCommand
  rw [if_neg h1, if_neg h2, if_pos h3, h4]

/-- A command that the sideband does not know (R79). -/
theorem badCmd_facts {c : Byte} (h1 : c ≠ 0x10) (h2 : c ≠ 0x20) (h4 : c ≠ 0x40) (h5 : c ≠ 0x50) (h3 : (fld c 4 4 : BitVec 4) ≠ 3) (s : State) (d : BitVec 16) :
    sbCommand s c d = sbSend s (sbStatus s 1) [] := by
  unfold sbCommand
  rw [if_neg h1, if_neg h2, if_neg h3, if_neg h4, if_neg h5]

theorem sbReqWords_of_none {c : Byte} (h4 : c ≠ 0x40) (h5 : c ≠ 0x50) : sbReqWords c = 0 := if_neg (by simpa using ⟨h4, h5⟩)

theorem sbRespWords_of_none {c : Byte} (h4 : c ≠ 0x40) (h3 : (fld c 4 4 : BitVec 4) ≠ 3) : sbRespWords c = 0 := if_neg (by simpa using ⟨h3, h4⟩)

theorem ofNat_bitsNat (i : BitVec 16) : BitVec.ofNat 16 (bitsNat (msbBits i)) = i := by rw [bitsNat_msbBits, BitVec.ofNat_toNat, BitVec.setWidth_eq]

/-- A request of which the board controller falls silent before its end, or in its response. -/
theorem exchange_cut {s : State} {frame : SbFrame} {c : Byte} (hm : mute s = false) (hsb : s.ao.sb = State.sbReset) (hk : frame.moves < 32)
    (hc : sbReqWords c = 0) : sbExchange s frame c [] = sbPut s (bitsIn State.sbReset (msbBits frame.addr ++ msbBits c) frame.moves) := by
  have hl : (msbBits frame.addr ++ msbBits c).length = 16 := by simp only [List.length_append, length_msbBits]
  have hd : ([] : List Bool).length = 16 * sbReqWords c := by rw [hc]; rfl
  have hin := bits_received (msbBits frame.addr ++ msbBits c) s frame.moves (by rw [hsb]; rfl) (by rw [hl]; omega) fun j _ hj => by
    have h := sbRequest_begun (a := frame.addr) hd (j := j) (by simp only [List.length_nil]; omega)
    rw [hsb]
    rwa [List.append_nil] at h
  unfold sbExchange
  rw [if_neg (by rw [hm]; exact Bool.false_ne_true), List.append_nil]
  have ht : (sbMoves (msbBits frame.addr ++ msbBits c) (sbRespWords c)).take frame.moves = ((msbBits frame.addr ++ msbBits c).flatMap bitMoves).take frame.moves :=
    List.take_append_of_le_length (by
      have := length_bitMoves (msbBits frame.addr ++ msbBits c)
      rw [hl] at this
      exact Nat.le_trans (Nat.le_of_lt hk) (Nat.le_of_eq this.symm))
  rw [ht, hin, hsb]

/-- A request taken whole, and the response cut off. -/
theorem exchange_halfway {s : State} {frame : SbFrame} {c : Byte} (hm : mute s = false) (hsb : s.ao.sb = State.sbReset) (hk : 32 ≤ frame.moves)
    (hc : sbReqWords c = 0) {status : Byte} {data : List (BitVec 16)}
    (hx : ∀ b, sbExecute (sbPut s b) frame.addr c (BitVec.ofNat 16 (bitsNat [])) = sbSend (sbPut s b) status data) :
    ∃ b : SbUnit, b.d0 = .released ∧ b.d1 = .released
      ∧ sbExchange s frame c [] = ((takeMoves (9 + 16 * sbRespWords c)).take (frame.moves - 32)).foldl sbMove (sbSend (sbPut s b) status data) := by
  have hd : ([] : List Bool).length = 16 * sbReqWords c := by rw [hc]; rfl
  have hlen : ((msbBits frame.addr ++ msbBits c ++ []).flatMap bitMoves).length = 32 := by
    rw [length_bitMoves, List.append_nil, List.length_append, length_msbBits, length_msbBits]
  have hmv : sbMoves (msbBits frame.addr ++ msbBits c ++ []) (sbRespWords c)
      = (msbBits frame.addr ++ msbBits c ++ []).flatMap bitMoves ++ takeMoves (9 + 16 * sbRespWords c) := rfl
  have hreq := request_received (a := frame.addr) (by rw [hsb]; rfl) (by rw [hsb]; rfl : s.ao.sb.rx = []) hd
  obtain ⟨-, -, h0, h1, -, -, -⟩ := foldl_bitIn_rest (msbBits frame.addr ++ msbBits c ++ []) s.ao.sb (by rw [hsb]; rfl)
  generalize (msbBits frame.addr ++ msbBits c ++ []).foldl bitIn s.ao.sb = b at h0 h1 hreq
  rw [hx] at hreq
  refine ⟨b, h0.trans (by rw [hsb]; rfl), h1.trans (by rw [hsb]; rfl), ?_⟩
  unfold sbExchange
  rw [if_neg (by rw [hm]; exact Bool.false_ne_true), hmv, List.take_append, List.take_of_length_le (by omega), hlen, List.foldl_append, hreq]

/-- A PING of which the board controller falls silent in its response. -/
theorem ping_halfway {s : State} {a : Byte} {k : Nat} (hm : mute s = false) (hsb : s.ao.sb = State.sbReset) (hk : 32 ≤ k) (hk' : k < 50) :
    ∃ t r, exec (.ping ⟨a, k⟩) s = .next t ∧ sbBusy t = true ∧ t.ao.sbResp = some r
      ∧ r.status = (if a = s.ao.sbAddr then sbStatus s 0 else 0xF0) ∧ t.ao.sb.ack = .released
      ∧ (k = 32 → t.ao.sb.d0 = .released ∧ t.ao.sb.d1 = .released) ∧ (k = 33 → t.ao.sb.d0 = .low ∧ t.ao.sb.d1 = .low)
      ∧ t = { s with ao := { s.ao with sb := t.ao.sb, sbResp := some r } } := by
  obtain ⟨b, h0, h1, heq⟩ := exchange_halfway (s := s) (frame := ⟨a, k⟩) (c := 0x10) (status := if a = s.ao.sbAddr then sbStatus s 0 else 0xF0) (data := [])
    hm hsb hk rfl (fun b => by
      show (if a = s.ao.sbAddr then _ else _) = _
      split <;> rfl)
  generalize (if a = s.ao.sbAddr then sbStatus s 0 else 0xF0) = st at heq ⊢
  have hs : Sending (sbSend (sbPut s b) st []) _ := response_sending (s := sbSend (sbPut s b) st []) (k := k - 32) rfl (by
    show k - 32 < 2 * ((respBits _).length + 1)
    rw [length_respBits]
    simp only [List.length_nil]
    omega)
  have hlen : (sbSend (sbPut s b) st []).ao.sb.tx.length + 1 = 9 + 16 * sbRespWords 0x10 := by
    show (respBits _).length + 1 = 9
    rw [length_respBits]
    rfl
  rw [hlen] at hs
  refine ⟨_, { status := st, data := [] }, congrArg Host.Outcome.next heq, hs.busy, ?_, rfl, hs.ack, ?_, ?_, hs.rest⟩
  · rw [hs.rest]
    rfl
  · rintro rfl
    exact ⟨h0, h1⟩
  · rintro rfl
    exact ⟨rfl, rfl⟩

/-- A PING of which the board controller falls silent in its request. -/
theorem ping_cut {s : State} {a : Byte} {k : Nat} (hm : mute s = false) (hsb : s.ao.sb = State.sbReset) (hk : k < 32) :
    ∃ t, exec (.ping ⟨a, k⟩) s = .next t ∧ t.ao.sb.rx = (msbBits a ++ msbBits (0x10 : Byte)).take (k / 2) ∧ t.ao.sbResp = s.ao.sbResp
      ∧ t.ao.sb.ack = (if k % 2 = 1 then .high else .low) ∧ t.ao.sb.d0 = .released ∧ t.ao.sb.d1 = .released
      ∧ t = { s with ao := { s.ao with sb := t.ao.sb } } := by
  have heq := exchange_cut (frame := ⟨a, k⟩) (c := 0x10) hm hsb hk rfl
  generalize msbBits a ++ msbBits (0x10 : Byte) = l at heq ⊢
  obtain ⟨hrx, hack, h0, h1⟩ := bitsIn_of_reset l k
  exact ⟨_, congrArg Host.Outcome.next heq, hrx, rfl, hack, h0, h1, rfl⟩

/-- A RESET with the right key: its response, and the block reset due once that has been sent (R82). -/
def sbResetArm (s : State) : State :=
  let x := sbSend s (sbStatus s 0) []
  { x with ao := { x.ao with sbWrong := 0, sb := { x.ao.sb with resetDue := !s.ao.resetting } } }

/-- A RESET with a wrong key: its response, and the count (R82). -/
def sbResetMiss (s : State) : State :=
  let x := sbSend s (sbStatus s 2) []
  { x with ao := { x.ao with sbWrong := x.ao.sbWrong + 1 } }

theorem sbResetAct_right {s : State} {x : BitVec 16} (hw : s.ao.sbWrong < 8) (hx : x = s.ao.sbKey) (h0 : s.ao.sbKey ≠ 0) : sbResetAct s x = sbResetArm s :=
  (if_neg (Nat.not_le.mpr hw)).trans (if_pos (by rw [decide_eq_true hx, decide_eq_true h0]; rfl))

theorem sbResetAct_wrong {s : State} {x : BitVec 16} (hw : s.ao.sbWrong < 8) (hx : x ≠ s.ao.sbKey ∨ s.ao.sbKey = 0) : sbResetAct s x = sbResetMiss s := by
  refine (if_neg (Nat.not_le.mpr hw)).trans (if_neg ?_)
  rcases hx with hx | hx
  · simp [hx]
  · simp [hx]

theorem resetRequest_leaves (s : State) : (resetRequest s).ao.sbResp = s.ao.sbResp ∧ (resetRequest s).ao.sb = s.ao.sb
    ∧ (resetRequest s).ao.sbWrong = s.ao.sbWrong ∧ (resetRequest s).ts = s.ts := by
  unfold resetRequest
  split
  · exact ⟨rfl, rfl, rfl, rfl⟩
  · dsimp only
    split <;> exact ⟨rfl, rfl, rfl, rfl⟩

/-- Once the response to the right key has been sent, the block reset is asked for, unless one is under way (R82). -/
theorem sbDone_resetArm (s : State) (b : SbUnit) :
    let t := sbDone (sbResetArm (sbPut s b))
    t.ao.resetting = true ∧ t.ao.sbResp = some { status := sbStatus s 0, data := [] } ∧ t.ao.sb = State.sbReset ∧ t.ao.sbWrong = 0 ∧ t.ts = s.ts ∧ t.md = s.md := by
  intro t
  cases hr : s.ao.resetting with
  | true =>
    have ht : t = sbPut (sbResetArm (sbPut s b)) State.sbReset := if_neg (by
      show ¬ (!s.ao.resetting) = true
      rw [hr]
      exact Bool.false_ne_true)
    rw [ht]
    exact ⟨hr, rfl, rfl, rfl, rfl, rfl⟩
  | false =>
    have ht : t = resetRequest (sbPut (sbResetArm (sbPut s b)) State.sbReset) := if_pos (by
      show (!s.ao.resetting) = true
      rw [hr]
      rfl)
    obtain ⟨hreq, hmd⟩ := resetRequest_asks (s := sbPut (sbResetArm (sbPut s b)) State.sbReset) hr
    obtain ⟨hresp, hsb, hw, hts⟩ := resetRequest_leaves (sbPut (sbResetArm (sbPut s b)) State.sbReset)
    rw [ht, hreq, hresp, hsb, hw, hts, hmd]
    exact ⟨rfl, rfl, rfl, rfl, rfl, rfl⟩

/-- A sideband RESET: the wires' changes, and then what the key asks for. -/
theorem sbReset_exchange {s : State} {x : BitVec 16} {k : Nat} (hm : mute s = false) (hsb : s.ao.sb = State.sbReset) (hk : 82 ≤ k) {y : State → State}
    (hy : ∀ b, sbResetAct (sbPut s b) x = y (sbPut s b)) (hp : ∀ b, (y (sbPut s b)).ao.sb.phase = .turning) (hr : ∀ b, (y (sbPut s b)).ao.sb.rx = [])
    (ht : ∀ b, (y (sbPut s b)).ao.sb.tx.length + 1 = 9) :
    ∃ b : SbUnit, b.resetDue = false ∧ exec (.sbReset ⟨s.ao.sbAddr, k⟩ x) s = .next (sbDone (y (sbPut s b))) := by
  obtain ⟨-, -, -, -, -, hdue, -⟩ := foldl_bitIn_rest (msbBits s.ao.sbAddr ++ msbBits 0x50 ++ msbBits x) s.ao.sb (by rw [hsb]; rfl)
  refine ⟨_, hdue.trans (by rw [hsb]; rfl), congrArg Host.Outcome.next ?_⟩
  refine exchange_whole hm (by rw [hsb]; rfl) (by rw [hsb]; rfl) (length_msbBits x) (by rw [length_msbBits]; exact hk) ?_ (hp _) (hr _) (ht _)
  rw [ofNat_bitsNat]
  exact (if_pos rfl).trans (hy _)

end Sys2Proof.Machine

namespace Sys2Proof

open Sys2Proof.Machine

/-- Settles O47: a request's bits are taken one by one, its command acts at the last, and the response's bits go out one by one. -/
theorem sidebandResponses : Obligations.SidebandResponses := by
  refine ⟨sbStatus_fields, fun s a n i c k hm hsb => ⟨fun ha => ⟨fun hk => ?_, fun hk => ?_, fun hk h1 h2 h4 h5 h3 => ?_, fun hk hi => ?_, fun hk hi => ?_⟩,
      fun ha => ⟨fun hk => ⟨?_, ?_, fun h4 h5 h3 => ?_⟩, fun hk => ?_, fun hk => ?_, fun hk => ?_⟩⟩,
    fun s x k hm hsb hk => ⟨fun hw hx h0 => ?_, fun hw hx => ?_, fun hw => ?_⟩,
    fun s a k hm hsb => ⟨fun hk => ?_, fun hk hk' => ?_⟩,
    fun s hm => ⟨fun hb hq => ⟨?_, rfl, rfl, rfl⟩, fun hb => ?_, fun hr => ?_, fun hr => ?_⟩⟩
  · exact congrArg Host.Outcome.next (exchange_here hm hsb ha rfl hk (fun _ => rfl) rfl)
  · obtain ⟨-, -, -, -, hq, hr⟩ := pollCmd_facts n
    refine congrArg Host.Outcome.next (exchange_here hm hsb ha ?_ ?_ (fun b => sbCommand_poll ..) ?_)
    · rw [hq]; rfl
    · rw [hr]; exact hk
    · rw [hr]; rfl
  · have hq := sbReqWords_of_none h4 h5
    have hr := sbRespWords_of_none h4 h3
    refine congrArg Host.Outcome.next (exchange_here hm hsb ha ?_ ?_ (fun b => badCmd_facts h1 h2 h4 h5 h3 ..) ?_)
    · rw [hq]; rfl
    · rw [hr]; exact hk
    · rw [hr]; rfl
  · refine congrArg Host.Outcome.next (exchange_here hm hsb ha (length_msbBits i) ?_ (fun b => ?_) rfl)
    · rw [length_msbBits]; exact hk
    · rw [ofNat_bitsNat]; exact if_pos hi
  · refine congrArg Host.Outcome.next (exchange_here hm hsb ha (length_msbBits i) ?_ (fun b => ?_) rfl)
    · rw [length_msbBits]; exact hk
    · rw [ofNat_bitsNat]; exact if_neg (Nat.not_le.mpr hi)
  · exact congrArg Host.Outcome.next (exchange_elsewhere hm hsb ha rfl hk)
  · exact congrArg Host.Outcome.next (exchange_elsewhere hm hsb ha rfl hk)
  · have hq := sbReqWords_of_none h4 h5
    have hr := sbRespWords_of_none h4 h3
    have h := exchange_elsewhere (c := c) (d := []) (frame := ⟨a, k⟩) hm hsb ha (by rw [hq]; rfl) (by rw [hr]; exact hk)
    rw [hr] at h
    exact congrArg Host.Outcome.next h
  · obtain ⟨-, -, -, -, hq, hr⟩ := pollCmd_facts n
    have h := exchange_elsewhere (c := (3 : BitVec 4) ++ n) (d := []) (frame := ⟨a, k⟩) hm hsb ha (by rw [hq]; rfl) (by rw [hr]; exact hk)
    rw [hr] at h
    exact congrArg Host.Outcome.next h
  · exact congrArg Host.Outcome.next (exchange_elsewhere hm hsb ha (length_msbBits i) (by rw [length_msbBits]; exact hk))
  · exact congrArg Host.Outcome.next (exchange_elsewhere hm hsb ha (length_msbBits i) (by rw [length_msbBits]; exact hk))
  · obtain ⟨b, hb, he⟩ := sbReset_exchange (x := x) (s := s) (y := sbResetArm) hm hsb hk (fun b => sbResetAct_right (s := sbPut s b) hw hx (show s.ao.sbKey ≠ 0 from hx ▸ h0))
      (fun _ => rfl) (fun _ => rfl) (fun _ => rfl)
    exact ⟨_, he, sbDone_resetArm s b⟩
  · obtain ⟨b, hb, he⟩ := sbReset_exchange (x := x) (s := s) (y := sbResetMiss) hm hsb hk (fun b => sbResetAct_wrong (s := sbPut s b) hw hx)
      (fun _ => rfl) (fun _ => rfl) (fun _ => rfl)
    refine he.trans (congrArg Host.Outcome.next ?_)
    exact (if_neg (by show ¬ b.resetDue = true; rw [hb]; exact Bool.false_ne_true)).trans rfl
  · refine congrArg Host.Outcome.next (exchange_here hm hsb rfl (length_msbBits x) ?_ (fun b => ?_) rfl)
    · rw [length_msbBits]; exact hk
    · rw [ofNat_bitsNat]; exact if_pos hw
  · exact ping_cut hm hsb hk
  · exact ping_halfway hm hsb hk hk'
  · exact congrArg Host.Outcome.next (if_pos (by rw [hm, hb, decide_eq_true hq]; rfl))
  · refine congrArg Host.Outcome.next (if_neg ?_)
    rcases hb with hb | hb
    · simp [hb]
    · simp [hb]
  · exact congrArg Host.Outcome.next (if_pos (by rw [hm, hr]; rfl))
  · exact congrArg Host.Outcome.next (if_neg (by rw [hm, hr]; exact Bool.false_ne_true))

end Sys2Proof

end
section
/-! PROOF. The wake sources (R48, R79, R284, R291, R292). -/

namespace Sys2Proof.Machine

/-- The first source that asks for RUN, with no step of an entry in progress (R292). -/
theorem wakeSource_first {s : State} (hs : sleeping s = true) (hr : s.pw.wakeReq = none) (he : s.pw.entry = none) (c : BitVec 4) :
    wakeSource s c = { s with pw := { s.pw with wakeReq := some c, wakeCause := c, pwrReq := 0, ackWait := true } } := by
  unfold wakeSource
  rw [if_pos hs, hr, he]

theorem offAsked_of_none {s : State} (he : s.pw.entry = none) : offAsked s = false := by
  unfold offAsked
  rw [he]

/-- A response taken, whole or in part, changes the sideband alone where no block reset is due after it. -/
theorem response_moves {s : State} (hp : s.ao.sb.phase = .turning) (hrx : s.ao.sb.rx = []) (hd : s.ao.sb.resetDue = false) (j : Nat) :
    ∃ b, ((takeMoves (s.ao.sb.tx.length + 1)).take j).foldl sbMove s = sbPut s b := by
  by_cases hj : j < 2 * (s.ao.sb.tx.length + 1)
  · exact ⟨_, (response_sending hp hj).rest⟩
  · refine ⟨State.sbReset, ?_⟩
    rw [List.take_of_length_le (by rw [length_takeMoves]; omega), response_sent hp hrx]
    exact if_neg (by rw [hd]; exact Bool.false_ne_true)

theorem sbWakeAct_ao (s : State) : (sbWakeAct s).ao = s.ao := by
  unfold sbWakeAct
  split
  · split
    · obtain ⟨pw, he⟩ := wakeSource_eq s 2
      rw [he]
    · split
      · exact activity_ao s
      · rfl
  · rfl

/-- A sideband WAKE whose request is taken whole: its response, and what it does (R79). -/
theorem sbWake_exchange {s : State} {k : Nat} (hm : mute s = false) (hi : sbIdle s = true) (hk : 32 ≤ k) :
    ∃ b b', exec (.sbWake ⟨s.ao.sbAddr, k⟩) s = .next (sbPut (sbWakeAct (sbSend (sbPut s b) (sbStatus s 0) [])) b') := by
  simp only [sbIdle, sbBusy, Bool.and_eq_true, Bool.not_eq_true', Bool.or_eq_false_iff, decide_eq_false_iff_not, not_not, Bool.not_eq_false',
    List.isEmpty_iff] at hi
  obtain ⟨⟨⟨hp, hrx⟩, -⟩, hdue⟩ := hi
  have hreq := request_received (a := s.ao.sbAddr) (c := (0x20 : Byte)) (d := []) hp hrx rfl
  obtain ⟨-, -, -, -, -, hbd, -⟩ := foldl_bitIn_rest (msbBits s.ao.sbAddr ++ msbBits (0x20 : Byte) ++ []) s.ao.sb hp
  generalize (msbBits s.ao.sbAddr ++ msbBits (0x20 : Byte) ++ []).foldl bitIn s.ao.sb = b at hbd hreq
  have hlen : ((msbBits s.ao.sbAddr ++ msbBits (0x20 : Byte) ++ []).flatMap bitMoves).length = 32 := by
    rw [length_bitMoves, List.append_nil, List.length_append, length_msbBits, length_msbBits]
  have hmv : sbMoves (msbBits s.ao.sbAddr ++ msbBits (0x20 : Byte) ++ []) (sbRespWords 0x20)
      = (msbBits s.ao.sbAddr ++ msbBits (0x20 : Byte) ++ []).flatMap bitMoves ++ takeMoves 9 := rfl
  have hx : sbExecute (sbPut s b) s.ao.sbAddr 0x20 (BitVec.ofNat 16 (bitsNat [])) = sbWakeAct (sbSend (sbPut s b) (sbStatus s 0) []) := if_pos rfl
  have hao := sbWakeAct_ao (sbSend (sbPut s b) (sbStatus s 0) [])
  generalize hy : sbWakeAct (sbSend (sbPut s b) (sbStatus s 0) []) = y at hx hao
  have htx : y.ao.sb.tx.length + 1 = 9 := by rw [hao]; rfl
  obtain ⟨b', hb'⟩ := response_moves (s := y) (by rw [hao]; rfl) (by rw [hao]; rfl) (by rw [hao]; exact hbd.trans hdue) (k - 32)
  refine ⟨b, b', congrArg Host.Outcome.next ?_⟩
  unfold sbExchange
  dsimp only
  rw [if_neg (by rw [hm]; exact Bool.false_ne_true), hmv, List.take_append, List.take_of_length_le (by omega), hlen, List.foldl_append, hreq, hx, ← htx, hb', hy]

/-- A level line that is a wake source, in REST: whatever its vector, it stands active and asks for RUN (R291). -/
theorem edgeLine_wakes {s : State} (hl : live s = true) (hm : s.md.mode = .rest) {n : Nat} (hn : n < 3840) (hw : lineWakes s n = true) :
    ∃ ws : WireUnit, ws.high.getLsbD n = (!(lineCfg s n).polarity) ∧ edgeLine s n = wakeSource { s with ws := ws } 4 := by
  have hsl : sleeping s = true := by simp [sleeping, hm]
  have hwake (ws : WireUnit) : lineWake { s with ws := ws } n = wakeSource { s with ws := ws } 4 :=
    if_pos (by rw [decide_eq_true (show ({ s with ws := ws } : State).md.mode = .rest from hm), show lineWakes { s with ws := ws } n = true from hw]; rfl)
  let c := lineCfg s n
  let x := lineSet (lineSet s n c.polarity) n (!c.polarity)
  have hx : x.ws.high.getLsbD n = !c.polarity := high_lineSet_same _ hn _
  cases hlev : c.level with
  | false =>
    rw [edgeLine_takes hl hn hlev]
    refine ⟨(lineLatch x n).ws, hx, ?_⟩
    unfold edgeTake
    rw [if_pos (show sleeping x = true from hsl)]
    exact hwake _
  | true =>
    refine ⟨x.ws, hx, Eq.trans ?_ (hwake _)⟩
    have hon : lineActive x c n = true := by
      rw [lineActive, hx]
      cases c.polarity <;> rfl
    have hoff : lineActive (lineSet s n c.polarity) c n = false := by
      rw [lineActive, high_lineSet_same _ hn]
      cases c.polarity <;> rfl
    show lineMoves (lineSet s n c.polarity) n (!c.polarity) = _
    unfold lineMoves
    dsimp only
    rw [if_neg (show ¬ (!live (lineSet s n c.polarity)) = true by rw [show live (lineSet s n c.polarity) = true from hl]; decide), show lineCfg (lineSet s n c.polarity) n = c from rfl, hon, hoff, hlev,
      if_neg (by decide), if_pos (show sleeping (lineSet s n c.polarity) = true from hsl)]
    rfl

/-- What activity returns Ivsyn to from IDLE, a beat's activity included (R48, R280). -/
theorem activity_serves {s : State} (h : s.md.mode = .idle) (beat : Bool) :
    (activity s beat).md.mode = .serving ∧ (activity s beat).pw.pwrState = 4 ∧ (activity s beat).vat = s.vat ∧ (activity s beat).ts = s.ts := by
  obtain ⟨t, ht, hmd, hvat, hts⟩ : ∃ t : State, activity s beat = (if t.md.mode = .idle then { setMode t .serving with pw := { t.pw with pwrState := 4 } } else t)
      ∧ t.md = s.md ∧ t.vat = s.vat ∧ t.ts = s.ts := by
    refine ⟨_, rfl, ?_⟩
    split
    · split <;> exact ⟨rfl, rfl, rfl⟩
    · next e _ =>
      have hr := refuse_refused (noteBusy s) e.target 2 (w32 (occupied (noteBusy s) + 1))
      have hv : (refuse (noteBusy s) e.target 2 (w32 (occupied (noteBusy s) + 1))).vat = s.vat := (Logged.jnlRated ..).vat
      split
      · split
        · exact ⟨hr.md, hv, hr.ts⟩
        · exact ⟨rfl, rfl, rfl⟩
      · exact ⟨rfl, rfl, rfl⟩
  rw [ht, if_pos (by rw [hmd]; exact h)]
  exact ⟨rfl, rfl, hvat, hts⟩

end Sys2Proof.Machine

namespace Sys2Proof

open Sys2Proof.Machine

/-- Settles O48: each enabled source is the first to ask, by the source's own conditions; a beat is held, and IDLE's and an attempt's end is activity's. -/
theorem wakeSourcesAskForRun : Obligations.WakeSourcesAskForRun := by
  refine ⟨fun s n hl hr he => ?_, fun s e k ha hen hi hk he hu => ?_, fun s lane hl => ⟨fun hsl hen hr he => ?_, fun hsl hen => ?_, fun hm => ?_⟩⟩
  · refine ⟨fun hm hen => ?_, fun hsl hen hc => ?_, fun hsl hen hi k hk => ?_, fun hm hw => ?_⟩
    · have hp : s.ao.porst = false := by simp only [live, Bool.and_eq_true, Bool.not_eq_true'] at hl; exact hl.1.1.1
      refine congrArg Host.Outcome.next ?_
      rw [if_neg (by rw [hp]; decide), if_neg (by rw [hm]; decide), if_neg (by rw [offAsked_of_none he, Bool.and_false]; decide),
        if_pos (by rw [hl, hen, decide_eq_true hm]; rfl)]
      exact wakeSource_first (by simp [sleeping, hm]) hr he 1
    · refine congrArg Host.Outcome.next ((if_pos (by rw [hl, hsl, hen, hc]; rfl)).trans (wakeSource_first hsl hr he 5))
    · obtain ⟨b, b', hx⟩ := sbWake_exchange (mute_of_live hl) hi hk
      let y := sbSend (sbPut s b) (sbStatus s 0) []
      have hact : sbWakeAct y = wakeSource y 2 := by
        unfold sbWakeAct
        rw [if_pos (show (live y && y.ctl.wakeEn.getLsbD 1) = true by show (live s && s.ctl.wakeEn.getLsbD 1) = true; rw [hl, hen]; rfl), if_pos (show sleeping y = true from hsl)]
      rw [hact, wakeSource_first (s := sbSend (sbPut s b) (sbStatus s 0) []) hsl hr he 2] at hx
      exact ⟨_, hx, rfl, rfl, rfl, rfl⟩
    · obtain ⟨ws, hh, hx⟩ := edgeLine_wakes hl hm n.isLt hw
      rw [wakeSource_first (s := { s with ws := ws }) (by simp [sleeping, hm]) hr he 4] at hx
      refine ⟨_, congrArg Host.Outcome.next ((if_pos (by rw [hl, decide_eq_true hm]; rfl)).trans hx), rfl, hh, rfl, rfl⟩
  · obtain ⟨b, b', hx⟩ := sbWake_exchange (mute_of_live (live_of_awake ha)) hi hk
    let y := sbSend (sbPut s b) (sbStatus s 0) []
    have hact : sbWakeAct y = activity y false := by
      unfold sbWakeAct
      rw [if_pos (show (live y && y.ctl.wakeEn.getLsbD 1) = true by show (live s && s.ctl.wakeEn.getLsbD 1) = true; rw [live_of_awake ha, hen]; rfl),
        if_neg (show ¬ sleeping y = true by rw [show sleeping y = false from sleeping_of_awake ha]; decide)]
      refine if_pos ?_
      show entryUndoable s = true
      simp [entryUndoable, he, hu]
    obtain ⟨h1, h2⟩ := activity_of_undoable (s := y) he hu
    refine ⟨_, hx, ?_, ?_, ?_, ?_, ?_, ?_⟩
    all_goals rw [show sbWakeAct (sbSend (sbPut s b) (sbStatus s 0) []) = activity y false from hact]
    · exact h1
    · exact h2
    · exact (congrArg AoUnit.sbResp (activity_ao y) :)
    · exact (activity_ts y :)
    · exact (activity_vs y :)
    · exact (activity_ctl y :)
  · refine congrArg Host.Outcome.next ((if_pos (by rw [hl, inHold, hsl]; simp)).trans ?_)
    exact (if_pos hsl).trans ((if_pos hen).trans (wakeSource_first hsl hr he 3))
  · refine congrArg Host.Outcome.next ((if_pos (by rw [hl, inHold, hsl]; simp)).trans ?_)
    exact (if_pos hsl).trans (if_neg (by rw [fabricWake, hen]; decide))
  · have hsl : sleeping s = false := by simp [sleeping, hm]
    obtain ⟨h1, h2, h3, h4⟩ := activity_serves hm true
    refine ⟨_, congrArg Host.Outcome.next ((if_pos (by rw [hl, inHold, decide_eq_true hm]; simp)).trans (if_neg (by rw [hsl]; decide))), h1, h2, h3, ?_⟩
    rw [h4]

end Sys2Proof

end
section
/-! PROOF. The furnish loader: its commands and the steps of an operation (R104, R106, R108, R110, R111). -/

namespace Sys2Proof.Machine

/-! ### Commands -/

theorem furnCmd_calm {s : State} (hc : calm s = true) {ok : Bool} {f : State → State} :
    furnCmd s ok f = if ok then f (noteBusy s) else cmdRej (noteBusy s) := by
  have ha := awake_of_calm hc
  unfold furnCmd
  rw [if_pos (live_of_awake ha), if_neg (by rw [sleeping_of_awake ha]; exact Bool.false_ne_true), activity_of_calm hc false]

theorem furnCmd_asleep {s : State} (hl : live s = true) (hs : sleeping s = true) {ok : Bool} {f : State → State} : furnCmd s ok f = cmdRej s :=
  (if_pos hl).trans (if_pos hs)

/-- The ports that answer take an operation's command (R104, R106). -/
theorem exec_furnOp {s : State} {i : Instr} {op : FurnOp} {ok : Bool}
    (h : (i = .load ∧ op = .load ∧ ok = loadOk s) ∨ (i = .warmForm ∧ op = .warm ∧ ok = loadOk s) ∨ (∃ n, i = .reform n ∧ op = .reform n ∧ ok = reformOk s n))
    (hd : portsDead s = false) : exec i s = .next (portDone (furnCmd s ok (opStart op)) .mgmt) := by
  rcases h with ⟨rfl, rfl, rfl⟩ | ⟨rfl, rfl, rfl⟩ | ⟨n, rfl, rfl, rfl⟩ <;> exact congrArg Host.Outcome.next (writeAt_of_answers hd ..)

theorem exec_abandon {s : State} (hd : portsDead s = false) : exec .abandon s = .next (portDone (furnCmd s (abandonOk s) abandon) .mgmt) :=
  congrArg Host.Outcome.next (writeAt_of_answers hd ..)

/-! ### An operation's fetch, failure and end -/

theorem apHas_apPut (s : State) (r : AperReq) : apHas (apPut s r) r.purpose = true := by
  unfold apPut
  split <;> simp [apHas]

/-- A command that passes its checks asks for the image (R111 step 1). -/
theorem opStart_of_noErr {s : State} {op : FurnOp} (h : commandErr s op = none) :
    ∃ x r, r.purpose = .image ∧ opStart op s = apPut x r
      ∧ x = { s with fu := { s.fu with phase := .fetch, op := some op, image := [], computed := none, next := none, discarded := 0 } } := by
  refine ⟨_, apForm { s with fu := { s.fu with phase := .fetch, op := some op, image := [], computed := none, next := none, discarded := 0 } } .image false
    (imageOff s) [] [{ offset := imageOff s, count := (s.fu.len.toNat + 31) / 32, words := [] }], rfl, ?_, rfl⟩
  unfold opStart
  rw [h]
  rfl

theorem Sc.has_raise_self (r : Sc) {f : Nat} (hf : f < 24) : (r.raise f).has f = true := by simp [Sc.has_raise r f hf]

/-- What a failed operation leaves: its error, no operation, and the structure as it was (R110, R392). -/
structure FurnFailed (s t : State) (e : FurnErr) : Prop where
  phase : t.fu.phase = restPhase s
  op : t.fu.op = none
  err : t.fu.err = BitVec.ofNat 8 e.code
  errSection : t.fu.errSection = BitVec.ofNat 8 e.sect
  error : t.fu.status.has fuError = true
  formed : t.fu.formed = s.fu.formed
  md : t.md = s.md
  ctl : t.ctl = s.ctl

theorem fuFail_shows (s : State) (op : Option FurnOp) (e : FurnErr) (bid : DWord) : FurnFailed s (fuFail s op e bid) e := by
  obtain ⟨x, y, hf, hx, hy⟩ : ∃ x y, fuFail s op e bid = releaseAll x ∧ Logged y x ∧ FurnFailed s y e :=
    ⟨_, _, rfl, Logged.jnl .., ⟨rfl, rfl, rfl, rfl, Sc.has_raise_self _ (by decide), rfl, rfl, rfl⟩⟩
  have hs := releaseAll_steady x
  have hfu : (releaseAll x).fu = y.fu := hs.fu.trans hx.fu
  rw [hf]
  exact ⟨by rw [hfu, hy.phase], by rw [hfu, hy.op], by rw [hfu, hy.err], by rw [hfu, hy.errSection], by rw [hfu, hy.error], by rw [hfu, hy.formed],
    hs.md.trans (hx.md.trans hy.md), hs.ctl.trans (hx.ctl.trans hy.ctl)⟩

theorem apDrop_logged (s : State) (p : Purpose → Bool) :
    Logged { s with ap := { s.ap with reqs := s.ap.reqs.filter fun e => !p e.2.purpose, waiting := [] } } (apDrop s p) := by
  unfold apDrop
  dsimp only
  generalize s.ap.waiting.filter (fun r => !p r.purpose) = l
  generalize ({ s with ap := { s.ap with reqs := s.ap.reqs.filter fun e => !p e.2.purpose, waiting := [] } } : State) = x
  induction l generalizing x with
  | nil => exact .refl x
  | cons r l ih => exact (Logged.apPut x r).trans (ih _)

/-- ABANDON ends the operation, and the structure stands (R108). -/
theorem abandon_shows (s : State) :
    (abandon s).fu.phase = restPhase s ∧ (abandon s).fu.op = none ∧ (abandon s).fu.approved = none ∧ (abandon s).fu.status.has fuAbandoned = true
      ∧ (abandon s).fu.formed = s.fu.formed ∧ (abandon s).md = s.md ∧ (abandon s).ctl = s.ctl := by
  have hd := apDrop_logged s isImage
  have hfu : (apDrop s isImage).fu = s.fu := hd.fu
  have hs := releaseAll_steady { (opOver (apDrop s isImage)) with
    fu := { (opOver (apDrop s isImage)).fu with approved := none, status := (opOver (apDrop s isImage)).fu.status.raise fuAbandoned } }
  unfold abandon
  dsimp only
  rw [hs.fu, hs.md, hs.ctl]
  refine ⟨?_, rfl, rfl, Sc.has_raise_self _ (by decide), (congrArg FurnUnit.formed hfu :), hd.md, hd.ctl⟩
  show restPhase (apDrop s isImage) = _
  rw [restPhase, hfu]
  rfl

end Sys2Proof.Machine

namespace Sys2Proof

open Sys2Proof.Machine

/-- Settles O36: a command acts, fails or is rejected by what it finds. -/
theorem furnishCommandsStart : Obligations.FurnishCommandsStart := by
  intro s i op ok hi hd
  have hx := exec_furnOp hi hd
  have ha := exec_abandon hd
  refine ⟨fun hc hok he => ?_, fun e hc hok he => ?_, fun hc hok => ?_, fun hl hs => ⟨?_, ?_⟩, fun hc hok => ?_, fun hc hok => ?_⟩
  · rw [furnCmd_calm hc, if_pos hok] at hx
    obtain ⟨x, r, hr, hs, rfl⟩ := opStart_of_noErr (s := noteBusy s) he
    rw [hs] at hx
    have hl := Logged.apPut { noteBusy s with
      fu := { (noteBusy s).fu with phase := .fetch, op := some op, image := [], computed := none, next := none, discarded := 0 } } r
    have hh := apHas_apPut { noteBusy s with
      fu := { (noteBusy s).fu with phase := .fetch, op := some op, image := [], computed := none, next := none, discarded := 0 } } r
    rw [hr] at hh
    exact ⟨_, hx, (congrArg FurnUnit.phase hl.fu :), (congrArg FurnUnit.op hl.fu :), (congrArg FurnUnit.formed hl.fu :), hh, hl.vs, hl.ts, hl.vat, hl.md, hl.ctl⟩
  · rw [furnCmd_calm hc, if_pos hok] at hx
    have hs : opStart op (noteBusy s) = fuFail (noteBusy s) (some op) e 0 := by
      unfold opStart
      rw [show commandErr (noteBusy s) op = some e from he]
    rw [hs] at hx
    obtain ⟨h1, h2, h3, -, h5, h6, h7, h8⟩ := fuFail_shows (noteBusy s) (some op) e 0
    exact ⟨_, hx, h1, h2, h3, h5, h6, h7, h8⟩
  · rw [furnCmd_calm hc, if_neg (by rw [hok]; exact Bool.false_ne_true)] at hx
    exact hx
  · rw [furnCmd_asleep hl hs] at hx
    exact hx
  · rw [furnCmd_asleep hl hs] at ha
    exact ha
  · rw [furnCmd_calm hc, if_pos hok] at ha
    exact ⟨_, ha, abandon_shows (noteBusy s)⟩
  · rw [furnCmd_calm hc, if_neg (by rw [hok]; exact Bool.false_ne_true)] at ha
    exact ha

end Sys2Proof

end
section
/-! PROOF. The steps of a furnish operation: fetch, the wait for approval, and the start of FORM (R108, R110, R111, R268). -/

namespace Sys2Proof.Machine

theorem imageReturn_of_noInject {s : State} (h : s.flt.inject = none) (image : List Byte) : imageReturn s image = imageArrive s image := by
  unfold imageReturn
  rw [if_neg (by simp [readInjected, h])]

/-- The state in which the image stands whole. -/
theorem imageArrive_eq (s : State) (image : List Byte) :
    ∃ x, imageArrive s image = fetchEnd x ∧ x.fu = { s.fu with image := imageBytes s image } ∧ x.vs = s.vs ∧ x.ts = s.ts ∧ x.md = s.md ∧ x.ctl = s.ctl
      ∧ x.tm = s.tm := by
  have hl := apDrop_logged s isImage
  have hf : (apDrop s isImage).fu = s.fu := hl.fu
  refine ⟨_, rfl, ?_, hl.vs, hl.ts, hl.md, hl.ctl, hl.tm⟩
  have hb : imageBytes (apDrop s isImage) image = imageBytes s image := by simp only [imageBytes, hf]
  show ({ (apDrop s isImage).fu with image := imageBytes (apDrop s isImage) image } : FurnUnit) = _
  rw [hb, hf]

/-- An image that fails its checks ends the operation (R392). -/
theorem fetchEnd_of_error {x : State} {e : FurnErr} (h : sections x.fu.image x.fu.image.length = .error e) : FurnFailed x (fetchEnd x) e := by
  unfold fetchEnd
  dsimp only
  rw [h]
  exact fuFail_shows ..

/-- The image of a LOAD with a right digest waits for approval (R108, R111). -/
theorem fetchEnd_awaits {x : State} {l : List Section} (h : sections x.fu.image x.fu.image.length = .ok l)
    (hd : endDigest x.fu.image x.fu.image.length = imageDigest x.fu.image x.fu.image.length) (hop : x.fu.op = some .load) (ha : x.fu.approved = none) :
    fetchEnd x = { x with fu := { x.fu with phase := .await, computed := some (imageDigest x.fu.image x.fu.image.length), awaitAt := now x } } := by
  unfold fetchEnd
  dsimp only
  rw [h]
  dsimp only
  have hw : decide (x.fu.op = some .warm) = false := by rw [hop]; rfl
  rw [hd, hw, decide_eq_true rfl]
  show loaderTake _ = _
  unfold loaderTake
  rw [if_pos rfl]
  dsimp only
  rw [hop, ha]

/-! ### The structure is discarded -/

/-- What the report of a change leaves: the vat, the bytes, the registers, the loader and the AO island. -/
def reportView (s : State) : VatUnit × List (Nat × Byte) × ModeUnit × CtlRegs × FurnUnit × AoUnit := (s.vat, s.ts.lmem, s.md, s.ctl, s.fu, s.ao)

theorem Logged.reportView {s t : State} (h : Logged s t) : reportView t = reportView s := (congrArg Machine.reportView h.same :)

@[simp] theorem eaPut_reportView (s : State) (u : EaId) (e : EaUnit) : reportView (eaPut s u e) = reportView s := by cases u <;> rfl

@[simp] theorem eaRaise_reportView (s : State) (u : EaId) (m : BitVec 24) : reportView (eaRaise s u m) = reportView s := (eaPut_reportView ..).trans rfl

@[simp] theorem dcPut_reportView (s : State) (p : Party) (d : PartyUnit) : reportView (dcPut s p d) = reportView s := by cases p <;> rfl

@[simp] theorem propDone_reportView (s : State) (p : Party) (ok : Bool) : reportView (propDone s p ok) = reportView s := by
  unfold propDone
  dsimp only
  split
  · rfl
  · refine (Logged.jnl ..).reportView.trans ?_
    refine Eq.trans (b := reportView (propEnd s p)) (dcPut_reportView ..) ?_
    exact dcPut_reportView ..

@[simp] theorem changeReport_reportView (s : State) (c : Change) (ok : Bool) : reportView (changeReport s c ok) = reportView s := by
  unfold changeReport
  split
  · exact propDone_reportView ..
  · next u _ =>
    have h : reportView (eaRaise (eaPut s u { eaOf s u with busy := none }) u (bit true (if ok then eaDone else eaRefused))) = reportView s :=
      (eaRaise_reportView ..).trans (eaPut_reportView ..)
    dsimp only
    split
    · exact h
    · exact h

theorem entryReject_logged (s : State) (kind i reason code : Nat) : Logged s (entryReject s kind i reason code) :=
  (Logged.raiseStatus ..).trans (Logged.jnlRated ..)

@[simp] theorem approvedOver_reportView (s : State) : reportView (approvedOver s) = reportView s := by
  unfold approvedOver
  split
  · exact (changeReport_reportView ..).trans (entryReject_logged ..).reportView
  · rfl

@[simp] theorem eaOver_reportView (s : State) (u : EaId) : reportView (eaOver s u) = reportView s := by
  unfold eaOver
  split
  · exact (eaRaise_reportView ..).trans (eaPut_reportView ..)
  · rfl

theorem placeJournal_jn (s : State) (r : Region) : ∃ x jn, Logged s x ∧ placeJournal s r = { x with jn := jn } := ⟨_, _, Logged.apRequest .., rfl⟩

/-- What the journal's placement and the table traffic of a form leave. -/
def formView (s : State) : VecStore × TargetStore × VatUnit × ModeUnit × CtlRegs × FurnUnit × AoUnit := (s.vs, s.ts, s.vat, s.md, s.ctl, s.fu, s.ao)

theorem Logged.formView {s t : State} (h : Logged s t) : formView t = formView s := (congrArg Machine.formView h.same :)

theorem formJournal_formView (s : State) (f : Furnish) : formView (formJournal s f) = formView s := by
  unfold formJournal
  split
  · rfl
  · refine (forEach_view (v := formView) (fun x r => ?_) _ _).trans rfl
    obtain ⟨y, jn, hy, he⟩ := placeJournal_jn x r
    rw [he]
    exact hy.formView

theorem apBulk_logged (s : State) (p : Purpose) (write : Bool) (runs : List Run) : Logged s (apBulk s p write runs) := by
  unfold apBulk
  split
  · exact .refl s
  · exact Logged.apPut ..

/-- The start of FORM discards the structure and keeps the vat and local ring memory (R111 step 6). -/
theorem formStart_shows {s : State} (hop : s.fu.op = some .load) (f : Furnish) :
    (formStart s f).fu.phase = .form ∧ (formStart s f).fu.formed = none ∧ (formStart s f).fu.next = some f ∧ (formStart s f).vs = State.vsReset
      ∧ (formStart s f).ao.digest = none ∧ (formStart s f).vat = s.vat ∧ (formStart s f).ts.lmem = s.ts.lmem ∧ (formStart s f).md = s.md
      ∧ (formStart s f).ctl = s.ctl := by
  have hd : reportView (approvedOver (forEach (units s) s eaOver)) = reportView s :=
    (approvedOver_reportView _).trans (forEach_view eaOver_reportView _ _)
  have hop1 : (discardFormed s).fu.op = some .load := (congrArg (fun v => v.2.2.2.2.1.op) hd :).trans hop
  let x : State := { (discardFormed s) with
    fu := { (discardFormed s).fu with phase := .form, next := some f }
    ao := { (discardFormed s).ao with digest := if (discardFormed s).fu.op = some .load then none else (discardFormed s).ao.digest } }
  have hj := formJournal_formView x f
  have hj1 : (formJournal x f).fu.op = some .load := (congrArg (fun v => v.2.2.2.2.2.1.op) hj :).trans hop1
  have hv : formView (formStart s f) = formView x := by
    show formView (if (formJournal x f).fu.op = some .load then _ else _) = _
    rw [if_pos hj1]
    exact (apBulk_logged ..).formView.trans hj
  have hdg : x.ao.digest = none := if_pos hop1
  exact ⟨(congrArg (fun v => v.2.2.2.2.2.1.phase) hv :), (congrArg (fun v => v.2.2.2.2.2.1.formed) hv :), (congrArg (fun v => v.2.2.2.2.2.1.next) hv :),
    (congrArg (fun v => v.1) hv :), (congrArg (fun v => v.2.2.2.2.2.2.digest) hv :).trans hdg,
    (congrArg (fun v => v.2.2.1) hv :).trans (congrArg (fun v => v.1) hd :), (congrArg (fun v => v.2.1.lmem) hv :).trans (congrArg (fun v => v.2.1) hd :),
    (congrArg (fun v => v.2.2.2.1) hv :).trans (congrArg (fun v => v.2.2.1) hd :), (congrArg (fun v => v.2.2.2.2.1) hv :).trans (congrArg (fun v => v.2.2.2.1) hd :)⟩

/-- A LOAD that passes its checks goes to FORM (R111 step 5, R392). -/
theorem validate_of_load {s : State} {l : List Section} (hop : s.fu.op = some .load) (hl : sections s.fu.image s.fu.image.length = .ok l)
    (hr : checkReserved s.fu.image l = none)
    (hf : checkFields s.fu.image l (furnishOf s.fu.image l) (imageOff s) s.fu.image.length s.ap.log2.toNat = none) :
    validate s = formStart s (furnishOf s.fu.image l) := by
  unfold validate
  dsimp only
  rw [hl, hop]
  dsimp only
  rw [hr, hf]
  rfl

theorem FurnFailed.congr {s x t : State} {e : FurnErr} (h : FurnFailed x t e) (hf : x.fu.formed = s.fu.formed) (hm : x.md = s.md) (hc : x.ctl = s.ctl) :
    FurnFailed s t e :=
  ⟨h.phase.trans (by rw [restPhase, restPhase, hf]), h.op, h.err, h.errSection, h.error, h.formed.trans hf, h.md.trans hm, h.ctl.trans hc⟩

end Sys2Proof.Machine

namespace Sys2Proof

open Sys2Proof.Machine

/-- Settles O37: each step of an operation by its check. -/
theorem furnishStepsFollow : Obligations.FurnishStepsFollow := by
  intro s op ha hop hi
  refine ⟨fun image l => ?_, fun image e => ?_, fun hp ht => ?_, fun hp ht => ?_, fun l hp hload hl hr hf => ?_⟩
  · intro im hp hl hd hload happ
    obtain ⟨x, hx, hfu, hvs, hts, hmd, hctl, htm⟩ := imageArrive_eq s image
    have him : x.fu.image = im := by rw [hfu]
    have hnow : now x = now s := congrArg TimeUnit.now htm
    have hw := fetchEnd_awaits (x := x) (l := l) (by rw [him]; exact hl) (by rw [him]; exact hd) (by rw [hfu]; exact hop.trans (congrArg some hload)) (by rw [hfu]; exact happ)
    rw [him, hnow] at hw
    refine ⟨_, congrArg Host.Outcome.next ((if_pos (by rw [ha, hp]; rfl)).trans ((imageReturn_of_noInject hi image).trans (hx.trans hw))), rfl, ?_, rfl, rfl, ?_,
      hvs, hts, hmd, hctl⟩
    · exact him
    · exact (congrArg FurnUnit.formed hfu :)
  · intro im hp he
    obtain ⟨x, hx, hfu, -, -, hmd, hctl, -⟩ := imageArrive_eq s image
    have him : x.fu.image = im := by rw [hfu]
    have h := (fetchEnd_of_error (x := x) (e := e) (by rw [him]; exact he)).congr (s := s) (congrArg FurnUnit.formed hfu :) hmd hctl
    refine ⟨_, congrArg Host.Outcome.next ((if_pos (by rw [ha, hp]; rfl)).trans ((imageReturn_of_noInject hi image).trans hx)), h.phase, h.op, h.err,
      h.errSection, h.error, h.formed, h.md⟩
  · have h := fuFail_shows s s.fu.op { code := 0x09, sect := 0, word := 0 } (buildId s.fu.image)
    exact ⟨_, congrArg Host.Outcome.next (if_pos (by rw [ha, hp, decide_eq_true (show s.fu.awaitAt + awaitMax ≤ now s from ht)]; rfl)), h.phase, h.op, h.err,
      h.error, h.formed, h.md, h.ctl⟩
  · exact congrArg Host.Outcome.next (if_neg (by rw [decide_eq_false (show ¬ s.fu.awaitAt + awaitMax ≤ now s from Nat.not_le.mpr ht)]; simp))
  · rw [hload] at hop
    exact ⟨_, congrArg Host.Outcome.next ((if_pos (by rw [ha, hp]; rfl)).trans (validate_of_load hop hl hr hf)), formStart_shows hop _⟩

end Sys2Proof

end
section
/-! PROOF. The instants of a coalescing group (R226 to R229, R318). -/

namespace Sys2Proof.Machine

theorem unlessFatal_of_none {s : State} (h : s.flt.fatal = none) (f : State → State) : unlessFatal s f = f s := by
  unfold unlessFatal
  rw [h]
  rfl

theorem unlessFatal_of_fatal {s : State} (h : s.flt.fatal.isSome = true) (f : State → State) : unlessFatal s f = s := by
  unfold unlessFatal
  rw [if_pos h]

/-! ### What a decision leaves -/

theorem calLeave_eq (s : State) (id : Nat) : ∃ c w, calLeave s id = { s with vs := { s.vs with calendar := c, sweepList := w } } := by
  unfold calLeave
  split
  · dsimp only
    split <;> exact ⟨_, _, rfl⟩
  · split <;> exact ⟨_, _, rfl⟩

theorem calEnter_eq (s : State) (id : Nat) : ∃ c w, calEnter s id = { s with vs := { s.vs with calendar := c, sweepList := w } } := by
  unfold calEnter
  split
  · exact ⟨_, _, rfl⟩
  · split <;> exact ⟨_, _, rfl⟩

/-- A group's place in the calendar is all that its calendar entry changes (R242). -/
theorem couchCalendar_eq (s : State) (g : Nat) : ∃ c w, couchCalendar s g = { s with vs := { s.vs with calendar := c, sweepList := w } } := by
  unfold couchCalendar
  split
  · exact calEnter_eq ..
  · exact calLeave_eq ..

theorem evHeldBy_evRelease (g : Nat) (ev : Ev) : evHeldBy g (evRelease g ev) = false := by
  unfold evRelease
  split
  · rfl
  · next h => exact Bool.eq_false_iff.mpr h

/-- A release leaves nothing held (R226). -/
theorem couchHeld_couchRelease (s : State) (g : Nat) : couchHeld (couchRelease s g) g = [] := by
  have h : ∀ o : Option Ev, ((o.map (evRelease g)).toList).filter (evHeldBy g) = [] := by
    rintro (_ | ev)
    · rfl
    · simp [evHeldBy_evRelease]
  show (List.map _ s.vs.vecs).flatMap _ = _
  rw [List.flatMap_map, List.flatMap_eq_nil_iff]
  intro e _
  rw [List.filter_append, h, h]
  rfl

theorem couchOf_couchRelease (s : State) (g : Nat) : couchOf (couchRelease s g) g = { couchOf s g with held := 0 } := couchOf_couchPut_same ..

/-- What a release leaves besides the events it lets go. -/
structure Released (g : Nat) (w : Option Nat) (s t : State) : Prop where
  none : couchHeld t g = []
  held : (couchOf t g).held = 0
  window : (couchOf t g).window = w
  targets : t.ts.targets = s.ts.targets
  lmem : t.ts.lmem = s.ts.lmem
  md : t.md = s.md
  ctl : t.ctl = s.ctl
  tm : t.tm = s.tm

theorem couchRelease_released (s : State) (g : Nat) : Released g (couchOf s g).window s (couchRelease s g) :=
  ⟨couchHeld_couchRelease s g, by rw [couchOf_couchRelease], by rw [couchOf_couchRelease], rfl, rfl, rfl, rfl, rfl⟩

theorem Released.couchCalendar {g : Nat} {w : Option Nat} {s t : State} (h : Released g w s t) : Released g w s (couchCalendar t g) := by
  obtain ⟨c, l, he⟩ := couchCalendar_eq t g
  rw [he]
  exact ⟨h.none, h.held, h.window, h.targets, h.lmem, h.md, h.ctl, h.tm⟩

theorem Released.window_set {g : Nat} {w : Option Nat} {s t : State} (h : Released g w s t) (w' : Option Nat) :
    Released g w' s (couchPut t g { couchOf t g with window := w' }) :=
  ⟨h.none, by rw [couchOf_couchPut_same]; exact h.held, by rw [couchOf_couchPut_same], h.targets, h.lmem, h.md, h.ctl, h.tm⟩

/-! ### Decisions -/

theorem couchDecision_of_none {s : State} {g : Nat} (h : (couchOf s g).changes = []) (m : Option Nat) : couchDecision s g m = couchDecide s g m := by
  unfold couchDecision
  rw [h]
  rfl

/-- A window that ends while events are held: they go, and the next window is chained (R228). -/
theorem holdoff_chains {s : State} {g e : Nat} (hm : effMode s g = 1) (hw : (couchOf s g).window = some e) (he : e ≤ now s) (hh : (couchOf s g).held ≠ 0) :
    Released g (some (e + 8 * (couchOf s g).holdoff.toNat)) s (couchDecide s g none) := by
  have hr := (couchRelease_released s g).window_set (some (windowEnd (couchOf s g) e))
  unfold couchDecide holdoffDecision
  dsimp only
  rw [hm, if_pos rfl, hw]
  dsimp only
  rw [if_pos he, if_pos hh, hr.window]
  exact hr.couchCalendar

/-- A window that ends while nothing is held closes (R228). -/
theorem holdoff_closes {s : State} {g e : Nat} (hm : effMode s g = 1) (hw : (couchOf s g).window = some e) (he : e ≤ now s) (hh : (couchOf s g).held = 0) :
    let t := couchDecide s g none
    (couchOf t g).window = none ∧ t.vs.vecs = s.vs.vecs ∧ t.ts.targets = s.ts.targets ∧ t.md = s.md ∧ t.ctl = s.ctl ∧ t.tm = s.tm := by
  intro t
  have ht : t = couchCalendar (couchPut s g { couchOf s g with window := none }) g := by
    show couchDecide s g none = _
    unfold couchDecide holdoffDecision
    dsimp only
    rw [hm, if_pos rfl, hw]
    dsimp only
    rw [if_pos he, if_neg (not_not.mpr hh), couchOf_couchPut_same]
  obtain ⟨c, l, hc⟩ := couchCalendar_eq (couchPut s g { couchOf s g with window := none }) g
  rw [ht, hc]
  exact ⟨congrArg Couch.window (couchOf_couchPut_same s g _), rfl, rfl, rfl, rfl, rfl⟩

/-- A count/time group at its instant releases (R229). -/
theorem countTime_releases {s : State} {g e : Nat} (hm : effMode s g = 2) (hi : couchInstant s g = some e) (he : e ≤ now s) (hh : (couchOf s g).held ≠ 0) :
    Released g (couchOf s g).window s (couchDecide s g none) := by
  have hd : countTimeDecision s g = couchRelease s g := by
    cases hf : oldestHeld s g with
    | none =>
      rw [couchInstant, hf] at hi
      exact absurd hi.symm (Option.some_ne_none e)
    | some f =>
      rw [couchInstant, hf] at hi
      unfold countTimeDecision
      dsimp only
      rw [if_neg hh, hf]
      dsimp only
      refine if_pos ?_
      have hi := Option.some.inj hi
      by_cases h0 : (couchOf s g).timeMax = 0
      · rw [if_pos h0] at hi
        rw [decide_eq_true (show f.deadline ≤ now s by omega), Bool.or_true]
      · rw [if_neg h0] at hi
        rcases Nat.le_total f.deadline (f.time + 8 * (couchOf s g).timeMax.toNat) with h | h
        · rw [decide_eq_true (show f.deadline ≤ now s by omega), Bool.or_true]
        · rw [decide_eq_true (show f.time + 8 * (couchOf s g).timeMax.toNat ≤ now s by omega), decide_eq_true h0]
          simp
  unfold couchDecide
  dsimp only
  rw [hm, if_neg (by decide), if_pos rfl, hd]
  exact (couchRelease_released s g).couchCalendar

/-! ### The instants -/

theorem holdoffWindowEnd_due {s : State} {g : BitVec 12} (hc : calm s = true) (hm : s.md.mode ≠ .unformed) (hf : s.flt.fatal = none)
    (hch : (couchOf s g.toNat).changes = []) {e : Nat} (hw : (couchOf s g.toNat).window = some e) (he : e ≤ now s) :
    exec (.holdoffWindowEnd g) s = .next (couchDecide (noteBusy s) g.toNat none) := by
  refine congrArg Host.Outcome.next ((if_pos (by rw [awake_of_calm hc, decide_eq_true hm]; rfl)).trans ((unlessFatal_of_none hf _).trans ?_))
  rw [if_pos (by simp [windowDue, hw, he]), activity_of_calm hc false]
  exact couchDecision_of_none (s := noteBusy s) hch none

theorem couchTimeLimit_due {s : State} {g : BitVec 12} (hc : calm s = true) (hm : s.md.mode ≠ .unformed) (hf : s.flt.fatal = none)
    (hch : (couchOf s g.toNat).changes = []) {e : Nat} (hi : couchInstant s g.toNat = some e) (he : e ≤ now s) (hcal : calCouch g.toNat ∈ s.vs.calendar) :
    exec (.couchTimeLimit g) s = .next (couchDecide (noteBusy s) g.toNat none) := by
  refine congrArg Host.Outcome.next ((if_pos (by rw [awake_of_calm hc, decide_eq_true hm]; rfl)).trans ((unlessFatal_of_none hf _).trans ?_))
  have hany : s.vs.calendar.any (· = calCouch g.toNat) = true := List.any_eq_true.mpr ⟨_, hcal, decide_eq_true rfl⟩
  rw [if_pos (by rw [hany]; simp [limitDue, hi, he]), activity_of_calm hc false]
  exact couchDecision_of_none (s := noteBusy s) hch none

end Sys2Proof.Machine

namespace Sys2Proof

open Sys2Proof.Machine

/-- Settles O31: the instant is due or not, and a decision in either mode releases. -/
theorem couchReleasesAtItsInstant : Obligations.CouchReleasesAtItsInstant := by
  intro s g hc hm hch
  have hgate : (awake s && decide (s.md.mode ≠ .unformed)) = true := by rw [awake_of_calm hc, decide_eq_true hm]; rfl
  refine ⟨fun hf => ⟨?_, ?_⟩, fun hf => ⟨fun e heff hw he => ⟨fun hh => ?_, fun hh => ?_⟩, fun e hw he => ?_, fun e heff hi he hcal hh => ?_⟩⟩
  · exact congrArg Host.Outcome.next ((if_pos hgate).trans (unlessFatal_of_fatal hf _))
  · exact congrArg Host.Outcome.next ((if_pos hgate).trans (unlessFatal_of_fatal hf _))
  · obtain ⟨h1, h2, h3, h4, h5, h6, h7, h8⟩ := holdoff_chains (s := noteBusy s) (g := g.toNat) heff hw he hh
    exact ⟨_, holdoffWindowEnd_due hc hm hf hch hw he, h1, h2, h3, h4, h5, h6, h7, h8⟩
  · exact ⟨_, holdoffWindowEnd_due hc hm hf hch hw he, holdoff_closes (s := noteBusy s) heff hw he hh⟩
  · refine congrArg Host.Outcome.next ((if_pos hgate).trans ((unlessFatal_of_none hf _).trans (if_neg ?_)))
    simp [windowDue, hw, Nat.not_le.mpr he]
  · obtain ⟨h1, h2, h3, h4, h5, h6, h7, h8⟩ := countTime_releases (s := noteBusy s) (g := g.toNat) heff hi he hh
    exact ⟨_, couchTimeLimit_due hc hm hf hch hi he hcal, h1, h2, h3, h4, h5, h6, h7, h8⟩

end Sys2Proof

end
section
/-! PROOF. Batches and watchdogs in time (R212, R216, R219 to R221, R240). -/

namespace Sys2Proof.Machine

/-! ### What doorbells leave -/

/-- A target without what its doorbells and its watchdog's start change. -/
def bellRest (g : Tgt) : Tgt := { g with wdog := none, maxResend := 0, lastDb := 0, dbOwed := false }

/-- The state without what doorbells change, and the rest of every target. -/
def bellView (s : State) : State × (Nat → Tgt) :=
  ({ s with ts := { s.ts with targets := [], dirty := [] }, ar := { s.ar with bells := [], flight := [] } }, fun k => bellRest (tgtOf s k))

theorem tgtPut_bellView {s : State} {t : Nat} {g : Tgt} (hg : bellRest g = bellRest (tgtOf s t)) : bellView (tgtPut s t g) = bellView s := by
  have htgt : (fun k => bellRest (tgtOf (tgtPut s t g) k)) = fun k => bellRest (tgtOf s k) := by
    funext k
    by_cases hk : k = t
    · rw [hk, tgtOf_tgtPut_same, hg]
    · rw [tgtOf_tgtPut_ne s g hk]
  exact congrArg (Prod.mk _) htgt

theorem bellSent_bellView (s : State) (t : Nat) : bellView (bellSent s t) = bellView s := tgtPut_bellView (by dsimp only; split <;> rfl)

theorem pumpBells_bellView (n : Nat) : ∀ s : State, bellView (pumpBells n s) = bellView s := by
  induction n with
  | zero => exact fun s => rfl
  | succ k ih =>
    intro s
    unfold pumpBells
    split
    · dsimp only
      split
      · exact (ih _).trans rfl
      · split
        · rfl
        · exact (ih _).trans ((bellSent_bellView ..).trans rfl)
    · rfl

theorem sendBell_bellView (s : State) (t : Nat) : bellView (sendBell s t) = bellView s := by
  unfold sendBell
  dsimp only
  split
  · rfl
  · split
    · exact tgtPut_bellView (by rfl)
    · exact (pumpBells_bellView ..).trans rfl

/-! ### Local ring memory -/

theorem Logged.lmem {s t : State} (h : Logged s t) : t.ts.lmem = s.ts.lmem := congrArg TargetStore.lmem h.ts

theorem roundCompare_ts (s : State) (h : BitVec 24) (check : PlaneCheck) : (roundCompare s h check).1.ts = s.ts := by
  have hc (x : State) (hx : x.ts = s.ts) (src : BitVec 8) (arg : BitVec 24) (inj : Bool) : (corrected x src arg inj).ts = s.ts :=
    (congrArg State.ts (corrected_offJournal x src arg inj :) :).trans hx
  unfold roundCompare
  dsimp only
  split
  · split <;> rfl
  · split
    · rfl
    · split
      · exact hc (injectSpent s) rfl ..
      · split
        · rfl
        · split
          · rfl
          · cases check with
            | retryAgrees => exact hc s rfl ..
            | agree | residueError | disagree => rfl

theorem enqueue_lmem (s : State) (h : Nat) : (enqueue s h).ts.lmem = s.ts.lmem := by
  unfold enqueue
  split <;> rfl

theorem outcomeGather_lmem (s : State) (h : Nat) (ok : Bool) : (outcomeGather s h ok).ts.lmem = s.ts.lmem := enqueue_lmem ..

theorem acceptVec_lmem (s : State) (h : Nat) : (acceptVec s h).ts.lmem = s.ts.lmem := by
  unfold acceptVec
  dsimp only
  split <;> rfl

theorem outcomeAt_lmem (s : State) (h : Nat) (ok : Bool) : (outcomeAt s h ok acceptVec).ts.lmem = s.ts.lmem := by
  have hr := congrArg TargetStore.lmem (roundCompare_ts s (BitVec.ofNat 24 h) .agree)
  unfold outcomeAt
  dsimp only
  split
  · exact outcomeGather_lmem ..
  · split
    · exact (acceptVec_lmem ..).trans hr
    · exact (outcomeGather_lmem ..).trans hr

theorem addDelivered_lmem (s : State) (h t : Nat) : (addDelivered s h t).ts.lmem = s.ts.lmem := by
  unfold addDelivered
  split <;> rfl

theorem acceptOne_lmem (t : Nat) (s : State) (h : Nat) : (acceptOne t s h).ts.lmem = s.ts.lmem := by
  have ho := outcomeAt_lmem s h true
  unfold acceptOne
  dsimp only
  split
  · exact (Logged.fetchVte ..).lmem.trans ((addDelivered_lmem ..).trans ho)
  · exact (addDelivered_lmem ..).trans ho

theorem wdogFix_lmem (s : State) (t : Nat) : (wdogFix s t).ts.lmem = s.ts.lmem := by
  unfold wdogFix
  dsimp only
  split <;> split <;> rfl

theorem acceptRecs_lmem (s : State) (t : Nat) (hs : List Nat) : (acceptRecs s t hs).ts.lmem = s.ts.lmem :=
  (wdogFix_lmem ..).trans (forEach_view (v := fun x => x.ts.lmem) (acceptOne_lmem t) hs s)

theorem issueRec_lmem (t issue : Nat) (s : State) (o : Out) : (issueRec t issue s o).ts.lmem = s.ts.lmem := by
  have hl : (lateRec s t o issue).ts.lmem = s.ts.lmem := by
    unfold lateRec
    split
    · exact (Logged.jnlRated ..).lmem
    · rfl
  have hc (x : State) : (coalRec x o).ts.lmem = x.ts.lmem := by
    unfold coalRec
    split <;> rfl
  have hs (x : State) : (strobe x).ts.lmem = x.ts.lmem := by
    unfold strobe
    split <;> rfl
  exact (hs _).trans ((hc _).trans hl)

theorem issuedRecs_lmem (s : State) (w : OpenWrite) : (issuedRecs s w).ts.lmem = s.ts.lmem :=
  forEach_view (v := fun x => x.ts.lmem) (issueRec_lmem w.target.toNat (now s)) ..

/-- The close of a write to a local ring puts its bytes at TAIL, and nothing else in local ring memory (R211). -/
theorem closeWrite_local_lmem {s : State} {w : OpenWrite} (ho : s.ar.open_ = some w) (hr : tdReloading s w.target.toNat = false)
    (hl : isLocal w.target.toNat = true) :
    (closeWrite s).ts.lmem = Memory.writeBytes s.ts.lmem ((tgtOf s w.target.toNat).baseLo.toNat + 32 * (tgtOf s w.target.toNat).tail.toNat)
      (writeBytes s (tgtOf s w.target.toNat) w.recs 0 (now s)) := by
  have hi := issuedRecs_lmem s w
  simp only [closeWrite, ho, hr, hl, if_true, Bool.false_eq_true, if_false]
  refine (acceptRecs_lmem ..).trans ?_
  exact congrArg (Memory.writeBytes · _ _) hi

theorem length_writeBytes (s : State) (g : Tgt) (issue : Nat) : ∀ (recs : List Out) (i : Nat), (writeBytes s g recs i issue).length = 32 * recs.length
  | [], _ => rfl
  | o :: r, i => by
    have ho (key : BitVec 128) (seq : Word) (even : Bool) : (recBytes key o seq issue even).length = 32 := rfl
    rw [writeBytes, List.length_append, ho, length_writeBytes s g issue r, List.length_cons]
    omega

/-! ### The end of a batch -/

theorem batchEnd_local {s : State} {t : Nat} (hl : isLocal t = true) {b : Batch} (hb : (tgtOf s t).batch = some b) :
    batchEnd s t = tgtPut (closeWriteOf s t) t { tgtOf (closeWriteOf s t) t with batch := none } := by
  unfold batchEnd
  rw [hb]
  dsimp only
  rw [hl]
  rfl

theorem tgtOf_bellView {s t : State} (h : bellView t = bellView s) (k : Nat) : bellRest (tgtOf t k) = bellRest (tgtOf s k) :=
  congrFun (congrArg Prod.snd h) k

/-- A batch that ends is gone from its target. -/
theorem batchEnd_batch (s : State) (t : Nat) : (tgtOf (batchEnd s t) t).batch = none := by
  unfold batchEnd
  split
  · next h => exact h
  · dsimp only
    split
    · refine (congrArg Tgt.batch (tgtOf_bellView (sendBell_bellView ..) t) :).trans ?_
      rw [tgtOf_tgtPut_same]
      rfl
    · rw [tgtOf_tgtPut_same]

theorem batchEnd_lmem_of_none {s : State} (ho : s.ar.open_ = none) (t : Nat) : (batchEnd s t).ts.lmem = s.ts.lmem := by
  have hc : closeWriteOf s t = s := by
    unfold closeWriteOf
    rw [ho]
  unfold batchEnd
  split
  · rfl
  · dsimp only
    rw [hc]
    split
    · exact (congrArg (fun v => v.1.ts.lmem) (sendBell_bellView ..) :)
    · rfl

/-- A batch's timeout, where no change waits: the batch ends, and fences are tested (R212). -/
theorem batchTimeout_ends {s : State} {x : BitVec 16} (ha : awake s = true) (hen : s.md.engineEn = true) (hw : noWaits s = true)
    (hd : batchDue s x.toNat = true) :
    ∃ t, exec (.batchTimeout x) s = .next t ∧ offUnits t = offUnits (batchEnd s x.toNat) ∧ t.md = s.md ∧ t.ctl = s.ctl ∧ t.tm = s.tm := by
  have hv := batchEnd_streamView s x.toNat
  have ho : offStreams (batchEnd s x.toNat) = offStreams s := congrArg Prod.fst hv
  have hch : ∀ k, (tgtOf (batchEnd s x.toNat) k).changes = [] := fun k =>
    (congrArg Tgt.changes (congrFun (congrArg (·.2.2) hv) k) :).trans (tgtOf_changes_of_noWaits hw k)
  have hg : (batchEnd s x.toNat).ts.groups = s.ts.groups := (congrArg (fun v => v.ts.groups) ho :)
  have hc : (batchEnd s x.toNat).ts.couches = s.ts.couches := (congrArg (fun v => v.ts.couches) ho :)
  have hw' := hw
  simp only [noWaits, Bool.and_eq_true, List.all_eq_true, List.isEmpty_iff] at hw'
  have hset : settleAll (batchEnd s x.toNat) = fenceAll (batchEnd s x.toNat) :=
    settleAll_of_changesNone hch (by rw [hg]; exact hw'.1.2) (by rw [hc]; exact hw'.2)
  have hf := fenceAll_offUnits (batchEnd s x.toNat)
  have hmd : (fenceAll (batchEnd s x.toNat)).md = s.md := (congrArg State.md hf :).trans (congrArg State.md ho :)
  refine ⟨_, congrArg Host.Outcome.next ((if_pos (by rw [ha, hd]; rfl)).trans ((congrArg engineSettle hset).trans
    (engineSettle_of_engineEn (by rw [hmd]; exact hen)))), hf, hmd, ?_, ?_⟩
  · exact (congrArg State.ctl hf :).trans (congrArg State.ctl ho :)
  · exact (congrArg State.tm hf :).trans (congrArg State.tm ho :)

/-! ### The watchdog -/

theorem wdogExpire_resends {s : State} {t : Nat} (h : (tgtOf s t).maxResend = 0 ∨ (tgtOf s t).resend < (tgtOf s t).maxResend.toNat) :
    let x := wdogExpire s t
    (tgtOf x t).resend = (tgtOf s t).resend + 1 ∧ (tgtOf x t).stalled = (tgtOf s t).stalled ∧ x.ts.lmem = s.ts.lmem ∧ x.vs = s.vs ∧ x.md = s.md
      ∧ x.ctl = s.ctl ∧ x.tm = s.tm := by
  intro x
  have hx : x = sendBell (tgtPut s t { wdogStart s (tgtOf s t) with resend := (tgtOf s t).resend + 1 }) t := by
    refine if_neg ?_
    rcases h with h | h
    · simp [h]
    · simp [Nat.not_le.mpr h]
  have hv := sendBell_bellView (tgtPut s t { wdogStart s (tgtOf s t) with resend := (tgtOf s t).resend + 1 }) t
  have hg := tgtOf_bellView hv t
  rw [tgtOf_tgtPut_same] at hg
  rw [hx]
  exact ⟨(congrArg Tgt.resend hg :), (congrArg Tgt.stalled hg :), (congrArg (fun v => v.1.ts.lmem) hv :), (congrArg (fun v => v.1.vs) hv :),
    (congrArg (fun v => v.1.md) hv :), (congrArg (fun v => v.1.ctl) hv :), (congrArg (fun v => v.1.tm) hv :)⟩

theorem wdogExpire_stalls {s : State} {t : Nat} (h0 : (tgtOf s t).maxResend ≠ 0) (h : (tgtOf s t).maxResend.toNat ≤ (tgtOf s t).resend) :
    let x := wdogExpire s t
    (tgtOf x t).stalled = true ∧ (tgtOf x t).wdog = none ∧ x.ts.lmem = s.ts.lmem ∧ x.vs = s.vs ∧ x.ar = s.ar ∧ x.md = s.md ∧ x.ctl = s.ctl ∧ x.tm = s.tm := by
  intro x
  obtain ⟨y, hl, hy⟩ : ∃ y, Logged y x ∧ y = tgtPut s t { tgtOf s t with stalled := true, wdog := none } := by
    refine ⟨_, ?_, rfl⟩
    show Logged _ (if _ then stall s t else _)
    rw [if_pos (by rw [decide_eq_true h0, decide_eq_true h]; rfl)]
    unfold stall
    dsimp only
    split
    · exact .refl _
    · exact Logged.jnl ..
  have hg : tgtOf x t = { tgtOf s t with stalled := true, wdog := none } := (hl.tgtOf t).trans (by rw [hy, tgtOf_tgtPut_same])
  rw [hg]
  subst hy
  exact ⟨rfl, rfl, hl.lmem, hl.vs, hl.ar, hl.md, hl.ctl, hl.tm⟩

end Sys2Proof.Machine

namespace Sys2Proof

open Sys2Proof.Machine

/-- Settles O29: a batch ends by its close and its bytes, and a watchdog by its count. -/
theorem batchEndsAndWatchdogActs : Obligations.BatchEndsAndWatchdogActs := by
  intro s x
  refine ⟨fun ha hen hw hd => ?_, fun b hb hlt => ?_, fun hc hd => ⟨fun h => ?_, fun h0 h => ?_⟩, fun hd => ?_⟩
  · obtain ⟨t, hx, hoff, hmd, hctl, htm⟩ := batchTimeout_ends ha hen hw hd
    have hts : t.ts = (batchEnd s x.toNat).ts := (congrArg State.ts hoff :)
    refine ⟨⟨t, hx, ?_, hmd, hctl, htm⟩, fun ho => ⟨t, hx, ?_⟩, fun w ho hwx hl hr => ?_⟩
    · rw [show tgtOf t = tgtOf (batchEnd s x.toNat) from (congrArg tgtOf hoff :)]
      exact batchEnd_batch s x.toNat
    · rw [hts]
      exact batchEnd_lmem_of_none ho x.toNat
    · subst hwx
      intro base
      obtain ⟨b, hb⟩ : ∃ b, (tgtOf s w.target.toNat).batch = some b := by
        cases hb : (tgtOf s w.target.toNat).batch with
        | none => simp [batchDue, hb] at hd
        | some b => exact ⟨b, rfl⟩
      have hcw : closeWriteOf s w.target.toNat = closeWrite s := by
        unfold closeWriteOf
        rw [ho]
        exact if_pos rfl
      have hend := batchEnd_local hl hb
      rw [hcw] at hend
      have hopen := congrArg (·.2.1) (closeWrite_local_writeSide ho hr hl)
      have hlm := closeWrite_local_lmem ho hr hl
      have hlen := length_writeBytes s (tgtOf s w.target.toNat) (now s) w.recs 0
      have htl : t.ts.lmem = Memory.writeBytes s.ts.lmem base (writeBytes s (tgtOf s w.target.toNat) w.recs 0 (now s)) := by
        rw [hts, hend]
        exact hlm
      refine ⟨t, hx, ?_, fun a h => ?_, fun hcan i hi => ?_⟩
      · exact (congrArg (fun v => v.ar.open_) hoff :).trans (by rw [hend]; exact hopen)
      · rw [htl]
        exact Memory.read_writeBytes_out (by rw [hlen]; exact h)
      · rw [htl]
        exact Memory.read_writeBytes_in hcan (by rw [hlen]; exact hi)
  · refine congrArg Host.Outcome.next (if_neg ?_)
    have hd : batchDue s x.toNat = false := by
      simp only [batchDue, hb, decide_eq_false_iff_not]
      exact Nat.not_le.mpr hlt
    rw [hd, Bool.and_false]
    exact Bool.false_ne_true
  · obtain ⟨h1, h2, h3, h4, h5, h6, h7⟩ := wdogExpire_resends (s := noteBusy s) (t := x.toNat) h
    refine ⟨_, congrArg Host.Outcome.next ((if_pos (by rw [awake_of_calm hc, hd]; rfl)).trans (congrArg (wdogExpire · x.toNat) (activity_of_calm hc false))),
      h1, h2, h3, h4, h5, h6, h7⟩
  · obtain ⟨h1, h2, h3, h4, h5, h6, h7, h8⟩ := wdogExpire_stalls (s := noteBusy s) (t := x.toNat) h0 h
    refine ⟨_, congrArg Host.Outcome.next ((if_pos (by rw [awake_of_calm hc, hd]; rfl)).trans (congrArg (wdogExpire · x.toNat) (activity_of_calm hc false))),
      h1, h2, h3, h4, h5, h6, h7, h8⟩
  · exact congrArg Host.Outcome.next (if_neg (by rw [hd, Bool.and_false]; exact Bool.false_ne_true))

end Sys2Proof

end
section
/-! PROOF. The writes of a target window, awake and asleep (R149, R157, R160, R175, R176, R200, R217, R290). -/

namespace Sys2Proof.Machine

/-! ### PSTATE -/

/-- PSTATE of every target. -/
def pstates (s : State) : Nat → BitVec 2 := fun k => (tgtOf s k).pstate

theorem pstates_congr {s t : State} (ht : t.ts.targets = s.ts.targets) (hf : t.fu = s.fu) : pstates t = pstates s := by
  unfold pstates tgtOf
  rw [ht, hf]

theorem pstates_ite {p : Prop} [Decidable p] {s x y : State} (hx : pstates x = pstates s) (hy : pstates y = pstates s) :
    pstates (if p then x else y) = pstates s := by
  split
  · exact hx
  · exact hy

theorem Logged.pstates {s t : State} (h : Logged s t) : pstates t = pstates s := pstates_congr (congrArg TargetStore.targets h.ts) h.fu

theorem pstates_of_streamView {s t : State} (h : streamView t = streamView s) : pstates t = pstates s :=
  funext fun k => (congrArg Tgt.pstate (congrFun (congrArg (·.2.2) h) k) :)

theorem tgtPut_pstates {s : State} {t : Nat} {g : Tgt} (hg : g.pstate = (tgtOf s t).pstate) : pstates (tgtPut s t g) = pstates s := by
  funext k
  show (tgtOf (tgtPut s t g) k).pstate = _
  by_cases hk : k = t
  · rw [hk, tgtOf_tgtPut_same, hg]
    rfl
  · rw [tgtOf_tgtPut_ne s g hk]
    rfl

theorem eaPut_pstates (s : State) (u : EaId) (e : EaUnit) : pstates (eaPut s u e) = pstates s := by cases u <;> rfl

theorem eaRaise_pstates (s : State) (u : EaId) (m : BitVec 24) : pstates (eaRaise s u m) = pstates s := (eaPut_pstates ..).trans rfl

theorem dcPut_pstates (s : State) (p : Party) (d : PartyUnit) : pstates (dcPut s p d) = pstates s := by cases p <;> rfl

theorem propDone_pstates (s : State) (p : Party) (ok : Bool) : pstates (propDone s p ok) = pstates s := by
  unfold propDone
  dsimp only
  split
  · rfl
  · refine (Logged.jnl ..).pstates.trans ?_
    exact Eq.trans (b := pstates (propEnd s p)) (dcPut_pstates ..) (dcPut_pstates ..)

theorem changeReport_pstates (s : State) (c : Change) (ok : Bool) : pstates (changeReport s c ok) = pstates s := by
  unfold changeReport
  split
  · exact propDone_pstates ..
  · next u _ =>
    have h : pstates (eaRaise (eaPut s u { eaOf s u with busy := none }) u (bit true (if ok then eaDone else eaRefused))) = pstates s :=
      (eaRaise_pstates ..).trans (eaPut_pstates ..)
    dsimp only
    split
    · exact h
    · exact h

theorem changeRefused_pstates (s : State) (c : Change) (kind i : Nat) : pstates (changeRefused s c kind i) = pstates s :=
  (changeReport_pstates ..).trans (entryReject_logged ..).pstates

theorem clearUnreach_pstates (s : State) (t : Nat) (always : Bool) : pstates (clearUnreach s t always) = pstates s := by
  have h : pstates (wdogFix (tgtPut s t { tgtOf s t with unreach := false, hostUnreach := false, dbOwed := false }) t) = pstates s :=
    (pstates_of_streamView (wdogFix_streamView ..)).trans (tgtPut_pstates rfl)
  unfold clearUnreach
  dsimp only
  split
  · exact (pstates_of_streamView (sendBell_streamView ..)).trans h
  · exact h

theorem tdTake_pstate (s : State) (t : Nat) (c : Caller) (g : Tgt) (w : Words8) : (tdTake s t c g w).pstate = g.pstate := by
  unfold tdTake
  cases c with
  | tenant n => dsimp only; split <;> rfl
  | mgmt => dsimp only; split <;> rfl
  | party m => rfl

theorem tdInstall_pstates {s : State} {t : Nat} (g : Tgt) {n : Tgt} (hn : n.pstate = (tgtOf s t).pstate) : pstates (tdInstall s t g n) = pstates s := by
  have h1 : pstates (tgtPut s t (if ringMoves t g n then ringRestart n else n)) = pstates s := tgtPut_pstates (by split <;> exact hn)
  unfold tdInstall
  dsimp only
  generalize tgtPut s t (if ringMoves t g n then ringRestart n else n) = s1 at h1 ⊢
  have h2 : pstates (if g.enable && !n.enable then batchEnd s1 t else s1) = pstates s := by
    split
    · exact (pstates_of_streamView (batchEnd_streamView ..)).trans h1
    · exact h1
  generalize (if g.enable && !n.enable then batchEnd s1 t else s1) = s2 at h2 ⊢
  refine (pstates_congr rfl rfl).trans ((Logged.apRequest ..).pstates.trans ?_)
  split
  · exact (clearUnreach_pstates ..).trans h2
  · exact (pstates_of_streamView (wdogFix_streamView ..)).trans h2

theorem tdApply_pstates (s : State) (t : Nat) (c : Change) : pstates (tdApply s t c) = pstates s := by
  refine pstates_ite ((changeReport_pstates ..).trans (tdInstall_pstates _ ?_)) (changeRefused_pstates ..)
  cases c.words with
  | none => rfl
  | some w => exact tdTake_pstate ..

theorem tdBoundary_pstates (k : Nat) : ∀ (s : State) (t : Nat), pstates (tdBoundary k s t) = pstates s := by
  induction k with
  | zero => exact fun _ _ => rfl
  | succ n ih =>
    intro s t
    unfold tdBoundary
    split
    · rfl
    · split
      · rfl
      · exact (ih ..).trans ((tdApply_pstates ..).trans (tgtPut_pstates rfl))

theorem groupApply_pstates (s : State) (i : Nat) (c : Change) : pstates (groupApply s i c) = pstates s := by
  exact pstates_ite ((changeReport_pstates ..).trans ((Logged.apRequest ..).pstates.trans rfl)) (changeRefused_pstates ..)

theorem groupBoundary_pstates (k : Nat) : ∀ (s : State) (g : Nat), pstates (groupBoundary k s g) = pstates s := by
  induction k with
  | zero => exact fun _ _ => rfl
  | succ n ih =>
    intro s g
    unfold groupBoundary
    split
    · rfl
    · exact (ih ..).trans ((groupApply_pstates ..).trans rfl)

theorem couchCalendar_pstates (s : State) (g : Nat) : pstates (couchCalendar s g) = pstates s := by
  obtain ⟨c, w, he⟩ := couchCalendar_eq s g
  rw [he]
  rfl

theorem couchApply_pstates (s : State) (g : Nat) (c : Change) : pstates (couchApply s g c) = pstates s := by
  have hch (n : Couch) : pstates (couchChange s g n) = pstates s := by
    unfold couchChange
    dsimp only
    split <;> exact (couchCalendar_pstates ..).trans rfl
  refine pstates_ite ((changeReport_pstates ..).trans ?_) (changeRefused_pstates ..)
  exact pstates_ite ((entryReject_logged ..).pstates.trans ((Logged.apRequest ..).pstates.trans (hch _))) ((Logged.apRequest ..).pstates.trans (hch _))

theorem couchBoundary_pstates (k : Nat) : ∀ (s : State) (g : Nat), pstates (couchBoundary k s g) = pstates s := by
  induction k with
  | zero => exact fun _ _ => rfl
  | succ n ih =>
    intro s g
    unfold couchBoundary
    split
    · rfl
    · exact (ih ..).trans ((couchApply_pstates ..).trans rfl)

/-- Boundaries leave PSTATE, which is not the configuration's. -/
theorem settleAll_pstates (s : State) : pstates (settleAll s) = pstates s := by
  have hg (x : State) (g : Nat) : pstates (groupTry x g) = pstates x := by
    unfold groupTry
    split
    · exact groupBoundary_pstates ..
    · rfl
  have hc (x : State) (g : Nat) : pstates (couchTry x g) = pstates x := by
    unfold couchTry
    split
    · exact couchBoundary_pstates ..
    · rfl
  exact (congrArg pstates (fenceAll_offUnits _) :).trans ((forEach_view hc ..).trans ((forEach_view hg ..).trans
    (forEach_view (fun x t => tdBoundary_pstates _ x t) ..)))

/-! ### A reached write, awake -/

theorem portDone_eq (s : State) (p : Port) : ∃ io, portDone s p = { s with io := io } := by
  cases p <;> exact ⟨_, rfl⟩

theorem portWrite_reached {s : State} (hc : calm s = true) {p : Port} (hp : p ≠ .sec) (addr : BitVec 22) (f : State → State) :
    portWrite s p true addr f = f (noteBusy s) := by
  cases p with
  | mgmt => rw [portWrite_mgmt (awake_of_calm hc), activity_of_calm hc false]
  | tenant n => rw [portWrite_tenant (awake_of_calm hc), activity_of_calm hc false]
  | sec => exact absurd rfl hp

/-- Awake, a write that sleep would queue acts at once; its answer is a port's alone. -/
theorem queuedAt_reached {s : State} (hc : calm s = true) (hd : portsDead s = false) {p : Port} (hp : p ≠ .sec) {x : BitVec 16}
    (hr : targetReach s p x.toNat = true) (off : Nat) (q : Queued) :
    ∃ io, (queuedAt s p fun s => queuedWrite s p x off q) = { applyQueued (noteBusy s) q with io := io } := by
  have hw : queuedWrite s p x off q = applyQueued (noteBusy s) q := by
    unfold queuedWrite
    rw [sleeping_of_awake (awake_of_calm hc), Bool.and_false, Bool.false_and, if_neg Bool.false_ne_true, hr]
    exact portWrite_reached hc hp ..
  rw [queuedAt, portServe_of_answers hd, hw]
  unfold doneUnlessHeld
  split
  · exact portDone_eq ..
  · exact ⟨(applyQueued (noteBusy s) q).io, rfl⟩

/-! ### What each write does -/

theorem enqueue_rest (s : State) (h : Nat) : ∃ q, enqueue s h = { s with vs := { s.vs with queue := q } } := by
  unfold enqueue
  split <;> exact ⟨_, rfl⟩

theorem wdogFix_bellView (s : State) (t : Nat) : bellView (wdogFix s t) = bellView s := by
  unfold wdogFix
  dsimp only
  split <;> split
  · rfl
  · exact tgtPut_bellView (by rfl)
  · exact tgtPut_bellView (by rfl)
  · rfl

/-- A target as a HEAD write takes it: a local one is disarmed (R63, R217). -/
def headBase (s : State) (t : Nat) : Tgt := if isLocal t then { tgtOf s t with arm := false } else tgtOf s t

theorem headBase_eq (s : State) (t : Nat) : ∃ a, headBase s t = { tgtOf s t with arm := a } := by
  unfold headBase
  split
  · exact ⟨_, rfl⟩
  · exact ⟨(tgtOf s t).arm, rfl⟩

theorem applyHead_eq (s : State) (t : Nat) (w : Word) : applyHead s t w =
    if headOk t (tgtOf s t) (fld w 0 20) (!w.getLsbD 20) then
      if decide (fld w 0 20 = (tgtOf s t).head) && decide ((!w.getLsbD 20) = (tgtOf s t).headPar) then tgtPut s t (headBase s t)
      else wdogFix (tgtPut s t { headBase s t with head := fld w 0 20, headPar := !w.getLsbD 20, stalled := false, resend := 0, wdog := none }) t
    else tgtPut s t (headBase s t) := by
  obtain ⟨a, ha⟩ := headBase_eq s t
  have h1 : headOk t (headBase s t) = headOk t (tgtOf s t) := by rw [ha]; rfl
  have h2 : (headBase s t).head = (tgtOf s t).head := by rw [ha]
  have h3 : (headBase s t).headPar = (tgtOf s t).headPar := by rw [ha]
  rw [← h1, ← h2, ← h3]
  rfl

/-- A HEAD write that is accepted moves HEAD alone, of what the ring holds (R200). -/
theorem applyHead_accepted {s : State} {t : Nat} {w : Word} (h : headOk t (tgtOf s t) (fld w 0 20) (!w.getLsbD 20) = true) :
    let x := applyHead s t w
    (tgtOf x t).head = fld w 0 20 ∧ (tgtOf x t).headPar = (!w.getLsbD 20) ∧ (tgtOf x t).tail = (tgtOf s t).tail ∧ (tgtOf x t).seq = (tgtOf s t).seq
      ∧ x.ts.lmem = s.ts.lmem ∧ x.vs = s.vs ∧ x.ctl = s.ctl ∧ x.md = s.md ∧ x.vat = s.vat := by
  intro x
  obtain ⟨a, ha⟩ := headBase_eq s t
  have hx : x = _ := (applyHead_eq s t w).trans (if_pos h)
  rw [ha] at hx
  split at hx
  · next hsame =>
    simp only [Bool.and_eq_true, decide_eq_true_eq] at hsame
    rw [hx, tgtOf_tgtPut_same]
    exact ⟨hsame.1.symm, hsame.2.symm, rfl, rfl, rfl, rfl, rfl, rfl, rfl⟩
  · have hv := wdogFix_bellView (tgtPut s t { tgtOf s t with arm := a, head := fld w 0 20, headPar := !w.getLsbD 20, stalled := false, resend := 0, wdog := none }) t
    have hg := tgtOf_bellView hv t
    rw [tgtOf_tgtPut_same] at hg
    rw [hx]
    exact ⟨(congrArg Tgt.head hg :), (congrArg Tgt.headPar hg :), (congrArg Tgt.tail hg :), (congrArg Tgt.seq hg :), (congrArg (fun v => v.1.ts.lmem) hv :),
      (congrArg (fun v => v.1.vs) hv :), (congrArg (fun v => v.1.ctl) hv :), (congrArg (fun v => v.1.md) hv :), (congrArg (fun v => v.1.vat) hv :)⟩

theorem applyHead_refused {s : State} {t : Nat} {w : Word} (h : headOk t (tgtOf s t) (fld w 0 20) (!w.getLsbD 20) = false) :
    ∃ a, applyHead s t w = tgtPut s t { tgtOf s t with arm := a } := by
  obtain ⟨a, ha⟩ := headBase_eq s t
  exact ⟨a, (applyHead_eq s t w).trans ((if_neg (by rw [h]; exact Bool.false_ne_true)).trans (congrArg (tgtPut s t) ha))⟩

/-- What a rearm of a remote target leaves: the target neither stalled nor resent, the tables and the modes (R217). -/
structure Rearmed (t : Nat) (s u : State) : Prop where
  stalled : (tgtOf u t).stalled = false
  resend : (tgtOf u t).resend = 0
  lmem : u.ts.lmem = s.ts.lmem
  vs : u.vs = s.vs
  ctl : u.ctl = s.ctl
  md : u.md = s.md

theorem Rearmed.of_bellView {t : Nat} {s u v : State} (h : Rearmed t s u) (hv : bellView v = bellView u) : Rearmed t s v := by
  have hg := tgtOf_bellView hv t
  exact ⟨(congrArg Tgt.stalled hg :).trans h.stalled, (congrArg Tgt.resend hg :).trans h.resend, (congrArg (fun v => v.1.ts.lmem) hv :).trans h.lmem,
    (congrArg (fun v => v.1.vs) hv :).trans h.vs, (congrArg (fun v => v.1.ctl) hv :).trans h.ctl, (congrArg (fun v => v.1.md) hv :).trans h.md⟩

theorem Rearmed.tgtPut {t : Nat} {s u : State} (h : Rearmed t s u) {g : Tgt} (hs : g.stalled = (tgtOf u t).stalled) (hr : g.resend = (tgtOf u t).resend) :
    Rearmed t s (tgtPut u t g) :=
  ⟨by rw [tgtOf_tgtPut_same, hs]; exact h.stalled, by rw [tgtOf_tgtPut_same, hr]; exact h.resend, h.lmem, h.vs, h.ctl, h.md⟩

theorem Rearmed.ite {t : Nat} {s u v : State} {p : Prop} [Decidable p] (h : Rearmed t s u) (k : Rearmed t s v) : Rearmed t s (if p then u else v) := by
  split
  · exact h
  · exact k

theorem Rearmed.clearUnreach {t : Nat} {s u : State} (h : Rearmed t s u) (always : Bool) : Rearmed t s (clearUnreach u t always) := by
  have h1 := (h.tgtPut (g := { tgtOf u t with unreach := false, hostUnreach := false, dbOwed := false }) rfl rfl).of_bellView (wdogFix_bellView _ t)
  exact .ite (h1.of_bellView (sendBell_bellView _ t)) h1

theorem applyRearm_remote {s : State} {t : Nat} (hl : isLocal t = false) (mgmt : Bool) : Rearmed t s (applyRearm s t mgmt) := by
  have h1 : Rearmed t s (tgtPut s t { tgtOf s t with stalled := false, resend := 0 }) :=
    ⟨by rw [tgtOf_tgtPut_same], by rw [tgtOf_tgtPut_same], rfl, rfl, rfl, rfl⟩
  unfold applyRearm
  dsimp only
  rw [if_neg (by rw [hl]; exact Bool.false_ne_true)]
  refine Rearmed.of_bellView ?_ (wdogFix_bellView ..)
  have h2 := Rearmed.ite (p := unread t (tgtOf s t) = 0) h1
    (Rearmed.ite (p := (tgtOf s t).batch.isSome = true) (h1.tgtPut (g := { tgtOf (tgtPut s t { tgtOf s t with stalled := false, resend := 0 }) t with rearm := true }) rfl rfl)
      (h1.of_bellView (sendBell_bellView _ t)))
  exact .ite (h2.clearUnreach _) h2

/-- A rearm (R217). -/
theorem applyRearm_shows (s : State) (t : Nat) (mgmt : Bool) :
    Rearmed t s (applyRearm s t mgmt) ∧ (isLocal t = true → (tgtOf (applyRearm s t mgmt) t).arm = true) := by
  cases hl : isLocal t with
  | false => exact ⟨applyRearm_remote hl mgmt, fun h => absurd h Bool.false_ne_true⟩
  | true =>
    have he : applyRearm s t mgmt = tgtPut s t { tgtOf s t with arm := true, stalled := false, resend := 0 } := if_pos hl
    rw [he]
    exact ⟨⟨by rw [tgtOf_tgtPut_same], by rw [tgtOf_tgtPut_same], rfl, rfl, rfl, rfl⟩, fun _ => by rw [tgtOf_tgtPut_same]⟩

/-- A hint sets PSTATE (R176). -/
theorem applyHint_shows (s : State) (t : Nat) (v : BitVec 2) :
    (tgtOf (applyHint s t v) t).pstate = v ∧ (applyHint s t v).ctl = s.ctl ∧ (applyHint s t v).md = s.md ∧ (applyHint s t v).tm = s.tm := by
  let s1 := tgtPut s t { tgtOf s t with pstate := v, graceEnd := if (tgtOf s t).pstate = v then (tgtOf s t).graceEnd else 0 }
  have h1 : pstates s1 t = v := congrArg Tgt.pstate (tgtOf_tgtPut_same ..)
  have hm : streamView (memberSleeps s1 t) = streamView s1 := forEach_view (fun x (e : Nat × Ev) => leaveStream_streamView x e.1) ..
  have hi : Inner noGain (memberSleeps s1 t) (settleAll (memberSleeps s1 t)) := settleAll_inner (Inner.refl _)
  show (tgtOf (if _ then settleAll (memberSleeps s1 t) else s1) t).pstate = v ∧ (if _ then settleAll (memberSleeps s1 t) else s1).ctl = _
    ∧ (if _ then settleAll (memberSleeps s1 t) else s1).md = _ ∧ (if _ then settleAll (memberSleeps s1 t) else s1).tm = _
  split
  · refine ⟨?_, hi.ctl.trans (congrArg (fun v => v.1.ctl) hm :), hi.md.trans (congrArg (fun v => v.1.md) hm :), hi.tm.trans (congrArg (fun v => v.1.tm) hm :)⟩
    exact (congrFun ((settleAll_pstates _).trans (pstates_of_streamView hm)) t).trans h1
  · exact ⟨h1, rfl, rfl, rfl⟩

/-- An EOI is an input of its vector's lane (R157). -/
theorem applyEoi_joins {s : State} {h : Nat} (hh : h < 4096 ∨ (handleSlice s h).isSome = true) (x : BitVec 16) :
    let t := applyEoi s x.toNat h
    (vecOf t h).eois = (vecOf s h).eois ++ [x] ∧ h ∈ t.vs.queue ∧ (∀ k, k ≠ h → vecOf t k = vecOf s k) ∧ t.ts = s.ts ∧ t.ctl = s.ctl ∧ t.md = s.md ∧ t.vat = s.vat := by
  intro t
  have ht : t = enqueue (vecPut s h { vecOf s h with eois := (vecOf s h).eois ++ [BitVec.ofNat 16 x.toNat] }) h :=
    if_pos (by rcases hh with hh | hh <;> simp [hh])
  rw [BitVec.ofNat_toNat, BitVec.setWidth_eq] at ht
  obtain ⟨q, hq⟩ := enqueue_rest (vecPut s h { vecOf s h with eois := (vecOf s h).eois ++ [x] }) h
  have hmem := mem_queue_enqueue (vecPut s h { vecOf s h with eois := (vecOf s h).eois ++ [x] }) h
  refine ⟨?_, by rw [ht]; exact hmem, fun k hk => ?_, by rw [ht, hq]; rfl, by rw [ht, hq]; rfl, by rw [ht, hq]; rfl, by rw [ht, hq]; rfl⟩
  · rw [ht, vecOf_enqueue, vecOf_vecPut_same]
  · rw [ht, vecOf_enqueue, vecOf_vecPut_ne _ _ hk]

theorem getLsbD_masked {n : Nat} (c d m : BitVec n) {k : Nat} (hk : k < n) :
    ((c &&& ~~~m) ||| (d &&& m)).getLsbD k = if m.getLsbD k then d.getLsbD k else c.getLsbD k := by
  simp only [BitVec.getLsbD_or, BitVec.getLsbD_and, BitVec.getLsbD_not, hk, decide_true, Bool.true_and]
  cases m.getLsbD k <;> simp

theorem getLsbD_fld {w : Nat} (v : BitVec w) (lo n : Nat) {k : Nat} (hk : k < n) : (fld v lo n).getLsbD k = v.getLsbD (lo + k) := by
  simp [fld, hk]

/-- The bits that a CPRIO write may change. -/
theorem cprioMask_bits (b : Bool) {k : Nat} (hk : k < 6) :
    (if b then 0x003F else 0xFFFF : BitVec 16).getLsbD k = true ∧ (if b then 0x003F else 0xFFFF : BitVec 16).getLsbD (8 + k) = !b := by
  cases b <;> interval_cases k <;> decide

/-- A masked CPRIO write, bit by bit (R149, R172, R351). -/
theorem applyCprio_bits (s : State) (p : Port) (t : Nat) (w : Word) {k : Nat} (hk : k < 6) :
    (tgtOf (applyCprio s p t w) t).cprio.getLsbD k = (if w.getLsbD (16 + k) then w.getLsbD k else (tgtOf s t).cprio.getLsbD k)
      ∧ (tgtOf (applyCprio s p t w) t).threshold.getLsbD k =
        (if w.getLsbD (24 + k) && !thresholdKept s p t then w.getLsbD (8 + k) else (tgtOf s t).threshold.getLsbD k) := by
  obtain ⟨hlo, hhi⟩ := cprioMask_bits (thresholdKept s p t) hk
  unfold applyCprio
  dsimp only
  rw [tgtOf_tgtPut_same]
  dsimp only
  rw [getLsbD_masked _ _ _ hk, getLsbD_masked _ _ _ hk]
  simp only [getLsbD_fld _ _ _ hk, BitVec.getLsbD_and, getLsbD_fld _ _ _ (show 0 + k < 16 by omega), getLsbD_fld _ _ _ (show 8 + k < 16 by omega)]
  simp only [Nat.zero_add, hlo, hhi, Bool.and_true, show 16 + (8 + k) = 24 + k by omega, and_self]

/-! ### Asleep -/

theorem located_targetAddr (x : BitVec 16) : located (targetAddr x.toNat 0) = true := by
  have hx := x.isLt
  have ha : (targetAddr x.toNat 0).toNat = 0x200000 + 32 * x.toNat := by
    rw [targetAddr, BitVec.toNat_ofNat, Nat.mod_eq_of_lt (by omega), Nat.add_zero]
  unfold located
  rw [ha]
  dsimp only
  rw [if_neg (by omega), if_neg (by omega), decide_eq_true (by omega)]

/-- Asleep, a reached write goes to its queue, and is answered unless it is held (R160, R176, R290). -/
theorem queuedAt_asleep {s : State} (hl : live s = true) (hd : portsDead s = false) (hs : sleeping s = true) {p : Port} {x : BitVec 16}
    (hr : targetReach s p x.toNat = true) (off : Nat) (q : Queued) :
    (queuedAt s p fun s => queuedWrite s p x off q) = doneUnlessHeld s (queueWrite s q) p := by
  rw [queuedAt, portServe_of_answers hd]
  exact congrArg (doneUnlessHeld s · p) (if_pos (by rw [hl, hs, hr]; rfl))

theorem queueOpen_of_room {s : State} {q : List Queued} (hq : q.length < 64) (hh : s.pw.heldWrites = []) : queueOpen s q = true := by
  rw [queueOpen, decide_eq_true (show q.length < queueMax from hq), hh]
  rfl

theorem queueOpen_of_full {s : State} {q : List Queued} (h : 64 ≤ q.length ∨ s.pw.heldWrites ≠ []) : queueOpen s q = false := by
  rcases h with h | h
  · rw [queueOpen, decide_eq_false (show ¬ q.length < queueMax from Nat.not_lt.mpr h), Bool.false_and]
  · rw [queueOpen, List.isEmpty_eq_false_iff.mpr h, Bool.and_false]

/-- A write that its queue takes is answered. -/
theorem queued_answered {s : State} (hl : live s = true) (hd : portsDead s = false) (hs : sleeping s = true) {p : Port} {x : BitVec 16}
    (hr : targetReach s p x.toNat = true) (off : Nat) {q : Queued} {t : State} (hq : queueWrite s q = t) (hh : t.pw.heldWrites = s.pw.heldWrites) :
    (queuedAt s p fun s => queuedWrite s p x off q) = portDone t p := by
  rw [queuedAt_asleep hl hd hs hr, hq]
  exact if_pos (by rw [hh])

/-- An EOI that finds its queue full is held, not answered (R160). -/
theorem queued_held {s : State} (hl : live s = true) (hd : portsDead s = false) (hs : sleeping s = true) {p : Port} {x : BitVec 16}
    (hr : targetReach s p x.toNat = true) (off : Nat) {q : Queued} (hq : queueWrite s q = queueHold s q) :
    (queuedAt s p fun s => queuedWrite s p x off q) = queueHold s q := by
  rw [queuedAt_asleep hl hd hs hr, hq]
  refine if_neg ?_
  have hh : (queueHold s q).pw.heldWrites = s.pw.heldWrites ++ [q] := by
    unfold queueHold wakeSource
    split
    · split
      · rfl
      · split <;> rfl
    · rfl
  rw [hh, List.length_append, List.length_singleton]
  omega

end Sys2Proof.Machine

namespace Sys2Proof

open Sys2Proof.Machine

/-- Settles O33: awake each write acts at once, and asleep it goes to its queue. -/
theorem targetWindowWritesAct : Obligations.TargetWindowWritesAct := by
  refine ⟨fun s p x w hc hd hp hr => ⟨fun hh => ?_, fun hok => ?_, fun hok => ?_, ?_, ?_, ?_⟩,
    fun s p x w hl hd hs hr => ⟨fun hq hh => ?_, fun hf => ?_, fun hq hh => ⟨?_, ?_, ?_⟩, fun n hn => ?_, fun hm => ?_⟩⟩
  · obtain ⟨io, he⟩ := queuedAt_reached hc hd hp hr 4 (.eoi x (fld w 0 24))
    obtain ⟨h1, h2, h3, h4, h5, h6, h7⟩ := applyEoi_joins (s := noteBusy s) hh x
    exact ⟨_, congrArg Host.Outcome.next he, h1, h2, h3, h4, h5, h6, h7⟩
  · obtain ⟨io, he⟩ := queuedAt_reached hc hd hp hr 8 (.head x w)
    obtain ⟨h1, h2, h3, h4, h5, h6, h7, h8, h9⟩ := applyHead_accepted (s := noteBusy s) hok
    exact ⟨_, congrArg Host.Outcome.next he, h1, h2, h3, h4, h5, h6, h7, h8, h9⟩
  · obtain ⟨io, he⟩ := queuedAt_reached hc hd hp hr 8 (.head x w)
    obtain ⟨a, ha⟩ := applyHead_refused (s := noteBusy s) hok
    have he' : exec (.tHead p x w) s = .next { tgtPut (noteBusy s) x.toNat { tgtOf (noteBusy s) x.toNat with arm := a } with io := io } := by
      rw [← ha]
      exact congrArg Host.Outcome.next he
    have hg := tgtOf_tgtPut_same (noteBusy s) x.toNat { tgtOf (noteBusy s) x.toNat with arm := a }
    exact ⟨_, he', (congrArg Tgt.head hg :), (congrArg Tgt.headPar hg :), (congrArg Tgt.stalled hg :), rfl, rfl, rfl⟩
  · obtain ⟨io, he⟩ := queuedAt_reached hc hd hp hr 0x14 (.rearm x (decide (p = .mgmt)))
    obtain ⟨⟨h1, h2, h3, h4, h5, h6⟩, h7⟩ := applyRearm_shows (noteBusy s) x.toNat (decide (p = .mgmt))
    exact ⟨_, congrArg Host.Outcome.next he, h1, h2, h7, h3, h4, h5, h6⟩
  · obtain ⟨io, he⟩ := queuedAt_reached hc hd hp hr 0x0C (.hint x (fld w 0 2))
    obtain ⟨h1, h2, h3, h4⟩ := applyHint_shows (noteBusy s) x.toNat (fld w 0 2)
    exact ⟨_, congrArg Host.Outcome.next he, h1, h2, h3, h4⟩
  · obtain ⟨io, hio⟩ := portDone_eq (applyCprio (noteBusy s) p x.toNat w) p
    have he : exec (.tCprio p x w) s = .next { applyCprio (noteBusy s) p x.toNat w with io := io } := by
      rw [← hio]
      refine congrArg Host.Outcome.next ((writeAt_of_answers hd ..).trans (congrArg (portDone · p) ?_))
      rw [hr]
      exact portWrite_reached hc hp ..
    refine ⟨_, he, fun k hk => (applyCprio_bits (noteBusy s) p x.toNat w hk).1, fun k hk => (applyCprio_bits (noteBusy s) p x.toNat w hk).2,
      fun y hy => tgtOf_tgtPut_ne _ _ hy, rfl, rfl, rfl, rfl, rfl⟩
  · exact congrArg Host.Outcome.next (queued_answered hl hd hs hr 4 (if_pos (queueOpen_of_room hq hh)) rfl)
  · exact congrArg Host.Outcome.next (queued_held hl hd hs hr 4 (if_neg (by rw [queueOpen_of_full hf]; exact Bool.false_ne_true)))
  · exact congrArg Host.Outcome.next (queued_answered hl hd hs hr 0x0C (if_pos (queueOpen_of_room hq hh)) rfl)
  · exact congrArg Host.Outcome.next (queued_answered hl hd hs hr 8 (if_pos (queueOpen_of_room hq hh)) rfl)
  · exact congrArg Host.Outcome.next (queued_answered hl hd hs hr 0x14 (if_pos (queueOpen_of_room hq hh)) rfl)
  · subst hn
    refine congrArg Host.Outcome.next ((writeAt_of_answers hd ..).trans (congrArg (portDone · _) ?_))
    rw [hr]
    simp only [portWrite, hl, hs]
    rfl
  · subst hm
    refine congrArg Host.Outcome.next ((writeAt_of_answers hd ..).trans (congrArg (portDone · _) ?_))
    rw [hr]
    simp only [portWrite, hl, hs, located_targetAddr]
    rfl

end Sys2Proof

end
section
/-! PROOF. The periodic instants, the write-back, and the journal's slots and reader (R126, R131, R180, R243, R336). -/

namespace Sys2Proof.Machine

/-! ### Ticks -/

theorem ticksDue_of_le {s : State} {period last : Nat} (h : now s / period ≤ last) : ticksDue s period last = 0 := Nat.sub_eq_zero_of_le h

theorem ticksDue_of_lt {s : State} {period last : Nat} (h : last < now s / period) : ticksDue s period last ≠ 0 := Nat.sub_ne_zero_of_lt h

/-- What Ivsyn does of itself where it changes nothing. -/
theorem stirring_of_same {f : State → State} {s : State} (h : f s = s) : stirring f s = s := by
  unfold stirring
  rw [h]
  refine if_neg ?_
  cases quiet s <;> simp

/-- The state that a periodic instant finds: as it is, or after activity (R279). -/
theorem stirring_found (f : State → State) (s : State) : ∃ x, stirring f s = f x ∧ x.ts = s.ts ∧ x.vs = s.vs ∧ x.ctl = s.ctl ∧ x.tm = s.tm ∧ x.fu = s.fu
    ∧ (calm s = true → x.md = s.md) := by
  obtain ⟨x, hx, he⟩ := stirring_from f s
  rcases hx with rfl | rfl
  · exact ⟨_, he, rfl, rfl, rfl, rfl, rfl, fun _ => rfl⟩
  · exact ⟨_, he, activity_ts s, activity_vs s, activity_ctl s, activity_tm s, activity_fu s, fun hc => by rw [activity_of_calm hc false]; rfl⟩

/-! ### Wake credits -/

theorem tnOf_tnPut_ne (s : State) {k t : Nat} (x : TenantSt) (h : k ≠ t) : tnOf (tnPut s t x) k = tnOf s k := by simp [tnOf, tnPut, find_put_ne h]

/-- The refill of one slice's tenant, a number of times. -/
def refillSlice (n : Nat) (s : State) (e : Slice) : State :=
  tnPut s e.tenant { tnOf s e.tenant with credits := BitVec.ofNat 16 (min ((tnOf s e.tenant).credits.toNat + n * e.refill) e.bucket) }

theorem forEach_refillSlice_other (n : Nat) {t : Nat} : ∀ (l : List Slice) (s : State), (∀ e ∈ l, e.tenant ≠ t) →
    tnOf (forEach l s (refillSlice n)) t = tnOf s t
  | [], _, _ => rfl
  | e :: l, s, h => (forEach_refillSlice_other n l _ fun e he => h e (List.mem_cons_of_mem _ he)).trans
      (tnOf_tnPut_ne s _ (Ne.symm (h e List.mem_cons_self)))

/-- Each tenant's credits refill once, where no two slices are one tenant's (R180). -/
theorem forEach_refillSlice_credits (n : Nat) (l : List Slice) (s : State) (hn : (l.map fun e => e.tenant).Nodup) {e : Slice} (he : e ∈ l) :
    (tnOf (forEach l s (refillSlice n)) e.tenant).credits = BitVec.ofNat 16 (min ((tnOf s e.tenant).credits.toNat + n * e.refill) e.bucket) := by
  induction l generalizing s with
  | nil => exact absurd he List.not_mem_nil
  | cons a l ih =>
    rw [List.map_cons, List.nodup_cons] at hn
    obtain ⟨ha, hl⟩ := hn
    show (tnOf (forEach l (refillSlice n s a) (refillSlice n)) e.tenant).credits = _
    rcases List.mem_cons.mp he with rfl | he
    · have ho := forEach_refillSlice_other n (t := e.tenant) l (refillSlice n s e) fun b hb h => ha (List.mem_map.mpr ⟨b, hb, h⟩)
      rw [ho, refillSlice, tnOf_tnPut_same]
    · have hne : e.tenant ≠ a.tenant := fun h => ha (List.mem_map.mpr ⟨e, he, h⟩)
      rw [ih _ hl he, refillSlice, tnOf_tnPut_ne s _ hne]

theorem forEach_refillSlice_rest (n : Nat) (l : List Slice) (s : State) :
    ∃ tn, forEach l s (refillSlice n) = { s with ts := { s.ts with tenants := tn } } := by
  induction l generalizing s with
  | nil => exact ⟨s.ts.tenants, rfl⟩
  | cons a l ih =>
    obtain ⟨tn, h⟩ := ih (refillSlice n s a)
    exact ⟨tn, h⟩

theorem creditTick_due {s : State} {f : Furnish} (hf : s.fu.formed = some f) (hd : s.tm.ticks.credit < now s / 1000000) :
    creditTick s = forEach f.slices { s with tm := { s.tm with ticks := { s.tm.ticks with credit := now s / 1000000 } } }
      (refillSlice (now s / 1000000 - s.tm.ticks.credit)) := by
  unfold creditTick
  dsimp only
  rw [if_neg (ticksDue_of_lt hd)]
  unfold creditRefill
  dsimp only
  rw [hf]
  rfl

/-! ### The write-back -/

/-- Entries on chip stand, but for the STATE that they were stored with. -/
def Stored (s t : State) : Prop := ∀ h v, vteOn s h = some v → ∃ n, vteOn t h = some { v with stored := n }

theorem Stored.refl (s : State) : Stored s s := fun _ v h => ⟨v.stored, h⟩

theorem Stored.trans {s t u : State} (h : Stored s t) (k : Stored t u) : Stored s u := fun i v hv => by
  obtain ⟨n, hn⟩ := h i v hv
  exact k i { v with stored := n } hn

theorem Stored.of_vtes {s t : State} (h : t.vs.vtes = s.vs.vtes) : Stored s t := fun i v hv => ⟨v.stored, by rw [vteOn, h]; exact hv⟩

theorem vteStore_stored (s : State) (h : Nat) : Stored s (vteStore s h) := by
  unfold vteStore
  split
  · exact .refl s
  · next v hv =>
    intro k w hw
    have hreq : ∀ k, vteOn (apRequest s (.vteWrite h) true (vteOffset s h) (vteWords v (vteState s h)).toList) k = vteOn s k := fun k =>
      (Logged.apRequest ..).vteOn k
    by_cases hk : k = h
    · subst hk
      obtain rfl : v = w := Option.some.inj (hv.symm.trans hw)
      exact ⟨_, vteOn_vtePut_same ..⟩
    · exact ⟨w.stored, (vteOn_vtePut_ne _ _ hk).trans ((hreq k).trans hw)⟩

/-- What the write-back leaves of vectors, targets and registers. -/
def storeView (s : State) : List (Nat × Vec) × List (Nat × Tgt) × List (Nat × Byte) × CtlRegs × ModeUnit :=
  (s.vs.vecs, s.ts.targets, s.ts.lmem, s.ctl, s.md)

theorem Logged.storeView {s t : State} (h : Logged s t) : storeView t = storeView s := (congrArg Machine.storeView h.same :)

theorem vteStore_storeView (s : State) (h : Nat) : storeView (vteStore s h) = storeView s := by
  unfold vteStore
  split
  · rfl
  · exact ((Logged.apRequest ..).storeView :)

theorem tdStore_storeView (s : State) (t : Nat) : storeView (tdStore s t) = storeView s := ((Logged.apRequest ..).storeView :)

theorem tdStore_vs (s : State) (t : Nat) : (tdStore s t).vs = s.vs := (Logged.apRequest ..).vs

theorem forEach_vteStore_stored : ∀ (l : List Nat) (s : State), Stored s (forEach l s vteStore)
  | [], s => .refl s
  | h :: l, s => (vteStore_stored s h).trans (forEach_vteStore_stored l _)

/-- The write-back leaves no changed entry, and changes none (R131, R169). -/
theorem writeback_shows (s : State) : (writeback s).vs.dirty = [] ∧ (writeback s).ts.dirty = [] ∧ Stored s (writeback s)
    ∧ storeView (writeback s) = storeView s := by
  unfold writeback
  dsimp only
  have h1 := forEach_vteStore_stored ((staleVtes s).foldl insertNat s.vs.dirty) s
  have v1 := forEach_view (v := storeView) vteStore_storeView ((staleVtes s).foldl insertNat s.vs.dirty) s
  generalize forEach ((staleVtes s).foldl insertNat s.vs.dirty) s vteStore = x at h1 v1 ⊢
  have h2 := forEach_view (v := State.vs) tdStore_vs x.ts.dirty { x with vs := { x.vs with dirty := [] } }
  have v2 := forEach_view (v := storeView) tdStore_storeView x.ts.dirty { x with vs := { x.vs with dirty := [] } }
  generalize forEach x.ts.dirty { x with vs := { x.vs with dirty := [] } } tdStore = y at h2 v2 ⊢
  have hv : y.vs.vtes = x.vs.vtes := (congrArg VecStore.vtes h2 :)
  exact ⟨(congrArg VecStore.dirty h2 :), rfl, h1.trans (.of_vtes hv), (v2.trans v1 :)⟩

/-! ### The journal -/

/-- A request that is made is outstanding or waits. -/
theorem mem_apRequest (s : State) (p : Purpose) (write : Bool) (offset : Nat) (data : List Word) :
    ∃ q ∈ ((apRequest s p write offset data).ap.reqs.map fun e => e.2) ++ (apRequest s p write offset data).ap.waiting,
      q.purpose = p ∧ q.write = write ∧ q.offset = offset ∧ q.data = data := by
  unfold apRequest apPut
  split
  · exact ⟨{ apForm s p write offset data [] with since := fabNow s }, by simp, rfl, rfl, rfl, rfl⟩
  · exact ⟨apForm s p write offset data [], by simp, rfl, rfl, rfl, rfl⟩

theorem apRequest_eq (s : State) (p : Purpose) (write : Bool) (offset : Nat) (data : List Word) :
    ∃ ap, apRequest s p write offset data = { s with ap := ap } := by
  unfold apRequest apPut
  split <;> exact ⟨_, rfl⟩

/-- A record that is written takes the slot TAIL, and where the journal is full its oldest record's slot is lost (R336). -/
theorem jnlPut_on {s : State} (h : journalOn s = true) (p : Purpose) (r : Rec) :
    let t := jnlPut s p r
    let n := jnlSlots s
    let full := (s.jn.tail.toNat + 1) % n = s.jn.head.toNat
    t.ap = (apRequest s p true (s.jn.base.toNat * 4096 + 64 * s.jn.tail.toNat) r.toList).ap
      ∧ t.jn.tail = BitVec.ofNat 31 ((s.jn.tail.toNat + 1) % n)
      ∧ (full → t.jn.head = BitVec.ofNat 31 ((s.jn.head.toNat + 1) % n) ∧ t.status = s.status.raise stJnlWrap)
      ∧ (¬ full → t.jn.head = s.jn.head ∧ t.status = s.status)
      ∧ t.vs = s.vs ∧ t.ts = s.ts ∧ t.ctl = s.ctl ∧ t.md = s.md ∧ t.ao = s.ao := by
  intro t n full
  obtain ⟨ap, hap⟩ := apRequest_eq s p true (s.jn.base.toNat * 4096 + 64 * s.jn.tail.toNat) r.toList
  by_cases hf : full
  · have ht : t = raiseStatus { s with
        ap := ap
        jn := { s.jn with tail := BitVec.ofNat 31 ((s.jn.tail.toNat + 1) % n), head := BitVec.ofNat 31 ((s.jn.head.toNat + 1) % n) } } stJnlWrap := by
      show jnlPut s p r = _
      unfold jnlPut
      dsimp only
      rw [if_pos h, hap, decide_eq_true (show (s.jn.tail.toNat + 1) % jnlSlots s = s.jn.head.toNat from hf)]
      rfl
    rw [ht, hap]
    exact ⟨rfl, rfl, fun _ => ⟨rfl, rfl⟩, fun h => absurd hf h, rfl, rfl, rfl, rfl, rfl⟩
  · have ht : t = { s with ap := ap, jn := { s.jn with tail := BitVec.ofNat 31 ((s.jn.tail.toNat + 1) % n), head := s.jn.head } } := by
      show jnlPut s p r = _
      unfold jnlPut
      dsimp only
      rw [if_pos h, hap, decide_eq_false (show ¬ (s.jn.tail.toNat + 1) % jnlSlots s = s.jn.head.toNat from hf)]
      rfl
    rw [ht, hap]
    exact ⟨rfl, rfl, fun h => absurd h hf, fun _ => ⟨rfl, rfl⟩, rfl, rfl, rfl, rfl, rfl⟩

end Sys2Proof.Machine

namespace Sys2Proof

open Sys2Proof.Machine

/-- Settles O34: each tick by whether it is due, the reader's position by its place, and a record by the journal's room. -/
theorem refillsAndReader : Obligations.RefillsAndReader := by
  refine ⟨fun s ha => ⟨fun f hf hn hd => ?_, fun hd => ?_, fun hd => ?_, fun hd => ?_, fun hf hd => ?_, fun hd => ?_⟩, fun s w hc hd => ?_,
    fun s r => ?_⟩
  · obtain ⟨x, he, hts, hvs, hctl, htm, hfu, hmd⟩ := stirring_found creditTick s
    have hnow : now x = now s := congrArg TimeUnit.now htm
    rw [creditTick_due (s := x) (by rw [hfu]; exact hf) (by rw [hnow, htm]; exact hd), hnow, htm] at he
    obtain ⟨tn, htn⟩ := forEach_refillSlice_rest (now s / 1000000 - s.tm.ticks.credit) f.slices
      { x with tm := { x.tm with ticks := { x.tm.ticks with credit := now s / 1000000 } } }
    have hcr := fun e he => forEach_refillSlice_credits (now s / 1000000 - s.tm.ticks.credit) f.slices
      { x with tm := { x.tm with ticks := { x.tm.ticks with credit := now s / 1000000 } } } hn (e := e) he
    rw [htm] at htn hcr
    refine ⟨_, congrArg Host.Outcome.next ((if_pos ha).trans he), fun e hm => (hcr e hm).trans ?_, ?_⟩
    · have : tnOf x e.tenant = tnOf s e.tenant := by simp only [tnOf, hts]
      show BitVec.ofNat 16 (min ((tnOf x e.tenant).credits.toNat + _) _) = _
      rw [this]
    · rw [htn]
      exact ⟨rfl, (congrArg TargetStore.targets hts :), (congrArg TargetStore.lmem hts :), hvs, hctl, hmd⟩
  · exact congrArg Host.Outcome.next ((if_pos ha).trans (stirring_of_same (if_pos (ticksDue_of_le hd))))
  · exact congrArg Host.Outcome.next ((if_pos ha).trans (if_neg (ticksDue_of_lt hd)))
  · exact congrArg Host.Outcome.next ((if_pos ha).trans (if_pos (ticksDue_of_le hd)))
  · obtain ⟨x, he, hts, hvs, hctl, htm, hfu, hmd⟩ := stirring_found writebackTick s
    have hnow : now x = now s := congrArg TimeUnit.now htm
    have hx : writebackTick x = writeback { x with tm := { x.tm with ticks := { x.tm.ticks with writeback := now x / 1024000 } } } :=
      (if_neg (ticksDue_of_lt (by rw [hnow, htm]; exact hd))).trans (if_pos (by rw [hfu]; exact hf))
    obtain ⟨h1, h2, h3, h4⟩ := writeback_shows { x with tm := { x.tm with ticks := { x.tm.ticks with writeback := now x / 1024000 } } }
    refine ⟨_, congrArg Host.Outcome.next ((if_pos ha).trans (he.trans hx)), h1, h2, fun h v hv => h3 h v ?_, ?_, ?_, ?_, ?_, fun hc => ?_⟩
    · refine Eq.trans ?_ hv
      show vteOn x h = vteOn s h
      rw [vteOn, hvs]
      rfl
    · exact (congrArg (·.1) h4 :).trans (congrArg VecStore.vecs hvs)
    · exact (congrArg (·.2.1) h4 :).trans (congrArg TargetStore.targets hts)
    · exact (congrArg (·.2.2.1) h4 :).trans (congrArg TargetStore.lmem hts)
    · exact (congrArg (·.2.2.2.1) h4 :).trans hctl
    · exact (congrArg (·.2.2.2.2) h4 :).trans (hmd hc)
  · exact congrArg Host.Outcome.next ((if_pos ha).trans (stirring_of_same (if_pos (ticksDue_of_le hd))))
  · intro n x taken
    refine congrArg Host.Outcome.next ((writeAt_of_answers hd ..).trans (congrArg (portDone · .mgmt) ?_))
    rw [portWrite_mgmt (awake_of_calm hc), activity_of_calm hc false]
    show (if taken then _ else _) = _
    have hw : BitVec.ofNat 31 (fld w 0 31 : BitVec 31).toNat = fld w 0 31 := by rw [BitVec.ofNat_toNat, BitVec.setWidth_eq]
    rw [← hw]
    rfl
  · intro t n full
    refine ⟨fun h => ?_, fun h => if_neg (by rw [h]; exact Bool.false_ne_true)⟩
    obtain ⟨hap, h⟩ := jnlPut_on h .journal r
    refine ⟨?_, h⟩
    rw [show t.ap = _ from hap]
    exact mem_apRequest ..

end Sys2Proof

end
section
/-! PROOF. Entry locks: taken, contended, released, and broken at the lease's end (R254 to R261). -/

namespace Sys2Proof.Machine

/-! ### Units -/

theorem eaOf_eaPut_ne (s : State) {u v : EaId} (e : EaUnit) (h : v ≠ u) : eaOf (eaPut s u e) v = eaOf s v := by
  cases u with
  | mgmt =>
    cases v with
    | mgmt => exact absurd rfl h
    | tw t => rfl
  | tw t =>
    cases v with
    | mgmt => rfl
    | tw t' =>
      have hne : t'.toNat ≠ t.toNat := fun he => h (congrArg EaId.tw (BitVec.eq_of_toNat_eq he))
      simp [eaOf, eaPut, find_put_ne hne]

theorem eaOf_eaRaise_same (s : State) (u : EaId) (m : BitVec 24) : eaOf (eaRaise s u m) u = { eaOf s u with status := (eaOf s u).status.raiseAll m } :=
  eaOf_eaPut_same ..

theorem eaOf_eaRaise_ne (s : State) {u v : EaId} (m : BitVec 24) (h : v ≠ u) : eaOf (eaRaise s u m) v = eaOf s v := (eaOf_eaPut_ne _ _ h).trans rfl

theorem Logged.eaOf {s t : State} (h : Logged s t) : eaOf t = eaOf s := by
  funext u
  cases u with
  | mgmt => exact h.eaM
  | tw n => simp only [Machine.eaOf, h.eaT]

/-! ### Commands at a unit that is reached -/

/-- A write of a unit's register at a port that reaches it (R251, R256). -/
theorem unitWrite_reached {s : State} (hc : calm s = true) (hd : portsDead s = false) {p : Port} (hp : p ≠ .sec) {u : EaId}
    (hr : unitReach s p u = true) (off : Nat) (f : State → State) :
    writeAt s p (fun s => unitWrite s p u off f) = portDone (f (noteBusy s)) p := by
  refine (writeAt_of_answers hd ..).trans (congrArg (portDone · p) ?_)
  unfold unitWrite
  rw [hr]
  exact portWrite_reached hc hp ..

theorem acquire_out {s : State} {u : EaId} (hr : entryReach s u (eaOf s u) = false) (ms : BitVec 16) : acquire u ms s = eaRaise s u (bit true eaRange) :=
  if_pos (by rw [hr]; rfl)

theorem acquire_in {s : State} {u : EaId} (hr : entryReach s u (eaOf s u) = true) (ms : BitVec 16) :
    acquire u ms s = lockTake s u (eaOf s u).kind (entryIndex u (eaOf s u)) ms :=
  if_neg (by rw [hr]; exact Bool.false_ne_true)

/-- The lock that a unit asks for, on a timer (R256, R258). -/
def lockAsked (s : State) (kind : BitVec 3) (i : Nat) (ms : BitVec 16) (n : Nat) : Lock :=
  { kind := kind, index := BitVec.ofNat 24 i, staged := none, leaseMs := BitVec.ofNat 16 (leaseOf s ms), timer := n, expiry := 0 }

theorem leaseOf_le (s : State) (ms : BitVec 16) : leaseOf s ms ≤ 60000 := Nat.min_le_right ..

theorem leaseRestart_expiry (s : State) (kind : BitVec 3) (i : Nat) (ms : BitVec 16) (n : Nat) :
    (leaseRestart s (lockAsked s kind i ms n)).expiry = satTime (regTime s) (1000000 * leaseOf s ms) := by
  have h := leaseOf_le s ms
  show satTime (regTime s) (oneMs * (BitVec.ofNat 16 (leaseOf s ms)).toNat) = _
  rw [BitVec.toNat_ofNat, Nat.mod_eq_of_lt (by omega)]
  rfl

theorem lockTake_contended {s : State} {u : EaId} {kind : BitVec 3} {i : Nat}
    (h : (eaOf s u).lock.isSome = true ∨ ∃ l ∈ locksHeld s, lockOn l.2 kind i = true) (ms : BitVec 16) :
    lockTake s u kind i ms = eaRaise s u (bit true eaContended) := by
  refine if_pos ?_
  rcases h with h | ⟨l, hl, hk⟩
  · rw [h, Bool.true_or]
  · rw [List.any_eq_true.mpr ⟨l, hl, hk⟩, Bool.or_true]

theorem lockTake_free {s : State} {u : EaId} {kind : BitVec 3} {i : Nat} (hl : (eaOf s u).lock = none)
    (hf : ∀ l ∈ locksHeld s, lockOn l.2 kind i = false) (ms : BitVec 16) :
    (freeTimer s u = none → lockTake s u kind i ms = eaRaise s u (bit true eaNoTimer))
    ∧ (∀ n, freeTimer s u = some n → ∃ peak, lockTake s u kind i ms
        = { eaPut s u { eaOf s u with lock := some (leaseRestart s (lockAsked s kind i ms n)), broken := false } with tm := { s.tm with leasePeak := peak } }) := by
  have hany : (locksHeld s).any (fun l => lockOn l.2 kind i) = false := by
    rw [List.any_eq_false]
    exact fun l h => by rw [hf l h]; exact Bool.false_ne_true
  have hif : ¬ ((eaOf s u).lock.isSome || (locksHeld s).any (fun l => lockOn l.2 kind i)) = true := by
    rw [hl, hany]
    exact Bool.false_ne_true
  refine ⟨fun hn => ?_, fun n hn => ⟨BitVec.ofNat 7 (max s.tm.leasePeak.toNat (leaseBusy (eaPut s u { eaOf s u with
      lock := some (leaseRestart s (lockAsked s kind i ms n)), broken := false }))), ?_⟩⟩
  · unfold lockTake
    dsimp only
    rw [if_neg hif, hn]
  · unfold lockTake
    dsimp only
    rw [if_neg hif, hn]
    dsimp only
    rw [eaPut_tm]
    rfl

/-! ### Release -/

theorem fenceDrop_of_idle {e : EaUnit} (hb : e.busy = none) : fenceDrop e = e := by
  unfold fenceDrop
  rw [hb]

theorem eaRelease_idle {s : State} {u : EaId} (hb : (eaOf s u).busy = none) : eaRelease u s =
    if structured s && !entryReach s u (eaOf s u) then eaRaise s u (bit true eaRange)
    else if holdsLock u (eaOf s u) then eaPut s u { eaOf s u with lock := none }
    else eaRaise s u (bit true eaNoLock) := by
  unfold eaRelease
  dsimp only
  rw [fenceDrop_of_idle hb, hb]
  exact if_neg Bool.false_ne_true

/-! ### The end of a lease -/

theorem Sc.has_raiseAll (r : Sc) (m : BitVec 24) {f : Nat} (h : m.getLsbD f = true) : (r.raiseAll m).has f = true := by
  show (_ ||| m).getLsbD f = true
  rw [BitVec.getLsbD_or, h, Bool.or_true]

/-- A lock that is broken is gone, and its unit and IV_STATUS say so (R260). -/
theorem lockBreak_shows {s : State} {u : EaId} {l : Lock} (hl : (eaOf s u).lock = some l) (cause : Nat) :
    let t := lockBreak s u cause
    (eaOf t u).lock = none ∧ (eaOf t u).broken = true ∧ (eaOf t u).status.has eaLockBroken = true ∧ t.status.has stLockBroken = true
      ∧ (∀ v, v ≠ u → eaOf t v = eaOf s v) ∧ t.vs = s.vs ∧ t.ts.targets = s.ts.targets ∧ t.ctl = s.ctl := by
  intro t
  let y := raiseStatus (eaRaise (eaPut s u { fenceDrop (eaOf s u) with lock := none, broken := true }) u (bit true eaLockBroken)) stLockBroken
  obtain ⟨x, hx, hea, hst, hvs, hts, hctl⟩ : ∃ x, Logged x t ∧ eaOf x = eaOf y ∧ x.status = y.status ∧ x.vs = y.vs ∧ x.ts.targets = y.ts.targets ∧ x.ctl = y.ctl := by
    show ∃ x, Logged x (lockBreak s u cause) ∧ _
    unfold lockBreak
    dsimp only
    rw [hl]
    cases u with
    | mgmt => exact ⟨_, Logged.jnl .., rfl, rfl, rfl, rfl, rfl⟩
    | tw n => exact ⟨_, Logged.jnl .., rfl, rfl, rfl, rfl, rfl⟩
  have hu : eaOf y u = { fenceDrop (eaOf s u) with
      lock := none, broken := true, status := (fenceDrop (eaOf s u)).status.raiseAll (bit true eaLockBroken) } := by
    refine (eaOf_eaRaise_same ..).trans ?_
    rw [eaOf_eaPut_same]
  have ht : eaOf t = eaOf y := hx.eaOf.trans hea
  refine ⟨by rw [ht, hu], by rw [ht, hu], ?_, ?_, fun v hv => ?_, ?_, ?_, ?_⟩
  · rw [ht, hu]
    exact Sc.has_raiseAll _ _ (by decide)
  · exact hx.flags _ (by rw [hst]; exact Sc.has_raise_self _ (by decide))
  · rw [ht]
    exact (eaOf_eaRaise_ne _ _ hv).trans (eaOf_eaPut_ne _ _ hv)
  · rw [hx.vs, hvs]
    exact (eaRaise_vs ..).trans (eaPut_vs ..)
  · rw [hx.ts, hts]
    show (eaPut { eaPut s u _ with ar := _ } u _).ts.targets = _
    rw [eaPut_ts]
    exact congrArg TargetStore.targets (eaPut_ts s u _)
  · rw [hx.ctl, hctl]
    show (eaPut { eaPut s u _ with ar := _ } u _).ctl = _
    rw [eaPut_ctl]
    exact eaPut_ctl s u _

end Sys2Proof.Machine

namespace Sys2Proof

open Sys2Proof.Machine

/-- Settles O39: a command by the entry's reach and lock, and a lease's end by its timer. -/
theorem locksAreTakenAndBroken : Obligations.LocksAreTakenAndBroken := by
  refine ⟨fun s p u ms hc hd hp hr => ?_, fun s p u hc hd hp hr hb => ?_, fun s n u l ha hdue hl => ?_, fun s u ms hl hd => ⟨?_, ?_⟩⟩
  · have hx : exec (.acquire p u ms) s = .next (portDone (acquire u ms (noteBusy s)) p) :=
      congrArg Host.Outcome.next (unitWrite_reached hc hd hp hr 0 (acquire u ms))
    have hin (hreach : entryReach s u (eaOf s u) = true) : acquire u ms (noteBusy s) = lockTake (noteBusy s) u (eaOf s u).kind (entryIndex u (eaOf s u)) ms :=
      acquire_in (s := noteBusy s) hreach ms
    refine ⟨fun n hreach hlock hfree ht => ?_, fun hreach hlock => ?_, fun hreach => ?_, fun hreach hlock hfree ht => ?_⟩
    · obtain ⟨peak, hk⟩ := (lockTake_free (s := noteBusy s) hlock hfree ms).2 n ht
      rw [hin hreach, hk] at hx
      let e : EaUnit := { eaOf s u with
        lock := some (leaseRestart (noteBusy s) (lockAsked (noteBusy s) (eaOf s u).kind (entryIndex u (eaOf s u)) ms n)), broken := false }
      obtain ⟨io, hio⟩ := portDone_eq { eaPut (noteBusy s) u e with tm := { (noteBusy s).tm with leasePeak := peak } } p
      have he : eaOf (eaPut (noteBusy s) u e) u = e := eaOf_eaPut_same ..
      refine ⟨_, _, hx.trans (congrArg Host.Outcome.next hio), (congrArg EaUnit.lock he :), rfl, rfl, rfl, rfl, (congrArg EaUnit.broken he :),
        leaseRestart_expiry (noteBusy s) .., (congrArg EaUnit.status he :), (congrArg EaUnit.busy he :), fun v hv => (eaOf_eaPut_ne (noteBusy s) e hv :),
        (eaPut_vs (noteBusy s) u e :), (eaPut_ts (noteBusy s) u e :), (eaPut_ctl (noteBusy s) u e :), (eaPut_md (noteBusy s) u e :)⟩
    · rw [hin hreach, lockTake_contended (s := noteBusy s) hlock] at hx
      exact hx
    · rw [acquire_out (s := noteBusy s) hreach] at hx
      exact hx
    · rw [hin hreach, (lockTake_free (s := noteBusy s) hlock hfree ms).1 ht] at hx
      exact hx
  · have hx : exec (.release p u) s = .next (portDone (eaRelease u (noteBusy s)) p) :=
      congrArg Host.Outcome.next (unitWrite_reached hc hd hp hr 12 (eaRelease u))
    rw [eaRelease_idle (s := noteBusy s) hb] at hx
    refine ⟨fun hreach => ?_, fun hst hreach => ?_⟩
    · have hout : (structured s && !entryReach s u (eaOf s u)) = false := by
        rcases hreach with h | h <;> simp [h]
      rw [if_neg (show ¬ (structured (noteBusy s) && !entryReach (noteBusy s) u (eaOf (noteBusy s) u)) = true from
        fun h => Bool.false_ne_true (hout.symm.trans h))] at hx
      exact ⟨fun hh => hx.trans (congrArg (fun t => Host.Outcome.next (portDone t p)) (if_pos hh)),
        fun hh => hx.trans (congrArg (fun t => Host.Outcome.next (portDone t p)) (if_neg fun h => Bool.false_ne_true (hh.symm.trans h)))⟩
    · have hout : (structured s && !entryReach s u (eaOf s u)) = true := by simp [hst, hreach]
      exact hx.trans (congrArg (fun t => Host.Outcome.next (portDone t p)) (if_pos hout))
  · have hu : eaOf (activity s false) = eaOf s := by
      funext v
      cases v with
      | mgmt => exact activity_eaM s
      | tw t => simp only [eaOf, activity_eaT]
    obtain ⟨hlock, hbroken, hst, hflag, hrest, hvs, hts, hctl⟩ := lockBreak_shows (s := activity s false) (u := u) ((congrFun hu u).symm ▸ hl) 1
    have hx : exec (.leaseExpiry n) s = .next (lockBreak (activity s false) u 1) := by
      refine congrArg Host.Outcome.next ((if_pos ha).trans ?_)
      rw [hdue]
    exact ⟨_, hx, hlock, hbroken, hst, hflag, fun v hv => (hrest v hv).trans (congrFun hu v), hvs.trans (activity_vs s), by rw [hts, activity_ts],
      hctl.trans (activity_ctl s)⟩
  · exact congrArg Host.Outcome.next ((writeAt_of_answers hd ..).trans (congrArg (portDone · .sec) (if_pos hl)))
  · exact congrArg Host.Outcome.next ((writeAt_of_answers hd ..).trans (congrArg (portDone · .sec) (if_pos hl)))

end Sys2Proof

end
section
/-! PROOF. The commands of a unit of entry access that is not busy (R138, R173, R251 to R256, R375). -/

namespace Sys2Proof.Machine

/-! ### Reach and lock -/

theorem leaseLapse_of_runs {s : State} {u : EaId} (h : ∀ l, (eaOf s u).lock = some l → regTime s ≤ l.expiry) : leaseLapse s u = s := by
  unfold leaseLapse
  split
  next l hl => exact if_neg (not_lt.mpr (h l hl))
  next => rfl

theorem ifIdle_of_idle {s : State} {u : EaId} (hb : (eaOf s u).busy = none) (f : State → State) : ifIdle u s f = f s :=
  if_neg (by rw [hb]; exact Bool.false_ne_true)

/-- A command in reach, of a unit that is not busy and whose lease runs, comes down to its lock (R255). -/
theorem ifLocked_in {s : State} {u : EaId} (hb : (eaOf s u).busy = none) (hlease : ∀ l, (eaOf s u).lock = some l → regTime s ≤ l.expiry)
    (hr : entryReach s u (eaOf s u) = true) {ok : Bool} (hok : ok = true) (f : State → Lock → State) :
    ifLocked u s ok f = withLock s u (eaOf s u).kind (entryIndex u (eaOf s u)) f := by
  unfold ifLocked
  rw [leaseLapse_of_runs hlease, ifIdle_of_idle hb]
  exact if_neg (by rw [hok, hr]; exact Bool.false_ne_true)

theorem withLock_none {s : State} {u : EaId} (hl : (eaOf s u).lock = none) (kind : BitVec 3) (i : Nat) (f : State → Lock → State) :
    withLock s u kind i f = eaRaise s u (bit true eaNoLock) := by
  unfold withLock
  rw [hl]

theorem withLock_held {s : State} {u : EaId} {l : Lock} (hl : (eaOf s u).lock = some l) (hh : holdsLock u (eaOf s u) = true) (f : State → Lock → State) :
    withLock s u (eaOf s u).kind (entryIndex u (eaOf s u)) f = f s l := by
  have hon : lockOn l (eaOf s u).kind (entryIndex u (eaOf s u)) = true := by
    unfold holdsLock at hh
    rw [hl] at hh
    exact hh
  unfold withLock
  rw [hl]
  exact if_pos hon

theorem exists_lock_of_holdsLock {u : EaId} {e : EaUnit} (hh : holdsLock u e = true) : ∃ l, e.lock = some l := by
  unfold holdsLock at hh
  split at hh
  next l hl => exact ⟨l, hl⟩
  next => exact absurd hh Bool.false_ne_true

theorem rowRead_of_noInject {s : State} (hi : s.flt.inject = none) (u : EaId) : rowRead s u = s := by
  unfold rowRead
  dsimp only
  split
  · exact cacheRead_of_noInject hi _
  · rfl

theorem inject_of_undisturbed {s : State} (h : undisturbed s = true) : s.flt.inject = none := by
  unfold undisturbed at h
  simp only [Bool.and_eq_true, Option.isNone_iff_eq_none] at h
  obtain ⟨⟨hi, -⟩, -⟩ := h
  exact hi

theorem eaOf_eaRaise_eaPut (s : State) (u : EaId) (e : EaUnit) (m : BitVec 24) :
    eaOf (eaRaise (eaPut s u e) u m) u = { e with status := e.status.raiseAll m } := by
  rw [eaOf_eaRaise_same, eaOf_eaPut_same]

/-! ### READ -/

section
variable {s : State} {u : EaId} (hb : (eaOf s u).busy = none) (hi : s.flt.inject = none)
include hb

theorem eaRead_out (hst : structured s = true) (hr : entryReach s u (eaOf s u) = false) :
    eaRead u s = eaRaise (eaPut s u { eaOf s u with data := Vector.replicate 8 0 }) u (bit true eaRange ||| bit true eaDone) := by
  refine (ifIdle_of_idle hb _).trans ?_
  dsimp only
  rw [hst, hr]
  rfl

include hi

theorem eaRead_in (hr : entryReach s u (eaOf s u) = true) : eaRead u s =
    if decide ((eaOf s u).kind = 1) && reloading s (entryIndex u (eaOf s u)) then
      eaPut s u { eaOf s u with busy := some (.reading (entryIndex u (eaOf s u))) }
    else if decide ((eaOf s u).kind = 2) && tdReloading s (entryIndex u (eaOf s u)) then
      eaPut s u { eaOf s u with busy := some (.readingTd (entryIndex u (eaOf s u))) }
    else match entryWords s (eaOf s u).kind.toNat (entryIndex u (eaOf s u)) with
      | some w => eaRaise (eaPut (if (eaOf s u).kind = 1 then touch s (entryIndex u (eaOf s u)) else s) u { eaOf s u with data := w }) u (bit true eaDone)
      | none => fetchVte (eaPut s u { eaOf s u with busy := some (.reading (entryIndex u (eaOf s u))) }) (entryIndex u (eaOf s u)) := by
  have hst : structured s = true := by
    unfold entryReach at hr
    exact (Bool.and_eq_true _ _ ▸ hr).1
  refine (ifIdle_of_idle hb _).trans ?_
  dsimp only
  rw [hst, hr, rowRead_of_noInject hi]
  rfl

theorem eaRead_words {w : Words8} (hr : entryReach s u (eaOf s u) = true) (h1 : (eaOf s u).kind = 1 → reloading s (entryIndex u (eaOf s u)) = false)
    (h2 : (eaOf s u).kind = 2 → tdReloading s (entryIndex u (eaOf s u)) = false) (hw : entryWords s (eaOf s u).kind.toNat (entryIndex u (eaOf s u)) = some w) :
    eaRead u s = eaRaise (eaPut (if (eaOf s u).kind = 1 then touch s (entryIndex u (eaOf s u)) else s) u { eaOf s u with data := w }) u (bit true eaDone) := by
  rw [eaRead_in hb hi hr, if_neg, if_neg, hw]
  · rw [Bool.and_eq_true, decide_eq_true_eq]
    exact fun ⟨hk, hx⟩ => Bool.false_ne_true ((h2 hk).symm.trans hx)
  · rw [Bool.and_eq_true, decide_eq_true_eq]
    exact fun ⟨hk, hx⟩ => Bool.false_ne_true ((h1 hk).symm.trans hx)

theorem eaRead_reloads (hr : entryReach s u (eaOf s u) = true) (hk : (eaOf s u).kind = 2) (hx : tdReloading s (entryIndex u (eaOf s u)) = true) :
    eaRead u s = eaPut s u { eaOf s u with busy := some (.readingTd (entryIndex u (eaOf s u))) } := by
  rw [eaRead_in hb hi hr, if_neg, if_pos]
  · rw [hk, hx]
    rfl
  · rw [hk]
    exact Bool.false_ne_true

end

/-! ### FENCE -/

section
variable {s : State} {u : EaId} (hb : (eaOf s u).busy = none) (hi : s.flt.inject = none) (hlease : ∀ l, (eaOf s u).lock = some l → regTime s ≤ l.expiry)
  (hr : entryReach s u (eaOf s u) = true) (hk : (eaOf s u).kind = 1) (hh : holdsLock u (eaOf s u) = true)
include hb hi hlease hr hk hh

theorem eaFence_off (hv : vteOn s (entryIndex u (eaOf s u)) = none) :
    eaFence u s = fetchVte (eaPut s u { eaOf s u with busy := some (.fenceRead (entryIndex u (eaOf s u))) }) (entryIndex u (eaOf s u)) := by
  obtain ⟨l, hl⟩ := exists_lock_of_holdsLock hh
  refine (ifLocked_in hb hlease hr (decide_eq_true hk) _).trans ((withLock_held hl hh _).trans ?_)
  dsimp only
  rw [rowRead_of_noInject hi, hv]

theorem eaFence_clear {v : Vte} (hv : vteOn s (entryIndex u (eaOf s u)) = some v) (hc : fenceClear s (entryIndex u (eaOf s u)) v.epoch = true) :
    eaFence u s = eaRaise (eaPut (eaPut s u { eaOf s u with busy := some (.fencing (entryIndex u (eaOf s u)) v.epoch) }) u (eaOf s u)) u (bit true eaDone) := by
  obtain ⟨l, hl⟩ := exists_lock_of_holdsLock hh
  refine (ifLocked_in hb hlease hr (decide_eq_true hk) _).trans ((withLock_held hl hh _).trans ?_)
  dsimp only
  rw [rowRead_of_noInject hi, hv]
  have hc' : fenceClear (eaPut s u { eaOf s u with busy := some (.fencing (entryIndex u (eaOf s u)) v.epoch) }) (entryIndex u (eaOf s u)) v.epoch = true := by
    cases u <;> exact hc
  have he : { eaOf s u with busy := none } = eaOf s u := by
    rw [← hb]
  dsimp only
  unfold fenceCheck
  rw [eaOf_eaPut_same]
  dsimp only
  rw [if_pos hc', he]

end

theorem fetchVte_apHas (s : State) (h : Nat) : apHas (fetchVte s h) (.vteRead h) = true := by
  unfold fetchVte
  split
  next hh => exact hh
  next => exact apHas_apPut ..

theorem epochOf_of_on {s : State} {h : Nat} {v : Vte} (hv : vteOn s h = some v) : epochOf s h = v.epoch := by
  unfold epochOf snapAt
  rw [hv]
  rfl

/-! ### APPLY of a descriptor -/

theorem openRecs_of_notInTransfer {s : State} {t : Nat} (h : inTransfer s t = false) : openRecs s t = 0 := by
  unfold inTransfer at h
  simp only [decide_eq_false_iff_not] at h
  omega

/-- An open write without records changes neither the vectors nor local ring memory when it closes (R211). -/
theorem closeWriteOf_of_noRecs {s : State} {t : Nat} (h : openRecs s t = 0) :
    (closeWriteOf s t).vs = s.vs ∧ (closeWriteOf s t).ts.lmem = s.ts.lmem ∧ openRecs (closeWriteOf s t) t = 0 := by
  unfold closeWriteOf
  split
  next w hw =>
    split
    · next ht =>
      have hrecs : w.recs = [] := by
        unfold openRecs at h
        rw [hw] at h
        dsimp only at h
        rw [if_pos ht] at h
        exact List.length_eq_zero_iff.mp h
      unfold closeWrite
      rw [hw]
      dsimp only
      rw [hrecs]
      split
      · exact ⟨rfl, rfl, h⟩
      · split
        · have hv := wdogFix_bellView
          simp only [List.map_nil, acceptRecs, forEach]
          refine ⟨(congrArg (fun v => v.1.vs) (hv ..) :), (congrArg (fun v => v.1.ts.lmem) (hv ..) :), ?_⟩
          have ho (x : State) (k : Nat) : (wdogFix x k).ar.open_ = x.ar.open_ := (congrArg (fun v => v.1.ar.open_) (hv x k) :)
          unfold openRecs
          rw [ho]
          rfl
        · split
          · exact ⟨rfl, rfl, rfl⟩
          · exact ⟨rfl, rfl, h⟩
    · exact ⟨rfl, rfl, h⟩
  next => exact ⟨rfl, rfl, h⟩

/-- What a descriptor's installation leaves: the fields of its check, the vectors, local ring memory, the modes, the fabric manager's unit and its
proposal. -/
structure Installed (t : Nat) (n : Tgt) (s u : State) : Prop where
  threshold : (tgtOf u t).threshold = n.threshold
  enable : (tgtOf u t).enable = n.enable
  autoCprio : (tgtOf u t).autoCprio = n.autoCprio
  tenant : (tgtOf u t).tenant = n.tenant
  vs : u.vs = s.vs
  lmem : u.ts.lmem = s.ts.lmem
  md : u.md = s.md
  eaM : u.eaM = s.eaM
  dcM : u.dcM = s.dcM
  recs : openRecs u t = 0

namespace Installed
variable {t : Nat} {n : Tgt} {s u v : State}

theorem of_bellView (h : Installed t n s u) (hv : bellView v = bellView u) : Installed t n s v := by
  have hg := tgtOf_bellView hv t
  have ho : v.ar.open_ = u.ar.open_ := (congrArg (fun v => v.1.ar.open_) hv :)
  exact ⟨(congrArg Tgt.threshold hg :).trans h.threshold, (congrArg Tgt.enable hg :).trans h.enable, (congrArg Tgt.autoCprio hg :).trans h.autoCprio,
    (congrArg Tgt.tenant hg :).trans h.tenant, (congrArg (fun v => v.1.vs) hv :).trans h.vs, (congrArg (fun v => v.1.ts.lmem) hv :).trans h.lmem,
    (congrArg (fun v => v.1.md) hv :).trans h.md, (congrArg (fun v => v.1.eaM) hv :).trans h.eaM, (congrArg (fun v => v.1.dcM) hv :).trans h.dcM,
    by simpa only [openRecs, ho] using h.recs⟩

theorem put {g : Tgt} (hr : openRecs s t = 0) (h1 : g.threshold = n.threshold) (h2 : g.enable = n.enable)
    (h3 : g.autoCprio = n.autoCprio) (h4 : g.tenant = n.tenant) : Installed t n s (tgtPut s t g) := by
  refine ⟨?_, ?_, ?_, ?_, rfl, rfl, rfl, rfl, rfl, hr⟩ <;> rw [tgtOf_tgtPut_same] <;> assumption

theorem tgtPut {g : Tgt} (h : Installed t n s u) (h1 : g.threshold = (tgtOf u t).threshold) (h2 : g.enable = (tgtOf u t).enable)
    (h3 : g.autoCprio = (tgtOf u t).autoCprio) (h4 : g.tenant = (tgtOf u t).tenant) : Installed t n s (tgtPut u t g) := by
  have k : Installed t n u (Machine.tgtPut u t g) := put h.recs (h1.trans h.threshold) (h2.trans h.enable) (h3.trans h.autoCprio) (h4.trans h.tenant)
  exact ⟨k.threshold, k.enable, k.autoCprio, k.tenant, h.vs, h.lmem, h.md, h.eaM, h.dcM, h.recs⟩

theorem ite {p : Prop} [Decidable p] (h : Installed t n s u) (k : Installed t n s v) : Installed t n s (if p then u else v) := by
  split
  · exact h
  · exact k

theorem closeWriteOf (h : Installed t n s u) : Installed t n s (closeWriteOf u t) := by
  obtain ⟨hvs, hlmem, hrecs⟩ := closeWriteOf_of_noRecs h.recs
  have hv := closeWriteOf_streamView u t
  have hg := congrFun (congrArg (fun v => v.2.2) hv :) t
  exact ⟨(congrArg Tgt.threshold hg :).trans h.threshold, (congrArg Tgt.enable hg :).trans h.enable, (congrArg Tgt.autoCprio hg :).trans h.autoCprio,
    (congrArg Tgt.tenant hg :).trans h.tenant, hvs.trans h.vs, hlmem.trans h.lmem, (congrArg (fun v => v.1.md) hv :).trans h.md,
    (congrArg (fun v => v.1.eaM) hv :).trans h.eaM, (congrArg (fun v => v.1.dcM) hv :).trans h.dcM, hrecs⟩

theorem batchEnd (h : Installed t n s u) : Installed t n s (batchEnd u t) := by
  unfold Machine.batchEnd
  split
  · exact h
  · dsimp only
    have h1 := h.closeWriteOf.tgtPut (g := { tgtOf (Machine.closeWriteOf u t) t with batch := none }) rfl rfl rfl rfl
    refine .ite ((h1.tgtPut (g := { tgtOf (Machine.closeWriteOf u t) t with batch := none, rearm := false }) ?_ ?_ ?_ ?_).of_bellView (sendBell_bellView ..)) h1 <;>
      rw [tgtOf_tgtPut_same]

theorem clearUnreach (h : Installed t n s u) (always : Bool) : Installed t n s (clearUnreach u t always) := by
  have h1 := (h.tgtPut (g := { tgtOf u t with unreach := false, hostUnreach := false, dbOwed := false }) rfl rfl rfl rfl).of_bellView (wdogFix_bellView _ t)
  exact .ite (h1.of_bellView (sendBell_bellView _ t)) h1

theorem of_logged (h : Installed t n s u) (hl : Logged u v) (hd : v.eaM = u.eaM) : Installed t n s v :=
  ⟨by rw [hl.tgtOf]; exact h.threshold, by rw [hl.tgtOf]; exact h.enable, by rw [hl.tgtOf]; exact h.autoCprio, by rw [hl.tgtOf]; exact h.tenant,
    hl.vs.trans h.vs, hl.lmem.trans h.lmem, hl.md.trans h.md, hd.trans h.eaM, hl.dcM.trans h.dcM,
    by simpa only [openRecs, hl.ar] using h.recs⟩

theorem tdStore (h : Installed t n s u) : Installed t n s (tdStore u t) := by
  have hl := Logged.apRequest u (.tdWrite t) true (tableOffset u 2 32 t) (tdWords (tgtOf u t) (deckle t (tgtOf u t).ringLog2)).toList
  have h1 := h.of_logged hl hl.eaM
  exact ⟨h1.threshold, h1.enable, h1.autoCprio, h1.tenant, h1.vs, h1.lmem, h1.md, h1.eaM, h1.dcM, h1.recs⟩

end Installed

/-- A descriptor with no record open is installed with the fields of its check (R173). -/
theorem tdInstall_shows {s : State} {t : Nat} (g n : Tgt) (hr : openRecs s t = 0) : Installed t n s (tdInstall s t g n) := by
  have h1 : Installed t n s (tgtPut s t (if ringMoves t g n then ringRestart n else n)) := by
    rcases ite_eq_or_eq (ringMoves t g n = true) (ringRestart n) n with h | h <;> rw [h] <;> exact .put hr rfl rfl rfl rfl
  unfold tdInstall
  dsimp only
  have h2 := Installed.ite (p := (g.enable && !n.enable) = true) h1.batchEnd h1
  have h3 := Installed.ite (p := (n.unreach && !n.hostUnreach && tdClears g n) = true) (h2.clearUnreach false) (h2.of_bellView (wdogFix_bellView _ t))
  exact h3.tdStore

/-- A change of a descriptor with nothing in transfer and no other change waiting is at its boundary at once (R173). -/
theorem submitOne_td {s : State} {i : Nat} (hhome : hasHome s 2 i = true) (ht : inTransfer s i = false) (hr : tdReloading s i = false)
    (hc : (tgtOf s i).changes = []) (c : Change) : ∃ x, submitOne s 2 i c = tdApply x i c ∧ bellView x = bellView s ∧ tgtOf x i = tgtOf s i := by
  let y := tgtPut s i { tgtOf s i with changes := (tgtOf s i).changes ++ [c] }
  have hy : tgtOf y i = { tgtOf s i with changes := [c] } := by
    rw [tgtOf_tgtPut_same, hc]
    rfl
  let x := tgtPut y i { tgtOf y i with changes := [] }
  have hx : tgtOf x i = tgtOf s i := by
    rw [tgtOf_tgtPut_same, hy, ← hc]
  refine ⟨x, ?_, ?_, hx⟩
  · have hb : tdBoundary 1 y i = tdApply x i c := by
      have hg : ¬ (inTransfer y i || tdReloading y i) = true := by
        rw [show inTransfer y i = false from ht, show tdReloading y i = false from hr]
        exact Bool.false_ne_true
      refine (if_neg hg).trans ?_
      rw [show (tgtOf y i).changes = [c] from by rw [hy]]
      rfl
    have hs : submitOne s 2 i c = tdBoundary ((tgtOf s i).changes.length + 1) y i := by
      refine (if_neg ?_).trans rfl
      rw [hhome]
      exact Bool.false_ne_true
    rw [show submitOne s 2 i c = _ from hs, hc]
    exact hb
  · have htgt : (fun k => bellRest (tgtOf x k)) = fun k => bellRest (tgtOf s k) := by
      funext k
      by_cases hk : k = i
      · rw [hk, hx]
      · rw [tgtOf_tgtPut_ne _ _ hk, tgtOf_tgtPut_ne _ _ hk]
    exact congrArg (Prod.mk _) htgt

theorem tdTake_congr {s t : State} (h : t.fu = s.fu) (i : Nat) (c : Caller) (g : Tgt) (w : Words8) : tdTake t i c g w = tdTake s i c g w := by
  have hl : localScope t = localScope s := by simp only [localScope, h]
  unfold tdTake
  rw [hl]

theorem tdCheck_congr {s t : State} (h : t.fu = s.fu) (i : Nat) (g : Tgt) : tdCheck t i g = tdCheck s i g := by
  have ho : entryOwner t 2 i = entryOwner s 2 i := by
    simp only [entryOwner, targetSlice, h]
    rfl
  simp only [tdCheck, tdWithdrawn, ho]

theorem tdApply_ok {s : State} {t : Nat} {c : Change} {w : Words8} (hw : c.words = some w) (hok : tdCheck s t (tdTake s t c.caller (tgtOf s t) w) = true) :
    tdApply s t c = changeReport (tdInstall s t (tgtOf s t) (tdTake s t c.caller (tgtOf s t) w)) c true := by
  unfold tdApply
  rw [hw]
  exact if_pos hok

theorem tdApply_refused {s : State} {t : Nat} {c : Change} {w : Words8} (hw : c.words = some w)
    (hok : tdCheck s t (tdTake s t c.caller (tgtOf s t) w) = false) : tdApply s t c = changeRefused s c 2 t := by
  unfold tdApply
  rw [hw]
  exact if_neg (by rw [hok]; exact Bool.false_ne_true)

/-! ### Fences of other units -/

theorem fenceCheck_tw_eaM (s : State) (n : BitVec 12) : (fenceCheck s (.tw n)).eaM = s.eaM := by
  unfold fenceCheck
  split
  · split <;> rfl
  · rfl

theorem fenceAll_eaM {s : State} (hb : s.eaM.busy = none) : (fenceAll s).eaM = s.eaM := by
  have h0 : fenceCheck s .mgmt = s := by
    unfold fenceCheck
    rw [show (eaOf s .mgmt).busy = none from hb]
  have hfold : ∀ (l : List (Nat × EaUnit)) (x : State),
      (forEach (l.map fun e => EaId.tw (BitVec.ofNat 12 e.1)) x fenceCheck).eaM = x.eaM := by
    intro l
    induction l with
    | nil => exact fun x => rfl
    | cons e r ih => exact fun x => (ih _).trans (fenceCheck_tw_eaM ..)
  refine (hfold ..).trans ?_
  rw [h0]

end Sys2Proof.Machine

namespace Sys2Proof

open Sys2Proof.Machine

/-- Settles O40: a command by the unit's entry, its reach and its lock. -/
theorem entryAccessCommandsAct : Obligations.EntryAccessCommandsAct := by
  intro s p u hc hd hund hp hr hb hlease
  have hi := inject_of_undisturbed hund
  have hat (f : State → State) : writeAt s p (fun s => unitWrite s p u 12 f) = portDone (f (noteBusy s)) p := unitWrite_reached hc hd hp hr 12 f
  have hread {x : State} (h : eaRead u (noteBusy s) = x) : exec (.read p u) s = .next (portDone x p) :=
    congrArg Host.Outcome.next ((hat _).trans (congrArg (portDone · p) h))
  have hstage {x : State} (h : eaStage u (noteBusy s) = x) : exec (.stage p u) s = .next (portDone x p) :=
    congrArg Host.Outcome.next ((hat _).trans (congrArg (portDone · p) h))
  have happly {x : State} (h : eaApply p u (noteBusy s) = x) : exec (.apply p u) s = .next (portDone x p) :=
    congrArg Host.Outcome.next ((hat _).trans (congrArg (portDone · p) h))
  have hfence {x : State} (h : eaFence u (noteBusy s) = x) : exec (.fence p u) s = .next (portDone x p) :=
    congrArg Host.Outcome.next ((hat _).trans (congrArg (portDone · p) h))
  refine ⟨fun hreach hk hx => ?_, fun w hreach h1 h2 hw => ?_, fun hst hreach => ?_, fun hreach hk hl => ?_, fun l hreach hk hl hh => ?_,
    fun l w hpm hum hk hreach hl hh hw hloc ht hx hch ho hok => ?_, fun hreach hk hh hv => ?_, fun hreach hk hv hh hclear => ?_⟩
  · exact hread (eaRead_reloads (s := noteBusy s) hb hi hreach hk hx)
  · let x := if (eaOf s u).kind = 1 then touch (noteBusy s) (entryIndex u (eaOf s u)) else noteBusy s
    let y := eaRaise (eaPut x u { eaOf s u with data := w }) u (bit true eaDone)
    have hx : exec (.read p u) s = .next (portDone y p) := hread (eaRead_words (s := noteBusy s) hb hi hreach h1 h2 hw)
    have hu : eaOf y u = { eaOf s u with data := w, status := (eaOf s u).status.raiseAll (bit true eaDone) } := eaOf_eaRaise_eaPut ..
    have hoff : offUnits y = offUnits x := (eaRaise_offUnits ..).trans (eaPut_offUnits ..)
    have hkeep : x.vs.vecs = s.vs.vecs ∧ x.vs.vtes = s.vs.vtes ∧ x.ts = s.ts ∧ x.ctl = s.ctl ∧ x.md = s.md := by
      rcases ite_eq_or_eq ((eaOf s u).kind = 1) (touch (noteBusy s) (entryIndex u (eaOf s u))) (noteBusy s) with h | h <;>
        rw [show x = _ from h] <;> exact ⟨rfl, rfl, rfl, rfl, rfl⟩
    obtain ⟨hvecs, hvtes, hts, hctl, hmd⟩ := hkeep
    obtain ⟨io, hio⟩ := portDone_eq y p
    refine ⟨_, hx.trans (congrArg Host.Outcome.next hio), (congrArg EaUnit.data hu :), ?_, (congrArg EaUnit.lock hu :), (congrArg (fun t => t.vs.vecs) hoff :).trans hvecs,
      (congrArg (fun t => t.vs.vtes) hoff :).trans hvtes, (congrArg State.ts hoff :).trans hts, (congrArg State.ctl hoff :).trans hctl, (congrArg State.md hoff :).trans hmd⟩
    exact (congrArg (fun e => e.status.has eaDone) hu :).trans (Sc.has_raiseAll _ _ (by decide))
  · let y := eaRaise (eaPut (noteBusy s) u { eaOf s u with data := Vector.replicate 8 0 }) u (bit true eaRange ||| bit true eaDone)
    have hx : exec (.read p u) s = .next (portDone y p) := hread (eaRead_out (s := noteBusy s) hb hst hreach)
    have hu : eaOf y u = { eaOf s u with data := Vector.replicate 8 0, status := (eaOf s u).status.raiseAll (bit true eaRange ||| bit true eaDone) } :=
      eaOf_eaRaise_eaPut ..
    have hoff : offUnits y = offUnits (noteBusy s) := (eaRaise_offUnits ..).trans (eaPut_offUnits ..)
    obtain ⟨io, hio⟩ := portDone_eq y p
    refine ⟨_, hx.trans (congrArg Host.Outcome.next hio), (congrArg EaUnit.data hu :), ?_, ?_, (congrArg State.vs hoff :), (congrArg State.ts hoff :), (congrArg State.ctl hoff :)⟩
    · exact (congrArg (fun e => e.status.has eaRange) hu :).trans (Sc.has_raiseAll _ _ (by decide))
    · exact (congrArg (fun e => e.status.has eaDone) hu :).trans (Sc.has_raiseAll _ _ (by decide))
  · exact ⟨hstage ((ifLocked_in (s := noteBusy s) hb hlease hreach (decide_eq_true hk) _).trans (withLock_none (s := noteBusy s) hl ..)),
      happly ((ifLocked_in (s := noteBusy s) hb hlease hreach (decide_eq_true hk) _).trans (withLock_none (s := noteBusy s) hl ..))⟩
  · exact hstage ((ifLocked_in (s := noteBusy s) hb hlease hreach (decide_eq_true hk) _).trans (withLock_held (s := noteBusy s) hl hh _))
  · subst hpm hum
    let i := s.eaM.index.toNat
    let c : Change := { caller := .mgmt, u := some .mgmt, words := l.staged }
    let n := tdTake s i .mgmt (tgtOf s i) w
    let x := eaPut (noteBusy s) .mgmt { s.eaM with lock := some (leaseRestart (noteBusy s) { l with staged := none }), busy := some .applying }
    have hhome : hasHome s 2 i = true := by
      have hin : structured s = true ∧ (hasHome s 2 i && !inDrain s 2 i) = true := by
        unfold entryReach eaReach at hreach
        rw [hk] at hreach
        exact (Bool.and_eq_true _ _).mp hreach
      obtain ⟨-, hin⟩ := hin
      exact Bool.and_elim_left hin
    obtain ⟨y, hsub, hview, hyi⟩ := submitOne_td (s := x) (i := i) hhome ht hx hch c
    have hfu : y.fu = s.fu := (congrArg (fun v => v.1.fu) hview :)
    have htake : tdTake y i .mgmt (tgtOf y i) w = n := by
      rw [hyi]
      exact tdTake_congr hfu ..
    have hy : submitOne x 2 i c = changeReport (tdInstall y i (tgtOf y i) n) c true := by
      rw [hsub, tdApply_ok (w := w) hw]
      · exact congrArg (fun n => changeReport (tdInstall y i (tgtOf y i) n) c true) htake
      · exact (congrArg (tdCheck y i) htake).trans ((tdCheck_congr hfu i n).trans hok)
    have hrecs : openRecs y i = 0 := by
      have ho : y.ar.open_ = s.ar.open_ := (congrArg (fun v => v.1.ar.open_) hview :)
      simpa only [openRecs, ho] using openRecs_of_notInTransfer ht
    have hins : Installed i n y (tdInstall y i (tgtOf y i) n) := tdInstall_shows _ _ hrecs
    let z := changeReport (tdInstall y i (tgtOf y i) n) c true
    have happ : exec (.apply .mgmt .mgmt) s = .next (portDone (fenceAll z) .mgmt) := by
      have h6 : (eaOf s .mgmt).kind ≠ 6 := by
        rw [show (eaOf s .mgmt).kind = 2 from hk]
        decide
      refine happly ((ifLocked_in (s := noteBusy s) (u := .mgmt) hb hlease hreach (decide_eq_true h6) _).trans
        ((withLock_held (s := noteBusy s) (u := .mgmt) hl hh _).trans ?_))
      dsimp only
      rw [rowRead_of_noInject (s := noteBusy s) hi]
      refine congrArg fenceAll (Eq.trans ?_ hy)
      exact congrArg (fun k : BitVec 3 => submitOne x k.toNat i c) hk
    have hz : z.eaM = { (tdInstall y i (tgtOf y i) n).eaM with busy := none, status := (tdInstall y i (tgtOf y i) n).eaM.status.raiseAll (bit true eaDone) } :=
      eaOf_eaRaise_eaPut _ .mgmt _ _
    have hzbusy : z.eaM.busy = none := congrArg EaUnit.busy hz
    have hM := fenceAll_eaM hzbusy
    have hoff : offUnits (fenceAll z) = offUnits (tdInstall y i (tgtOf y i) n) :=
      (fenceAll_offUnits z).trans ((eaRaise_offUnits ..).trans (eaPut_offUnits ..))
    have hts : (fenceAll z).ts = (tdInstall y i (tgtOf y i) n).ts := (congrArg State.ts hoff :)
    have htgt : tgtOf (fenceAll z) i = tgtOf (tdInstall y i (tgtOf y i) n) i := (congrArg (fun v => tgtOf v i) hoff :)
    have hloc' (b : Bool) : ¬ (isLocal i && b) = true := by
      rw [show isLocal i = false from hloc]
      exact Bool.false_ne_true
    have hn : n = { tgtOf s i with threshold := (tdPutCfg (tgtOf s i) w).threshold, enable := (tdPutCfg (tgtOf s i) w).enable, autoCprio := (tdPutCfg (tgtOf s i) w).autoCprio } :=
      if_neg (hloc' _)
    obtain ⟨io, hio⟩ := portDone_eq (fenceAll z) .mgmt
    refine ⟨_, happ.trans (congrArg Host.Outcome.next hio), (congrArg EaUnit.busy hM).trans hzbusy, ?_, ?_, ?_, ?_, ?_, ?_, ?_, ?_⟩
    · refine (congrArg (fun e => e.status.has eaDone) (hM.trans hz) :).trans (Sc.has_raiseAll _ _ (by decide))
    · exact (congrArg Tgt.threshold htgt).trans (hins.threshold.trans (congrArg Tgt.threshold hn :))
    · exact (congrArg Tgt.enable htgt).trans (hins.enable.trans (congrArg Tgt.enable hn :))
    · exact (congrArg Tgt.autoCprio htgt).trans (hins.autoCprio.trans (congrArg Tgt.autoCprio hn :))
    · exact (congrArg Tgt.tenant htgt).trans (hins.tenant.trans (congrArg Tgt.tenant hn :))
    · exact (congrArg State.vs hoff :).trans (hins.vs.trans (congrArg (fun v => v.1.vs) hview :))
    · exact (congrArg TargetStore.lmem hts).trans (hins.lmem.trans (congrArg (fun v => v.1.ts.lmem) hview :))
    · exact (congrArg State.md hoff :).trans (hins.md.trans (congrArg (fun v => v.1.md) hview :))
  · let e := { eaOf s u with busy := some (.fenceRead (entryIndex u (eaOf s u))) }
    let x := eaPut (noteBusy s) u e
    have hl := Logged.fetchVte x (entryIndex u (eaOf s u))
    obtain ⟨io, hio⟩ := portDone_eq (fetchVte x (entryIndex u (eaOf s u))) p
    have hx := hfence (eaFence_off (s := noteBusy s) hb hi hlease hreach hk hh hv)
    have hu : eaOf (fetchVte x (entryIndex u (eaOf s u))) u = e := (congrFun hl.eaOf u).trans (eaOf_eaPut_same ..)
    exact ⟨_, hx.trans (congrArg Host.Outcome.next hio), (congrArg EaUnit.busy hu :), fetchVte_apHas .., (congrArg EaUnit.lock hu :),
      hl.vs.trans (eaPut_vs ..), hl.ts.trans (eaPut_ts ..), hl.ctl.trans (eaPut_ctl ..)⟩
  · obtain ⟨v, hv⟩ := Option.isSome_iff_exists.mp hv
    rw [epochOf_of_on hv] at hclear
    have hx := hfence (eaFence_clear (s := noteBusy s) hb hi hlease hreach hk hh hv hclear)
    let x := eaPut (noteBusy s) u { eaOf s u with busy := some (.fencing (entryIndex u (eaOf s u)) v.epoch) }
    let y := eaRaise (eaPut x u (eaOf s u)) u (bit true eaDone)
    have hu : eaOf y u = { eaOf s u with status := (eaOf s u).status.raiseAll (bit true eaDone) } := eaOf_eaRaise_eaPut ..
    have hoff : offUnits y = offUnits s := (eaRaise_offUnits ..).trans ((eaPut_offUnits ..).trans ((eaPut_offUnits ..).trans rfl))
    obtain ⟨io, hio⟩ := portDone_eq y p
    refine ⟨_, hx.trans (congrArg Host.Outcome.next hio), (congrArg EaUnit.busy hu :).trans hb, ?_, (congrArg EaUnit.lock hu :), (congrArg State.vs hoff :),
      (congrArg State.ts hoff :), (congrArg State.ctl hoff :)⟩
    exact (congrArg (fun e => e.status.has eaDone) hu :).trans (Sc.has_raiseAll _ _ (by decide))

end Sys2Proof

end
section
/-! PROOF. Two-party change: how a proposal opens, ends and is approved (R262 to R274). -/

namespace Sys2Proof.Machine

/-! ### Parties -/

theorem Logged.dcOf {s t : State} (h : Logged s t) : dcOf t = dcOf s := by
  funext p
  cases p with
  | M => exact h.dcM
  | S => exact h.dcS

theorem dcOf_dcPut_ne (s : State) {p q : Party} (d : PartyUnit) (h : q ≠ p) : dcOf (dcPut s p d) q = dcOf s q := by
  cases p <;> cases q <;> first | rfl | exact absurd rfl h

theorem otherParty_ne (p : Party) : otherParty p ≠ p := by cases p <;> decide

theorem otherParty_otherParty (p : Party) : otherParty (otherParty p) = p := by cases p <;> rfl

/-- A write of a party at its own port, in a calm state, is done as activity (R269). -/
theorem partyWrite_calm {s : State} (hc : calm s = true) (p : Party) (addr : BitVec 22) (f : State → State) : partyWrite s p addr f = f (noteBusy s) := by
  have ha := awake_of_calm hc
  cases p with
  | M => exact (portWrite_reached hc (p := .mgmt) (by decide) addr f)
  | S =>
    refine (if_pos ?_).trans (congrArg f (activity_of_calm hc false))
    rw [live_of_awake ha, sleeping_of_awake ha]
    rfl

theorem partyWrite_at {s : State} (hc : calm s = true) (hd : portsDead s = false) (p : Party) (addr : BitVec 22) (f : State → State) :
    writeAt s (partyPort p) (fun s => partyWrite s p addr f) = portDone (f (noteBusy s)) (partyPort p) :=
  (writeAt_of_answers hd ..).trans (congrArg (portDone · _) (partyWrite_calm hc p addr f))

/-! ### The end of a proposal -/

/-- A party's side after its proposal has ended under a flag (R268). -/
def partyEnded (d : PartyUnit) (flag : Nat) : PartyUnit :=
  { d with st := .empty, idLo := 0, idHi := 0, bound := Vector.replicate 16 0, stage := if propKind d = 5 then zeroKeyWords d.stage else d.stage,
           status := d.status.raise flag }

/-- A proposal has ended, and nothing else has changed but the flags, the journal and the instant of activity (R268, R272). -/
structure Ended (s : State) (p : Party) (flag : Nat) (t : State) : Prop where
  party : dcOf t p = partyEnded (dcOf s p) flag
  other : ∀ q, q ≠ p → dcOf t q = dcOf s q
  vs : t.vs = s.vs
  ts : t.ts = s.ts
  ctl : t.ctl = s.ctl
  md : t.md = s.md
  fu : t.fu = s.fu

theorem propEnd_ends (s : State) (p : Party) (flag : Nat) (d : PartyUnit) (code : Byte) (cause : Nat) (w7 : Bool) (result : Nat) :
    Ended s p flag (jnlDc (dcRaise (propEnd s p) p flag) p d code cause w7 result) := by
  have hl : Logged (dcRaise (propEnd s p) p flag) (jnlDc (dcRaise (propEnd s p) p flag) p d code cause w7 result) := Logged.jnl ..
  have hp : dcOf (propEnd s p) p = { partyEnded (dcOf s p) flag with status := (dcOf s p).status } := dcOf_dcPut_same ..
  have hparty : dcOf (dcRaise (propEnd s p) p flag) p = partyEnded (dcOf s p) flag := by
    refine (?_ : dcOf (dcPut (propEnd s p) p { dcOf (propEnd s p) p with status := (dcOf (propEnd s p) p).status.raise flag }) p = _)
    rw [dcOf_dcPut_same, hp]
    rfl
  refine ⟨(congrFun hl.dcOf p).trans hparty, fun q hq => (congrFun hl.dcOf q).trans ?_, hl.vs.trans ?_, hl.ts.trans ?_, hl.ctl.trans ?_, hl.md.trans ?_, hl.fu.trans ?_⟩
  · exact Eq.trans (b := dcOf (propEnd s p) q) (dcOf_dcPut_ne _ _ hq) (dcOf_dcPut_ne _ _ hq)
  all_goals cases p <;> rfl

theorem propClose_ends {s : State} {p : Party} (ho : (dcOf s p).st = .open) (flag : Nat) (code : Byte) (cause : Nat) : Ended s p flag (propClose s p flag code cause) := by
  unfold propClose
  dsimp only
  rw [if_pos ho]
  exact propEnd_ends ..

theorem propClose_of_not_open {s : State} {p : Party} (ho : (dcOf s p).st ≠ .open) (flag : Nat) (code : Byte) (cause : Nat) : propClose s p flag code cause = s := if_neg ho

theorem propDone_ends {s : State} {p : Party} (ho : (dcOf s p).st ≠ .empty) (ok : Bool) : Ended s p (if ok then dcApplied else dcRefused) (propDone s p ok) := by
  unfold propDone
  dsimp only
  rw [if_neg ho]
  exact propEnd_ends ..

theorem Ended.has {s t : State} {p : Party} {flag : Nat} (h : Ended s p flag t) (hf : flag < 24) : (dcOf t p).status.has flag = true := by
  rw [h.party]
  exact Sc.has_raise_self _ hf

theorem Ended.st {s t : State} {p : Party} {flag : Nat} (h : Ended s p flag t) : (dcOf t p).st = .empty := by
  rw [h.party]
  rfl

/-- A port's answer leaves what a command did. -/
theorem Ended.portDone {s t : State} {p : Party} {flag : Nat} (h : Ended s p flag t) (q : Port) : Ended s p flag (portDone t q) := by
  obtain ⟨io, hio⟩ := portDone_eq t q
  rw [hio]
  exact ⟨by cases p <;> exact h.party, fun q hq => by cases q <;> exact h.other _ hq, h.vs, h.ts, h.ctl, h.md, h.fu⟩

/-- The key words that an ended key proposal leaves are zero (R268). -/
theorem wd16_zeroKeyWords {k : Nat} (h2 : 2 ≤ k) (h5 : k ≤ 5) (w : Words16) : wd16 (zeroKeyWords w) k = 0 := by
  have hk : k < 16 := by omega
  simp [wd16, Vector.getD, zeroKeyWords, hk, h2, h5]

theorem dcOf_dcRaise_same (s : State) (p : Party) (f : Nat) : dcOf (dcRaise s p f) p = { dcOf s p with status := (dcOf s p).status.raise f } :=
  dcOf_dcPut_same ..

theorem dcOf_dcRaise_ne (s : State) {p q : Party} (f : Nat) (h : q ≠ p) : dcOf (dcRaise s p f) q = dcOf s q := dcOf_dcPut_ne _ _ h

/-! ### The end of an approved change -/

/-- The fabric manager's proposal is approved and waits, or has been answered (R268). -/
def Answered (s : State) : Prop :=
  s.dcM.st = .approved ∨ s.dcM.st = .empty ∧ (s.dcM.status.has dcApplied = true ∨ s.dcM.status.has dcRefused = true)

namespace Answered
variable {s t : State}

theorem congr (h : Answered s) (hd : t.dcM = s.dcM) : Answered t := by
  unfold Answered
  rw [hd]
  exact h

theorem ite {p : Prop} [Decidable p] (h : Answered s) (k : Answered t) : Answered (if p then s else t) := by
  split
  · exact h
  · exact k

theorem of_ended {ok : Bool} (h : Ended s .M (if ok then dcApplied else dcRefused) t) : Answered t := by
  refine .inr ⟨h.st, ?_⟩
  cases ok with
  | true => exact .inl (h.has (by decide))
  | false => exact .inr (h.has (by decide))

theorem propDone (h : Answered s) (ok : Bool) : Answered (propDone s .M ok) := by
  by_cases he : s.dcM.st = .empty
  · have hs : Machine.propDone s .M ok = s := if_pos he
    rw [hs]
    exact h
  · exact of_ended (propDone_ends (p := .M) he ok)

theorem changeReport (h : Answered s) (c : Change) (ok : Bool) : Answered (changeReport s c ok) := by
  unfold Machine.changeReport
  split
  · exact h.propDone ok
  · next u _ =>
    have hu : (eaRaise (eaPut s u { eaOf s u with busy := none }) u (bit true (if ok then eaDone else eaRefused))).dcM = s.dcM :=
      (congrArg State.dcM ((eaRaise_offUnits ..).trans (eaPut_offUnits ..)) :)
    dsimp only
    split
    · exact h.congr hu
    · exact h.congr hu

theorem changeRefused (h : Answered s) (c : Change) (kind i : Nat) : Answered (changeRefused s c kind i) :=
  (h.congr (entryReject_logged ..).dcM).changeReport c false

theorem changeForeign (h : Answered s) (c : Change) : Answered (changeForeign s c) := by
  unfold Machine.changeForeign
  split
  · exact h
  · exact h.congr (congrArg State.dcM ((eaRaise_offUnits ..).trans (eaPut_offUnits ..)) :)

end Answered

/-! ### An entry's change at its boundary -/

theorem clearUnreach_dcM (s : State) (t : Nat) (always : Bool) : (clearUnreach s t always).dcM = s.dcM := by
  have hw (x : State) : (wdogFix x t).dcM = x.dcM := (congrArg (fun v => v.1.dcM) (wdogFix_streamView x t) :)
  unfold clearUnreach
  dsimp only
  split
  · exact (congrArg (fun v => v.1.dcM) (sendBell_streamView _ t) :).trans (hw _)
  · exact hw _

theorem tdInstall_dcM (s : State) (t : Nat) (g n : Tgt) : (tdInstall s t g n).dcM = s.dcM := by
  have hb (x : State) : (batchEnd x t).dcM = x.dcM := (congrArg (fun v => v.1.dcM) (batchEnd_streamView x t) :)
  have hw (x : State) : (wdogFix x t).dcM = x.dcM := (congrArg (fun v => v.1.dcM) (wdogFix_streamView x t) :)
  have hi (p : Prop) [Decidable p] (a b : State) (ha : a.dcM = s.dcM) (hb : b.dcM = s.dcM) : (if p then a else b).dcM = s.dcM := by
    split
    · exact ha
    · exact hb
  refine Eq.trans (Logged.apRequest ..).dcM ?_
  have h2 := hi ((g.enable && !n.enable) = true) (batchEnd (tgtPut s t (if ringMoves t g n then ringRestart n else n)) t)
    (tgtPut s t (if ringMoves t g n then ringRestart n else n)) (hb _) rfl
  exact hi _ _ _ ((clearUnreach_dcM ..).trans h2) ((hw _).trans h2)

theorem vteInstall_answered {s : State} (hs : Answered s) (h : Nat) (e : Vte) (n : VteCfg) (c : Change) : Answered (vteInstall s h e n c) := by
  have hgens (x : State) (sn : Snap) (same : Bool) : (vteGens x h sn same).dcM = x.dcM := (congrArg (fun v => v.1.dcM) (vteGens_streamView x h sn same) :)
  have hdiscard (x : State) : (vteDiscard x h).dcM = x.dcM := (congrArg (fun v => v.1.dcM) (vteDiscard_streamView x h) :)
  have hpin (x : State) (pin : Bool) : (pinChange x h pin).1.dcM = x.dcM := by
    unfold pinChange
    split
    · rfl
    · split
      · split
        · rfl
        · split <;> rfl
      · rfl
  have hstore (x : State) : (vteStore x h).dcM = x.dcM := by
    unfold vteStore
    split
    · rfl
    · exact (Logged.apRequest ..).dcM
  unfold vteInstall
  extract_lets ep s1 s2 s3 p s4
  have h2 : Answered s2 := hs.congr (hgens s1 ..)
  have h3 : Answered s3 := .ite h2 (h2.congr (hdiscard s2))
  have h4 : Answered s4 := (h3.congr (hpin ..)).congr (hstore ..)
  exact (Answered.ite (h4.congr (entryReject_logged ..).dcM) h4).changeReport c true

theorem vteBoundary_answered (h : Nat) (k : Nat) : ∀ {s : State}, Answered s → Answered (vteBoundary k s h) := by
  induction k with
  | zero => exact fun hs => hs
  | succ n ih =>
    intro s hs
    unfold vteBoundary
    split
    · exact hs
    · split
      · exact hs
      · next c r _ =>
        split
        · exact hs
        · next s1 h1 =>
          refine ih (Answered.congr ?_ rfl)
          cases he : vteOn s h with
          | none =>
            unfold vteApply at h1
            rw [he] at h1
            exact absurd h1 (by simp)
          | some e =>
            rw [vteApply_eq he] at h1
            split at h1
            · exact Option.some.inj h1 ▸ hs.changeForeign c
            · split at h1
              · exact absurd h1 (by simp)
              · split at h1
                · exact Option.some.inj h1 ▸ vteInstall_answered hs ..
                · exact Option.some.inj h1 ▸ hs.changeRefused ..

theorem vteTry_answered {s : State} (hs : Answered s) (h : Nat) : Answered (vteTry s h) := by
  have hq : (enqueue s h).dcM = s.dcM := by
    unfold enqueue
    split <;> rfl
  exact .ite hs (.ite (hs.congr (Logged.fetchVte ..).dcM) (.ite (vteBoundary_answered h _ hs) (hs.congr hq)))

theorem tdBoundary_answered (t : Nat) (k : Nat) : ∀ {s : State}, Answered s → Answered (tdBoundary k s t) := by
  induction k with
  | zero => exact fun hs => hs
  | succ n ih =>
    intro s hs
    unfold tdBoundary
    split
    · exact hs
    · split
      · exact hs
      · next c r _ =>
        refine ih ?_
        have h1 : Answered (tgtPut s t { tgtOf s t with changes := r }) := hs.congr rfl
        exact .ite ((h1.congr (tdInstall_dcM ..)).changeReport c true) (h1.changeRefused c 2 t)

theorem groupApply_answered {s : State} (hs : Answered s) (i : Nat) (c : Change) : Answered (groupApply s i c) := by
  refine .ite (Answered.changeReport ?_ c true) (hs.changeRefused c 3 i)
  exact hs.congr (Logged.apRequest ..).dcM

theorem groupBoundary_answered (g : Nat) (k : Nat) : ∀ {s : State}, Answered s → Answered (groupBoundary k s g) := by
  induction k with
  | zero => exact fun hs => hs
  | succ n ih =>
    intro s hs
    unfold groupBoundary
    split
    · exact hs
    · next c r _ =>
      have h1 : Answered (groupPut s g { groupOf s g with changes := r }) := hs.congr rfl
      exact ih (groupApply_answered h1 ..)

theorem submit_answered {s : State} (hs : Answered s) {kind : Nat} (hk : kind ≤ 3) (i : Nat) (c : Change) : Answered (submit s kind i c) := by
  have hone : Answered (submitOne s kind i c) := by
    unfold submitOne
    split
    · exact hs.changeRefused ..
    next hhome =>
      split
      · refine vteTry_answered ?_ i
        exact hs.congr rfl
      next h1 =>
        split
        · refine tdBoundary_answered i _ ?_
          exact hs.congr rfl
        next h2 =>
          split
          · refine .ite (groupBoundary_answered _ _ ?_) ?_
            · exact hs.congr rfl
            · exact hs.congr rfl
          next h3 =>
            have h0 : kind = 0 := by omega
            rw [h0] at hhome
            exact absurd rfl hhome
  exact hone.congr (congrArg State.dcM (fenceAll_offUnits (submitOne s kind i c)) :)

/-! ### Approval -/

theorem approve_hit {s : State} {p : Party} (ho : (dcOf s p).st = .open) {hi : Word} (hlo : (dcOf s (otherParty p)).approveLo = (dcOf s p).idLo)
    (hhi : hi = (dcOf s p).idHi) : approve (otherParty p) hi s = approveOpen s p (dcOf s p) := by
  unfold approve
  dsimp only
  rw [otherParty_otherParty, ho]
  dsimp only
  rw [decide_eq_true hlo, decide_eq_true hhi]
  rfl

theorem approve_badId {s : State} {p : Party} (ho : (dcOf s p).st = .open) {hi : Word} (hhi : hi ≠ (dcOf s p).idHi) :
    approve (otherParty p) hi s = dcRaise s (otherParty p) dcBadId := by
  unfold approve
  dsimp only
  rw [otherParty_otherParty, ho]
  dsimp only
  rw [decide_eq_false hhi, Bool.and_false]
  rfl

/-- An approved change of an entry goes to its boundary (R268). -/
theorem approveOpen_entry {s : State} {o : Party} {d : PartyUnit} (hk : propKind d ≤ 3) : approveOpen s o d =
    submit (dcPut s o { d with st := .approved }) (propKind d) (wd16 d.bound 1).toNat
      { caller := .party (wd16 d.bound 2), u := none, words := some (stageEntry d.bound) } := if_pos hk

theorem approveOpen_key {s : State} {o : Party} {d : PartyUnit} (hk : propKind d = 5) : approveOpen s o d =
    propDone { s with ts := { s.ts with keys := put s.ts.keys (stageTenant d.bound) (stageKey d.bound) } } o true := by
  unfold approveOpen
  dsimp only
  rw [hk]
  rfl

/-- What an approval of a digest hands to the loader (R108, R268). -/
theorem approveOpen_digest {s : State} {p : Party} (ho : (dcOf s p).st = .open) (hph : s.fu.phase ≠ .await) {a : Approved}
    (ha : propKind (dcOf s p) = 4 ∧ a = .reform (stageDigest (dcOf s p).bound) (BitVec.ofNat 12 (stageTenant (dcOf s p).bound))
      ∨ propKind (dcOf s p) = 6 ∧ a = .furnish (stageDigest (dcOf s p).bound)) :
    approveOpen s p (dcOf s p) = propDone { s with fu := { s.fu with approved := some a } } p true := by
  have hne : (dcOf { s with fu := { s.fu with approved := some a } } p).st ≠ .empty := by
    rw [show (dcOf { s with fu := { s.fu with approved := some a } } p).st = .open from ho]
    exact nofun
  have hfu := (propDone_ends hne true).fu
  have hload : loaderTake (propDone { s with fu := { s.fu with approved := some a } } p true) = propDone { s with fu := { s.fu with approved := some a } } p true :=
    if_neg (by rw [hfu]; exact hph)
  refine Eq.trans ?_ hload
  unfold approveOpen
  dsimp only
  rcases ha with ⟨hk, rfl⟩ | ⟨hk, rfl⟩ <;> rw [hk] <;> rfl

/-- A change of a descriptor with a record in transfer waits (R173). -/
theorem submitOne_td_waits {s : State} {i : Nat} (hhome : hasHome s 2 i = true) (ht : inTransfer s i = true) (hc : (tgtOf s i).changes = []) (c : Change) :
    submitOne s 2 i c = tgtPut s i { tgtOf s i with changes := [c] } := by
  have hs : submitOne s 2 i c = tdBoundary ((tgtOf s i).changes.length + 1) (tgtPut s i { tgtOf s i with changes := (tgtOf s i).changes ++ [c] }) i := by
    refine (if_neg ?_).trans rfl
    rw [hhome]
    exact Bool.false_ne_true
  rw [hs, hc]
  refine if_pos ?_
  rw [show inTransfer (tgtPut s i { tgtOf s i with changes := [] ++ [c] }) i = true from ht]
  rfl

theorem Ended.tgtOf {s t : State} {p : Party} {flag : Nat} (h : Ended s p flag t) (k : Nat) : tgtOf t k = tgtOf s k := by
  simp only [Machine.tgtOf, h.ts, h.fu]

theorem tgtOf_fenceAll (s : State) (k : Nat) : tgtOf (fenceAll s) k = tgtOf s k := (congrArg (fun x => tgtOf x k) (fenceAll_offUnits s) :)

/-- A proposal that is accepted stands open at its proposer, and its peer hears of it (R265, R266). -/
theorem propose_shows {s : State} {p : Party} (hok : proposeOk s p = true) : ∃ d,
    dcOf (propose p s) p = d ∧ d.st = .open ∧ d.bound = (dcOf s p).stage ∧ d.idHi = s.ao.propNum
      ∧ d.windowEnd = satTime (regTime s) (oneMs * dcWindowMs s) ∧ (propose p s).ao.propNum = s.ao.propNum + 1
      ∧ (dcOf (propose p s) (otherParty p)).status.has dcPeerOpened = true ∧ (propose p s).status.has stDcEvent = true
      ∧ (propose p s).vs = s.vs ∧ (propose p s).ts = s.ts ∧ (propose p s).ctl = s.ctl := by
  let d : PartyUnit := { dcOf s p with st := .open, bound := (dcOf s p).stage, idLo := Config.randomWord s.free, idHi := s.ao.propNum,
                                       windowEnd := satTime (regTime s) (oneMs * dcWindowMs s) }
  let s1 := dcPut { s with free := s.free + 1, ao := { s.ao with propNum := s.ao.propNum + 1 } } p d
  let s2 := dcRaise s1 (otherParty p) dcPeerOpened
  have hx : propose p s = jnlDc s2 p d 0x62 0 true 0 := if_pos hok
  have hl : Logged s2 (jnlDc s2 p d 0x62 0 true 0) := Logged.jnl ..
  rw [hx]
  refine ⟨d, ?_, rfl, rfl, rfl, rfl, ?_, ?_, ?_, hl.vs.trans ?_, hl.ts.trans ?_, hl.ctl.trans ?_⟩
  · rw [hl.dcOf]
    exact (dcOf_dcRaise_ne s1 _ (fun h => otherParty_ne p h.symm)).trans (dcOf_dcPut_same ..)
  · rw [hl.ao]
    refine congrArg AoUnit.propNum (Eq.trans (b := s1.ao) ?_ (dcPut_ao _ p d))
    exact dcPut_ao s1 (otherParty p) _
  · rw [hl.dcOf, dcOf_dcRaise_same]
    exact Sc.has_raise_self _ (by decide)
  · exact hl.flags _ (Sc.has_raise_self _ (by decide))
  all_goals cases p <;> rfl

/-- A stage write ends an open proposal and then lands (R268, assumption log 38). -/
theorem stageWrite_open {s : State} {p : Party} (ho : (dcOf s p).st = .open) (n : Fin 16) (w : Word) :
    ∃ x, stageWrite p .plain n w s = dcPut x p { dcOf x p with stage := (dcOf x p).stage.set n w } ∧ Ended s p dcInvalidated x :=
  ⟨_, if_neg (by rw [ho]; exact nofun), propClose_ends ho ..⟩

/-- The descriptor's change of an approved proposal at its boundary (R173, R268). -/
theorem submit_td_party {s : State} {i : Nat} (hst : s.dcM.st = .approved) (hhome : hasHome s 2 i = true) (hr : tdReloading s i = false)
    (hch : (tgtOf s i).changes = []) (m : Word) (w : Words8) :
    let c : Change := { caller := .party m, u := none, words := some w }
    let n := tdTake s i (.party m) (tgtOf s i) w
    (inTransfer s i = true → (submit s 2 i c).dcM.st = .approved ∧ (tgtOf (submit s 2 i c) i).threshold = (tgtOf s i).threshold
      ∧ (tgtOf (submit s 2 i c) i).changes.length = 1)
    ∧ (inTransfer s i = false → tdCheck s i n = true → (submit s 2 i c).dcM.st = .empty ∧ (submit s 2 i c).dcM.status.has dcApplied = true
      ∧ (tgtOf (submit s 2 i c) i).threshold = n.threshold ∧ (tgtOf (submit s 2 i c) i).enable = n.enable
      ∧ (tgtOf (submit s 2 i c) i).tenant = n.tenant ∧ (submit s 2 i c).vs = s.vs)
    ∧ (inTransfer s i = false → tdCheck s i n = false → (submit s 2 i c).dcM.st = .empty ∧ (submit s 2 i c).dcM.status.has dcRefused = true
      ∧ (tgtOf (submit s 2 i c) i).threshold = (tgtOf s i).threshold ∧ (tgtOf (submit s 2 i c) i).enable = (tgtOf s i).enable) := by
  intro c n
  have hdc (x : State) (hx : submitOne s 2 i c = x) : (submit s 2 i c).dcM = x.dcM := by
    rw [← hx]
    exact (congrArg State.dcM (fenceAll_offUnits _) :)
  have htgt (x : State) (hx : submitOne s 2 i c = x) : tgtOf (submit s 2 i c) i = tgtOf x i := by
    rw [← hx]
    exact tgtOf_fenceAll ..
  have hvs (x : State) (hx : submitOne s 2 i c = x) : (submit s 2 i c).vs = x.vs := by
    rw [← hx]
    exact (congrArg State.vs (fenceAll_offUnits _) :)
  refine ⟨fun ht => ?_, fun ht hok => ?_, fun ht hok => ?_⟩
  · have hx := submitOne_td_waits hhome ht hch c
    rw [hdc _ hx, htgt _ hx, tgtOf_tgtPut_same]
    exact ⟨hst, rfl, rfl⟩
  · obtain ⟨y, hsub, hview, hyi⟩ := submitOne_td hhome ht hr hch c
    have hfu : y.fu = s.fu := (congrArg (fun v => v.1.fu) hview :)
    have hrecs : openRecs y i = 0 := by
      have hopen : y.ar.open_ = s.ar.open_ := (congrArg (fun v => v.1.ar.open_) hview :)
      simpa only [openRecs, hopen] using openRecs_of_notInTransfer ht
    have htake : tdTake y i (.party m) (tgtOf y i) w = n := by
      rw [hyi]
      exact tdTake_congr hfu ..
    have hins : Installed i n y (tdInstall y i (tgtOf y i) n) := tdInstall_shows _ _ hrecs
    have hne : (dcOf (tdInstall y i (tgtOf y i) n) .M).st ≠ .empty := by
      have h : (tdInstall y i (tgtOf y i) n).dcM = s.dcM := hins.dcM.trans (congrArg (fun v => v.1.dcM) hview :)
      show (tdInstall y i (tgtOf y i) n).dcM.st ≠ _
      rw [h, hst]
      exact nofun
    have he := propDone_ends hne true
    have hx : submitOne s 2 i c = propDone (tdInstall y i (tgtOf y i) n) .M true := by
      rw [hsub, tdApply_ok (w := w) rfl]
      · exact congrArg (fun n => changeReport (tdInstall y i (tgtOf y i) n) c true) htake
      · exact (congrArg (tdCheck y i) htake).trans ((tdCheck_congr hfu i n).trans hok)
    rw [hdc _ hx, htgt _ hx, hvs _ hx, he.tgtOf]
    exact ⟨he.st, he.has (by decide), hins.threshold, hins.enable, hins.tenant, he.vs.trans (hins.vs.trans (congrArg (fun v => v.1.vs) hview :))⟩
  · obtain ⟨y, hsub, hview, hyi⟩ := submitOne_td hhome ht hr hch c
    have hfu : y.fu = s.fu := (congrArg (fun v => v.1.fu) hview :)
    have hlog := entryReject_logged y 2 i 6 (changeCode c)
    have hne : (dcOf (entryReject y 2 i 6 (changeCode c)) .M).st ≠ .empty := by
      have h : (entryReject y 2 i 6 (changeCode c)).dcM = s.dcM := hlog.dcM.trans (congrArg (fun v => v.1.dcM) hview :)
      show (entryReject y 2 i 6 (changeCode c)).dcM.st ≠ _
      rw [h, hst]
      exact nofun
    have he := propDone_ends hne false
    have hx : submitOne s 2 i c = propDone (entryReject y 2 i 6 (changeCode c)) .M false := by
      rw [hsub, tdApply_refused (w := w) rfl]
      · rfl
      · rw [hyi]
        exact (congrArg (tdCheck y i) (tdTake_congr hfu i _ _ w)).trans ((tdCheck_congr hfu i n).trans hok)
    rw [hdc _ hx, htgt _ hx, he.tgtOf, hlog.tgtOf, hyi]
    exact ⟨he.st, he.has (by decide), rfl, rfl⟩

end Sys2Proof.Machine

namespace Sys2Proof

open Sys2Proof.Machine

/-- Settles O41: a command by the state of the proposal, and an approval by its kind. -/
theorem proposalsOpenAndEnd : Obligations.ProposalsOpenAndEnd := by
  intro s p hc hd
  have hat (q : Party) (addr : BitVec 22) (f : State → State) :
      writeAt s (partyPort q) (fun s => partyWrite s q addr f) = portDone (f (noteBusy s)) (partyPort q) := partyWrite_at hc hd q addr f
  have hend {x : State} {i : Instr} {q : Party} {flag : Nat} {t : State} (hx : exec i s = .next (portDone t (partyPort q))) (he : Ended x p flag t) :
      ∃ t', exec i s = .next t' ∧ Ended x p flag t' := ⟨_, hx, he.portDone _⟩
  refine ⟨fun hok => ?_, fun hok => ?_, fun ho => ⟨?_, fun lo hlo => ?_, fun lo hp hlo => ?_, fun n w => ?_, fun hdue => ?_, fun hi hlo hhi hk => ?_,
    fun hi hlo hhi hph => ?_, fun hi hp hlo hhi => ?_, fun hi hhi => ?_⟩, fun he n w => ⟨?_, ?_⟩⟩
  · have hx : exec (.propose p) s = .next (portDone (propose p (noteBusy s)) (partyPort p)) := congrArg Host.Outcome.next (partyWrite_at hc hd p 0xA00 (propose p))
    obtain ⟨d, hdc, hst, hbound, hid, hwin, hnum, hpeer, hflag, hvs, hts, hctl⟩ := propose_shows (s := noteBusy s) hok
    obtain ⟨io, hio⟩ := portDone_eq (propose p (noteBusy s)) (partyPort p)
    exact ⟨_, hx.trans (congrArg Host.Outcome.next hio), (congrArg PartyUnit.st hdc).trans hst, (congrArg PartyUnit.bound hdc).trans hbound,
      (congrArg PartyUnit.idHi hdc).trans hid, hnum, (congrArg PartyUnit.windowEnd hdc).trans hwin, hpeer, hflag, hvs, hts, hctl⟩
  · have hx : exec (.propose p) s = .next (portDone (propose p (noteBusy s)) (partyPort p)) := congrArg Host.Outcome.next (partyWrite_at hc hd p 0xA00 (propose p))
    refine hx.trans (congrArg (fun t => Host.Outcome.next (portDone t (partyPort p))) (if_neg ?_))
    rw [show proposeOk (noteBusy s) p = false from hok]
    exact Bool.false_ne_true
  · have hx : exec (.withdraw p) s = .next (portDone (withdraw p (noteBusy s)) (partyPort p)) := congrArg Host.Outcome.next (partyWrite_at hc hd p 0xA00 (withdraw p))
    obtain ⟨t, ht, he⟩ := hend hx (propClose_ends (s := noteBusy s) ho ..)
    exact ⟨t, ht, he.st, by rw [he.party]; rfl, by rw [he.party]; rfl, he.has (by decide), he.vs, he.ts, he.ctl⟩
  · have hx : exec (.veto (otherParty p) lo) s = .next (portDone (veto (otherParty p) lo (noteBusy s)) (partyPort (otherParty p))) :=
      congrArg Host.Outcome.next (partyWrite_at hc hd (otherParty p) 0xA00 (veto (otherParty p) lo))
    have hv : veto (otherParty p) lo (noteBusy s) = propClose (noteBusy s) p dcVetoed 0x65 (partyNum (otherParty p)) := by
      unfold veto
      dsimp only
      rw [otherParty_otherParty, show (dcOf (noteBusy s) p).st = .open from ho]
      dsimp only
      refine if_pos ?_
      rw [Bool.or_eq_true, decide_eq_true_eq, decide_eq_true_eq]
      exact hlo
    rw [hv] at hx
    obtain ⟨t, ht, he⟩ := hend hx (propClose_ends (s := noteBusy s) ho ..)
    exact ⟨t, ht, he.st, he.has (by decide), he.vs, he.ts, he.ctl⟩
  · have hv : veto (otherParty p) lo (noteBusy s) = dcRaise (noteBusy s) (otherParty p) dcBadId := by
      unfold veto
      dsimp only
      rw [otherParty_otherParty, show (dcOf (noteBusy s) p).st = .open from ho]
      dsimp only
      refine if_neg ?_
      rw [Bool.or_eq_true, decide_eq_true_eq, decide_eq_true_eq, hp]
      exact fun h => h.elim nofun hlo
    exact congrArg Host.Outcome.next ((partyWrite_at hc hd (otherParty p) 0xA00 _).trans (congrArg (portDone · (partyPort (otherParty p))) hv))
  · obtain ⟨x, hw, he⟩ := stageWrite_open (s := noteBusy s) (p := p) ho n w
    have hform : portForm p .plain = .plain := by cases p <;> rfl
    have hx : exec (.dcStageWrite p .plain n w) s = .next (portDone (dcPut x p { dcOf x p with stage := (dcOf x p).stage.set n w }) (partyPort p)) := by
      refine congrArg Host.Outcome.next ((partyWrite_at hc hd p _ (stageWrite p (portForm p .plain) n w)).trans ?_)
      rw [hform, hw]
    obtain ⟨io, hio⟩ := portDone_eq (dcPut x p { dcOf x p with stage := (dcOf x p).stage.set n w }) (partyPort p)
    have hp : dcOf (dcPut x p { dcOf x p with stage := (dcOf x p).stage.set n w }) p = { dcOf x p with stage := (dcOf x p).stage.set n w } := dcOf_dcPut_same ..
    refine ⟨_, hx.trans (congrArg Host.Outcome.next hio), (congrArg PartyUnit.st hp).trans he.st, (congrArg (fun d => wd16 d.stage n.val) hp).trans (wd16_set_same _ n.isLt w),
      fun hk k h2 h5 hne => ?_, (congrArg (fun d => d.status.has dcInvalidated) hp).trans (he.has (by decide)), ?_, ?_, ?_⟩
    · refine (congrArg (fun d => wd16 d.stage k) hp).trans ((wd16_set_ne _ n.isLt (by omega) (fun h => hne h.symm) w).trans ?_)
      rw [he.party]
      refine (congrArg (wd16 · k) (if_pos hk)).trans (wd16_zeroKeyWords h2 h5 _)
    · exact (dcPut_vs x p _).trans he.vs
    · exact (dcPut_ts x p _).trans he.ts
    · exact (dcPut_ctl x p _).trans he.ctl
  · obtain ⟨x, hx, he⟩ := stirring_from (fun s => propClose s p dcExpired 0x64 1) s
    have hexec : exec (.dcWindowExpiry p) s = .next (propClose x p dcExpired 0x64 1) := by
      refine congrArg Host.Outcome.next ((if_pos ?_).trans he)
      rw [awake_of_calm hc, decide_eq_true hdue]
      rfl
    rw [activity_of_calm hc false] at hx
    rcases hx with rfl | rfl
    · have h := propClose_ends ho dcExpired 0x64 1
      exact ⟨_, hexec, h.st, h.has (by decide), h.vs, h.ts, h.ctl⟩
    · have h := propClose_ends (s := noteBusy s) ho dcExpired 0x64 1
      exact ⟨_, hexec, h.st, h.has (by decide), h.vs, h.ts, h.ctl⟩
  · have hx : exec (.approve (otherParty p) hi) s = .next (portDone (approve (otherParty p) hi (noteBusy s)) (partyPort (otherParty p))) :=
      congrArg Host.Outcome.next (hat (otherParty p) 0xA14 (approve (otherParty p) hi))
    let y : State := { noteBusy s with ts := { s.ts with keys := put s.ts.keys (stageTenant (dcOf s p).bound) (stageKey (dcOf s p).bound) } }
    have hne : (dcOf y p).st ≠ .empty := by
      rw [show (dcOf y p).st = .open from ho]
      exact nofun
    have ha : approve (otherParty p) hi (noteBusy s) = propDone y p true :=
      (approve_hit (s := noteBusy s) (p := p) ho hlo hhi).trans (approveOpen_key hk)
    rw [ha] at hx
    obtain ⟨t, ht, he⟩ := hend hx (propDone_ends hne true)
    refine ⟨t, ht, he.st, he.has (by decide), ?_, fun k h2 h5 => ?_, he.vs, (congrArg TargetStore.targets he.ts :), he.ctl⟩
    · unfold keyOf
      rw [he.ts]
      exact congrArg (Option.getD · 0) (find_put_same ..)
    · rw [he.party]
      exact (congrArg (wd16 · k) (if_pos hk)).trans (wd16_zeroKeyWords h2 h5 _)
  · have happ (a : Approved) (ha : propKind (dcOf s p) = 4 ∧ a = .reform (stageDigest (dcOf s p).bound) (BitVec.ofNat 12 (stageTenant (dcOf s p).bound))
        ∨ propKind (dcOf s p) = 6 ∧ a = .furnish (stageDigest (dcOf s p).bound)) :
        ∃ t, exec (.approve (otherParty p) hi) s = .next t ∧ (dcOf t p).st = .empty ∧ (dcOf t p).status.has dcApplied = true
          ∧ t.fu = { s.fu with approved := some a } ∧ t.vs = s.vs ∧ t.ts = s.ts ∧ t.ctl = s.ctl := by
      have hx : exec (.approve (otherParty p) hi) s = .next (portDone (approve (otherParty p) hi (noteBusy s)) (partyPort (otherParty p))) :=
      congrArg Host.Outcome.next (hat (otherParty p) 0xA14 (approve (otherParty p) hi))
      let y : State := { noteBusy s with fu := { s.fu with approved := some a } }
      have hne : (dcOf y p).st ≠ .empty := by
        rw [show (dcOf y p).st = .open from ho]
        exact nofun
      have hap : approve (otherParty p) hi (noteBusy s) = propDone y p true :=
        (approve_hit (s := noteBusy s) (p := p) ho hlo hhi).trans (approveOpen_digest (s := noteBusy s) ho hph ha)
      rw [hap] at hx
      obtain ⟨t, ht, he⟩ := hend hx (propDone_ends hne true)
      exact ⟨t, ht, he.st, he.has (by decide), he.fu, he.vs, he.ts, he.ctl⟩
    exact ⟨fun hk => happ _ (.inl ⟨hk, rfl⟩), fun hk => happ _ (.inr ⟨hk, rfl⟩)⟩
  · subst hp
    let y : State := { noteBusy s with dcM := { s.dcM with st := .approved } }
    let c : Change := { caller := .party (wd16 s.dcM.bound 2), u := none, words := some (stageEntry s.dcM.bound) }
    have happ (hk : propKind s.dcM ≤ 3) :
        exec (.approve .S hi) s = .next (portDone (submit y (propKind s.dcM) (wd16 s.dcM.bound 1).toNat c) .sec) :=
      congrArg Host.Outcome.next ((hat .S 0xA14 (approve .S hi)).trans (congrArg (portDone · .sec)
        ((approve_hit (s := noteBusy s) (p := .M) ho hlo hhi).trans (approveOpen_entry hk))))
    obtain ⟨io, hio⟩ : ∃ io : State → PortUnit, ∀ z, portDone z .sec = { z with io := io z } := ⟨fun z => (portDone z .sec).io, fun z => rfl⟩
    refine ⟨fun hk => ?_, fun x hk hx hhome hch hrel => ?_⟩
    · have hsteady : Steady y (submit y (propKind s.dcM) (wd16 s.dcM.bound 1).toNat c) := .of_inner (submit_inner (δ := noGain) _ _ c (Inner.refl y))
      exact ⟨_, (happ hk).trans (congrArg Host.Outcome.next (hio _)), hsteady.ctl, hsteady.md, submit_answered (s := y) (.inl rfl) hk _ c⟩
    · have hsub := submit_td_party (s := y) (i := x) rfl hhome hrel hch (wd16 s.dcM.bound 2) (stageEntry s.dcM.bound)
      have happ2 : exec (.approve .S hi) s = .next { submit y 2 x c with io := io (submit y 2 x c) } := by
        have h := (happ (by omega)).trans (congrArg Host.Outcome.next (hio _))
        rwa [hk, hx] at h
      obtain ⟨hwait, hok, href⟩ := hsub
      refine ⟨fun ht => ⟨_, happ2, hwait ht⟩, fun ht hcheck => ?_, fun ht hcheck => ⟨_, happ2, href ht hcheck⟩⟩
      obtain ⟨hst, hflag, hthr, hen, hten, hvs⟩ := hok ht hcheck
      exact ⟨_, happ2, hst, hflag, hthr, hen, hten, congrArg VecStore.vtes hvs⟩
  · exact congrArg Host.Outcome.next ((partyWrite_at hc hd (otherParty p) 0xA14 _).trans
      (congrArg (portDone · (partyPort (otherParty p))) (approve_badId (s := noteBusy s) ho hhi)))
  · have hform : portForm p .plain = .plain := by cases p <;> rfl
    have hw : stageWrite p .plain n w (noteBusy s) = dcPut (noteBusy s) p { dcOf s p with stage := (dcOf s p).stage.set n w } := by
      have hne : (dcOf (noteBusy s) p).st ≠ .approved := by
        rw [show (dcOf (noteBusy s) p).st = .empty from he]
        exact nofun
      refine (if_neg hne).trans ?_
      dsimp only
      rw [propClose_of_not_open (s := noteBusy s) (by rw [show (dcOf (noteBusy s) p).st = .empty from he]; exact nofun)]
      rfl
    refine congrArg Host.Outcome.next ((partyWrite_at hc hd p _ (stageWrite p (portForm p .plain) n w)).trans ?_)
    rw [hform, hw]
  · exact congrArg Host.Outcome.next ((partyWrite_at hc hd p 0xA00 _).trans (congrArg (portDone · (partyPort p))
      (propClose_of_not_open (s := noteBusy s) (by rw [show (dcOf (noteBusy s) p).st = .empty from he]; exact nofun) ..)))

end Sys2Proof

end
section
/-! PROOF. What follows the inputs of a ranking round: its decisions, streams and boundaries leave what the inputs made of the vector (R143, R154 to
R156, R227). -/

namespace Sys2Proof.Machine

/-! ### The rest of a vector -/

/-- An event without its place in a group's hold and in a stream. -/
def evRest (ev : Ev) : Ev := { ev with released := false, wasHeld := false, stream := none, first := none }

/-- A vector without what decisions, streams and outcomes change. -/
def vecRest (v : Vec) : Vec :=
  { v with ev := v.ev.map evRest, evNew := v.evNew.map evRest, active := v.active.map fun a => { a with accepted := false }, outcome := none, sleptAt := none }

def vecsRest (s : State) (k : Nat) : Vec := vecRest (vecOf s k)

theorem vecsRest_of_vecs {s t : State} (h : t.vs.vecs = s.vs.vecs) : vecsRest t = vecsRest s := by
  funext k
  simp only [vecsRest, vecOf, h]

theorem vecPut_vecsRest {s : State} {h : Nat} {v : Vec} (hv : vecRest v = vecRest (vecOf s h)) : vecsRest (vecPut s h v) = vecsRest s := by
  funext k
  show vecRest (vecOf (vecPut s h v) k) = vecRest (vecOf s k)
  by_cases hk : k = h
  · rw [hk, vecOf_vecPut_same, hv]
  · rw [vecOf_vecPut_ne s v hk]

theorem vecsRest_ite {p : Prop} [Decidable p] {s a b : State} (ha : vecsRest a = vecsRest s) (hb : vecsRest b = vecsRest s) :
    vecsRest (if p then a else b) = vecsRest s := by
  split
  · exact ha
  · exact hb

theorem find_map_snd {α : Type} (f : α → α) (k : Nat) : ∀ l : List (Nat × α), find (l.map fun e => (e.1, f e.2)) k = (find l k).map f
  | [] => rfl
  | (i, a) :: r => by
    simp only [List.map_cons, find]
    split
    · rfl
    · exact find_map_snd f k r

/-- A change made to every vector that has state shows in each. -/
theorem vecOf_map {s t : State} {f : Vec → Vec} (ht : t.vs.vecs = s.vs.vecs.map fun e => (e.1, f e.2)) (h0 : f vecZero = vecZero) (k : Nat) :
    vecOf t k = f (vecOf s k) := by
  unfold vecOf
  rw [ht, find_map_snd]
  cases find s.vs.vecs k with
  | none => exact h0.symm
  | some v => rfl

/-! ### Streams -/

theorem Logged.vecsRest {s t : State} (h : Logged s t) : vecsRest t = vecsRest s := vecsRest_of_vecs (congrArg VecStore.vecs h.vs)

theorem bellView_vecsRest {s t : State} (h : bellView t = bellView s) : vecsRest t = vecsRest s := vecsRest_of_vecs (congrArg (fun v => v.1.vs.vecs) h :)

theorem enqueue_vecsRest (s : State) (h : Nat) : vecsRest (enqueue s h) = vecsRest s := by
  obtain ⟨q, hq⟩ := enqueue_rest s h
  rw [hq]
  rfl

theorem roundCompare_vs (s : State) (h : BitVec 24) (check : PlaneCheck) : (roundCompare s h check).1.vs = s.vs := by
  have hc (x : State) (hx : x.vs = s.vs) (src : BitVec 8) (arg : BitVec 24) (inj : Bool) : (corrected x src arg inj).vs = s.vs :=
    (congrArg State.vs (corrected_offJournal x src arg inj :) :).trans hx
  unfold roundCompare
  dsimp only
  split
  · split <;> rfl
  · split
    · rfl
    · split
      · exact hc (injectSpent s) rfl ..
      · split
        · rfl
        · split
          · rfl
          · cases check with
            | retryAgrees => exact hc s rfl ..
            | agree | residueError | disagree => rfl

theorem acceptVec_vecsRest (s : State) (h : Nat) : vecsRest (acceptVec s h) = vecsRest s := by
  unfold acceptVec
  dsimp only
  split
  next a ha =>
    refine vecPut_vecsRest ?_
    simp only [vecRest, ha, Option.map_some]
  next => rfl

theorem outcomeGather_vecsRest (s : State) (h : Nat) (ok : Bool) : vecsRest (outcomeGather s h ok) = vecsRest s :=
  (enqueue_vecsRest ..).trans (vecPut_vecsRest rfl)

theorem outcomeAt_vecsRest (s : State) (h : Nat) (ok : Bool) : vecsRest (outcomeAt s h ok acceptVec) = vecsRest s := by
  have hc : vecsRest (roundCompare s (BitVec.ofNat 24 h) .agree).1 = vecsRest s := vecsRest_of_vecs (congrArg VecStore.vecs (roundCompare_vs ..))
  unfold outcomeAt
  dsimp only
  split
  · exact outcomeGather_vecsRest ..
  · split
    · exact (acceptVec_vecsRest ..).trans hc
    · exact (outcomeGather_vecsRest ..).trans hc

theorem addDelivered_vecsRest (s : State) (h t : Nat) : vecsRest (addDelivered s h t) = vecsRest s := by
  unfold addDelivered
  split <;> rfl

theorem acceptOne_vecsRest (t : Nat) (s : State) (h : Nat) : vecsRest (acceptOne t s h) = vecsRest s := by
  have ho := outcomeAt_vecsRest s h true
  unfold acceptOne
  dsimp only
  split
  · exact (Logged.fetchVte ..).vecsRest.trans ((addDelivered_vecsRest ..).trans ho)
  · exact (addDelivered_vecsRest ..).trans ho

theorem acceptRecs_vecsRest (s : State) (t : Nat) (hs : List Nat) : vecsRest (acceptRecs s t hs) = vecsRest s :=
  (bellView_vecsRest (wdogFix_bellView ..)).trans (forEach_view (v := vecsRest) (acceptOne_vecsRest t) hs s)

theorem issuedRecs_vs (s : State) (w : OpenWrite) : (issuedRecs s w).vs = s.vs := by
  refine forEach_view (v := State.vs) (fun x o => ?_) w.recs _
  have hl : (lateRec x w.target.toNat o (now s)).vs = x.vs := by
    unfold lateRec
    split
    · exact (Logged.jnlRated ..).vs
    · rfl
  have hc (y : State) : (coalRec y o).vs = y.vs := by
    unfold coalRec
    split <;> rfl
  have hs (y : State) : (strobe y).vs = y.vs := by
    unfold strobe
    split <;> rfl
  exact (hs _).trans ((hc _).trans hl)

theorem closeWrite_vecsRest (s : State) : vecsRest (closeWrite s) = vecsRest s := by
  unfold closeWrite
  split
  · rfl
  next w _ =>
    have hi : vecsRest (issuedRecs s w) = vecsRest s := vecsRest_of_vecs (congrArg VecStore.vecs (issuedRecs_vs s w))
    dsimp only
    split
    · rfl
    · split
      · exact (acceptRecs_vecsRest ..).trans hi
      · split
        · exact hi
        · rfl

theorem closeWriteOf_vecsRest (s : State) (t : Nat) : vecsRest (closeWriteOf s t) = vecsRest s := by
  unfold closeWriteOf
  split
  · exact vecsRest_ite (closeWrite_vecsRest s) rfl
  · rfl

theorem batchEnd_vecsRest (s : State) (t : Nat) : vecsRest (batchEnd s t) = vecsRest s := by
  have hc := closeWriteOf_vecsRest s t
  unfold batchEnd
  split
  · rfl
  · exact vecsRest_ite ((bellView_vecsRest (sendBell_bellView ..)).trans hc) hc

theorem heapRefill_vecsRest (s : State) : vecsRest (heapRefill s) = vecsRest s := by
  unfold heapRefill
  split
  · split <;> rfl
  · rfl

theorem settleStream_vecsRest (s : State) (t : Nat) : vecsRest (settleStream s t) = vecsRest s := by
  unfold settleStream
  dsimp only
  split
  · refine (heapRefill_vecsRest _).trans ((batchEnd_vecsRest ..).trans ?_)
    split <;> rfl
  · rfl

theorem leaveStream_vecsRest (s : State) (h : Nat) : vecsRest (leaveStream s h) = vecsRest s := by
  unfold leaveStream
  dsimp only
  split
  · rfl
  next ev hev =>
    split
    · rfl
    next t _ =>
      refine (settleStream_vecsRest ..).trans ((vecPut_vecsRest (s := noteBusy s) ?_).trans rfl)
      show vecRest { vecOf s h with ev := some { ev with stream := none } } = vecRest (vecOf s h)
      simp only [vecRest, hev, Option.map_some]
      rfl

theorem joinStream_vecsRest (s : State) (h t : Nat) : vecsRest (joinStream s h t) = vecsRest s := by
  unfold joinStream
  extract_lets v
  split
  · rfl
  next ev hev =>
    have h1 (f : Option (BitVec 16)) : vecsRest (vecPut s h { vecOf s h with ev := some { ev with stream := some (BitVec.ofNat 16 t), first := f } }) = vecsRest s := by
      refine vecPut_vecsRest ?_
      simp only [vecRest, show (vecOf s h).ev = some ev from hev, Option.map_some]
      rfl
    exact vecsRest_ite (h1 _) (vecsRest_ite (h1 _) (h1 _))

/-! ### What a round's end leaves -/

/-- What the end of a round leaves: the rest of every vector, the active-priority masks, the changes that wait, the vat, the modes and time. -/
def decView (s : State) : (Nat → Vec) × (Nat → BitVec 64) × (Nat → List Change × List (Nat × Change) × List Change) × VatUnit × ModeUnit × CtlRegs × TimeUnit :=
  (vecsRest s, fun k => (tgtOf s k).amask, fun k => ((tgtOf s k).changes, (groupOf s k).changes, (couchOf s k).changes), s.vat, s.md, s.ctl, s.tm)

theorem decView_of_streamView {s t : State} (h : streamView t = streamView s) (hv : vecsRest t = vecsRest s) : decView t = decView s := by
  have ho : offStreams t = offStreams s := congrArg Prod.fst h
  have hg (k : Nat) : tgtRest (tgtOf t k) = tgtRest (tgtOf s k) := congrFun (congrArg (fun v => v.2.2) h) k
  have ha : (fun k => (tgtOf t k).amask) = fun k => (tgtOf s k).amask := funext fun k => (congrArg Tgt.amask (hg k) :)
  have hgr : t.ts.groups = s.ts.groups := (congrArg (fun x => x.ts.groups) ho :)
  have hco : t.ts.couches = s.ts.couches := (congrArg (fun x => x.ts.couches) ho :)
  have hfu : t.fu = s.fu := (congrArg State.fu ho :)
  have hb : (fun k => ((tgtOf t k).changes, (groupOf t k).changes, (couchOf t k).changes))
      = fun k => ((tgtOf s k).changes, (groupOf s k).changes, (couchOf s k).changes) := by
    funext k
    have h1 : (tgtOf t k).changes = (tgtOf s k).changes := (congrArg Tgt.changes (hg k) :)
    have h2 : groupOf t k = groupOf s k := by simp only [groupOf, hgr]
    have h3 : couchOf t k = couchOf s k := by simp only [couchOf, hco, hfu]
    rw [h1, h2, h3]
  have hr : (t.vat, t.md, t.ctl, t.tm) = (s.vat, s.md, s.ctl, s.tm) := (congrArg (fun x => (x.vat, x.md, x.ctl, x.tm)) ho :)
  unfold decView
  rw [hv, ha, hb, hr]

theorem Logged.decView {s t : State} (h : Logged s t) : decView t = decView s := decView_of_streamView h.streamView h.vecsRest

theorem decView_ite {p : Prop} [Decidable p] {s a b : State} (ha : decView a = decView s) (hb : decView b = decView s) : decView (if p then a else b) = decView s := by
  split
  · exact ha
  · exact hb

theorem vecPut_decView {s : State} {h : Nat} {v : Vec} (hv : vecRest v = vecRest (vecOf s h)) : decView (vecPut s h v) = decView s :=
  decView_of_streamView (vecPut_streamView ..) (vecPut_vecsRest hv)

theorem tgtPut_decView {s : State} {t : Nat} {g : Tgt} (ha : g.amask = (tgtOf s t).amask) (hc : g.changes = (tgtOf s t).changes) :
    decView (tgtPut s t g) = decView s := by
  have hg (k : Nat) : (tgtOf (tgtPut s t g) k).amask = (tgtOf s k).amask ∧ (tgtOf (tgtPut s t g) k).changes = (tgtOf s k).changes := by
    by_cases hk : k = t
    · rw [hk, tgtOf_tgtPut_same]
      exact ⟨ha, hc⟩
    · rw [tgtOf_tgtPut_ne s g hk]
      exact ⟨rfl, rfl⟩
  have h1 : (fun k => (tgtOf (tgtPut s t g) k).amask) = fun k => (tgtOf s k).amask := funext fun k => (hg k).1
  have h2 : (fun k => (tgtOf (tgtPut s t g) k).changes) = fun k => (tgtOf s k).changes := funext fun k => (hg k).2
  have h3 : (fun k => ((tgtOf (tgtPut s t g) k).changes, (groupOf s k).changes, (couchOf s k).changes))
      = fun k => ((tgtOf s k).changes, (groupOf s k).changes, (couchOf s k).changes) := by
    funext k
    rw [congrFun h2 k]
  show (vecsRest s, (fun k => (tgtOf (tgtPut s t g) k).amask), (fun k => ((tgtOf (tgtPut s t g) k).changes, (groupOf s k).changes, (couchOf s k).changes)),
    s.vat, s.md, s.ctl, s.tm) = decView s
  rw [h1, h3]
  rfl

theorem groupPut_decView {s : State} {g : Nat} {x : Group} (hc : x.changes = (groupOf s g).changes) : decView (groupPut s g x) = decView s := by
  have h3 : (fun k => ((tgtOf s k).changes, (groupOf (groupPut s g x) k).changes, (couchOf s k).changes))
      = fun k => ((tgtOf s k).changes, (groupOf s k).changes, (couchOf s k).changes) := by
    funext k
    by_cases hk : k = g
    · rw [hk, groupOf_groupPut_same, hc]
    · simp only [groupOf, groupPut, find_put_ne hk]
  exact congrArg (fun b => (vecsRest s, (fun k => (tgtOf s k).amask), b, s.vat, s.md, s.ctl, s.tm)) h3

theorem couchPut_decView {s : State} {g : Nat} {c : Couch} (hc : c.changes = (couchOf s g).changes) : decView (couchPut s g c) = decView s := by
  have h3 : (fun k => ((tgtOf s k).changes, (groupOf s k).changes, (couchOf (couchPut s g c) k).changes))
      = fun k => ((tgtOf s k).changes, (groupOf s k).changes, (couchOf s k).changes) := by
    funext k
    by_cases hk : k = g
    · rw [hk, couchOf_couchPut_same, hc]
    · simp only [couchOf, couchPut, find_put_ne hk]
  exact congrArg (fun b => (vecsRest s, (fun k => (tgtOf s k).amask), b, s.vat, s.md, s.ctl, s.tm)) h3

/-! ### Decisions of groups -/

theorem couchRelease_decView (s : State) (g : Nat) : decView (couchRelease s g) = decView s := by
  let f (v : Vec) : Vec := { v with ev := v.ev.map (evRelease g), evNew := v.evNew.map (evRelease g) }
  let x : State := { s with vs := { s.vs with vecs := s.vs.vecs.map fun e => (e.1, f e.2) } }
  have hev (o : Option Ev) : (o.map (evRelease g)).map evRest = o.map evRest := by
    have hr (ev : Ev) : evRest (evRelease g ev) = evRest ev := by
      unfold evRelease
      split <;> rfl
    cases o with
    | none => rfl
    | some ev => exact congrArg some (hr ev)
  have hf (v : Vec) : vecRest (f v) = vecRest v := by
    simp only [vecRest, f, hev]
  have hx : vecsRest x = vecsRest s := by
    funext k
    exact (congrArg vecRest (vecOf_map (s := s) (t := x) (f := f) rfl rfl k)).trans (hf _)
  have h1 : decView x = decView s := congrArg (fun v => (v, (decView s).2)) hx
  exact (couchPut_decView (s := x) (g := g) (c := { couchOf x g with held := 0 }) rfl).trans h1

theorem couchCalendar_decView (s : State) (g : Nat) : decView (couchCalendar s g) = decView s := by
  obtain ⟨c, w, he⟩ := couchCalendar_eq s g
  rw [he]
  rfl

theorem couchWindow_decView {s x : State} (hx : decView x = decView s) (g : Nat) (w : Option Nat) :
    decView (couchPut x g { couchOf x g with window := w }) = decView s :=
  (couchPut_decView (c := { couchOf x g with window := w }) rfl).trans hx

/-- The state of a hold-off group once a window that has run out has ended (R228). -/
def windowEnded (s : State) (g : Nat) : State :=
  match (couchOf s g).window with
  | some e =>
    if e ≤ now s then
      if (couchOf s g).held ≠ 0 then couchPut (couchRelease s g) g { couchOf (couchRelease s g) g with window := some (windowEnd (couchOf s g) e) }
      else couchPut s g { couchOf s g with window := none }
    else s
  | none => s

theorem windowEnded_decView (s : State) (g : Nat) : decView (windowEnded s g) = decView s := by
  unfold windowEnded
  split
  · exact decView_ite (decView_ite (couchWindow_decView (couchRelease_decView s g) ..) (couchWindow_decView rfl ..)) rfl
  · rfl

theorem holdoffDecision_decView (s : State) (g : Nat) (merged : Option Nat) : decView (holdoffDecision s g merged) = decView s := by
  have h1 := windowEnded_decView s g
  have he : holdoffDecision s g merged = match (couchOf (windowEnded s g) g).window, merged with
      | none, some t =>
        couchPut (couchRelease (windowEnded s g) g) g { couchOf (couchRelease (windowEnded s g) g) g with window := some (windowEnd (couchOf s g) t) }
      | _, _ => windowEnded s g := rfl
  rw [he]
  generalize windowEnded s g = x at h1
  split
  · exact couchWindow_decView ((couchRelease_decView x g).trans h1) ..
  · exact h1

theorem countTimeDecision_decView (s : State) (g : Nat) : decView (countTimeDecision s g) = decView s := by
  unfold countTimeDecision
  refine decView_ite rfl ?_
  split
  · exact decView_ite (couchRelease_decView s g) rfl
  · exact decView_ite (couchRelease_decView s g) rfl

theorem couchDecide_decView (s : State) (g : Nat) (merged : Option Nat) : decView (couchDecide s g merged) = decView s := by
  refine (couchCalendar_decView ..).trans (decView_ite (holdoffDecision_decView ..) (decView_ite (countTimeDecision_decView ..) ?_))
  exact couchWindow_decView (couchRelease_decView s g) ..

/-! ### No change waits -/

/-- No change waits at a boundary. -/
def NoChanges (s : State) : Prop := ∀ k, (tgtOf s k).changes = [] ∧ (groupOf s k).changes = [] ∧ (couchOf s k).changes = []

theorem noChanges_of_decView {s t : State} (h : decView t = decView s) (hs : NoChanges s) : NoChanges t := by
  intro k
  have hb := congrFun (congrArg (fun v => v.2.2.1) h) k
  obtain ⟨h1, h2, h3⟩ := hs k
  exact ⟨(congrArg (·.1) hb :).trans h1, (congrArg (·.2.1) hb :).trans h2, (congrArg (·.2.2) hb :).trans h3⟩

theorem noChanges_of_noWaits {s : State} (h : noWaits s = true) : NoChanges s := by
  intro k
  refine ⟨tgtOf_changes_of_noWaits h k, ?_, ?_⟩
  · simp only [noWaits, Bool.and_eq_true, List.all_eq_true, List.isEmpty_iff] at h
    obtain ⟨⟨-, hg⟩, -⟩ := h
    unfold groupOf
    cases hf : find s.ts.groups k with
    | none => rfl
    | some g => exact hg _ (mem_of_find hf)
  · simp only [noWaits, Bool.and_eq_true, List.all_eq_true, List.isEmpty_iff] at h
    obtain ⟨-, hc⟩ := h
    unfold couchOf
    split
    next c hf => exact hc _ (mem_of_find hf)
    next => rfl

theorem couchDecision_decView {s : State} (h : NoChanges s) (g : Nat) (merged : Option Nat) : decView (couchDecision s g merged) = decView s := by
  rw [couchDecision_of_none (h g).2.2]
  exact couchDecide_decView ..

theorem settleAll_of_noChanges {s : State} (h : NoChanges s) : settleAll s = fenceAll s := by
  unfold settleAll
  dsimp only
  have hg : ∀ k, groupTry s k = s := fun k => by
    unfold groupTry groupSettle
    rw [(h k).2.1]
    exact ite_self ..
  have hc : ∀ k, couchTry s k = s := fun k => by
    unfold couchTry
    rw [(h k).2.2]
    exact ite_self ..
  rw [forEach_id (f := fun x t => tdBoundary (tgtOf x t).changes.length x t) _ fun k _ => by rw [(h k).1]; rfl,
    forEach_id (f := groupTry) _ fun k _ => hg k, forEach_id (f := couchTry) _ fun k _ => hc k]

theorem fenceAll_decView (s : State) : decView (fenceAll s) = decView s := (congrArg decView (fenceAll_offUnits s) :)

theorem settleAll_decView {s : State} (h : NoChanges s) : decView (settleAll s) = decView s := by
  rw [settleAll_of_noChanges h]
  exact fenceAll_decView s

end Sys2Proof.Machine
end
section
/-! PROOF. The shape of a ranking round that nothing delays: its inputs, then its end (R142, R143, R164). -/

namespace Sys2Proof.Machine

/-! ### The round that a command runs -/

/-- A round that nothing comes before, and whose planes agree, commits (R142, R164). -/
theorem rankRound_ready {s : State} {h : BitVec 24} (hu : undisturbed s = true) (hr : roundReady s h.toNat = true) :
    rankRound s h .agree = roundCommit s h.toNat := by
  simp only [undisturbed, Bool.and_eq_true, Option.isNone_iff_eq_none] at hu
  obtain ⟨⟨hi, ht⟩, hf⟩ := hu
  simp only [roundReady, Bool.and_eq_true, List.isEmpty_iff] at hr
  obtain ⟨⟨⟨⟨hahead, hrisen⟩, -⟩, -⟩, -⟩ := hr
  have hat : roundAt s h.toNat = roundCommit s h.toNat := by
    unfold roundAt
    rw [unlessFatal_of_none hf, cacheRead_of_noInject hi, unlessFatal_of_none hf]
  have hrank : rankRound s h .agree = laneRounds s h.toNat := by
    unfold rankRound
    rw [roundCompare_quiet hi ht]
    rfl
  rw [hrank]
  unfold laneRounds
  rw [hahead]
  show roundRisen s h.toNat = _
  unfold roundRisen
  rw [hrisen]
  exact hat

theorem execRankingRound_ready {s : State} {h : BitVec 24} (hd : rounding s = true) (hu : undisturbed s = true) (hr : roundReady s h.toNat = true) :
    exec (.rankingRound h .agree) s = .next (roundCommit s h.toNat) :=
  congrArg Host.Outcome.next ((if_pos hd).trans (rankRound_ready hu hr))

/-! ### The start of a round -/

/-- The state in which a round takes its vector's inputs: the vector has left its lane, and the latched events have their time (R143, R214). -/
def roundStart (s : State) (h : Nat) : State := stampSlept (dequeue s h)

/-- The state without what the start of a round changes. -/
def offStart (s : State) : State :=
  { s with vs := { s.vs with vecs := [], queue := [] }, ar := { s.ar with busyAt := 0 }, ws := { s.ws with roundDue := false } }

theorem roundStart_offStart (s : State) (h : Nat) : offStart (roundStart s h) = offStart s := by
  have hd : offStart (dequeue s h) = offStart s := by
    unfold dequeue
    split <;> rfl
  refine Eq.trans ?_ hd
  unfold roundStart stampSlept
  split <;> rfl

/-- A vector without the time of its latched events. -/
def vecUnstamped (v : Vec) : Vec := { v with sleptAt := none }

theorem roundStart_vecOf (s : State) (h k : Nat) : vecUnstamped (vecOf (roundStart s h) k) = vecUnstamped (vecOf s k) := by
  have hd : vecOf (dequeue s h) k = vecOf s k := by
    unfold dequeue
    split <;> rfl
  rw [← hd]
  unfold roundStart stampSlept
  split
  · let f (v : Vec) : Vec := if decide (0 < v.slept) && v.sleptAt.isNone then { v with sleptAt := some (now (dequeue s h)) } else v
    refine (congrArg vecUnstamped (vecOf_map (s := dequeue s h) (f := f) rfl rfl k)).trans ?_
    show vecUnstamped (if _ then _ else _ : Vec) = _
    split <;> rfl
  · rfl

theorem roundStart_decView (s : State) (h : Nat) : decView (roundStart s h) = decView s := by
  have ho := roundStart_offStart s h
  have hv : vecsRest (roundStart s h) = vecsRest s := by
    funext k
    exact (congrArg vecRest (roundStart_vecOf s h k) :)
  have ht : (decView (roundStart s h)).2 = (decView s).2 := (congrArg (fun x => (decView x).2) ho :)
  exact Prod.ext hv ht

theorem not_mem_roundStart_queue {s : State} {h : Nat} (hi : s.ctl.ingressEn = true ∨ checkedOf s h = []) : h ∉ (roundStart s h).vs.queue := by
  have hq : (roundStart s h).vs.queue = (dequeue s h).vs.queue := by
    unfold roundStart stampSlept
    split <;> rfl
  have hc : (s.ctl.ingressEn || (checkedOf s h).isEmpty) = true := by
    rcases hi with hi | hi <;> simp [hi]
  rw [hq]
  unfold dequeue
  split
  · simp
  next hn =>
    intro hm
    exact hn (List.any_eq_true.mpr ⟨h, hm, decide_eq_true rfl⟩)

theorem roundStart_of_still {s : State} {h : Nat} (hd : s.ws.roundDue = false) (hq : h ∉ s.vs.queue) : roundStart s h = s := by
  have h1 : dequeue s h = s := by
    refine if_neg fun hm => hq ?_
    obtain ⟨k, hk, he⟩ := List.any_eq_true.mp hm
    exact of_decide_eq_true he ▸ hk
  unfold roundStart
  rw [h1]
  exact if_neg (by rw [hd]; exact Bool.false_ne_true)

/-! ### The inputs of a round -/

/-- The inputs that a round takes where no outcome and no change waits (R143 steps 3 to 5). -/
def inputsFrom (s : State) (h : Nat) : Round := wiredMerge (vatIn (wiredLevel (eoisIn { st := s, merges := [], defer := false } h) h) h) h

/-- A round that is ready, of an entry on chip to which no change waits, comes down to its inputs and its end (R143). -/
theorem roundCommit_ready {s : State} {h : Nat} {e : Vte} (hv : vteOn s h = some e) (hr : roundReady s h = true) (hc : (vecOf s h).changes = []) :
    roundCommit s h = roundEnd (roundSettle (inputsFrom (roundStart s h) h) h) h := by
  simp only [roundReady, Bool.and_eq_true, Bool.not_eq_true', Option.isNone_iff_eq_none] at hr
  obtain ⟨⟨⟨-, ho⟩, hrel⟩, hspill⟩ := hr
  have hoff := roundStart_offStart s h
  have hu := roundStart_vecOf s h h
  have hv' : vteOn (roundStart s h) h = some e := (congrArg (fun x => vteOn x h) hoff :).trans hv
  have hs' : isSpilled (roundStart s h) h = false := (congrArg (fun x => isSpilled x h) hoff :).trans hspill
  have ho' : (vecOf (roundStart s h) h).outcome = none := (congrArg Vec.outcome hu :).trans ho
  have hc' : (vecOf (roundStart s h) h).changes = [] := (congrArg Vec.changes hu :).trans hc
  have hin : roundInputs (roundStart s h) h = inputsFrom (roundStart s h) h := by
    have hout : outcomeIn (roundStart s h) h = roundStart s h := by
      unfold outcomeIn
      rw [ho']
    unfold roundInputs
    dsimp only
    rw [hout, hc']
    show wiredMerge (vatIn (wiredLevel (eoisIn { st := roundStart s h, merges := [], defer := _ } h) h) h) h = _
    rw [show (vecOf (vteBoundary ([] : List Change).length (roundStart s h) h) h).changes = [] from hc']
    simp only [List.length_nil, ne_eq, not_true, decide_false, Bool.and_false]
    rfl
  rw [← hin]
  unfold roundCommit
  rw [if_neg (by rw [hrel]; exact Bool.false_ne_true)]
  exact if_neg (by rw [show vteOn (stampSlept (dequeue s h)) h = some e from hv', show isSpilled (stampSlept (dequeue s h)) h = false from hs']; exact Bool.false_ne_true)

theorem eoisIn_of_none {r : Round} {h : Nat} (he : (vecOf r.st h).eois = []) : eoisIn r h = { r with st := vecPut r.st h (vecOf r.st h) } := by
  unfold eoisIn
  dsimp only
  rw [he]
  show ({ r with st := vecPut r.st h { vecOf r.st h with eois := [] } } : Round) = _
  rw [← he]

theorem wiredLevel_of_message {r : Round} {h : Nat} (hh : 4096 ≤ h) : wiredLevel r h = r := by
  have hd : decide (h < 3840) = false := decide_eq_false (by omega)
  unfold wiredLevel
  dsimp only
  split
  · rfl
  · rw [hd, Bool.and_false, Bool.false_and]
    rfl

theorem wiredMerge_of_message {r : Round} {h : Nat} (hh : 4096 ≤ h) : wiredMerge r h = r := by
  have hd : decide (h < 4096) = false := decide_eq_false (by omega)
  unfold wiredMerge
  dsimp only
  split
  · rfl
  · rw [hd, Bool.false_and]
    rfl

/-! ### The vat -/

/-- The slots of a vector have freed, and nothing else has changed but the vat (R122). -/
theorem vatIn_of_none {r : Round} {h : Nat} (hc : checkedOf r.st h = []) : vatIn r h = r := by
  have hkeep : (r.st.vat.slots.filter fun x => (checkedAs h x).isNone) = r.st.vat.slots := by
    refine List.filter_eq_self.mpr fun x hx => ?_
    have := List.filterMap_eq_nil_iff.mp hc x hx
    rw [this]
    rfl
  unfold vatIn
  split
  · unfold checkedFree
    dsimp only
    rw [hc, hkeep]
    rfl
  · rfl

/-- The state in which a vector's one message has left the vat. -/
def slotFreed (s : State) (h : Nat) (lane : Fin 4) : State :=
  creditBack { s with vat := { s.vat with slots := s.vat.slots.filter fun x => (checkedAs h x).isNone } } lane

theorem vatIn_single {r : Round} {h : Nat} {x : Slot} {sn : Snap} (hi : r.st.ctl.ingressEn = true) (hc : checkedOf r.st h = [(x, sn)]) :
    vatIn r h = messageIn h { r with st := slotFreed r.st h x.lane } (x, sn) := by
  have hfree : checkedFree r.st h = slotFreed r.st h x.lane := by
    unfold checkedFree
    dsimp only
    rw [hc]
    rfl
  unfold vatIn
  rw [if_pos hi]
  dsimp only
  rw [hfree, hc]
  cases hl : isLevelMsg (x, sn) <;> simp [hl, forEach]

/-! ### The end of a round -/

theorem promote_of_newGen {s : State} {h : Nat} (ho : (vecOf s h).oldGen = false) : promote s h = s := by
  unfold promote
  dsimp only
  rw [ho]
  rfl

theorem roundDecide_decView {r : Round} (hn : NoChanges r.st) (h : Nat) : decView (roundDecide r h) = decView r.st := by
  have hfold : ∀ (l : List Nat) (x : State), decView x = decView r.st →
      decView (forEach l x fun s g => couchDecision s g (earliestMerge r.merges g)) = decView r.st := by
    intro l
    induction l with
    | nil => exact fun x hx => hx
    | cons g l ih => exact fun x hx => ih _ ((couchDecision_decView (noChanges_of_decView hx hn) ..).trans hx)
  unfold roundDecide
  extract_lets s v
  have hs : decView s = decView r.st := hfold _ _ rfl
  refine decView_ite ((vecPut_decView ?_).trans hs) hs
  have hm (o : Option Ev) : (o.map evMarkHeld).map evRest = o.map evRest := by
    have hr (ev : Ev) : evRest (evMarkHeld ev) = evRest ev := by
      unfold evMarkHeld
      split <;> rfl
    cases o with
    | none => rfl
    | some ev => exact congrArg some (hr ev)
  show vecRest { vecOf s h with ev := (vecOf s h).ev.map evMarkHeld, evNew := (vecOf s h).evNew.map evMarkHeld } = vecRest (vecOf s h)
  simp only [vecRest, hm]

/-- Where the vector has one generation and no change waits, the decisions are all that settles after the inputs (R136, R227). -/
theorem roundSettle_eq {r : Round} {h : Nat} (hn : NoChanges r.st) (ho : (vecOf r.st h).oldGen = false) (hc : (vecOf r.st h).changes = []) :
    roundSettle r h = { r with st := roundDecide r h } := by
  have hv := congrFun (congrArg (fun v => v.1) (roundDecide_decView hn h)) h
  have ho2 : (vecOf (roundDecide r h) h).oldGen = false := (congrArg Vec.oldGen hv :).trans ho
  have hc2 : (vecOf (roundDecide r h) h).changes = [] := (congrArg Vec.changes hv :).trans hc
  have hb : vteBoundary (vecOf (roundDecide r h) h).changes.length (roundDecide r h) h = roundDecide r h := by
    rw [hc2]
    rfl
  unfold roundSettle
  dsimp only
  rw [promote_of_newGen ho2, hb, ho2]
  simp

theorem vecCalendar_decView (s : State) (h : Nat) : decView (vecCalendar s h) = decView s := by
  have hl : decView (calLeave s h) = decView s := by
    obtain ⟨c, w, he⟩ := calLeave_eq s h
    rw [he]
    rfl
  have he : decView (calEnter s h) = decView s := by
    obtain ⟨c, w, he⟩ := calEnter_eq s h
    rw [he]
    rfl
  exact decView_ite he hl

theorem leaveStream_decView (s : State) (h : Nat) : decView (leaveStream s h) = decView s :=
  decView_of_streamView (leaveStream_streamView s h) (leaveStream_vecsRest s h)

theorem joinStream_decView (s : State) (h t : Nat) : decView (joinStream s h t) = decView s :=
  decView_of_streamView (joinStream_streamView s h t) (joinStream_vecsRest s h t)

theorem heldFull_decView (s : State) (ev : Ev) : decView (heldFull s ev) = decView s := by
  refine decView_ite ((Logged.jnlRated ..).decView.trans (tgtPut_decView ?_ ?_)) rfl
  · rfl
  · rfl

theorem groupSettle_of_noChanges {s : State} (hn : NoChanges s) (g : Nat) : groupSettle s g = s := by
  unfold groupSettle
  rw [(hn g).2.1]
  rfl

theorem joinChosen_decView {s : State} (hn : NoChanges s) (h : Nat) (ev : Ev) : decView (joinChosen s h ev) = decView s := by
  unfold joinChosen
  dsimp only
  rw [groupSettle_of_noChanges hn]
  split
  · split
    · rfl
    · exact (joinStream_decView ..).trans (groupPut_decView rfl)
  · exact decView_ite rfl (joinStream_decView ..)

theorem candidate_decView {s : State} (hn : NoChanges s) (h : Nat) : decView (candidate s h) = decView s := by
  have hl := leaveStream_decView s h
  unfold candidate
  dsimp only
  split
  · exact vecCalendar_decView ..
  next ev _ =>
    refine decView_ite rfl ((vecCalendar_decView ..).trans (decView_ite ?_ hl))
    have hf := (heldFull_decView (leaveStream s h) ev).trans hl
    exact (joinChosen_decView (noChanges_of_decView hf hn) ..).trans hf

theorem retreat_decView (s : State) (h : Nat) : decView (retreat s h) = decView s := by
  unfold retreat
  dsimp only
  split
  · exact vecCalendar_decView ..
  · exact decView_ite rfl ((vecCalendar_decView ..).trans (leaveStream_decView ..))

theorem roundEnd_decView {r : Round} (hn : NoChanges r.st) (h : Nat) : decView (roundEnd r h) = decView r.st := by
  have hc : decView (if r.defer then retreat r.st h else candidate r.st h) = decView r.st := decView_ite (retreat_decView ..) (candidate_decView hn h)
  exact (settleAll_decView (noChanges_of_decView hc hn)).trans hc

/-- The end of a round leaves what its inputs made of the vector. -/
theorem roundTail_decView {r : Round} {h : Nat} (hn : NoChanges r.st) (ho : (vecOf r.st h).oldGen = false) (hc : (vecOf r.st h).changes = []) :
    decView (roundEnd (roundSettle r h) h) = decView r.st := by
  have hd := roundDecide_decView hn h
  rw [roundSettle_eq hn ho hc]
  exact (roundEnd_decView (r := { r with st := roundDecide r h }) (noChanges_of_decView hd hn) h).trans hd

/-! ### A round whose event is in no stream -/

/-- What the end of a round leaves where no group decides and the vector's event is in no stream: the other vectors, the lanes, the counts, the
writes issued, and local ring memory. -/
def stillView (h : Nat) (s : State) : (Nat → Vec) × List Nat × Counters × List (BitVec 8 × EgWrite) × List (Nat × Byte) :=
  (fun k => if k = h then vecZero else vecOf s k, s.vs.queue, s.cnt, s.ar.flight, s.ts.lmem)

theorem vecPut_stillView (h : Nat) (s : State) (v : Vec) : stillView h (vecPut s h v) = stillView h s := by
  have hv : (fun k => if k = h then vecZero else vecOf (vecPut s h v) k) = fun k => if k = h then vecZero else vecOf s k := by
    funext k
    by_cases hk : k = h
    · rw [if_pos hk, if_pos hk]
    · rw [if_neg hk, if_neg hk, vecOf_vecPut_ne s v hk]
  exact congrArg (fun f => (f, s.vs.queue, s.cnt, s.ar.flight, s.ts.lmem)) hv

theorem Logged.stillView {s t : State} (hl : Logged s t) (h : Nat) : stillView h t = stillView h s := by
  have hv : Machine.vecOf t = Machine.vecOf s := funext hl.vecOf
  simp only [Machine.stillView, hv, hl.vs, hl.cnt, hl.ar, hl.ts]

theorem stillView_ite {p : Prop} [Decidable p] {h : Nat} {s a b : State} (ha : stillView h a = stillView h s) (hb : stillView h b = stillView h s) :
    stillView h (if p then a else b) = stillView h s := by
  split
  · exact ha
  · exact hb

theorem vecOf_of_stillView {h k : Nat} {s t : State} (hv : stillView h t = stillView h s) (hk : k ≠ h) : vecOf t k = vecOf s k := by
  have := congrFun (congrArg Prod.fst hv) k
  simpa only [stillView, if_neg hk] using this

theorem vecCalendar_stillView (s : State) (h : Nat) : stillView h (vecCalendar s h) = stillView h s := by
  have hl : stillView h (calLeave s h) = stillView h s := by
    obtain ⟨c, w, he⟩ := calLeave_eq s h
    rw [he]
    rfl
  have he : stillView h (calEnter s h) = stillView h s := by
    obtain ⟨c, w, he⟩ := calEnter_eq s h
    rw [he]
    rfl
  exact stillView_ite he hl

theorem joinStream_stillView (s : State) (h t : Nat) : stillView h (joinStream s h t) = stillView h s := by
  unfold joinStream
  dsimp only
  split
  · rfl
  · exact stillView_ite (vecPut_stillView ..) (stillView_ite (vecPut_stillView ..) (vecPut_stillView ..))

theorem heldFull_stillView (h : Nat) (s : State) (ev : Ev) : stillView h (heldFull s ev) = stillView h s :=
  stillView_ite ((Logged.jnlRated ..).stillView h) rfl

theorem joinChosen_stillView {s : State} (hn : NoChanges s) (h : Nat) (ev : Ev) : stillView h (joinChosen s h ev) = stillView h s := by
  unfold joinChosen
  dsimp only
  rw [groupSettle_of_noChanges hn]
  split
  · split
    · rfl
    · exact (joinStream_stillView ..).trans rfl
  · exact stillView_ite rfl (joinStream_stillView ..)

theorem leaveStream_of_noStream {s : State} {h : Nat} (hs : ∀ ev, (vecOf s h).ev = some ev → ev.stream = none) : leaveStream s h = s := by
  unfold leaveStream
  dsimp only
  split
  · rfl
  next ev hev => rw [hs ev hev]

theorem candidate_stillView {s : State} {h : Nat} (hn : NoChanges s) (hs : ∀ ev, (vecOf s h).ev = some ev → ev.stream = none) :
    stillView h (candidate s h) = stillView h s := by
  unfold candidate
  dsimp only
  rw [leaveStream_of_noStream hs]
  split
  · exact vecCalendar_stillView ..
  next ev _ =>
    refine stillView_ite rfl ((vecCalendar_stillView ..).trans (stillView_ite ?_ rfl))
    exact (joinChosen_stillView (noChanges_of_decView (heldFull_decView s ev) hn) h ev).trans (heldFull_stillView ..)

theorem retreat_stillView {s : State} {h : Nat} (hs : ∀ ev, (vecOf s h).ev = some ev → ev.stream = none) : stillView h (retreat s h) = stillView h s := by
  unfold retreat
  dsimp only
  rw [leaveStream_of_noStream hs]
  split
  · exact vecCalendar_stillView ..
  · exact stillView_ite rfl (vecCalendar_stillView ..)

theorem roundDecide_of_noCouch {r : Round} {h : Nat} (hc : roundCouches r h = []) : ∃ v, roundDecide r h = (if hasMerge (vecOf r.st h) then vecPut r.st h v else r.st)
    ∧ v = { vecOf r.st h with ev := (vecOf r.st h).ev.map evMarkHeld, evNew := (vecOf r.st h).evNew.map evMarkHeld } := by
  refine ⟨_, ?_, rfl⟩
  unfold roundDecide
  rw [hc]
  rfl

theorem evMarkHeld_stream (ev : Ev) : (evMarkHeld ev).stream = ev.stream := by
  unfold evMarkHeld
  split <;> rfl

/-- Where no group decides and the vector's event is in no stream, the end of a round leaves all else too. -/
theorem roundTail_stillView {r : Round} {h : Nat} (hn : NoChanges r.st) (ho : (vecOf r.st h).oldGen = false) (hc : (vecOf r.st h).changes = [])
    (hg : roundCouches r h = []) (hs : ∀ ev, (vecOf r.st h).ev = some ev → ev.stream = none) :
    stillView h (roundEnd (roundSettle r h) h) = stillView h r.st := by
  have hd := noChanges_of_decView (roundDecide_decView hn h) hn
  obtain ⟨v, hdec, hv⟩ := roundDecide_of_noCouch hg
  have hdv : stillView h (roundDecide r h) = stillView h r.st := by
    rw [hdec]
    exact stillView_ite (vecPut_stillView ..) rfl
  have hds : ∀ ev, (vecOf (roundDecide r h) h).ev = some ev → ev.stream = none := by
    rw [hdec]
    split
    · rw [vecOf_vecPut_same, hv]
      intro ev hev
      obtain ⟨p, hp, rfl⟩ := Option.map_eq_some_iff.mp hev
      exact (evMarkHeld_stream p).trans (hs p hp)
    · exact hs
  rw [roundSettle_eq hn ho hc]
  have hcand : stillView h (if r.defer then retreat (roundDecide r h) h else candidate (roundDecide r h) h) = stillView h (roundDecide r h) :=
    stillView_ite (retreat_stillView hds) (candidate_stillView hd hds)
  have hcd : decView (if r.defer then retreat (roundDecide r h) h else candidate (roundDecide r h) h) = decView (roundDecide r h) :=
    decView_ite (retreat_decView ..) (candidate_decView hd h)
  show stillView h (settleAll (if r.defer then retreat (roundDecide r h) h else candidate (roundDecide r h) h)) = _
  rw [settleAll_of_noChanges (noChanges_of_decView hcd hd)]
  exact (congrArg (stillView h) (fenceAll_offUnits _) :).trans (hcand.trans hdv)

end Sys2Proof.Machine
end
section
/-! PROOF. A ranking round that takes one message of a vector (R122, R128, R143, R145). -/

namespace Sys2Proof.Machine

/-! ### The inputs of a message's round -/

/-- The inputs of a round of an MSI vector that has one CHECKED message and no EOI (R143 steps 4 and 5). -/
theorem inputsFrom_message {s : State} {h : Nat} {x : Slot} {sn : Snap} (hh : 4096 ≤ h) (hi : s.ctl.ingressEn = true) (hc : checkedOf s h = [(x, sn)])
    (he : (vecOf s h).eois = []) :
    inputsFrom s h = messageIn h { st := slotFreed (vecPut s h (vecOf s h)) h x.lane, merges := [], defer := false } (x, sn) := by
  unfold inputsFrom
  rw [eoisIn_of_none (r := { st := s, merges := [], defer := false }) he, wiredLevel_of_message hh, wiredMerge_of_message hh]
  exact vatIn_single (r := { st := vecPut s h (vecOf s h), merges := [], defer := false }) hi hc

theorem vecOf_vecPut_self (s : State) (h k : Nat) : vecOf (vecPut s h (vecOf s h)) k = vecOf s k := by
  by_cases hk : k = h
  · rw [hk, vecOf_vecPut_same]
  · rw [vecOf_vecPut_ne _ _ hk]

/-- An event as a merge leaves it: new, or the pending one with the merge in it (R128). -/
def mergedEv (s : State) (v : Vec) (sn : Snap) (time count : Nat) (data : Word) (trunc : Bool) : Ev :=
  match v.ev with
  | none => newEv s sn time count data trunc false
  | some p => foldEv p time count data trunc

theorem noteMerge_of_noCouch {r : Round} {sn : Snap} (hc : couchFor r.st sn.cfg = none) (n time : Nat) : noteMerge r sn n time = r := by
  unfold noteMerge
  rw [hc]

theorem mergeSnap_present {s : State} {h : Nat} {e : Vte} {sn : Snap} (ht : sn.cfg.tenant = e.cfg.tenant) (ho : (vecOf s h).oldGen = false) :
    snapOld s h e sn = false ∧ mergeSnap s h e sn = snapOf e := by
  have h1 : snapOld s h e sn = false := by
    unfold snapOld
    rw [ho, decide_eq_false (not_not.mpr ht)]
    rfl
  refine ⟨h1, ?_⟩
  unfold mergeSnap
  rw [h1]
  rfl

/-- A merge into the one generation of a VALID entry's vector, in no group (R128, R145 rows 1, 3 and 9). -/
theorem mergeIn_present {r : Round} {h : Nat} {e : Vte} {sn : Snap} (hv : vteOn r.st h = some e) (hval : e.cfg.valid = true)
    (ht : sn.cfg.tenant = e.cfg.tenant) (ho : (vecOf r.st h).oldGen = false) (hc : couchFor r.st e.cfg = none) (time count : Nat) (data : Word) (trunc : Bool) :
    mergeIn r h sn time count data trunc =
      if !e.cfg.level || ((vecOf r.st h).ev.isNone && (vecOf r.st h).active.isNone) then
        { r with st := vecPut r.st h { vecOf r.st h with
            ev := some (mergedEv r.st (vecOf r.st h) (snapOf e) time count data trunc), oldGen := false, genEpoch := e.epoch } }
      else r := by
  obtain ⟨hold, hsnap⟩ := mergeSnap_present (s := r.st) (h := h) ht ho
  have hgen : genEv (vecOf r.st h) false = (vecOf r.st h).ev := by
    unfold genEv
    rw [ho]
    rfl
  have hplace (ev : Ev) : placeEv (vecOf r.st h) false e.epoch ev = { vecOf r.st h with ev := some ev, oldGen := false, genEpoch := e.epoch } := by
    unfold placeEv
    rw [ho]
    rfl
  have hrow : edgeRow (vecOf r.st h) false (snapOf e) = (!e.cfg.level || ((vecOf r.st h).ev.isNone && (vecOf r.st h).active.isNone)) := by
    unfold edgeRow
    rw [hgen]
    rfl
  unfold mergeIn
  dsimp only
  rw [hv]
  dsimp only
  rw [if_neg (by rw [hval]; exact Bool.false_ne_true), hold, hsnap, hrow, hplace, hgen]
  split
  · exact noteMerge_of_noCouch (r := { r with st := _ }) hc ..
  · rfl

/-! ### The vat of a message's round -/

theorem slotFreed_credit (s : State) (h : Nat) (lane : Fin 4) : (slotFreed s h lane).vat.credits[lane] = s.vat.credits[lane] + 1 := by
  show (s.vat.credits.set lane (s.vat.credits[lane] + 1))[lane] = _
  simp

/-- What a message's round starts from, apart from the slot that it frees. -/
structure MessageStart (s : State) (h : Nat) (x : Slot) (u : State) : Prop where
  noChanges : NoChanges u
  vec : vecUnstamped (vecOf u h) = vecUnstamped (vecOf s h)
  others : ∀ k, vecUnstamped (vecOf u k) = vecUnstamped (vecOf s k)
  vtes : ∀ k, vteOn u k = vteOn s k
  slots : u.vat.slots = s.vat.slots.filter fun y => (checkedAs h y).isNone
  credits : u.vat.credits[x.lane] = s.vat.credits[x.lane] + 1
  queue : h ∉ u.vs.queue
  lmem : u.ts.lmem = s.ts.lmem
  cnt : u.cnt = s.cnt
  flight : u.ar.flight = s.ar.flight
  fu : u.fu = s.fu
  md : u.md = s.md
  ctl : u.ctl = s.ctl
  tm : u.tm = s.tm

theorem messageStart {s : State} {h : Nat} {x : Slot} (hn : noWaits s = true) (hi : s.ctl.ingressEn = true) :
    MessageStart s h x (slotFreed (vecPut (roundStart s h) h (vecOf (roundStart s h) h)) h x.lane) := by
  have ho := roundStart_offStart s h
  have hvec (k : Nat) : vecUnstamped (vecOf (slotFreed (vecPut (roundStart s h) h (vecOf (roundStart s h) h)) h x.lane) k) = vecUnstamped (vecOf s k) :=
    (congrArg vecUnstamped (vecOf_vecPut_self (roundStart s h) h k) :).trans (roundStart_vecOf s h k)
  have hvat : (roundStart s h).vat = s.vat := (congrArg State.vat ho :)
  refine ⟨?_, hvec h, hvec, fun k => (congrArg (fun y => vteOn y k) ho :), ?_, ?_, not_mem_roundStart_queue (.inl hi), (congrArg (fun y => y.ts.lmem) ho :),
    (congrArg State.cnt ho :), (congrArg (fun y => y.ar.flight) ho :), (congrArg State.fu ho :), (congrArg State.md ho :), (congrArg State.ctl ho :), (congrArg State.tm ho :)⟩
  · have hs := noChanges_of_decView (roundStart_decView s h) (noChanges_of_noWaits hn)
    exact hs
  · show (roundStart s h).vat.slots.filter _ = _
    rw [hvat]
  · refine (slotFreed_credit _ h x.lane).trans ?_
    show (roundStart s h).vat.credits[x.lane] + 1 = _
    rw [hvat]

/-- A message that merges into a vector's one generation, in no group: the round's end leaves the merge (R143). -/
theorem messageRound {s : State} {h : BitVec 24} {e : Vte} {x : Slot} {sn : Snap} (hd : rounding s = true) (hu : undisturbed s = true)
    (hi : s.ctl.ingressEn = true) (hn : noWaits s = true) (hh : 4096 ≤ h.toNat) (hv : vteOn s h.toNat = some e) (hr : roundReady s h.toNat = true)
    (hc : checkedOf s h.toNat = [(x, sn)]) (hch : (vecOf s h.toNat).changes = []) (he : (vecOf s h.toNat).eois = []) :
    ∃ u, MessageStart s h.toNat x u ∧ exec (.rankingRound h .agree) s
      = .next (roundEnd (roundSettle (messageIn h.toNat { st := u, merges := [], defer := false } (x, sn)) h.toNat) h.toNat) := by
  have ho := roundStart_offStart s h.toNat
  have hvec := roundStart_vecOf s h.toNat h.toNat
  refine ⟨_, messageStart hn hi, ?_⟩
  rw [execRankingRound_ready hd hu hr, roundCommit_ready hv hr hch, inputsFrom_message (s := roundStart s h.toNat) hh]
  · exact (congrArg (fun y => y.ctl.ingressEn) ho :).trans hi
  · exact (congrArg (fun y => checkedOf y h.toNat) ho :).trans hc
  · exact (congrArg Vec.eois hvec :).trans he

/-! ### What the end of a round shows -/

theorem ev_of_decView {s t : State} (hv : decView t = decView s) {h : Nat} {p : Ev} (hp : (vecOf s h).ev = some p) :
    ∃ ev, (vecOf t h).ev = some ev ∧ evRest ev = evRest p := by
  have hk : vecRest (vecOf t h) = vecRest (vecOf s h) := congrFun (congrArg Prod.fst hv) h
  have he : (vecOf t h).ev.map evRest = (vecOf s h).ev.map evRest := congrArg Vec.ev hk
  rw [hp] at he
  exact Option.map_eq_some_iff.mp he

theorem ev_none_of_decView {s t : State} (hv : decView t = decView s) {h : Nat} (hp : (vecOf s h).ev = none) : (vecOf t h).ev = none := by
  have hk : vecRest (vecOf t h) = vecRest (vecOf s h) := congrFun (congrArg Prod.fst hv) h
  have he : (vecOf t h).ev.map evRest = (vecOf s h).ev.map evRest := congrArg Vec.ev hk
  rw [hp] at he
  exact Option.map_eq_none_iff.mp he

/-- No group decides in the round of a vector whose entry, and whose event, are in none (R226, R227). -/
theorem roundCouches_eq_nil {r : Round} {h : Nat} {e : Vte} (hv : vteOn r.st h = some e) (hc : couchFor r.st e.cfg = none) (hm : r.merges = [])
    (hev : ∀ ev, (vecOf r.st h).ev = some ev → evCouch r.st ev = none) (hnew : (vecOf r.st h).evNew = none) : roundCouches r h = [] := by
  have h1 : (vecOf r.st h).ev.toList.filterMap (evCouch r.st) = [] := by
    cases hx : (vecOf r.st h).ev with
    | none => rfl
    | some ev => simp [hev ev hx]
  have hs : snapAt r.st h = snapOf e := by
    unfold snapAt
    rw [hv]
  unfold roundCouches
  dsimp only
  rw [hs, show couchFor r.st (snapOf e).cfg = none from hc, h1, hnew, hm]
  rfl

end Sys2Proof.Machine

namespace Sys2Proof

open Sys2Proof.Machine

/-- Settles O24: the merge by the vector's state, and the round's end that leaves it. -/
theorem roundTakesTheMessage : Obligations.RoundTakesTheMessage := by
  intro s h e x sn hd hu hi hn hh hv hval hr hc hk ht hcouch hch heoi hold hnew
  obtain ⟨u, hu0, hexec⟩ := messageRound hd hu hi hn hh hv hr hc hch heoi
  have hvec := hu0.vec
  have hold' : (vecOf u h.toNat).oldGen = false := (congrArg Vec.oldGen hvec :).trans hold
  have hch' : (vecOf u h.toNat).changes = [] := (congrArg Vec.changes hvec :).trans hch
  have hev' : (vecOf u h.toNat).ev = (vecOf s h.toNat).ev := (congrArg Vec.ev hvec :)
  have hact' : (vecOf u h.toNat).active = (vecOf s h.toNat).active := (congrArg Vec.active hvec :)
  have hv' := (hu0.vtes h.toNat).trans hv
  have hcouch' : couchFor u e.cfg = none := by
    simp only [couchFor, sliceOf, hu0.fu]
    exact hcouch
  have hin : messageIn h.toNat { st := u, merges := [], defer := false } (x, sn) = _ :=
    (show messageIn h.toNat { st := u, merges := [], defer := false } (x, sn) = mergeIn { st := u, merges := [], defer := false } h.toNat sn x.stamp 1
      x.beat.data (decide (4 < x.beat.len.toNat)) by unfold messageIn; rw [hk]).trans
    (mergeIn_present (r := { st := u, merges := [], defer := false }) hv' hval ht hold' hcouch' ..)
  rw [hin, hev', hact'] at hexec
  let E := mergedEv u (vecOf u h.toNat) (snapOf e) x.stamp 1 x.beat.data (decide (4 < x.beat.len.toNat))
  let U := vecPut u h.toNat { vecOf u h.toNat with ev := some E, oldGen := false, genEpoch := e.epoch }
  have hUev : (vecOf U h.toNat).ev = some E := by rw [vecOf_vecPut_same]
  have hUold : (vecOf U h.toNat).oldGen = false := by rw [vecOf_vecPut_same]
  have hUch : (vecOf U h.toNat).changes = [] := by rw [vecOf_vecPut_same]; exact hch'
  have hUn : NoChanges U := hu0.noChanges
  have hdv : decView (roundEnd (roundSettle { st := U, merges := [], defer := false } h.toNat) h.toNat) = decView U := roundTail_decView hUn hUold hUch
  refine ⟨fun hnone hrow => ?_, fun p hlev hp => ?_, fun p hlev hp hsnap => ?_⟩
  · have hif : (!e.cfg.level || ((vecOf s h.toNat).ev.isNone && (vecOf s h.toNat).active.isNone)) = true := by
      rcases hrow with hl | ha
      · rw [hl]
        rfl
      · rw [hnone, ha, Bool.or_comm]
        rfl
    rw [if_pos hif] at hexec
    have hE : E = newEv u (snapOf e) x.stamp 1 x.beat.data (decide (4 < x.beat.len.toNat)) false := by
      show mergedEv _ _ _ _ _ _ _ = _
      unfold mergedEv
      rw [hev', hnone]
    have hcl : couchFor U e.cfg = none := hcouch'
    have hstill : stillView h.toNat (roundEnd (roundSettle { st := U, merges := [], defer := false } h.toNat) h.toNat) = stillView h.toNat U := by
      refine roundTail_stillView hUn hUold hUch (roundCouches_eq_nil (e := e) hv' hcl rfl (fun ev hev => ?_) ?_) (fun ev hev => ?_)
      · have : ev = E := Option.some.inj (hev.symm.trans hUev)
        rw [this, hE]
        show (couchFor U (snapOf e).cfg).map _ = none
        rw [show couchFor U (snapOf e).cfg = none from hcl]
        rfl
      · rw [vecOf_vecPut_same]
        exact (congrArg Vec.evNew hvec :).trans hnew
      · have : ev = E := Option.some.inj (hev.symm.trans hUev)
        rw [this, hE]
        rfl
    generalize roundEnd (roundSettle { st := U, merges := [], defer := false } h.toNat) h.toNat = T at hdv hstill hexec
    obtain ⟨ev, hev, hrest⟩ := ev_of_decView hdv hUev
    rw [hE] at hrest
    have hvat : T.vat = u.vat := (congrArg (fun v => v.2.2.2.1) hdv :)
    have hqueue : T.vs.queue = u.vs.queue := (congrArg (fun v => v.2.1) hstill :)
    refine ⟨T, ev, hexec, hev, (congrArg Ev.count hrest :), (congrArg Ev.time hrest :), (congrArg Ev.data hrest :), (congrArg Ev.deadline hrest :).trans ?_,
      (congrArg Ev.snap hrest :), (congrArg Ev.truncated hrest :), ?_, ?_, fun k hk => ?_, ?_, ?_, ?_, ?_, ?_⟩
    · show deadlineOf u e.cfg.cls x.stamp = _
      simp only [deadlineOf, hu0.ctl]
    · rw [hvat]
      exact hu0.slots
    · rw [hvat]
      exact hu0.credits
    · rw [vecOf_of_stillView hstill hk, vecOf_vecPut_ne _ _ hk]
      exact (congrArg Vec.ev (hu0.others k) :)
    · exact (congrArg (fun v => v.2.2.2.2) hstill :).trans hu0.lmem
    · rw [hqueue]
      exact hu0.queue
    · exact (congrArg (fun v => v.2.2.2.2.1) hdv :).trans hu0.md
    · exact (congrArg (fun v => v.2.2.2.2.2.1) hdv :).trans hu0.ctl
    · exact (congrArg (fun v => v.2.2.2.2.2.2) hdv :).trans hu0.tm
  · rw [if_neg (by rw [hlev, hp]; exact Bool.false_ne_true)] at hexec
    have hdu := roundTail_decView (r := { st := u, merges := [], defer := false }) hu0.noChanges hold' hch'
    generalize roundEnd (roundSettle { st := u, merges := [], defer := false } h.toNat) h.toNat = T at hdu hexec
    obtain ⟨ev, hev, hrest⟩ := ev_of_decView hdu (hev'.trans hp)
    exact ⟨T, ev, hexec, hev, (congrArg Ev.count hrest :), (congrArg Ev.time hrest :), (congrArg Ev.data hrest :),
      (congrArg (fun v => v.2.2.2.1.slots) hdu :).trans hu0.slots, (congrArg (fun v => v.2.2.2.2.1) hdu :).trans hu0.md,
      (congrArg (fun v => v.2.2.2.2.2.1) hdu :).trans hu0.ctl, (congrArg (fun v => v.2.2.2.2.2.2) hdu :).trans hu0.tm⟩
  · rw [if_pos (by rw [hlev]; rfl)] at hexec
    have hE : E = foldEv p x.stamp 1 x.beat.data (decide (4 < x.beat.len.toNat)) := by
      show mergedEv _ _ _ _ _ _ _ = _
      unfold mergedEv
      rw [hev', hp]
    generalize roundEnd (roundSettle { st := U, merges := [], defer := false } h.toNat) h.toNat = T at hdv hexec
    obtain ⟨ev, hev, hrest⟩ := ev_of_decView hdv hUev
    rw [hE] at hrest
    exact ⟨T, ev, hexec, hev, (congrArg Ev.count hrest :), (congrArg Ev.time hrest :), (congrArg Ev.data hrest :), (congrArg Ev.deadline hrest :),
      (congrArg Ev.cls hrest :), (congrArg (fun v => v.2.2.2.1.slots) hdv :).trans hu0.slots, (congrArg (fun v => v.2.2.2.2.1) hdv :).trans hu0.md,
      (congrArg (fun v => v.2.2.2.2.2.1) hdv :).trans hu0.ctl, (congrArg (fun v => v.2.2.2.2.2.2) hdv :).trans hu0.tm⟩

end Sys2Proof

end
section
/-! PROOF. The deadline of a waiting event (R179, R189, R241, R242). -/

namespace Sys2Proof.Machine

/-! ### A waiting event that nothing blocks -/

/-- An event waits alone for its vector, in no group and in no stream, and its fixed target takes it (R154, R179). -/
structure FreeToJoin (s : State) (h : Nat) (e : Vte) (ev : Ev) : Prop where
  quiet : undisturbed s = true
  noChanges : NoChanges s
  due : s.ws.roundDue = false
  message : 4096 ≤ h
  entry : vteOn s h = some e
  alone : checkedOf s h = []
  ungrouped : couchFor s e.cfg = none ∧ evCouch s ev = none
  changes : (vecOf s h).changes = []
  eois : (vecOf s h).eois = []
  oldGen : (vecOf s h).oldGen = false
  evNew : (vecOf s h).evNew = none
  event : (vecOf s h).ev = some ev
  active : (vecOf s h).active = none
  stream : ev.stream = none
  released : ev.released = true
  fixed : ev.snap.cfg.groupTarget = false
  unmasked : ev.snap.cfg.mask = false
  prio : ev.snap.cfg.prio ≠ 0
  unblocked : blockedAt s ev ev.snap.cfg.target.toNat = false
  eligible : eligibleOn ev (tgtOf s ev.snap.cfg.target.toNat) = true

theorem roundStart_vecs {s : State} (hd : s.ws.roundDue = false) (h : Nat) : (roundStart s h).vs.vecs = s.vs.vecs := by
  have h1 : (dequeue s h).vs.vecs = s.vs.vecs ∧ (dequeue s h).ws = s.ws := by
    unfold dequeue
    split <;> exact ⟨rfl, rfl⟩
  obtain ⟨hv, hw⟩ := h1
  unfold roundStart stampSlept
  rw [if_neg (by rw [hw, hd]; exact Bool.false_ne_true), hv]

/-- What an event's join of a stream leaves, and shows. -/
structure Joined (s : State) (h : Nat) (ev : Ev) (t : State) : Prop where
  event : (vecOf t h).ev = some { ev with stream := some ev.snap.cfg.target, first := none }
  heap : ev.snap.cfg.target ∈ t.ar.heap ∨ ev.snap.cfg.target ∈ t.ar.heapWait
  others : ∀ k, k ≠ h → vecOf t k = vecOf s k
  ts : t.ts = s.ts
  vat : t.vat = s.vat
  md : t.md = s.md
  ctl : t.ctl = s.ctl
  tm : t.tm = s.tm

theorem joinStream_joins {s : State} {h : Nat} {ev : Ev} (he : (vecOf s h).ev = some ev) (hg : ev.snap.cfg.groupTarget = false) :
    Joined s h ev (joinStream s h ev.snap.cfg.target.toNat) := by
  have hj : joinStream s h ev.snap.cfg.target.toNat =
      let s1 := vecPut s h { vecOf s h with ev := some { ev with stream := some ev.snap.cfg.target, first := none } }
      if s1.ar.heap.any (· = ev.snap.cfg.target) || s1.ar.heapWait.any (· = ev.snap.cfg.target) then s1
      else if s1.ar.heap.length < heapMax then { s1 with ar := { s1.ar with heap := s1.ar.heap ++ [ev.snap.cfg.target] } }
      else { s1 with ar := { s1.ar with heapWait := s1.ar.heapWait ++ [ev.snap.cfg.target] } } := by
    unfold joinStream
    dsimp only
    rw [he]
    dsimp only
    rw [BitVec.ofNat_toNat, BitVec.setWidth_eq, hg]
    rfl
  have hev (x : State) (hx : x.vs = (vecPut s h { vecOf s h with ev := some { ev with stream := some ev.snap.cfg.target, first := none } }).vs) :
      (vecOf x h).ev = some { ev with stream := some ev.snap.cfg.target, first := none } ∧ ∀ k, k ≠ h → vecOf x k = vecOf s k := by
    have hvec (k : Nat) : vecOf x k = vecOf (vecPut s h { vecOf s h with ev := some { ev with stream := some ev.snap.cfg.target, first := none } }) k := by
      simp only [vecOf, hx]
    refine ⟨?_, fun k hk => ?_⟩
    · rw [hvec, vecOf_vecPut_same]
    · rw [hvec, vecOf_vecPut_ne _ _ hk]
  rw [hj]
  dsimp only
  split
  next hin =>
    rw [Bool.or_eq_true, List.any_eq_true, List.any_eq_true] at hin
    refine ⟨(hev _ rfl).1, ?_, (hev _ rfl).2, rfl, rfl, rfl, rfl, rfl⟩
    rcases hin with ⟨y, hy, hye⟩ | ⟨y, hy, hye⟩
    · exact .inl (of_decide_eq_true hye ▸ hy)
    · exact .inr (of_decide_eq_true hye ▸ hy)
  next =>
    split
    · exact ⟨(hev _ rfl).1, .inl (List.mem_append_right _ List.mem_cons_self), (hev _ rfl).2, rfl, rfl, rfl, rfl, rfl⟩
    · exact ⟨(hev _ rfl).1, .inr (List.mem_append_right _ List.mem_cons_self), (hev _ rfl).2, rfl, rfl, rfl, rfl, rfl⟩

theorem Joined.of_offUnits {s t u : State} {h : Nat} {ev : Ev} (j : Joined s h ev t) (ho : offUnits u = offUnits t) : Joined s h ev u := by
  have hv (k : Nat) : vecOf u k = vecOf t k := (congrArg (fun x => vecOf x k) ho :)
  have hheap : u.ar.heap = t.ar.heap := (congrArg (fun x => x.ar.heap) ho :)
  have hwait : u.ar.heapWait = t.ar.heapWait := (congrArg (fun x => x.ar.heapWait) ho :)
  exact ⟨by rw [hv]; exact j.event, by rw [hheap, hwait]; exact j.heap, fun k hk => (hv k).trans (j.others k hk), (congrArg State.ts ho :).trans j.ts,
    (congrArg State.vat ho :).trans j.vat, (congrArg State.md ho :).trans j.md, (congrArg State.ctl ho :).trans j.ctl, (congrArg State.tm ho :).trans j.tm⟩

theorem Joined.vecCalendar {s t : State} {h : Nat} {ev : Ev} (j : Joined s h ev t) (k : Nat) : Joined s h ev (vecCalendar t k) := by
  have hc (c w : List Nat) : Joined s h ev { t with vs := { t.vs with calendar := c, sweepList := w } } :=
    ⟨j.event, j.heap, j.others, j.ts, j.vat, j.md, j.ctl, j.tm⟩
  have he : Joined s h ev (calEnter t k) := by
    obtain ⟨c, w, he⟩ := calEnter_eq t k
    rw [he]
    exact hc c w
  have hl : Joined s h ev (calLeave t k) := by
    obtain ⟨c, w, he⟩ := calLeave_eq t k
    rw [he]
    exact hc c w
  unfold Machine.vecCalendar
  extract_lets v need
  cases need
  · exact hl
  · exact he

theorem candidate_joins {s : State} {h : Nat} {e : Vte} {ev : Ev} (hf : FreeToJoin s h e ev) : Joined s h ev (candidate s h) := by
  have hstay : stays s (vecOf s h) ev = false := by
    unfold stays
    rw [hf.stream]
  have hmay : mayJoin (vecOf s h) ev = true := by
    unfold mayJoin
    rw [hf.active, hf.released, hf.unmasked, decide_eq_true hf.prio]
    rfl
  have hfull : ringFull s ev.snap.cfg.target.toNat = false := by
    have hb := hf.unblocked
    unfold blockedAt at hb
    simp only [Bool.or_eq_false_iff] at hb
    obtain ⟨⟨⟨⟨⟨-, -⟩, -⟩, hr⟩, -⟩, -⟩ := hb
    exact hr
  have hheld : heldFull s ev = s := by
    refine if_neg ?_
    rw [hfull, Bool.and_false]
    exact Bool.false_ne_true
  have hjoin : joinChosen s h ev = joinStream s h ev.snap.cfg.target.toNat := by
    unfold joinChosen
    dsimp only
    rw [if_neg (by rw [hf.fixed]; exact Bool.false_ne_true)]
    exact if_neg (by rw [hf.unblocked, hf.eligible]; exact Bool.false_ne_true)
  have hleave : leaveStream s h = s := leaveStream_of_noStream fun p hp => Option.some.inj (hp.symm.trans hf.event) ▸ hf.stream
  have hc : candidate s h = vecCalendar (joinStream s h ev.snap.cfg.target.toNat) h := by
    unfold candidate
    dsimp only
    rw [hf.event]
    dsimp only
    rw [if_neg (by rw [hstay]; exact Bool.false_ne_true), hleave, if_pos hmay, hheld, hjoin]
  rw [hc]
  exact (joinStream_joins hf.event hf.fixed).vecCalendar h

theorem Joined.noChanges {s t : State} {h : Nat} {ev : Ev} (j : Joined s h ev t) (hfu : t.fu = s.fu) (hn : NoChanges s) : NoChanges t := by
  intro k
  have h1 : tgtOf t k = tgtOf s k := by simp only [tgtOf, j.ts, hfu]
  have h2 : groupOf t k = groupOf s k := by simp only [groupOf, j.ts]
  have h3 : couchOf t k = couchOf s k := by simp only [couchOf, j.ts, hfu]
  rw [h1, h2, h3]
  exact hn k

theorem FreeToJoin.congr {s t : State} {h : Nat} {e : Vte} {ev : Ev} (hf : FreeToJoin s h e ev) (ho : offStart t = offStart s)
    (hv : vecOf t h = vecOf s h) (hd : t.ws.roundDue = false) : FreeToJoin t h e ev where
  quiet := (congrArg undisturbed ho :).trans hf.quiet
  noChanges k := by
    obtain ⟨h1, h2, h3⟩ := hf.noChanges k
    exact ⟨(congrArg (fun x => (tgtOf x k).changes) ho :).trans h1, (congrArg (fun x => (groupOf x k).changes) ho :).trans h2,
      (congrArg (fun x => (couchOf x k).changes) ho :).trans h3⟩
  due := hd
  message := hf.message
  entry := (congrArg (fun x => vteOn x h) ho :).trans hf.entry
  alone := (congrArg (fun x => checkedOf x h) ho :).trans hf.alone
  ungrouped := ⟨(congrArg (fun x => couchFor x e.cfg) ho :).trans hf.ungrouped.1, (congrArg (fun x => evCouch x ev) ho :).trans hf.ungrouped.2⟩
  changes := by rw [hv]; exact hf.changes
  eois := by rw [hv]; exact hf.eois
  oldGen := by rw [hv]; exact hf.oldGen
  evNew := by rw [hv]; exact hf.evNew
  event := by rw [hv]; exact hf.event
  active := by rw [hv]; exact hf.active
  stream := hf.stream
  released := hf.released
  fixed := hf.fixed
  unmasked := hf.unmasked
  prio := hf.prio
  unblocked := (congrArg (fun x => blockedAt x ev ev.snap.cfg.target.toNat) ho :).trans hf.unblocked
  eligible := (congrArg (fun x => eligibleOn ev (tgtOf x ev.snap.cfg.target.toNat)) ho :).trans hf.eligible

theorem Joined.of_offStart {s x t : State} {h : Nat} {ev : Ev} (j : Joined x h ev t) (ho : offStart x = offStart s) (hv : ∀ k, vecOf x k = vecOf s k) :
    Joined s h ev t :=
  ⟨j.event, j.heap, fun k hk => (j.others k hk).trans (hv k), j.ts.trans (congrArg State.ts ho :), j.vat.trans (congrArg State.vat ho :),
    j.md.trans (congrArg State.md ho :), j.ctl.trans (congrArg State.ctl ho :), j.tm.trans (congrArg State.tm ho :)⟩

/-- An event that no group holds is not marked as held (R230). -/
theorem evMarkHeld_of_released {ev : Ev} (h : ev.released = true) : evMarkHeld ev = ev := if_pos h

theorem offStart_vecPut (s : State) (h : Nat) (v : Vec) : offStart (vecPut s h v) = offStart s := rfl

theorem FreeToJoin.put_self {s : State} {h : Nat} {e : Vte} {ev : Ev} (hf : FreeToJoin s h e ev) : FreeToJoin (vecPut s h (vecOf s h)) h e ev :=
  hf.congr (offStart_vecPut ..) (vecOf_vecPut_same ..) hf.due

theorem FreeToJoin.start {s : State} {h : Nat} {e : Vte} {ev : Ev} (hf : FreeToJoin s h e ev) : FreeToJoin (roundStart s h) h e ev := by
  refine hf.congr (roundStart_offStart s h) ?_ ?_
  · simp only [vecOf, roundStart_vecs hf.due]
  · unfold roundStart stampSlept
    split
    · rfl
    next hn => exact Bool.eq_false_iff.mpr hn

theorem FreeToJoin.inputs {s : State} {h : Nat} {e : Vte} {ev : Ev} (hf : FreeToJoin s h e ev) :
    inputsFrom s h = { st := vecPut s h (vecOf s h), merges := [], defer := false } := by
  unfold inputsFrom
  rw [eoisIn_of_none (r := { st := s, merges := [], defer := false }) hf.eois, wiredLevel_of_message hf.message, wiredMerge_of_message hf.message]
  exact vatIn_of_none (r := { st := vecPut s h (vecOf s h), merges := [], defer := false }) hf.alone

theorem FreeToJoin.decide {s : State} {h : Nat} {e : Vte} {ev : Ev} (hf : FreeToJoin s h e ev) :
    roundDecide { st := s, merges := [], defer := false } h = vecPut s h (vecOf s h) := by
  have hcouch : roundCouches { st := s, merges := [], defer := false } h = [] := by
    refine roundCouches_eq_nil (r := { st := s, merges := [], defer := false }) hf.entry hf.ungrouped.1 rfl (fun p hp => ?_) hf.evNew
    have hpe : p = ev := Option.some.inj (hp.symm.trans hf.event)
    rw [hpe]
    exact hf.ungrouped.2
  obtain ⟨v, hdec, hv⟩ := roundDecide_of_noCouch hcouch
  have hvs : v = vecOf s h := by
    rw [hv]
    show { vecOf s h with ev := (vecOf s h).ev.map evMarkHeld, evNew := (vecOf s h).evNew.map evMarkHeld } = vecOf s h
    rw [hf.event, hf.evNew, Option.map_some, evMarkHeld_of_released hf.released, ← hf.event, Option.map_none, ← hf.evNew]
  rw [hdec, hvs]
  refine if_pos ?_
  unfold hasMerge
  rw [hf.event]
  rfl

theorem FreeToJoin.tail {s : State} {h : Nat} {e : Vte} {ev : Ev} (hf : FreeToJoin s h e ev) :
    roundEnd (roundSettle { st := s, merges := [], defer := false } h) h = settleAll (candidate (vecPut s h (vecOf s h)) h) := by
  rw [roundSettle_eq (r := { st := s, merges := [], defer := false }) hf.noChanges hf.oldGen hf.changes, hf.decide]
  rfl

/-- The round of an event that waits alone and free puts it into its target's stream (R143, R154). -/
theorem roundCommit_joins {s : State} {h : Nat} {e : Vte} {ev : Ev} (hf : FreeToJoin s h e ev) (hr : roundReady s h = true) :
    Joined s h ev (roundCommit s h) := by
  have hx := hf.start
  have hz := hx.put_self.put_self
  have hround := roundCommit_ready hf.entry hr hf.changes
  rw [hx.inputs, hx.put_self.tail] at hround
  have hzo : offStart (vecPut (vecPut (roundStart s h) h (vecOf (roundStart s h) h)) h (vecOf (vecPut (roundStart s h) h (vecOf (roundStart s h) h)) h))
      = offStart s := (offStart_vecPut ..).trans ((offStart_vecPut ..).trans (roundStart_offStart s h))
  have hzv (k : Nat) : vecOf (vecPut (vecPut (roundStart s h) h (vecOf (roundStart s h) h)) h (vecOf (vecPut (roundStart s h) h (vecOf (roundStart s h) h)) h)) k
      = vecOf s k := by
    rw [vecOf_vecPut_self, vecOf_vecPut_self]
    simp only [vecOf, roundStart_vecs hf.due]
  generalize vecPut (vecPut (roundStart s h) h (vecOf (roundStart s h) h)) h (vecOf (vecPut (roundStart s h) h (vecOf (roundStart s h) h)) h) = z
    at hz hround hzo hzv
  have hn : NoChanges (candidate z h) := noChanges_of_decView (candidate_decView hz.noChanges h) hz.noChanges
  rw [hround, settleAll_of_noChanges hn]
  exact ((candidate_joins hz).of_offStart hzo hzv).of_offUnits (fenceAll_offUnits _)

/-! ### The deadline -/

/-- A waiting event whose deadline comes is the only input of its lane, and is considered at once (R179, R241). -/
theorem deadlineAct_joins {s : State} {h : BitVec 24} {e : Vte} {ev : Ev} (hf : FreeToJoin s h.toNat e ev) (hr : roundReady s h.toNat = true)
    (hq : h.toNat ∉ s.vs.queue) (hl : ∀ k ∈ s.vs.queue, sameLane h.toNat k = false) : Joined s h.toNat ev (deadlineAct s h.toNat) := by
  have hfatal : s.flt.fatal = none := by
    have hu := hf.quiet
    simp only [undisturbed, Bool.and_eq_true, Option.isNone_iff_eq_none] at hu
    exact hu.2
  obtain ⟨c, w, hcal⟩ := calLeave_eq s h.toNat
  let x : State := { s with vs := { s.vs with calendar := c, sweepList := w, queue := s.vs.queue ++ [h.toNat] } }
  have hx : enqueue (calLeave s h.toNat) h.toNat = x := by
    rw [hcal]
    refine if_neg fun hm => ?_
    obtain ⟨k, hk, he⟩ := List.any_eq_true.mp hm
    exact hq (of_decide_eq_true he ▸ hk)
  have hfx : FreeToJoin x h.toNat e ev := ⟨hf.quiet, hf.noChanges, hf.due, hf.message, hf.entry, hf.alone, hf.ungrouped, hf.changes, hf.eois, hf.oldGen,
    hf.evNew, hf.event, hf.active, hf.stream, hf.released, hf.fixed, hf.unmasked, hf.prio, hf.unblocked, hf.eligible⟩
  have hrx : roundReady x h.toNat = true := by
    have hahead : laneAhead x h.toNat = [] := by
      unfold laneAhead
      split
      · refine List.filter_eq_nil_iff.mpr fun k hk => ?_
        have hmem : k ∈ s.vs.queue ++ [h.toNat] := List.takeWhile_subset _ hk
        have hne : k ≠ h.toNat := by
          have := List.mem_takeWhile_imp hk
          exact of_decide_eq_true this
        rcases List.mem_append.mp hmem with hm | hm
        · rw [hl k hm]
          exact Bool.false_ne_true
        · exact absurd (List.mem_singleton.mp hm) hne
      · rfl
    unfold roundReady at hr ⊢
    rw [hahead]
    simp only [Bool.and_eq_true] at hr ⊢
    obtain ⟨⟨⟨⟨-, h2⟩, h3⟩, h4⟩, h5⟩ := hr
    exact ⟨⟨⟨⟨rfl, h2⟩, h3⟩, h4⟩, h5⟩
  have hact : deadlineAct s h.toNat = roundCommit x h.toNat := by
    unfold deadlineAct inputRound
    rw [unlessFatal_of_none hfatal, hx, unlessFatal_of_none (s := x) hfatal, BitVec.ofNat_toNat, BitVec.setWidth_eq]
    exact rankRound_ready hfx.quiet hrx
  have hj := roundCommit_joins hfx hrx
  rw [hact]
  exact ⟨hj.event, hj.heap, hj.others, hj.ts, hj.vat, hj.md, hj.ctl, hj.tm⟩

end Sys2Proof.Machine

namespace Sys2Proof

open Sys2Proof.Machine

/-- Settles O32: at its deadline the event is the one input of its lane, and its round puts it into the stream. -/
theorem deadlineFreesTheWaitingEvent : Obligations.DeadlineFreesTheWaitingEvent := by
  refine ⟨fun s h ev e hc hrank hu hw hdue hh hv hr hq hl halone hcouch hecouch hch heoi hold hnew hev hact hdl hstr hrel hfix hmask hprio hblock helig i hi => ?_,
    fun s h hf => ⟨?_, ?_⟩⟩
  · have hf : FreeToJoin s h.toNat e ev := ⟨hu, noChanges_of_noWaits hw, hdue, hh, hv, halone, ⟨hcouch, hecouch⟩, hch, heoi, hold, hnew, hev, hact, hstr, hrel,
      hfix, hmask, hprio, hblock, helig⟩
    have hlive : live s = true := live_of_awake (awake_of_calm hc)
    have hfatal : s.flt.fatal.isNone = true := by
      unfold undisturbed at hu
      exact (Bool.and_eq_true _ _ ▸ hu).2
    have hduev (x : State) (hx : vecOf x h.toNat = vecOf s h.toNat) (hn : now x = now s) : deadlineDue x h.toNat = true := by
      unfold deadlineDue
      rw [hx, hev, hn]
      exact decide_eq_true hdl
    rcases hi with ⟨rfl, hcal⟩ | ⟨rfl, hlist, htick⟩
    · have hexec : exec (.deadlineArrival h) s = .next (deadlineAct (noteBusy s) h.toNat) := by
        refine congrArg Host.Outcome.next ((if_pos ?_).trans (by rw [activity_of_calm hc]))
        rw [hlive, List.any_eq_true.mpr ⟨_, hcal, decide_eq_true rfl⟩, hduev s rfl rfl, hrank, hfatal]
        rfl
      have hj := deadlineAct_joins (s := noteBusy s) (hf.congr rfl rfl hdue) hr hq hl
      exact ⟨_, hexec, hj.event, hj.heap, hj.others, hj.ts, hj.vat, hj.md, hj.ctl, congrArg TimeUnit.now hj.tm⟩
    · let s1 : State := { s with tm := { s.tm with ticks := { s.tm.ticks with sweep := now s / 1024 } } }
      have hid : h.toNat < 16777216 := h.isLt
      have hf1 : FreeToJoin (noteBusy s1) h.toNat e ev := ⟨hf.quiet, hf.noChanges, hf.due, hf.message, hf.entry, hf.alone, hf.ungrouped, hf.changes, hf.eois,
        hf.oldGen, hf.evNew, hf.event, hf.active, hf.stream, hf.released, hf.fixed, hf.unmasked, hf.prio, hf.unblocked, hf.eligible⟩
      have hcal (x : State) (hx : vecOf x h.toNat = vecOf s h.toNat) (hn : now x = now s) : calDue x h.toNat = true := by
        unfold calDue
        rw [if_pos hid]
        exact hduev x hx hn
      have hact : calendarAct (noteBusy s1) h.toNat = deadlineAct (noteBusy s1) h.toNat := by
        unfold calendarAct
        rw [unlessFatal_of_none (s := noteBusy s1) (Option.isNone_iff_eq_none.mp hfatal), if_pos (hcal (noteBusy s1) rfl rfl), if_pos hid]
      have hexec : exec .sweep s = .next (deadlineAct (noteBusy s1) h.toNat) := by
        refine congrArg Host.Outcome.next ((if_pos ?_).trans ?_)
        · rw [hlive, hrank, hfatal]
          rfl
        · have hne : ticksDue s 1024 s.tm.ticks.sweep ≠ 0 := by
            unfold ticksDue
            omega
          have hdue1 : s1.vs.sweepList.filter (calDue s1) = [h.toNat] := by
            show s.vs.sweepList.filter (calDue s1) = _
            rw [hlist]
            exact List.filter_cons_of_pos (hcal s1 rfl rfl)
          unfold sweepTick
          rw [if_neg hne]
          show (if (s1.vs.sweepList.filter (calDue s1)).isEmpty then s1 else forEach (s1.vs.sweepList.filter (calDue s1)) (activity s1 false) calendarAct) = _
          rw [hdue1, activity_of_calm (s := s1) hc]
          exact hact
      have hj := deadlineAct_joins hf1 hr hq hl
      exact ⟨_, hexec, hj.event, hj.heap, hj.others, hj.ts, hj.vat, hj.md, hj.ctl, (congrArg TimeUnit.now hj.tm :)⟩
  · refine congrArg Host.Outcome.next (if_neg ?_)
    rw [show s.flt.fatal.isNone = false by rw [← Option.not_isSome, hf]; rfl, Bool.and_false]
    exact Bool.false_ne_true
  · refine congrArg Host.Outcome.next (if_neg ?_)
    rw [show s.flt.fatal.isNone = false by rw [← Option.not_isSome, hf]; rfl, Bool.and_false]
    exact Bool.false_ne_true

end Sys2Proof

end
section
/-! PROOF. A ranking round that takes an EOI (R145 rows 11 to 15, R151, R157 to R159). -/

namespace Sys2Proof.Machine

/-! ### The end of a round whose vector holds no event -/

theorem checkedOlder_of_noneChecked {s : State} {h : Nat} (hc : checkedOf s h = []) (ep : BitVec 16) : checkedOlder s h ep = false := by
  refine Bool.eq_false_iff.mpr fun hany => ?_
  obtain ⟨x, hx, hp⟩ := List.any_eq_true.mp hany
  have hnone := List.filterMap_eq_nil_iff.mp hc x hx
  unfold checkedAs at hnone
  split at hp
  next k sn hst =>
    rw [hst] at hnone
    rw [Bool.and_eq_true, decide_eq_true_eq] at hp
    have hsome : (if k = h then some (x, sn) else none) = some (x, sn) := if_pos hp.1
    exact Option.some_ne_none _ (hsome.symm.trans hnone)
  next => exact Bool.false_ne_true hp

/-- A vector with no event of either generation keeps all but the mark of the old one (R136). -/
theorem promote_noEv {s : State} {h : Nat} (he : (vecOf s h).ev = none) (hn : (vecOf s h).evNew = none) :
    ∃ b, vecOf (promote s h) h = { vecOf s h with oldGen := b } ∧ promote s h = { s with vs := { s.vs with vecs := (promote s h).vs.vecs } }
      ∧ ∀ k, k ≠ h → vecOf (promote s h) k = vecOf s k := by
  unfold promote
  dsimp only
  split
  · refine ⟨false, ?_, rfl, fun k hk => vecOf_vecPut_ne s _ hk⟩
    simp only [vecOf_vecPut_same, hn, he]
  · exact ⟨(vecOf s h).oldGen, rfl, rfl, fun k _ => rfl⟩

/-- The end of a round whose vector holds no event, and is in no group (R143). -/
theorem roundTail_of_noEv {r : Round} {h : Nat} (hn : NoChanges r.st) (he : (vecOf r.st h).ev = none) (hnew : (vecOf r.st h).evNew = none)
    (hc : (vecOf r.st h).changes = []) (hg : roundCouches r h = []) : roundEnd (roundSettle r h) h = fenceAll (vecCalendar (promote r.st h) h) := by
  obtain ⟨v, hdec, -⟩ := roundDecide_of_noCouch hg
  have hm : hasMerge (vecOf r.st h) = false := by
    unfold hasMerge
    rw [he, hnew]
    rfl
  have hd : roundDecide r h = r.st := by
    rw [hdec, hm]
    rfl
  obtain ⟨b, hpv, hps, -⟩ := promote_noEv he hnew
  have hpe : (vecOf (promote r.st h) h).ev = none := by rw [hpv]; exact he
  have hb : vteBoundary (vecOf (promote r.st h) h).changes.length (promote r.st h) h = promote r.st h := by
    rw [hpv, show ({ vecOf r.st h with oldGen := b } : Vec).changes = [] from hc]
    rfl
  have hs : (roundSettle r h).st = promote r.st h := by
    unfold roundSettle
    dsimp only
    rw [hd, hb]
  have hpn : NoChanges (promote r.st h) := by
    rw [hps]
    exact hn
  have hstep (d : Bool) : (if d then retreat (promote r.st h) h else candidate (promote r.st h) h) = vecCalendar (promote r.st h) h := by
    have h1 : retreat (promote r.st h) h = vecCalendar (promote r.st h) h := by
      unfold retreat
      dsimp only
      rw [hpe]
    have h2 : candidate (promote r.st h) h = vecCalendar (promote r.st h) h := by
      unfold candidate
      dsimp only
      rw [hpe]
    rw [h1, h2]
    exact ite_self ..
  unfold roundEnd
  rw [hs, hstep]
  exact settleAll_of_noChanges (noChanges_of_decView (vecCalendar_decView ..) hpn)

/-- What the end of a round leaves of the state in which its vector holds no event. -/
structure Ended0 (s : State) (h : Nat) (t : State) : Prop where
  ev : (vecOf t h).ev = none
  active : (vecOf t h).active = (vecOf s h).active
  eois : (vecOf t h).eois = (vecOf s h).eois
  lineOn : (vecOf t h).lineOn = (vecOf s h).lineOn
  cnt : t.cnt = s.cnt
  vat : t.vat = s.vat
  ts : t.ts = s.ts
  fu : t.fu = s.fu
  flight : t.ar.flight = s.ar.flight
  md : t.md = s.md
  ctl : t.ctl = s.ctl
  tm : t.tm = s.tm

theorem vecCalendar_eq (s : State) (h : Nat) : ∃ c w, vecCalendar s h = { s with vs := { s.vs with calendar := c, sweepList := w } } := by
  obtain ⟨c, w, he⟩ := calEnter_eq s h
  obtain ⟨c', w', he'⟩ := calLeave_eq s h
  unfold vecCalendar
  extract_lets v need
  cases need
  · exact ⟨c', w', he'⟩
  · exact ⟨c, w, he⟩

theorem roundTail_ended {r : Round} {h : Nat} (hn : NoChanges r.st) (he : (vecOf r.st h).ev = none) (hnew : (vecOf r.st h).evNew = none)
    (hc : (vecOf r.st h).changes = []) (hg : roundCouches r h = []) : Ended0 r.st h (roundEnd (roundSettle r h) h) := by
  obtain ⟨b, hpv, hps, -⟩ := promote_noEv he hnew
  obtain ⟨c, w, hcal⟩ := vecCalendar_eq (promote r.st h) h
  have ho : offUnits (fenceAll (vecCalendar (promote r.st h) h)) = offUnits { promote r.st h with
      vs := { (promote r.st h).vs with calendar := c, sweepList := w } } := (fenceAll_offUnits _).trans (congrArg offUnits hcal)
  have hv : vecOf (fenceAll (vecCalendar (promote r.st h) h)) h = { vecOf r.st h with oldGen := b } := (congrArg (fun x => vecOf x h) ho :).trans hpv
  have hst {α : Type} (f : State → α) (hf : f (promote r.st h) = f r.st)
      (hx : f (fenceAll (vecCalendar (promote r.st h) h)) = f (promote r.st h)) : f (fenceAll (vecCalendar (promote r.st h) h)) = f r.st := hx.trans hf
  rw [roundTail_of_noEv hn he hnew hc hg]
  refine ⟨by rw [hv]; exact he, by rw [hv], by rw [hv], by rw [hv], hst State.cnt ?_ (congrArg State.cnt ho :), hst State.vat ?_ (congrArg State.vat ho :),
    hst State.ts ?_ (congrArg State.ts ho :), hst State.fu ?_ (congrArg State.fu ho :), hst (fun x => x.ar.flight) ?_ (congrArg (fun x => x.ar.flight) ho :),
    hst State.md ?_ (congrArg State.md ho :), hst State.ctl ?_ (congrArg State.ctl ho :), hst State.tm ?_ (congrArg State.tm ho :)⟩
  all_goals rw [hps]

/-! ### The EOI -/

/-- The inputs of a round of an MSI vector that has one EOI and no message (R143 step 3). -/
theorem inputsFrom_eoi {s : State} {h : Nat} {x : BitVec 16} (hh : 4096 ≤ h) (he : (vecOf s h).eois = [x])
    (hc : checkedOf (eoiIn h { st := vecPut s h { vecOf s h with eois := [] }, merges := [], defer := false } x).st h = []) :
    inputsFrom s h = eoiIn h { st := vecPut s h { vecOf s h with eois := [] }, merges := [], defer := false } x := by
  have heoi : eoisIn { st := s, merges := [], defer := false } h = eoiIn h { st := vecPut s h { vecOf s h with eois := [] }, merges := [], defer := false } x := by
    unfold eoisIn
    dsimp only
    rw [he]
    rfl
  unfold inputsFrom
  rw [heoi, wiredLevel_of_message hh, wiredMerge_of_message hh]
  exact vatIn_of_none hc

/-- What the end of the active record leaves, where no event waits (R151). -/
structure RecordEnded (u : State) (h : Nat) (a : Active) (U : State) : Prop where
  ev : (vecOf U h).ev = none
  evNew : (vecOf U h).evNew = none
  active : (vecOf U h).active = none
  rest : (vecOf U h).eois = (vecOf u h).eois ∧ (vecOf U h).lineOn = (vecOf u h).lineOn ∧ (vecOf U h).changes = (vecOf u h).changes
  oldGen : (vecOf u h).oldGen = false → (vecOf U h).oldGen = false
  noChanges : NoChanges u → NoChanges U
  amask : (tgtOf U a.target.toNat).amask = clrBit (tgtOf u a.target.toNat).amask a.prio.toNat
  vtes : ∀ k, vteOn U k = vteOn u k
  cnt : U.cnt = u.cnt
  vat : U.vat = u.vat
  lmem : U.ts.lmem = u.ts.lmem
  fu : U.fu = u.fu
  md : U.md = u.md
  ctl : U.ctl = u.ctl
  tm : U.tm = u.tm

theorem activeEnd_ends {u : State} {h : Nat} (a : Active) (he : (vecOf u h).ev = none) (hnew : (vecOf u h).evNew = none) :
    RecordEnded u h a (activeEnd u h a) := by
  let g := tgtOf u a.target.toNat
  let s1 := tgtPut u a.target.toNat { g with amask := clrBit g.amask a.prio.toNat }
  let s2 := vecPut s1 h { vecOf s1 h with active := none }
  have hv2 : vecOf s2 h = { vecOf u h with active := none } := vecOf_vecPut_same ..
  have he2 : (vecOf s2 h).ev = none := (congrArg Vec.ev hv2 :).trans he
  have hn2 : (vecOf s2 h).evNew = none := (congrArg Vec.evNew hv2 :).trans hnew
  obtain ⟨b, hpv, hps, -⟩ := promote_noEv he2 hn2
  have hold : (vecOf u h).oldGen = false → promote s2 h = s2 := fun ho => promote_of_newGen ((congrArg Vec.oldGen hv2 :).trans ho)
  have hact : activeEnd u h a = promote s2 h := rfl
  have hmask : tgtOf s1 a.target.toNat = { g with amask := clrBit g.amask a.prio.toNat } := tgtOf_tgtPut_same ..
  have hchanges (k : Nat) : (tgtOf s1 k).changes = (tgtOf u k).changes := by
    by_cases hk : k = a.target.toNat
    · rw [hk, hmask]
    · rw [tgtOf_tgtPut_ne _ _ hk]
  rw [hact]
  refine ⟨?_, ?_, ?_, ⟨?_, ?_, ?_⟩, fun ho => ?_, fun hn k => ?_, ?_, fun k => (congrArg (fun x => vteOn x k) hps :), (congrArg State.cnt hps :),
    (congrArg State.vat hps :), (congrArg (fun x => x.ts.lmem) hps :), (congrArg State.fu hps :), (congrArg State.md hps :), (congrArg State.ctl hps :),
    (congrArg State.tm hps :)⟩
  · exact (congrArg Vec.ev hpv :).trans he2
  · exact (congrArg Vec.evNew hpv :).trans hn2
  · exact (congrArg Vec.active hpv :).trans (congrArg Vec.active hv2 :)
  · exact (congrArg Vec.eois hpv :).trans (congrArg Vec.eois hv2 :)
  · exact (congrArg Vec.lineOn hpv :).trans (congrArg Vec.lineOn hv2 :)
  · exact (congrArg Vec.changes hpv :).trans (congrArg Vec.changes hv2 :)
  · rw [hold ho]
    exact (congrArg Vec.oldGen hv2 :).trans ho
  · obtain ⟨ht, hg, hc⟩ := hn k
    refine ⟨?_, ?_, ?_⟩
    · exact (congrArg (fun x => (tgtOf x k).changes) hps :).trans ((hchanges k).trans ht)
    · exact (congrArg (fun x => (groupOf x k).changes) hps :).trans hg
    · exact (congrArg (fun x => (couchOf x k).changes) hps :).trans hc
  · exact (congrArg (fun x => (tgtOf x a.target.toNat).amask) hps :).trans (congrArg Tgt.amask hmask :)

/-- An EOI at the target of the accepted record ends it; a level that is still asserted is pending again (R145 rows 11 and 12, R151). -/
theorem eoiIn_accepted {r : Round} {h : Nat} {e : Vte} {a : Active} (hv : vteOn r.st h = some e) (ha : (vecOf r.st h).active = some a)
    (hacc : a.accepted = true) (he : (vecOf r.st h).ev = none) (hnew : (vecOf r.st h).evNew = none) (hc : couchFor r.st e.cfg = none) :
    eoiIn h r a.target = if e.cfg.valid && e.cfg.level && (vecOf r.st h).lineOn then
        { r with
          st := vecPut (activeEnd r.st h a) h (placeEv (vecOf (activeEnd r.st h a) h) false e.epoch
            (newEv (activeEnd r.st h a) (snapOf e) (now r.st) 1 e.cfg.data false true))
          defer := true }
      else { r with st := activeEnd r.st h a, defer := true } := by
  have hend := activeEnd_ends (u := r.st) (h := h) a he hnew
  obtain ⟨-, hline, -⟩ := hend.rest
  have hsnap : snapAt (activeEnd r.st h a) h = snapOf e := by
    unfold snapAt
    rw [hend.vtes h, hv]
  unfold eoiIn
  dsimp only
  rw [ha]
  dsimp only
  rw [if_neg (not_not.mpr rfl), hacc, hsnap, hline, hend.ev, hend.evNew, if_neg (by decide)]
  simp only [Option.isNone_none, Bool.and_true]
  refine if_congr Iff.rfl ?_ rfl
  refine noteMerge_of_noCouch ?_ ..
  show couchFor (activeEnd r.st h a) e.cfg = none
  simp only [couchFor, sliceOf, hend.fu]
  exact hc

theorem eoiIn_stray {r : Round} {h : Nat} {e : Vte} (hv : vteOn r.st h = some e) (ha : (vecOf r.st h).active = none) (x : BitVec 16) :
    eoiIn h r x = { r with st := eoiStray r.st h x.toNat (if e.cfg.valid then 1 else 4) 0xFFFFFFFF } := by
  have hsnap : snapAt r.st h = snapOf e := by
    unfold snapAt
    rw [hv]
  unfold eoiIn
  dsimp only
  rw [ha, hsnap]
  rfl

/-! ### The start of an EOI's round -/

/-- What the round of a vector with one EOI starts from, apart from that EOI. -/
structure EoiStart (s : State) (h : Nat) (u : State) : Prop where
  vec : vecUnstamped (vecOf u h) = { vecUnstamped (vecOf s h) with eois := [] }
  noChanges : NoChanges u
  vtes : ∀ k, vteOn u k = vteOn s k
  cnt : u.cnt = s.cnt
  vat : u.vat = s.vat
  ts : u.ts = s.ts
  fu : u.fu = s.fu
  md : u.md = s.md
  ctl : u.ctl = s.ctl
  tm : u.tm = s.tm

theorem eoiRound {s : State} {h : BitVec 24} {e : Vte} {x : BitVec 16} (hd : rounding s = true) (hu : undisturbed s = true) (hn : noWaits s = true)
    (hh : 4096 ≤ h.toNat) (hv : vteOn s h.toNat = some e) (hr : roundReady s h.toNat = true) (hc : checkedOf s h.toNat = [])
    (hch : (vecOf s h.toNat).changes = []) (he : (vecOf s h.toNat).eois = [x]) :
    ∃ u, EoiStart s h.toNat u ∧ ((eoiIn h.toNat { st := u, merges := [], defer := false } x).st.vat = u.vat →
      exec (.rankingRound h .agree) s
        = .next (roundEnd (roundSettle (eoiIn h.toNat { st := u, merges := [], defer := false } x) h.toNat) h.toNat)) := by
  have ho := roundStart_offStart s h.toNat
  have hvec := roundStart_vecOf s h.toNat h.toNat
  let u := vecPut (roundStart s h.toNat) h.toNat { vecOf (roundStart s h.toNat) h.toNat with eois := [] }
  have huv : vecOf u h.toNat = { vecOf (roundStart s h.toNat) h.toNat with eois := [] } := vecOf_vecPut_same ..
  refine ⟨u, ⟨?_, ?_, fun k => (congrArg (fun y => vteOn y k) ho :), (congrArg State.cnt ho :), (congrArg State.vat ho :), (congrArg State.ts ho :),
    (congrArg State.fu ho :), (congrArg State.md ho :), (congrArg State.ctl ho :), (congrArg State.tm ho :)⟩, fun hvat => ?_⟩
  · exact (congrArg vecUnstamped huv :).trans (congrArg (fun v : Vec => { v with eois := [] }) hvec :)
  · have hs := noChanges_of_decView (roundStart_decView s h.toNat) (noChanges_of_noWaits hn)
    exact hs
  · rw [execRankingRound_ready hd hu hr, roundCommit_ready hv hr hch, inputsFrom_eoi (s := roundStart s h.toNat) hh ((congrArg Vec.eois hvec :).trans he)]
    show checkedOf (eoiIn h.toNat { st := u, merges := [], defer := false } x).st h.toNat = []
    have hslots : (eoiIn h.toNat { st := u, merges := [], defer := false } x).st.vat = s.vat := hvat.trans (congrArg State.vat ho :)
    unfold checkedOf at hc ⊢
    rw [hslots]
    exact hc

/-! ### A level change -/

/-- What a level change leaves of the state, apart from a new event (R145 rows 4 and 10). -/
structure LevelTaken (u : State) (h : Nat) (on : Bool) (U : State) : Prop where
  noChanges : NoChanges u → NoChanges U
  vat : U.vat = u.vat
  fu : U.fu = u.fu
  settings : settingsOn U = settingsOn u
  md : U.md = u.md
  ctl : U.ctl = u.ctl
  tm : U.tm = u.tm
  one : (vecOf U h).oldGen = false ∧ (vecOf U h).changes = (vecOf u h).changes ∧ (vecOf U h).evNew = (vecOf u h).evNew
  lineOn : (vecOf U h).lineOn = on
  record : recordOf U h = recordOf u h
  idle : on = false ∨ (vecOf u h).active.isSome = true → (vecOf u h).ev = none → (vecOf U h).ev = none
  pending : ∀ p, (vecOf u h).ev = some p → on = true ∨ (vecOf u h).active.isSome = true ∨ (vecOf u h).lineOn = false → (vecOf U h).ev = some p
  withdrawn : ∀ p, on = false → (vecOf u h).lineOn = true → (vecOf u h).active = none → (vecOf u h).ev = some p → p.snap.cfg.level = true →
    (vecOf U h).ev = none ∧ (p.stream = none → stillView h U = stillView h u)

/-- A vector that only notes its line (R145 row 10). -/
theorem lineNote_taken {u : State} {h : Nat} {on : Bool} (ho : (vecOf u h).oldGen = false)
    (hw : on = false → (vecOf u h).lineOn = true → (vecOf u h).active = none → ∀ p, (vecOf u h).ev = some p → p.snap.cfg.level = false) :
    LevelTaken u h on (lineNote u h on) := by
  have hv : vecOf (lineNote u h on) h = { vecOf u h with lineOn := on } := vecOf_vecPut_same ..
  refine ⟨id, rfl, rfl, rfl, rfl, rfl, rfl, ?_, ?_, ?_, fun _ he => ?_, fun p hp _ => ?_, fun p hon hl ha hp hlev => ?_⟩
  · rw [hv]
    exact ⟨ho, rfl, rfl⟩
  · rw [hv]
  · unfold recordOf
    rw [hv]
  · rw [hv]
    exact he
  · rw [hv]
    exact hp
  · exact absurd (hlev.symm.trans (hw hon hl ha p hp)) Bool.true_eq_false_eq_False

/-- A vector whose line stands already keeps what it has. -/
theorem levelTaken_of_noted {u : State} {h : Nat} {on : Bool} (ho : (vecOf u h).oldGen = false) (hl : (vecOf u h).lineOn = on) : LevelTaken u h on u := by
  refine ⟨id, rfl, rfl, rfl, rfl, rfl, rfl, ⟨ho, rfl, rfl⟩, hl, rfl, fun _ => id, fun p hp _ => hp, fun p hon hline _ _ _ => ?_⟩
  exact absurd (hline.symm.trans (hl.trans hon)) Bool.true_eq_false_eq_False

/-- The withdrawal of a level event leaves the vector without it, and all else but the stream that it stood in (R145 row 4). -/
theorem levelWithdraw_takes {u : State} {h : Nat} {p : Ev} (hn : (vecOf u h).evNew = none) (hp : (vecOf u h).ev = some p) (hl : p.snap.cfg.level = true) :
    ∃ x, levelWithdraw u h = vecPut x h { vecOf x h with ev := none } ∧ decView x = decView u ∧ streamView x = streamView u
      ∧ (vecOf x h).evNew = none ∧ (p.stream = none → x = u) := by
  have hdv := leaveStream_decView u h
  have hrest : vecRest (vecOf (leaveStream u h) h) = vecRest (vecOf u h) := congrFun (congrArg Prod.fst hdv) h
  have hnew : (vecOf (leaveStream u h) h).evNew = none := by
    have : (vecOf (leaveStream u h) h).evNew.map evRest = (vecOf u h).evNew.map evRest := congrArg Vec.evNew hrest
    rw [hn] at this
    exact Option.map_eq_none_iff.mp this
  have hdrop : (vecOf (dropEv u h) h).evNew = none := (congrArg Vec.evNew (vecOf_vecPut_same ..) :).trans hnew
  refine ⟨leaveStream u h, ?_, hdv, leaveStream_streamView u h, hnew, fun hs => leaveStream_of_noStream fun ev hev => ?_⟩
  · unfold levelWithdraw
    dsimp only
    rw [hp, show isLevelEv (some p) = true from hl, if_pos rfl, hdrop]
    rfl
  · exact Option.some.inj (hev.symm.trans hp) ▸ hs

theorem levelWithdraw_of_noLevelEv {u : State} {h : Nat} (hn : (vecOf u h).evNew = none)
    (hp : ∀ p, (vecOf u h).ev = some p → p.snap.cfg.level = false) : levelWithdraw u h = u := by
  have hev : isLevelEv (vecOf u h).ev = false := by
    cases he : (vecOf u h).ev with
    | none => rfl
    | some p => exact hp p he
  unfold levelWithdraw
  dsimp only
  rw [hev, if_neg Bool.false_ne_true, hn]
  rfl

/-- A deassertion withdraws the level event of a vector without a record, and otherwise is noted (R145 rows 4 and 10). -/
theorem levelOff_takes {r : Round} {h : Nat} (ho : (vecOf r.st h).oldGen = false) (hn : (vecOf r.st h).evNew = none) :
    ∃ U, levelOff r h = { r with st := U } ∧ LevelTaken r.st h false U := by
  obtain ⟨u, merges, d⟩ := r
  replace ho : (vecOf u h).oldGen = false := ho
  replace hn : (vecOf u h).evNew = none := hn
  unfold levelOff
  dsimp only
  cases hline : (vecOf u h).lineOn with
  | false => exact ⟨u, rfl, levelTaken_of_noted ho hline⟩
  | true =>
    refine ⟨_, rfl, ?_⟩
    have hv : vecOf (lineNote u h false) h = { vecOf u h with lineOn := false } := vecOf_vecPut_same ..
    rw [show (vecOf (lineNote u h false) h).active = (vecOf u h).active from (congrArg Vec.active hv :)]
    cases hact : (vecOf u h).active with
    | some a => exact lineNote_taken ho fun _ _ hx => absurd (hact.symm.trans hx) (Option.some_ne_none a)
    | none =>
      rw [if_pos (by rfl)]
      by_cases hlev : ∀ p, (vecOf (lineNote u h false) h).ev = some p → p.snap.cfg.level = false
      · rw [levelWithdraw_of_noLevelEv ((congrArg Vec.evNew hv :).trans hn) hlev]
        exact lineNote_taken ho fun _ _ _ p hp => hlev p ((congrArg Vec.ev hv :).trans hp)
      · simp only [not_forall, Bool.not_eq_false] at hlev
        obtain ⟨p, hp, hpl⟩ := hlev
        have hpu : (vecOf u h).ev = some p := (congrArg Vec.ev hv :).symm.trans hp
        obtain ⟨x, hx, hdv, hsv, hnew, hsame⟩ := levelWithdraw_takes ((congrArg Vec.evNew hv :).trans hn) hp hpl
        have hrest : vecRest (vecOf x h) = vecRest (vecOf (lineNote u h false) h) := congrFun (congrArg Prod.fst hdv) h
        rw [hv] at hrest
        have hV : vecOf (vecPut x h { vecOf x h with ev := none }) h = { vecOf x h with ev := none } := vecOf_vecPut_same ..
        rw [hx]
        refine ⟨fun hc => ?_, (congrArg (fun v => v.2.2.2.1) hdv :), (congrArg (fun v => v.1.fu) hsv :), ?_, (congrArg (fun v => v.2.2.2.2.1) hdv :),
          (congrArg (fun v => v.2.2.2.2.2.1) hdv :), (congrArg (fun v => v.2.2.2.2.2.2) hdv :), ⟨?_, ?_, ?_⟩, ?_, ?_, fun _ _ => ?_, fun q _ hor => ?_,
          fun q _ _ _ hq _ => ⟨?_, fun hs => ?_⟩⟩
        · have hxn := noChanges_of_decView hdv (show NoChanges (lineNote u h false) from hc)
          exact hxn
        · exact (congrArg (fun v => v.2.1) hsv :)
        · rw [hV]
          exact (congrArg Vec.oldGen hrest :).trans ho
        · rw [hV]
          exact (congrArg Vec.changes hrest :)
        · rw [hV]
          exact hnew.trans hn.symm
        · rw [hV]
          exact (congrArg Vec.lineOn hrest :)
        · have hact' : (vecOf x h).active.map (fun a => { a with accepted := false }) = (vecOf u h).active.map fun a => { a with accepted := false } :=
            congrArg Vec.active hrest
          rw [hact] at hact'
          unfold recordOf
          rw [hV, hact, Option.map_eq_none_iff.mp hact']
        · rw [hV]
        · rcases hor with hf | hf | hf
          · exact absurd hf Bool.false_ne_true
          · rw [hact] at hf
            exact absurd hf Bool.false_ne_true
          · exact absurd (hline.symm.trans hf) Bool.true_eq_false_eq_False
        · rw [hV]
        · have hqp : q = p := Option.some.inj (hq.symm.trans hpu)
          rw [hsame (hqp ▸ hs)]
          exact (vecPut_stillView ..).trans (vecPut_stillView ..)

/-- An assertion at a VALID entry of LEVEL 1 that brings no new event is only noted (R145 rows 2 and 10). -/
theorem levelOn_takes {r : Round} {h : Nat} {e : Vte} {sn : Snap} (ho : (vecOf r.st h).oldGen = false) (hn : (vecOf r.st h).evNew = none)
    (hval : e.cfg.valid = true) (hlev : e.cfg.level = true) (ht : sn.cfg.tenant = e.cfg.tenant) (hc : couchFor r.st e.cfg = none) (time : Nat) :
    levelOn r h e sn time = if (vecOf r.st h).active.isNone && (vecOf r.st h).ev.isNone then
        { r with st := vecPut (lineNote r.st h true) h (placeEv (vecOf (lineNote r.st h true) h) false e.epoch
          (newEv r.st (snapOf e) time 1 e.cfg.data false false)) }
      else { r with st := lineNote r.st h true } := by
  have hv : vecOf (lineNote r.st h true) h = { vecOf r.st h with lineOn := true } := vecOf_vecPut_same ..
  obtain ⟨-, hs1⟩ := mergeSnap_present (s := r.st) (h := h) ht ho
  obtain ⟨ho2, hs2⟩ := mergeSnap_present (s := lineNote r.st h true) (h := h) ht ((congrArg Vec.oldGen hv :).trans ho)
  unfold levelOn
  dsimp only
  rw [hs1, hs2, ho2, hval, if_neg (by decide), if_neg (by rw [show (snapOf e).cfg.level = true from hlev]; decide)]
  have hcond : ((vecOf (lineNote r.st h true) h).active.isNone && (vecOf (lineNote r.st h true) h).ev.isNone && (vecOf (lineNote r.st h true) h).evNew.isNone)
      = ((vecOf r.st h).active.isNone && (vecOf r.st h).ev.isNone) := by
    rw [hv]
    dsimp only
    rw [hn]
    exact Bool.and_true _
  rw [hcond]
  refine if_congr Iff.rfl (noteMerge_of_noCouch ?_ ..) rfl
  exact hc

/-- A level change at a VALID entry of LEVEL 1, in no group, and the event that an assertion makes of an idle vector (R145 rows 2, 4 and 10). -/
theorem levelIn_takes {r : Round} {h : Nat} {e : Vte} {sn : Snap} (hv : vteOn r.st h = some e) (ho : (vecOf r.st h).oldGen = false)
    (hn : (vecOf r.st h).evNew = none) (hval : e.cfg.valid = true) (hlev : e.cfg.level = true) (ht : sn.cfg.tenant = e.cfg.tenant)
    (hc : couchFor r.st e.cfg = none) (time : Nat) (on : Bool) :
    ∃ U, levelIn r h sn time on = { r with st := U } ∧ LevelTaken r.st h on U
      ∧ (on = true → (vecOf r.st h).active = none → (vecOf r.st h).ev = none →
        (vecOf U h).ev = some (newEv r.st (snapOf e) time 1 e.cfg.data false false)) := by
  have hin : levelIn r h sn time on = if on then levelOn r h e sn time else levelOff r h := by
    unfold levelIn
    rw [hv]
  rw [hin]
  cases on with
  | false =>
    obtain ⟨U, hU, hT⟩ := levelOff_takes ho hn
    exact ⟨U, hU, hT, fun hf => absurd hf Bool.false_ne_true⟩
  | true =>
    rw [if_pos rfl, levelOn_takes ho hn hval hlev ht hc]
    cases hidle : (vecOf r.st h).active.isNone && (vecOf r.st h).ev.isNone with
    | false =>
      refine ⟨_, rfl, lineNote_taken ho fun hf => absurd hf.symm Bool.false_ne_true, fun _ ha he => ?_⟩
      rw [ha, he] at hidle
      exact absurd hidle.symm Bool.false_ne_true
    | true =>
      rw [Bool.and_eq_true, Option.isNone_iff_eq_none, Option.isNone_iff_eq_none] at hidle
      obtain ⟨ha, he⟩ := hidle
      have hnote : vecOf (lineNote r.st h true) h = { vecOf r.st h with lineOn := true } := vecOf_vecPut_same ..
      have hplace (ev : Ev) : placeEv (vecOf (lineNote r.st h true) h) false e.epoch ev
          = { vecOf r.st h with lineOn := true, ev := some ev, oldGen := false, genEpoch := e.epoch } := by
        unfold placeEv
        rw [hnote]
        dsimp only
        rw [ho]
        rfl
      rw [if_pos rfl, hplace]
      refine ⟨_, rfl, ?_, fun _ _ _ => ?_⟩
      · refine ⟨id, rfl, rfl, rfl, rfl, rfl, rfl, ?_, ?_, ?_, fun hor => ?_, fun p hp => ?_, fun p hf => ?_⟩
        · rw [vecOf_vecPut_same]
          exact ⟨rfl, rfl, rfl⟩
        · rw [vecOf_vecPut_same]
        · unfold recordOf
          rw [vecOf_vecPut_same]
        · rw [ha] at hor
          exact absurd hor (by decide)
        · exact absurd (he.symm.trans hp) (Option.some_ne_none p).symm
        · exact absurd hf.symm Bool.false_ne_true
      · rw [vecOf_vecPut_same]

/-- The latched and gathered events of a level line count for nothing (assumption log 69). -/
theorem LevelTaken.of_unstepped {u U : State} {h : Nat} {on : Bool} (ht : LevelTaken u h on U) :
    LevelTaken u h on (vecPut U h { vecOf U h with steps := 0, slept := 0, sleptAt := none }) := by
  obtain ⟨hn, hvat, hfu, hset, hmd, hctl, htm, hone, hline, hrec, hidle, hpend, hwith⟩ := ht
  have hv : vecOf (vecPut U h { vecOf U h with steps := 0, slept := 0, sleptAt := none }) h = { vecOf U h with steps := 0, slept := 0, sleptAt := none } :=
    vecOf_vecPut_same ..
  refine ⟨hn, hvat, hfu, hset, hmd, hctl, htm, ?_, ?_, ?_, ?_, ?_, fun p hon hl ha hp hlev => ⟨?_, fun hs => ?_⟩⟩
  · rw [hv]
    exact hone
  · rw [hv]
    exact hline
  · unfold recordOf
    rw [hv]
    exact hrec
  · rw [hv]
    exact hidle
  · rw [hv]
    exact hpend
  · rw [hv]
    exact (hwith p hon hl ha hp hlev).1
  · exact (vecPut_stillView ..).trans ((hwith p hon hl ha hp hlev).2 hs)

theorem recordOf_of_decView {s t : State} (hv : decView t = decView s) (h : Nat) : recordOf t h = recordOf s h := by
  have hk : vecRest (vecOf t h) = vecRest (vecOf s h) := congrFun (congrArg Prod.fst hv) h
  have ha : (vecOf t h).active.map (fun a => { a with accepted := false }) = (vecOf s h).active.map fun a => { a with accepted := false } :=
    congrArg Vec.active hk
  have hr (o : Option Active) : o.map (fun a => (a.target, a.prio, a.ev)) = (o.map fun a => { a with accepted := false }).map fun a => (a.target, a.prio, a.ev) := by
    cases o <;> rfl
  unfold recordOf
  rw [hr, ha, ← hr]

/-- What a round shows that took a level change. -/
structure LevelShown (u : State) (h : Nat) (on : Bool) (U T : State) : Prop where
  vat : T.vat = u.vat
  md : T.md = u.md
  ctl : T.ctl = u.ctl
  tm : T.tm = u.tm
  lineOn : (vecOf T h).lineOn = on
  record : recordOf T h = recordOf u h
  idle : (vecOf U h).ev = none → (vecOf T h).ev = none
  pending : ∀ p, (vecOf U h).ev = some p → ∃ ev, (vecOf T h).ev = some ev ∧ evRest ev = evRest p
  still : (vecOf U h).ev = none → stillView h U = stillView h u → T.cnt = u.cnt ∧ T.ar.flight = u.ar.flight

/-- The end of a round that took a level change leaves what it made of the vector. -/
theorem LevelTaken.shown {u U : State} {h : Nat} {e : Vte} {on : Bool} (ht : LevelTaken u h on U) (hn : NoChanges u) (hv : vteOn u h = some e)
    (hcouch : couchFor u e.cfg = none) (hch : (vecOf u h).changes = []) (hnew : (vecOf u h).evNew = none) (d : Bool) :
    LevelShown u h on U (roundEnd (roundSettle { st := U, merges := [], defer := d } h) h) := by
  obtain ⟨hold, hchU, hnewU⟩ := ht.one
  have hNU := ht.noChanges hn
  have hchU' : (vecOf U h).changes = [] := hchU.trans hch
  have hdv : decView (roundEnd (roundSettle { st := U, merges := [], defer := d } h) h) = decView U := roundTail_decView hNU hold hchU'
  have hset : settingsOn U h = some (e.cfg, e.epoch) := by
    rw [ht.settings]
    simp only [settingsOn, hv, Option.map_some]
  obtain ⟨e', hv', he'⟩ := Option.map_eq_some_iff.mp (show (vteOn U h).map _ = _ from hset)
  have hcfg : e'.cfg = e.cfg := congrArg Prod.fst he'
  have hstill : (vecOf U h).ev = none →
      stillView h (roundEnd (roundSettle { st := U, merges := [], defer := d } h) h) = stillView h U := fun hev => by
    have hno : ∀ {P : Ev → Prop}, ∀ ev, (vecOf U h).ev = some ev → P ev := fun ev hx => absurd (hev.symm.trans hx) (Option.some_ne_none ev).symm
    refine roundTail_stillView hNU hold hchU' (roundCouches_eq_nil hv' ?_ rfl hno (hnewU.trans hnew)) hno
    rw [hcfg]
    simp only [couchFor, sliceOf, ht.fu]
    exact hcouch
  generalize roundEnd (roundSettle { st := U, merges := [], defer := d } h) h = T at hdv hstill
  have hvec : vecRest (vecOf T h) = vecRest (vecOf U h) := congrFun (congrArg Prod.fst hdv) h
  exact ⟨(congrArg (fun v => v.2.2.2.1) hdv :).trans ht.vat, (congrArg (fun v => v.2.2.2.2.1) hdv :).trans ht.md,
    (congrArg (fun v => v.2.2.2.2.2.1) hdv :).trans ht.ctl, (congrArg (fun v => v.2.2.2.2.2.2) hdv :).trans ht.tm,
    (congrArg Vec.lineOn hvec :).trans ht.lineOn, (recordOf_of_decView hdv h).trans ht.record, fun hev => ev_none_of_decView hdv hev,
    fun p hp => ev_of_decView hdv hp, fun hev hs => ⟨(congrArg (fun v => v.2.2.1) ((hstill hev).trans hs) :),
      (congrArg (fun v => v.2.2.2.1) ((hstill hev).trans hs) :)⟩⟩

/-! ### The clauses -/

theorem levelEvent_of_shown {s u U T : State} {h : Nat} {e : Vte} {on : Bool} {time : Nat} (hT : LevelShown u h on U T) (hctl : u.ctl = s.ctl)
    (hev : (vecOf U h).ev = some (newEv u (snapOf e) time 1 e.cfg.data false false)) : levelEvent s T h e time false := by
  obtain ⟨ev, hx, hrest⟩ := hT.pending _ hev
  refine ⟨ev, hx, (congrArg Ev.count hrest :), (congrArg Ev.time hrest :), (congrArg Ev.data hrest :), (congrArg Ev.snap hrest :),
    (congrArg Ev.stillOn hrest :), (congrArg Ev.deadline hrest :).trans ?_⟩
  show deadlineOf u e.cfg.cls time = _
  simp only [deadlineOf, hctl]

/-- The EOI of a LEVEL 0 vector that has no event (R145 rows 11, 13 and 15, R159). -/
theorem edgeEoi_shown {s : State} {h : BitVec 24} {e : Vte} {x : BitVec 16} (hd : rounding s = true) (hu : undisturbed s = true) (hn : noWaits s = true)
    (hh : 4096 ≤ h.toNat) (hv : vteOn s h.toNat = some e) (hlev : e.cfg.level = false) (hr : roundReady s h.toNat = true)
    (hc : checkedOf s h.toNat = []) (hcouch : couchFor s e.cfg = none) (hch : (vecOf s h.toNat).changes = []) (he : (vecOf s h.toNat).ev = none)
    (hnew : (vecOf s h.toNat).evNew = none) (heoi : (vecOf s h.toNat).eois = [x]) :
    (∀ a, (vecOf s h.toNat).active = some a → a.target = x → a.accepted = true →
      ∃ t, exec (.rankingRound h .agree) s = .next t ∧ (vecOf t h.toNat).active = none ∧ (vecOf t h.toNat).eois = []
        ∧ (tgtOf t x.toNat).amask = clrBit (tgtOf s x.toNat).amask a.prio.toNat ∧ t.cnt = s.cnt ∧ t.vat = s.vat ∧ t.ts.lmem = s.ts.lmem
        ∧ t.md = s.md ∧ t.ctl = s.ctl ∧ t.tm = s.tm)
    ∧ ((vecOf s h.toNat).active = none →
      ∃ t, exec (.rankingRound h .agree) s = .next t ∧ t.cnt = { s.cnt with eoiStray := s.cnt.eoiStray + 1 } ∧ (vecOf t h.toNat).eois = []
        ∧ t.ts.targets = s.ts.targets ∧ t.vat = s.vat ∧ t.md = s.md ∧ t.ctl = s.ctl ∧ t.tm = s.tm) := by
  obtain ⟨u, hu0, hexec⟩ := eoiRound hd hu hn hh hv hr hc hch heoi
  have hvec := hu0.vec
  have heu : (vecOf u h.toNat).ev = none := (congrArg Vec.ev hvec :).trans he
  have hnu : (vecOf u h.toNat).evNew = none := (congrArg Vec.evNew hvec :).trans hnew
  have hchu : (vecOf u h.toNat).changes = [] := (congrArg Vec.changes hvec :).trans hch
  have hactu : (vecOf u h.toNat).active = (vecOf s h.toNat).active := (congrArg Vec.active hvec :)
  have heoiu : (vecOf u h.toNat).eois = [] := (congrArg Vec.eois hvec :)
  have hvu := (hu0.vtes h.toNat).trans hv
  have hcu : couchFor u e.cfg = none := by
    simp only [couchFor, sliceOf, hu0.fu]
    exact hcouch
  have hno : ∀ {P : Ev → Prop} {x : State}, (vecOf x h.toNat).ev = none → ∀ ev, (vecOf x h.toNat).ev = some ev → P ev :=
    fun hev ev hx => absurd (hev.symm.trans hx) (Option.some_ne_none ev).symm
  refine ⟨fun a ha hx hacc => ?_, fun ha => ?_⟩
  · subst hx
    have hend := activeEnd_ends (u := u) (h := h.toNat) a heu hnu
    have hin := (eoiIn_accepted (r := { st := u, merges := [], defer := false }) hvu (hactu.trans ha) hacc heu hnu hcu).trans
      (if_neg (by rw [hlev, Bool.and_false]; exact Bool.false_ne_true))
    rw [hin] at hexec
    obtain ⟨heois, -, hchE⟩ := hend.rest
    have htail := roundTail_ended (r := { st := activeEnd u h.toNat a, merges := [], defer := true }) (hend.noChanges hu0.noChanges) hend.ev hend.evNew
      (hchE.trans hchu) (roundCouches_eq_nil ((hend.vtes h.toNat).trans hvu) (by simp only [couchFor, sliceOf, hend.fu]; exact hcu) rfl (hno hend.ev) hend.evNew)
    have hvat := hend.vat
    generalize activeEnd u h.toNat a = E at hexec htail hend heois hvat
    replace hexec := hexec hvat
    generalize roundEnd (roundSettle { st := E, merges := [], defer := true } h.toNat) h.toNat = T at hexec htail
    refine ⟨T, hexec, htail.active.trans hend.active, htail.eois.trans (heois.trans heoiu), ?_, htail.cnt.trans (hend.cnt.trans hu0.cnt),
      htail.vat.trans (hvat.trans hu0.vat), (congrArg TargetStore.lmem htail.ts).trans (hend.lmem.trans (congrArg TargetStore.lmem hu0.ts)),
      htail.md.trans (hend.md.trans hu0.md), htail.ctl.trans (hend.ctl.trans hu0.ctl), htail.tm.trans (hend.tm.trans hu0.tm)⟩
    have h1 : tgtOf T a.target.toNat = tgtOf E a.target.toNat := by simp only [tgtOf, htail.ts, htail.fu]
    have h2 : tgtOf u a.target.toNat = tgtOf s a.target.toNat := by simp only [tgtOf, hu0.ts, hu0.fu]
    rw [h1, hend.amask, h2]
  · rw [eoiIn_stray (r := { st := u, merges := [], defer := false }) hvu (hactu.trans ha)] at hexec
    let u1 := { u with cnt := { u.cnt with eoiStray := u.cnt.eoiStray + 1 } }
    have hlog : Logged u1 (eoiStray u h.toNat x.toNat (if e.cfg.valid then 1 else 4) 0xFFFFFFFF) := Logged.jnlRated ..
    generalize eoiStray u h.toNat x.toNat (if e.cfg.valid then 1 else 4) 0xFFFFFFFF = E at hexec hlog
    have hEv : vecOf E h.toNat = vecOf u h.toNat := hlog.vecOf h.toNat
    have hEvte : vteOn E h.toNat = some e := by
      refine Eq.trans ?_ hvu
      simp only [vteOn, hlog.vs]
      rfl
    have hEn : NoChanges E := noChanges_of_decView hlog.decView (show NoChanges u1 from hu0.noChanges)
    have htail := roundTail_ended (r := { st := E, merges := [], defer := false }) hEn ((congrArg Vec.ev hEv :).trans heu)
      ((congrArg Vec.evNew hEv :).trans hnu) ((congrArg Vec.changes hEv :).trans hchu)
      (roundCouches_eq_nil hEvte (by simp only [couchFor, sliceOf, hlog.fu]; exact hcu) rfl (hno ((congrArg Vec.ev hEv :).trans heu))
        ((congrArg Vec.evNew hEv :).trans hnu))
    replace hexec := hexec hlog.vat
    generalize roundEnd (roundSettle { st := E, merges := [], defer := false } h.toNat) h.toNat = T at hexec htail
    refine ⟨T, hexec, htail.cnt.trans (hlog.cnt.trans ?_), htail.eois.trans ((congrArg Vec.eois hEv :).trans heoiu), ?_,
      htail.vat.trans (hlog.vat.trans hu0.vat), htail.md.trans (hlog.md.trans hu0.md), htail.ctl.trans (hlog.ctl.trans hu0.ctl),
      htail.tm.trans (hlog.tm.trans hu0.tm)⟩
    · show { u.cnt with eoiStray := u.cnt.eoiStray + 1 } = _
      rw [hu0.cnt]
    · rw [htail.ts, hlog.ts]
      show u.ts.targets = _
      rw [hu0.ts]

/-- The EOI of a LEVEL 1 vector, whose source may still be asserted (R145 rows 11 and 12, R147). -/
theorem levelEoi_shown {s : State} {h : BitVec 24} {e : Vte} {a : Active} (hl : levelReady s h.toNat e) (hh : 4096 ≤ h.toNat)
    (hc : checkedOf s h.toNat = []) (he : (vecOf s h.toNat).ev = none) (heoi : (vecOf s h.toNat).eois = [a.target])
    (ha : (vecOf s h.toNat).active = some a) (hacc : a.accepted = true) :
    ∃ t, exec (.rankingRound h .agree) s = .next t ∧ (vecOf t h.toNat).active = none ∧ (vecOf t h.toNat).eois = []
      ∧ (tgtOf t a.target.toNat).amask = clrBit (tgtOf s a.target.toNat).amask a.prio.toNat
      ∧ ((vecOf s h.toNat).lineOn = true → levelEvent s t h.toNat e (now s) true)
      ∧ ((vecOf s h.toNat).lineOn = false → (vecOf t h.toNat).ev = none)
      ∧ t.cnt = s.cnt ∧ t.vat = s.vat ∧ t.ts.lmem = s.ts.lmem ∧ t.md = s.md ∧ t.ctl = s.ctl ∧ t.tm = s.tm := by
  obtain ⟨hd, hu, hn, -, hv, hval, hlev, hr, hcouch, hch, hold, hnew⟩ := hl
  obtain ⟨u, hu0, hexec⟩ := eoiRound hd hu hn hh hv hr hc hch heoi
  have hvec := hu0.vec
  have heu : (vecOf u h.toNat).ev = none := (congrArg Vec.ev hvec :).trans he
  have hnu : (vecOf u h.toNat).evNew = none := (congrArg Vec.evNew hvec :).trans hnew
  have hactu : (vecOf u h.toNat).active = some a := (congrArg Vec.active hvec :).trans ha
  have hlineu : (vecOf u h.toNat).lineOn = (vecOf s h.toNat).lineOn := (congrArg Vec.lineOn hvec :)
  have holdu : (vecOf u h.toNat).oldGen = false := (congrArg Vec.oldGen hvec :).trans hold
  have hvu := (hu0.vtes h.toNat).trans hv
  have hcu : couchFor u e.cfg = none := by
    simp only [couchFor, sliceOf, hu0.fu]
    exact hcouch
  have hend := activeEnd_ends (u := u) (h := h.toNat) a heu hnu
  have hin := eoiIn_accepted (r := { st := u, merges := [], defer := false }) hvu hactu hacc heu hnu hcu
  obtain ⟨heois, hlineE, hchE⟩ := hend.rest
  have holdE := hend.oldGen holdu
  have hNE := hend.noChanges hu0.noChanges
  have hvE := (hend.vtes h.toNat).trans hvu
  have hcE : couchFor (activeEnd u h.toNat a) e.cfg = none := by
    simp only [couchFor, sliceOf, hend.fu]
    exact hcu
  have heoisE : (vecOf (activeEnd u h.toNat a) h.toNat).eois = [] := heois.trans (congrArg Vec.eois hvec :)
  have hchE' : (vecOf (activeEnd u h.toNat a) h.toNat).changes = [] := hchE.trans ((congrArg Vec.changes hvec :).trans hch)
  have hmask : (tgtOf u a.target.toNat).amask = (tgtOf s a.target.toNat).amask := by simp only [tgtOf, hu0.ts, hu0.fu]
  have hdl : deadlineOf (activeEnd u h.toNat a) e.cfg.cls (now u) = deadlineOf s e.cfg.cls (now s) := by
    simp only [deadlineOf, now, hend.ctl, hu0.ctl, hu0.tm]
  have hnow : now u = now s := by simp only [now, hu0.tm]
  rw [hin] at hexec
  rw [hval, hlev, hlineu] at hexec
  have hcnt := hend.cnt.trans hu0.cnt
  have hvat := hend.vat.trans hu0.vat
  have hlmem := hend.lmem.trans (congrArg TargetStore.lmem hu0.ts)
  have hmd := hend.md.trans hu0.md
  have hctl := hend.ctl.trans hu0.ctl
  have htm := hend.tm.trans hu0.tm
  have hvatu := hend.vat
  have hEev := hend.ev
  have hEact := hend.active
  have hEnew := hend.evNew
  have hEmask := hend.amask.trans (congrArg (fun m => clrBit m a.prio.toNat) hmask)
  cases hline : (vecOf s h.toNat).lineOn with
  | false =>
    rw [hline] at hexec
    replace hexec := hexec hvatu
    simp only [Bool.and_false, Bool.false_eq_true, if_false] at hexec
    have htail := roundTail_ended (r := { st := activeEnd u h.toNat a, merges := [], defer := true }) hNE hEev hEnew hchE'
      (roundCouches_eq_nil hvE hcE rfl (fun ev hx => absurd (hEev.symm.trans hx) (Option.some_ne_none ev).symm) hEnew)
    generalize roundEnd (roundSettle { st := activeEnd u h.toNat a, merges := [], defer := true } h.toNat) h.toNat = T at hexec htail
    refine ⟨T, hexec, htail.active.trans hEact, htail.eois.trans heoisE, ?_, fun hf => absurd hf Bool.false_ne_true, fun _ => htail.ev,
      htail.cnt.trans hcnt, htail.vat.trans hvat, (congrArg TargetStore.lmem htail.ts).trans hlmem, htail.md.trans hmd, htail.ctl.trans hctl,
      htail.tm.trans htm⟩
    rw [← hEmask]
    simp only [tgtOf, htail.ts, htail.fu]
  | true =>
    rw [hline] at hexec
    replace hexec := hexec hvatu
    simp only [Bool.and_true, if_true] at hexec
    generalize activeEnd u h.toNat a = E at hexec hNE hvE hcE heoisE hchE' hdl hcnt hvat hlmem hmd hctl htm hEev hEact hEnew hEmask holdE
    let N := newEv E (snapOf e) (now u) 1 e.cfg.data false true
    have hplace : placeEv (vecOf E h.toNat) false e.epoch N = { vecOf E h.toNat with ev := some N, oldGen := false, genEpoch := e.epoch } := by
      unfold placeEv
      rw [holdE]
      rfl
    rw [show placeEv (vecOf E h.toNat) false e.epoch (newEv E (snapOf e) (now u) 1 e.cfg.data false true) = _ from hplace] at hexec
    let U := vecPut E h.toNat { vecOf E h.toNat with ev := some N, oldGen := false, genEpoch := e.epoch }
    have hUv : vecOf U h.toNat = { vecOf E h.toNat with ev := some N, oldGen := false, genEpoch := e.epoch } := vecOf_vecPut_same ..
    have hUev : (vecOf U h.toNat).ev = some N := (congrArg Vec.ev hUv :)
    have hUold : (vecOf U h.toNat).oldGen = false := (congrArg Vec.oldGen hUv :)
    have hUch : (vecOf U h.toNat).changes = [] := (congrArg Vec.changes hUv :).trans hchE'
    have hUn : NoChanges U := hNE
    have hdv : decView (roundEnd (roundSettle { st := U, merges := [], defer := true } h.toNat) h.toNat) = decView U := roundTail_decView hUn hUold hUch
    have hcN : evCouch U N = none := by
      show (couchFor E e.cfg).map _ = none
      rw [hcE]
      rfl
    have hstill : stillView h.toNat (roundEnd (roundSettle { st := U, merges := [], defer := true } h.toNat) h.toNat) = stillView h.toNat U := by
      refine roundTail_stillView hUn hUold hUch (roundCouches_eq_nil (e := e) hvE hcE rfl (fun ev hev => ?_) ?_) (fun ev hev => ?_)
      · exact Option.some.inj (hUev.symm.trans hev) ▸ hcN
      · exact (congrArg Vec.evNew hUv :).trans hEnew
      · exact Option.some.inj (hUev.symm.trans hev) ▸ rfl
    generalize roundEnd (roundSettle { st := U, merges := [], defer := true } h.toNat) h.toNat = T at hdv hstill hexec
    obtain ⟨ev, hev, hrest⟩ := ev_of_decView hdv hUev
    have hvecT : vecRest (vecOf T h.toNat) = vecRest (vecOf U h.toNat) := congrFun (congrArg Prod.fst hdv) h.toNat
    have hactT : (vecOf T h.toNat).active.map (fun a => { a with accepted := false }) = (vecOf U h.toNat).active.map fun a => { a with accepted := false } :=
      congrArg Vec.active hvecT
    rw [show (vecOf U h.toNat).active = none from (congrArg Vec.active hUv :).trans hEact] at hactT
    refine ⟨T, hexec, Option.map_eq_none_iff.mp hactT, (congrArg Vec.eois hvecT :).trans ((congrArg Vec.eois hUv :).trans heoisE), ?_, fun _ => ?_,
      fun hf => absurd hf.symm Bool.false_ne_true, (congrArg (fun v => v.2.2.1) hstill :).trans hcnt, (congrArg (fun v => v.2.2.2.1) hdv :).trans hvat,
      (congrArg (fun v => v.2.2.2.2) hstill :).trans hlmem, (congrArg (fun v => v.2.2.2.2.1) hdv :).trans hmd,
      (congrArg (fun v => v.2.2.2.2.2.1) hdv :).trans hctl, (congrArg (fun v => v.2.2.2.2.2.2) hdv :).trans htm⟩
    · exact (congrFun (congrArg (fun v => v.2.1) hdv) a.target.toNat :).trans hEmask
    · exact ⟨ev, hev, (congrArg Ev.count hrest :), (congrArg Ev.time hrest :).trans hnow, (congrArg Ev.data hrest :), (congrArg Ev.snap hrest :),
        (congrArg Ev.stillOn hrest :), (congrArg Ev.deadline hrest :).trans hdl⟩

/-- The one message of a LEVEL 1 vector, an assertion or a deassertion (R50, R122, R145 rows 2, 4 and 10). -/
theorem levelMessage_shown {s : State} {h : BitVec 24} {e : Vte} {x : Slot} {sn : Snap} (hl : levelReady s h.toNat e) (hh : 4096 ≤ h.toNat)
    (hi : s.ctl.ingressEn = true) (hc : checkedOf s h.toNat = [(x, sn)]) (ht : sn.cfg.tenant = e.cfg.tenant) (heoi : (vecOf s h.toNat).eois = [])
    (hk : x.kind = .assert ∨ x.kind = .deassert) :
    ∃ u U T, exec (.rankingRound h .agree) s = .next T ∧ MessageStart s h.toNat x u ∧ LevelTaken u h.toNat (decide (x.kind = .assert)) U
      ∧ LevelShown u h.toNat (decide (x.kind = .assert)) U T
      ∧ (x.kind = .assert → (vecOf u h.toNat).active = none → (vecOf u h.toNat).ev = none →
        (vecOf U h.toNat).ev = some (newEv u (snapOf e) x.stamp 1 e.cfg.data false false)) := by
  obtain ⟨hd, hu, hn, -, hv, hval, hlev, hr, hcouch, hch, hold, hnew⟩ := hl
  obtain ⟨u, hu0, hexec⟩ := messageRound hd hu hi hn hh hv hr hc hch heoi
  have hvec := hu0.vec
  have hvu := (hu0.vtes h.toNat).trans hv
  have hnu : (vecOf u h.toNat).evNew = none := (congrArg Vec.evNew hvec :).trans hnew
  have hcu : couchFor u e.cfg = none := by
    simp only [couchFor, sliceOf, hu0.fu]
    exact hcouch
  have hmsg : messageIn h.toNat { st := u, merges := [], defer := false } (x, sn)
      = levelIn { st := u, merges := [], defer := false } h.toNat sn x.stamp (decide (x.kind = .assert)) := by
    unfold messageIn
    rcases hk with hk | hk <;> rw [hk] <;> rfl
  obtain ⟨U, hU, hT, hfresh⟩ := levelIn_takes (r := { st := u, merges := [], defer := false }) hvu ((congrArg Vec.oldGen hvec :).trans hold) hnu hval hlev ht
    hcu x.stamp (decide (x.kind = .assert))
  rw [hmsg, hU] at hexec
  exact ⟨u, U, _, hexec, hu0, hT, hT.shown hu0.noChanges hvu hcu ((congrArg Vec.changes hvec :).trans hch) hnu false,
    fun hx => hfresh (decide_eq_true hx)⟩

theorem recordOf_congr {s u : State} {h : Nat} (ha : (vecOf u h).active = (vecOf s h).active) : recordOf u h = recordOf s h := by
  unfold recordOf
  rw [ha]

/-- A wired line of a LEVEL 1 vector, sampled in SERVING (R146, R147, R285). -/
theorem levelLine_shown {s : State} {n : Fin 3840} {e : Vte} (hl : levelReady s n.val e) (hm : s.md.mode = .serving) (hkind : e.cfg.kind = 0)
    (hc : checkedOf s n.val = []) (heoi : (vecOf s n.val).eois = []) :
    ∃ u U T, exec (.rankingRound (BitVec.ofNat 24 n.val) .agree) s = .next T ∧ vecUnstamped (vecOf u n.val) = vecUnstamped (vecOf s n.val)
      ∧ offStart u = offStart s ∧ LevelTaken u n.val (lineActive s e.cfg n.val) U ∧ LevelShown u n.val (lineActive s e.cfg n.val) U T
      ∧ (lineActive s e.cfg n.val = true → (vecOf u n.val).lineOn = false → (vecOf u n.val).active = none → (vecOf u n.val).ev = none →
        (vecOf U n.val).ev = some (newEv u (snapOf e) (now s) 1 e.cfg.data false false)) := by
  obtain ⟨hd, hu, hn, -, hv, hval, hlev, hr, hcouch, hch, hold, hnew⟩ := hl
  have hlt := n.isLt
  have hnat : (BitVec.ofNat 24 n.val).toNat = n.val := by
    rw [BitVec.toNat_ofNat]
    exact Nat.mod_eq_of_lt (by omega)
  have hexec := execRankingRound_ready (h := BitVec.ofNat 24 n.val) hd hu (hnat.symm ▸ hr)
  rw [hnat, roundCommit_ready hv hr hch] at hexec
  have ho := roundStart_offStart s n.val
  have hrv := roundStart_vecOf s n.val n.val
  let u := vecPut (roundStart s n.val) n.val (vecOf (roundStart s n.val) n.val)
  have hvec : vecUnstamped (vecOf u n.val) = vecUnstamped (vecOf s n.val) := (congrArg vecUnstamped (vecOf_vecPut_self (roundStart s n.val) n.val n.val) :).trans hrv
  have hou : offStart u = offStart s := ho
  have heoisIn : eoisIn { st := roundStart s n.val, merges := [], defer := false } n.val = { st := u, merges := [], defer := false } :=
    eoisIn_of_none (r := { st := roundStart s n.val, merges := [], defer := false }) ((congrArg Vec.eois hrv :).trans heoi)
  have hun : NoChanges u := by
    have hs := noChanges_of_decView (roundStart_decView s n.val) (noChanges_of_noWaits hn)
    exact hs
  clear_value u
  have hvu : vteOn u n.val = some e := (congrArg (fun y => vteOn y n.val) hou :).trans hv
  have hoU : (vecOf u n.val).oldGen = false := (congrArg Vec.oldGen hvec :).trans hold
  have hnu : (vecOf u n.val).evNew = none := (congrArg Vec.evNew hvec :).trans hnew
  have hchu : (vecOf u n.val).changes = [] := (congrArg Vec.changes hvec :).trans hch
  have hcu : couchFor u e.cfg = none := (congrArg (fun y => couchFor y e.cfg) hou :).trans hcouch
  have hact : lineActive u e.cfg n.val = lineActive s e.cfg n.val := (congrArg (fun y => lineActive y e.cfg n.val) hou :)
  have hnow : now u = now s := (congrArg now hou :)
  have htaken : wiredTaken u = true := by
    have hmode : u.md.mode = .serving := (congrArg (fun y => y.md.mode) hou :).trans hm
    unfold wiredTaken
    rw [hmode]
    rfl
  have hline : ∃ U, wiredLevel { st := u, merges := [], defer := false } n.val = { st := U, merges := [], defer := false }
      ∧ LevelTaken u n.val (lineActive s e.cfg n.val) U
      ∧ (lineActive s e.cfg n.val = true → (vecOf u n.val).lineOn = false → (vecOf u n.val).active = none → (vecOf u n.val).ev = none →
        (vecOf U n.val).ev = some (newEv u (snapOf e) (now s) 1 e.cfg.data false false)) := by
    have hw : wiredLevel { st := u, merges := [], defer := false } n.val = if lineActive s e.cfg n.val = (vecOf u n.val).lineOn
        then { st := u, merges := [], defer := false }
        else levelIn { st := u, merges := [], defer := false } n.val (snapOf e) (now s) (lineActive s e.cfg n.val) := by
      unfold wiredLevel
      dsimp only
      rw [hvu]
      dsimp only
      rw [htaken, decide_eq_true hlt, decide_eq_true hkind, hval, hlev, hact, hnow]
      rfl
    rw [hw]
    by_cases hsame : lineActive s e.cfg n.val = (vecOf u n.val).lineOn
    · rw [if_pos hsame]
      exact ⟨u, rfl, levelTaken_of_noted hoU hsame.symm, fun hon hoff => absurd (hon.symm.trans (hsame.trans hoff)) Bool.true_eq_false_eq_False⟩
    · rw [if_neg hsame]
      obtain ⟨U, hU, hT, hfresh⟩ := levelIn_takes (r := { st := u, merges := [], defer := false }) (sn := snapOf e) hvu hoU hnu hval hlev rfl hcu (now s)
        (lineActive s e.cfg n.val)
      exact ⟨U, hU, hT, fun hon _ => hfresh hon⟩
  obtain ⟨U, hU, hT, hfresh⟩ := hline
  have hvat : vatIn { st := U, merges := [], defer := false } n.val = { st := U, merges := [], defer := false } := by
    refine vatIn_of_none (r := { st := U, merges := [], defer := false }) ?_
    have hslots : U.vat = s.vat := hT.vat.trans (congrArg State.vat hou :)
    unfold checkedOf at hc ⊢
    rw [show ({ st := U, merges := [], defer := false } : Round).st.vat = s.vat from hslots]
    exact hc
  have hset : (vteOn U n.val).map (fun v => (v.cfg, v.epoch)) = some (e.cfg, e.epoch) := by
    have : settingsOn U n.val = settingsOn u n.val := congrFun hT.settings n.val
    refine Eq.trans this ?_
    simp only [settingsOn, hvu, Option.map_some]
  obtain ⟨e', hv', he'⟩ := Option.map_eq_some_iff.mp hset
  have hcfg : e'.cfg = e.cfg := congrArg Prod.fst he'
  have hmerge : ∃ U', wiredMerge { st := U, merges := [], defer := false } n.val = { st := U', merges := [], defer := false }
      ∧ LevelTaken u n.val (lineActive s e.cfg n.val) U' ∧ (vecOf U' n.val).ev = (vecOf U n.val).ev := by
    unfold wiredMerge
    dsimp only
    rw [hv']
    dsimp only
    rw [hcfg, hlev, decide_eq_true hlt]
    split
    · refine ⟨_, rfl, hT.of_unstepped, ?_⟩
      rw [vecOf_vecPut_same]
    · exact ⟨U, rfl, hT, rfl⟩
  obtain ⟨U', hU', hT', hev'⟩ := hmerge
  have hin : inputsFrom (roundStart s n.val) n.val = { st := U', merges := [], defer := false } := by
    unfold inputsFrom
    rw [heoisIn, hU, hvat, hU']
  rw [hin] at hexec
  exact ⟨u, U', _, hexec, hvec, hou, hT', hT'.shown hun hvu hcu hchu hnu false, fun h1 h2 h3 h4 => hev'.trans (hfresh h1 h2 h3 h4)⟩

end Sys2Proof.Machine

namespace Sys2Proof

open Sys2Proof.Machine

/-- Settles O25: the EOI and the level change as inputs of a round, and the round's end that leaves them. -/
theorem roundTakesEoisAndLevels : Obligations.RoundTakesEoisAndLevels := by
  refine ⟨fun s h e x hd hu hn hh hv hlev hr hc hcouch hch he hnew heoi => ?_, fun s h e a hl hh hc he heoi ha hacc =>
    levelEoi_shown hl hh hc he heoi ha hacc, fun s h e x sn hl hh hi hc ht heoi hk => ?_, fun s n e hl hm hkind hc heoi => ?_⟩
  · obtain ⟨haccepted, hstray⟩ := edgeEoi_shown hd hu hn hh hv hlev hr hc hcouch hch he hnew heoi
    refine ⟨haccepted, hstray, fun p => ?_⟩
    have hidle : ranking { s with md := { s.md with mode := .idle } } = false := rfl
    exact congrArg Host.Outcome.next (if_neg (by unfold rounding; rw [hidle, Bool.and_false]; exact Bool.false_ne_true))
  · obtain ⟨u, U, T, hexec, hu, hU, hT, hfresh⟩ := levelMessage_shown hl hh hi hc ht heoi hk
    have hvec := hu.vec
    have hev : (vecOf u h.toNat).ev = (vecOf s h.toNat).ev := (congrArg Vec.ev hvec :)
    have hact : (vecOf u h.toNat).active = (vecOf s h.toNat).active := (congrArg Vec.active hvec :)
    have hline : (vecOf u h.toNat).lineOn = (vecOf s h.toNat).lineOn := (congrArg Vec.lineOn hvec :)
    have hdeassert : x.kind = .deassert → decide (x.kind = .assert) = false := fun hx => by rw [hx]; rfl
    refine ⟨T, hexec, ?_, ?_, hT.lineOn, hT.record.trans (recordOf_congr hact), fun hx hnone hidle => ?_, fun hor hnone => ?_, fun p hp hor => ?_,
      fun p hx hon hidle hp hlev => ?_, hT.md.trans hu.md, hT.ctl.trans hu.ctl, hT.tm.trans hu.tm⟩
    · rw [hT.vat]
      exact hu.slots
    · have hcr := hu.credits
      rw [← hT.vat] at hcr
      exact hcr
    · exact levelEvent_of_shown hT hu.ctl (hfresh hx (hact.trans hidle) (hev.trans hnone))
    · exact hT.idle (hU.idle (hor.imp hdeassert fun ha => (congrArg Option.isSome hact).trans ha) (hev.trans hnone))
    · have hUp := hU.pending p (hev.trans hp) (hor.imp decide_eq_true (Or.imp (fun ha => (congrArg Option.isSome hact).trans ha) hline.trans))
      obtain ⟨ev, hx, hrest⟩ := hT.pending p hUp
      exact ⟨ev, hx, (congrArg Ev.count hrest :), (congrArg Ev.time hrest :), (congrArg Ev.data hrest :), (congrArg Ev.deadline hrest :)⟩
    · obtain ⟨hnone, hstill⟩ := hU.withdrawn p (hdeassert hx) (hline.trans hon) (hact.trans hidle) (hev.trans hp) hlev
      refine ⟨hT.idle hnone, fun hs => ?_⟩
      obtain ⟨hcnt, hflight⟩ := hT.still hnone (hstill hs)
      exact ⟨hcnt.trans hu.cnt, hflight.trans hu.flight⟩
  · obtain ⟨u, U, T, hexec, hvec, hou, hU, hT, hfresh⟩ := levelLine_shown hl hm hkind hc heoi
    have hev : (vecOf u n.val).ev = (vecOf s n.val).ev := (congrArg Vec.ev hvec :)
    have hact : (vecOf u n.val).active = (vecOf s n.val).active := (congrArg Vec.active hvec :)
    have hline : (vecOf u n.val).lineOn = (vecOf s n.val).lineOn := (congrArg Vec.lineOn hvec :)
    have hctl : u.ctl = s.ctl := (congrArg State.ctl hou :)
    refine ⟨T, hexec, hT.lineOn, hT.record.trans (recordOf_congr hact), fun hon hoff hnone hidle => ?_, fun ha hnone => ?_, fun p hoff hon hidle hp hlev => ?_,
      hT.vat.trans (congrArg State.vat hou :), hT.md.trans (congrArg State.md hou :), hT.ctl.trans hctl, hT.tm.trans (congrArg State.tm hou :)⟩
    · exact levelEvent_of_shown hT hctl (hfresh (bne_iff_ne.mpr hon) (hline.trans hoff) (hact.trans hidle) (hev.trans hnone))
    · exact hT.idle (hU.idle (.inr ((congrArg Option.isSome hact).trans ha)) (hev.trans hnone))
    · have hina : lineActive s e.cfg n.val = false := by
        unfold lineActive
        rw [hoff]
        exact bne_self_eq_false _
      obtain ⟨hnone, hstill⟩ := hU.withdrawn p hina (hline.trans hon) (hact.trans hidle) (hev.trans hp) hlev
      refine ⟨hT.idle hnone, fun hs => ?_⟩
      obtain ⟨hcnt, hflight⟩ := hT.still hnone (hstill hs)
      exact ⟨hcnt.trans (congrArg State.cnt hou :), hflight.trans (congrArg (fun y => y.ar.flight) hou :)⟩

end Sys2Proof

end

section
/-! PROOF. The egress outcomes of a record write (R57, R142, R145 rows 6 to 8, R194, R219). -/

namespace Sys2Proof.Machine

/-! ### The taking of an outcome -/

theorem pumpBells_of_noBells {s : State} (hb : s.ar.bells = []) (n : Nat) : pumpBells n s = s := by
  cases n with
  | zero => rfl
  | succ n =>
    unfold pumpBells
    rw [hb]
    rfl

/-- With no doorbell waiting, no change waiting and ENGINE_EN 1, only the fences are tested after an outcome (R138, R278 row 8). -/
theorem egressSettle_still {s : State} (hb : s.ar.bells = []) (hn : NoChanges s) (he : s.md.engineEn = true) : egressSettle s = fenceAll s := by
  have hmd : (fenceAll s).md = s.md := (congrArg State.md (fenceAll_offUnits s) :)
  unfold egressSettle
  rw [pumpBells_of_noBells hb, settleAll_of_noChanges hn]
  unfold engineSettle
  rw [hmd, he]
  exact if_neg (by simp)

/-- Where nothing of its lanes waits, an outcome is taken at once (R142). -/
theorem lanesBefore_of_clear {s : State} {w : EgWrite} (hq : ∀ h ∈ w.handles, ∀ k ∈ s.vs.queue, sameLane h k = false) : lanesBefore s w = s := by
  have hone : ∀ h ∈ w.handles, laneBefore s h = s := by
    intro h hh
    have hnil : (s.vs.queue.takeWhile (· ≠ h)).filter (sameLane h) = [] :=
      List.filter_eq_nil_iff.mpr fun k hk => Bool.not_eq_true _ ▸ hq h hh k ((List.takeWhile_prefix _).subset hk)
    unfold laneBefore
    rw [hnil]
    exact ite_self ..
  have hall : ∀ l : List Nat, (∀ h ∈ l, laneBefore s h = s) → forEach l s laneBefore = s := by
    intro l
    induction l with
    | nil => exact fun _ => rfl
    | cons h l ih =>
      intro hl
      refine Eq.trans ?_ (ih fun k hk => hl k (List.mem_cons_of_mem _ hk))
      show forEach l (laneBefore s h) laneBefore = _
      rw [hl h (List.mem_cons_self ..)]
  unfold lanesBefore
  rw [hall w.handles hone]
  exact ite_self ..

/-- An outcome acts at once where no fault is armed, held or in force (R165, R318). -/
theorem outcomeAt_undisturbed {s : State} (hu : undisturbed s = true) (h : Nat) (ok : Bool) (act : State → Nat → State) : outcomeAt s h ok act = act s h := by
  simp only [undisturbed, Bool.and_eq_true, Option.isNone_iff_eq_none] at hu
  obtain ⟨⟨hi, ht⟩, hf⟩ := hu
  have hstop : laneStopped s h = false := by
    unfold laneStopped laneHeld
    rw [ht, hf]
    rfl
  unfold outcomeAt
  rw [hstop, if_neg Bool.false_ne_true, roundCompare_quiet hi ht]
  rfl

/-! ### An accepted write -/

/-- The entry of a vector takes its count of a delivery, and is read where it is off chip (R118, R131). -/
theorem acceptOne_undisturbed {s : State} (hu : undisturbed s = true) (t h : Nat) :
    ∃ vs ap, acceptOne t s h = { s with vs := vs, ap := ap, cnt := { s.cnt with delivered := s.cnt.delivered + 1 } } := by
  have hacc : ∃ vs, acceptVec s h = { s with vs := vs } := by
    unfold acceptVec
    dsimp only
    split
    · exact ⟨_, rfl⟩
    · exact ⟨s.vs, rfl⟩
  have hadd (x : State) : ∃ vs, addDelivered x h t = { x with vs := vs } := by
    unfold addDelivered
    split
    · exact ⟨_, rfl⟩
    · exact ⟨_, rfl⟩
  have hfetch (x : State) : ∃ ap, fetchVte x h = { x with ap := ap } := by
    unfold fetchVte
    split
    · exact ⟨x.ap, rfl⟩
    · unfold apRequest apPut
      split
      · exact ⟨_, rfl⟩
      · exact ⟨_, rfl⟩
  obtain ⟨vs1, h1⟩ := hacc
  unfold acceptOne
  dsimp only
  rw [outcomeAt_undisturbed hu, h1]
  obtain ⟨vs2, h2⟩ := hadd { s with vs := vs1, cnt := { s.cnt with delivered := s.cnt.delivered + 1 } }
  rw [h2]
  split
  · obtain ⟨ap, h3⟩ := hfetch { s with vs := vs2, cnt := { s.cnt with delivered := s.cnt.delivered + 1 } }
    exact ⟨vs2, ap, h3⟩
  · exact ⟨vs2, s.ap, rfl⟩

theorem acceptOnes_undisturbed (t : Nat) : ∀ (l : List Nat) {s : State}, undisturbed s = true →
    ∃ vs ap, forEach l s (acceptOne t) = { s with vs := vs, ap := ap, cnt := { s.cnt with delivered := s.cnt.delivered + w32 l.length } } := by
  intro l
  induction l with
  | nil => exact fun {s} _ => ⟨s.vs, s.ap, by simp [forEach, w32]⟩
  | cons h l ih =>
    intro s hu
    obtain ⟨vs1, ap1, h1⟩ := acceptOne_undisturbed hu t h
    obtain ⟨vs2, ap2, h2⟩ := ih (s := { s with vs := vs1, ap := ap1, cnt := { s.cnt with delivered := s.cnt.delivered + 1 } }) hu
    refine ⟨vs2, ap2, ?_⟩
    have hlen : s.cnt.delivered + 1 + w32 l.length = s.cnt.delivered + w32 (h :: l).length := by
      rw [BitVec.add_assoc]
      refine congrArg (s.cnt.delivered + ·) ?_
      unfold w32
      rw [List.length_cons, BitVec.ofNat_add, BitVec.add_comm]
      rfl
    show forEach l (acceptOne t s h) (acceptOne t) = _
    rw [h1, h2]
    show ({ s with vs := vs2, ap := ap2, cnt := { s.cnt with delivered := s.cnt.delivered + 1 + w32 l.length } } : State) = _
    rw [hlen]

theorem wdogFix_targets (s : State) (t : Nat) : ∃ l d, wdogFix s t = { s with ts := { s.ts with targets := l, dirty := d } } := by
  unfold wdogFix
  dsimp only
  split <;> split
  · exact ⟨s.ts.targets, s.ts.dirty, rfl⟩
  · exact ⟨_, _, rfl⟩
  · exact ⟨_, _, rfl⟩
  · exact ⟨s.ts.targets, s.ts.dirty, rfl⟩

/-- What the acceptance of a write's records leaves (R57, R194). -/
structure RecordsAccepted (s : State) (t n : Nat) (u : State) : Prop where
  delivered : u.cnt.delivered = s.cnt.delivered + w32 n
  seq : (tgtOf u t).seq = (tgtOf s t).seq + w32 n
  tail : (tgtOf s t).tail.toNat + n < ringSize t (tgtOf s t) → (tgtOf u t).tail = (tgtOf s t).tail + BitVec.ofNat 20 n
  head : (tgtOf u t).head = (tgtOf s t).head
  noChanges : NoChanges s → NoChanges u
  lmem : u.ts.lmem = s.ts.lmem
  ar : u.ar = s.ar
  vat : u.vat = s.vat
  md : u.md = s.md
  ctl : u.ctl = s.ctl
  tm : u.tm = s.tm

theorem acceptRecs_undisturbed {s : State} (hu : undisturbed s = true) (t : Nat) (l : List Nat) : RecordsAccepted s t l.length (acceptRecs s t l) := by
  obtain ⟨vs, ap, h1⟩ := acceptOnes_undisturbed t l hu
  let s1 : State := { s with vs := vs, ap := ap, cnt := { s.cnt with delivered := s.cnt.delivered + w32 l.length } }
  let g := tgtOf s t
  let wrap := decide (ringSize t g ≤ g.tail.toNat + l.length)
  let g1 : Tgt := { g with tail := BitVec.ofNat 20 (if wrap then g.tail.toNat + l.length - ringSize t g else g.tail.toNat + l.length),
                           tailPar := g.tailPar != wrap, seq := g.seq + w32 l.length }
  have hrecs : acceptRecs s t l = wdogFix (tgtPut s1 t g1) t := by
    unfold acceptRecs
    dsimp only
    rw [h1]
    rfl
  obtain ⟨ts, dirty, hfix⟩ := wdogFix_targets (tgtPut s1 t g1) t
  have hrest (k : Nat) : bellRest (tgtOf (wdogFix (tgtPut s1 t g1) t) k) = bellRest (tgtOf (tgtPut s1 t g1) k) :=
    congrFun (congrArg Prod.snd (wdogFix_bellView (tgtPut s1 t g1) t)) k
  have hsame : tgtOf (tgtPut s1 t g1) t = g1 := tgtOf_tgtPut_same ..
  have ht := hrest t
  rw [hsame] at ht
  rw [hrecs]
  refine ⟨?_, (congrArg Tgt.seq ht :), fun htail => ?_, (congrArg Tgt.head ht :), fun hn k => ⟨?_, ?_, ?_⟩, ?_, ?_, ?_, ?_, ?_, ?_⟩
  · rw [hfix]
    rfl
  · refine (congrArg Tgt.tail ht :).trans ?_
    have hwrap : wrap = false := decide_eq_false (Nat.not_le.mpr htail)
    show BitVec.ofNat 20 (if wrap then _ else _) = _
    rw [hwrap, if_neg Bool.false_ne_true, BitVec.ofNat_add, BitVec.ofNat_toNat, BitVec.setWidth_eq]
  · refine (congrArg Tgt.changes (hrest k) :).trans ?_
    by_cases hk : k = t
    · rw [hk, hsame]
      exact (hn t).1
    · rw [tgtOf_tgtPut_ne _ _ hk]
      exact (hn k).1
  · rw [hfix]
    exact (hn k).2.1
  · rw [hfix]
    exact (hn k).2.2
  all_goals rw [hfix]; rfl

/-! ### A refused write -/

/-- What the refusal of a remote write's one record leaves (R57, R145 rows 7 and 8). -/
structure RecordRefused (s : State) (t h : Nat) (a : Active) (u : State) : Prop where
  unreach : (tgtOf u t).unreach = true
  dbOwed : (tgtOf u t).dbOwed = true
  vec : ∃ ev, vecOf u h = { vecOf s h with active := none, ev := some ev } ∧ ev.time = a.ev.time ∧ ev.deadline = a.ev.deadline ∧ ev.count = a.ev.count
  amask : (tgtOf u a.target.toNat).amask = clrBit (tgtOf s a.target.toNat).amask a.prio.toNat
  noChanges : NoChanges s → NoChanges u
  lmem : u.ts.lmem = s.ts.lmem
  flight : u.ar.flight = s.ar.flight
  bells : s.ar.bells = [] → u.ar.bells = []
  vat : u.vat = s.vat
  cnt : u.cnt = s.cnt
  md : u.md = s.md
  ctl : u.ctl = s.ctl
  tm : u.tm = s.tm

theorem batchEnd_of_noBatch {s : State} {t : Nat} (h : (tgtOf s t).batch = none) : batchEnd s t = s := by
  unfold batchEnd
  rw [h]

/-- A target's UNREACH sets where no doorbell of it waits and no batch of it is open (R72, R216). -/
theorem setUnreach_still {s : State} {t : Nat} (hl : isLocal t = false) (hb : s.ar.bells = []) (hbatch : (tgtOf s t).batch = none)
    (cause : Nat) (host : Word) : ∃ g, Logged (tgtPut s t g) (setUnreach s t cause host) ∧ g.unreach = true ∧ g.dbOwed = (tgtOf s t).dbOwed
      ∧ g.amask = (tgtOf s t).amask ∧ g.changes = (tgtOf s t).changes := by
  have hs : ({ s with ar := { s.ar with bells := ([] : List EgWrite).filter fun b => decide (b.target.toNat ≠ t) } } : State) = s := by
    rw [List.filter_nil, ← hb]
  unfold setUnreach
  dsimp only
  rw [if_neg (by rw [hl]; exact Bool.false_ne_true), hb, hs]
  cases hu : (tgtOf s t).unreach with
  | true =>
    rw [if_pos rfl]
    exact ⟨_, .refl _, rfl, rfl, rfl, rfl⟩
  | false =>
    refine ⟨{ tgtOf s t with unreach := true, hostUnreach := (tgtOf s t).hostUnreach || decide (cause ≤ 3), wdog := none,
                             dbOwed := (tgtOf s t).dbOwed || decide ((List.filter (fun b => decide (b.target.toNat ≠ t)) ([] : List EgWrite)).length
                               ≠ ([] : List EgWrite).length) }, ?_, rfl, by simp, rfl, rfl⟩
    rw [if_neg Bool.false_ne_true, batchEnd_of_noBatch (by rw [tgtOf_tgtPut_same]; exact hbatch)]
    exact Logged.jnl ..

theorem refuseOne_noEv {s : State} (hu : undisturbed s = true) {h : Nat} {a : Active} (ha : (vecOf s h).active = some a) (he : (vecOf s h).ev = none) :
    ∃ ev, refuseOne s h = vecPut (tgtPut s a.target.toNat { tgtOf s a.target.toNat with amask := clrBit (tgtOf s a.target.toNat).amask a.prio.toNat }) h
        { vecOf s h with active := none, ev := some ev } ∧ ev.time = a.ev.time ∧ ev.deadline = a.ev.deadline ∧ ev.count = a.ev.count := by
  have hev : ∀ x, refusedSnap x h a.ev = a.ev ∨ ∃ sn, refusedSnap x h a.ev = evResnap sn a.ev := by
    intro x
    unfold refusedSnap
    dsimp only
    split
    · exact .inr ⟨_, rfl⟩
    · exact .inl rfl
  refine ⟨refusedSnap (tgtPut s a.target.toNat { tgtOf s a.target.toNat with amask := clrBit (tgtOf s a.target.toNat).amask a.prio.toNat }) h a.ev, ?_, ?_⟩
  · unfold refuseOne
    rw [outcomeAt_undisturbed hu]
    unfold returnOne
    dsimp only
    rw [ha]
    dsimp only
    rw [he]
    dsimp only
    rw [show vecOf (tgtPut s a.target.toNat { tgtOf s a.target.toNat with amask := clrBit (tgtOf s a.target.toNat).amask a.prio.toNat }) h = vecOf s h from rfl, he]
    rfl
  · rcases hev (tgtPut s a.target.toNat { tgtOf s a.target.toNat with amask := clrBit (tgtOf s a.target.toNat).amask a.prio.toNat }) with hx | ⟨sn, hx⟩
    · rw [hx]
      exact ⟨rfl, rfl, rfl⟩
    · rw [hx]
      unfold evResnap
      split <;> exact ⟨rfl, rfl, rfl⟩

/-- What the tables of targets and vectors have no part in. -/
def sideView (s : State) : List Host.Cell × ArbUnit × VatUnit × Counters × ModeUnit × CtlRegs × TimeUnit := (s.ts.lmem, s.ar, s.vat, s.cnt, s.md, s.ctl, s.tm)

theorem tgtPut_sideView (s : State) (t : Nat) (g : Tgt) : sideView (tgtPut s t g) = sideView s := rfl

theorem vecPut_sideView (s : State) (h : Nat) (v : Vec) : sideView (vecPut s h v) = sideView s := rfl

theorem recordsRefused_undisturbed {s : State} {w : EgWrite} {h : Nat} {a : Active} (hu : undisturbed s = true) (hw : w.handles = [h])
    (hl : isLocal w.target.toNat = false) (hb : s.ar.bells = []) (ha : (vecOf s h).active = some a) (he : (vecOf s h).ev = none) :
    RecordRefused s w.target.toNat h a (recordsRefused s w) := by
  obtain ⟨ev, h1, hev⟩ := refuseOne_noEv hu ha he
  let s0 := tgtPut s a.target.toNat { tgtOf s a.target.toNat with amask := clrBit (tgtOf s a.target.toNat).amask a.prio.toNat }
  let s1 := vecPut s0 h { vecOf s h with active := none, ev := some ev }
  let t := w.target.toNat
  let full := (tgtOf s1 t).fullEpisode || (List.range w.handles.length).any (heldFullByte w)
  let s2 := tgtPut s1 t { tgtOf s1 t with batch := none, rearm := false, dbOwed := true, fullEpisode := full }
  have hs2 : tgtOf s2 t = { tgtOf s1 t with batch := none, rearm := false, dbOwed := true, fullEpisode := full } := tgtOf_tgtPut_same ..
  have hrec : recordsRefused s w = setUnreach s2 t 4 0xFFFFFFFF := by
    have hfold : forEach w.handles s refuseOne = s1 := by
      rw [hw]
      exact h1
    have hbells : ({ s2 with ar := { s2.ar with bells := s2.ar.bells.filter fun b => decide (b.target ≠ w.target) } } : State) = s2 := by
      have hb2 : s2.ar.bells = [] := hb
      rw [hb2, List.filter_nil, ← hb2]
    unfold recordsRefused
    dsimp only
    rw [hfold]
    exact congrArg (fun x => setUnreach x t 4 0xFFFFFFFF) hbells
  obtain ⟨g, hlog, hunr, hdb, hmask, hch⟩ := setUnreach_still (s := s2) (t := t) hl hb (by rw [hs2]) 4 0xFFFFFFFF
  rw [← hrec] at hlog
  have htgt (k : Nat) : tgtOf (recordsRefused s w) k = tgtOf (tgtPut s2 t g) k := by simp only [tgtOf, hlog.ts, hlog.fu]
  have hsame : tgtOf (recordsRefused s w) t = g := (htgt t).trans (tgtOf_tgtPut_same ..)
  have hs1 (k : Nat) : (tgtOf (recordsRefused s w) k).amask = (tgtOf s0 k).amask ∧ (tgtOf (recordsRefused s w) k).changes = (tgtOf s0 k).changes := by
    by_cases hk : k = t
    · rw [hk, hsame, hmask, hch, hs2]
      exact ⟨rfl, rfl⟩
    · rw [htgt, tgtOf_tgtPut_ne _ _ hk, show tgtOf s2 k = tgtOf s1 k from tgtOf_tgtPut_ne _ _ hk]
      exact ⟨rfl, rfl⟩
  have hside : sideView (tgtPut s2 t g) = sideView s :=
    (tgtPut_sideView ..).trans ((tgtPut_sideView ..).trans ((vecPut_sideView ..).trans (tgtPut_sideView ..)))
  simp only [sideView, Prod.mk.injEq] at hside
  obtain ⟨hlmem1, har, hvat, hcnt, hmd, hctl, htm⟩ := hside
  have hlmem : (recordsRefused s w).ts.lmem = s.ts.lmem := (congrArg TargetStore.lmem hlog.ts).trans hlmem1
  have hflight : (recordsRefused s w).ar.flight = s.ar.flight := congrArg ArbUnit.flight (hlog.ar.trans har)
  have hbellsEnd : (recordsRefused s w).ar.bells = s.ar.bells := congrArg ArbUnit.bells (hlog.ar.trans har)
  refine ⟨?_, ?_, ⟨ev, (hlog.vecOf h).trans ?_, hev⟩, ?_, fun hn k => ⟨?_, ?_, ?_⟩, hlmem, hflight,
    fun hx => hbellsEnd.trans hx, hlog.vat.trans hvat, hlog.cnt.trans hcnt, hlog.md.trans hmd, hlog.ctl.trans hctl, hlog.tm.trans htm⟩
  · rw [hsame]
    exact hunr
  · rw [hsame, hdb, hs2]
  · exact vecOf_vecPut_same ..
  · refine (hs1 _).1.trans ?_
    rw [tgtOf_tgtPut_same]
  · refine (hs1 k).2.trans ?_
    by_cases hk : k = a.target.toNat
    · rw [hk, tgtOf_tgtPut_same]
      exact (hn _).1
    · rw [tgtOf_tgtPut_ne _ _ hk]
      exact (hn k).1
  · simp only [groupOf, hlog.ts]
    exact (hn k).2.1
  · simp only [couchOf, hlog.ts, hlog.fu]
    exact (hn k).2.2

end Sys2Proof.Machine

namespace Sys2Proof

open Sys2Proof.Machine

/-- Settles O28: nothing of a lane waits and no fault is in force, so each record's outcome acts at once. -/
theorem egressOutcomesSettleTheWrite : Obligations.EgressOutcomesSettleTheWrite := by
  intro s tag w hl heng hn hb htag hvoid hu hq
  have hexec (f : State → BitVec 8 → EgWrite → State) : egressOutcome s tag f = f s tag w := by
    unfold egressOutcome
    rw [if_pos hl, htag]
  have hclear := lanesBefore_of_clear hq
  have hnc : NoChanges (flightDrop s tag) := noChanges_of_noWaits hn
  have hgone : tagOf (flightDrop s tag).ar.flight tag = none := tagOf_tagErase_same ..
  refine ⟨fun hd => ?_, fun h a hd hw hloc ha he => ?_, fun hd => ?_⟩
  · have hacc := acceptRecs_undisturbed (s := flightDrop s tag) hu w.target.toNat w.handles
    have hx : exec (.egressAccept tag) s = .next (fenceAll (acceptRecs (flightDrop s tag) w.target.toNat w.handles)) := by
      refine congrArg Host.Outcome.next ((hexec accepted).trans ?_)
      unfold accepted
      rw [hclear, hvoid, hd]
      exact egressSettle_still ((congrArg ArbUnit.bells hacc.ar).trans hb) (hacc.noChanges hnc) ((congrArg ModeUnit.engineEn hacc.md).trans heng)
    generalize acceptRecs (flightDrop s tag) w.target.toNat w.handles = u at hacc hx
    have ho := fenceAll_offUnits u
    have ht := tgtOf_fenceAll u w.target.toNat
    refine ⟨_, hx, ?_, (congrArg (fun x => x.cnt.delivered) ho :).trans hacc.delivered, ?_, fun htail => ?_, ?_, (congrArg (fun x => x.ts.lmem) ho :).trans hacc.lmem,
      (congrArg State.vat ho :).trans hacc.vat, (congrArg State.md ho :).trans hacc.md, (congrArg State.ctl ho :).trans hacc.ctl,
      (congrArg State.tm ho :).trans hacc.tm⟩
    · rw [show (fenceAll u).ar.flight = u.ar.flight from (congrArg (fun x => x.ar.flight) ho :), hacc.ar]
      exact hgone
    · rw [ht]
      exact hacc.seq
    · rw [ht]
      exact hacc.tail htail
    · rw [ht]
      exact hacc.head
  · have href := recordsRefused_undisturbed (s := flightDrop s tag) hu hw hloc hb ha he
    have hx : exec (.egressReject tag) s = .next (fenceAll (recordsRefused (flightDrop s tag) w)) := by
      refine congrArg Host.Outcome.next ((hexec refused).trans ?_)
      unfold refused
      rw [hclear, hvoid, hd]
      exact egressSettle_still (href.bells hb) (href.noChanges hnc) ((congrArg ModeUnit.engineEn href.md).trans heng)
    generalize recordsRefused (flightDrop s tag) w = u at href hx
    have ho := fenceAll_offUnits u
    obtain ⟨ev, hvec, htime, hdl, hcount⟩ := href.vec
    have hv : vecOf (fenceAll u) h = vecOf u h := (congrArg (fun x => vecOf x h) ho :)
    refine ⟨_, ev, hx, ?_, ?_, ?_, ?_, ?_, htime, hdl, hcount, ?_, (congrArg (fun x => x.ts.lmem) ho :).trans href.lmem,
      (congrArg State.vat ho :).trans href.vat, (congrArg State.cnt ho :).trans href.cnt, (congrArg State.md ho :).trans href.md,
      (congrArg State.ctl ho :).trans href.ctl, (congrArg State.tm ho :).trans href.tm⟩
    · rw [show (fenceAll u).ar.flight = u.ar.flight from (congrArg (fun x => x.ar.flight) ho :), href.flight]
      exact hgone
    · rw [tgtOf_fenceAll]
      exact href.unreach
    · rw [tgtOf_fenceAll]
      exact href.dbOwed
    · rw [hv, hvec]
    · rw [hv, hvec]
    · rw [tgtOf_fenceAll]
      exact href.amask
  · refine congrArg Host.Outcome.next ((hexec accepted).trans ?_)
    unfold accepted
    rw [hclear, hvoid, hd]
    exact egressSettle_still hb hnc heng

end Sys2Proof

end

section
/-! PROOF. The choice of an arbiter round (R209, R210). -/

namespace Sys2Proof.Machine

/-! ### The least of a list -/

theorem mem_of_leastBy {α : Type} {lt : α → α → Bool} {y : α} : ∀ {l : List α}, leastBy lt l = some y → y ∈ l := by
  intro l
  induction l generalizing y with
  | nil => exact fun h => absurd h.symm (Option.some_ne_none y)
  | cons a l ih =>
    intro h
    unfold leastBy at h
    split at h
    · exact Option.some.inj h ▸ List.mem_cons_self ..
    next z hz =>
      split at h
      · exact Option.some.inj h ▸ List.mem_cons_of_mem _ (ih hz)
      · exact Option.some.inj h ▸ List.mem_cons_self ..

/-- The element that goes before every other is the least. -/
theorem leastBy_eq {α : Type} {lt : α → α → Bool} {x : α} : ∀ {l : List α}, x ∈ l → (∀ y ∈ l, y ≠ x → lt x y = true ∧ lt y x = false) →
    leastBy lt l = some x := by
  intro l
  induction l with
  | nil => exact fun h => absurd h List.not_mem_nil
  | cons a l ih =>
    intro hx hlt
    have hrest : ∀ y ∈ l, y ≠ x → lt x y = true ∧ lt y x = false := fun y hy => hlt y (List.mem_cons_of_mem _ hy)
    unfold leastBy
    by_cases hin : x ∈ l
    · rw [ih hin hrest]
      by_cases ha : a = x
      · rw [ha]
        exact ite_self ..
      · exact if_pos (hlt a (List.mem_cons_self ..) ha).1
    · have ha : a = x := ((List.mem_cons.mp hx).resolve_right hin).symm
      subst ha
      cases hl : leastBy lt l with
      | none => rfl
      | some y =>
        have hy := mem_of_leastBy hl
        have hne : y ≠ a := fun he => hin (he ▸ hy)
        exact if_neg (by rw [(hrest y hy hne).2]; exact Bool.false_ne_true)

/-! ### The winner -/

theorem atLimit_iff (s : State) (x : BitVec 16) : atLimit s x.toNat = true ↔ atWaitLimit s x := by
  unfold atLimit atWaitLimit
  rw [Bool.and_eq_true, decide_eq_true_eq, decide_eq_true_eq]

/-- The order of two streams of which both or neither have lost WAITLIM rounds (R210). -/
theorem beats_of_goesBefore {s : State} {x y : BitVec 16} (hg : goesBefore s x y) (hw : atWaitLimit s x ↔ atWaitLimit s y) :
    beats s x.toNat y.toNat = true ∧ beats s y.toNat x.toNat = false := by
  obtain ⟨-, hkey⟩ := hg.resolve_left fun h => h.2 (hw.mp h.1)
  have hweq : ((tgtOf s x.toNat).wait = (tgtOf s y.toNat).wait ∧ x.toNat < y.toNat) →
      (tgtOf s x.toNat).wait.toNat = (tgtOf s y.toNat).wait.toNat ∧ x.toNat < y.toNat := fun h => ⟨congrArg BitVec.toNat h.1, h.2⟩
  have hkey' := hkey.imp_right fun h => And.imp_right (Or.imp_right hweq) h
  unfold beats
  simp only [Bool.or_eq_true, Bool.and_eq_true, decide_eq_true_eq, Bool.or_eq_false_iff, Bool.and_eq_false_iff, decide_eq_false_iff_not]
  omega

/-- The stream that goes before every other is the least by the key, at the wait limit where one is (R210). -/
theorem leastBy_best {s : State} {l : List (BitVec 16)} {x : BitVec 16} (hx : x ∈ l) (hbest : ∀ y ∈ l, y ≠ x → goesBefore s x y) :
    leastBy (beats s) (if ((l.map BitVec.toNat).filter (atLimit s)).isEmpty then l.map BitVec.toNat else (l.map BitVec.toNat).filter (atLimit s))
      = some x.toNat := by
  have hmem {k : Nat} (hk : k ∈ l.map BitVec.toNat) (hne : k ≠ x.toNat) : ∃ y ∈ l, k = y.toNat ∧ goesBefore s x y := by
    obtain ⟨y, hy, rfl⟩ := List.mem_map.mp hk
    exact ⟨y, hy, rfl, hbest y hy fun he => hne (congrArg BitVec.toNat he)⟩
  have hxm : x.toNat ∈ l.map BitVec.toNat := List.mem_map_of_mem hx
  cases hlim : ((l.map BitVec.toNat).filter (atLimit s)).isEmpty with
  | true =>
    have hnone : ∀ k ∈ l.map BitVec.toNat, ¬ atLimit s k = true := List.filter_eq_nil_iff.mp (List.isEmpty_iff.mp hlim)
    rw [if_pos rfl]
    refine leastBy_eq hxm fun k hk hne => ?_
    obtain ⟨y, -, rfl, hg⟩ := hmem hk hne
    exact beats_of_goesBefore hg (iff_of_false (fun h => hnone _ hxm ((atLimit_iff s x).mpr h)) fun h => hnone _ hk ((atLimit_iff s y).mpr h))
  | false =>
    obtain ⟨z, hz⟩ := List.exists_mem_of_ne_nil _ fun he => Bool.false_ne_true (hlim.symm.trans (List.isEmpty_iff.mpr he))
    have hwait : atWaitLimit s x := by
      obtain ⟨hzm, hzl⟩ := List.mem_filter.mp hz
      by_cases hzx : z = x.toNat
      · exact (atLimit_iff s x).mp (hzx ▸ hzl)
      · obtain ⟨y, -, rfl, hg⟩ := hmem hzm hzx
        exact hg.elim And.left fun h => h.1.mpr ((atLimit_iff s y).mp hzl)
    rw [if_neg Bool.false_ne_true]
    refine leastBy_eq (List.mem_filter.mpr ⟨hxm, (atLimit_iff s x).mpr hwait⟩) fun k hk hne => ?_
    obtain ⟨hkm, hkl⟩ := List.mem_filter.mp hk
    obtain ⟨y, -, rfl, hg⟩ := hmem hkm hne
    exact beats_of_goesBefore hg (iff_of_true hwait ((atLimit_iff s y).mp hkl))

theorem winner_of_best {s : State} {l : List (BitVec 16)} {x : BitVec 16} (hx : x ∈ l) (hbest : ∀ y ∈ l, y ≠ x → goesBefore s x y)
    (ho : s.ar.open_ = none ∨ s.ctl.preemptEn = true ∨ openTarget s = some x.toNat) : winner s (l.map BitVec.toNat) = some x.toNat := by
  have hbst := leastBy_best hx hbest
  unfold winner
  cases hw : s.ar.open_ with
  | none =>
    rw [show openTarget s = none by unfold openTarget; rw [hw]; rfl]
    exact hbst
  | some w =>
    have hot : openTarget s = some w.target.toNat := by
      unfold openTarget
      rw [hw]
      rfl
    rw [hot]
    dsimp only
    split
    next hkeep =>
      rw [Bool.and_eq_true, Bool.not_eq_true'] at hkeep
      rcases ho with h | h | h
      · exact absurd (hw.symm.trans h) (Option.some_ne_none w)
      · exact absurd (h.symm.trans hkeep.2) Bool.true_eq_false_eq_False
      · exact hot.symm.trans h
    · exact hbst

/-- While PREEMPT_EN is 0, a requesting stream whose write is open wins (R210). -/
theorem winner_of_open {s : State} {l : List (BitVec 16)} {x : BitVec 16} (hx : x ∈ l) (ho : openTarget s = some x.toNat) (hp : s.ctl.preemptEn = false) :
    winner s (l.map BitVec.toNat) = some x.toNat := by
  have hany : (l.map BitVec.toNat).any (· = x.toNat) = true :=
    List.any_eq_true.mpr ⟨x.toNat, List.mem_map_of_mem hx, decide_eq_true rfl⟩
  unfold winner
  rw [ho]
  dsimp only
  rw [hany, hp]
  rfl

/-! ### The streams that request -/

theorem forEach_id_of_mem {α : Type} {f : State → α → State} {s : State} : ∀ {l : List α}, (∀ x ∈ l, f s x = s) → forEach l s f = s := by
  intro l
  induction l with
  | nil => exact fun _ => rfl
  | cons a l ih =>
    intro h
    show forEach l (f s a) f = s
    rw [h a (List.mem_cons_self ..)]
    exact ih fun x hx => h x (List.mem_cons_of_mem _ hx)

theorem pruneStream_of_stays {s : State} {t : Nat} (h : ∀ e ∈ streamOf s t, mayStay s e.2 t = true) : pruneStream s t = s :=
  forEach_id_of_mem fun e he => if_pos (h e he)

theorem headFetch_of_requests {s : State} {t : Nat} (h : requests s t = true) : headFetch s t = s := by
  unfold requests at h
  rw [Bool.and_eq_true] at h
  obtain ⟨-, hchip⟩ := h
  unfold headFetch
  split
  · rfl
  next k ev hk =>
    rw [hk] at hchip
    exact if_pos (by rw [show onChip s k = true from hchip, Bool.or_true])

/-- A round in which every stream of the heap requests, and none has to be pruned or read for, chooses among them all (R209, R210). -/
theorem arbiterStep_of_requests {s : State} {x : BitVec 16} (hw : s.ar.heapWait = [])
    (hall : ∀ y ∈ s.ar.heap, requests s y.toNat = true ∧ ∀ e ∈ streamOf s y.toNat, mayStay s e.2 y.toNat = true)
    (hwin : winner s (s.ar.heap.map BitVec.toNat) = some x.toNat) :
    arbiterStep s = settleAll (roundGrant s (s.ar.heap.map BitVec.toNat) x.toNat) := by
  have hprune : forEach (s.ar.heap ++ s.ar.heapWait) s (fun s t => pruneStream s t.toNat) = s := by
    rw [hw, List.append_nil]
    exact forEach_id_of_mem fun y hy => pruneStream_of_stays (hall y hy).2
  have hfetch : forEach s.ar.heap s (fun s t => headFetch s t.toNat) = s := forEach_id_of_mem fun y hy => headFetch_of_requests (hall y hy).1
  have hreq : requesters s = s.ar.heap.map BitVec.toNat := by
    refine List.filter_eq_self.mpr fun k hk => ?_
    obtain ⟨y, hy, rfl⟩ := List.mem_map.mp hk
    exact (hall y hy).1
  unfold arbiterStep
  dsimp only
  rw [hprune, hfetch, hreq, hwin]

/-! ### The wait counters -/

/-- A target without its wait counter. -/
def waitless (g : Tgt) : Tgt := { g with wait := 0 }

theorem countWaits_targets (win : Nat) : ∀ (req : List Nat) (s : State), ∃ l d, countWaits s req win = { s with ts := { s.ts with targets := l, dirty := d } } := by
  intro req
  induction req with
  | nil => exact fun s => ⟨s.ts.targets, s.ts.dirty, rfl⟩
  | cons k req ih =>
    intro s
    obtain ⟨l, d, h⟩ := ih (tgtPut s k { tgtOf s k with wait := if k = win then 0 else satAdd (tgtOf s k).wait 1 })
    exact ⟨l, d, h⟩

theorem countWaits_waitless (win : Nat) : ∀ (req : List Nat) (s : State) (k : Nat), waitless (tgtOf (countWaits s req win) k) = waitless (tgtOf s k) := by
  intro req
  induction req with
  | nil => exact fun s k => rfl
  | cons a req ih =>
    intro s k
    refine (ih (tgtPut s a { tgtOf s a with wait := if a = win then 0 else satAdd (tgtOf s a).wait 1 }) k).trans ?_
    by_cases hk : k = a
    · rw [hk, tgtOf_tgtPut_same]
      rfl
    · rw [tgtOf_tgtPut_ne _ _ hk]

theorem countWaits_wait (win : Nat) : ∀ {req : List Nat}, req.Nodup → ∀ (s : State) (k : Nat),
    (tgtOf (countWaits s req win) k).wait = if k ∈ req then (if k = win then 0 else satAdd (tgtOf s k).wait 1) else (tgtOf s k).wait := by
  intro req
  induction req with
  | nil => exact fun _ s k => (if_neg List.not_mem_nil).symm
  | cons a req ih =>
    intro hn s k
    obtain ⟨ha, hreq⟩ := List.nodup_cons.mp hn
    refine (ih hreq (tgtPut s a { tgtOf s a with wait := if a = win then 0 else satAdd (tgtOf s a).wait 1 }) k).trans ?_
    by_cases hk : k = a
    · rw [hk, if_neg ha, tgtOf_tgtPut_same, if_pos (List.mem_cons_self ..)]
    · rw [tgtOf_tgtPut_ne _ _ hk]
      simp only [List.mem_cons, hk, false_or]

end Sys2Proof.Machine
end

section
/-! PROOF. A grant and what closes after it (R145 row 5, R178, R183, R210 to R212, R216). -/

namespace Sys2Proof.Machine

/-! ### Heads and waits over the close of a write -/

/-- The head of a stream depends on the vectors and the structure (R114, R155). -/
theorem streamHead_congr {s u : State} (hv : u.vs = s.vs) (hf : u.fu = s.fu) (t : Nat) : streamHead u t = streamHead s t := by
  have hd : drainStops u t = drainStops s t := by
    unfold drainStops drainTenant targetSlice
    rw [hf]
  have ho : streamOf u t = streamOf s t := by simp only [streamOf, hv]
  unfold streamHead
  rw [ho, hd]

/-- The events of the vectors and the wait counters of the targets. -/
def queueView (s : State) : (Nat → Option Ev) × (Nat → BitVec 8) := (fun k => (vecOf s k).ev, fun k => (tgtOf s k).wait)

theorem queueView_of_bellView {s t : State} (h : bellView t = bellView s) : queueView t = queueView s := by
  have hvs : t.vs = s.vs := (congrArg (fun v => v.1.vs) h :)
  have hw (k : Nat) : (tgtOf t k).wait = (tgtOf s k).wait := (congrArg (fun v => (v.2 k).wait) h :)
  unfold queueView
  simp only [vecOf, hvs, hw]

theorem Logged.queueView {s t : State} (h : Logged s t) : queueView t = queueView s := by
  unfold Machine.queueView
  simp only [Machine.vecOf, Machine.tgtOf, h.vs, h.ts, h.fu]

theorem vecPut_queueView {s : State} {h : Nat} {v : Vec} (hv : v.ev = (vecOf s h).ev) : queueView (vecPut s h v) = queueView s := by
  have he : (fun k => (vecOf (vecPut s h v) k).ev) = fun k => (vecOf s k).ev := by
    funext k
    by_cases hk : k = h
    · rw [hk, vecOf_vecPut_same, hv]
    · rw [vecOf_vecPut_ne s v hk]
  exact congrArg (fun f => (f, fun k => (tgtOf s k).wait)) he

theorem tgtPut_queueView {s : State} {t : Nat} {g : Tgt} (hg : g.wait = (tgtOf s t).wait) : queueView (tgtPut s t g) = queueView s := by
  have hw : (fun k => (tgtOf (tgtPut s t g) k).wait) = fun k => (tgtOf s k).wait := by
    funext k
    by_cases hk : k = t
    · rw [hk, tgtOf_tgtPut_same, hg]
    · rw [tgtOf_tgtPut_ne s g hk]
  exact congrArg (fun f => (fun k => (vecOf s k).ev, f)) hw

theorem outcomeGather_queueView (s : State) (h : Nat) (ok : Bool) : queueView (outcomeGather s h ok) = queueView s := by
  have he : queueView (enqueue (vecPut s h { vecOf s h with outcome := some ok }) h) = queueView (vecPut s h { vecOf s h with outcome := some ok }) := by
    unfold enqueue
    split <;> rfl
  exact he.trans (vecPut_queueView rfl)

theorem outcomeAt_queueView (s : State) (h : Nat) : queueView (outcomeAt s h true acceptVec) = queueView s := by
  have hacc (x : State) : queueView (acceptVec x h) = queueView x := by
    unfold acceptVec
    dsimp only
    split
    · exact vecPut_queueView rfl
    · rfl
  have hc : queueView (roundCompare s (BitVec.ofNat 24 h) .agree).1 = queueView s := by
    have hfu : (roundCompare s (BitVec.ofNat 24 h) .agree).1.fu = s.fu := (roundCompare_inner (BitVec.ofNat 24 h) (.refl s)).fu
    unfold queueView
    simp only [vecOf, tgtOf, roundCompare_vs, roundCompare_ts, hfu]
  unfold outcomeAt
  dsimp only
  split
  · exact outcomeGather_queueView ..
  · split
    · exact (hacc _).trans hc
    · exact (outcomeGather_queueView ..).trans hc

theorem acceptOne_queueView (t : Nat) (s : State) (h : Nat) : queueView (acceptOne t s h) = queueView s := by
  have hadd (x : State) : queueView (addDelivered x h t) = queueView x := by
    unfold addDelivered
    split <;> rfl
  have ho := outcomeAt_queueView s h
  unfold acceptOne
  dsimp only
  split
  · exact (Logged.fetchVte ..).queueView.trans ((hadd _).trans ho)
  · exact (hadd _).trans ho

theorem acceptRecs_queueView (s : State) (t : Nat) (hs : List Nat) : queueView (acceptRecs s t hs) = queueView s :=
  (queueView_of_bellView (wdogFix_bellView ..)).trans
    ((tgtPut_queueView (by rfl)).trans (forEach_view (v := queueView) (acceptOne_queueView t) hs s))

theorem issuedRecs_queueView (s : State) (w : OpenWrite) : queueView (issuedRecs s w) = queueView s := by
  have hv := issuedRecs_vs s w
  have hstep (x : State) (o : Out) : queueView (issueRec w.target.toNat (now s) x o) = queueView x := by
    have hl : queueView (lateRec x w.target.toNat o (now s)) = queueView x := by
      unfold lateRec
      split
      · exact (Logged.jnlRated ..).queueView
      · rfl
    have hc (y : State) : queueView (coalRec y o) = queueView y := by
      unfold coalRec
      split <;> rfl
    have hs (y : State) : queueView (strobe y) = queueView y := by
      unfold strobe
      split <;> rfl
    exact (hs _).trans ((hc _).trans hl)
  exact (forEach_view (v := queueView) hstep w.recs _).trans rfl

theorem closeWrite_queueView (s : State) : queueView (closeWrite s) = queueView s := by
  unfold closeWrite
  split
  · rfl
  next w _ =>
    have hi := issuedRecs_queueView s w
    dsimp only
    split
    · rfl
    · split
      · exact (acceptRecs_queueView ..).trans hi
      · split
        · exact hi
        · rfl

theorem closeWriteOf_queueView (s : State) (t : Nat) : queueView (closeWriteOf s t) = queueView s := by
  unfold closeWriteOf
  split
  · split
    · exact closeWrite_queueView s
    · rfl
  · rfl

theorem batchEnd_queueView (s : State) (t : Nat) : queueView (batchEnd s t) = queueView s := by
  have hc := closeWriteOf_queueView s t
  unfold batchEnd
  split
  · rfl
  · dsimp only
    have h1 : queueView (tgtPut (closeWriteOf s t) t { tgtOf (closeWriteOf s t) t with batch := none }) = queueView s := (tgtPut_queueView (by rfl)).trans hc
    split
    · refine (queueView_of_bellView (sendBell_bellView ..)).trans ((tgtPut_queueView ?_).trans h1)
      rw [tgtOf_tgtPut_same]
    · exact h1

/-- The state in which an empty stream has left the heap, with its wait counter at 0 (R207, assumption log 71). -/
def leftHeap (s : State) (t : Nat) : State :=
  let tb := BitVec.ofNat 16 t
  let s1 := { s with ar := { s.ar with heap := s.ar.heap.filter fun x => decide (x ≠ tb), heapWait := s.ar.heapWait.filter fun x => decide (x ≠ tb) } }
  if s.ar.heap.any (· = tb) then tgtPut s1 t { tgtOf s1 t with wait := 0 } else s1

theorem settleStream_eq (s : State) (t : Nat) : settleStream s t = if (streamOf s t).isEmpty then heapRefill (batchEnd (leftHeap s t) t) else s := rfl

/-- A stream that is settled loses at most its own wait (R207). -/
theorem settleStream_queueView (s : State) (t : Nat) : (queueView (settleStream s t)).1 = (queueView s).1
    ∧ (∀ k, k ≠ t → (tgtOf (settleStream s t) k).wait = (tgtOf s k).wait) ∧ ((tgtOf s t).wait = 0 → (tgtOf (settleStream s t) t).wait = 0) := by
  have href (x : State) : queueView (heapRefill x) = queueView x := by
    unfold heapRefill
    split
    · split <;> rfl
    · rfl
  rw [settleStream_eq]
  split
  · have hq : queueView (heapRefill (batchEnd (leftHeap s t) t)) = queueView (leftHeap s t) := (href _).trans (batchEnd_queueView ..)
    have hw (k : Nat) : (tgtOf (heapRefill (batchEnd (leftHeap s t) t)) k).wait = (tgtOf (leftHeap s t) k).wait := (congrArg (fun v => v.2 k) hq :)
    refine ⟨(congrArg Prod.fst hq).trans ?_, fun k hk => (hw k).trans ?_, fun h0 => (hw t).trans ?_⟩
    · unfold leftHeap
      dsimp only
      split <;> rfl
    · unfold leftHeap
      dsimp only
      split
      · rw [tgtOf_tgtPut_ne _ _ hk]
        rfl
      · rfl
    · unfold leftHeap
      dsimp only
      split
      · rw [tgtOf_tgtPut_same]
      · exact h0
  · exact ⟨rfl, fun _ _ => rfl, id⟩

/-! ### The egress port -/

theorem tagOf_of_prefix {α : Type} {l m : List (BitVec 8 × α)} {tag : BitVec 8} {a : α} (hp : l <+: m) (h : tagOf l tag = some a) : tagOf m tag = some a := by
  obtain ⟨r, rfl⟩ := hp
  induction l with
  | nil => exact absurd h.symm (Option.some_ne_none a)
  | cons e l ih =>
    obtain ⟨k, b⟩ := e
    simp only [List.cons_append, tagOf] at h ⊢
    split
    next hk => rwa [if_pos hk] at h
    next hk => exact ih (by rwa [if_neg hk] at h)

/-- A free tag names no write. -/
theorem tagOf_freeTag {α : Type} {l : List (BitVec 8 × α)} {tag : BitVec 8} (hf : freeTag l = some tag) (a : α) : tagOf (l ++ [(tag, a)]) tag = some a := by
  have hnone : ∀ e ∈ l, e.1 ≠ tag := by
    unfold freeTag at hf
    obtain ⟨i, hi, rfl⟩ := Option.map_eq_some_iff.mp hf
    have hlt := List.mem_range.mp (List.mem_of_find?_eq_some hi)
    have hany := List.find?_some hi
    rw [Bool.not_eq_true'] at hany
    intro e he heq
    have := List.any_eq_false.mp hany e he
    exact this (decide_eq_true (by rw [heq, BitVec.toNat_ofNat]; omega))
  clear hf
  induction l with
  | nil => simp [tagOf]
  | cons e l ih =>
    obtain ⟨k, b⟩ := e
    simp only [List.cons_append, tagOf]
    rw [if_neg (hnone _ (List.mem_cons_self ..))]
    exact ih fun x hx => hnone x (List.mem_cons_of_mem _ hx)

theorem pumpBells_flight (n : Nat) : ∀ s : State, s.ar.flight <+: (pumpBells n s).ar.flight := by
  induction n with
  | zero => exact fun s => List.prefix_rfl
  | succ k ih =>
    intro s
    unfold pumpBells
    split
    · dsimp only
      split
      · refine List.IsPrefix.trans ?_ (ih _)
        exact List.prefix_rfl
      · split
        · exact List.prefix_rfl
        · refine List.IsPrefix.trans ?_ (ih _)
          exact List.prefix_append ..
    · exact List.prefix_rfl

theorem sendBell_flight (s : State) (t : Nat) : s.ar.flight <+: (sendBell s t).ar.flight := by
  unfold sendBell
  dsimp only
  split
  · exact List.prefix_rfl
  · split
    · exact List.prefix_rfl
    · refine List.IsPrefix.trans ?_ (pumpBells_flight ..)
      exact List.prefix_rfl

theorem acceptRecs_flight (s : State) (t : Nat) (hs : List Nat) : (acceptRecs s t hs).ar.flight = s.ar.flight :=
  (congrArg (fun v => v.2.2) (acceptRecs_writeSide s t hs) :)

theorem issuedRecs_flight (s : State) (w : OpenWrite) : (issuedRecs s w).ar.flight = s.ar.flight :=
  (congrArg (fun v => v.2.2) (issuedRecs_writeSide s w) :)

theorem closeWrite_flight (s : State) : s.ar.flight <+: (closeWrite s).ar.flight := by
  unfold closeWrite
  split
  · exact List.prefix_rfl
  next w _ =>
    have hi := issuedRecs_flight s w
    dsimp only
    split
    · exact List.prefix_rfl
    · split
      · rw [acceptRecs_flight]
        exact hi.symm ▸ List.prefix_rfl
      · split
        · refine List.IsPrefix.trans (l₂ := (issuedRecs s w).ar.flight) (hi.symm ▸ List.prefix_rfl) ?_
          exact List.prefix_append ..
        · exact List.prefix_rfl

theorem closeWriteOf_flight (s : State) (t : Nat) : s.ar.flight <+: (closeWriteOf s t).ar.flight := by
  unfold closeWriteOf
  split
  · split
    · exact closeWrite_flight s
    · exact List.prefix_rfl
  · exact List.prefix_rfl

theorem batchEnd_flight (s : State) (t : Nat) : s.ar.flight <+: (batchEnd s t).ar.flight := by
  have hc := closeWriteOf_flight s t
  unfold batchEnd
  split
  · exact List.prefix_rfl
  · dsimp only
    split
    · refine List.IsPrefix.trans ?_ (sendBell_flight ..)
      exact hc
    · exact hc

theorem heapRefill_egress (s : State) : (heapRefill s).ar.flight = s.ar.flight ∧ (heapRefill s).ar.open_ = s.ar.open_ ∧ (heapRefill s).ts = s.ts := by
  unfold heapRefill
  split
  · split <;> exact ⟨rfl, rfl, rfl⟩
  · exact ⟨rfl, rfl, rfl⟩

/-! ### An open write on its way -/

/-- The address of the next write to a remote target's ring. -/
def ringAddr (g : Tgt) : DWord := (g.baseHi ++ g.baseLo) + BitVec.ofNat 64 (32 * g.tail.toNat)

/-- An open write of a remote target that the egress port can take under a tag. -/
structure Opened (w : OpenWrite) (tag : BitVec 8) (ten : BitVec 12) (addr : DWord) (m : List Host.Cell) (s : State) : Prop where
  open_ : s.ar.open_ = some w
  free : freeTag s.ar.flight = some tag
  ready : tdReloading s w.target.toNat = false
  tenant : (tgtOf s w.target.toNat).tenant = ten
  addr : ringAddr (tgtOf s w.target.toNat) = addr
  lmem : s.ts.lmem = m

/-- The open write has been issued under its tag. -/
structure Issued (w : OpenWrite) (tag : BitVec 8) (ten : BitVec 12) (addr : DWord) (m : List Host.Cell) (s : State) : Prop where
  closed : s.ar.open_ = none
  flight : ∃ f, tagOf s.ar.flight tag = some f ∧ f.doorbell = false ∧ f.target = w.target ∧ f.handles = w.recs.map (fun o => o.h) ∧ f.tenant = ten
    ∧ f.data.length = 32 * w.recs.length ∧ f.addr = addr
  lmem : s.ts.lmem = m

theorem writeBytes_length (s : State) (g : Tgt) (issue : Nat) : ∀ (l : List Out) (i : Nat), (writeBytes s g l i issue).length = 32 * l.length := by
  intro l
  induction l with
  | nil => exact fun i => rfl
  | cons o l ih =>
    intro i
    have hone : (recBytes (keyOf s o.ev.snap.cfg.tenant.toNat) o (g.seq + w32 i) issue (!g.tailPar)).length = 32 := rfl
    unfold writeBytes
    rw [List.length_append, ih, hone, List.length_cons]
    omega

variable {w : OpenWrite} {tag : BitVec 8} {ten : BitVec 12} {addr : DWord} {m : List Host.Cell} {s : State}

theorem Opened.closeWrite (h : Opened w tag ten addr m s) (hl : isLocal w.target.toNat = false) : Issued w tag ten addr m (closeWrite s) := by
  have hf := issuedRecs_flight s w
  have hop : (issuedRecs s w).ar.open_ = none := (congrArg (fun v => v.2.1) (issuedRecs_writeSide s w) :)
  have hlm : (issuedRecs s w).ts.lmem = s.ts.lmem := by
    exact forEach_view (v := fun x => x.ts.lmem) (issueRec_lmem w.target.toNat (now s)) w.recs _
  have hfree : freeTag (issuedRecs s w).ar.flight = some tag := by rw [hf]; exact h.free
  have heq : Machine.closeWrite s = { issuedRecs s w with ar := { (issuedRecs s w).ar with flight := (issuedRecs s w).ar.flight ++ [(tag,
      { doorbell := false, tenant := (tgtOf s w.target.toNat).tenant, addr := ringAddr (tgtOf s w.target.toNat),
        data := writeBytes s (tgtOf s w.target.toNat) w.recs 0 (now s), target := w.target, handles := w.recs.map fun o => o.h, void := false })] } } := by
    unfold issuedRecs issueRec at hfree ⊢
    simp only [Machine.closeWrite, h.open_, h.ready, hl, hfree, Bool.false_eq_true, if_false]
    rfl
  rw [heq]
  exact ⟨hop, ⟨_, tagOf_freeTag hfree _, rfl, rfl, rfl, h.tenant, writeBytes_length .., h.addr⟩, hlm.trans h.lmem⟩

/-- The issue of a remote write leaves the vectors (R211). -/
theorem Opened.closeWrite_vs (h : Opened w tag ten addr m s) (hl : isLocal w.target.toNat = false) : (Machine.closeWrite s).vs = s.vs := by
  have hvs := issuedRecs_vs s w
  have hfree : freeTag (issuedRecs s w).ar.flight = some tag := by rw [issuedRecs_flight]; exact h.free
  unfold issuedRecs issueRec at hfree hvs
  simp only [Machine.closeWrite, h.open_, h.ready, hl, hfree, Bool.false_eq_true, if_false]
  exact hvs

theorem Opened.closeWriteOf (h : Opened w tag ten addr m s) (hl : isLocal w.target.toNat = false) :
    Issued w tag ten addr m (closeWriteOf s w.target.toNat) := by
  have heq : Machine.closeWriteOf s w.target.toNat = Machine.closeWrite s := by
    unfold Machine.closeWriteOf
    rw [h.open_]
    exact if_pos rfl
  rw [heq]
  exact h.closeWrite hl

/-- An issued write stays on the egress port while writes that come after it close and doorbells go. -/
theorem Issued.mono (h : Issued w tag ten addr m s) {u : State} (hc : u.ar.open_ = none) (hp : s.ar.flight <+: u.ar.flight) (hm : u.ts.lmem = s.ts.lmem) :
    Issued w tag ten addr m u := by
  obtain ⟨f, hf, hrest⟩ := h.flight
  exact ⟨hc, ⟨f, tagOf_of_prefix hp hf, hrest⟩, hm.trans h.lmem⟩

theorem closeWriteOf_of_closed (h : s.ar.open_ = none) (t : Nat) : closeWriteOf s t = s := by
  unfold closeWriteOf
  rw [h]

theorem Issued.batchEnd_of_closed {t : Nat} {u : State} (h : Issued w tag ten addr m (closeWriteOf s t)) (hb : ∃ b, (tgtOf s t).batch = some b)
    (hu : u = batchEnd s t) : Issued w tag ten addr m u := by
  subst hu
  obtain ⟨b, hb⟩ := hb
  unfold batchEnd
  rw [hb]
  dsimp only
  split
  · have hbell := sendBell_bellView (tgtPut (tgtPut (closeWriteOf s t) t { tgtOf (closeWriteOf s t) t with batch := none }) t
      { tgtOf (closeWriteOf s t) t with batch := none, rearm := false }) t
    refine h.mono ((congrArg (fun v => v.1.ar.open_) hbell :).trans h.closed) ?_ (congrArg (fun v => v.1.ts.lmem) hbell :)
    refine List.IsPrefix.trans ?_ (sendBell_flight ..)
    exact List.prefix_rfl
  · exact h.mono h.closed List.prefix_rfl rfl

theorem Issued.batchEnd (h : Issued w tag ten addr m s) (t : Nat) : Issued w tag ten addr m (batchEnd s t) := by
  cases hb : (tgtOf s t).batch with
  | none => rwa [batchEnd_of_noBatch hb]
  | some b => exact Issued.batchEnd_of_closed (by rwa [closeWriteOf_of_closed h.closed]) ⟨b, hb⟩ rfl

theorem Opened.batchEnd (h : Opened w tag ten addr m s) (hl : isLocal w.target.toNat = false) (hb : ∃ b, (tgtOf s w.target.toNat).batch = some b) :
    Issued w tag ten addr m (batchEnd s w.target.toNat) := Issued.batchEnd_of_closed (h.closeWriteOf hl) hb rfl

end Sys2Proof.Machine
end

section
/-! PROOF. Obligation O27: what a grant leaves, and the close of its write (R145 row 5, R178, R183, R210 to R212). -/

namespace Sys2Proof.Machine

/-! ### The charge of a grant -/

/-- The state without what the charge of a grant changes, and the rest of every target (R178, R183). -/
def chargeView (s : State) : State × (Nat → Tgt) :=
  ({ s with cnt := State.cntReset, jn := State.jnReset, status := State.scReset, ap := { s.ap with reqs := [], waiting := [] },
            ts := { s.ts with targets := [], tenants := [], dirty := [] } }, fun k => { tgtOf s k with graceEnd := 0 })

theorem Logged.chargeView {s t : State} (h : Logged s t) : chargeView t = chargeView s := by
  have hts := h.ts
  have hcnt := h.cnt
  have htgt : (fun k => { Machine.tgtOf t k with graceEnd := 0 }) = fun k => { Machine.tgtOf s k with graceEnd := 0 } := by
    funext k
    simp only [Machine.tgtOf, hts, h.fu]
  have hs : (Machine.chargeView t).1 = (Machine.chargeView s).1 :=
    (congrArg (fun y => { y with cnt := State.cntReset, ts := { y.ts with targets := [], tenants := [], dirty := [] } }) h.same :)
  exact Prod.ext hs htgt

theorem charge_chargeView (s : State) (t h : Nat) (ev : Ev) : chargeView (charge s t h ev) = chargeView s := by
  have hput (x : State) (hx : chargeView x = chargeView s) : chargeView (tgtPut x t { tgtOf x t with graceEnd := now s + 1000 * s.ctl.graceUs.toNat }) = chargeView s := by
    refine Eq.trans ?_ hx
    have htgt : (fun k => { tgtOf (tgtPut x t { tgtOf x t with graceEnd := now s + 1000 * s.ctl.graceUs.toNat }) k with graceEnd := 0 })
        = fun k => { tgtOf x k with graceEnd := 0 } := by
      funext k
      by_cases hk : k = t
      · rw [hk, tgtOf_tgtPut_same]
      · rw [tgtOf_tgtPut_ne _ _ hk]
    exact congrArg (fun f => ((chargeView x).1, f)) htgt
  unfold charge
  dsimp only
  split
  · split
    · exact hput _ rfl
    · exact hput _ ((Logged.jnlRated ..).chargeView.trans rfl)
  · rfl

/-! ### A grant -/

/-- What a grant of a stream's head leaves (R145 row 5, R151, R211, R212). -/
structure Grants (u : State) (x : BitVec 16) (h : Nat) (ev : Ev) (s : State) : Prop where
  active : ∃ a, (vecOf s h).active = some a ∧ a.target = x ∧ a.prio = ev.snap.cfg.prio
  idle : (vecOf s h).ev = none
  others : ∀ k, k ≠ h → (vecOf s k).ev = (vecOf u k).ev
  amask : (tgtOf s x.toNat).amask.getLsbD ev.snap.cfg.prio.toNat = true
  wait : ∀ k, (tgtOf s k).wait = (tgtOf u k).wait
  ring : ringAddr (tgtOf s x.toNat) = ringAddr (tgtOf u x.toNat) ∧ (tgtOf s x.toNat).tenant = (tgtOf u x.toNat).tenant
  batch : ∃ b, (tgtOf s x.toNat).batch = some b ∧ 1 ≤ b.progress
  open_ : ∃ o : Out, o.h = h ∧ (u.ar.open_ = none → s.ar.open_ = some { target := x, recs := [o] })
    ∧ ∀ w, u.ar.open_ = some w → s.ar.open_ = some { w with recs := w.recs ++ [o] }
  flight : s.ar.flight = u.ar.flight
  reload : s.ts.reload = u.ts.reload
  lmem : s.ts.lmem = u.ts.lmem
  noChanges : NoChanges u → NoChanges s
  md : s.md = u.md
  ctl : s.ctl = u.ctl
  tm : s.tm = u.tm
  fu : s.fu = u.fu

/-- The open write with a record more, or the write that opens with it (R211). -/
def openWith (s : State) (x : BitVec 16) (o : Out) : OpenWrite :=
  match s.ar.open_ with
  | some w => { w with recs := w.recs ++ [o] }
  | none => { target := x, recs := [o] }

theorem openAdd_eq (s : State) (t : Nat) (o : Out) : ∃ b : Batch, 1 ≤ b.progress ∧ openAdd s t o =
    { tgtPut s t { tgtOf s t with batch := some b, fullEpisode := false } with ar := { s.ar with open_ := some (openWith s (BitVec.ofNat 16 t) o) } } := by
  unfold openAdd openWith
  dsimp only
  simp only [tgtPut_ar]
  cases (tgtOf s t).batch with
  | none =>
    refine ⟨{ progress := 1, start := fabNow s, wasEmpty := ringIdle s t }, Nat.le_refl 1, ?_⟩
    cases s.ar.open_ <;> rfl
  | some b =>
    refine ⟨{ b with progress := b.progress + 1 }, Nat.le_add_left .., ?_⟩
    cases s.ar.open_ <;> rfl

/-- The state in which a record has joined its target's write and batch (R211, R212). -/
def joinedWith (c : State) (x : BitVec 16) (b : Batch) (o : Out) : State :=
  { tgtPut c x.toNat { tgtOf c x.toNat with batch := some b, fullEpisode := false } with ar := { c.ar with open_ := some (openWith c x o) } }

/-- The mask bit of a granted record's priority is set (R151). -/
def maskedWith (c : State) (x : BitVec 16) (b : Batch) (o : Out) (a : Active) : State :=
  tgtPut (joinedWith c x b o) x.toNat { tgtOf (joinedWith c x b o) x.toNat with amask := setBit (tgtOf (joinedWith c x b o) x.toNat).amask a.prio.toNat }

/-- The state of a grant after its charge: the record in the open write, the mask bit, and the active record (R145 row 5). -/
def grantedFrom (c : State) (x : BitVec 16) (h : Nat) (b : Batch) (o : Out) (a : Active) : State :=
  vecPut (maskedWith c x b o a) h { vecOf (maskedWith c x b o a) h with ev := none, active := some a }

theorem grantedFrom_grants {u c : State} (hc : chargeView c = chargeView u) {x : BitVec 16} {h : Nat} {ev : Ev} {b : Batch} {o : Out} {a : Active}
    (hb : 1 ≤ b.progress) (ho : o.h = h) (ht : a.target = x) (hp : a.prio = ev.snap.cfg.prio) : Grants u x h ev (grantedFrom c x h b o a) := by
  have htgt (k : Nat) : { tgtOf c k with graceEnd := 0 } = { tgtOf u k with graceEnd := 0 } := congrFun (congrArg Prod.snd hc) k
  have hvs : c.vs = u.vs := (congrArg (fun v => v.1.vs) hc :)
  have har : c.ar = u.ar := (congrArg (fun v => v.1.ar) hc :)
  have hgroups : c.ts.groups = u.ts.groups := (congrArg (fun v => v.1.ts.groups) hc :)
  have hcouches : c.ts.couches = u.ts.couches := (congrArg (fun v => v.1.ts.couches) hc :)
  have hcw (k : Nat) : (tgtOf c k).wait = (tgtOf u k).wait := (congrArg Tgt.wait (htgt k) :)
  have hcc (k : Nat) : (tgtOf c k).changes = (tgtOf u k).changes := (congrArg Tgt.changes (htgt k) :)
  have hring : ringAddr (tgtOf c x.toNat) = ringAddr (tgtOf u x.toNat) := (congrArg ringAddr (htgt x.toNat) :)
  have hten : (tgtOf c x.toNat).tenant = (tgtOf u x.toNat).tenant := (congrArg Tgt.tenant (htgt x.toNat) :)
  have hreload : c.ts.reload = u.ts.reload := (congrArg (fun y => y.1.ts.reload) hc :)
  have hlmem : c.ts.lmem = u.ts.lmem := (congrArg (fun y => y.1.ts.lmem) hc :)
  have hmd : c.md = u.md := (congrArg (fun y => y.1.md) hc :)
  have hctl : c.ctl = u.ctl := (congrArg (fun y => y.1.ctl) hc :)
  have htm : c.tm = u.tm := (congrArg (fun y => y.1.tm) hc :)
  have hfu : c.fu = u.fu := (congrArg (fun y => y.1.fu) hc :)
  have hbit (m : DWord) : (setBit m a.prio.toNat).getLsbD ev.snap.cfg.prio.toNat = true := by
    rw [hp]
    refine (getLsbD_setBit _ _ _ (Nat.lt_of_lt_of_le ev.snap.cfg.prio.isLt (by decide))).trans ?_
    rw [decide_eq_true rfl, Bool.or_true]
  let p := joinedWith c x b o
  let q := maskedWith c x b o a
  have hsame : tgtOf p x.toNat = { tgtOf c x.toNat with batch := some b, fullEpisode := false } := tgtOf_tgtPut_same ..
  have hq : tgtOf q x.toNat = { tgtOf p x.toNat with amask := setBit (tgtOf p x.toNat).amask a.prio.toNat } := tgtOf_tgtPut_same ..
  have hq' (k : Nat) (hk : k ≠ x.toNat) : tgtOf q k = tgtOf c k := (tgtOf_tgtPut_ne _ _ hk).trans (tgtOf_tgtPut_ne _ _ hk)
  have hqvs : q.vs = u.vs := hvs
  have hqopen : q.ar.open_ = some (openWith c x o) := rfl
  have hqflight : q.ar.flight = u.ar.flight := by
    show c.ar.flight = _
    rw [har]
  have hqreload : q.ts.reload = u.ts.reload := hreload
  have hqlmem : q.ts.lmem = u.ts.lmem := hlmem
  have hqgroups : q.ts.groups = u.ts.groups := hgroups
  have hqcouches : q.ts.couches = u.ts.couches := hcouches
  have hqmd : q.md = u.md := hmd
  have hqctl : q.ctl = u.ctl := hctl
  have hqtm : q.tm = u.tm := htm
  have hqfu : q.fu = u.fu := hfu
  show Grants u x h ev (vecPut q h { vecOf q h with ev := none, active := some a })
  clear_value p q
  have hv : vecOf (vecPut q h { vecOf q h with ev := none, active := some a }) h = { vecOf q h with ev := none, active := some a } := vecOf_vecPut_same ..
  refine ⟨⟨a, by rw [hv], ht, hp⟩, by rw [hv], fun k hk => ?_, ?_, fun k => ?_, ⟨?_, ?_⟩, ⟨b, ?_, hb⟩, ⟨o, ho, fun hn => ?_, fun w hw => ?_⟩,
    hqflight, hqreload, hqlmem, fun hn k => ⟨?_, ?_, ?_⟩, hqmd, hqctl, hqtm, hqfu⟩
  · rw [vecOf_vecPut_ne _ _ hk]
    simp only [vecOf, hqvs]
  · show (tgtOf q x.toNat).amask.getLsbD _ = true
    rw [hq]
    exact hbit _
  · show (tgtOf q k).wait = _
    by_cases hk : k = x.toNat
    · rw [hk, hq, hsame]
      exact hcw _
    · rw [hq' k hk]
      exact hcw k
  · show ringAddr (tgtOf q x.toNat) = _
    rw [hq, hsame]
    exact hring
  · show (tgtOf q x.toNat).tenant = _
    rw [hq, hsame]
    exact hten
  · show (tgtOf q x.toNat).batch = _
    rw [hq, hsame]
  · refine hqopen.trans ?_
    unfold openWith
    rw [har, hn]
  · refine hqopen.trans ?_
    unfold openWith
    rw [har, hw]
  · show (tgtOf q k).changes = _
    by_cases hk : k = x.toNat
    · rw [hk, hq, hsame]
      exact (hcc _).trans (hn _).1
    · rw [hq' k hk]
      exact (hcc k).trans (hn k).1
  · show (groupOf q k).changes = _
    rw [show groupOf q k = groupOf u k by simp only [groupOf, hqgroups]]
    exact (hn k).2.1
  · show (couchOf q k).changes = _
    rw [show couchOf q k = couchOf u k by simp only [couchOf, hqcouches, hqfu]]
    exact (hn k).2.2

theorem grantOne_grants (u : State) (x : BitVec 16) (h : Nat) (ev : Ev) : Grants u x h ev (grantOne u x.toNat h ev) := by
  have hx : BitVec.ofNat 16 x.toNat = x := by rw [BitVec.ofNat_toNat, BitVec.setWidth_eq]
  have hc := charge_chargeView u x.toNat h ev
  unfold grantOne
  dsimp only
  generalize charge u x.toNat h ev = c at hc ⊢
  rw [hx]
  obtain ⟨b, hb, hopen⟩ := openAdd_eq c x.toNat
    { h := h, ev := { grantData ev with stream := none }, prio := ev.snap.cfg.prio,
      heldFull := (tgtOf c x.toNat).fullEpisode, degraded := degraded c, rerouted := ev.snap.cfg.groupTarget && decide (ev.first ≠ some x) }
  rw [hopen, hx]
  exact grantedFrom_grants (a := { target := x, prio := ev.snap.cfg.prio, accepted := false, ev := { grantData ev with stream := none } }) hc hb rfl rfl rfl

/-! ### What closes after a grant -/

/-- What closes after a grant (R211, R212). -/
def grantTail (s : State) (t : Nat) : State :=
  let s4 := if writeFull s t then closeWriteOf s t else s
  settleStream (if batchFull s4 t then batchEnd s4 t else s4) t

theorem roundGrant_eq {s : State} {req : List Nat} {t : Nat} {u : State} {h : Nat} {ev : Ev}
    (hu : (if openTarget (countWaits (noteBusy s) req t) = some t then countWaits (noteBusy s) req t else closeWrite (countWaits (noteBusy s) req t)) = u)
    (hh : streamHead u t = some (h, ev)) : roundGrant s req t = grantTail (grantOne u t h ev) t := by
  unfold roundGrant
  dsimp only
  rw [hu, hh]
  rfl

/-- What follows a grant leaves the events, and of the wait counters all but its target's (R207, R212). -/
theorem grantTail_queue (s : State) (t : Nat) : streamView (grantTail s t) = streamView s ∧ vecsRest (grantTail s t) = vecsRest s
    ∧ (∀ k, (vecOf (grantTail s t) k).ev = (vecOf s k).ev) ∧ (∀ k, k ≠ t → (tgtOf (grantTail s t) k).wait = (tgtOf s k).wait)
    ∧ ((tgtOf s t).wait = 0 → (tgtOf (grantTail s t) t).wait = 0) ∧ s.ar.flight <+: (grantTail s t).ar.flight := by
  have h4 : ∀ u, (u = s ∨ u = closeWriteOf s t) → streamView u = streamView s ∧ vecsRest u = vecsRest s ∧ queueView u = queueView s ∧ s.ar.flight <+: u.ar.flight := by
    rintro u (rfl | rfl)
    · exact ⟨rfl, rfl, rfl, List.prefix_rfl⟩
    · exact ⟨closeWriteOf_streamView .., closeWriteOf_vecsRest .., closeWriteOf_queueView .., closeWriteOf_flight ..⟩
  obtain ⟨hs4, hv4, hq4, hf4⟩ := h4 (if writeFull s t then closeWriteOf s t else s) (by split <;> simp)
  unfold grantTail
  dsimp only
  generalize (if writeFull s t then closeWriteOf s t else s) = u at hs4 hv4 hq4 hf4 ⊢
  have h5 : ∀ v, (v = u ∨ v = batchEnd u t) → streamView v = streamView s ∧ vecsRest v = vecsRest s ∧ queueView v = queueView s ∧ s.ar.flight <+: v.ar.flight := by
    rintro v (rfl | rfl)
    · exact ⟨hs4, hv4, hq4, hf4⟩
    · exact ⟨(batchEnd_streamView ..).trans hs4, (batchEnd_vecsRest ..).trans hv4, (batchEnd_queueView ..).trans hq4, hf4.trans (batchEnd_flight ..)⟩
  obtain ⟨hs5, hv5, hq5, hf5⟩ := h5 (if batchFull u t then batchEnd u t else u) (by split <;> simp)
  generalize (if batchFull u t then batchEnd u t else u) = v at hs5 hv5 hq5 hf5 ⊢
  obtain ⟨he, hw, h0⟩ := settleStream_queueView v t
  have hqw (k : Nat) : (tgtOf v k).wait = (tgtOf s k).wait := (congrArg (fun y => y.2 k) hq5 :)
  refine ⟨(settleStream_streamView ..).trans hs5, (settleStream_vecsRest ..).trans hv5, fun k => ?_, fun k hk => (hw k hk).trans (hqw k),
    fun hz => h0 ((hqw t).trans hz), hf5.trans ?_⟩
  · exact (congrFun he k :).trans (congrArg (fun y => y.1 k) hq5 :)
  · rw [settleStream_eq]
    split
    · rw [(heapRefill_egress _).1]
      refine List.IsPrefix.trans ?_ (batchEnd_flight ..)
      unfold leftHeap
      dsimp only
      split <;> exact List.prefix_rfl
    · exact List.prefix_rfl

section
variable {w : OpenWrite} {tag : BitVec 8} {ten : BitVec 12} {addr : DWord} {m : List Host.Cell} {s : State}

theorem Opened.leftHeap (h : Opened w tag ten addr m s) : Opened w tag ten addr m (leftHeap s w.target.toNat) := by
  obtain ⟨ho, hf, hr, ht, ha, hm⟩ := h
  unfold Machine.leftHeap
  dsimp only
  split
  · refine ⟨ho, hf, hr, ?_, ?_, hm⟩
    · rw [tgtOf_tgtPut_same]
      exact ht
    · rw [tgtOf_tgtPut_same]
      exact ha
  · exact ⟨ho, hf, hr, ht, ha, hm⟩

theorem Issued.settleStream (h : Issued w tag ten addr m s) (t : Nat) : Issued w tag ten addr m (settleStream s t) := by
  have hl : Issued w tag ten addr m (Machine.leftHeap s t) := by
    obtain ⟨hc, hf, hm⟩ := h
    unfold Machine.leftHeap
    dsimp only
    split <;> exact ⟨hc, hf, hm⟩
  have hb := hl.batchEnd t
  rw [settleStream_eq]
  split
  · obtain ⟨hf, ho, ht⟩ := heapRefill_egress (Machine.batchEnd (Machine.leftHeap s t) t)
    exact hb.mono (ho.trans hb.closed) (hf.symm ▸ List.prefix_rfl) (by rw [ht])
  · exact h

/-- A write that is open when its stream is settled stays open or is issued (R207, R212). -/
theorem Opened.settleStream (h : Opened w tag ten addr m s) (hl : isLocal w.target.toNat = false) :
    (settleStream s w.target.toNat).ar.open_ = some w ∨ Issued w tag ten addr m (settleStream s w.target.toNat) := by
  have hh := h.leftHeap
  rw [settleStream_eq]
  split
  · obtain ⟨hf, ho, ht⟩ := heapRefill_egress (Machine.batchEnd (Machine.leftHeap s w.target.toNat) w.target.toNat)
    cases hb : (tgtOf (Machine.leftHeap s w.target.toNat) w.target.toNat).batch with
    | none => exact .inl (ho.trans (by rw [batchEnd_of_noBatch hb]; exact hh.open_))
    | some b =>
      have hi := hh.batchEnd hl ⟨b, hb⟩
      exact .inr (hi.mono (ho.trans hi.closed) (hf.symm ▸ List.prefix_rfl) (by rw [ht]))
  · exact .inl h.open_

/-- The write of a grant stays open or is issued, and is issued where its batch is full (R211, R212). -/
theorem Opened.grantTail (h : Opened w tag ten addr m s) (hl : isLocal w.target.toNat = false) (hb : ∃ b, (tgtOf s w.target.toNat).batch = some b) :
    ((grantTail s w.target.toNat).ar.open_ = some w ∨ Issued w tag ten addr m (grantTail s w.target.toNat))
    ∧ (batchFull s w.target.toNat = true → Issued w tag ten addr m (grantTail s w.target.toNat)) := by
  unfold Machine.grantTail
  dsimp only
  cases writeFull s w.target.toNat with
  | true =>
    have hi := h.closeWriteOf hl
    rw [if_pos rfl]
    have hi2 : Issued w tag ten addr m (if batchFull (Machine.closeWriteOf s w.target.toNat) w.target.toNat
        then Machine.batchEnd (Machine.closeWriteOf s w.target.toNat) w.target.toNat else Machine.closeWriteOf s w.target.toNat) := by
      split
      · exact hi.batchEnd _
      · exact hi
    exact ⟨.inr (hi2.settleStream _), fun _ => hi2.settleStream _⟩
  | false =>
    rw [if_neg Bool.false_ne_true]
    cases batchFull s w.target.toNat with
    | true =>
      have hi := (h.batchEnd hl hb).settleStream w.target.toNat
      exact ⟨.inr hi, fun _ => hi⟩
    | false => exact ⟨h.settleStream hl, fun hf => absurd hf Bool.false_ne_true⟩

end

end Sys2Proof.Machine
end

section
/-! PROOF. Obligation O27: the arbiter's round (R209 to R212). -/

namespace Sys2Proof.Machine

/-! ### The state that a grant is made from -/

/-- The state in which the wait counters of a round have counted. -/
def waited (s : State) (x : BitVec 16) : State := countWaits (noteBusy s) (s.ar.heap.map BitVec.toNat) x.toNat

/-- What a round's grant is made from: the counters have counted, and the open write of another target has been issued (R210, R211). -/
structure GrantStart (s : State) (x : BitVec 16) (u : State) : Prop where
  head : streamHead u x.toNat = streamHead s x.toNat
  noChanges : NoChanges u
  evs : ∀ k, (vecOf u k).ev = (vecOf s k).ev
  waits : ∀ k, (tgtOf u k).wait = (tgtOf (waited s x) k).wait
  md : u.md = s.md
  ctl : u.ctl = s.ctl
  tm : u.tm = s.tm
  fu : u.fu = s.fu

theorem waited_start {s : State} (hn : noWaits s = true) (x : BitVec 16) : GrantStart s x (waited s x) ∧ (waited s x).ar = (noteBusy s).ar
    ∧ (waited s x).ts.reload = s.ts.reload ∧ (waited s x).ts.lmem = s.ts.lmem ∧ ∀ k, waitless (tgtOf (waited s x) k) = waitless (tgtOf s k) := by
  obtain ⟨l, d, heq⟩ := countWaits_targets x.toNat (s.ar.heap.map BitVec.toNat) (noteBusy s)
  have hw := countWaits_waitless x.toNat (s.ar.heap.map BitVec.toNat) (noteBusy s)
  have hnc := noChanges_of_noWaits hn
  have heq' : waited s x = { noteBusy s with ts := { s.ts with targets := l, dirty := d } } := heq
  have hw' : ∀ k, waitless (tgtOf (waited s x) k) = waitless (tgtOf s k) := hw
  refine ⟨⟨?_, fun k => ⟨(congrArg Tgt.changes (hw' k) :).trans (hnc k).1, ?_, ?_⟩, fun k => ?_, fun _ => rfl, (congrArg State.md heq' :),
    (congrArg State.ctl heq' :), (congrArg State.tm heq' :), (congrArg State.fu heq' :)⟩, (congrArg State.ar heq' :), (congrArg (fun y => y.ts.reload) heq' :),
    (congrArg (fun y => y.ts.lmem) heq' :), hw'⟩
  · rw [heq']
    exact streamHead_congr rfl rfl _
  · rw [heq']
    exact (hnc k).2.1
  · rw [heq']
    exact (hnc k).2.2
  · rw [heq']
    rfl

/-- The wait counters after a round (R210). -/
theorem waited_wait {s : State} (hd : s.ar.heap.Nodup) (x : BitVec 16) {y : BitVec 16} (hy : y ∈ s.ar.heap) :
    (tgtOf (waited s x) y.toNat).wait = if y = x then 0 else satAdd (tgtOf s y.toNat).wait 1 := by
  have hnd : (s.ar.heap.map BitVec.toNat).Nodup := hd.map fun a b h => BitVec.eq_of_toNat_eq h
  refine (countWaits_wait x.toNat hnd (noteBusy s) y.toNat).trans ?_
  rw [if_pos (List.mem_map_of_mem hy)]
  by_cases hyx : y = x
  · rw [if_pos hyx, if_pos (congrArg BitVec.toNat hyx)]
  · rw [if_neg hyx, if_neg fun h => hyx (BitVec.eq_of_toNat_eq h)]
    rfl

/-- The issue of another target's open write leaves what a grant is made from. -/
theorem closed_start {s : State} {x : BitVec 16} {w : OpenWrite} {tag : BitVec 8} {ten : BitVec 12} {addr : DWord} {m : List Host.Cell}
    (hw : GrantStart s x (waited s x)) (ho : Opened w tag ten addr m (waited s x)) (hl : isLocal w.target.toNat = false) :
    GrantStart s x (closeWrite (waited s x)) := by
  have hsv := closeWrite_streamView (waited s x)
  have hq := closeWrite_queueView (waited s x)
  have hfu : (closeWrite (waited s x)).fu = (waited s x).fu := (congrArg (fun v => v.1.fu) hsv :)
  exact ⟨(streamHead_congr (ho.closeWrite_vs hl) hfu _).trans hw.head, noChanges_of_decView (decView_of_streamView hsv (closeWrite_vecsRest _)) hw.noChanges,
    fun k => (congrArg (fun v => v.1 k) hq :).trans (hw.evs k), fun k => (congrArg (fun v => v.2 k) hq :), (congrArg (fun v => v.1.md) hsv :).trans hw.md,
    (congrArg (fun v => v.1.ctl) hsv :).trans hw.ctl, (congrArg (fun v => v.1.tm) hsv :).trans hw.tm, hfu.trans hw.fu⟩

/-! ### The round -/

/-- What a round shows that grants a stream's head. -/
structure RoundShown (s : State) (x : BitVec 16) (h : Nat) (ev : Ev) (t : State) : Prop where
  granted : granted s t x h ev
  wait : (tgtOf (waited s x) x.toNat).wait = 0 → (tgtOf t x.toNat).wait = 0
  waits : ∀ k, k ≠ x.toNat → (tgtOf t k).wait = (tgtOf (waited s x) k).wait
  evs : ∀ k, k ≠ h → (vecOf t k).ev = (vecOf s k).ev

theorem grantTail_shown {s u : State} {x : BitVec 16} {h : Nat} {ev : Ev} (hu : GrantStart s x u) :
    RoundShown s x h ev (fenceAll (grantTail (grantOne u x.toNat h ev) x.toNat)) ∧ NoChanges (grantTail (grantOne u x.toNat h ev) x.toNat) := by
  have hg := grantOne_grants u x h ev
  generalize grantOne u x.toNat h ev = g at hg ⊢
  obtain ⟨hsv, hvr, hev, hw, hw0, -⟩ := grantTail_queue g x.toNat
  generalize grantTail g x.toNat = r at hsv hvr hev hw hw0 ⊢
  have hdv := decView_of_streamView hsv hvr
  have ho := fenceAll_offUnits r
  have hvec (k : Nat) : vecOf (fenceAll r) k = vecOf r k := (congrArg (fun y => vecOf y k) ho :)
  have htgt (k : Nat) : tgtOf (fenceAll r) k = tgtOf r k := tgtOf_fenceAll r k
  obtain ⟨a, ha, hat, hap⟩ := hg.active
  have hact : (vecOf r h).active.map (fun b => { b with accepted := false }) = (vecOf g h).active.map fun b => { b with accepted := false } :=
    (congrArg Vec.active (congrFun hvr h) :)
  rw [ha, Option.map_some] at hact
  obtain ⟨b, hb, hba⟩ := Option.map_eq_some_iff.mp hact
  refine ⟨⟨⟨⟨b, ?_, ?_, ?_⟩, ?_, ?_, ?_, ?_, ?_, ?_⟩, fun hz => ?_, fun k hk => ?_, fun k hk => ?_⟩, noChanges_of_decView hdv (hg.noChanges hu.noChanges)⟩
  · rw [hvec]
    exact hb
  · exact (congrArg Active.target hba :).trans hat
  · exact (congrArg Active.prio hba :).trans hap
  · rw [hvec, hev]
    exact hg.idle
  · rw [htgt, show (tgtOf r x.toNat).amask = (tgtOf g x.toNat).amask from congrFun (congrArg (fun v => v.2.1) hdv) x.toNat]
    exact hg.amask
  · exact ((congrArg State.md ho :).trans (congrArg (fun v => v.1.md) hsv :)).trans (hg.md.trans hu.md)
  · exact ((congrArg State.ctl ho :).trans (congrArg (fun v => v.1.ctl) hsv :)).trans (hg.ctl.trans hu.ctl)
  · exact ((congrArg State.tm ho :).trans (congrArg (fun v => v.1.tm) hsv :)).trans (hg.tm.trans hu.tm)
  · exact ((congrArg State.fu ho :).trans (congrArg (fun v => v.1.fu) hsv :)).trans (hg.fu.trans hu.fu)
  · rw [htgt]
    exact hw0 ((hg.wait _).trans ((hu.waits _).trans hz))
  · rw [htgt]
    exact (hw k hk).trans ((hg.wait k).trans (hu.waits k))
  · rw [hvec, hev]
    exact (hg.others k hk).trans (hu.evs k)

/-- A round whose winner is known grants that stream's head (R210). -/
theorem execArbiterRound_grants {s u : State} {x : BitVec 16} {h : Nat} {ev : Ev} (hon : arbiterOn s = true) (hw : s.ar.heapWait = [])
    (hall : ∀ y ∈ s.ar.heap, requests s y.toNat = true ∧ ∀ e ∈ streamOf s y.toNat, mayStay s e.2 y.toNat = true)
    (hwin : winner s (s.ar.heap.map BitVec.toNat) = some x.toNat) (hh : streamHead s x.toNat = some (h, ev)) (hu : GrantStart s x u)
    (hstart : (if openTarget (waited s x) = some x.toNat then waited s x else closeWrite (waited s x)) = u) :
    exec .arbiterRound s = .next (fenceAll (grantTail (grantOne u x.toNat h ev) x.toNat)) := by
  refine congrArg Host.Outcome.next ((if_pos hon).trans ?_)
  rw [arbiterStep_of_requests hw hall hwin, roundGrant_eq hstart (hu.head.trans hh)]
  exact settleAll_of_noChanges (grantTail_shown hu).2

theorem fenceAll_egress (s : State) : (fenceAll s).ar.flight = s.ar.flight ∧ (fenceAll s).ar.open_ = s.ar.open_ ∧ (fenceAll s).ts.lmem = s.ts.lmem := by
  have ho := fenceAll_offUnits s
  exact ⟨(congrArg (fun y => y.ar.flight) ho :), (congrArg (fun y => y.ar.open_) ho :), (congrArg (fun y => y.ts.lmem) ho :)⟩

theorem Issued.fenceAll {w : OpenWrite} {tag : BitVec 8} {ten : BitVec 12} {addr : DWord} {m : List Host.Cell} {s : State} (h : Issued w tag ten addr m s) :
    Issued w tag ten addr m (fenceAll s) := by
  obtain ⟨hf, ho, hm⟩ := fenceAll_egress s
  exact h.mono (ho.trans h.closed) (hf.symm ▸ List.prefix_rfl) hm

/-- The write that a grant makes or joins, as it stands once the record has joined it (R211). -/
theorem grantOne_opened {u : State} {x : BitVec 16} {h : Nat} {ev : Ev} {tag : BitVec 8} (hf : freeTag u.ar.flight = some tag)
    (hr : tdReloading u x.toNat = false) :
    ∃ o : Out, o.h = h ∧ (u.ar.open_ = none →
        Opened { target := x, recs := [o] } tag (tgtOf u x.toNat).tenant (ringAddr (tgtOf u x.toNat)) u.ts.lmem (grantOne u x.toNat h ev))
      ∧ ∀ w, u.ar.open_ = some w → w.target = x →
        Opened { w with recs := w.recs ++ [o] } tag (tgtOf u x.toNat).tenant (ringAddr (tgtOf u x.toNat)) u.ts.lmem (grantOne u x.toNat h ev) := by
  have hg := grantOne_grants u x h ev
  generalize grantOne u x.toNat h ev = g at hg ⊢
  obtain ⟨o, ho, hnone, hsome⟩ := hg.open_
  obtain ⟨hring, hten⟩ := hg.ring
  have hfree : freeTag g.ar.flight = some tag := by rw [hg.flight]; exact hf
  have hready : tdReloading g x.toNat = false := by
    unfold tdReloading at hr ⊢
    rw [hg.reload]
    exact hr
  refine ⟨o, ho, fun hn => ⟨hnone hn, hfree, hready, hten, hring, hg.lmem⟩, fun w hw hx => ?_⟩
  subst hx
  exact ⟨hsome w hw, hfree, hready, hten, hring, hg.lmem⟩

theorem tdReloading_of_requests {s : State} {t : Nat} (h : requests s t = true) :
    tdReloading s t = false ∧ ∀ w, s.ar.open_ = some w → tdReloading s w.target.toNat = false := by
  unfold requests mayRequest at h
  rw [Bool.and_eq_true] at h
  obtain ⟨h, -⟩ := h
  split at h
  · exact absurd h Bool.false_ne_true
  · simp only [Bool.and_eq_true, Bool.not_eq_true'] at h
    obtain ⟨⟨-, hr⟩, hwait⟩ := h
    refine ⟨hr, fun w hw => ?_⟩
    unfold openWaits at hwait
    rwa [hw] at hwait

theorem head_of_single {s : State} {t h : Nat} {ev : Ev} (hs : streamOf s t = [(h, ev)]) (hr : requests s t = true) :
    streamHead s t = some (h, ev) ∧ mayStay s ev t = true := by
  unfold requests mayRequest at hr
  rw [Bool.and_eq_true] at hr
  obtain ⟨hr, -⟩ := hr
  split at hr
  · exact absurd hr Bool.false_ne_true
  next k e hk =>
    have hmem : (k, e) ∈ streamOf s t := List.mem_of_mem_filter (mem_of_leastBy hk)
    rw [hs] at hmem
    have heq := List.mem_singleton.mp hmem
    rw [heq] at hk
    have he : e = ev := congrArg Prod.snd heq
    simp only [Bool.and_eq_true] at hr
    obtain ⟨⟨⟨⟨hstay, -⟩, -⟩, -⟩, -⟩ := hr
    exact ⟨hk, he ▸ hstay⟩

theorem waited_closeWrite {s : State} (hn : noWaits s = true) (ho : s.ar.open_ = none) (x : BitVec 16) : closeWrite (waited s x) = waited s x := by
  obtain ⟨-, har, -⟩ := waited_start hn x
  unfold closeWrite
  rw [har]
  show (match s.ar.open_ with | none => _ | some _ => _) = _
  rw [ho]

/-- With a batch of one record the write to a remote target is issued at once (R211 to R213). -/
theorem singleBatch_issued {s : State} {x : BitVec 16} {h : Nat} {ev : Ev} {tag : BitVec 8} (hn : noWaits s = true) (hreq : requests s x.toNat = true) (ho : s.ar.open_ = none) (hloc : isLocal x.toNat = false) (hmax : s.ctl.batchMax = 1)
    (hfree : freeTag s.ar.flight = some tag) :
    ∃ o : Out, o.h = h ∧ Issued { target := x, recs := [o] } tag (tgtOf s x.toNat).tenant (ringAddr (tgtOf s x.toNat)) s.ts.lmem
      (fenceAll (grantTail (grantOne (waited s x) x.toNat h ev) x.toNat)) := by
  obtain ⟨hstart, har, hreload, hlmem, hless⟩ := waited_start hn x
  obtain ⟨hr, -⟩ := tdReloading_of_requests hreq
  have hr' : tdReloading (waited s x) x.toNat = false := by
    unfold tdReloading at hr ⊢
    rw [hreload]
    exact hr
  have hopen : (waited s x).ar.open_ = none := (congrArg ArbUnit.open_ har).trans ho
  have hflight : (waited s x).ar.flight = s.ar.flight :=
    (congrArg ArbUnit.flight har).trans (show (noteBusy s).ar.flight = s.ar.flight from rfl)
  obtain ⟨o, hoh, hopened, -⟩ := grantOne_opened (u := waited s x) (h := h) (ev := ev) (tag := tag) (by rw [hflight]; exact hfree) hr'
  have hg := grantOne_grants (waited s x) x h ev
  obtain ⟨b, hb, hprog⟩ := hg.batch
  have hfull : batchFull (grantOne (waited s x) x.toNat h ev) x.toNat = true := by
    have hmx : batchMax (grantOne (waited s x) x.toNat h ev) = 1 := by
      unfold batchMax
      rw [hg.ctl, hstart.ctl, hmax]
      rfl
    unfold batchFull
    rw [hb]
    dsimp only
    rw [hmx, decide_eq_true hprog, Bool.true_or]
  have hop := hopened hopen
  have hten : (tgtOf (waited s x) x.toNat).tenant = (tgtOf s x.toNat).tenant := (congrArg Tgt.tenant (hless x.toNat) :)
  have hring : ringAddr (tgtOf (waited s x) x.toNat) = ringAddr (tgtOf s x.toNat) := (congrArg ringAddr (hless x.toNat) :)
  rw [hten, hring, hlmem] at hop
  exact ⟨o, hoh, ((hop.grantTail hloc ⟨b, hb⟩).2 hfull).fenceAll⟩

section
variable {s : State} {x : BitVec 16} {h : Nat} {ev : Ev} (hon : arbiterOn s = true) (hn : noWaits s = true) (hw : s.ar.heapWait = []) (hx : x ∈ s.ar.heap)
  (hall : ∀ y ∈ s.ar.heap, requests s y.toNat = true ∧ ∀ e ∈ streamOf s y.toNat, mayStay s e.2 y.toNat = true)
  (hh : streamHead s x.toNat = some (h, ev))
include hon hn hw hx hall hh

/-- A round with no open write grants its best stream, and the others wait on (R210). -/
theorem bestRound_shown (ho : s.ar.open_ = none) (hbest : ∀ y ∈ s.ar.heap, y ≠ x → goesBefore s x y) :
    ∃ t, exec .arbiterRound s = .next t ∧ t = fenceAll (grantTail (grantOne (waited s x) x.toNat h ev) x.toNat) ∧ RoundShown s x h ev t := by
  have hstart := (waited_start hn x).1
  exact ⟨_, execArbiterRound_grants hon hw hall (winner_of_best hx hbest (.inl ho)) hh hstart
    ((congrArg (ite _ _) (waited_closeWrite hn ho x)).trans (ite_self ..)), rfl, (grantTail_shown hstart).1⟩

/-- The record of a stream whose write is open joins that write (R210, R211). -/
theorem openRound_shown {w : OpenWrite} (ho : s.ar.open_ = some w) (hwx : w.target = x)
    (hpre : s.ctl.preemptEn = false ∨ ∀ y ∈ s.ar.heap, y ≠ x → goesBefore s x y) :
    ∃ t, exec .arbiterRound s = .next t ∧ granted s t x h ev
      ∧ (isLocal x.toNat = false → (freeTag s.ar.flight).isSome = true → ∃ o : Out, o.h = h ∧ (t.ar.open_ = some { w with recs := w.recs ++ [o] }
        ∨ (t.ar.open_ = none ∧ ∃ tag f, tagOf t.ar.flight tag = some f ∧ f.doorbell = false ∧ f.target = x
          ∧ f.handles = (w.recs.map fun r => r.h) ++ [h]))) := by
  obtain ⟨hstart, har, hreload, -⟩ := waited_start hn x
  obtain ⟨hr, -⟩ := tdReloading_of_requests (hall x hx).1
  have hr' : tdReloading (waited s x) x.toNat = false := by
    unfold tdReloading at hr ⊢
    rw [hreload]
    exact hr
  have hopen : (waited s x).ar.open_ = some w := (congrArg ArbUnit.open_ har).trans ho
  have hot (y : State) (hy : y.ar.open_ = some w) : openTarget y = some x.toNat := by
    unfold openTarget
    rw [hy, ← hwx]
    rfl
  have hwin : winner s (s.ar.heap.map BitVec.toNat) = some x.toNat :=
    hpre.elim (winner_of_open hx (hot s ho)) fun hb => winner_of_best hx hb (.inr (.inr (hot s ho)))
  have hexec := execArbiterRound_grants hon hw hall hwin hh hstart (if_pos (hot _ hopen))
  have hflight : (waited s x).ar.flight = s.ar.flight :=
    (congrArg ArbUnit.flight har).trans (show (noteBusy s).ar.flight = s.ar.flight from rfl)
  have hshown := (grantTail_shown (h := h) (ev := ev) hstart).1.granted
  refine ⟨_, hexec, hshown, fun hloc hfree => ?_⟩
  obtain ⟨tag, htag⟩ := Option.isSome_iff_exists.mp hfree
  obtain ⟨o, hoh, -, hopened⟩ := grantOne_opened (u := waited s x) (h := h) (ev := ev) (tag := tag) (by rw [hflight]; exact htag) hr'
  obtain ⟨b, hb, -⟩ := (grantOne_grants (waited s x) x h ev).batch
  have hop := hopened w hopen hwx
  clear hexec hshown
  generalize grantOne (waited s x) x.toNat h ev = g at hb hop ⊢
  rw [← hwx] at hb hloc ⊢
  refine ⟨o, hoh, ?_⟩
  rcases (hop.grantTail hloc ⟨b, hb⟩).1 with hstay | hi
  · exact .inl ((fenceAll_egress _).2.1.trans hstay)
  · obtain ⟨f, hf, hdb, htgt, hhs, -⟩ := hi.fenceAll.flight
    refine .inr ⟨hi.fenceAll.closed, tag, f, hf, hdb, htgt, hhs.trans ?_⟩
    simp only [List.map_append, List.map_cons, List.map_nil, hoh]

/-- A winner at another target closes the open write first, which is issued with its own records (R210, R211). -/
theorem otherRound_shown {w : OpenWrite} (ho : s.ar.open_ = some w) (hwx : w.target ≠ x) (hpre : s.ctl.preemptEn = true)
    (hbest : ∀ y ∈ s.ar.heap, y ≠ x → goesBefore s x y) (hloc : isLocal w.target.toNat = false) (hfree : (freeTag s.ar.flight).isSome = true) :
    ∃ t tag f, exec .arbiterRound s = .next t ∧ granted s t x h ev ∧ tagOf t.ar.flight tag = some f ∧ f.doorbell = false ∧ f.target = w.target
      ∧ f.handles = w.recs.map fun r => r.h := by
  obtain ⟨hstart, har, hreload, -⟩ := waited_start hn x
  obtain ⟨-, hrw⟩ := tdReloading_of_requests (hall x hx).1
  have hr' : tdReloading (waited s x) w.target.toNat = false := by
    have := hrw w ho
    unfold tdReloading at this ⊢
    rw [hreload]
    exact this
  have hopen : (waited s x).ar.open_ = some w := (congrArg ArbUnit.open_ har).trans ho
  have hflight : (waited s x).ar.flight = s.ar.flight :=
    (congrArg ArbUnit.flight har).trans (show (noteBusy s).ar.flight = s.ar.flight from rfl)
  obtain ⟨tag, htag⟩ := Option.isSome_iff_exists.mp hfree
  have hop : Opened w tag (tgtOf (waited s x) w.target.toNat).tenant (ringAddr (tgtOf (waited s x) w.target.toNat)) (waited s x).ts.lmem (waited s x) :=
    ⟨hopen, by rw [hflight]; exact htag, hr', rfl, rfl, rfl⟩
  have hot : openTarget (waited s x) ≠ some x.toNat := by
    unfold openTarget
    rw [hopen]
    exact fun he => hwx (BitVec.eq_of_toNat_eq (Option.some.inj he))
  have hclosed := closed_start hstart hop hloc
  have hexec := execArbiterRound_grants hon hw hall (winner_of_best hx hbest (.inr (.inl hpre))) hh hclosed (if_neg hot)
  obtain ⟨f, hf, hdb, htgt, hhs, -⟩ := (hop.closeWrite hloc).flight
  have hg := (grantOne_grants (closeWrite (waited s x)) x h ev).flight
  obtain ⟨-, -, -, -, -, hlast⟩ := grantTail_queue (grantOne (closeWrite (waited s x)) x.toNat h ev) x.toNat
  have hshown := (grantTail_shown (h := h) (ev := ev) hclosed).1.granted
  generalize closeWrite (waited s x) = u at hf hg hlast hshown hexec
  rw [hg] at hlast
  refine ⟨_, tag, f, hexec, hshown, ?_, hdb, htgt, hhs⟩
  rw [(fenceAll_egress _).1]
  exact tagOf_of_prefix hlast hf

end

end Sys2Proof.Machine

namespace Sys2Proof

open Sys2Proof.Machine

/-- Settles O27: the winner of the round, the grant, and what closes after it. -/
theorem roundGrantsTheHead : Obligations.RoundGrantsTheHead := by
  refine ⟨fun s x h ev hon hn ho hheap hw hstream hev hreq => ?_, fun s x h ev hon hn hw hd hx hall hh => ?_⟩
  · obtain ⟨hh, hstay⟩ := head_of_single hstream hreq
    have hx : x ∈ s.ar.heap := hheap ▸ List.mem_singleton_self x
    have hall : ∀ y ∈ s.ar.heap, requests s y.toNat = true ∧ ∀ e ∈ streamOf s y.toNat, mayStay s e.2 y.toNat = true := by
      intro y hy
      rw [hheap] at hy
      rw [List.mem_singleton.mp hy, hstream]
      exact ⟨hreq, fun e he => (List.mem_singleton.mp he) ▸ hstay⟩
    obtain ⟨t, hexec, ht, hshown⟩ := bestRound_shown hon hn hw hx hall hh ho fun y hy hne => absurd (List.mem_singleton.mp (hheap ▸ hy)) hne
    refine ⟨⟨t, hexec, hshown.granted⟩, fun tag hloc hmax _ hfree => ?_⟩
    obtain ⟨o, hoh, hi⟩ := singleBatch_issued (h := h) (ev := ev) hn hreq ho hloc hmax hfree
    rw [← ht] at hi
    obtain ⟨f, hf, hdb, htgt, hhs, hten, hdata, haddr⟩ := hi.flight
    exact ⟨t, f, hexec, hf, hdb, htgt, hhs.trans (congrArg (fun k => [k]) hoh), hten, hdata, hi.closed, hi.lmem, haddr⟩
  · intro best
    refine ⟨fun ho hbest => ?_, fun w ho hwx hpre => openRound_shown hon hn hw hx hall hh ho hwx hpre,
      fun w ho hwx hpre hbest hloc hfree => otherRound_shown hon hn hw hx hall hh ho hwx hpre hbest hloc hfree⟩
    obtain ⟨t, hexec, -, hshown⟩ := bestRound_shown hon hn hw hx hall hh ho hbest
    refine ⟨t, hexec, hshown.granted, hshown.wait ((waited_wait hd x hx).trans (if_pos rfl)), fun y hy hne => ?_, hshown.evs⟩
    exact (hshown.waits _ fun he => hne (BitVec.eq_of_toNat_eq he)).trans ((waited_wait hd x hy).trans (if_neg hne))

end Sys2Proof

end

section
/-! PROOF. The end of re-form drain, and the writes that it no longer awaits (R114 steps 4 and 5). -/

namespace Sys2Proof.Machine

/-! ### Drain ends -/

/-- What the ends of hold-off windows leave. -/
def holdView (s : State) : State := { s with vs := { s.vs with vecs := [] }, ts := { s.ts with couches := [] } }

theorem drainWindow_holdView (old new : Furnish) (s : State) (g : Nat) : holdView (drainWindow old new s g) = holdView s := by
  unfold drainWindow
  split <;> rfl

theorem drainTargets_of_noWaits {s : State} (h : noWaits s = true) (e : Slice) : drainTargets s e = [] := by
  simp only [noWaits, Bool.and_eq_true, List.all_eq_true] at h
  obtain ⟨⟨ht, -⟩, -⟩ := h
  refine List.filterMap_eq_nil_iff.mpr fun g hg => ?_
  simp [ht g hg]

theorem drainVecs_of_noChange {s : State} (h : ∀ v ∈ s.vs.vecs, v.2.changes = []) (e : Slice) : drainVecs s e = [] :=
  List.filterMap_eq_nil_iff.mpr fun v hv => by simp [h v hv]

theorem drainApproved_of_noChange {s : State} (h : ∀ v ∈ s.vs.vecs, v.2.changes = []) (e : Slice) : drainApproved s e = [] :=
  List.filterMap_eq_nil_iff.mpr fun v hv => by simp [h v hv]

theorem drainMessages_of_none {s : State} {e : Slice} (h : drainChecked s e = []) : drainMessages s e = s := by
  unfold drainMessages
  rw [h]
  exact ite_self ..

/-- Where no change waits the drain has none to bring to a boundary. -/
theorem drainChanges_of_none {s : State} (hn : noWaits s = true) (hv : ∀ v ∈ s.vs.vecs, v.2.changes = []) (e : Slice) : drainChanges s e = s := by
  have hc := noChanges_of_noWaits hn
  unfold drainChanges
  dsimp only
  rw [drainVecs_of_noChange hv]
  show forEach _ (forEach _ (forEach (drainTargets s e) s _) _) _ = s
  rw [drainTargets_of_noWaits hn]
  show forEach _ (forEach _ s groupSettle) (fun s g => couchBoundary (couchOf s g).changes.length s g) = s
  rw [forEach_id _ fun g _ => groupSettle_of_noChanges hc g]
  exact forEach_id _ fun g _ => by rw [(hc g).2.2]; rfl

/-- With nothing in transfer and nothing that waits, the drain ends. -/
theorem drainEnd_of_idle {s : State} {n : BitVec 12} {old new : Furnish} (hp : s.fu.phase = .drain) (hop : s.fu.op = some (.reform n))
    (hold : s.fu.formed = some old) (hnew : s.fu.next = some new) (hb : drainBusy s n.toNat = false) (hn : noWaits s = true) (hf : s.flt.fatal = none)
    (ht : s.flt.selfTest = none) (hv : ∀ v ∈ s.vs.vecs, v.2.changes = []) (hc : ∀ e, sliceOf s n.toNat = some e → drainChecked s e = []) :
    ∃ x, drainEnd s = drainForm x old new n.toNat ∧ holdView x = holdView s := by
  have hten : drainTenant s = some n.toNat := by simp [drainTenant, hp, hop]
  unfold drainEnd
  rw [hten, hold, hnew]
  dsimp only
  rw [hb, if_neg Bool.false_ne_true]
  split
  · exact ⟨s, rfl, rfl⟩
  next e he =>
    rw [drainMessages_of_none (hc e he), drainChanges_of_none hn hv, drainTargets_of_noWaits hn, hf, ht]
    rw [drainApproved_of_noChange hv]
    have hempty : (drainApproved (forEach (([] : List Nat).filter fun h => (vteOn s h).isSome && !reloading s h) s drainRefuse) e).isEmpty = true :=
      congrArg List.isEmpty (drainApproved_of_noChange hv e)
    refine ⟨_, (if_neg (by simp)).trans (if_pos hempty), ?_⟩
    exact forEach_view (drainWindow_holdView old new) _ s

theorem drainForm_shows (s : State) (old new : Furnish) (t : Nat) :
    Logged { s with fu := { s.fu with phase := .form } } (drainForm s old new t)
      ∧ (reformWrites old new t ≠ [] → apHas (drainForm s old new t) .form = true) := by
  refine ⟨(apBulk_logged ..).trans (apBulk_logged ..), fun hw => ?_⟩
  obtain ⟨r, rs, hr⟩ := List.exists_cons_of_ne_nil hw
  unfold drainForm
  rw [hr]
  exact apHas_apPut ..

/-! ### Writes that the drain no longer awaits -/

/-- Outside the closed egress port only doorbells are sent: no write is open, local ring memory stays, and no change comes to wait. -/
structure BellsOnly (s t : State) : Prop where
  open_ : t.ar.open_ = none
  lmem : t.ts.lmem = s.ts.lmem
  flight : ∀ e ∈ t.ar.flight, e ∈ s.ar.flight ∨ e.2.doorbell = true
  changes : NoChanges s → NoChanges t
  rest : Steady s t

theorem BellsOnly.refl {s : State} (h : s.ar.open_ = none) : BellsOnly s s := ⟨h, rfl, fun _ => .inl, id, .refl s⟩

theorem BellsOnly.trans {s t u : State} (h : BellsOnly s t) (k : BellsOnly t u) : BellsOnly s u where
  open_ := k.open_
  lmem := k.lmem.trans h.lmem
  flight e he := (k.flight e he).elim (h.flight e) .inr
  changes := k.changes ∘ h.changes
  rest := h.rest.trans k.rest

theorem BellsOnly.ite {s t u : State} {c : Prop} [Decidable c] (h : BellsOnly s t) (k : BellsOnly s u) : BellsOnly s (if c then t else u) := by
  split
  · exact h
  · exact k

theorem pumpBells_newBells (n : Nat) : ∀ s : State, ∀ e ∈ (pumpBells n s).ar.flight, e ∈ s.ar.flight ∨ e.2.doorbell = true := by
  induction n with
  | zero => exact fun s e => .inl
  | succ k ih =>
    intro s e
    unfold pumpBells
    split
    · dsimp only
      split
      · exact ih _ e
      · split
        · exact .inl
        · intro he
          rcases ih _ e he with hm | hd
          · rcases List.mem_append.mp hm with hm | hm
            · exact .inl hm
            · rw [List.mem_singleton.mp hm]
              exact .inr rfl
          · exact .inr hd
    · exact .inl

theorem noChanges_of_bellView {s t : State} (h : bellView t = bellView s) (hs : NoChanges s) : NoChanges t := by
  intro k
  obtain ⟨ht, hg, hc⟩ := hs k
  have hgr : t.ts.groups = s.ts.groups := (congrArg (fun v => v.1.ts.groups) h :)
  have hco : t.ts.couches = s.ts.couches := (congrArg (fun v => v.1.ts.couches) h :)
  have hfu : t.fu = s.fu := (congrArg (fun v => v.1.fu) h :)
  refine ⟨(congrArg Tgt.changes (tgtOf_bellView h k) :).trans ht, ?_, ?_⟩
  · rw [groupOf, hgr]
    exact hg
  · rw [couchOf, hco, hfu]
    exact hc

theorem noChanges_of_streamView {s t : State} (h : streamView t = streamView s) (hs : NoChanges s) : NoChanges t := by
  intro k
  obtain ⟨ht, hg, hc⟩ := hs k
  have hgr : t.ts.groups = s.ts.groups := (congrArg (fun v => v.1.ts.groups) h :)
  have hco : t.ts.couches = s.ts.couches := (congrArg (fun v => v.1.ts.couches) h :)
  have hfu : t.fu = s.fu := (congrArg (fun v => v.1.fu) h :)
  refine ⟨(congrArg Tgt.changes (congrFun (congrArg (fun v => v.2.2) h) k) :).trans ht, ?_, ?_⟩
  · rw [groupOf, hgr]
    exact hg
  · rw [couchOf, hco, hfu]
    exact hc

theorem BellsOnly.of_bellView {s t : State} (h : s.ar.open_ = none) (hv : bellView t = bellView s)
    (hf : ∀ e ∈ t.ar.flight, e ∈ s.ar.flight ∨ e.2.doorbell = true) (hr : Steady s t) : BellsOnly s t :=
  ⟨(congrArg (fun v => v.1.ar.open_) hv :).trans h, (congrArg (fun v => v.1.ts.lmem) hv :), hf, noChanges_of_bellView hv, hr⟩

theorem pumpBells_bellsOnly {s : State} (h : s.ar.open_ = none) (n : Nat) : BellsOnly s (pumpBells n s) :=
  .of_bellView h (pumpBells_bellView n s) (pumpBells_newBells n s) (.of_inner (pumpBells_inner n (.refl s)))

theorem sendBell_bellsOnly {s : State} (h : s.ar.open_ = none) (t : Nat) : BellsOnly s (sendBell s t) := by
  refine .of_bellView h (sendBell_bellView s t) (fun e => ?_) (.of_inner (sendBell_inner t (.refl s)))
  unfold sendBell
  dsimp only
  split
  · exact .inl
  · split
    · exact .inl
    · exact pumpBells_newBells tagMax { s with ar := { s.ar with bells := s.ar.bells ++ [bellOf s t] } } e

/-- A target that changes without its changes that wait. -/
theorem tgtPut_bellsOnly {s : State} (h : s.ar.open_ = none) {t : Nat} {g : Tgt} (hg : g.changes = (tgtOf s t).changes) : BellsOnly s (tgtPut s t g) := by
  refine ⟨h, rfl, fun _ => .inl, fun hn k => ⟨?_, (hn k).2.1, (hn k).2.2⟩, .of_inner (tgtPut_inner t g (.refl s))⟩
  by_cases hk : k = t
  · rw [hk, tgtOf_tgtPut_same, hg]
    exact (hn t).1
  · rw [tgtOf_tgtPut_ne _ _ hk]
    exact (hn k).1

theorem vecPut_bellsOnly {s : State} (h : s.ar.open_ = none) (k : Nat) (v : Vec) : BellsOnly s (vecPut s k v) :=
  ⟨h, rfl, fun _ => .inl, id, .of_inner (vecPut_inner k v (.refl s))⟩

theorem batchEnd_bellsOnly {s : State} (h : s.ar.open_ = none) (t : Nat) : BellsOnly s (batchEnd s t) := by
  unfold batchEnd
  split
  · exact .refl h
  · dsimp only
    rw [closeWriteOf_of_closed h]
    have h1 : BellsOnly s (tgtPut s t { tgtOf s t with batch := none }) := tgtPut_bellsOnly h rfl
    have h2 : BellsOnly s (tgtPut (tgtPut s t { tgtOf s t with batch := none }) t { tgtOf s t with batch := none, rearm := false }) :=
      h1.trans (tgtPut_bellsOnly h1.open_ (by rw [tgtOf_tgtPut_same]))
    exact .ite (h2.trans (sendBell_bellsOnly h2.open_ t)) h1

theorem heapRefill_bellsOnly {s : State} (h : s.ar.open_ = none) : BellsOnly s (heapRefill s) := by
  have hi : Steady s (heapRefill s) := .of_inner (heapRefill_inner (.refl s))
  have hs := heapRefill_streamView s
  obtain ⟨hf, ho, ht⟩ := heapRefill_egress s
  exact ⟨ho.trans h, by rw [ht], fun e he => .inl (hf ▸ he), noChanges_of_streamView hs, hi⟩

/-- A change of the arbiter that leaves the egress port. -/
theorem BellsOnly.of_ar {s : State} (h : s.ar.open_ = none) {a : ArbUnit} (ho : a.open_ = s.ar.open_) (hf : a.flight = s.ar.flight) :
    BellsOnly s { s with ar := a } :=
  ⟨ho.trans h, rfl, fun _ he => .inl (hf ▸ he), id, ⟨rfl, rfl, rfl, rfl, rfl, rfl, rfl, rfl, rfl, fun _ => rfl⟩⟩

theorem settleStream_bellsOnly {s : State} (h : s.ar.open_ = none) (t : Nat) : BellsOnly s (settleStream s t) := by
  have hl : BellsOnly s (leftHeap s t) := by
    unfold leftHeap
    dsimp only
    have ha := BellsOnly.of_ar h (a := { s.ar with heap := s.ar.heap.filter fun x => decide (x ≠ BitVec.ofNat 16 t),
                                                   heapWait := s.ar.heapWait.filter fun x => decide (x ≠ BitVec.ofNat 16 t) }) rfl rfl
    exact .ite (ha.trans (tgtPut_bellsOnly ha.open_ rfl)) ha
  have hb := hl.trans (batchEnd_bellsOnly hl.open_ t)
  rw [settleStream_eq]
  exact .ite (hb.trans (heapRefill_bellsOnly hb.open_)) (.refl h)

theorem leaveStream_bellsOnly {s : State} (h : s.ar.open_ = none) (k : Nat) : BellsOnly s (leaveStream s k) := by
  have hn : BellsOnly s (noteBusy s) := .of_ar h rfl rfl
  unfold leaveStream
  dsimp only
  split
  · exact .refl h
  next ev _ =>
    split
    · exact .refl h
    next t _ =>
      have hv := hn.trans (vecPut_bellsOnly hn.open_ k { vecOf s k with ev := some { ev with stream := none } })
      exact hv.trans (settleStream_bellsOnly hv.open_ t.toNat)

theorem returnOne_bellsOnly {s : State} (h : s.ar.open_ = none) (k : Nat) : BellsOnly s (returnOne s k) := by
  unfold returnOne
  dsimp only
  split
  · exact .refl h
  next a _ =>
    have h1 : BellsOnly s (tgtPut s a.target.toNat { tgtOf s a.target.toNat with amask := clrBit (tgtOf s a.target.toNat).amask a.prio.toNat }) :=
      tgtPut_bellsOnly h rfl
    split
    · split
      · have h2 := h1.trans (leaveStream_bellsOnly h1.open_ k)
        exact h2.trans (vecPut_bellsOnly h2.open_ ..)
      · exact h1.trans (vecPut_bellsOnly h1.open_ ..)
    · exact h1.trans (vecPut_bellsOnly h1.open_ ..)

/-- The planes' comparison leaves the egress port. -/
theorem roundCompare_ar (s : State) (h : BitVec 24) (check : PlaneCheck) : (roundCompare s h check).1.ar = s.ar := by
  have hc (x : State) (hx : x.ar = s.ar) (src : BitVec 8) (arg : BitVec 24) (inj : Bool) : (corrected x src arg inj).ar = s.ar :=
    (congrArg State.ar (corrected_offJournal x src arg inj :) :).trans hx
  unfold roundCompare
  dsimp only
  split
  · split <;> rfl
  · split
    · rfl
    · split
      · exact hc (injectSpent s) rfl ..
      · split
        · rfl
        · split
          · rfl
          · cases check with
            | retryAgrees => exact hc s rfl ..
            | agree | residueError | disagree => rfl

theorem roundCompare_bellsOnly {s : State} (h : s.ar.open_ = none) (k : BitVec 24) : BellsOnly s (roundCompare s k .agree).1 := by
  have ha := roundCompare_ar s k .agree
  refine ⟨by rw [ha]; exact h, by rw [roundCompare_ts], fun e he => .inl (ha ▸ he), ?_, roundCompare_steady s k .agree⟩
  exact noChanges_of_streamView (roundCompare_streamView (by decide) k)

theorem outcomeGather_bellsOnly {s : State} (h : s.ar.open_ = none) (k : Nat) (ok : Bool) : BellsOnly s (outcomeGather s k ok) := by
  have hv := vecPut_bellsOnly h k { vecOf s k with outcome := some ok }
  refine hv.trans ?_
  unfold outcomeGather enqueue
  exact .ite (.refl hv.open_) ⟨hv.open_, rfl, fun _ => .inl, id, ⟨rfl, rfl, rfl, rfl, rfl, rfl, rfl, rfl, rfl, fun _ => rfl⟩⟩

theorem refuseOne_bellsOnly {s : State} (h : s.ar.open_ = none) (k : Nat) : BellsOnly s (refuseOne s k) := by
  have hc := roundCompare_bellsOnly h (BitVec.ofNat 24 k)
  unfold refuseOne outcomeAt
  dsimp only
  exact .ite (outcomeGather_bellsOnly h k false) (.ite (hc.trans (returnOne_bellsOnly hc.open_ k)) (hc.trans (outcomeGather_bellsOnly hc.open_ k false)))

theorem refuseAll_bellsOnly (l : List Nat) {s : State} (h : s.ar.open_ = none) : BellsOnly s (forEach l s refuseOne) :=
  forEach_preserves (P := BellsOnly s) (fun _ k hb => hb.trans (refuseOne_bellsOnly hb.open_ k)) l (.refl h)

/-- The records of a write in flight have not been given up: no doorbell, not void, for target t. -/
def awaited (t : Nat) (w : EgWrite) : Bool := !w.doorbell && !w.void && decide (w.target.toNat = t)

/-- While writes are given up one by one: those still awaited are among the rest of the list. -/
structure GivenUp (s : State) (t : Nat) (l : List (BitVec 8 × EgWrite)) (u : State) : Prop where
  open_ : u.ar.open_ = none
  lmem : u.ts.lmem = s.ts.lmem
  changes : NoChanges s → NoChanges u
  rest : Steady s u
  left : ∀ e ∈ u.ar.flight, awaited t e.2 = true → ∃ f ∈ l, f.1 = e.1 ∧ awaited t f.2 = true

theorem drainReturn_givenUp {s u : State} {t : Nat} {f : BitVec 8 × EgWrite} {l : List (BitVec 8 × EgWrite)} (h : GivenUp s t (f :: l) u) :
    GivenUp s t l (drainReturn t u f) := by
  unfold drainReturn
  split
  next hf =>
    have hb := refuseAll_bellsOnly f.2.handles h.open_
    refine ⟨hb.open_, hb.lmem.trans h.lmem, fun hn => ?_, h.rest.trans (hb.rest.trans ⟨rfl, rfl, rfl, rfl, rfl, rfl, rfl, rfl, rfl, fun _ => rfl⟩), ?_⟩
    · refine (tgtPut_bellsOnly (s := { forEach f.2.handles u refuseOne with ar := { (forEach f.2.handles u refuseOne).ar with
        flight := (forEach f.2.handles u refuseOne).ar.flight.map fun x => if x.1 = f.1 then (x.1, { x.2 with void := true }) else x } })
        hb.open_ ?_).changes (hb.changes (h.changes hn))
      rfl
    · intro e he ha
      obtain ⟨x, hx, hxe⟩ := List.mem_map.mp (show e ∈ List.map _ (forEach f.2.handles u refuseOne).ar.flight from he)
      split at hxe
      next htag =>
        rw [← hxe] at ha
        simp [awaited] at ha
      next htag =>
        rw [← hxe] at ha ⊢
        have hd : x.2.doorbell = false := by
          simp only [awaited, Bool.and_eq_true, Bool.not_eq_true'] at ha
          exact ha.1.1
        obtain ⟨g, hg, hge, hga⟩ := h.left x ((hb.flight x hx).resolve_right (by rw [hd]; exact Bool.false_ne_true)) ha
        rcases List.mem_cons.mp hg with rfl | hg
        · exact absurd hge.symm htag
        · exact ⟨g, hg, hge, hga⟩
  next hf =>
    refine ⟨h.open_, h.lmem, h.changes, h.rest, fun e he ha => ?_⟩
    obtain ⟨g, hg, hge, hga⟩ := h.left e he ha
    rcases List.mem_cons.mp hg with rfl | hg
    · exact absurd hga hf
    · exact ⟨g, hg, hge, hga⟩

theorem drainReturns_givenUp {s : State} {t : Nat} : ∀ (l : List (BitVec 8 × EgWrite)) {u : State}, GivenUp s t l u →
    GivenUp s t [] (forEach l u (drainReturn t)) := by
  intro l
  induction l with
  | nil => exact id
  | cons f l ih => exact fun h => ih (drainReturn_givenUp h)

/-- After 1 ms of drain the writes for a target are awaited no more (R114 step 4). -/
theorem acceptTimeout_givesUp {s : State} {x : BitVec 16} {n : BitVec 12} (ha : awake s = true) (hp : s.fu.phase = .drain)
    (hop : s.fu.op = some (.reform n)) (hd : s.fu.drainAt + 1000000 ≤ now s) (hen : s.md.engineEn = true) (hn : noWaits s = true)
    (ho : s.ar.open_ = none) (hw : ∃ e ∈ s.ar.flight, e.2.target = x ∧ writeOf s n.toNat x.toNat e.2.handles = true) :
    ∃ t, exec (.reformAcceptTimeout x) s = .next t ∧ (∀ e ∈ t.ar.flight, e.2.target = x → e.2.doorbell = false → e.2.void = true)
      ∧ t.ts.lmem = s.ts.lmem ∧ t.fu = s.fu ∧ t.md = s.md ∧ t.ctl = s.ctl := by
  have hten : drainTenant s = some n.toNat := by simp [drainTenant, hp, hop]
  have hany : (s.ar.flight.any fun e => decide (e.2.target = x) && writeOf s n.toNat x.toNat e.2.handles) = true := by
    obtain ⟨e, he, hx, hwr⟩ := hw
    exact List.any_eq_true.mpr ⟨e, he, by simp [hx, hwr]⟩
  have hexec : exec (.reformAcceptTimeout x) s = .next (egressSettle (forEach s.ar.flight s (drainReturn x.toNat))) := by
    refine congrArg Host.Outcome.next (if_pos ?_)
    rw [ha, hten]
    simpa [hp, oneMs, hd] using hany
  have hg : GivenUp s x.toNat [] (forEach s.ar.flight s (drainReturn x.toNat)) :=
    drainReturns_givenUp _ ⟨ho, rfl, id, .refl s, fun e he hx => ⟨e, he, rfl, hx⟩⟩
  generalize forEach s.ar.flight s (drainReturn x.toNat) = u at hexec hg
  have hb := pumpBells_bellsOnly hg.open_ tagMax
  have hnc := hb.changes (hg.changes (noChanges_of_noWaits hn))
  generalize hpu : pumpBells tagMax u = p at hb hnc
  have hst := hg.rest.trans hb.rest
  have hset : egressSettle u = fenceAll p := by
    unfold egressSettle engineSettle
    rw [hpu, settleAll_of_noChanges hnc, if_neg]
    rw [show (fenceAll p).md.engineEn = true from (congrArg (fun v => v.md.engineEn) (fenceAll_offUnits p) :).trans
      ((congrArg ModeUnit.engineEn hst.md).trans hen)]
    simp
  have hoff := fenceAll_offUnits p
  have hfl : (fenceAll p).ar.flight = p.ar.flight := (fenceAll_egress p).1
  rw [hset] at hexec
  refine ⟨_, hexec, fun e he hx hdb => ?_, (congrArg (fun v => v.ts.lmem) hoff :).trans (hb.lmem.trans hg.lmem), (congrArg State.fu hoff :).trans hst.fu,
    (congrArg State.md hoff :).trans hst.md, (congrArg State.ctl hoff :).trans hst.ctl⟩
  by_contra hv
  have haw : awaited x.toNat e.2 = true := by simp [awaited, hx, hdb, Bool.eq_false_of_not_eq_true hv]
  obtain ⟨f, hf, -⟩ := hg.left e ((hb.flight e (hfl ▸ he)).resolve_right (by rw [hdb]; exact Bool.false_ne_true)) haw
  exact absurd hf List.not_mem_nil

end Sys2Proof.Machine
end

section
/-! PROOF. The commits of a LOAD and of a WARM_FORM, and the end of a WARM_FORM whose tables are bad (R111 steps 8 and 9, R112). -/

namespace Sys2Proof.Machine

/-! ### The commit -/

/-- What FORMED and its record leave as the commit made it. -/
def commitView (s : State) : FurnUnit × CtlRegs × ModeUnit × TimeUnit × Option Digest × TargetStore × List (Nat × Vte) × List (Nat × Vec) :=
  (s.fu, s.ctl, s.md, s.tm, s.ao.digest, s.ts, s.vs.vtes, s.vs.vecs)

theorem Logged.commitView {s t : State} (h : Logged s t) : commitView t = commitView s := by
  simp only [Machine.commitView, h.fu, h.ctl, h.md, h.tm, h.ao, h.ts, h.vs]

theorem commitView_ite {p : Prop} [Decidable p] {s a b : State} (ha : commitView a = commitView s) (hb : commitView b = commitView s) :
    commitView (if p then a else b) = commitView s := by
  split
  · exact ha
  · exact hb

/-- A noise message that names no entry. -/
theorem noise_commitView (s : State) (b : Beat) (stamp reason : Nat) (lane : Fin 4) :
    commitView (creditBack (noise s b stamp reason none) lane) = commitView s :=
  (show commitView (creditBack (noise s b stamp reason none) lane) = commitView (noise s b stamp reason none) from rfl).trans
    ((noise_logged s b stamp reason none).commitView.trans rfl)

theorem fetchAgain_commitView (s : State) (h : Nat) : commitView (fetchAgain s h) = commitView s := by
  have hn := forEach_view (v := commitView) (f := fun s (x : Slot) => creditBack (noise s x.beat x.stamp 5 none) x.lane)
    (fun x y => noise_commitView x y.beat y.stamp 5 y.lane) (fetchingOf s h) (fetchingDrop s h)
  have hd : commitView (fetchingDrop s h) = commitView s := rfl
  unfold fetchAgain
  exact commitView_ite rfl (commitView_ite (Logged.fetchVte s h).commitView (hn.trans hd))

theorem checkedAgain_commitView (s : State) (h : Nat) : commitView (checkedAgain s h) = commitView s := by
  have hq : commitView (enqueue s h) = commitView s := by
    unfold enqueue
    exact commitView_ite rfl rfl
  have hn (v : VatUnit) := forEach_view (v := commitView) (f := fun s (x : Slot × Snap) => creditBack (noise s x.1.beat x.1.stamp 5 none) x.1.lane)
    (fun x y => noise_commitView x y.1.beat y.1.stamp 5 y.1.lane) (checkedOf s h) { s with vat := v }
  unfold checkedAgain
  exact commitView_ite hq ((hn _).trans rfl)

/-- What the copy of the last-gasp records leaves. -/
def copyView (s : State) : State := { offJournal s with ao := { s.ao with lg := Vector.replicate 4 none } }

theorem Logged.copyView {s t : State} (h : Logged s t) : copyView t = copyView s :=
  congrArg (fun x : State => { x with ao := { x.ao with lg := Vector.replicate 4 none } }) h.same

theorem lgCopy_copyView (s : State) : copyView (lgCopy s) = copyView s := by
  refine forEach_view (v := copyView) (fun x i => ?_) _ s
  dsimp only
  split
  next r _ =>
    split
    · rfl
    · exact Eq.trans rfl (Logged.jnlPut x .journal r).copyView
  next => rfl

theorem commitView_of_copyView {s t : State} (h : copyView t = copyView s) : commitView t = commitView s := (congrArg commitView h :)

theorem Logged.jnlLoaded (s : State) (op : Option FurnOp) (bid : DWord) (d : Option Digest) : Logged s (Machine.jnlLoaded s op bid d) := Logged.jnl ..

theorem fillBucket_tenants (l : List Slice) : ∀ s : State, ∃ tn, forEach l s fillBucket = { s with ts := { s.ts with tenants := tn } } := by
  induction l with
  | nil => exact fun s => ⟨s.ts.tenants, rfl⟩
  | cons e l ih =>
    intro s
    obtain ⟨tn, h⟩ := ih (fillBucket s e)
    exact ⟨tn, h.trans rfl⟩

/-- The image's registers are loaded (R111 step 8). -/
theorem formRegs_shows (s : State) (f : Furnish) :
    let t := formRegs s f
    t.fu = s.fu ∧ t.ao = s.ao ∧ t.vat = s.vat ∧ t.vs = s.vs ∧ t.ts.lmem = s.ts.lmem ∧ t.ctl.dcWindow = BitVec.ofNat 16 f.dcWindowMs
      ∧ t.ctl.allow = fld f.allowed 0 4 ∧ t.ctl.wakeEn = fld f.wakeSrc 0 5 ∧ t.ctl.idleAfter = f.idleAfterUs
      ∧ (∀ k : Fin 16, t.ctl.budgets[k] = f.classes.getD k.val 0) ∧ t.md.mode = s.md.mode ∧ t.md.lock = s.md.lock ∧ t.tm.now = s.tm.now := by
  obtain ⟨tn, h⟩ := fillBucket_tenants f.slices s
  unfold formRegs
  rw [h]
  exact ⟨rfl, rfl, rfl, rfl, rfl, rfl, rfl, rfl, rfl, fun k => by simp, rfl, rfl, rfl⟩

/-- The copies in use after a form change nothing besides. -/
theorem formCopies_eq (s : State) : ∃ ap, formCopies s = { s with ap := ap } := by
  unfold formCopies
  split
  · exact ⟨_, rfl⟩
  · split
    · exact ⟨s.ap, rfl⟩
    · exact ⟨_, rfl⟩

/-- The state at the commit: the registers and the structure have been taken (R111 steps 8 and 9). -/
def committedForm (s : State) (f : Furnish) : State := opCommit (formCopies (formRegs s f)) f

theorem committedForm_shows (s : State) (f : Furnish) :
    FormedBy s (committedForm s f) f ∧ (committedForm s f).ts.lmem = s.ts.lmem ∧ (committedForm s f).vs.vtes = s.vs.vtes
      ∧ (committedForm s f).vat = s.vat := by
  obtain ⟨hfu, hao, hvat, hvs, hlm, hdc, hal, hwk, hid, hbu, hmo, hlk, hnow⟩ := formRegs_shows s f
  obtain ⟨ap, hap⟩ := formCopies_eq (formRegs s f)
  unfold committedForm
  rw [hap]
  generalize formRegs s f = r at *
  exact ⟨⟨rfl, rfl, rfl, rfl, Sc.has_raise_self _ (by decide), congrArg FurnUnit.computed hfu, hdc, hal, hwk, hid, hbu, hmo, hlk, hnow⟩,
    hlm, congrArg VecStore.vtes hvs, hvat⟩

/-- The messages that wait for entries of a structure that is gone are taken up again. -/
def messagesAgain (s : State) : State := forEach (checkedAll s) (forEach (fetchingAll s) s fetchAgain) checkedAgain

theorem messagesAgain_commitView (s : State) : commitView (messagesAgain s) = commitView s :=
  (forEach_view checkedAgain_commitView ..).trans (forEach_view fetchAgain_commitView ..)

theorem messagesAgain_of_none {s : State} (hf : fetchingAll s = []) (hc : checkedAll s = []) : messagesAgain s = s := by
  unfold messagesAgain
  rw [hf, hc]
  rfl

theorem formEnd_copyView (s : State) (f : Furnish) : copyView (formEnd s f) = copyView (messagesAgain (committedForm s f)) := by
  have h := (Logged.jnlLoaded (lgCopy (messagesAgain (committedForm s f))) s.fu.op f.buildId s.fu.computed).copyView
  exact h.trans (lgCopy_copyView _)

/-- A LOAD or a WARM_FORM commits (R111 steps 8 and 9). -/
theorem formEnd_shows (s : State) (f : Furnish) :
    FormedBy s (formEnd s f) f ∧ (formEnd s f).ts.lmem = s.ts.lmem ∧ (formEnd s f).vs.vtes = s.vs.vtes
      ∧ (fetchingAll s = [] → checkedAll s = [] → (formEnd s f).vat = s.vat) := by
  obtain ⟨hform, hlm, hvt, hvat⟩ := committedForm_shows s f
  have h2 := formEnd_copyView s f
  have h3 := (commitView_of_copyView h2).trans (messagesAgain_commitView (committedForm s f))
  generalize committedForm s f = x at *
  generalize formEnd s f = t at *
  have hvat2 : t.vat = (messagesAgain x).vat := (congrArg State.vat h2 :)
  simp only [commitView, Prod.mk.injEq] at h3
  obtain ⟨hfu3, hctl3, hmd3, htm3, hdg3, hts3, hvt3, -⟩ := h3
  refine ⟨?_, by rw [hts3, hlm], hvt3.trans hvt, fun hf hc => ?_⟩
  · unfold FormedBy at hform ⊢
    rw [hfu3, hctl3, hmd3, htm3, hdg3]
    exact hform
  · rw [hvat2, messagesAgain_of_none (by rw [fetchingAll, hvat]; exact hf) (by rw [checkedAll, hvat]; exact hc), hvat]

/-- What the commit leaves depends on the retained digest's source, the mode, the lock bits and time alone. -/
theorem formedBy_congr {s x t : State} {f : Furnish} (h : FormedBy x t f) (hf : x.fu.computed = s.fu.computed) (hm : x.md = s.md)
    (ht : x.tm = s.tm) : FormedBy s t f := by
  unfold FormedBy at h ⊢
  rw [hf, hm, ht] at h
  exact h

/-! ### The requests of a form -/

theorem apHas_apPut_ne (s : State) {r : AperReq} {p : Purpose} (h : r.purpose ≠ p) : apHas (apPut s r) p = apHas s p := by
  unfold apPut
  split <;> simp [apHas, h]

/-- No table traffic of a form is left. -/
theorem apHas_apDrop_isForm (s : State) : apHas (apDrop s isForm) .form = false := by
  unfold apDrop
  dsimp only
  have hl : ∀ r ∈ s.ap.waiting.filter (fun r => !isForm r.purpose), r.purpose ≠ .form := fun r hr => by
    simpa [isForm] using (List.mem_filter.mp hr).2
  have hx : apHas { s with ap := { s.ap with reqs := s.ap.reqs.filter fun e => !isForm e.2.purpose, waiting := [] } } .form = false := by
    simp [apHas, isForm]
  generalize s.ap.waiting.filter (fun r => !isForm r.purpose) = l at hl
  generalize ({ s with ap := { s.ap with reqs := s.ap.reqs.filter fun e => !isForm e.2.purpose, waiting := [] } } : State) = x at hx
  induction l generalizing x with
  | nil => exact hx
  | cons r l ih =>
    have hr := hl r (List.mem_cons_self ..)
    exact ih (fun r hr => hl r (List.mem_cons_of_mem _ hr)) (apPut x r) (by rw [apHas_apPut_ne x hr, hx])

/-- What the port's requests leave. -/
theorem apDrop_rest (s : State) (p : Purpose → Bool) :
    (apDrop s p).fu = s.fu ∧ (apDrop s p).flt = s.flt ∧ (apDrop s p).md = s.md ∧ (apDrop s p).tm = s.tm ∧ (apDrop s p).ctl = s.ctl
      ∧ (apDrop s p).ts = s.ts ∧ (apDrop s p).vat = s.vat := by
  have h := apDrop_logged s p
  exact ⟨h.fu, h.flt, h.md, h.tm, h.ctl, h.ts, h.vat⟩

/-- FORM_COMMIT without an injected error goes on with what it has read. -/
theorem execFormCommit_runs {s : State} (ha : awake s = true) (hp : s.fu.phase = .form) (hs : s.fu.stored = none) (hf : s.flt.fatal = none)
    (hi : s.fu.op = some .warm → s.flt.inject = none) (stored : List (Nat × Words8)) :
    exec (.formCommit stored) s = .next (formDone (apDrop s isForm) stored) := by
  have hcommit : formCommit s stored = formDone (apDrop s isForm) stored := by
    refine if_neg fun h => ?_
    simp only [Bool.and_eq_true, decide_eq_true_eq, readInjected] at h
    obtain ⟨hop, hinj, -⟩ := h
    exact absurd ((hi hop).symm.trans hinj) (Option.some_ne_none _).symm
  refine congrArg Host.Outcome.next ((if_pos ?_).trans hcommit)
  simp [ha, hp, hs, hf]

/-- The commit of a LOAD (R111 step 9). -/
theorem loadCommit_shows {s : State} {f : Furnish} (ha : awake s = true) (hp : s.fu.phase = .form) (hop : s.fu.op = some .load)
    (hn : s.fu.next = some f) (hs : s.fu.stored = none) (hf : s.flt.fatal = none) (stored : List (Nat × Words8)) :
    ∃ t, exec (.formCommit stored) s = .next t ∧ FormedBy s t f ∧ t.ts.lmem = s.ts.lmem
      ∧ (fetchingAll s = [] → checkedAll s = [] → t.vat = s.vat) := by
  obtain ⟨hfu, -, hmd, htm, -, hts, hvat⟩ := apDrop_rest s isForm
  have hx := execFormCommit_runs ha hp hs hf (by rw [hop]; exact nofun) stored
  have hdone : formDone (apDrop s isForm) stored = formEnd (apDrop s isForm) f := by
    unfold formDone
    rw [hfu, hop, hn]
  rw [hdone] at hx
  obtain ⟨hform, hlm, -, hv⟩ := formEnd_shows (apDrop s isForm) f
  refine ⟨_, hx, formedBy_congr hform (congrArg FurnUnit.computed hfu) hmd htm, hlm.trans (by rw [hts]), fun hfe hch => ?_⟩
  rw [hv (by rw [fetchingAll, hvat]; exact hfe) (by rw [checkedAll, hvat]; exact hch), hvat]

/-! ### What a warm form loads -/

/-- What the tables of a warm form have no part in, with the entries of the wired vectors. -/
def wiredView (s : State) : FurnUnit × ModeUnit × TimeUnit × (Fin 4096 → Option Vte) := (s.fu, s.md, s.tm, fun k => vteOn s k.val)

theorem Logged.wiredView {s t : State} (h : Logged s t) : wiredView t = wiredView s := by
  have hv : (fun k : Fin 4096 => Machine.vteOn t k.val) = fun k => Machine.vteOn s k.val := funext fun k => h.vteOn k.val
  simp only [Machine.wiredView, h.fu, h.md, h.tm, hv]

theorem vtePut_wiredView (s : State) {h : Nat} (hh : 4096 ≤ h) (v : Vte) : wiredView (vtePut s h v) = wiredView s := by
  have hv : (fun k : Fin 4096 => vteOn (vtePut s h v) k.val) = fun k => vteOn s k.val :=
    funext fun k => vteOn_vtePut_ne s v (Nat.ne_of_lt (Nat.lt_of_lt_of_le k.isLt hh))
  exact congrArg (fun x => (s.fu, s.md, s.tm, x)) hv

theorem warmAway_wiredView (s : State) (e : Nat × Words8) : wiredView (warmAway s e) = wiredView s := by
  unfold warmAway
  split <;> rfl

/-- The keys of a table that is built up satisfy what the keys put into it do. -/
theorem keys_put {α : Type} {P : Nat → Prop} {k : Nat} (hk : P k) (a : α) : ∀ {l : List (Nat × α)}, (∀ e ∈ l, P e.1) → ∀ e ∈ put l k a, P e.1 := by
  intro l
  induction l with
  | nil =>
    intro _ e he
    rw [List.mem_singleton.mp he]
    exact hk
  | cons x l ih =>
    intro hl e he
    have hr : ∀ e ∈ l, P e.1 := fun e he => hl e (List.mem_cons_of_mem _ he)
    unfold put at he
    split at he
    · rcases List.mem_cons.mp he with rfl | he
      · exact hk
      · exact hr e he
    · split at he
      · rcases List.mem_cons.mp he with rfl | he
        · exact hk
        · exact hl e he
      · rcases List.mem_cons.mp he with rfl | he
        · exact hl _ (List.mem_cons_self ..)
        · exact ih hr e he

theorem forEach_view_of_mem {α β : Type} {v : State → β} {f : State → α → State} : ∀ {l : List α}, (∀ a ∈ l, ∀ t, v (f t a) = v t) →
    ∀ s : State, v (forEach l s f) = v s := by
  intro l
  induction l with
  | nil => exact fun _ s => rfl
  | cons a l ih => exact fun h s => (ih (fun b hb => h b (List.mem_cons_of_mem _ hb)) (f s a)).trans (h a (List.mem_cons_self ..) s)

theorem warmPins_wiredView (s : State) (l : List (Nat × Words8)) : wiredView (warmPins s l) = wiredView s := by
  unfold warmPins
  dsimp only
  refine forEach_view_of_mem (fun e he t => ?_) s
  have hkey : ∀ e ∈ (l.filter fun e => decide (4096 ≤ e.1) && vteCrcOk e.2 && (vteOf e.2).cfg.pin).foldl (fun m e => put m e.1 (warmEntry e.2)) [],
      4096 ≤ e.1 := by
    have hl : ∀ e ∈ l.filter (fun e => decide (4096 ≤ e.1) && vteCrcOk e.2 && (vteOf e.2).cfg.pin), 4096 ≤ e.1 := fun e he => by
      have := (List.mem_filter.mp he).2
      simp only [Bool.and_eq_true, decide_eq_true_eq] at this
      exact this.1.1
    have h0 : ∀ e ∈ ([] : List (Nat × Vte)), 4096 ≤ e.1 := fun _ he => absurd he List.not_mem_nil
    generalize l.filter (fun e => decide (4096 ≤ e.1) && vteCrcOk e.2 && (vteOf e.2).cfg.pin) = xs at hl
    generalize ([] : List (Nat × Vte)) = m at h0
    induction xs generalizing m with
    | nil => exact h0
    | cons x xs ih =>
      exact ih (fun e he => hl e (List.mem_cons_of_mem _ he)) (put m x.1 (warmEntry x.2)) (keys_put (P := (4096 ≤ ·)) (hl x (List.mem_cons_self ..)) _ h0)
  exact (vtePut_wiredView _ (hkey e (List.mem_of_mem_take he)) e.2).trans rfl

theorem warmTd_wiredView (f : Furnish) (s : State) (t : Nat) (w : Words8) : wiredView (warmTd f s t w) = wiredView s := by
  unfold warmTd
  extract_lets o n g
  split
  · exact (Logged.jnlRated ..).wiredView.trans rfl
  · rfl

theorem warmTable_wiredView (f : Furnish) (s : State) (e : Nat × Words8) : wiredView (warmTable f s e) = wiredView s := by
  unfold warmTable
  split
  · exact warmTd_wiredView ..
  · split
    · rfl
    · split <;> rfl

/-- Wired entries stand as read once all of them have been taken. -/
theorem warmWired_stands {l : List (Nat × Words8)} (hd : l.Pairwise fun x y => x.1 ≠ y.1) (hc : ∀ x ∈ l, vteCrcOk x.2 = true) :
    ∀ s : State, ∀ x ∈ l, x.1 < 4096 → vteOn (forEach l s warmWired) x.1 = some (warmEntry x.2) := by
  have hkeep : ∀ (l : List (Nat × Words8)) (k : Nat), (∀ y ∈ l, k ≠ y.1) → ∀ s : State, vteOn (forEach l s warmWired) k = vteOn s k := fun l k hk s =>
    forEach_view_of_mem (v := fun s => vteOn s k) (fun y hy t => by
      unfold warmWired
      split
      · exact vteOn_vtePut_ne t _ (hk y hy)
      · rfl) s
  induction l with
  | nil => exact fun _ x hx => absurd hx List.not_mem_nil
  | cons a l ih =>
    intro s x hx hw
    obtain ⟨ha, hl⟩ := List.pairwise_cons.mp hd
    rcases List.mem_cons.mp hx with rfl | hx
    · refine (hkeep l x.1 ha _).trans ?_
      unfold warmWired
      rw [if_pos (by simp [hw, hc x (List.mem_cons_self ..)])]
      exact vteOn_vtePut_same ..
    · exact ih hl (fun y hy => hc y (List.mem_cons_of_mem _ hy)) (warmWired s a) x hx hw

theorem warmWired_rest (s : State) (e : Nat × Words8) : (warmWired s e).fu = s.fu ∧ (warmWired s e).md = s.md ∧ (warmWired s e).tm = s.tm := by
  unfold warmWired
  split <;> exact ⟨rfl, rfl, rfl⟩

/-- A warm form loads its tables and commits (R112). -/
theorem warmLoad_shows (s : State) (f : Furnish) (stored : List (Nat × Words8)) :
    FormedBy s (warmLoad s f stored) f
      ∧ ((storedVtes f stored).Pairwise (fun x y => x.1 ≠ y.1) → (∀ x ∈ storedVtes f stored, vteCrcOk x.2 = true) →
        ∀ x ∈ storedVtes f stored, x.1 < 4096 → vteOn (warmLoad s f stored) x.1 = some (warmEntry x.2)) := by
  let s0 : State := { s with fu := { s.fu with formed := some f } }
  let s1 := forEach (storedVtes f stored) s0 warmWired
  let s2 := forEach stored (warmPins (forEach (storedVtes f stored) s1 warmAway) (storedVtes f stored)) (warmTable f)
  have h2 : wiredView s2 = wiredView s1 :=
    (forEach_view (warmTable_wiredView f) ..).trans ((warmPins_wiredView ..).trans (forEach_view warmAway_wiredView ..))
  have h1 : (s1.fu, s1.md, s1.tm) = (s0.fu, s0.md, s0.tm) := by
    refine forEach_view (v := fun s => (s.fu, s.md, s.tm)) (fun t e => ?_) _ s0
    obtain ⟨hf, hm, ht⟩ := warmWired_rest t e
    rw [hf, hm, ht]
  obtain ⟨hform, -, hvtes, -⟩ := formEnd_shows s2 f
  have hs : warmLoad s f stored = formEnd s2 f := rfl
  rw [hs]
  generalize s2 = x2 at *
  simp only [wiredView, Prod.mk.injEq] at h2 h1
  obtain ⟨hfu2, hmd2, htm2, hv2⟩ := h2
  obtain ⟨hfu1, hmd1, htm1⟩ := h1
  refine ⟨formedBy_congr hform (by rw [hfu2, hfu1]) (by rw [hmd2, hmd1]) (by rw [htm2, htm1]), fun hd hc x hx hw => ?_⟩
  have hk : vteOn (formEnd x2 f) x.1 = vteOn x2 x.1 := by simp only [vteOn, hvtes]
  exact hk.trans ((congrFun hv2 ⟨x.1, hw⟩ :).trans (warmWired_stands hd hc s0 x hx hw))

end Sys2Proof.Machine
end

section
/-! PROOF. How FORM_COMMIT and the last rewrite end a WARM_FORM (R112). -/

namespace Sys2Proof.Machine

/-- A stored entry whose CRC is right and whose STATE is 0 stays as it is in the aperture. -/
theorem warmVte_of_clean {e : Nat × Words8} (h : warmRewrites e.2 = false) (p : Nat → Purpose) (s : State) : warmVte p s e = s := by
  simp only [warmRewrites, Bool.or_eq_false_iff, Bool.not_eq_false', decide_eq_false_iff_not, not_not] at h
  obtain ⟨hc, hz⟩ := h
  unfold warmVte
  dsimp only
  rw [if_pos hc, if_pos hz]

theorem deferred_steady (s : State) (src : BitVec 8) (arg : BitVec 24) (w5 w6 : Word) (inj : Bool) : Steady s (deferred s src arg w5 w6 inj) :=
  deferredAt_steady ..

theorem apRequest_steady (s : State) (p : Purpose) (write : Bool) (offset : Nat) (data : List Word) : Steady s (apRequest s p write offset data) :=
  .of_inner (apRequest_inner p write offset data (.refl s))

theorem warmVte_steady (p : Nat → Purpose) (s : State) (e : Nat × Words8) : Steady s (warmVte p s e) := by
  unfold warmVte
  exact .ite (.ite (.refl s) (apRequest_steady ..)) ((apRequest_steady ..).trans (deferred_steady ..))

/-- A deferred fault leaves the requests that are out. -/
theorem apHas_deferred {s : State} {p : Purpose} (h : apHas s p = true) (src : BitVec 8) (arg : BitVec 24) (w5 w6 : Word) (inj : Bool) :
    apHas (deferred s src arg w5 w6 inj) p = true := by
  have hcount : apHas (deferredCount s src arg inj) p = true := by
    unfold deferredCount fatalFault
    cases inj <;> (split <;> exact h)
  have hfault : ∀ t, apHas t p = true → ∀ n code, apHas (jnlFault t n code src arg w5 w6 inj) p = true := fun t ht n code => by
    unfold jnlFault
    dsimp only
    split
    · exact (Logged.jnlRatedW1 ..).apHas ht
    · exact (Logged.jnlPut ..).apHas ht
  unfold deferred deferredAt
  split
  · unfold fatalFault
    cases inj <;> exact h
  · exact hfault _ hcount ..

theorem warmVte_keeps_form {s : State} (h : apHas s .form = true) (e : Nat × Words8) : apHas (warmVte (fun _ => .form) s e) .form = true := by
  have hr (d : List Word) : apHas (apRequest s .form true (vteOffset s e.1) d) .form = true := (Logged.apRequest ..).apHas h
  unfold warmVte
  dsimp only
  split
  · split
    · exact h
    · exact hr _
  · exact apHas_deferred (hr _) ..

theorem warmVte_rewrites {e : Nat × Words8} (h : warmRewrites e.2 = true) (s : State) : apHas (warmVte (fun _ => .form) s e) .form = true := by
  unfold warmVte
  dsimp only
  split
  next hc =>
    have hz : fld (wd8 e.2 4) 16 3 ≠ (0 : BitVec 3) := by simpa [warmRewrites, hc] using h
    rw [if_neg hz]
    exact apHas_apRequest ..
  next => exact apHas_deferred (apHas_apRequest ..) ..

theorem warmVtes_rewrite {l : List (Nat × Words8)} : ∀ {s : State}, (∃ x ∈ l, warmRewrites x.2 = true) →
    apHas (forEach l s (warmVte fun _ => .form)) .form = true := by
  induction l with
  | nil => exact fun ⟨_, hx, _⟩ => absurd hx List.not_mem_nil
  | cons a l ih =>
    intro s ⟨x, hx, hw⟩
    rcases List.mem_cons.mp hx with rfl | hx
    · exact forEach_preserves (P := fun t => apHas t .form = true) (fun _ e h => warmVte_keeps_form h e) l (warmVte_rewrites hw s)
    · exact ih ⟨x, hx, hw⟩

/-- A warm form whose rewrites are all done loads its tables. -/
theorem warmGo_loads {s : State} {f : Furnish} {stored : List (Nat × Words8)} (hp : s.fu.phase = .form) (hs : s.fu.stored = some stored)
    (hn : s.fu.next = some f) (hf : s.flt.fatal = none) (hh : apHas s .form = false) : warmGo s = warmLoad s f stored := by
  unfold warmGo
  rw [hs, hn]
  exact if_pos (by simp [hp, hf, hh])

theorem warmGo_waits {s : State} (hh : apHas s .form = true) : warmGo s = s := by
  unfold warmGo
  split
  · exact if_neg (by simp [hh])
  · rfl

/-- FORM_COMMIT of a WARM_FORM. -/
theorem execFormCommit_warm {s : State} {f : Furnish} (ha : awake s = true) (hp : s.fu.phase = .form) (hop : s.fu.op = some .warm)
    (hn : s.fu.next = some f) (hs : s.fu.stored = none) (hf : s.flt.fatal = none) (hi : s.flt.inject = none) (stored : List (Nat × Words8)) :
    exec (.formCommit stored) s = .next (warmEnd (apDrop s isForm) f stored) := by
  have hx := execFormCommit_runs ha hp hs hf (fun _ => hi) stored
  have hd := (apDrop_rest s isForm).1
  rwa [show formDone (apDrop s isForm) stored = warmEnd (apDrop s isForm) f stored by unfold formDone; rw [hd, hop, hn]] at hx

/-- With few bad entries the rewrites are made, and the warm form goes on once they are done. -/
theorem warmEnd_of_few (d : State) (f : Furnish) {stored : List (Nat × Words8)} (hb : ((storedVtes f stored).filter fun x => !vteCrcOk x.2).length ≤ 1024) :
    warmEnd d f stored =
      let x := forEach (storedVtes f stored) { d with fu := { d.fu with formed := some f } } (warmVte fun _ => .form)
      warmGo { x with fu := { x.fu with formed := none, stored := some stored } } := if_neg (Nat.not_lt.mpr hb)

/-- A WARM_FORM whose tables are as it needs them commits at once. -/
theorem warmCommit_clean {s : State} {f : Furnish} {stored : List (Nat × Words8)} (hp : s.fu.phase = .form) (hn : s.fu.next = some f)
    (hf : s.flt.fatal = none) (hc : ∀ x ∈ storedVtes f stored, warmRewrites x.2 = false) :
    FormedBy s (warmEnd (apDrop s isForm) f stored) f
      ∧ ((storedVtes f stored).Pairwise (fun x y => x.1 ≠ y.1) → ∀ x ∈ storedVtes f stored, x.1 < 4096 →
        vteOn (warmEnd (apDrop s isForm) f stored) x.1 = some (warmEntry x.2)) := by
  obtain ⟨hfu, hflt, hmd, htm, -, -, -⟩ := apDrop_rest s isForm
  have hform := apHas_apDrop_isForm s
  generalize apDrop s isForm = d at *
  have hcrc : ∀ x ∈ storedVtes f stored, vteCrcOk x.2 = true := fun x hx => by
    have := hc x hx
    simp only [warmRewrites, Bool.or_eq_false_iff, Bool.not_eq_false'] at this
    exact this.1
  have hbad : (storedVtes f stored).filter (fun e => !vteCrcOk e.2) = [] := List.filter_eq_nil_iff.mpr fun x hx => by simp [hcrc x hx]
  let s0 : State := { d with fu := { d.fu with formed := some f } }
  let s1 : State := { s0 with fu := { s0.fu with formed := none, stored := some stored } }
  have hend : warmEnd d f stored = warmLoad s1 f stored := by
    rw [warmEnd_of_few d f (by rw [hbad]; exact Nat.zero_le _), forEach_id _ fun x hx => warmVte_of_clean (hc x hx) _ _]
    exact warmGo_loads (s := s1) (by rw [← hp, ← hfu]) rfl (by rw [← hn, ← hfu]) (by rw [← hf, ← hflt]) hform
  rw [hend]
  obtain ⟨h1, h2⟩ := warmLoad_shows s1 f stored
  exact ⟨formedBy_congr h1 (congrArg FurnUnit.computed hfu :) hmd htm, fun hd => h2 hd hcrc⟩

/-- A WARM_FORM that rewrites entries waits for its writes. -/
theorem warmCommit_waits {s : State} {f : Furnish} {stored : List (Nat × Words8)} (hp : s.fu.phase = .form) (hop : s.fu.op = some .warm)
    (hn : s.fu.next = some f) (hr : ∃ x ∈ storedVtes f stored, warmRewrites x.2 = true)
    (hb : ((storedVtes f stored).filter fun x => !vteCrcOk x.2).length ≤ 1024) :
    let t := warmEnd (apDrop s isForm) f stored
    t.fu.phase = .form ∧ t.fu.op = some .warm ∧ t.fu.stored = some stored ∧ t.fu.next = some f ∧ apHas t .form = true ∧ t.md = s.md ∧ t.ctl = s.ctl := by
  obtain ⟨hfu, -, hmd, -, hctl, -, -⟩ := apDrop_rest s isForm
  generalize apDrop s isForm = d at *
  let s0 : State := { d with fu := { d.fu with formed := some f } }
  have hs : Steady s0 (forEach (storedVtes f stored) s0 (warmVte fun _ => .form)) := Steady.fold (warmVte_steady _) _ (.refl s0)
  have hh := warmVtes_rewrite (s := s0) hr
  have hend : warmEnd d f stored = { forEach (storedVtes f stored) s0 (warmVte fun _ => .form) with
      fu := { (forEach (storedVtes f stored) s0 (warmVte fun _ => .form)).fu with formed := none, stored := some stored } } := by
    rw [warmEnd_of_few d f hb]
    exact warmGo_waits hh
  rw [hend]
  generalize forEach (storedVtes f stored) s0 (warmVte fun _ => .form) = x at *
  have hx : x.fu = { s.fu with formed := some f } := by rw [hs.fu, ← hfu]
  exact ⟨(congrArg FurnUnit.phase hx).trans hp, (congrArg FurnUnit.op hx).trans hop, rfl, (congrArg FurnUnit.next hx).trans hn, hh, hs.md.trans hmd,
    hs.ctl.trans hctl⟩

/-- A WARM_FORM that finds too many bad entries fails. -/
theorem warmCommit_fails {s : State} {f : Furnish} {stored : List (Nat × Words8)}
    (hb : 1024 < ((storedVtes f stored).filter fun x => !vteCrcOk x.2).length) :
    let t := warmEnd (apDrop s isForm) f stored
    t.fu.phase = .empty ∧ t.fu.op = none ∧ t.fu.formed = none ∧ t.fu.err = 0x23 ∧ t.fu.status.has fuError = true ∧ t.md = s.md ∧ t.ctl = s.ctl := by
  obtain ⟨-, -, hmd, -, hctl, -, -⟩ := apDrop_rest s isForm
  generalize apDrop s isForm = d at *
  let s0 : State := { d with fu := { d.fu with formed := some f } }
  let bad := ((storedVtes f stored).filter fun e => !vteCrcOk e.2).take warmMax
  have hs : Steady s0 (forEach bad s0 (warmVte .vteWrite)) := Steady.fold (warmVte_steady _) _ (.refl s0)
  have hend : warmEnd d f stored = opFail { forEach bad s0 (warmVte .vteWrite) with
      fu := { (forEach bad s0 (warmVte .vteWrite)).fu with formed := none } } { code := 0x23, sect := 0, word := 0 } := if_pos hb
  rw [hend]
  generalize forEach bad s0 (warmVte .vteWrite) = x at *
  have hfail := fuFail_shows { x with fu := { x.fu with formed := none } } x.fu.op { code := 0x23, sect := 0, word := 0 } (buildId x.fu.image)
  exact ⟨hfail.phase, hfail.op, hfail.formed, hfail.err, hfail.error, hfail.md.trans (hs.md.trans hmd), hfail.ctl.trans (hs.ctl.trans hctl)⟩

/-- A completed write of a form goes on with it (R59, R112). -/
theorem writeAck_of_form {s : State} {f : Furnish} {stored : List (Nat × Words8)} {tag : BitVec 8} {c : Copy} {r : AperReq}
    (ha : awake s = true) (hp : s.fu.phase = .form) (hs : s.fu.stored = some stored) (hn : s.fu.next = some f) (hf : s.flt.fatal = none)
    (he : s.pw.entry = none) (ht : tagOf s.ap.reqs tag = some r) (hw : r.write = true) (hr : isResync r.purpose = false)
    (hc : awaits r c = true) (hd : reqDone (copyDone r c) = true) :
    (apHas (apDone s tag) .form = false → ∃ t, exec (.apertureWriteAck tag c) s = .next t ∧ FormedBy s t f)
      ∧ (apHas (apDone s tag) .form = true → exec (.apertureWriteAck tag c) s = .next (apDone s tag)) := by
  have hrest : (apDone s tag).fu = s.fu ∧ (apDone s tag).flt = s.flt ∧ (apDone s tag).pw = s.pw ∧ (apDone s tag).md = s.md ∧ (apDone s tag).tm = s.tm := by
    unfold apDone
    dsimp only
    split <;> exact ⟨rfl, rfl, rfl, rfl, rfl⟩
  obtain ⟨hfu, hflt, hpw, hmd, htm⟩ := hrest
  have hgo : entryGo (apDone s tag) = apDone s tag := by
    unfold entryGo
    rw [hpw, he]
  have hx : exec (.apertureWriteAck tag c) s = .next (warmGo (apDone s tag)) := by
    refine congrArg Host.Outcome.next ?_
    unfold onWrite
    rw [if_pos (live_of_awake ha), ht]
    dsimp only
    rw [if_pos (by simp [hw, hc])]
    unfold writeAck writeComplete
    simp [hr, hd, hgo]
  rw [hx]
  refine ⟨fun hh => ⟨_, congrArg Host.Outcome.next (warmGo_loads (by rw [hfu]; exact hp) (by rw [hfu]; exact hs) (by rw [hfu]; exact hn)
    (by rw [hflt]; exact hf) hh), ?_⟩, fun hh => congrArg Host.Outcome.next (warmGo_waits hh)⟩
  exact formedBy_congr (warmLoad_shows (apDone s tag) f stored).1 (congrArg FurnUnit.computed hfu) hmd htm

end Sys2Proof.Machine
end

section
/-! PROOF. What the core's work leaves of vectors that hold nothing and are off chip, and of the tenants' wake credits (R115, R178). -/

namespace Sys2Proof.Machine

/-- A vector holds no event, neither pending nor active. -/
def Bare (v : Vec) : Prop := v.ev = none ∧ v.evNew = none ∧ v.active = none

/-- Vectors without events and entries off chip stay so, and no wake credit is spent. -/
structure Kept (s t : State) : Prop where
  bare : ∀ k, Bare (vecOf s k) → Bare (vecOf t k)
  away : ∀ k, vteOn s k = none → vteOn t k = none
  credits : ∀ n, (tnOf t n).credits = (tnOf s n).credits

theorem Kept.refl (s : State) : Kept s s := ⟨fun _ => id, fun _ => id, fun _ => rfl⟩

theorem Kept.trans {s t u : State} (h : Kept s t) (k : Kept t u) : Kept s u :=
  ⟨fun i => k.bare i ∘ h.bare i, fun i => k.away i ∘ h.away i, fun n => (k.credits n).trans (h.credits n)⟩

theorem Kept.after {s t u : State} (k : Kept t u) (h : Kept s t) : Kept s u := h.trans k

theorem Kept.ite {s t u : State} {c : Prop} [Decidable c] (h : Kept s t) (k : Kept s u) : Kept s (if c then t else u) := by
  split
  · exact h
  · exact k

theorem Kept.fold {α : Type} {s : State} {f : State → α → State} (hf : ∀ t a, Kept t (f t a)) (l : List α) {t : State} (h : Kept s t) :
    Kept s (forEach l t f) := forEach_preserves (P := Kept s) (fun t a k => k.trans (hf t a)) l h

/-- A change of anything else keeps them. -/
theorem Kept.of_eq {s t : State} (hv : t.vs.vecs = s.vs.vecs) (ho : t.vs.vtes = s.vs.vtes) (hn : t.ts.tenants = s.ts.tenants) : Kept s t :=
  ⟨fun k h => by rwa [vecOf, hv], fun k h => by rwa [vteOn, ho], fun n => by rw [tnOf, tnOf, hn]⟩

theorem Kept.of_stores {s t : State} (hv : t.vs = s.vs) (hn : t.ts = s.ts) : Kept s t := .of_eq (by rw [hv]) (by rw [hv]) (by rw [hn])

theorem Logged.kept {s t : State} (h : Logged s t) : Kept s t := .of_stores h.vs h.ts

theorem Kept.of_bellView {s t : State} (h : bellView t = bellView s) : Kept s t :=
  .of_eq (congrArg (fun v => v.1.vs.vecs) h :) (congrArg (fun v => v.1.vs.vtes) h :) (congrArg (fun v => v.1.ts.tenants) h :)

theorem bare_of_vecRest {v w : Vec} (h : vecRest v = vecRest w) (hw : Bare w) : Bare v := by
  obtain ⟨h1, h2, h3⟩ := hw
  have e1 : v.ev.map evRest = w.ev.map evRest := congrArg Vec.ev h
  have e2 : v.evNew.map evRest = w.evNew.map evRest := congrArg Vec.evNew h
  have e3 : (v.active.map fun a => { a with accepted := false }) = w.active.map fun a => { a with accepted := false } := congrArg Vec.active h
  rw [h1] at e1
  rw [h2] at e2
  rw [h3] at e3
  exact ⟨Option.map_eq_none_iff.mp e1, Option.map_eq_none_iff.mp e2, Option.map_eq_none_iff.mp e3⟩

/-- What streams and writes do keeps them. -/
theorem Kept.of_views {s t : State} (h : streamView t = streamView s) (hv : vecsRest t = vecsRest s) : Kept s t where
  bare k := bare_of_vecRest (congrFun hv k)
  away k hk := by
    have hs : settingsOn t k = settingsOn s k := congrFun (congrArg (fun v => v.2.1) h) k
    have hn : settingsOn s k = none := by rw [settingsOn, hk]; rfl
    exact Option.map_eq_none_iff.mp (hs.trans hn)
  credits n := by
    have ht : t.ts.tenants = s.ts.tenants := (congrArg (fun v => v.1.ts.tenants) h :)
    rw [tnOf, tnOf, ht]

/-! ### Tables -/

/-- A vector that changes without an event that comes. -/
theorem vecPut_kept {s : State} {h : Nat} {v : Vec} (hv : Bare (vecOf s h) → Bare v) : Kept s (vecPut s h v) where
  bare k hk := by
    by_cases e : k = h
    · subst e
      rw [vecOf_vecPut_same]
      exact hv hk
    · rwa [vecOf_vecPut_ne s v e]
  away _ := id
  credits _ := rfl

theorem vtePut_kept {s : State} {h : Nat} (hv : vteOn s h ≠ none) (v : Vte) : Kept s (vtePut s h v) where
  bare _ := id
  away k hk := by
    by_cases e : k = h
    · exact absurd (e ▸ hk) hv
    · rwa [vteOn_vtePut_ne s v e]
  credits _ := rfl

theorem addDropped_kept (s : State) (h n : Nat) : Kept s (addDropped s h n) :=
  .of_views (addDropped_streamView ..) (vecsRest_of_vecs (addDropped_vecs ..))

theorem tnPut_kept {s : State} {t : Nat} {x : TenantSt} (hx : x.credits = (tnOf s t).credits) : Kept s (tnPut s t x) where
  bare _ := id
  away _ := id
  credits n := by
    by_cases e : n = t
    · rw [e, tnOf_tnPut_same, hx]
    · rw [tnOf_tnPut_ne s x e]

theorem twRaise_kept (s : State) (t f : Nat) : Kept s (twRaise s t f) := tnPut_kept rfl

theorem enqueue_kept (s : State) (h : Nat) : Kept s (enqueue s h) := by
  unfold enqueue
  exact .ite (.refl s) (.of_eq rfl rfl rfl)

theorem calLeave_kept (s : State) (id : Nat) : Kept s (calLeave s id) := by
  obtain ⟨c, w, h⟩ := calLeave_eq s id
  rw [h]
  exact .of_eq rfl rfl rfl

theorem couchCalendar_kept (s : State) (g : Nat) : Kept s (couchCalendar s g) := by
  obtain ⟨c, w, h⟩ := couchCalendar_eq s g
  rw [h]
  exact .of_eq rfl rfl rfl

/-! ### Faults and reports -/

theorem fatalFault_kept (s : State) (src : BitVec 8) (detail : BitVec 24) (inj : Bool) : Kept s (fatalFault s src detail inj) := by
  unfold fatalFault
  exact .ite (.of_stores rfl rfl) (.of_stores rfl rfl)

theorem faultCount_kept (s : State) (cls : BitVec 2) (src : BitVec 8) (arg m : BitVec 24) (inj : Bool) : Kept s (faultCount s cls src arg m inj) :=
  .of_stores rfl rfl

theorem jnlFault_kept (s : State) (t : Nat) (code : Byte) (src : BitVec 8) (arg : BitVec 24) (w5 w6 : Word) (inj : Bool) :
    Kept s (jnlFault s t code src arg w5 w6 inj) := by
  have h := jnlFault_offJournal s t code src arg w5 w6 inj
  exact .of_stores (congrArg State.vs h :) (congrArg State.ts h :)

theorem deferredAt_kept (s : State) (t : Nat) (src : BitVec 8) (arg : BitVec 24) (w5 w6 : Word) (inj : Bool) :
    Kept s (deferredAt s t src arg w5 w6 inj) :=
  .ite (fatalFault_kept ..) (.trans (.ite (fatalFault_kept ..) (faultCount_kept ..)) (jnlFault_kept ..))

theorem faultFound_kept (s : State) (src : BitVec 8) (arg : BitVec 24) (inj : Bool) : Kept s (faultFound s src arg inj) :=
  .ite (.of_stores rfl rfl) (.ite ((faultCount_kept ..).trans (jnlFault_kept ..)) (deferredAt_kept ..))

theorem eaRaise_kept (s : State) (u : EaId) (m : BitVec 24) : Kept s (eaRaise s u m) := by
  have h := eaRaise_offUnits s u m
  exact .of_stores (congrArg State.vs h :) (congrArg State.ts h :)

theorem eaPut_kept (s : State) (u : EaId) (e : EaUnit) : Kept s (eaPut s u e) := by
  have h := eaPut_offUnits s u e
  exact .of_stores (congrArg State.vs h :) (congrArg State.ts h :)

theorem changeForeign_kept (s : State) (c : Change) : Kept s (changeForeign s c) := by
  unfold changeForeign
  split
  · exact .refl s
  · exact (eaPut_kept ..).trans (eaRaise_kept ..)

theorem propDone_kept (s : State) (p : Party) (ok : Bool) : Kept s (propDone s p ok) := by
  have hraise (x : State) (f : Nat) : Kept x (dcRaise x p f) := by
    unfold dcRaise dcPut
    split <;> exact .of_stores rfl rfl
  have hend : Kept s (propEnd s p) := by
    unfold propEnd dcPut
    dsimp only
    split <;> exact .of_stores rfl rfl
  unfold propDone
  exact .ite (.refl s) ((hend.trans (hraise ..)).trans (Logged.jnl ..).kept)

theorem changeReport_kept (s : State) (c : Change) (ok : Bool) : Kept s (changeReport s c ok) := by
  unfold changeReport
  split
  · exact propDone_kept ..
  next u _ =>
    have h : Kept s (eaRaise (eaPut s u { eaOf s u with busy := none }) u (bit true (if ok then eaDone else eaRefused))) :=
      (eaPut_kept ..).trans (eaRaise_kept ..)
    dsimp only
    split
    · exact h.trans (twRaise_kept ..)
    · exact h

theorem changeRefused_kept (s : State) (c : Change) (kind i : Nat) : Kept s (changeRefused s c kind i) :=
  (entryReject_logged ..).kept.trans (changeReport_kept ..)

/-! ### Streams -/

theorem batchEnd_kept (s : State) (t : Nat) : Kept s (batchEnd s t) := .of_views (batchEnd_streamView ..) (batchEnd_vecsRest ..)

theorem leaveStream_kept (s : State) (h : Nat) : Kept s (leaveStream s h) := .of_views (leaveStream_streamView ..) (leaveStream_vecsRest ..)

theorem dropEv_kept (s : State) (h : Nat) : Kept s (dropEv s h) := (leaveStream_kept s h).trans (vecPut_kept fun ⟨_, h2, h3⟩ => ⟨rfl, h2, h3⟩)

theorem vteDiscard_kept (s : State) (h : Nat) : Kept s (vteDiscard s h) :=
  ((dropEv_kept s h).trans (vecPut_kept fun ⟨h1, _, h3⟩ => ⟨h1, rfl, h3⟩)).trans (addDropped_kept ..)

theorem vteStore_kept (s : State) (h : Nat) : Kept s (vteStore s h) := by
  unfold vteStore
  split
  · exact .refl s
  next v hv =>
    have hl := Logged.apRequest s (.vteWrite h) true (vteOffset s h) (vteWords v (vteState s h)).toList
    have hp : Kept s (vtePut (apRequest s (.vteWrite h) true (vteOffset s h) (vteWords v (vteState s h)).toList) h
        { v with stored := BitVec.ofNat 3 (vteState s h) }) :=
      hl.kept.trans (vtePut_kept (by rw [hl.vteOn, hv]; exact Option.some_ne_none v) _)
    exact hp.trans (.of_eq rfl rfl rfl)

/-! ### Boundaries -/

theorem wdogFix_kept (s : State) (t : Nat) : Kept s (wdogFix s t) := .of_bellView (wdogFix_bellView s t)

theorem clearUnreach_kept (s : State) (t : Nat) (always : Bool) : Kept s (clearUnreach s t always) := by
  have h1 : Kept s (wdogFix (tgtPut s t { tgtOf s t with unreach := false, hostUnreach := false, dbOwed := false }) t) :=
    (wdogFix_kept ..).after (.of_eq rfl rfl rfl)
  exact .ite (h1.trans (.of_bellView (sendBell_bellView ..))) h1

theorem tdStore_kept (s : State) (t : Nat) : Kept s (tdStore s t) :=
  (Logged.apRequest s (.tdWrite t) true (tableOffset s 2 32 t) (tdWords (tgtOf s t) (deckle t (tgtOf s t).ringLog2)).toList).kept.trans (.of_eq rfl rfl rfl)

theorem tdInstall_kept (s : State) (t : Nat) (g n : Tgt) : Kept s (tdInstall s t g n) := by
  have h1 : Kept s (tgtPut s t (if ringMoves t g n then ringRestart n else n)) := .of_eq rfl rfl rfl
  have h2 := Kept.ite (c := (g.enable && !n.enable) = true) (h1.trans (batchEnd_kept _ t)) h1
  exact (Kept.ite (h2.trans (clearUnreach_kept ..)) (h2.trans (wdogFix_kept ..))).trans (tdStore_kept ..)

theorem tdApply_kept (s : State) (t : Nat) (c : Change) : Kept s (tdApply s t c) :=
  .ite ((tdInstall_kept ..).trans (changeReport_kept ..)) (changeRefused_kept ..)

theorem tdBoundary_kept (k : Nat) : ∀ (s : State) (t : Nat), Kept s (tdBoundary k s t) := by
  induction k with
  | zero => exact fun s _ => .refl s
  | succ n ih =>
    intro s t
    unfold tdBoundary
    split
    · exact .refl s
    · split
      · exact .refl s
      · exact (ih _ t).after ((tdApply_kept ..).after (.of_eq rfl rfl rfl))

theorem groupApply_kept (s : State) (i : Nat) (c : Change) : Kept s (groupApply s i c) := by
  unfold groupApply
  extract_lets gi p g owner part slots s1
  have h1 : Kept s s1 := .of_eq rfl rfl rfl
  exact .ite ((h1.trans (Logged.apRequest ..).kept).trans (changeReport_kept ..)) (changeRefused_kept ..)

theorem groupBoundary_kept (k : Nat) : ∀ (s : State) (g : Nat), Kept s (groupBoundary k s g) := by
  induction k with
  | zero => exact fun s _ => .refl s
  | succ n ih =>
    intro s g
    unfold groupBoundary
    split
    · exact .refl s
    · exact (ih _ g).after ((groupApply_kept ..).after (.of_eq rfl rfl rfl))

theorem couchRelease_kept (s : State) (g : Nat) : Kept s (couchRelease s g) := by
  refine ⟨fun k hk => ?_, fun _ => id, fun _ => rfl⟩
  have hv : vecOf (couchRelease s g) k = { vecOf s k with ev := (vecOf s k).ev.map (evRelease g), evNew := (vecOf s k).evNew.map (evRelease g) } :=
    vecOf_map (f := fun v => { v with ev := v.ev.map (evRelease g), evNew := v.evNew.map (evRelease g) }) rfl rfl k
  obtain ⟨h1, h2, h3⟩ := hk
  rw [hv]
  exact ⟨by rw [h1]; rfl, by rw [h2]; rfl, h3⟩

theorem couchPut_kept (s : State) (g : Nat) (c : Couch) : Kept s (couchPut s g c) := .of_eq rfl rfl rfl

theorem couchChange_kept (s : State) (g : Nat) (c : Couch) : Kept s (couchChange s g c) :=
  .ite ((couchPut_kept ..).trans (couchCalendar_kept ..))
    ((((couchPut_kept ..).trans (couchRelease_kept ..)).trans (couchPut_kept ..)).trans (couchCalendar_kept ..))

theorem couchApply_kept (s : State) (g : Nat) (c : Change) : Kept s (couchApply s g c) := by
  unfold couchApply
  extract_lets o n s1 s2
  have h2 : Kept s s2 := (couchChange_kept ..).trans (Logged.apRequest ..).kept
  exact .ite (.trans (.ite (h2.trans (entryReject_logged ..).kept) h2) (changeReport_kept ..)) (changeRefused_kept ..)

theorem couchBoundary_kept (k : Nat) : ∀ (s : State) (g : Nat), Kept s (couchBoundary k s g) := by
  induction k with
  | zero => exact fun s _ => .refl s
  | succ n ih =>
    intro s g
    unfold couchBoundary
    split
    · exact .refl s
    · exact (ih _ g).after ((couchApply_kept ..).after (couchPut_kept ..))

theorem fenceAll_kept (s : State) : Kept s (fenceAll s) := by
  have h := fenceAll_offUnits s
  exact .of_stores (congrArg State.vs h :) (congrArg State.ts h :)

theorem settleAll_kept (s : State) : Kept s (settleAll s) := by
  have h1 := Kept.fold (f := fun x t => tdBoundary (tgtOf x t).changes.length x t) (fun x t => tdBoundary_kept _ x t)
    (s.ts.targets.filterMap fun e => if e.2.changes.isEmpty then none else some e.1) (.refl s)
  have h2 := Kept.fold (f := groupTry) (fun x g => .ite (groupBoundary_kept ..) (.refl x))
    (s.ts.groups.filterMap fun e => if e.2.changes.isEmpty then none else some e.1) h1
  have h3 := Kept.fold (f := couchTry) (fun x g => .ite (couchBoundary_kept ..) (.refl x))
    (s.ts.couches.filterMap fun e => if e.2.changes.isEmpty then none else some e.1) h2
  exact h3.trans (fenceAll_kept _)

/-! ### Messages -/

theorem noise_kept (s : State) (b : Beat) (stamp reason : Nat) (h : Option Nat) : Kept s (noise s b stamp reason h) := by
  refine Kept.trans ?_ (noise_logged s b stamp reason h).kept
  cases h with
  | none => exact .of_stores rfl rfl
  | some h => exact (addDropped_kept ({ s with cnt := { s.cnt with noise := s.cnt.noise + 1 }, status := s.status.raise stNoise }) h 1).after (.of_stores rfl rfl)

theorem noiseBack_kept (s : State) (b : Beat) (stamp reason : Nat) (h : Option Nat) (lane : Fin 4) :
    Kept s (creditBack (noise s b stamp reason h) lane) := (noise_kept ..).trans (.of_stores rfl rfl)

theorem stranger_kept (s : State) (b : Beat) (stamp reason h : Nat) (e : Vte) : Kept s (stranger s b stamp reason h e) := by
  unfold stranger
  extract_lets c0 s1 s2 t x s3 s4
  have h2 : Kept s s2 := (addDropped_kept s1 h 1).after (.of_stores rfl rfl)
  have h3 : Kept s s3 := (twRaise_kept ..).after (h2.trans (tnPut_kept (x := { x with strangers := x.strangers + 1 }) rfl))
  have h4 : Kept s s4 := (Logged.jnlRated ..).kept.after h3
  exact (quarCount_logged ..).kept.after (h4.trans (.of_stores rfl rfl))

theorem cacheRead_kept (s : State) (h : Nat) : Kept s (cacheRead s h) := by
  have hf (x : State) (src : BitVec 8) (arg : BitVec 24) : Kept x (faultFound (injectSpent x) src arg true) :=
    (faultFound_kept ..).after (.of_stores rfl rfl)
  have hr (x : State) : Kept x (vteReload x h) := .ite (.refl x) ((Logged.apRequest ..).kept.after (.of_eq rfl rfl rfl))
  exact .ite (.refl s) (.ite (hf ..) (.ite ((hf ..).trans (hr _)) (.refl s)))

theorem postResolve_kept (s : State) (x : Slot) (h : Nat) (e : Vte) : Kept s (postResolve s x h e) := by
  have hs (r : Nat) : Kept s (creditBack (stranger s x.beat x.stamp r h e) x.lane) := (stranger_kept ..).trans (.of_stores rfl rfl)
  have hc : Kept s (enqueue (vatPut s { x with st := .checked h (snapOf e) }) h) := (enqueue_kept ..).after (.of_stores rfl rfl)
  exact .ite (noiseBack_kept ..) (.ite (noiseBack_kept ..) (.ite (hs 1) (.ite (hs _) (.ite (hc.trans (Logged.jnlRated ..).kept) hc))))

theorem touch_kept (s : State) (h : Nat) : Kept s (touch s h) := .of_eq rfl rfl rfl

theorem vatPut_kept (s : State) (x : Slot) : Kept s (vatPut s x) := .of_stores rfl rfl

theorem resolve_kept (s : State) (x : Slot) : Kept s (resolve s x) := by
  unfold resolve
  dsimp only
  split
  · exact noiseBack_kept ..
  next e _ =>
    refine .ite (noiseBack_kept ..) (.ite (noiseBack_kept ..) ((cacheRead_kept s (e.base + x.beat.off.toNat / 4)).trans ?_))
    split
    · exact .ite (vatPut_kept ..) ((postResolve_kept ..).after (touch_kept ..))
    · exact (Logged.fetchVte ..).kept.after (vatPut_kept ..)

theorem releaseParked_kept (s : State) (p : Slot → Bool) : Kept s (releaseParked s p) := by
  unfold releaseParked
  exact (Kept.fold resolve_kept _ (.refl _)).after (.of_stores rfl rfl)

theorem releaseAll_kept (s : State) : Kept s (releaseAll s) := .ite (releaseParked_kept ..) (.refl s)

theorem Kept.of_commitView {s t : State} (h : commitView t = commitView s) : Kept s t := by
  simp only [commitView, Prod.mk.injEq] at h
  obtain ⟨-, -, -, -, -, hts, hvt, hve⟩ := h
  exact .of_eq hve hvt (by rw [hts])

end Sys2Proof.Machine
end

section
/-! PROOF. The commit of a re-form: what the slice gives up holds nothing more (R114 steps 6 and 7, R115). -/

namespace Sys2Proof.Machine

/-! ### A vector that leaves -/

theorem mem_insertNat_of_mem {a k : Nat} : ∀ {l : List Nat}, a ∈ l → a ∈ insertNat l k := by
  intro l
  induction l with
  | nil => exact fun h => absurd h List.not_mem_nil
  | cons x l ih =>
    intro h
    unfold insertNat
    split
    · exact h
    · split
      · exact List.mem_cons_of_mem _ h
      · rcases List.mem_cons.mp h with rfl | h
        · exact List.mem_cons_self ..
        · exact List.mem_cons_of_mem _ (ih h)

theorem mem_foldl_insertNat {a : Nat} : ∀ (l : List Nat) {m : List Nat}, a ∈ m ∨ a ∈ l → a ∈ l.foldl insertNat m := by
  intro l
  induction l with
  | nil => exact fun h => h.resolve_right List.not_mem_nil
  | cons x l ih =>
    intro m h
    refine ih ?_
    rcases h with h | h
    · exact .inl (mem_insertNat_of_mem h)
    · rcases List.mem_cons.mp h with rfl | h
      · exact .inl (mem_insertNat_self a m)
      · exact .inr h

theorem find_erase_same {α : Type} (k : Nat) (m : List (Nat × α)) : find (erase m k) k = none := by
  cases hf : find (erase m k) k with
  | none => rfl
  | some a =>
    have := (List.mem_filter.mp (mem_of_find hf)).2
    exact absurd this (by simp)

theorem find_erase_ne {α : Type} {j k : Nat} (h : j ≠ k) (m : List (Nat × α)) : find (erase m k) j = find m j := by
  induction m with
  | nil => rfl
  | cons e m ih =>
    obtain ⟨i, a⟩ := e
    unfold erase at ih ⊢
    rw [List.filter_cons]
    split
    · simp only [find, ih]
    next hi =>
      have hik : i = k := by simpa using hi
      rw [ih, find, if_neg (by rw [hik]; exact fun e => h e.symm)]

/-- A vector holds nothing, and its entry is not on chip. -/
def Gone (h : Nat) (s : State) : Prop := Bare (vecOf s h) ∧ vteOn s h = none

theorem Kept.gone {s t : State} (k : Kept s t) {h : Nat} (hg : Gone h s) : Gone h t := ⟨k.bare h hg.1, k.away h hg.2⟩

/-- A vector that leaves the slice is gone, and the others that hold nothing stay so (R115). -/
theorem reformRemove_gone (s : State) (h : Nat) : Kept s (reformRemove s h).1 ∧ (4096 ≤ h → Gone h (reformRemove s h).1) := by
  have h1 : Kept s (calLeave (dropEv s h) h) := (dropEv_kept s h).trans (calLeave_kept ..)
  have hf (x : State) : Kept x (forEach (vecOf s h).changes x changeForeign) := Kept.fold changeForeign_kept _ (.refl x)
  have hx : ∃ x vs, Kept s x ∧ (reformRemove s h).1 = { x with vs := vs }
      ∧ vs.vecs = (if (vecOf s h).eois.isEmpty then erase x.vs.vecs h else put x.vs.vecs h { vecZero with eois := (vecOf s h).eois })
      ∧ vs.vtes = erase x.vs.vtes h := by
    refine ⟨_, _, ?_, rfl, rfl, rfl⟩
    refine (hf _).after ?_
    split
    · exact h1.trans (.of_eq rfl rfl rfl)
    · exact h1
  obtain ⟨x, vs, hk, he, hvecs, hvtes⟩ := hx
  rw [he]
  have hself : Bare (vecOf { x with vs := vs } h) := by
    unfold vecOf
    dsimp only
    rw [hvecs]
    split
    · rw [find_erase_same]
      exact ⟨rfl, rfl, rfl⟩
    · rw [find_put_same]
      exact ⟨rfl, rfl, rfl⟩
  have hothers (k : Nat) (hkh : k ≠ h) : vecOf { x with vs := vs } k = vecOf x k := by
    unfold vecOf
    dsimp only
    rw [hvecs]
    split
    · rw [find_erase_ne hkh]
    · rw [find_put_ne hkh]
  refine ⟨hk.trans ⟨fun k hb => ?_, fun k hn => ?_, fun _ => rfl⟩, fun hh => ⟨hself, ?_⟩⟩
  · by_cases hkh : k = h
    · rw [hkh]
      exact hself
    · rw [hothers k hkh]
      exact hb
  · unfold vteOn at hn ⊢
    dsimp only
    rw [hvtes]
    split at hn
    · exact absurd hn (Option.some_ne_none _)
    next hlt =>
      rw [if_neg hlt]
      by_cases hkh : k = h
      · rw [hkh, find_erase_same]
      · rw [find_erase_ne hkh]
        exact hn
  · unfold vteOn
    dsimp only
    rw [hvtes, if_neg (Nat.not_lt.mpr hh), find_erase_same]

/-- What is not listed as on chip in a range holds nothing there. -/
theorem gone_of_not_listed {s : State} {lo hi h : Nat} (hr : lo ≤ h ∧ h < hi) (hw : 4096 ≤ h) (hn : h ∉ handlesIn s lo hi) : Gone h s := by
  have hkeys : ∀ k, k ∈ (s.vs.vecs.map fun e => e.1) ++ (s.vs.vtes.map fun e => e.1) ++ (s.vs.spilled.map fun e => e.1)
      ++ (s.vs.owed.map fun e => e.1) ++ (s.vs.away.map fun e => e.1) ++ s.vs.pinned → k ≠ h := by
    rintro k hk rfl
    exact hn (mem_foldl_insertNat _ (.inr (List.mem_filter.mpr ⟨hk, by simp [hr.1, hr.2]⟩)))
  constructor
  · unfold vecOf
    cases hf : find s.vs.vecs h with
    | none => exact ⟨rfl, rfl, rfl⟩
    | some v => exact absurd rfl (hkeys h (by simp only [List.mem_append, List.mem_map]; exact .inl (.inl (.inl (.inl (.inl ⟨_, mem_of_find hf, rfl⟩))))))
  · unfold vteOn
    rw [if_neg (Nat.not_lt.mpr hw)]
    cases hf : find s.vs.vtes h with
    | none => rfl
    | some v => exact absurd rfl (hkeys h (by simp only [List.mem_append, List.mem_map]; exact .inl (.inl (.inl (.inl (.inr ⟨_, mem_of_find hf, rfl⟩))))))

/-- The removal of one vector, with its discarded events counted. -/
def removeCounted (s : State) (h : Nat) : State :=
  { (reformRemove s h).1 with fu := { (reformRemove s h).1.fu with discarded := (reformRemove s h).1.fu.discarded + (reformRemove s h).2 } }

theorem removeCounted_gone (s : State) (h : Nat) : Kept s (removeCounted s h) ∧ (4096 ≤ h → Gone h (removeCounted s h)) := by
  obtain ⟨hk, hg⟩ := reformRemove_gone s h
  have h1 : Kept (reformRemove s h).1 (removeCounted s h) := .of_stores rfl rfl
  exact ⟨hk.trans h1, fun hh => h1.gone (hg hh)⟩

theorem removeAll_gone {h : Nat} (hh : 4096 ≤ h) : ∀ (l : List Nat) {s : State}, h ∈ l ∨ Gone h s → Gone h (forEach l s removeCounted) := by
  intro l
  induction l with
  | nil => exact fun hg => hg.resolve_left List.not_mem_nil
  | cons k l ih =>
    intro s hg
    obtain ⟨hk, hrem⟩ := removeCounted_gone s k
    refine ih ?_
    rcases hg with hm | hg
    · rcases List.mem_cons.mp hm with rfl | hm
      · exact .inr (hrem hh)
      · exact .inl hm
    · exact .inr (hk.gone hg)

/-- Every handle of the range is gone. -/
theorem reformRemoveAll_gone (s : State) {lo hi h : Nat} (hh : 4096 ≤ h) (hr : lo ≤ h ∧ h < hi) : Gone h (reformRemoveAll s lo hi) := by
  have he : reformRemoveAll s lo hi = forEach (handlesIn s lo hi) s removeCounted := rfl
  rw [he]
  by_cases hm : h ∈ handlesIn s lo hi
  · exact removeAll_gone hh _ (.inl hm)
  · exact removeAll_gone hh _ (.inr (gone_of_not_listed hr hh hm))

/-! ### What a re-form leaves in force -/

/-- What a re-form's work leaves: the loader but for what it discarded, the mode, the settings, time and the digest. -/
def orderView (s : State) : FurnUnit × ModeUnit × CtlRegs × TimeUnit × Option Digest := ({ s.fu with discarded := 0 }, s.md, s.ctl, s.tm, s.ao.digest)

theorem Steady.order {s t : State} (h : Steady s t) : orderView t = orderView s := by
  have hd : t.ao.digest = s.ao.digest := (congrArg AoUnit.digest h.ao :)
  simp only [orderView, h.fu, h.md, h.ctl, h.tm, hd]

/-- Work of a re-form: what is gone stays gone, credits stand, and the order in force stays. -/
structure Ordered (s t : State) : Prop where
  kept : Kept s t
  order : orderView t = orderView s

theorem Ordered.refl (s : State) : Ordered s s := ⟨.refl s, rfl⟩

theorem Ordered.trans {s t u : State} (h : Ordered s t) (k : Ordered t u) : Ordered s u := ⟨h.kept.trans k.kept, k.order.trans h.order⟩

theorem Ordered.after {s t u : State} (k : Ordered t u) (h : Ordered s t) : Ordered s u := h.trans k

theorem Ordered.fold {α : Type} {s : State} {f : State → α → State} (hf : ∀ t a, Ordered t (f t a)) (l : List α) {t : State} (h : Ordered s t) :
    Ordered s (forEach l t f) := forEach_preserves (P := Ordered s) (fun t a k => k.trans (hf t a)) l h

theorem Ordered.ite {s t u : State} {c : Prop} [Decidable c] (h : Ordered s t) (k : Ordered s u) : Ordered s (if c then t else u) := by
  split
  · exact h
  · exact k

theorem Ordered.of_steady {s t : State} (k : Kept s t) (h : Steady s t) : Ordered s t := ⟨k, h.order⟩

theorem Ordered.of_inner {d : Fin 4 → Int} {s t : State} (k : Kept s t) (h : Inner d s t) : Ordered s t := ⟨k, (Steady.of_inner h).order⟩

theorem Logged.ordered {s t : State} (h : Logged s t) : Ordered s t :=
  ⟨h.kept, by simp only [orderView, h.fu, h.md, h.ctl, h.tm, h.ao]⟩

theorem removeCounted_ordered (s : State) (h : Nat) : Ordered s (removeCounted s h) := by
  refine ⟨(removeCounted_gone s h).1, ?_⟩
  exact (show orderView (removeCounted s h) = orderView (reformRemove s h).1 from rfl).trans (Steady.of_inner (reformRemove_inner h (.refl s))).order

theorem reformRemoveAll_ordered (s : State) (lo hi : Nat) : Ordered s (reformRemoveAll s lo hi) := Ordered.fold removeCounted_ordered _ (.refl s)

theorem reformVoid_ordered (s : State) (a : Slice) (kept : Nat) (moved : Bool) (g : Nat → Bool) : Ordered s (reformVoid s a kept moved g) :=
  ⟨.of_stores rfl rfl, rfl⟩

theorem reformTargets_ordered (s : State) (a b : Nat → Bool) : Ordered s (reformTargets s a b) := ⟨.of_eq rfl rfl rfl, rfl⟩

theorem reformGroups_ordered (s : State) (a b c : Nat → Bool) : Ordered s (reformGroups s a b c) := ⟨.of_eq rfl rfl rfl, rfl⟩

theorem reformCouches_ordered (s : State) (a b : Nat → Bool) (l : List Nat) : Ordered s (reformCouches s a b l) := by
  refine .of_inner ?_ (reformCouches_inner a b l (.refl s))
  unfold reformCouches
  refine Kept.fold (fun x g => ?_) _ (.refl s)
  exact ((couchRelease_kept x g).trans (calLeave_kept ..)).trans (.of_eq rfl rfl rfl)

theorem reformJournal_ordered (s : State) (old new : Furnish) (t : Nat) : Ordered s (reformJournal s old new t) := by
  refine .of_inner ?_ (reformJournal_inner old new t (.refl s))
  have hp (r : Region) : Kept s (placeJournal s r) := (Logged.apRequest ..).kept.trans (.of_stores rfl rfl)
  unfold reformJournal
  split
  · exact .ite (.refl s) (hp _)
  · exact .of_stores rfl rfl

theorem groupStore_ordered (old : List (Nat × Group)) (s : State) (g : Nat) : Ordered s (groupStore old s g) :=
  .ite (.refl s) (Ordered.fold (fun _ _ => (Logged.apRequest ..).ordered) _ (.refl s))

theorem keptFix_ordered (e : Slice) (s : State) (h : Nat) (v : Vte) : Ordered s (keptFix e s h v) := by
  have hd (x : State) (k : Ordered s x) (n : Nat) : Ordered s { x with fu := { x.fu with discarded := x.fu.discarded + n } } :=
    k.trans ⟨.of_stores rfl rfl, rfl⟩
  unfold keptFix
  dsimp only
  generalize ({ v with cfg := { v.cfg with valid := false } } : Vte) = v'
  refine .ite (hd _ ?_ _) (.refl s)
  split
  next ho =>
    have h1 : Ordered s (vtePut s h v') := .of_inner (vtePut_kept (Option.isSome_iff_ne_none.mp ho) v') (vtePut_inner h v' (.refl s))
    have h2 : Ordered (vtePut s h v') (vteDiscard (vtePut s h v') h) := .of_inner (vteDiscard_kept ..) (vteDiscard_inner h (.refl _))
    exact (h1.trans h2).trans (.of_inner (vteStore_kept ..) (vteStore_inner h (.refl _)))
  next =>
    have h1 : Ordered s (vteDiscard s h) := .of_inner (vteDiscard_kept ..) (vteDiscard_inner h (.refl _))
    have h2 : Ordered (vteDiscard s h) (awayPut (vteDiscard s h) h (snapOf v')) := ⟨.of_eq rfl rfl rfl, rfl⟩
    exact (h1.trans h2).trans (Logged.apRequest ..).ordered

theorem reformKept_ordered (e : Slice) (stored : List (Nat × Words8)) (s : State) (h : Nat) : Ordered s (reformKept e stored s h) := by
  unfold reformKept
  split
  · exact keptFix_ordered ..
  · split
    · exact .refl s
    · exact .ite (keptFix_ordered ..) (.of_steady (deferredAt_kept ..) (deferred_steady ..))

theorem reformDirty_ordered (s : State) (a b : Slice) (moved : Bool) : Ordered s (reformDirty s a b moved) := by
  refine .of_inner ?_ (reformDirty_inner a b moved (.refl s))
  unfold reformDirty
  exact .ite (.of_eq rfl rfl rfl) (.refl s)

theorem reformCouch_ordered (f : Furnish) (s : State) (g : Nat) : Ordered s (reformCouch f s g) := by
  refine .of_inner ?_ (reformCouch_inner f g (.refl s))
  unfold reformCouch
  extract_lets o c s1
  have h1 : Kept s s1 := by
    refine .ite (couchPut_kept ..) ((Logged.jnlRated ..).kept.after ?_)
    exact (couchCalendar_kept ..).after ((couchRelease_kept ..).after (couchChange_kept ..))
  exact .ite h1 ((Logged.apRequest ..).kept.after h1)

theorem reformUnit_ordered (s : State) (u : EaId) : Ordered s (reformUnit s u) := by
  have hput (e : EaUnit) (m : BitVec 24) : Ordered s (eaRaise (eaPut s u e) u m) :=
    .of_inner ((eaPut_kept ..).trans (eaRaise_kept ..)) (eaRaise_inner u m (eaPut_inner u e (.refl s)))
  have hread (k i : Nat) : Ordered s (readEnd s u k i) := by
    unfold readEnd
    dsimp only
    split <;> exact hput ..
  unfold reformUnit
  dsimp only
  split
  · exact .ite (hput ..) (.refl s)
  · exact .ite (.refl s) (hread ..)
  · exact .refl s

theorem reformFetch_ordered (s : State) (a : Slice) : Ordered s (reformFetch s a) := by
  refine .of_inner ?_ (reformFetch_inner a (.refl s))
  unfold reformFetch
  dsimp only
  have hv : ∀ l m, commitView (forEach m (forEach l s fetchAgain) checkedAgain) = commitView s := fun l m =>
    (forEach_view checkedAgain_commitView ..).trans (forEach_view fetchAgain_commitView ..)
  exact .of_commitView (hv _ _)

theorem lgCopy_ordered (s : State) : Ordered s (lgCopy s) := by
  have h := lgCopy_copyView s
  generalize lgCopy s = t at h ⊢
  refine ⟨.of_stores (congrArg State.vs h :) (congrArg State.ts h :), ?_⟩
  exact (congrArg orderView h :)

/-- The bucket of a slice's tenant is full (R111 step 8). -/
theorem fillBucket_credits (s : State) (e : Slice) : (tnOf (fillBucket s e) e.tenant).credits = BitVec.ofNat 16 e.bucket := by
  unfold fillBucket
  rw [tnOf_tnPut_same]

theorem fillBucket_gone {s : State} {h : Nat} (e : Slice) (hg : Gone h s) : Gone h (fillBucket s e) := hg

end Sys2Proof.Machine
end

section
/-! PROOF. The commit of a REFORM as a whole (R114, R115), and the ends of the loader's operations. -/

namespace Sys2Proof.Machine

/-- What the order in force reads. -/
theorem order_reads {s t : State} (h : orderView t = orderView s) :
    t.fu.phase = s.fu.phase ∧ t.fu.formed = s.fu.formed ∧ t.fu.op = s.fu.op ∧ t.fu.status = s.fu.status ∧ t.fu.computed = s.fu.computed
      ∧ t.md = s.md ∧ t.ctl = s.ctl ∧ t.tm = s.tm ∧ t.ao.digest = s.ao.digest :=
  ⟨(congrArg (fun v => v.1.phase) h :), (congrArg (fun v => v.1.formed) h :), (congrArg (fun v => v.1.op) h :), (congrArg (fun v => v.1.status) h :),
    (congrArg (fun v => v.1.computed) h :), (congrArg (fun v => v.2.1) h :), (congrArg (fun v => v.2.2.1) h :), (congrArg (fun v => v.2.2.2.1) h :),
    (congrArg (fun v => v.2.2.2.2) h :)⟩

/-- The new structure stands: PHASE is FORMED, and the digest and the tables are the operation's. -/
structure Reformed (s t : State) (new : Furnish) : Prop where
  phase : t.fu.phase = .formed
  formed : t.fu.formed = some new
  op : t.fu.op = none
  done : t.fu.status.has fuDone = true
  digest : t.ao.digest = s.fu.computed
  md : t.md = s.md
  ctl : t.ctl = s.ctl
  tm : t.tm = s.tm

theorem Reformed.ordered {s t u : State} {new : Furnish} (h : Reformed s t new) (k : orderView u = orderView t) : Reformed s u new := by
  obtain ⟨hp, hf, ho, hst, -, hmd, hctl, htm, hdg⟩ := order_reads k
  exact ⟨hp.trans h.phase, hf.trans h.formed, ho.trans h.op, by rw [hst]; exact h.done, hdg.trans h.digest, hmd.trans h.md, hctl.trans h.ctl, htm.trans h.tm⟩

/-- The commit of a re-form takes the new structure. -/
theorem opCommit_reformed {s x : State} (h : orderView x = orderView s) (new : Furnish) :
    Reformed s (formCopies (opCommit x new)) new ∧ Kept x (formCopies (opCommit x new)) := by
  obtain ⟨-, -, -, -, hc, hmd, hctl, htm, -⟩ := order_reads h
  obtain ⟨ap, hap⟩ := formCopies_eq (opCommit x new)
  rw [hap]
  exact ⟨⟨rfl, rfl, rfl, Sc.has_raise_self _ (by decide), hc, hmd, hctl, htm⟩, .of_stores rfl rfl⟩

theorem sliceIn_tenant {f : Furnish} {t : Nat} (h : ∃ e ∈ f.slices, e.tenant = t) : (sliceIn f t).tenant = t := by
  obtain ⟨e, he, hte⟩ := h
  unfold sliceIn
  cases hf : f.slices.find? fun e => decide (e.tenant = t) with
  | none => exact absurd (decide_eq_true hte) (List.find?_eq_none.mp hf e he)
  | some x => exact of_decide_eq_true (List.find?_some hf :)

/-- What a re-form leaves (R114 steps 6 and 7, R115). -/
theorem reformEnd_shows (s : State) (old new : Furnish) (t : Nat) (stored : List (Nat × Words8)) :
    Reformed s (reformEnd s old new t stored) new
      ∧ ((∃ e ∈ new.slices, e.tenant = t) → (tnOf (reformEnd s old new t stored) t).credits = BitVec.ofNat 16 (sliceIn new t).bucket)
      ∧ ∀ h, 4096 ≤ h → (sliceIn old t).base + keptCount (sliceIn old t) (sliceIn new t) ≤ h → h < (sliceIn old t).base + (sliceIn old t).vecCount →
        Gone h (reformEnd s old new t stored) := by
  unfold reformEnd
  extract_lets a b kept moved tOld tNew s1 gOld gNew cOld cNew couches s2 s3 s4 s5 n fu s6 s7 s8 s9 s10 bid s11
  have h1 : Ordered s s1 := (reformVoid_ordered ..).after (reformRemoveAll_ordered ..)
  have h2 : Ordered s1 s2 := (reformCouches_ordered ..).after ((reformGroups_ordered ..).after (reformTargets_ordered ..))
  have hj : Ordered s1 (reformJournal s2 old new t) := (reformJournal_ordered ..).after h2
  obtain ⟨hcommit, hk3⟩ := opCommit_reformed (s := s) (hj.order.trans h1.order) new
  have h4 : Ordered s3 s4 := Ordered.fold (groupStore_ordered _) _ (.refl s3)
  have h5 : Ordered s3 s5 := (reformDirty_ordered ..).after (Ordered.fold (reformKept_ordered b stored) _ h4)
  have h6 : Ordered s3 s6 := h5.trans ⟨.of_stores rfl rfl, rfl⟩
  have h7 : Ordered s3 s7 := Ordered.fold (reformCouch_ordered new) _ h6
  have h8 : orderView s8 = orderView s7 ∧ ∀ h, Gone h s7 → Gone h s8 := by
    by_cases hc : new.slices.any (fun e => decide (e.tenant = t)) = true
    · rw [show s8 = fillBucket s7 b from if_pos hc]
      exact ⟨rfl, fun h hg => fillBucket_gone b hg⟩
    · rw [show s8 = s7 from if_neg hc]
      exact ⟨rfl, fun h hg => hg⟩
  have h9 : Ordered s8 s9 := by
    have hf : Ordered s8 (reformFetch (forEach (units s8) s8 reformUnit) a) :=
      (reformFetch_ordered ..).after (Ordered.fold reformUnit_ordered _ (.refl s8))
    exact hf.trans (.of_steady (releaseAll_kept _) (releaseAll_steady _))
  have h11 : Ordered s8 s11 := (Logged.jnl ..).ordered.after ((lgCopy_ordered s10).after ((apBulk_logged ..).ordered.after h9))
  have hend : Ordered s8 (settleAll s11) := h11.trans (.of_inner (settleAll_kept s11) (settleAll_inner (.refl s11)))
  refine ⟨hcommit.ordered (hend.order.trans (h8.1.trans h7.order)), fun hten => ?_, fun h hh hlo hhi => ?_⟩
  · have hbt : b.tenant = t := sliceIn_tenant hten
    have hany : new.slices.any (fun e => decide (e.tenant = t)) = true := by
      obtain ⟨e, he, hte⟩ := hten
      exact List.any_eq_true.mpr ⟨e, he, decide_eq_true hte⟩
    have h8c : (tnOf s8 t).credits = BitVec.ofNat 16 b.bucket := by
      rw [show s8 = fillBucket s7 b from if_pos hany, ← hbt]
      exact fillBucket_credits s7 b
    exact (hend.kept.credits t).trans h8c
  · have g1 : Gone h s1 := (reformVoid_ordered ..).kept.gone (reformRemoveAll_gone s hh ⟨hlo, hhi⟩)
    exact hend.kept.gone (h8.2 h (h7.kept.gone (hk3.gone (hj.kept.gone g1))))

end Sys2Proof.Machine

namespace Sys2Proof

open Sys2Proof.Machine

/-- Settles O38, operation by operation: the end of the drain, writes that it gives up, and the commits of LOAD, WARM_FORM and REFORM. -/
theorem furnishOperationsEnd : Obligations.FurnishOperationsEnd := by
  intro s ha
  refine ⟨fun n old new hp hop hold hnew => ⟨fun hb => ?_, fun hb hn hf ht hv _ hc => ?_⟩, fun x n hp hop hd hen hn _ ho hw => ?_,
    fun f stored hp hop hn hs hf => loadCommit_shows ha hp hop hn hs hf stored, fun f stored hp hop hn hs hf hi => ?_,
    fun f stored tag c r hp hs hn hf he ht hw hr hc hd => writeAck_of_form ha hp hs hn hf he ht hw hr hc hd,
    fun n old new stored hp hop hold hnew hs hf => ?_⟩
  · have hx : drainEnd s = s := by
      have hten : drainTenant s = some n.toNat := by simp [drainTenant, hp, hop]
      unfold drainEnd
      rw [hten, hold, hnew]
      exact if_pos hb
    refine congrArg Host.Outcome.next ?_
    rw [hx]
    exact ite_self s
  · obtain ⟨x, hx, hview⟩ := drainEnd_of_idle hp hop hold hnew hb hn hf ht hv hc
    have hexec : exec .reformDrainComplete s = .next (drainForm x old new n.toNat) :=
      congrArg Host.Outcome.next ((if_pos (by simp [ha, hp, hf, ht])).trans hx)
    obtain ⟨hl, hwr⟩ := drainForm_shows x old new n.toNat
    have hfu : x.fu = s.fu := (congrArg State.fu hview :)
    have hfd : (drainForm x old new n.toNat).fu = { s.fu with phase := .form } := by rw [hl.fu, ← hfu]
    exact ⟨_, hexec, (congrArg FurnUnit.phase hfd :), (congrArg FurnUnit.op hfd :), (congrArg FurnUnit.next hfd :).trans hnew,
      (congrArg FurnUnit.formed hfd :).trans hold, hwr, (congrArg TargetStore.targets hl.ts).trans (congrArg (fun v => v.ts.targets) hview :),
      hl.vat.trans (congrArg State.vat hview :), hl.md.trans (congrArg State.md hview :), hl.ctl.trans (congrArg State.ctl hview :)⟩
  · exact acceptTimeout_givesUp ha hp hop hd hen hn ho hw
  · have hx := execFormCommit_warm ha hp hop hn hs hf hi stored
    exact ⟨fun hc => ⟨_, hx, warmCommit_clean hp hn hf hc⟩, fun hr hb => ⟨_, hx, warmCommit_waits hp hop hn hr hb⟩, fun hb => ⟨_, hx, warmCommit_fails hb⟩⟩
  · have hx := execFormCommit_runs ha hp hs hf (by rw [hop]; exact nofun) stored
    obtain ⟨hfu, -, hmd, htm, hctl, -, -⟩ := apDrop_rest s isForm
    have hdone : formDone (apDrop s isForm) stored = reformEnd (apDrop s isForm) old new n.toNat stored := by
      unfold formDone
      rw [hfu, hop, hold, hnew]
    rw [hdone] at hx
    obtain ⟨hr, hcred, hgone⟩ := reformEnd_shows (apDrop s isForm) old new n.toNat stored
    refine ⟨_, hx, hr.phase, hr.formed, hr.op, hr.done, hr.digest.trans (congrArg FurnUnit.computed hfu), hr.md.trans hmd, hr.ctl.trans hctl,
      congrArg TimeUnit.now (hr.tm.trans htm), hcred, fun h hh hlo hhi => ?_⟩
    obtain ⟨⟨hev, -, hact⟩, hon⟩ := hgone h hh hlo hhi
    exact ⟨hev, hact, hon⟩

end Sys2Proof
end

section
/-! PROOF. What a plane's fence and the retention set rest on (R165, R288, R292, R319, R322): the relation that the operations keep. -/

namespace Sys2Proof.Machine

/-- DORMANT has been asked for (R287). -/
def DormantAsked (s : State) : Prop := ∃ e, s.pw.entry = some e ∧ e.step = .askedDormant

/-- The retention set has been saved, and DORMANT restores it (R287, R288). -/
def RetentionSaved (s : State) : Prop := s.md.mode = .dormant ∨ (s.md.mode = .rest ∧ DormantAsked s)

/-- What a fence and the retention set rest on. -/
def firmView (s : State) :=
  (s.jn.base, s.jn.log2, s.md.lock, s.md.mode, s.flt.fenced, s.flt.selfTest, s.flt.sum, s.pw.ret, s.pw.entry)

/-- What an operation leaves of it: where b is set, the journal's place, the lock bits and FENCED; and always, that the flags of IV_FLT_SUM leave the
place of FENCED free, that a fenced plane stays fenced with no self-test of both to come, and that the retention set is not saved anew. -/
structure Firm (b : Bool) (s t : State) : Prop where
  stay : b = true → t.jn.base = s.jn.base ∧ t.jn.log2 = s.jn.log2 ∧ t.md.lock = s.md.lock ∧ t.flt.fenced = s.flt.fenced
  free : fld s.flt.sum.flags 14 2 = (0 : BitVec 2) → fld t.flt.sum.flags 14 2 = (0 : BitVec 2)
  settled : FenceSettled s → FenceSettled t ∧ (s.flt.fenced ≠ 0 → t.flt.fenced = s.flt.fenced)
  ret : t.pw.ret = s.pw.ret
  saved : RetentionSaved t → RetentionSaved s
  asked : DormantAsked t → DormantAsked s

theorem Firm.refl {b : Bool} (s : State) : Firm b s s := ⟨fun _ => ⟨rfl, rfl, rfl, rfl⟩, id, fun h => ⟨h, fun _ => rfl⟩, rfl, id, id⟩

theorem Firm.trans {b : Bool} {s t u : State} (h : Firm b s t) (k : Firm b t u) : Firm b s u where
  stay hb := by
    obtain ⟨h1, h2, h3, h4⟩ := h.stay hb
    obtain ⟨k1, k2, k3, k4⟩ := k.stay hb
    exact ⟨k1.trans h1, k2.trans h2, k3.trans h3, k4.trans h4⟩
  free := k.free ∘ h.free
  settled hs := by
    obtain ⟨ht, hf⟩ := h.settled hs
    obtain ⟨hu, kf⟩ := k.settled ht
    exact ⟨hu, fun hn => (kf (by rw [hf hn]; exact hn)).trans (hf hn)⟩
  ret := k.ret.trans h.ret
  saved := h.saved ∘ k.saved
  asked := h.asked ∘ k.asked

theorem Firm.of_view {b : Bool} {t u : State} (hv : firmView u = firmView t) : Firm b t u := by
  simp only [firmView, Prod.mk.injEq] at hv
  obtain ⟨h1, h2, h3, h4, h5, h6, h7, h8, h9⟩ := hv
  refine ⟨fun _ => ⟨h1, h2, h3, h5⟩, by rw [h7]; exact id, fun hs => ⟨?_, fun _ => h5⟩, h8, ?_, ?_⟩
  · rw [FenceSettled, h5, h6]
    exact hs
  · rw [RetentionSaved, DormantAsked, h4, h9]
    exact id
  · rw [DormantAsked, h9]
    exact id

variable {b : Bool} {s t u : State}

/-- A change of anything else. -/
theorem Firm.put (h : Firm b s t) (hv : firmView u = firmView t) : Firm b s u := h.trans (.of_view hv)

theorem Firm.ite {p : Prop} [Decidable p] (h : Firm b s t) (k : Firm b s u) : Firm b s (if p then t else u) := by
  split
  · exact h
  · exact k

theorem Firm.ite_st {p : Prop} [Decidable p] {x y : Round} (h : Firm b s x.st) (k : Firm b s y.st) : Firm b s (if p then x else y).st := by
  split
  · exact h
  · exact k

theorem Firm.ite_fst {α : Type} {p : Prop} [Decidable p] {x y : State × α} (h : Firm b s x.1) (k : Firm b s y.1) :
    Firm b s (if p then x else y).1 := by
  split
  · exact h
  · exact k

theorem forEach_firm {α : Type} {f : State → α → State} {l : List α} (h : Firm b s t) (hf : ∀ u a, Firm b s u → Firm b s (f u a)) :
    Firm b s (forEach l t f) := forEach_preserves (P := Firm b s) hf l h

theorem forEach_firmRound {α : Type} {f : Round → α → Round} (hf : ∀ r a, Firm b s r.st → Firm b s (f r a).st) :
    ∀ {l : List α} {r : Round}, Firm b s r.st → Firm b s (forEach l r f).st := by
  intro l
  induction l with
  | nil => exact id
  | cons a l ih => exact fun h => ih (hf _ a h)

/-! ### The fault collector -/

/-- Flags that are set apart from the place of FENCED leave it free. -/
theorem fltRaise_firm {m : BitVec 24} (hm : fld m 14 2 = (0 : BitVec 2)) (h : Firm b s t) : Firm b s (fltRaise t m) := by
  refine h.trans ⟨fun _ => ⟨rfl, rfl, rfl, rfl⟩, fun hf => ?_, fun hs => ⟨hs, fun _ => rfl⟩, rfl, id, id⟩
  show fld (t.flt.sum.flags ||| m) 14 2 = (0 : BitVec 2)
  unfold fld at hm hf ⊢
  rw [BitVec.extractLsb'_or, hf, hm]
  rfl

theorem fatalFault_firm {src : BitVec 8} {detail : BitVec 24} {inj : Bool} (h : Firm b s t) : Firm b s (fatalFault t src detail inj) := by
  unfold fatalFault
  have h1 : Firm b s { t with flt := { t.flt with first := firstWord 3 src detail, fatal := some (t.flt.fatal.getD
    { source := src, detail := detail, blind := false, injected := inj }) } } := h.put rfl
  exact Firm.ite (fltRaise_firm (by decide) h1) h1

theorem bit_free (inj : Bool) : fld (bit inj 8 : BitVec 24) 14 2 = (0 : BitVec 2) := by cases inj <;> decide

theorem faultCount_firm {cls : BitVec 2} {src : BitVec 8} {arg m : BitVec 24} {inj : Bool} (hm : fld m 14 2 = (0 : BitVec 2)) (h : Firm b s t) :
    Firm b s (faultCount t cls src arg m inj) := by
  unfold faultCount
  refine fltRaise_firm ?_ (h.put rfl)
  have hc : fld (if cls = 1 then 1 else 2 : BitVec 24) 14 2 = (0 : BitVec 2) := by split <;> decide
  have hb := bit_free inj
  unfold fld at hm hc hb ⊢
  rw [BitVec.extractLsb'_or, BitVec.extractLsb'_or, hm, hc, hb]
  rfl

theorem sourceFlag_free (src : BitVec 8) : fld (sourceFlag src) 14 2 = (0 : BitVec 2) := by
  unfold sourceFlag
  iterate 6 (split; · decide)
  decide

/-- A seq-clear write of the summary clears flags alone. -/
theorem sumClear_firm {w : Word} (h : Firm b s t) : Firm b s { t with flt := { t.flt with sum := t.flt.sum.clear w } } := by
  refine h.trans ⟨fun _ => ⟨rfl, rfl, rfl, rfl⟩, fun hf => ?_, fun hs => ⟨hs, fun _ => rfl⟩, rfl, id, id⟩
  show fld (t.flt.sum.clear w).flags 14 2 = (0 : BitVec 2)
  unfold Sc.clear
  split
  · unfold fld at hf ⊢
    dsimp only
    rw [BitVec.extractLsb'_and, hf]
    exact BitVec.zero_and
  · exact hf

/-! ### Rounds that wait for a self-test -/

/-- Only where both planes rank does a round come to wait for their self-test (R165). -/
theorem holdRound_firm {h' : BitVec 24} {fail : BitVec 2} (hb : t.flt.fenced = 0) (h : Firm b s t) : Firm b s (holdRound t h' fail) :=
  h.trans ⟨fun _ => ⟨rfl, rfl, rfl, rfl⟩, id, fun _ => ⟨fun hn => absurd hb hn, fun _ => rfl⟩, rfl, id, id⟩

/-! ### The mode and the entry -/

/-- A mode that no retention set is saved in. -/
theorem setMode_firm {m : Mode} (hr : m ≠ .rest) (hd : m ≠ .dormant) (h : Firm b s t) : Firm b s (setMode t m) :=
  h.trans ⟨fun _ => ⟨rfl, rfl, rfl, rfl⟩, id, fun hs => ⟨hs, fun _ => rfl⟩, rfl, fun hx => (hx.elim (fun e => absurd e hd) fun e => absurd e.1 hr), id⟩

/-- An attempt that is over, or at a step before DORMANT is asked for. -/
theorem entry_firm {pw : PowerUnit} (hr : pw.ret = t.pw.ret) (he : ∀ e, pw.entry = some e → e.step ≠ .askedDormant) (h : Firm b s t) :
    Firm b s { t with pw := pw } := by
  have hn : ¬ DormantAsked { t with pw := pw } := fun ⟨e, h1, h2⟩ => he e h1 h2
  exact h.trans ⟨fun _ => ⟨rfl, rfl, rfl, rfl⟩, id, fun hs => ⟨hs, fun _ => rfl⟩, hr, fun hx => hx.elim .inl fun e => absurd e.2 hn, fun e => absurd e hn⟩

theorem abandonEntry_firm (h : Firm b s t) : Firm b s (abandonEntry t) := entry_firm rfl nofun h

theorem entryOver_firm (h : Firm b s t) : Firm b s (entryOver t) := entry_firm rfl nofun h

theorem entryTo_firm {e : EntryStep} (he : e ≠ .askedDormant) (h : Firm b s t) : Firm b s (entryTo t e) := by
  refine entry_firm (t := t) rfl (fun x hx => ?_) h
  obtain ⟨y, -, rfl⟩ := Option.map_eq_some_iff.mp hx
  exact he

end Sys2Proof.Machine
end

section
/-! PROOF. The operations of ports, the journal, proposals, entries, changes and messages leave what the fence and the retention set rest on (R165, R288). -/

namespace Sys2Proof.Machine

variable {b : Bool} {s t u : State}

theorem portServe_firm {f : State → State} (h : Firm b s t) (hf : ∀ u, Firm b s u → Firm b s (f u)) : Firm b s (portServe t f) := Firm.ite h (hf _ h)

theorem portAnswer_firm {p : Port} {w : Word} {err : Bool} (h : Firm b s t) : Firm b s (portAnswer t p w err) := by
  unfold portAnswer
  split <;> exact h.put rfl

theorem portDone_firm {p : Port} (h : Firm b s t) : Firm b s (portDone t p) := portAnswer_firm h

theorem doneUnlessHeld_firm {p : Port} (h : Firm b s u) : Firm b s (doneUnlessHeld t u p) := Firm.ite (portDone_firm h) h

theorem tnPut_firm {t' : ℕ} {x : TenantSt} (h : Firm b s t) : Firm b s (tnPut t t' x) := h.put rfl

theorem twRaise_firm {t' f : ℕ} (h : Firm b s t) : Firm b s (twRaise t t' f) := tnPut_firm h

theorem denied_firm {t' : ℕ} (h : Firm b s t) : Firm b s (denied t t') := Firm.ite (twRaise_firm (tnPut_firm h)) h

theorem noteBusy_firm (h : Firm b s t) : Firm b s (noteBusy t) := h.put rfl

theorem apPut_firm {r' : AperReq} (h : Firm b s t) : Firm b s (apPut t r') := by
  unfold apPut
  split <;> exact h.put rfl

theorem apRequest_firm {p : Purpose} {write : Bool} {offset : ℕ} {data : List Word} (h : Firm b s t) : Firm b s (apRequest t p write offset data) :=
  apPut_firm h

theorem jnlCopy_firm {r' : Rec} (h : Firm b s t) : Firm b s (jnlCopy t r') := by
  unfold jnlCopy
  refine Firm.ite ?_ h
  split
  · exact h
  · exact Firm.put (apRequest_firm (apRequest_firm h)) rfl

theorem raiseStatus_firm {f : ℕ} (h : Firm b s t) : Firm b s (raiseStatus t f) := h.put rfl

theorem jnlPut_firm {p : Purpose} {r' : Rec} (h : Firm b s t) : Firm b s (jnlPut t p r') :=
  Firm.ite (Firm.ite (raiseStatus_firm (Firm.put (apRequest_firm h) rfl)) (Firm.put (apRequest_firm h) rfl)) h

theorem jnlRatedW1_firm {tenant : ℕ} {code : Byte} {arg : BitVec 24} {w1 : Word} {t' : ℕ} {ws : List (ℕ × Word)} (h : Firm b s t) : Firm b s
    (jnlRatedW1 t tenant code arg w1 t' ws) :=
  Firm.ite (Firm.ite (h.put rfl) (jnlCopy_firm (jnlPut_firm (h.put rfl)))) h

theorem jnlRated_firm {tenant : ℕ} {code : Byte} {arg : BitVec 24} {t' : ℕ} {ws : List (ℕ × Word)} (h : Firm b s t) : Firm b s
    (jnlRated t tenant code arg t' ws) :=
  jnlRatedW1_firm h

theorem refuse_firm {t' : SleepTarget} {code : BitVec 4} {detail : Word} (h : Firm b s t) : Firm b s (refuse t t' code detail) := by
  unfold refuse
  extract_lets n c1 s1 c2 s2
  have h1 : Firm b s s1 := entry_firm (t := t) rfl nofun h
  have h2 : Firm b s s2 := h1.put rfl
  exact jnlRated_firm h2

theorem activity_firm {beat : Bool} (h : Firm b s t) : Firm b s (activity t beat) := by
  unfold activity
  extract_lets s0 s1
  have h0 : Firm b s s0 := noteBusy_firm h
  have h1 : Firm b s s1 := by
    unfold s1
    split
    · exact Firm.ite (abandonEntry_firm h0) h0
    · exact Firm.ite (Firm.ite (refuse_firm h0) (abandonEntry_firm h0)) h0
  exact Firm.ite ((setMode_firm (m := .serving) nofun nofun h1).put rfl) h1

theorem deniedWrite_firm {t' : ℕ} (h : Firm b s t) : Firm b s (deniedWrite t t') := Firm.ite (denied_firm (activity_firm h)) h

theorem pwrAsk_firm {code : BitVec 3} (h : Firm b s t) : Firm b s (pwrAsk t code) := h.put rfl

/-! ### Parties and proposals -/

theorem resetRequest_firm (h : Firm b s t) : Firm b s (resetRequest t) := Firm.ite h (Firm.ite (pwrAsk_firm (h.put rfl)) (h.put rfl))

theorem sleepIgnore_firm {addr : BitVec 22} (h : Firm b s t) : Firm b s (sleepIgnore t addr) := h.put rfl

theorem rejectWrite_firm {addr : BitVec 22} (h : Firm b s t) : Firm b s (rejectWrite t addr) := h.put rfl

theorem resetCmd_firm {p : Port} {w : Word} (h : Firm b s t) : Firm b s (resetCmd t p w) := by
  unfold resetCmd
  split
  · exact Firm.ite (deniedWrite_firm h) h
  · exact Firm.ite (resetRequest_firm h) (Firm.ite (Firm.ite (sleepIgnore_firm h) (rejectWrite_firm h)) h)
  · exact Firm.ite (resetRequest_firm h) h

theorem portWrite_firm {p : Port} {reach : Bool} {addr : BitVec 22} {f : State → State} (h : Firm b s t) (hf : ∀ u, Firm b s u → Firm b s (f u)) :
    Firm b s (portWrite t p reach addr f) := by
  unfold portWrite
  refine Firm.ite ?_ h
  split
  · exact Firm.ite (Firm.ite (sleepIgnore_firm h) h) (Firm.ite (hf _ (activity_firm h)) (activity_firm h))
  · exact Firm.ite (deniedWrite_firm h) (Firm.ite h (hf _ (activity_firm h)))
  · exact h

theorem partyWrite_firm {p : Party} {addr : BitVec 22} {f : State → State} (h : Firm b s t) (hf : ∀ u, Firm b s u → Firm b s (f u)) : Firm b s
    (partyWrite t p addr f) := by
  unfold partyWrite
  split
  · exact portWrite_firm h (fun _ h => hf _ h)
  · exact Firm.ite (hf _ (activity_firm h)) h

theorem dcPut_firm {p : Party} {d : PartyUnit} (h : Firm b s t) : Firm b s (dcPut t p d) := by
  unfold dcPut
  split <;> exact h.put rfl

theorem jnl_firm {code : Byte} {arg : BitVec 24} {t' : ℕ} {ws : List (ℕ × Word)} (h : Firm b s t) : Firm b s (jnl t code arg t' ws) :=
  jnlCopy_firm (jnlPut_firm h)

theorem jnlDc_firm {p : Party} {d : PartyUnit} {code : Byte} {cause : ℕ} {w7 : Bool} {result : ℕ} (h : Firm b s t) : Firm b s
    (jnlDc t p d code cause w7 result) :=
  jnl_firm h

theorem dcRaise_firm {p : Party} {f : ℕ} (h : Firm b s t) : Firm b s (dcRaise t p f) := raiseStatus_firm (dcPut_firm h)

theorem propose_firm {p : Party} (h : Firm b s t) : Firm b s (propose p t) :=
  Firm.ite (jnlDc_firm (dcRaise_firm (dcPut_firm (h.put rfl)))) (dcRaise_firm h)

theorem propEnd_firm {p : Party} (h : Firm b s t) : Firm b s (propEnd t p) := dcPut_firm (noteBusy_firm h)

theorem propClose_firm {p : Party} {flag : ℕ} {code : Byte} {cause : ℕ} (h : Firm b s t) : Firm b s (propClose t p flag code cause) :=
  Firm.ite (jnlDc_firm (dcRaise_firm (propEnd_firm h))) h

theorem withdraw_firm {p : Party} (h : Firm b s t) : Firm b s (withdraw p t) := propClose_firm h

theorem veto_firm {p : Party} {idLo : Word} (h : Firm b s t) : Firm b s (veto p idLo t) := by
  unfold veto
  dsimp only
  split
  · exact dcRaise_firm h
  · exact h
  · exact Firm.ite (propClose_firm h) (dcRaise_firm h)

theorem dcCmdPut_firm {p : Party} {w : Word} (h : Firm b s t) : Firm b s (dcCmdPut p w t) :=
  Firm.ite (propose_firm h) (Firm.ite (withdraw_firm h) (Firm.ite (veto_firm h) h))

/-! ### Entry access -/

theorem eaPut_firm {u : EaId} {e : EaUnit} (h : Firm b s t) : Firm b s (eaPut t u e) := by
  unfold eaPut
  split <;> exact h.put rfl

theorem pollSum_firm (h : Firm b s t) : Firm b s (pollSum t) := h.put rfl

theorem scClear_firm {r' : ScReg} {w : Word} (h : Firm b s t) : Firm b s (scClear t r' w) := by
  unfold scClear
  split
  · exact h.put rfl
  · exact h.put rfl
  · exact eaPut_firm h
  · exact tnPut_firm h
  · exact dcPut_firm h
  · exact pollSum_firm (sumClear_firm h)

theorem eaRaise_firm {u : EaId} {m : BitVec 24} (h : Firm b s t) : Firm b s (eaRaise t u m) := eaPut_firm (h.put rfl)

theorem fenceCheck_firm {u : EaId} (h : Firm b s t) : Firm b s (fenceCheck t u) := by
  unfold fenceCheck
  split
  · exact Firm.ite (eaRaise_firm (eaPut_firm h)) h
  · exact h

theorem fenceAll_firm (h : Firm b s t) : Firm b s (fenceAll t) := forEach_firm (fenceCheck_firm h) (fun _ _ => fenceCheck_firm)

theorem propDone_firm {p : Party} {ok : Bool} (h : Firm b s t) : Firm b s (propDone t p ok) := Firm.ite h (jnlDc_firm (dcRaise_firm (propEnd_firm h)))

theorem changeReport_firm {c : Change} {ok : Bool} (h : Firm b s t) : Firm b s (changeReport t c ok) := by
  unfold changeReport
  dsimp only
  split
  · exact propDone_firm h
  · split
    · exact twRaise_firm (eaRaise_firm (eaPut_firm h))
    · exact eaRaise_firm (eaPut_firm h)

theorem jnlCfgReject_firm {index kind reason caller owner : ℕ} (h : Firm b s t) : Firm b s (jnlCfgReject t index kind reason caller owner) :=
  jnlRated_firm h

theorem entryReject_firm {kind i reason code : ℕ} (h : Firm b s t) : Firm b s (entryReject t kind i reason code) :=
  jnlCfgReject_firm (raiseStatus_firm h)

theorem changeRefused_firm {c : Change} {kind i : ℕ} (h : Firm b s t) : Firm b s (changeRefused t c kind i) := changeReport_firm (entryReject_firm h)

theorem fetchVte_firm {h' : ℕ} (h : Firm b s t) : Firm b s (fetchVte t h') := Firm.ite h (apRequest_firm h)

theorem changeForeign_firm {c : Change} (h : Firm b s t) : Firm b s (changeForeign t c) := by
  unfold changeForeign
  split
  · exact h
  · exact eaRaise_firm (eaPut_firm h)

theorem vtePut_firm {h' : ℕ} {v : Vte} (h : Firm b s t) : Firm b s (vtePut t h' v) := h.put rfl

theorem tgtPut_firm {t' : ℕ} {g : Tgt} (h : Firm b s t) : Firm b s (tgtPut t t' g) := h.put rfl

theorem heapRefill_firm (h : Firm b s t) : Firm b s (heapRefill t) := by
  unfold heapRefill
  refine Firm.ite ?_ h
  split
  · exact h
  · exact h.put rfl

/-! ### Streams, rounds and the open write -/

theorem strobe_firm (h : Firm b s t) : Firm b s (strobe t) := Firm.ite (h.put rfl) h

theorem coalRec_firm {o : Out} (h : Firm b s t) : Firm b s (coalRec t o) := Firm.ite (h.put rfl) h

theorem lateRec_firm {t' : ℕ} {o : Out} {issue : ℕ} (h : Firm b s t) : Firm b s (lateRec t t' o issue) := Firm.ite (jnlRated_firm (h.put rfl)) h

theorem enqueue_firm {h' : ℕ} (h : Firm b s t) : Firm b s (enqueue t h') := Firm.ite h (h.put rfl)

theorem vecPut_firm {h' : ℕ} {v : Vec} (h : Firm b s t) : Firm b s (vecPut t h' v) := h.put rfl

theorem outcomeGather_firm {h' : ℕ} {ok : Bool} (h : Firm b s t) : Firm b s (outcomeGather t h' ok) := enqueue_firm (vecPut_firm h)

theorem jnlFault_firm {t' : ℕ} {code : Byte} {src : BitVec 8} {arg : BitVec 24} {w5 w6 : Word} {inj : Bool} (h : Firm b s t) : Firm b s
    (jnlFault t t' code src arg w5 w6 inj) :=
  Firm.ite (jnlRatedW1_firm h) (jnlPut_firm h)

theorem correctedAt_firm {t' : ℕ} {src : BitVec 8} {arg : BitVec 24} {inj : Bool} (h : Firm b s t) : Firm b s (correctedAt t t' src arg inj) :=
  jnlFault_firm (faultCount_firm (sourceFlag_free src) h)

theorem corrected_firm {src : BitVec 8} {arg : BitVec 24} {inj : Bool} (h : Firm b s t) : Firm b s (corrected t src arg inj) := correctedAt_firm h

theorem injectSpent_firm (h : Firm b s t) : Firm b s (injectSpent t) := h.put rfl

theorem roundCompare_firm {h' : BitVec 24} {check : PlaneCheck} (h : Firm b s t) : Firm b s (roundCompare t h' check).1 := by
  unfold roundCompare
  by_cases hb : bothPlanes t = true
  · have hf : t.flt.fenced = 0 := by simp only [bothPlanes, Bool.and_eq_true, decide_eq_true_eq] at hb; exact hb.1
    rw [hb, if_neg (by decide)]
    split
    · exact h
    · refine Firm.ite_fst ?_ (Firm.ite_fst ?_ (Firm.ite_fst ?_ ?_))
      · show Firm b s (corrected (injectSpent t) 0x01 (laneOf h'.toNat) true)
        exact corrected_firm (injectSpent_firm h)
      · exact holdRound_firm hf (injectSpent_firm h)
      · exact holdRound_firm hf (injectSpent_firm h)
      cases check with
      | agree => exact h
      | residueError => exact h
      | retryAgrees =>
        show Firm b s (corrected t 0x01 (laneOf h'.toNat) false)
        exact corrected_firm h
      | disagree => exact holdRound_firm hf h
  · rw [Bool.eq_false_iff.mpr hb, if_pos (by decide)]
    refine Firm.ite_fst ?_ h
    show Firm b s (fatalFault t 0x22 (laneOf h'.toNat) false)
    exact fatalFault_firm h

theorem outcomeAt_firm {h' : ℕ} {ok : Bool} {act : State → ℕ → State} (h : Firm b s t) (hact : ∀ u x1, Firm b s u → Firm b s (act u x1)) : Firm b s
    (outcomeAt t h' ok act) :=
  Firm.ite (outcomeGather_firm h) (Firm.ite (hact _ _ (roundCompare_firm h)) (outcomeGather_firm (roundCompare_firm h)))

theorem acceptVec_firm {h' : ℕ} (h : Firm b s t) : Firm b s (acceptVec t h') := by
  unfold acceptVec
  dsimp only
  split
  · exact vecPut_firm h
  · exact h

theorem owedPut_firm {h' : ℕ} {o : Owed} (h : Firm b s t) : Firm b s (owedPut t h' o) := h.put rfl

theorem vteHw_firm {h' : ℕ} {v : Vte} (h : Firm b s t) : Firm b s (vteHw t h' v) := (vtePut_firm (h' := h') (v := v) h).put rfl

theorem addDelivered_firm {h' t' : ℕ} (h : Firm b s t) : Firm b s (addDelivered t h' t') := by
  unfold addDelivered
  split
  · exact owedPut_firm h
  · exact vteHw_firm h

theorem acceptOne_firm {t' h' : ℕ} (h : Firm b s t) : Firm b s (acceptOne t' t h') :=
  Firm.ite (fetchVte_firm (addDelivered_firm (Firm.put (outcomeAt_firm h (fun _ _ => acceptVec_firm)) rfl)))
    (addDelivered_firm (Firm.put (outcomeAt_firm h (fun _ _ => acceptVec_firm)) rfl))

theorem wdogFix_firm {t' : ℕ} (h : Firm b s t) : Firm b s (wdogFix t t') := Firm.ite (Firm.ite h (tgtPut_firm h)) (Firm.ite (tgtPut_firm h) h)

theorem acceptRecs_firm {t' : ℕ} {hs : List ℕ} (h : Firm b s t) : Firm b s (acceptRecs t t' hs) :=
  wdogFix_firm (tgtPut_firm (forEach_firm h (fun _ _ => acceptOne_firm)))

theorem closeWrite_firm (h : Firm b s t) : Firm b s (closeWrite t) := by
  unfold closeWrite
  split
  · exact h
  · extract_lets tt g issue bytes c s1 hs a
    have h1 : Firm b s s1 := forEach_firm (h.put rfl) fun _ _ h => strobe_firm (coalRec_firm (lateRec_firm h))
    refine Firm.ite h (Firm.ite (acceptRecs_firm (h1.put rfl)) ?_)
    split
    · exact h1.put rfl
    · exact h

theorem closeWriteOf_firm {t' : ℕ} (h : Firm b s t) : Firm b s (closeWriteOf t t') := by
  unfold closeWriteOf
  split
  · exact Firm.ite (closeWrite_firm h) h
  · exact h

theorem bellSent_firm {t' : ℕ} (h : Firm b s t) : Firm b s (bellSent t t') := tgtPut_firm h

theorem pumpBells_firm {n : ℕ} (h : Firm b s t) : Firm b s (pumpBells n t) := by
  induction n generalizing t with
  | zero => exact h
  | succ n ih =>
    unfold pumpBells
    split
    · extract_lets tt c s1
      have h1 : Firm b s s1 := h.put rfl
      exact Firm.ite (ih h1) (Firm.ite h (ih (bellSent_firm (h1.put rfl))))
    · exact h

theorem sendBell_firm {t' : ℕ} (h : Firm b s t) : Firm b s (sendBell t t') := Firm.ite h (Firm.ite (tgtPut_firm h) (pumpBells_firm (h.put rfl)))

theorem batchEnd_firm {t' : ℕ} (h : Firm b s t) : Firm b s (batchEnd t t') := by
  unfold batchEnd
  split
  · exact h
  · exact Firm.ite (sendBell_firm (tgtPut_firm (tgtPut_firm (closeWriteOf_firm h)))) (tgtPut_firm (closeWriteOf_firm h))

theorem settleStream_firm {t' : ℕ} (h : Firm b s t) : Firm b s (settleStream t t') :=
  Firm.ite (heapRefill_firm (batchEnd_firm (Firm.ite (tgtPut_firm (h.put rfl)) (h.put rfl)))) h

theorem leaveStream_firm {h' : ℕ} (h : Firm b s t) : Firm b s (leaveStream t h') := by
  unfold leaveStream
  dsimp only
  split
  · exact h
  · split
    · exact h
    · exact settleStream_firm (vecPut_firm (noteBusy_firm h))

/-! ### Boundaries of changes -/

theorem vteRetarget_firm {h' : ℕ} {n : VteCfg} (h : Firm b s t) : Firm b s (vteRetarget t h' n) := by
  unfold vteRetarget
  dsimp only
  split
  · exact h
  · exact Firm.ite h (leaveStream_firm h)

theorem vteGens_firm {h' : ℕ} {sn : Snap} {sameTenant : Bool} (h : Firm b s t) : Firm b s (vteGens t h' sn sameTenant) :=
  Firm.ite (vecPut_firm (vteRetarget_firm h)) (vecPut_firm h)

theorem dropEv_firm {h' : ℕ} (h : Firm b s t) : Firm b s (dropEv t h') := vecPut_firm (leaveStream_firm h)

theorem addDropped_firm {h' n : ℕ} (h : Firm b s t) : Firm b s (addDropped t h' n) := by
  unfold addDropped
  split
  · exact owedPut_firm h
  · exact vteHw_firm h

theorem vteDiscard_firm {h' : ℕ} (h : Firm b s t) : Firm b s (vteDiscard t h') := addDropped_firm (vecPut_firm (dropEv_firm h))

theorem pinChange_firm {h' : ℕ} {pin : Bool} (h : Firm b s t) : Firm b s (pinChange t h' pin).1 :=
  Firm.ite_fst h (Firm.ite_fst (Firm.ite_fst h (Firm.ite_fst (h.put rfl) h)) (h.put rfl))

theorem vteStore_firm {h' : ℕ} (h : Firm b s t) : Firm b s (vteStore t h') := by
  unfold vteStore
  split
  · exact h
  · extract_lets n s1
    have h1 : Firm b s s1 := vtePut_firm (apRequest_firm h)
    exact h1.put rfl

theorem vteInstall_firm {h' : ℕ} {e : Vte} {n : VteCfg} {c : Change} (h : Firm b s t) : Firm b s (vteInstall t h' e n c) :=
  changeReport_firm (Firm.ite (entryReject_firm (vteStore_firm (pinChange_firm
    (Firm.ite (vteGens_firm (vtePut_firm h)) (vteDiscard_firm (vteGens_firm (vtePut_firm h)))))))
    (vteStore_firm (pinChange_firm (Firm.ite (vteGens_firm (vtePut_firm h)) (vteDiscard_firm (vteGens_firm (vtePut_firm h)))))))

theorem vteApply_firm {h' : ℕ} {c : Change} (h : Firm b s t) (hu : vteApply t h' c = some u) : Firm b s u := by
  unfold vteApply at hu
  split at hu
  · exact absurd hu nofun
  · extract_lets w n at hu
    split at hu
    · exact Option.some.inj hu ▸ changeForeign_firm h
    · split at hu
      · exact absurd hu nofun
      · split at hu
        · exact Option.some.inj hu ▸ vteInstall_firm h
        · exact Option.some.inj hu ▸ changeRefused_firm h

theorem vteBoundary_firm {k h' : ℕ} (h : Firm b s t) : Firm b s (vteBoundary k t h') := by
  induction k generalizing t with
  | zero => exact h
  | succ k ih =>
    unfold vteBoundary
    refine Firm.ite h ?_
    split
    · exact h
    · split
      · exact h
      · next hu => exact ih (vecPut_firm (vteApply_firm h hu))

theorem vteTry_firm {h' : ℕ} (h : Firm b s t) : Firm b s (vteTry t h') :=
  Firm.ite h (Firm.ite (fetchVte_firm h) (Firm.ite (vteBoundary_firm h) (enqueue_firm h)))

theorem clearUnreach_firm {t' : ℕ} {always : Bool} (h : Firm b s t) : Firm b s (clearUnreach t t' always) :=
  Firm.ite (sendBell_firm (wdogFix_firm (tgtPut_firm h))) (wdogFix_firm (tgtPut_firm h))

theorem tdStore_firm {t' : ℕ} (h : Firm b s t) : Firm b s (tdStore t t') := Firm.put (apRequest_firm h) rfl

theorem tdInstall_firm {t' : ℕ} {g n : Tgt} (h : Firm b s t) : Firm b s (tdInstall t t' g n) :=
  tdStore_firm (Firm.ite (clearUnreach_firm (Firm.ite (batchEnd_firm (tgtPut_firm h)) (tgtPut_firm h)))
    (wdogFix_firm (Firm.ite (batchEnd_firm (tgtPut_firm h)) (tgtPut_firm h))))

theorem tdApply_firm {t' : ℕ} {c : Change} (h : Firm b s t) : Firm b s (tdApply t t' c) :=
  Firm.ite (changeReport_firm (tdInstall_firm h)) (changeRefused_firm h)

theorem tdBoundary_firm {k t' : ℕ} (h : Firm b s t) : Firm b s (tdBoundary k t t') := by
  induction k generalizing t with
  | zero => exact h
  | succ k ih =>
    unfold tdBoundary
    refine Firm.ite h ?_
    split
    · exact h
    · exact ih (tdApply_firm (tgtPut_firm h))

theorem groupPut_firm {g : ℕ} {x : Group} (h : Firm b s t) : Firm b s (groupPut t g x) := h.put rfl

theorem groupApply_firm {i : ℕ} {c : Change} (h : Firm b s t) : Firm b s (groupApply t i c) :=
  Firm.ite (changeReport_firm (apRequest_firm (groupPut_firm h))) (changeRefused_firm h)

theorem groupBoundary_firm {k g : ℕ} (h : Firm b s t) : Firm b s (groupBoundary k t g) := by
  induction k generalizing t with
  | zero => exact h
  | succ k ih =>
    unfold groupBoundary
    split
    · exact h
    · exact ih (groupApply_firm (groupPut_firm h))

theorem groupSettle_firm {gi : ℕ} (h : Firm b s t) : Firm b s (groupSettle t gi) := groupBoundary_firm h

theorem groupTry_firm {gi : ℕ} (h : Firm b s t) : Firm b s (groupTry t gi) := Firm.ite (groupSettle_firm h) h

theorem couchPut_firm {g : ℕ} {c : Couch} (h : Firm b s t) : Firm b s (couchPut t g c) := h.put rfl

theorem calEnter_firm {id : ℕ} (h : Firm b s t) : Firm b s (calEnter t id) := Firm.ite h (Firm.ite (h.put rfl) (h.put rfl))

theorem calLeave_firm {id : ℕ} (h : Firm b s t) : Firm b s (calLeave t id) :=
  Firm.ite ((by split <;> exact h.put rfl)) (Firm.ite (h.put rfl) h)

theorem couchCalendar_firm {g : ℕ} (h : Firm b s t) : Firm b s (couchCalendar t g) := Firm.ite (calEnter_firm h) (calLeave_firm h)

theorem couchRelease_firm {g : ℕ} (h : Firm b s t) : Firm b s (couchRelease t g) := couchPut_firm (h.put rfl)

theorem couchChange_firm {g : ℕ} {c : Couch} (h : Firm b s t) : Firm b s (couchChange t g c) :=
  Firm.ite (couchCalendar_firm (couchPut_firm h)) (couchCalendar_firm (couchPut_firm (couchRelease_firm (couchPut_firm h))))

theorem couchApply_firm {g : ℕ} {c : Change} (h : Firm b s t) : Firm b s (couchApply t g c) :=
  Firm.ite (changeReport_firm (Firm.ite (entryReject_firm (apRequest_firm (couchChange_firm h))) (apRequest_firm (couchChange_firm h))))
    (changeRefused_firm h)

theorem couchBoundary_firm {k g : ℕ} (h : Firm b s t) : Firm b s (couchBoundary k t g) := by
  induction k generalizing t with
  | zero => exact h
  | succ k ih =>
    unfold couchBoundary
    split
    · exact h
    · exact ih (couchApply_firm (couchPut_firm h))

theorem couchTry_firm {g : ℕ} (h : Firm b s t) : Firm b s (couchTry t g) := Firm.ite (couchBoundary_firm h) h

theorem submitOne_firm {kind i : ℕ} {c : Change} (h : Firm b s t) : Firm b s (submitOne t kind i c) :=
  Firm.ite (changeRefused_firm h) (Firm.ite (vteTry_firm (vecPut_firm h))
    (Firm.ite (tdBoundary_firm (tgtPut_firm h)) (Firm.ite (groupTry_firm (groupPut_firm h)) (couchTry_firm (couchPut_firm h)))))

theorem submit_firm {kind i : ℕ} {c : Change} (h : Firm b s t) : Firm b s (submit t kind i c) := fenceAll_firm (submitOne_firm h)

theorem opOver_firm (h : Firm b s t) : Firm b s (opOver t) := Firm.put (noteBusy_firm h) rfl

/-! ### Faults and messages -/

theorem creditBack_firm {lane : Fin 4} (h : Firm b s t) : Firm b s (creditBack t lane) := h.put rfl

theorem noise_firm {b' : Beat} {stamp reason : ℕ} {h' : Option ℕ} (h : Firm b s t) : Firm b s (noise t b' stamp reason h') := by
  unfold noise
  refine jnlRated_firm ?_
  split
  · exact addDropped_firm (raiseStatus_firm (h.put rfl))
  · exact raiseStatus_firm (h.put rfl)

theorem deferredCount_firm {src : BitVec 8} {arg : BitVec 24} {inj : Bool} (h : Firm b s t) : Firm b s (deferredCount t src arg inj) :=
  Firm.ite (fatalFault_firm h) (faultCount_firm (sourceFlag_free src) h)

theorem deferredAt_firm {t' : ℕ} {src : BitVec 8} {arg : BitVec 24} {w5 w6 : Word} {inj : Bool} (h : Firm b s t) : Firm b s
    (deferredAt t t' src arg w5 w6 inj) :=
  Firm.ite (fatalFault_firm h) (jnlFault_firm (deferredCount_firm h))

theorem faultAt_firm {t' : ℕ} {src : BitVec 8} {arg : BitVec 24} {inj : Bool} (h : Firm b s t) : Firm b s (faultAt t t' src arg inj) :=
  Firm.ite (correctedAt_firm h) (deferredAt_firm h)

theorem faultFound_firm {src : BitVec 8} {arg : BitVec 24} {inj : Bool} (h : Firm b s t) : Firm b s (faultFound t src arg inj) :=
  Firm.ite (h.put rfl) (faultAt_firm h)

theorem vteReload_firm {h' : ℕ} (h : Firm b s t) : Firm b s (vteReload t h') := Firm.ite h (apRequest_firm (h.put rfl))

theorem cacheRead_firm {h' : ℕ} (h : Firm b s t) : Firm b s (cacheRead t h') :=
  Firm.ite h (Firm.ite (faultFound_firm (injectSpent_firm h)) (Firm.ite (vteReload_firm (faultFound_firm (injectSpent_firm h))) h))

theorem vatPut_firm {x : Slot} (h : Firm b s t) : Firm b s (vatPut t x) := h.put rfl

theorem quarCount_firm {p : BitVec 8} {sender : BitVec 12} (h : Firm b s t) : Firm b s (quarCount t p sender) :=
  Firm.ite (jnl_firm (h.put rfl)) (h.put rfl)

theorem stranger_firm {b' : Beat} {stamp reason h' : ℕ} {e : Vte} (h : Firm b s t) : Firm b s (stranger t b' stamp reason h' e) :=
  quarCount_firm (jnlRated_firm (twRaise_firm (tnPut_firm (addDropped_firm (raiseStatus_firm (h.put rfl))))))

theorem postResolve_firm {x : Slot} {h' : ℕ} {e : Vte} (h : Firm b s t) : Firm b s (postResolve t x h' e) :=
  Firm.ite (creditBack_firm (noise_firm h)) (Firm.ite (creditBack_firm (noise_firm h))
    (Firm.ite (creditBack_firm (stranger_firm h)) (Firm.ite (creditBack_firm (stranger_firm h))
    (Firm.ite (jnlRated_firm (enqueue_firm (vatPut_firm h))) (enqueue_firm (vatPut_firm h))))))

theorem touch_firm {h' : ℕ} (h : Firm b s t) : Firm b s (touch t h') := h.put rfl

theorem resolve_firm {x : Slot} (h : Firm b s t) : Firm b s (resolve t x) := by
  unfold resolve
  dsimp only
  split
  · exact creditBack_firm (noise_firm h)
  · refine Firm.ite (creditBack_firm (noise_firm h)) (Firm.ite (creditBack_firm (noise_firm h)) ?_)
    split
    · exact Firm.ite (vatPut_firm (cacheRead_firm h)) (postResolve_firm (touch_firm (cacheRead_firm h)))
    · exact fetchVte_firm (vatPut_firm (cacheRead_firm h))

theorem releaseParked_firm {p : Slot → Bool} (h : Firm b s t) : Firm b s (releaseParked t p) :=
  forEach_firm (h.put rfl) (fun _ _ => resolve_firm)

theorem releaseAll_firm (h : Firm b s t) : Firm b s (releaseAll t) := Firm.ite (releaseParked_firm h) h

end Sys2Proof.Machine
end

section
/-! PROOF. Register writes leave what the fence and the retention set rest on: those of IV_CTL, of IV_LOCK and of the journal's place apart (R275, R278, R335). -/

namespace Sys2Proof.Machine

variable {b : Bool} {s t u : State}

theorem fuFail_firm {op : Option FurnOp} {e : FurnErr} {bid : DWord} (h : Firm b s t) : Firm b s (fuFail t op e bid) :=
  releaseAll_firm (jnl_firm (Firm.put (opOver_firm h) rfl))

theorem opFail_firm {e : FurnErr} (h : Firm b s t) : Firm b s (opFail t e) := fuFail_firm h

theorem takeDigest_firm {d : Digest} {tenantOk : Bool} (h : Firm b s t) : Firm b s (takeDigest t d tenantOk) :=
  Firm.ite (opFail_firm (h.put rfl)) (Firm.ite (opFail_firm (h.put rfl)) (Firm.put (h.put rfl) rfl))

theorem loaderTake_firm (h : Firm b s t) : Firm b s (loaderTake t) := by
  unfold loaderTake
  refine Firm.ite ?_ h
  split
  · exact takeDigest_firm h
  · exact takeDigest_firm h
  · exact takeDigest_firm h
  · exact h

theorem approveOpen_firm {o : Party} {d : PartyUnit} (h : Firm b s t) : Firm b s (approveOpen t o d) :=
  Firm.ite (submit_firm (dcPut_firm h)) (Firm.ite (propDone_firm (h.put rfl)) (loaderTake_firm (propDone_firm (h.put rfl))))

theorem approve_firm {p : Party} {idHi : Word} (h : Firm b s t) : Firm b s (approve p idHi t) := by
  unfold approve
  dsimp only
  split
  · exact dcRaise_firm h
  · exact Firm.ite h (dcRaise_firm h)
  · exact Firm.ite (approveOpen_firm h) (dcRaise_firm h)

theorem stageWrite_firm {p : Party} {form : Form} {n : Fin 16} {w : Word} (h : Firm b s t) : Firm b s (stageWrite p form n w t) :=
  Firm.ite h (dcPut_firm (propClose_firm h))

theorem securityWrite_firm {a : ℕ} {w : Word} (h : Firm b s t) : Firm b s (securityWrite t a w) :=
  Firm.ite (resetCmd_firm h) (Firm.ite h (partyWrite_firm h (fun _ h => Firm.ite (dcCmdPut_firm h)
    (Firm.ite (scClear_firm h) (Firm.ite (dcPut_firm h) (Firm.ite (approve_firm h) (Firm.ite (veto_firm h) (Firm.ite (stageWrite_firm h) h))))))))

theorem wakeSource_firm {cause : BitVec 4} (h : Firm b s t) : Firm b s (wakeSource t cause) := by
  unfold wakeSource
  refine Firm.ite ?_ h
  split
  · exact h
  · split <;> exact h.put rfl

theorem queueHold_firm {q : Queued} (h : Firm b s t) : Firm b s (queueHold t q) := wakeSource_firm (h.put rfl)

theorem queueEoi_firm {q : Queued} (h : Firm b s t) : Firm b s (queueEoi t q) := Firm.ite (h.put rfl) (queueHold_firm h)

theorem queueHint_firm {q : Queued} (h : Firm b s t) : Firm b s (queueHint t q) := Firm.ite (h.put rfl) (queueHold_firm h)

theorem queueWrite_firm {q : Queued} (h : Firm b s t) : Firm b s (queueWrite t q) := by
  unfold queueWrite
  split
  · exact queueEoi_firm h
  · exact queueHint_firm h

theorem eoiStray_firm {h' t' reason : ℕ} {active : Word} (h : Firm b s t) : Firm b s (eoiStray t h' t' reason active) :=
  jnlRated_firm (h.put rfl)

theorem applyEoi_firm {t' h' : ℕ} (h : Firm b s t) : Firm b s (applyEoi t t' h') := Firm.ite (enqueue_firm (vecPut_firm h)) (eoiStray_firm h)

theorem settleAll_firm (h : Firm b s t) : Firm b s (settleAll t) :=
  fenceAll_firm (forEach_firm (forEach_firm (forEach_firm h (fun _ _ => tdBoundary_firm)) (fun _ _ => groupTry_firm)) (fun _ _ => couchTry_firm))

theorem memberSleeps_firm {t' : ℕ} (h : Firm b s t) : Firm b s (memberSleeps t t') := forEach_firm h (fun _ _ => leaveStream_firm)

theorem applyHint_firm {t' : ℕ} {v : BitVec 2} (h : Firm b s t) : Firm b s (applyHint t t' v) :=
  Firm.ite (settleAll_firm (memberSleeps_firm (tgtPut_firm h))) (tgtPut_firm h)

theorem applyHead_firm {t' : ℕ} {w : Word} (h : Firm b s t) : Firm b s (applyHead t t' w) :=
  Firm.ite (Firm.ite (tgtPut_firm h) (wdogFix_firm (tgtPut_firm h))) (tgtPut_firm h)

theorem applyRearm_firm {t' : ℕ} {mgmt : Bool} (h : Firm b s t) : Firm b s (applyRearm t t' mgmt) :=
  Firm.ite (tgtPut_firm h) (wdogFix_firm (Firm.ite (clearUnreach_firm
    (Firm.ite (tgtPut_firm h) (Firm.ite (tgtPut_firm (tgtPut_firm h)) (sendBell_firm (tgtPut_firm h)))))
    (Firm.ite (tgtPut_firm h) (Firm.ite (tgtPut_firm (tgtPut_firm h)) (sendBell_firm (tgtPut_firm h))))))

theorem applyQueued_firm {q : Queued} (h : Firm b s t) : Firm b s (applyQueued t q) := by
  unfold applyQueued
  split
  · exact applyEoi_firm h
  · exact applyHint_firm h
  · exact applyHead_firm h
  · exact applyRearm_firm h

theorem queuedWrite_firm {p : Port} {t' : BitVec 16} {off : ℕ} {q : Queued} (h : Firm b s t) : Firm b s (queuedWrite t p t' off q) :=
  Firm.ite (queueWrite_firm h) (portWrite_firm h (fun _ h => applyQueued_firm h))

theorem applyCprio_firm {p : Port} {t' : ℕ} {w : Word} (h : Firm b s t) : Firm b s (applyCprio t p t' w) := tgtPut_firm h

theorem targetPut_firm {p : Port} {t' : BitVec 16} {off : ℕ} {w : Word} (h : Firm b s t) : Firm b s (targetPut t p t' off w) :=
  Firm.ite (queuedWrite_firm h) (Firm.ite (queuedWrite_firm h) (Firm.ite (queuedWrite_firm h)
    (Firm.ite (queuedWrite_firm h) (portWrite_firm h (fun _ h => Firm.ite (applyCprio_firm h) h)))))

/-! ### Locks and the commands of entry access -/

theorem lockTake_firm {u : EaId} {kind : BitVec 3} {i : ℕ} {lease : BitVec 16} (h : Firm b s t) : Firm b s (lockTake t u kind i lease) := by
  unfold lockTake
  refine Firm.ite (eaRaise_firm h) ?_
  split
  · exact eaRaise_firm h
  · exact Firm.put (eaPut_firm h) rfl

theorem acquire_firm {u : EaId} {lease : BitVec 16} (h : Firm b s t) : Firm b s (acquire u lease t) := Firm.ite (eaRaise_firm h) (lockTake_firm h)

theorem eaLockPut_firm {u : EaId} {w : Word} (h : Firm b s t) : Firm b s (eaLockPut u w t) := Firm.ite (acquire_firm h) h

theorem ifIdle_firm {u : EaId} {f : State → State} (h : Firm b s t) (hf : ∀ u, Firm b s u → Firm b s (f u)) : Firm b s (ifIdle u t f) :=
  Firm.ite (eaRaise_firm h) (hf _ h)

theorem rowRead_firm {u : EaId} (h : Firm b s t) : Firm b s (rowRead t u) := Firm.ite (cacheRead_firm h) h

theorem eaRead_firm {u : EaId} (h : Firm b s t) : Firm b s (eaRead u t) := by
  unfold eaRead
  refine ifIdle_firm h (fun _ h => Firm.ite (eaRaise_firm h) (Firm.ite (eaRaise_firm (eaPut_firm h))
    (Firm.ite (eaPut_firm (rowRead_firm h)) (Firm.ite (eaPut_firm (rowRead_firm h)) ?_))))
  split
  · exact eaRaise_firm (eaPut_firm (Firm.ite (touch_firm (rowRead_firm h)) (rowRead_firm h)))
  · exact fetchVte_firm (eaPut_firm (rowRead_firm h))

theorem lockBreak_firm {u : EaId} {cause : ℕ} (h : Firm b s t) : Firm b s (lockBreak t u cause) := by
  unfold lockBreak
  dsimp only
  split
  · exact h
  · refine jnl_firm ?_
    split
    · exact raiseStatus_firm (eaRaise_firm (eaPut_firm h))
    · exact twRaise_firm (raiseStatus_firm (eaRaise_firm (eaPut_firm h)))

theorem leaseLapse_firm {u : EaId} (h : Firm b s t) : Firm b s (leaseLapse t u) := by
  unfold leaseLapse
  split
  · exact Firm.ite (lockBreak_firm h) h
  · exact h

theorem withLock_firm {u : EaId} {kind : BitVec 3} {i : ℕ} {f : State → Lock → State} (h : Firm b s t) (hf : ∀ u x1, Firm b s u → Firm b s (f u x1))
    : Firm b s (withLock t u kind i f) := by
  unfold withLock
  split
  · exact Firm.ite (hf _ _ h) (eaRaise_firm h)
  · exact eaRaise_firm h

theorem ifLocked_firm {u : EaId} {ok : Bool} {f : State → Lock → State} (h : Firm b s t) (hf : ∀ u x1, Firm b s u → Firm b s (f u x1)) : Firm b s
    (ifLocked u t ok f) :=
  ifIdle_firm (leaseLapse_firm h) (fun _ h => Firm.ite (eaRaise_firm h) (withLock_firm h (fun _ _ h2 => hf _ _ h2)))

theorem stageTake_firm {w : Words8} {u : EaId} {l : Lock} (h : Firm b s t) : Firm b s (stageTake w u t l) := eaPut_firm h

theorem eaStage_firm {u : EaId} (h : Firm b s t) : Firm b s (eaStage u t) := ifLocked_firm h (fun _ _ => stageTake_firm)

theorem eaApply_firm {p : Port} {u : EaId} (h : Firm b s t) : Firm b s (eaApply p u t) :=
  ifLocked_firm h (fun _ _ h => submit_firm (eaPut_firm (rowRead_firm h)))

theorem eaRelease_firm {u : EaId} (h : Firm b s t) : Firm b s (eaRelease u t) :=
  Firm.ite (eaRaise_firm h) (Firm.ite (eaRaise_firm h) (Firm.ite (eaPut_firm h) (eaRaise_firm h)))

theorem eaFence_firm {u : EaId} (h : Firm b s t) : Firm b s (eaFence u t) := by
  unfold eaFence
  dsimp only
  refine ifLocked_firm h (fun _ _ h => ?_)
  split
  · exact fenceCheck_firm (eaPut_firm (rowRead_firm h))
  · exact fetchVte_firm (eaPut_firm (rowRead_firm h))

theorem eaCmdPut_firm {p : Port} {u : EaId} {w : Word} (h : Firm b s t) : Firm b s (eaCmdPut p u w t) :=
  Firm.ite (eaRead_firm h) (Firm.ite (eaStage_firm h) (Firm.ite (eaApply_firm h) (Firm.ite (eaRelease_firm h) (Firm.ite (eaFence_firm h) h))))

theorem eaDataPut_firm {u : EaId} {i : ℕ} {v : Word} (h : Firm b s t) : Firm b s (eaDataPut u i v t) := eaPut_firm h

theorem windowPut_firm {p : Port} {t' : BitVec 12} {off : ℕ} {w : Word} (h : Firm b s t) : Firm b s (windowPut p t' off w t) :=
  Firm.ite (scClear_firm h) (Firm.ite (eaLockPut_firm h) (Firm.ite (eaPut_firm h)
    (Firm.ite (eaPut_firm h) (Firm.ite (eaCmdPut_firm h) (Firm.ite (scClear_firm h) (Firm.ite (eaDataPut_firm h) h))))))

theorem aoHold_firm {form : Form} {a : ℕ} {w : Word} {addr : BitVec 22} (h : Firm b s t) : Firm b s (aoHold t form a w addr) := h.put rfl

theorem unformedSettle_firm (h : Firm b s t) : Firm b s (unformedSettle t) :=
  settleAll_firm (forEach_firm (forEach_firm h (fun _ _ => vteTry_firm)) (fun _ _ => couchTry_firm))

/-! ### The mode and control -/

theorem modeChange_firm {m : Mode} {cause : ℕ} (hr : m ≠ .rest) (hd : m ≠ .dormant) (h : Firm b s t) : Firm b s (modeChange t m cause) :=
  jnlPut_firm (setMode_firm hr hd h)

theorem engineSettle_firm (h : Firm b s t) : Firm b s (engineSettle t) :=
  Firm.ite (unformedSettle_firm (modeChange_firm (m := .unformed) nofun nofun (entryOver_firm h))) h

theorem batchEndAll_firm (h : Firm b s t) : Firm b s (batchEndAll t) := forEach_firm h (fun _ _ => batchEnd_firm)

theorem sleptIn_firm {h' n : ℕ} (h : Firm b s t) : Firm b s (sleptIn t h' n) := Firm.ite (enqueue_firm (vecPut_firm h)) h

theorem levelsIn_firm (h : Firm b s t) : Firm b s (levelsIn t) := forEach_firm h (fun _ _ => enqueue_firm)

theorem wiredRelease_firm (h : Firm b s t) : Firm b s (wiredRelease t) :=
  levelsIn_firm (Firm.put (forEach_firm (forEach_firm h (fun _ _ => sleptIn_firm)) (fun _ _ => sleptIn_firm)) rfl)

theorem drainFollow_firm (h : Firm b s t) : Firm b s (drainFollow t) :=
  Firm.ite (engineSettle_firm (settleAll_firm (batchEndAll_firm (modeChange_firm (m := .draining) nofun nofun h))))
    (Firm.ite (releaseAll_firm (wiredRelease_firm (modeChange_firm (m := .serving) nofun nofun h))) h)

theorem attempt_firm {t' : SleepTarget} (h : Firm b s t) : Firm b s (attempt t t') := by
  unfold attempt
  extract_lets c s0 e
  have h0 : Firm b s s0 := h.put rfl
  iterate 5 refine Firm.ite (refuse_firm h0) ?_
  refine settleAll_firm (batchEndAll_firm (entry_firm (t := s0) rfl (fun x hx => ?_) h0))
  obtain rfl := Option.some.inj hx
  unfold e
  dsimp only
  split <;> exact nofun

theorem tryAttempt_firm (h : Firm b s t) : Firm b s (tryAttempt t) := by
  unfold tryAttempt
  split
  · exact Firm.ite (attempt_firm h) h
  · exact h

theorem modeReqAwake_firm {v : BitVec 4} (h : Firm b s t) : Firm b s (modeReqAwake t v) :=
  Firm.ite (drainFollow_firm (Firm.put (Firm.ite (activity_firm h) h) rfl))
    (tryAttempt_firm (drainFollow_firm (Firm.put (Firm.ite (activity_firm h) h) rfl)))

theorem modeReq_firm {form : Form} {w : Word} {addr : BitVec 22} (h : Firm b s t) : Firm b s (modeReq t form w addr) :=
  Firm.ite (Firm.ite (sleepIgnore_firm h) (rejectWrite_firm h)) (Firm.ite (Firm.ite (wakeSource_firm (h.put rfl)) (h.put rfl))
    (modeReqAwake_firm h))

theorem modeReqSafe_firm {form : Form} {w : Word} (h : Firm b s t) : Firm b s (modeReqSafe t form w) := Firm.ite (h.put rfl) h

theorem modeReqPut_firm {form : Form} {w : Word} {addr : BitVec 22} (h : Firm b s t) : Firm b s (modeReqPut t form w addr) :=
  Firm.ite (modeReq_firm h) (modeReqSafe_firm h)

theorem aoReject_firm {addr : BitVec 22} (h : Firm b s t) : Firm b s (aoReject t addr) :=
  Firm.ite h (Firm.ite (sleepIgnore_firm h) (rejectWrite_firm h))

theorem aoCalPut_firm {v : Word} {addr : BitVec 22} (h : Firm b s t) : Firm b s (aoCalPut t v addr) :=
  Firm.ite h (Firm.ite (aoReject_firm h) (h.put rfl))

theorem sbAddrPut_firm {form : Form} {v : Word} {addr : BitVec 22} (h : Firm b s t) : Firm b s (sbAddrPut t form v addr) :=
  Firm.ite (Firm.ite h (aoReject_firm h)) (h.put rfl)

theorem aoAct_firm {form : Form} {a : ℕ} {w : Word} {addr : BitVec 22} (h : Firm b s t) : Firm b s (aoAct t form a w addr) :=
  Firm.ite (modeReqPut_firm h) (Firm.ite (Firm.ite (resetCmd_firm h) h) (Firm.ite (aoCalPut_firm h) (Firm.ite (sbAddrPut_firm h) h)))

theorem aoPut_firm {form : Form} {a : ℕ} {w : Word} {addr : BitVec 22} (h : Firm b s t) : Firm b s (aoPut t form a w addr) :=
  Firm.ite (aoHold_firm h) (aoAct_firm h)

/-! ### Control registers -/

theorem resyncStart_firm (h : Firm b s t) : Firm b s (resyncStart t) := by
  unfold resyncStart
  split
  · exact h
  · exact forEach_firm h (fun _ _ => apPut_firm)

theorem resync_firm (h : Firm b s t) : Firm b s (resync t) := Firm.ite (resyncStart_firm (h.put rfl)) (rejectWrite_firm h)

theorem rejectIf_firm {b' : Bool} {addr : BitVec 22} (h : Firm b s t) : Firm b s (rejectIf b' t addr) := Firm.ite (rejectWrite_firm h) h

theorem aperCtlPut_firm {v : Word} {sync : Bool} {addr : BitVec 22} (h : Firm b s t) : Firm b s (aperCtlPut t v sync addr) :=
  rejectIf_firm (Firm.ite (resync_firm (h.put rfl)) (h.put rfl))

theorem ingressOffer_firm (h : Firm b s t) : Firm b s (ingressOffer t) := h.put rfl

theorem ctlLoad_firm {v : Word} (h : Firm b s t) : Firm b s (ctlLoad t v) := by
  unfold ctlLoad
  extract_lets drop s1
  have h1 : Firm b t s1 := Firm.ite (ingressOffer_firm (Firm.refl t)) (Firm.refl t)
  refine h.trans ⟨fun hb => ?_, id, fun hs => ⟨hs, fun _ => rfl⟩, h1.ret, h1.saved, h1.asked⟩
  obtain ⟨k1, k2, k3, -⟩ := h1.stay hb
  exact ⟨k1, k2, k3, rfl⟩

theorem takeLocks_firm (h : Firm false s t) : Firm false s (takeLocks t) :=
  Firm.ite h (h.trans ⟨nofun, id, fun hs => ⟨hs, fun _ => rfl⟩, rfl, id, id⟩)

theorem engineOn_firm {addr : BitVec 22} (h : Firm false s t) : Firm false s (engineOn t addr) := by
  unfold engineOn
  extract_lets c s1 s2
  have h1 : Firm false s s1 := h.put rfl
  have h2 : Firm false s s2 := by
    refine modeChange_firm ?_ ?_ (takeLocks_firm h1)
    · split <;> decide
    · split <;> decide
  exact Firm.ite h (Firm.ite (rejectWrite_firm h) (Firm.ite (Firm.ite (releaseAll_firm (wiredRelease_firm h2)) h2) h1))

theorem engineOff_firm (h : Firm b s t) : Firm b s (engineOff t) :=
  Firm.ite (engineSettle_firm (settleAll_firm (batchEndAll_firm (h.put rfl)))) h

theorem ctlPut_firm {v : Word} {addr : BitVec 22} (h : Firm false s t) : Firm false s (ctlPut t v addr) :=
  rejectIf_firm (Firm.ite (Firm.ite (Firm.ite (settleAll_firm (batchEndAll_firm (ctlLoad_firm h))) (ctlLoad_firm h))
    (engineOn_firm (Firm.ite (settleAll_firm (batchEndAll_firm (ctlLoad_firm h))) (ctlLoad_firm h))))
    (engineOff_firm (Firm.ite (settleAll_firm (batchEndAll_firm (ctlLoad_firm h))) (ctlLoad_firm h))))

theorem aperturePut_firm {base base2 : BitVec 34} {log2 : BitVec 6} {addr : BitVec 22} (h : Firm b s t) : Firm b s
    (aperturePut t base base2 log2 addr) :=
  Firm.ite h (Firm.ite (h.put rfl) (rejectWrite_firm h))

theorem furnPut_firm {addr : BitVec 22} {f : FurnUnit → FurnUnit} (h : Firm b s t) : Firm b s (furnPut t addr f) :=
  Firm.ite (h.put rfl) (rejectWrite_firm h)

theorem lowPut_firm {a : ℕ} {v : Word} {addr : BitVec 22} (h : Firm false s t) : Firm false s (lowPut t a v addr) :=
  Firm.ite (ctlPut_firm h) (Firm.ite (h.put rfl) (Firm.ite (aperturePut_firm h)
    (Firm.ite (aperturePut_firm h) (Firm.ite (aperturePut_firm h) (Firm.ite (aperturePut_firm h)
    (Firm.ite (aperturePut_firm h) (Firm.ite (furnPut_firm h) (Firm.ite (furnPut_firm h)
    (Firm.ite (furnPut_firm h) (Firm.ite (eaPut_firm h) (Firm.ite (eaPut_firm h) (Firm.ite (eaDataPut_firm h) h))))))))))))

theorem arbPut_firm {v : Word} {addr : BitVec 22} (h : Firm b s t) : Firm b s (arbPut t v addr) := rejectIf_firm (drainFollow_firm (h.put rfl))

theorem lockedPut_firm {cur v mask : Word} {no : Bool} {addr : BitVec 22} {load : Word → State → State} (h : Firm b s t)
    (hload : ∀ x0 u, Firm b s u → Firm b s (load x0 u)) : Firm b s (lockedPut t cur v mask no addr load) :=
  rejectIf_firm (hload _ _ h)

theorem pwrCtlPut_firm {v : Word} {addr : BitVec 22} (h : Firm b s t) : Firm b s (pwrCtlPut t v addr) := rejectIf_firm (h.put rfl)

theorem jnlPlacePut_firm {base : BitVec 25} {log2 : BitVec 6} {addr : BitVec 22} (h : Firm false s t) : Firm false s (jnlPlacePut t base log2 addr) :=
  Firm.ite h (Firm.ite (rejectWrite_firm h) (h.trans ⟨nofun, id, fun hs => ⟨hs, fun _ => rfl⟩, rfl, id, id⟩))

theorem jnlHeadPut_firm {v : Word} (h : Firm b s t) : Firm b s (jnlHeadPut t v) := Firm.ite (h.put rfl) h

theorem cntPut_firm {i : ℕ} {v : Word} (h : Firm b s t) : Firm b s (cntPut t i v) := h.put rfl

theorem highPut_firm {a : ℕ} {v : Word} {addr : BitVec 22} (h : Firm false s t) : Firm false s (highPut t a v addr) :=
  Firm.ite (arbPut_firm h) (Firm.ite (lockedPut_firm h (fun _ _ h => h.put rfl))
    (Firm.ite (lockedPut_firm h (fun _ _ h => h.put rfl)) (Firm.ite (lockedPut_firm h (fun _ _ h => h.put rfl))
    (Firm.ite (pwrCtlPut_firm h) (Firm.ite (h.put rfl) (Firm.ite (lockedPut_firm h (fun _ _ h => h.put rfl))
    (Firm.ite (h.put rfl) (Firm.ite (h.put rfl) (Firm.ite (lockedPut_firm h (fun _ _ h => h.put rfl))
    (Firm.ite (lockedPut_firm h (fun _ _ h => h.put rfl)) (Firm.ite (jnlPlacePut_firm h)
    (Firm.ite (jnlPlacePut_firm h) (Firm.ite (jnlHeadPut_firm h) (Firm.ite (cntPut_firm h)
    (Firm.ite (lockedPut_firm h (fun _ _ h => h.put rfl)) h)))))))))))))))

theorem safePut_firm {form : Form} {a : ℕ} {w : Word} {addr : BitVec 22} (h : Firm false s t) : Firm false s (safePut t form a w addr) :=
  Firm.ite (aperCtlPut_firm h) (Firm.ite (lowPut_firm h) (highPut_firm h))

/-! ### The loader -/

theorem cmdRej_firm (h : Firm b s t) : Firm b s (cmdRej t) := h.put rfl

theorem furnCmd_firm {ok : Bool} {f : State → State} (h : Firm b s t) (hf : ∀ u, Firm b s u → Firm b s (f u)) : Firm b s (furnCmd t ok f) :=
  Firm.ite (Firm.ite (cmdRej_firm h) (Firm.ite (hf _ (activity_firm h)) (cmdRej_firm (activity_firm h)))) h

theorem apBulk_firm {p : Purpose} {write : Bool} {runs : List Run} (h : Firm b s t) : Firm b s (apBulk t p write runs) := by
  unfold apBulk
  split
  · exact h
  · exact apPut_firm h

theorem opStart_firm {op : FurnOp} (h : Firm b s t) : Firm b s (opStart op t) := by
  unfold opStart
  split
  · exact fuFail_firm h
  · exact apBulk_firm (h.put rfl)

theorem apDrop_firm {p : Purpose → Bool} (h : Firm b s t) : Firm b s (apDrop t p) := forEach_firm (h.put rfl) (fun _ _ => apPut_firm)

theorem abandon_firm (h : Firm b s t) : Firm b s (abandon t) := releaseAll_firm (Firm.put (opOver_firm (apDrop_firm h)) rfl)

theorem furnCmdPut_firm {w : Word} (h : Firm b s t) : Firm b s (furnCmdPut t w) := by
  unfold furnCmdPut
  exact Firm.ite (furnCmd_firm h fun _ h => opStart_firm h) (Firm.ite (furnCmd_firm h fun _ h => opStart_firm h)
    (Firm.ite (furnCmd_firm h fun _ h => abandon_firm h) (Firm.ite (furnCmd_firm h fun _ h => opStart_firm h) (furnCmd_firm h fun _ h => h))))

theorem lockPut_firm {form : Form} {w : Word} (h : Firm false s t) : Firm false s (lockPut t form w) := by
  unfold lockPut
  split
  · exact h.trans ⟨nofun, id, fun hs => ⟨hs, fun _ => rfl⟩, rfl, id, id⟩
  · exact h.trans ⟨nofun, id, fun hs => ⟨hs, fun _ => rfl⟩, rfl, id, id⟩
  · exact h

/-! ### Crossings and injections -/

theorem cdcNote_firm {c : Crossing} (h : Firm b s t) : Firm b s (cdcNote t c) := Firm.ite (h.put rfl) h

theorem cdcRetry_firm {c : Crossing} {line : BitVec 16} {inj : Bool} (h : Firm b s t) : Firm b s (cdcRetry c line inj t) :=
  Firm.ite h (faultFound_firm (cdcNote_firm h))

theorem cdcClear_firm {c : Crossing} {line : BitVec 16} (h : Firm b s t) : Firm b s (cdcClear t c line) := h.put rfl

theorem cdcHold_firm {c : Crossing} {line : BitVec 16} {x : Seen} (h : Firm b s t) : Firm b s (cdcHold t c line x) := h.put rfl

theorem jnlEstimated_firm {cause from_ : ℕ} {a b' : Word} (h : Firm b s t) : Firm b s (jnlEstimated t cause from_ a b') := jnl_firm h

theorem startEstimate_firm {cause : ℕ} (h : Firm b s t) : Firm b s (startEstimate t cause) := Firm.ite (jnlEstimated_firm (h.put rfl)) h

theorem cdcDeferred_firm {c : Crossing} {line : BitVec 16} {inj : Bool} (h : Firm b s t) : Firm b s (cdcDeferred c line inj t) :=
  Firm.ite h (Firm.ite (startEstimate_firm (cdcHold_firm (faultFound_firm h))) (cdcHold_firm (faultFound_firm h)))

theorem injectCdc_firm (h : Firm b s t) : Firm b s (injectCdc t) := cdcClear_firm (cdcDeferred_firm (cdcRetry_firm (cdcRetry_firm (cdcRetry_firm h))))

theorem collectorFault_firm {inj : Bool} (h : Firm b s t) : Firm b s (collectorFault t inj) := Firm.ite h (h.put rfl)

theorem injectArm_firm {what : ℕ} (h : Firm b s t) : Firm b s (injectArm t what) :=
  Firm.ite (injectCdc_firm h) (Firm.ite (h.put rfl) (Firm.ite (collectorFault_firm h) (h.put rfl)))

theorem inject_firm {what : ℕ} {key : BitVec 16} (h : Firm b s t) : Firm b s (inject what key t) := Firm.ite (injectArm_firm h) (rejectWrite_firm h)

theorem plainPut_firm {a : ℕ} {w : Word} (h : Firm b s t) : Firm b s (plainPut t a w) :=
  Firm.ite (scClear_firm h) (Firm.ite (scClear_firm h) (Firm.ite (eaLockPut_firm h)
    (Firm.ite (eaCmdPut_firm h) (Firm.ite (scClear_firm h) (Firm.ite (scClear_firm h)
    (Firm.ite (inject_firm h) (Firm.ite (dcCmdPut_firm h) (Firm.ite (scClear_firm h) (Firm.ite (dcPut_firm h) (Firm.ite (approve_firm h) h))))))))))

theorem ctlWindowPut_firm {form : Form} {a : ℕ} {w : Word} {addr : BitVec 22} (h : Firm false s t) : Firm false s (ctlWindowPut t form a w addr) :=
  Firm.ite (lockPut_firm h) (Firm.ite (aperCtlPut_firm h) (Firm.ite (stageWrite_firm h)
    (Firm.ite (Firm.ite (lowPut_firm h) (highPut_firm h)) (Firm.ite (plainPut_firm h) h))))

theorem classMWrite_firm {form : Form} {a : ℕ} {w : Word} {addr : BitVec 22} (h : Firm false s t) : Firm false s (classMWrite t form a w addr) :=
  Firm.ite h (Firm.ite (aoPut_firm h) (Firm.ite (safePut_firm h) (Firm.ite (furnCmdPut_firm h) (portWrite_firm h (fun _ h => ctlWindowPut_firm h)))))

theorem registerWrite_firm {p : Port} {addr : BitVec 22} {w : Word} (h : Firm false s t) : Firm false s (registerWrite t p addr w) := by
  unfold registerWrite
  extract_lets a tt
  refine Firm.ite (targetPut_firm h) (Firm.ite (portWrite_firm h fun _ h => windowPut_firm h) ?_)
  split
  · exact classMWrite_firm h
  · exact portWrite_firm h fun _ h => h

theorem regWrite_firm {p : Port} {addr : BitVec 22} {w : Word} (h : Firm false s t) : Firm false s (regWrite t p addr w) := by
  unfold regWrite
  split
  · split
    · exact portDone_firm (Firm.ite (deniedWrite_firm h) h)
    · exact portAnswer_firm h
  · split
    · exact portDone_firm (securityWrite_firm h)
    · exact doneUnlessHeld_firm (registerWrite_firm h)

end Sys2Proof.Machine
end

section
/-! PROOF. Beats, the aperture, rounds and egress leave what the fence and the retention set rest on (R143, R164). -/

namespace Sys2Proof.Machine

variable {b : Bool} {s t u : State} {r : Round}

theorem noteHung_firm (h : Firm b s t) : Firm b s (noteHung t) := Firm.ite (h.put rfl) (raiseStatus_firm h)

theorem vatStage_firm (h : Firm b s t) : Firm b s (vatStage t) := Firm.ite (raiseStatus_firm h) h

theorem takeBeat_firm {lane : Fin 4} {k : BeatKind} {b' : Beat} (h : Firm b s t) : Firm b s (takeBeat t lane k b') := by
  unfold takeBeat
  extract_lets c s1 n c0 s0 s2 x
  have h1 : Firm b s s1 := h.put rfl
  have h0 : Firm b s s0 := h1.put rfl
  have h2 : Firm b s s2 := Firm.ite h0 (vatStage_firm h0)
  clear_value s2 s1
  exact Firm.ite (noise_firm h1) (Firm.ite (creditBack_firm h2) (Firm.ite (creditBack_firm (noise_firm h2))
    (Firm.ite (creditBack_firm (noise_firm (h2.put rfl))) (Firm.ite (vatPut_firm (h2.put rfl)) (resolve_firm h2)))))

theorem present_firm {lane : Fin 4} {k : BeatKind} {b' : Beat} (h : Firm b s t) : Firm b s (present t lane k b') :=
  Firm.ite h (Firm.ite (Firm.ite (wakeSource_firm h) h) (Firm.ite (activity_firm h) (takeBeat_firm (activity_firm h))))

theorem wakeBeat_firm (h : Firm b s t) : Firm b s (wakeBeat t) := Firm.ite (Firm.ite (wakeSource_firm h) h) (activity_firm h)

/-! ### The aperture -/

theorem onTag_firm {tag : BitVec 8} {f : AperReq → State} (h : Firm b s t) (hf : ∀ x0, Firm b s (f x0)) : Firm b s (onTag t tag f) := by
  unfold onTag
  refine Firm.ite ?_ h
  split
  · exact hf _
  · exact h

theorem apDone_firm {tag : BitVec 8} (h : Firm b s t) : Firm b s (apDone t tag) := by
  unfold apDone
  dsimp only
  split <;> exact Firm.put (noteBusy_firm h) rfl

theorem opCommit_firm {f : Furnish} (h : Firm b s t) : Firm b s (opCommit t f) := Firm.put (noteBusy_firm h) rfl

theorem formCopies_firm (h : Firm b s t) : Firm b s (formCopies t) := Firm.ite (h.put rfl) (Firm.ite h (h.put rfl))

theorem fillBucket_firm {e : Slice} (h : Firm b s t) : Firm b s (fillBucket t e) := tnPut_firm h

theorem formRegs_firm {f : Furnish} (h : Firm b s t) : Firm b s (formRegs t f) := Firm.put (forEach_firm h (fun _ _ => fillBucket_firm)) rfl

theorem fetchingDrop_firm {h' : ℕ} (h : Firm b s t) : Firm b s (fetchingDrop t h') := h.put rfl

theorem fetchAgain_firm {h' : ℕ} (h : Firm b s t) : Firm b s (fetchAgain t h') :=
  Firm.ite h (Firm.ite (fetchVte_firm h) (forEach_firm (fetchingDrop_firm h) (fun _ _ h => creditBack_firm (noise_firm h))))

theorem checkedAgain_firm {h' : ℕ} (h : Firm b s t) : Firm b s (checkedAgain t h') :=
  Firm.ite (enqueue_firm h) (forEach_firm (h.put rfl) (fun _ _ h => creditBack_firm (noise_firm h)))

theorem jnlLoaded_firm {op : Option FurnOp} {bid : DWord} {d : Option Digest} (h : Firm b s t) : Firm b s (jnlLoaded t op bid d) := jnl_firm h

theorem lgCopy_firm (h : Firm b s t) : Firm b s (lgCopy t) := by
  unfold lgCopy
  dsimp only
  refine forEach_firm h (fun _ _ h => ?_)
  split
  · exact Firm.ite h (Firm.put (jnlPut_firm h) rfl)
  · exact h

theorem formEnd_firm {f : Furnish} (h : Firm b s t) : Firm b s (formEnd t f) := by
  unfold formEnd
  exact jnlLoaded_firm (lgCopy_firm (forEach_firm (forEach_firm (opCommit_firm (formCopies_firm (formRegs_firm h))) (fun _ _ => fetchAgain_firm))
    (fun _ _ => checkedAgain_firm)))

theorem warmPins_firm {l : List (ℕ × Words8)} (h : Firm b s t) : Firm b s (warmPins t l) := forEach_firm h (fun _ _ h => vtePut_firm (h.put rfl))

theorem warmWired_firm {e : ℕ × Words8} (h : Firm b s t) : Firm b s (warmWired t e) := Firm.ite (vtePut_firm h) h

theorem awayPut_firm {h' : ℕ} {x : Snap} (h : Firm b s t) : Firm b s (awayPut t h' x) := h.put rfl

theorem warmAway_firm {e : ℕ × Words8} (h : Firm b s t) : Firm b s (warmAway t e) := Firm.ite (awayPut_firm h) h

theorem warmTd_firm {f : Furnish} {t' : ℕ} {w : Words8} (h : Firm b s t) : Firm b s (warmTd f t t' w) :=
  Firm.ite (jnlCfgReject_firm (tgtPut_firm h)) (tgtPut_firm h)

theorem warmGroup_firm {i : ℕ} {w : Words8} (h : Firm b s t) : Firm b s (warmGroup t i w) := groupPut_firm h

theorem warmCouch_firm {g : ℕ} {w : Words8} (h : Firm b s t) : Firm b s (warmCouch t g w) := couchPut_firm h

theorem warmTable_firm {f : Furnish} {e : ℕ × Words8} (h : Firm b s t) : Firm b s (warmTable f t e) := by
  unfold warmTable
  split
  · exact warmTd_firm h
  · split
    · exact warmGroup_firm h
    · split
      · exact warmCouch_firm h
      · exact h

theorem warmLoad_firm {f : Furnish} {stored : List (ℕ × Words8)} (h : Firm b s t) : Firm b s (warmLoad t f stored) := by
  unfold warmLoad
  exact formEnd_firm (forEach_firm (warmPins_firm (forEach_firm (forEach_firm (h.put rfl) (fun _ _ => warmWired_firm))
    (fun _ _ => warmAway_firm))) (fun _ _ => warmTable_firm))

theorem warmGo_firm (h : Firm b s t) : Firm b s (warmGo t) := by
  unfold warmGo
  split
  · exact Firm.ite (warmLoad_firm h) h
  · exact h

theorem failover_firm {c : Copy} {cause offset : ℕ} {inj : Bool} (h : Firm b s t) : Firm b s (failover t c cause offset inj) := by
  unfold failover
  extract_lets s1 c s2 c3 s3 s4
  have h1 : Firm b s s1 := faultCount_firm (sourceFlag_free 0x05) h
  have h2 : Firm b s s2 := apDrop_firm (h1.put rfl)
  have h3 : Firm b s s3 := h2.put rfl
  exact warmGo_firm (jnlPut_firm (forEach_firm h3 fun _ _ => apDone_firm))

theorem checkedWait_firm {h' : ℕ} (h : Firm b s t) : Firm b s (checkedWait t h') := Firm.ite h (enqueue_firm h)

theorem fetchNoise_firm {h' reason : ℕ} (h : Firm b s t) : Firm b s (fetchNoise t h' reason) :=
  forEach_firm (fetchingDrop_firm h) (fun _ _ h => creditBack_firm (noise_firm h))

theorem deferred_firm {src : BitVec 8} {arg : BitVec 24} {w5 w6 : Word} {inj : Bool} (h : Firm b s t) : Firm b s (deferred t src arg w5 w6 inj) :=
  deferredAt_firm h

theorem readEnds_firm {w : Words8} {m : BitVec 24} {u : EaId} (h : Firm b s t) : Firm b s (readEnds w m t u) := eaRaise_firm (eaPut_firm h)

theorem readsEnd_firm {h' : ℕ} {w : Words8} {m : BitVec 24} (h : Firm b s t) : Firm b s (readsEnd t h' w m) :=
  forEach_firm h (fun _ _ => readEnds_firm)

/-! ### Rounds: what they decide -/

theorem unlessFatal_firm {f : State → State} (h : Firm b s t) (hf : ∀ u, Firm b s u → Firm b s (f u)) : Firm b s (unlessFatal t f) :=
  Firm.ite h (hf _ h)

theorem comparedRound_firm {h' : ℕ} {f : State → State} (h : Firm b s t) (hf : ∀ u, Firm b s u → Firm b s (f u)) : Firm b s (comparedRound t h' f) :=
  unlessFatal_firm h (fun _ h => Firm.ite (hf _ (roundCompare_firm h)) (enqueue_firm (roundCompare_firm h)))

theorem vecCalendar_firm {h' : ℕ} (h : Firm b s t) : Firm b s (vecCalendar t h') := Firm.ite (calEnter_firm h) (calLeave_firm h)

theorem retreat_firm {h' : ℕ} (h : Firm b s t) : Firm b s (retreat t h') := by
  unfold retreat
  dsimp only
  split
  · exact vecCalendar_firm h
  · exact Firm.ite h (vecCalendar_firm (leaveStream_firm h))

theorem holdoffDecision_firm {g : ℕ} {merged : Option ℕ} (h : Firm b s t) : Firm b s (holdoffDecision t g merged) := by
  unfold holdoffDecision
  dsimp only
  split
  · refine couchPut_firm (couchRelease_firm ?_)
    split
    · exact Firm.ite (Firm.ite (couchPut_firm (couchRelease_firm h)) (couchPut_firm h)) h
    · exact h
  · split
    · exact Firm.ite (Firm.ite (couchPut_firm (couchRelease_firm h)) (couchPut_firm h)) h
    · exact h

theorem countTimeDecision_firm {g : ℕ} (h : Firm b s t) : Firm b s (countTimeDecision t g) :=
  Firm.ite h ((by split <;> exact Firm.ite (couchRelease_firm h) h))

theorem couchDecide_firm {g : ℕ} {merged : Option ℕ} (h : Firm b s t) : Firm b s (couchDecide t g merged) :=
  couchCalendar_firm (Firm.ite (holdoffDecision_firm h) (Firm.ite (countTimeDecision_firm h) (couchPut_firm (couchRelease_firm h))))

theorem couchDecision_firm {g : ℕ} {merged : Option ℕ} (h : Firm b s t) : Firm b s (couchDecision t g merged) :=
  couchDecide_firm (couchBoundary_firm h)

theorem roundDecide_firm {h' : ℕ} (h : Firm b s r.st) : Firm b s (roundDecide r h') :=
  Firm.ite (vecPut_firm (forEach_firm h (fun _ _ => couchDecision_firm))) (forEach_firm h (fun _ _ => couchDecision_firm))

theorem promote_firm {h' : ℕ} (h : Firm b s t) : Firm b s (promote t h') := Firm.ite (vecPut_firm h) h

theorem roundSettle_firm {h' : ℕ} (h : Firm b s r.st) : Firm b s (roundSettle r h').st := vteBoundary_firm (promote_firm (roundDecide_firm h))

/-! ### Rounds: EOIs -/

theorem activeEnd_firm {h' : ℕ} {a : Active} (h : Firm b s t) : Firm b s (activeEnd t h' a) := promote_firm (vecPut_firm (tgtPut_firm h))

theorem couchCount_firm {g n : ℕ} (h : Firm b s t) : Firm b s (couchCount t g n) := couchPut_firm h

theorem noteMerge_firm {sn : Snap} {n time : ℕ} (h : Firm b s r.st) : Firm b s (noteMerge r sn n time).st := by
  unfold noteMerge
  split
  · exact h
  · exact couchCount_firm h

theorem eoiIn_firm {h' : ℕ} {t' : BitVec 16} (h : Firm b s r.st) : Firm b s (eoiIn h' r t').st := by
  unfold eoiIn
  dsimp only
  split
  · exact eoiStray_firm h
  · exact Firm.ite_st (eoiStray_firm h) (Firm.ite_st (eoiStray_firm h)
      (Firm.ite_st (noteMerge_firm (vecPut_firm (activeEnd_firm h))) (activeEnd_firm h)))

theorem eoisIn_firm {h' : ℕ} (h : Firm b s r.st) : Firm b s (eoisIn r h').st := forEach_firmRound (fun _ _ => eoiIn_firm) (vecPut_firm h)

theorem roundEois_firm {h' : ℕ} (h : Firm b s t) : Firm b s (roundEois t h') := settleAll_firm (retreat_firm (roundSettle_firm (eoisIn_firm h)))

theorem eoisFlush_firm {h' : ℕ} (h : Firm b s t) : Firm b s (eoisFlush t h') := Firm.ite h (comparedRound_firm h (fun _ h => roundEois_firm h))

/-! ### Reads that return -/

theorem fenceBegin_firm {h' : ℕ} {u : EaId} (h : Firm b s t) : Firm b s (fenceBegin h' t u) :=
  Firm.ite (Firm.ite (eaRaise_firm (eaPut_firm h)) (fenceCheck_firm (eaPut_firm h))) h

theorem fencesBegin_firm {h' : ℕ} (h : Firm b s t) : Firm b s (fencesBegin t h') := forEach_firm h (fun _ _ => fenceBegin_firm)

theorem vteLost_firm {h' : ℕ} {inj : Bool} (h : Firm b s t) : Firm b s (vteLost t h' inj) :=
  vteTry_firm (eoisFlush_firm (fencesBegin_firm (readsEnd_firm (Firm.put (checkedWait_firm (fetchNoise_firm (deferred_firm h))) rfl))))

theorem vteReloadLost_firm {h' : ℕ} {src : BitVec 8} {reason : ℕ} {inj : Bool} (h : Firm b s t) : Firm b s (vteReloadLost t h' src reason inj) :=
  vteReload_firm (Firm.put (fetchNoise_firm (deferred_firm h)) rfl)

theorem tdReload_firm {t' : ℕ} (h : Firm b s t) : Firm b s (tdReload t t') := Firm.ite h (apRequest_firm (h.put rfl))

theorem spillDone_firm {h' : ℕ} (h : Firm b s t) : Firm b s (spillDone t h') := h.put rfl

theorem spillLost_firm {h' : ℕ} {inj : Bool} (h : Firm b s t) : Firm b s (spillLost t h' inj) :=
  settleAll_firm (addDropped_firm (promote_firm (vecPut_firm (dropEv_firm (deferred_firm (spillDone_firm h))))))

theorem imageLost_firm (h : Firm b s t) : Firm b s (imageLost t) := opFail_firm (apDrop_firm h)

theorem readLost_firm {tag : BitVec 8} {r' : AperReq} {inj : Bool} (h : Firm b s t) : Firm b s (readLost t tag r' inj) := by
  unfold readLost
  split
  · exact vteLost_firm (apDone_firm h)
  · exact vteReloadLost_firm (apDone_firm h)
  · exact tdReload_firm (Firm.put (apDone_firm h) rfl)
  · exact spillLost_firm (apDone_firm h)
  · exact imageLost_firm (apDone_firm h)
  · exact Firm.ite (opFail_firm (apDone_firm h)) (apDone_firm h)
  · exact apDone_firm h
  · exact h

theorem readError_firm {tag : BitVec 8} {r' : AperReq} {cause : ℕ} {inj : Bool} (h : Firm b s t) : Firm b s (readError t tag r' cause inj) :=
  Firm.ite (failover_firm h) (readLost_firm h)

theorem vteLoad_firm {h' : ℕ} {v : Vte} (h : Firm b s t) : Firm b s (vteLoad t h' v) := by
  unfold vteLoad
  split
  · exact vtePut_firm h
  · exact (vteHw_firm (h' := h') (v := vteOwed t h' v) h).put rfl

theorem vteAway_firm {h' : ℕ} (h : Firm b s t) : Firm b s (vteAway t h') := by
  unfold vteAway
  split
  · exact h
  · exact awayPut_firm (h.put rfl)

theorem spill_firm {h' : ℕ} (h : Firm b s t) : Firm b s (spill t h') := Firm.ite (Firm.put (apRequest_firm h) rfl) h

theorem evict_firm {h' : ℕ} (h : Firm b s t) : Firm b s (evict t h') := Firm.put (vteAway_firm (spill_firm (vteStore_firm h))) rfl

theorem install_firm {h' : ℕ} {v : Vte} (h : Firm b s t) (hu : install t h' v = some u) : Firm b s u := by
  unfold install at hu
  split at hu
  · exact Option.some.inj hu ▸ vteLoad_firm h
  · split at hu
    · exact Option.some.inj hu ▸ vteLoad_firm h
    · split at hu
      · exact Option.some.inj hu ▸ vteLoad_firm (h.put rfl)
      · split at hu
        · exact absurd hu nofun
        · next k ring _ =>
          have h1 : Firm b s (evict { t with vs := { t.vs with ring := ring } } k) := evict_firm (h.put rfl)
          exact Option.some.inj hu ▸ vteLoad_firm (h1.put rfl)

theorem crcChanges_firm {h' : ℕ} {w : Words8} (h : Firm b s t) : Firm b s (crcChanges t h' w) := by
  unfold crcChanges
  extract_lets v s1
  have h1 : Firm b s s1 := vteBoundary_firm (vtePut_firm h)
  clear_value s1
  split
  · exact h1
  · refine Firm.ite (h1.put rfl) ?_
    generalize hx : ({ s1 with vs := _ } : State) = x
    have hx' : Firm b s x := hx ▸ h1.put rfl
    cases hu : install x h' _ with
    | none => exact vteAway_firm h1
    | some u => exact install_firm hx' hu

theorem fetchResolve_firm {h' : ℕ} {v : Vte} (h : Firm b s t) : Firm b s (fetchResolve t h' v) :=
  forEach_firm (fetchingDrop_firm h) (fun _ _ => postResolve_firm)

theorem readShows_firm {w : Words8} {m : BitVec 24} {u : EaId} (h : Firm b s t) : Firm b s (readShows w m t u) :=
  Firm.ite (readEnds_firm h) (readEnds_firm h)

theorem readsShow_firm {h' : ℕ} {w : Words8} {m : BitVec 24} (h : Firm b s t) : Firm b s (readsShow t h' w m) :=
  forEach_firm h (fun _ _ => readShows_firm)

theorem waitersIn_firm {h' : ℕ} (h : Firm b s t) : Firm b s (waitersIn t h') := Firm.ite h (enqueue_firm h)

theorem vteArrive_firm {h' : ℕ} {v : Vte} (h : Firm b s t) : Firm b s (vteArrive t h' v) := by
  unfold vteArrive
  split
  · exact fetchVte_firm h
  · next s1 hu =>
    extract_lets s2 s3
    have h2 : Firm b s s2 := fetchResolve_firm (install_firm h hu)
    have h3 : Firm b s s3 := by
      unfold s3
      split
      · exact readsShow_firm h2
      · exact h2
    exact fenceAll_firm (vteTry_firm (waitersIn_firm (fencesBegin_firm h3)))

theorem crcApply_firm {h' : ℕ} {w : Words8} (h : Firm b s t) : Firm b s (crcApply t h' w) :=
  Firm.ite h (fenceAll_firm (Firm.ite (comparedRound_firm h (fun _ h => crcChanges_firm h)) (crcChanges_firm h)))

theorem vteCrcBad_firm {h' : ℕ} {w : Words8} (h : Firm b s t) : Firm b s (vteCrcBad t h' w) :=
  crcApply_firm (eoisFlush_firm (fencesBegin_firm (readsShow_firm (checkedWait_firm (fetchNoise_firm (deferred_firm h))))))

theorem vteReloaded_firm {h' : ℕ} {w : Words8} (h : Firm b s t) : Firm b s (vteReloaded t h' w) := by
  unfold vteReloaded
  dsimp only
  split
  · exact h.put rfl
  · refine fenceAll_firm (vteTry_firm (waitersIn_firm ?_))
    split
    · exact readsShow_firm (fetchResolve_firm (vtePut_firm (h.put rfl)))
    · exact fetchResolve_firm (vtePut_firm (h.put rfl))

theorem egressSettle_firm (h : Firm b s t) : Firm b s (egressSettle t) := engineSettle_firm (settleAll_firm (pumpBells_firm h))

theorem readEnd_firm {u : EaId} {kind i : ℕ} (h : Firm b s t) : Firm b s (readEnd t u kind i) := by
  unfold readEnd
  split <;> exact eaRaise_firm (eaPut_firm h)

theorem tdReadsEnd_firm {t' : ℕ} (h : Firm b s t) : Firm b s (tdReadsEnd t t') := forEach_firm h (fun _ _ => readEnd_firm)

theorem waitedClose_firm {t' : ℕ} (h : Firm b s t) : Firm b s (waitedClose t t') := Firm.ite (closeWriteOf_firm h) h

theorem tdReloaded_firm {t' : ℕ} {w : Words8} (h : Firm b s t) : Firm b s (tdReloaded t t' w) :=
  egressSettle_firm (tdReadsEnd_firm (waitedClose_firm (tgtPut_firm (h.put rfl))))

theorem imagePart_firm {w : Words8} (h : Firm b s t) : Firm b s (imagePart t w) := by
  unfold imagePart
  dsimp only
  split
  · exact opFail_firm (apDrop_firm (h.put rfl))
  · exact h.put rfl

theorem readReturn_firm {tag : BitVec 8} {r' : AperReq} {w : Words8} (h : Firm b s t) : Firm b s (readReturn t tag r' w) := by
  unfold readReturn
  split
  · exact Firm.ite (vteArrive_firm (apDone_firm h)) (vteCrcBad_firm (apDone_firm h))
  · exact Firm.ite (vteReloaded_firm (apDone_firm h)) (vteReloadLost_firm (apDone_firm h))
  · exact tdReloaded_firm (apDone_firm h)
  · exact waitersIn_firm (spillDone_firm (apDone_firm h))
  · exact Firm.ite (imagePart_firm h) (apDone_firm h)
  · exact apDone_firm h
  · exact h

theorem readArrive_firm {tag : BitVec 8} {r' : AperReq} {w : Words8} (h : Firm b s t) : Firm b s (readArrive t tag r' w) :=
  Firm.ite (readError_firm (injectSpent_firm h)) (readReturn_firm h)

theorem onWrite_firm {tag : BitVec 8} {c : Copy} {f : AperReq → State} (h : Firm b s t) (hf : ∀ x0, Firm b s (f x0)) : Firm b s
    (onWrite t tag c f) := by
  unfold onWrite
  refine Firm.ite ?_ h
  split
  · exact Firm.ite (hf _) h
  · exact h

theorem entryGo_firm (h : Firm b s t) : Firm b s (entryGo t) := by
  unfold entryGo
  split
  · exact Firm.ite (Firm.ite (pwrAsk_firm (entryTo_firm nofun h)) (pwrAsk_firm (entryTo_firm nofun h))) h
  · exact h

theorem resyncPct_firm (h : Firm b s t) : Firm b s (resyncPct t) := Firm.ite h (h.put rfl)

theorem writeComplete_firm {tag : BitVec 8} {r' : AperReq} (h : Firm b s t) : Firm b s (writeComplete t tag r') :=
  warmGo_firm (entryGo_firm (Firm.ite (resyncPct_firm (apDone_firm h)) (apDone_firm h)))

theorem writeAck_firm {tag : BitVec 8} {r' : AperReq} {c : Copy} (h : Firm b s t) : Firm b s (writeAck t tag r' c) :=
  Firm.ite (readError_firm (injectSpent_firm h)) (Firm.ite (writeComplete_firm h) (h.put rfl))

theorem formLost_firm {r' : AperReq} (h : Firm b s t) : Firm b s (formLost t r') := Firm.ite (opFail_firm h) h

theorem writeLost_firm {tag : BitVec 8} {r' : AperReq} (h : Firm b s t) : Firm b s (writeLost t tag r') :=
  Firm.ite (fatalFault_firm (formLost_firm (apDone_firm h))) (entryGo_firm (deferred_firm (formLost_firm (apDone_firm h))))

theorem writeError_firm {tag : BitVec 8} {r' : AperReq} {c : Copy} (h : Firm b s t) : Firm b s (writeError t tag r' c) :=
  Firm.ite (entryGo_firm (failover_firm h)) (writeLost_firm h)

/-! ### Egress -/

theorem flightDrop_firm {tag : BitVec 8} (h : Firm b s t) : Firm b s (flightDrop t tag) := h.put rfl

theorem egressOutcome_firm {tag : BitVec 8} {f : State → BitVec 8 → EgWrite → State} (h : Firm b s t)
    (hf : ∀ u x1 x2, Firm b s u → Firm b s (f u x1 x2)) : Firm b s (egressOutcome t tag f) := by
  unfold egressOutcome
  refine Firm.ite ?_ (Firm.ite (flightDrop_firm h) h)
  split
  · exact hf _ _ _ h
  · exact h

/-! ### Rounds: what they take -/

theorem stampSlept_firm (h : Firm b s t) : Firm b s (stampSlept t) := Firm.ite (h.put rfl) h

theorem dequeue_firm {h' : ℕ} (h : Firm b s t) : Firm b s (dequeue t h') := Firm.ite (Firm.put (noteBusy_firm h) rfl) h

theorem returnOne_firm {h' : ℕ} (h : Firm b s t) : Firm b s (returnOne t h') := by
  unfold returnOne
  dsimp only
  split
  · exact h
  · refine vecPut_firm ?_
    split
    · exact Firm.ite (leaveStream_firm (tgtPut_firm h)) (tgtPut_firm h)
    · exact tgtPut_firm h

theorem outcomeIn_firm {h' : ℕ} (h : Firm b s t) : Firm b s (outcomeIn t h') := by
  unfold outcomeIn
  split
  · exact h
  · exact Firm.ite (acceptVec_firm (vecPut_firm h)) (returnOne_firm (vecPut_firm h))

theorem roundEarly_firm {h' : ℕ} (h : Firm b s t) : Firm b s (roundEarly t h') := Firm.ite (roundEois_firm (outcomeIn_firm h)) (outcomeIn_firm h)

theorem spillFetch_firm {h' : ℕ} (h : Firm b s t) : Firm b s (spillFetch t h') := by
  unfold spillFetch
  split
  · exact h
  · exact Firm.ite h (apRequest_firm h)

theorem roundFetch_firm {h' : ℕ} (h : Firm b s t) : Firm b s (roundFetch t h') :=
  Firm.ite (fetchVte_firm (roundEarly_firm h)) (Firm.ite (spillFetch_firm (roundEarly_firm h)) (roundEarly_firm h))

theorem joinStream_firm {h' t' : ℕ} (h : Firm b s t) : Firm b s (joinStream t h' t') := by
  unfold joinStream
  extract_lets v tb
  split
  · exact h
  · extract_lets first s1
    have h1 : Firm b s s1 := vecPut_firm h
    exact Firm.ite h1 (Firm.ite (h1.put rfl) (h1.put rfl))

theorem joinChosen_firm {h' : ℕ} {ev : Ev} (h : Firm b s t) : Firm b s (joinChosen t h' ev) := by
  unfold joinChosen
  dsimp only
  refine Firm.ite ?_ (Firm.ite h (joinStream_firm h))
  split
  · exact groupSettle_firm h
  · exact joinStream_firm (groupPut_firm (groupSettle_firm h))

theorem heldFull_firm {ev : Ev} (h : Firm b s t) : Firm b s (heldFull t ev) := Firm.ite (jnlRated_firm (tgtPut_firm h)) h

theorem candidate_firm {h' : ℕ} (h : Firm b s t) : Firm b s (candidate t h') := by
  unfold candidate
  dsimp only
  split
  · exact vecCalendar_firm h
  · exact Firm.ite h (vecCalendar_firm (Firm.ite (joinChosen_firm (heldFull_firm (leaveStream_firm h))) (leaveStream_firm h)))

theorem roundEnd_firm {h' : ℕ} (h : Firm b s r.st) : Firm b s (roundEnd r h') := settleAll_firm (Firm.ite (retreat_firm h) (candidate_firm h))

theorem mergeIn_firm {h' : ℕ} {sn0 : Snap} {time count : ℕ} {data : Word} {trunc : Bool} (h : Firm b s r.st) : Firm b s
    (mergeIn r h' sn0 time count data trunc).st := by
  unfold mergeIn
  dsimp only
  split
  · exact h
  · exact Firm.ite_st (addDropped_firm h) (Firm.ite_st (noteMerge_firm (vecPut_firm h)) h)

theorem wiredMerge_firm {h' : ℕ} (h : Firm b s r.st) : Firm b s (wiredMerge r h').st := by
  unfold wiredMerge
  extract_lets st v r0
  split
  · exact h
  · extract_lets r1
    have h0 : Firm b s r0.st := vecPut_firm h
    have h1 : Firm b s r1.st := Firm.ite_st h0 (mergeIn_firm h0)
    exact Firm.ite_st (Firm.ite_st h0 (Firm.ite_st h1 (mergeIn_firm h1))) h

theorem checkedFree_firm {h' : ℕ} (h : Firm b s t) : Firm b s (checkedFree t h') := forEach_firm (h.put rfl) (fun _ _ => creditBack_firm)

theorem lineNote_firm {h' : ℕ} {on : Bool} (h : Firm b s t) : Firm b s (lineNote t h' on) := vecPut_firm h

theorem levelOn_firm {h' : ℕ} {e : Vte} {sn0 : Snap} {time : ℕ} (h : Firm b s r.st) : Firm b s (levelOn r h' e sn0 time).st :=
  Firm.ite_st (addDropped_firm h) (Firm.ite_st h (Firm.ite_st (noteMerge_firm (vecPut_firm (lineNote_firm h))) (lineNote_firm h)))

theorem levelWithdraw_firm {h' : ℕ} (h : Firm b s t) : Firm b s (levelWithdraw t h') :=
  Firm.ite (vecPut_firm (Firm.ite (dropEv_firm h) h)) (Firm.ite (dropEv_firm h) h)

theorem levelOff_firm {h' : ℕ} (h : Firm b s r.st) : Firm b s (levelOff r h').st :=
  Firm.ite_st (Firm.ite (levelWithdraw_firm (lineNote_firm h)) (lineNote_firm h)) h

theorem levelIn_firm {h' : ℕ} {sn : Snap} {time : ℕ} {on : Bool} (h : Firm b s r.st) : Firm b s (levelIn r h' sn time on).st := by
  unfold levelIn
  split
  · exact h
  · exact Firm.ite_st (levelOn_firm h) (levelOff_firm h)

theorem messageIn_firm {h' : ℕ} {x : Slot × Snap} (h : Firm b s r.st) : Firm b s (messageIn h' r x).st := by
  unfold messageIn
  split
  · exact mergeIn_firm h
  · exact levelIn_firm h
  · exact levelIn_firm h
  · exact h

theorem vatIn_firm {h' : ℕ} (h : Firm b s r.st) : Firm b s (vatIn r h').st := by
  unfold vatIn
  exact Firm.ite_st (forEach_firmRound (fun _ _ => messageIn_firm)
    (forEach_firmRound (fun _ _ => messageIn_firm) (checkedFree_firm (h' := h') h))) h

theorem wiredLevel_firm {h' : ℕ} (h : Firm b s r.st) : Firm b s (wiredLevel r h').st := by
  unfold wiredLevel
  dsimp only
  split
  · exact h
  · exact Firm.ite_st (Firm.ite_st (Firm.ite_st h (levelIn_firm h)) (Firm.ite_st (lineNote_firm h) h)) h

theorem roundInputs_firm {h' : ℕ} (h : Firm b s t) : Firm b s (roundInputs t h').st := by
  unfold roundInputs
  exact wiredMerge_firm (vatIn_firm (wiredLevel_firm (eoisIn_firm (r := { st := _, merges := [], defer := _ })
    (vteBoundary_firm (outcomeIn_firm h)))))

theorem roundCommit_firm {h' : ℕ} (h : Firm b s t) : Firm b s (roundCommit t h') :=
  Firm.ite h (Firm.ite (roundFetch_firm (stampSlept_firm (dequeue_firm h)))
    (roundEnd_firm (roundSettle_firm (roundInputs_firm (stampSlept_firm (dequeue_firm h))))))

theorem roundAt_firm {h' : ℕ} (h : Firm b s t) : Firm b s (roundAt t h') :=
  unlessFatal_firm h (fun _ h => unlessFatal_firm (cacheRead_firm h) (fun _ h2 => roundCommit_firm h2))

theorem roundRisen_firm {h' : ℕ} (h : Firm b s t) : Firm b s (roundRisen t h') := roundAt_firm (forEach_firm h (fun _ _ => roundAt_firm))

theorem laneRounds_firm {h' : ℕ} (h : Firm b s t) : Firm b s (laneRounds t h') := forEach_firm h (fun _ _ => roundRisen_firm)

theorem rankRound_firm {h' : BitVec 24} {check : PlaneCheck} (h : Firm b s t) : Firm b s (rankRound t h' check) :=
  Firm.ite (laneRounds_firm (roundCompare_firm h)) (roundCompare_firm h)

theorem inputRound_firm {h' : ℕ} (h : Firm b s t) : Firm b s (inputRound t h') := unlessFatal_firm h (fun _ h => rankRound_firm h)

theorem laneBefore_firm {h' : ℕ} (h : Firm b s t) : Firm b s (laneBefore t h') := Firm.ite (forEach_firm h (fun _ _ => inputRound_firm)) h

theorem lanesBefore_firm {w : EgWrite} (h : Firm b s t) : Firm b s (lanesBefore t w) := Firm.ite h (forEach_firm h (fun _ _ => laneBefore_firm))

theorem accepted_firm {tag : BitVec 8} {w : EgWrite} (h : Firm b s t) : Firm b s (accepted t tag w) :=
  egressSettle_firm (Firm.ite (flightDrop_firm (lanesBefore_firm h)) (acceptRecs_firm (flightDrop_firm (lanesBefore_firm h))))

/-! ### Refused writes -/

theorem setUnreach_firm {t' cause : ℕ} {host : Word} (h : Firm b s t) : Firm b s (setUnreach t t' cause host) :=
  Firm.ite h (Firm.ite (tgtPut_firm h) (jnl_firm (batchEnd_firm (tgtPut_firm (h.put rfl)))))

theorem bellRefused_firm {w : EgWrite} (h : Firm b s t) : Firm b s (bellRefused t w) := setUnreach_firm (tgtPut_firm h)

theorem refuseOne_firm {h' : ℕ} (h : Firm b s t) : Firm b s (refuseOne t h') := outcomeAt_firm h (fun _ _ => returnOne_firm)

theorem recordsRefused_firm {w : EgWrite} (h : Firm b s t) : Firm b s (recordsRefused t w) := by
  unfold recordsRefused
  extract_lets tt s1 g full s2 c s3
  have h2 : Firm b s s2 := tgtPut_firm (forEach_firm h fun _ _ => refuseOne_firm)
  have h3 : Firm b s s3 := h2.put rfl
  exact setUnreach_firm h3

theorem refused_firm {tag : BitVec 8} {w : EgWrite} (h : Firm b s t) : Firm b s (refused t tag w) :=
  egressSettle_firm (Firm.ite (flightDrop_firm (lanesBefore_firm h))
    (Firm.ite (bellRefused_firm (flightDrop_firm (lanesBefore_firm h))) (recordsRefused_firm (flightDrop_firm (lanesBefore_firm h)))))

end Sys2Proof.Machine
end

section
/-! PROOF. Lines, time, the wake's steps, the sideband, forming, the arbiter, entries and the clocks leave what the fence and the retention set rest on
(R165, R246, R283, R324); a form sets the journal's place, and the self-test may fence a plane. -/

namespace Sys2Proof.Machine

variable {b : Bool} {s t u : State}

theorem lineSet_firm {n : ℕ} {high : Bool} (h : Firm b s t) : Firm b s (lineSet t n high) := h.put rfl

theorem lineWake_firm {n : ℕ} (h : Firm b s t) : Firm b s (lineWake t n) := Firm.ite (wakeSource_firm h) h

theorem lineLatch_firm {n : ℕ} (h : Firm b s t) : Firm b s (lineLatch t n) := h.put rfl

theorem edgeTake_firm {n : ℕ} (h : Firm b s t) : Firm b s (edgeTake t n) :=
  Firm.ite (lineWake_firm (lineLatch_firm h)) (Firm.ite h (Firm.ite (Firm.ite (enqueue_firm (vecPut_firm (activity_firm h))) (activity_firm h))
    (lineLatch_firm (activity_firm h))))

theorem lineMoves_firm {n : ℕ} {high : Bool} (h : Firm b s t) : Firm b s (lineMoves t n high) :=
  Firm.ite (lineSet_firm h) (Firm.ite (edgeTake_firm (lineSet_firm h))
    (Firm.ite (Firm.ite (lineWake_firm (lineSet_firm h)) (lineSet_firm h))
    (Firm.ite (lineSet_firm h) (enqueue_firm (activity_firm (lineSet_firm h))))))

theorem edgeLine_firm {n : ℕ} (h : Firm b s t) : Firm b s (edgeLine t n) := lineMoves_firm (lineSet_firm h)

theorem countedLine_firm {m : ℕ} {g : BitVec 4} (h : Firm b s t) : Firm b s (countedLine t m g) := by
  unfold countedLine
  extract_lets c s1 s2 h' v n c3 s3
  have h1 : Firm b s s1 := h.put rfl
  have h2 : Firm b s s2 := cdcClear_firm (activity_firm h1)
  have h3 : Firm b s s3 := h2.put rfl
  exact Firm.ite (Firm.ite (Firm.ite (enqueue_firm (vecPut_firm h3)) h3) h2) h1

theorem whenLive_firm {f : State → State} (h : Firm b s t) (hf : ∀ u, Firm b s u → Firm b s (f u)) : Firm b s (whenLive t f) := Firm.ite (hf _ h) h

theorem stirring_firm {f : State → State} (h : Firm b s t) (hf : ∀ u, Firm b s u → Firm b s (f u)) : Firm b s (stirring f t) :=
  Firm.ite (hf _ (activity_firm h)) (hf _ h)

/-! ### Time, expiries and ticks -/

theorem timeTake_firm {v : ℕ} (h : Firm b s t) : Firm b s (timeTake t v) := cdcClear_firm (Firm.put (Firm.ite (raiseStatus_firm h) h) rfl)

theorem throttleTake_firm {l : BitVec 3} (h : Firm b s t) : Firm b s (throttleTake t l) := h.put rfl

theorem wakeStart_firm (h : Firm b s t) : Firm b s (wakeStart t) := pwrAsk_firm (entry_firm (t := t) rfl nofun h)

theorem wakeTime_firm {iv : Option DWord} (h : Firm b s t) : Firm b s (wakeTime t iv) := h.put rfl

theorem wakeThrottle_firm (h : Firm b s t) : Firm b s (wakeThrottle t) := cdcClear_firm (Firm.ite h (throttleTake_firm h))

theorem wakeTimeAgree_firm {iv : Option DWord} (h : Firm b s t) : Firm b s (wakeTimeAgree t iv) := Firm.ite (cdcClear_firm h) h

theorem wakeTimeReport_firm {iv : Option DWord} (h : Firm b s t) : Firm b s (wakeTimeReport t iv) := by
  unfold wakeTimeReport
  split
  · exact Firm.ite (raiseStatus_firm h) h
  · exact jnlEstimated_firm h

theorem deadlineAct_firm {h' : ℕ} (h : Firm b s t) : Firm b s (deadlineAct t h') :=
  unlessFatal_firm h (fun _ h => inputRound_firm (enqueue_firm (calLeave_firm h)))

theorem calendarAct_firm {id : ℕ} (h : Firm b s t) : Firm b s (calendarAct t id) :=
  unlessFatal_firm h (fun _ h => Firm.ite (Firm.ite (deadlineAct_firm h) (couchDecision_firm h)) h)

theorem stall_firm {t' : ℕ} (h : Firm b s t) : Firm b s (stall t t') := Firm.ite (tgtPut_firm h) (jnl_firm (tgtPut_firm h))

theorem wdogExpire_firm {t' : ℕ} (h : Firm b s t) : Firm b s (wdogExpire t t') := Firm.ite (stall_firm h) (sendBell_firm (tgtPut_firm h))

theorem dueAct_firm {d : Due} (h : Firm b s t) : Firm b s (dueAct t d) := by
  unfold dueAct
  refine Firm.ite ?_ (Firm.ite (unlessFatal_firm h (fun _ h => couchDecision_firm h))
    (Firm.ite (calendarAct_firm h) (Firm.ite (Firm.ite (wdogExpire_firm h) h) (propClose_firm h))))
  split
  · exact lockBreak_firm h
  · exact h

theorem duesAct_firm (h : Firm b s t) : Firm b s (duesAct t).1 := by
  unfold duesAct
  dsimp only
  exact forEach_firm (forEach_firm h (fun _ _ => dueAct_firm)) (fun _ _ => dueAct_firm)

/-! ### Host events and the wake -/

theorem hostAck_firm (h : Firm b s t) : Firm b s (hostAck t) := h.put rfl

theorem hostLocks_firm {t' : BitVec 12} {k : HostKind} (h : Firm b s t) : Firm b s (hostLocks t t' k) := by
  unfold hostLocks
  split
  · exact lockBreak_firm h
  · exact lockBreak_firm h
  · exact h

theorem applyHost_firm {e : HostEvt} (h : Firm b s t) : Firm b s (applyHost t e) := by
  unfold applyHost
  refine Firm.ite h (engineSettle_firm (settleAll_firm (forEach_firm (hostLocks_firm h) (fun _ _ h => ?_))))
  split
  · exact clearUnreach_firm h
  · exact setUnreach_firm h

theorem hostTake_firm {e : HostEvt} (h : Firm b s t) : Firm b s (hostTake t e) := hostAck_firm (applyHost_firm h)

theorem wakeEoi_firm {q : Queued} (h : Firm b s t) : Firm b s (wakeEoi t q) := by
  unfold wakeEoi
  split
  · exact inputRound_firm (applyEoi_firm h)
  · exact applyQueued_firm h

theorem wakeQueues_firm (h : Firm b s t) : Firm b s (wakeQueues t) := by
  unfold wakeQueues
  extract_lets c s1 c2 s2
  have h1 : Firm b s s1 := forEach_firm (h.put rfl) fun _ _ h => hostTake_firm h
  have h2 : Firm b s s2 := forEach_firm (h1.put rfl) fun _ _ h => wakeEoi_firm h
  exact forEach_firm (h2.put rfl) fun _ _ h => applyQueued_firm h

theorem sweepMark_firm (h : Firm b s t) : Firm b s (sweepMark t) := h.put rfl

theorem writeback_firm (h : Firm b s t) : Firm b s (writeback t) := by
  unfold writeback
  extract_lets s1 c s2 s3
  have h1 : Firm b s s1 := forEach_firm h fun _ _ h => vteStore_firm h
  have h2 : Firm b s s2 := h1.put rfl
  have h3 : Firm b s s3 := forEach_firm h2 fun _ _ h => tdStore_firm h
  exact h3.put rfl

theorem writebackTick_firm (h : Firm b s t) : Firm b s (writebackTick t) := Firm.ite h (Firm.ite (writeback_firm (h.put rfl)) (h.put rfl))

theorem bucketRefill_firm (h : Firm b s t) : Firm b s (bucketRefill t) := h.put rfl

theorem bucketTick_firm (h : Firm b s t) : Firm b s (bucketTick t) := Firm.ite h (bucketRefill_firm (h.put rfl))

theorem windowsEnd_firm (h : Firm b s t) : Firm b s (windowsEnd t) := h.put rfl

theorem strangerTick_firm (h : Firm b s t) : Firm b s (strangerTick t) := Firm.ite h (windowsEnd_firm (h.put rfl))

theorem creditRefill_firm {n : ℕ} (h : Firm b s t) : Firm b s (creditRefill t n) := by
  unfold creditRefill
  split
  · exact h
  · exact forEach_firm h (fun _ _ => tnPut_firm)

theorem creditTick_firm (h : Firm b s t) : Firm b s (creditTick t) := Firm.ite h (creditRefill_firm (h.put rfl))

theorem ticksAct_firm (h : Firm b s t) : Firm b s (ticksAct t) :=
  sweepMark_firm (writebackTick_firm (bucketTick_firm (strangerTick_firm (creditTick_firm h))))

theorem wakeGroup_firm {g : ℕ} (h : Firm b s t) : Firm b s (wakeGroup t g) := Firm.ite (couchTry_firm (couchCalendar_firm (couchRelease_firm h))) h

theorem wakeGroups_firm (h : Firm b s t) : Firm b s (wakeGroups t) := unlessFatal_firm h (fun _ h => forEach_firm h (fun _ _ h2 => wakeGroup_firm h2))

theorem lastRounds_firm (h : Firm b s t) : Firm b s (lastRounds t) := forEach_firm h (fun _ _ => inputRound_firm)

theorem wakeMerge_firm (h : Firm b s t) : Firm b s (wakeMerge t) := lastRounds_firm (wiredRelease_firm h)

theorem reportFaults_firm (h : Firm b s t) : Firm b s (reportFaults t) := forEach_firm (h.put rfl) (fun _ _ => faultAt_firm)

theorem reportIgnored_firm (h : Firm b s t) : Firm b s (reportIgnored t) := by
  unfold reportIgnored
  extract_lets c s1
  have h1 : Firm b s s1 := forEach_firm (h.put rfl) fun _ _ h => rejectWrite_firm h
  exact forEach_firm (h1.put rfl) fun _ _ h => raiseStatus_firm h

theorem heldDone_firm (h : Firm b s t) : Firm b s (heldDone t) := Firm.ite h (portDone_firm (h.put rfl))

theorem wakeHeld_firm (h : Firm b s t) : Firm b s (wakeHeld t) := forEach_firm (heldDone_firm h) (fun _ _ => applyQueued_firm)

theorem hostEvent_firm {e : HostEvt} (h : Firm b s t) : Firm b s (hostEvent t e) :=
  Firm.ite (Firm.ite (wakeSource_firm (h.put rfl)) (hostTake_firm (activity_firm h))) h

/-! ### The sideband -/

theorem sbPut_firm {b' : SbUnit} (h : Firm b s t) : Firm b s (sbPut t b') := h.put rfl

theorem sbSend_firm {status : Byte} {data : List (BitVec 16)} (h : Firm b s t) : Firm b s (sbSend t status data) := h.put rfl

theorem sbWakeAct_firm (h : Firm b s t) : Firm b s (sbWakeAct t) := Firm.ite (Firm.ite (wakeSource_firm h) (Firm.ite (activity_firm h) h)) h

theorem sbResetAct_firm {key : BitVec 16} (h : Firm b s t) : Firm b s (sbResetAct t key) := by
  unfold sbResetAct
  extract_lets s1 c1 c2 s2
  have h1 : Firm b s s1 := sbSend_firm h
  have h2 : Firm b s s2 := sbSend_firm h
  exact Firm.ite (sbSend_firm h) (Firm.ite (h1.put rfl) (h2.put rfl))

theorem sbCommand_firm {cmd : Byte} {data : BitVec 16} (h : Firm b s t) : Firm b s (sbCommand t cmd data) :=
  Firm.ite (sbSend_firm h) (Firm.ite (sbWakeAct_firm (sbSend_firm h))
    (Firm.ite (sbSend_firm h) (Firm.ite (Firm.ite (sbSend_firm h) (sbSend_firm h)) (Firm.ite (sbResetAct_firm h) (sbSend_firm h)))))

theorem sbExecute_firm {addr cmd : Byte} {data : BitVec 16} (h : Firm b s t) : Firm b s (sbExecute t addr cmd data) :=
  Firm.ite (sbCommand_firm h) (sbSend_firm h)

theorem sbTake_firm {v : Bool} (h : Firm b s t) : Firm b s (sbTake t v) := by
  unfold sbTake
  dsimp only
  split
  · exact sbExecute_firm (sbPut_firm h)
  · exact sbPut_firm h

theorem sbSent_firm (h : Firm b s t) : Firm b s (sbSent t) := Firm.ite (resetRequest_firm (sbPut_firm h)) (sbPut_firm h)

theorem sbGive_firm {tx : List Bool} (h : Firm b s t) : Firm b s (sbGive t tx) := by
  unfold sbGive
  split
  · exact sbSent_firm h
  · exact sbPut_firm h

theorem sbMove_firm {m : SbMove} (h : Firm b s t) : Firm b s (sbMove t m) := by
  unfold sbMove
  split
  · exact sbPut_firm h
  · exact sbTake_firm h
  · exact sbPut_firm h
  · exact sbGive_firm h
  · exact sbPut_firm h
  · exact sbGive_firm h
  · exact h

theorem sbExchange_firm {frame : SbFrame} {cmd : Byte} {data : List Bool} (h : Firm b s t) : Firm b s (sbExchange t frame cmd data) := by
  unfold sbExchange
  refine Firm.ite h ?_
  generalize List.take _ _ = l
  induction l generalizing t with
  | nil => exact h
  | cons m l ih => exact ih (sbMove_firm h)

theorem sbAbandon_firm {b' : SbUnit} (h : Firm b s t) : Firm b s (sbAbandon t b') := h.put rfl

/-! ### Last gasp and SAFE -/

theorem writeAt_firm {p : Port} {f : State → State} (h : Firm b s t) (hf : ∀ u, Firm b s u → Firm b s (f u)) : Firm b s (writeAt t p f) :=
  portServe_firm h (fun _ h => portDone_firm (hf _ h))

theorem lastGaspSlot_firm (h : Firm b s t) : Firm b s (lastGaspSlot t) := by
  unfold lastGaspSlot
  split
  · exact h
  · exact h.put rfl

theorem lastGaspWrite_firm (h : Firm b s t) : Firm b s (lastGaspWrite t) := by
  unfold lastGaspWrite
  split
  · exact h
  · exact Firm.ite (Firm.put (jnlPut_firm (lastGaspSlot_firm h)) rfl) (lastGaspSlot_firm h)

theorem openEnd_firm {completes : Bool} (h : Firm b s t) : Firm b s (openEnd t completes) := Firm.put (Firm.ite (closeWrite_firm h) h) rfl

theorem safeDiscard_firm (h : Firm b s t) : Firm b s (safeDiscard t) :=
  h.trans ⟨fun _ => ⟨rfl, rfl, rfl, rfl⟩, id, fun hs => ⟨hs, fun _ => rfl⟩, rfl, fun hx => hx.elim .inl fun e => absurd e.2 nofun, fun ⟨_, e, _⟩ =>
    absurd e nofun⟩

theorem safeEnter_firm {completes : Bool} (h : Firm b s t) : Firm b s (safeEnter t completes) := by
  unfold safeEnter
  split
  · exact h
  · extract_lets s0 code r' s1 s2
    have h2 : Firm b s s2 := setMode_firm nofun nofun (safeDiscard_firm (heldDone_firm (openEnd_firm (lastGaspWrite_firm h))))
    exact h2.put rfl

theorem resetOwed_firm (h : Firm b s t) : Firm b s (resetOwed t) := lastGaspSlot_firm (Firm.ite (safeEnter_firm h) h)

theorem fencePlane_firm {plane : BitVec 2} {arg : BitVec 24} {lane handle : Word} {inj : Bool}
    (hn : FenceSettled s → t.flt.fenced = 0 ∧ t.flt.selfTest = none) (h : Firm false s t) : Firm false s (fencePlane t plane arg lane handle inj) :=
      by
  unfold fencePlane
  extract_lets drop c s0 s1 sig
  have h0 : Firm false s s0 := by
    refine ⟨nofun, h.free, fun hs => ?_, h.ret, h.saved, h.asked⟩
    obtain ⟨h1, h2⟩ := hn hs
    exact ⟨fun _ => h2, fun hx => absurd h1 (by rw [(h.settled hs).2 hx]; exact hx)⟩
  have h1 : Firm false s s1 := deferredCount_firm (pollSum_firm h0)
  exact Firm.ite (fatalFault_firm h) (Firm.ite h1 (jnlPut_firm (h1.put rfl)))

/-! ### Commands that name a register -/

theorem modeReqWrite_firm {form : Form} {w : Word} (h : Firm b s t) : Firm b s (modeReqWrite form w t) := Firm.ite h (aoHold_firm h)

theorem ctlBit_firm {mask : Word} {on : Bool} (h : Firm false s t) : Firm false s (ctlBit t mask on) := portWrite_firm h (fun _ h => ctlPut_firm h)

theorem freezeBit_firm {on : Bool} (h : Firm b s t) : Firm b s (freezeBit t on) := portWrite_firm h (fun _ h => arbPut_firm h)

/-! ### Forming -/

theorem fetchEnd_firm (h : Firm b s t) : Firm b s (fetchEnd t) := by
  unfold fetchEnd
  dsimp only
  split
  · exact opFail_firm h
  · split
    · exact opFail_firm h
    · exact loaderTake_firm (h.put rfl)

theorem imageArrive_firm {image : List Byte} (h : Firm b s t) : Firm b s (imageArrive t image) := fetchEnd_firm (Firm.put (apDrop_firm h) rfl)

theorem imageReturn_firm {image : List Byte} (h : Firm b s t) : Firm b s (imageReturn t image) :=
  Firm.ite (Firm.ite (imageArrive_firm (failover_firm (injectSpent_firm h))) (imageLost_firm (injectSpent_firm h))) (imageArrive_firm h)

theorem drainProposal_firm {p : Party} (h : Firm b s t) : Firm b s (drainProposal t p) := Firm.ite (propClose_firm h) h

theorem drainLocks_firm (h : Firm b s t) : Firm b s (drainLocks t) := forEach_firm h (fun _ _ => lockBreak_firm)

theorem drainStart_firm {f : Furnish} (h : Firm b s t) : Firm b s (drainStart t f) :=
  drainProposal_firm (drainProposal_firm (drainLocks_firm (h.put rfl)))

theorem approvedOver_firm (h : Firm b s t) : Firm b s (approvedOver t) := Firm.ite (changeRefused_firm h) h

theorem eaOver_firm {u : EaId} (h : Firm b s t) : Firm b s (eaOver t u) := Firm.ite (eaRaise_firm (eaPut_firm h)) h

theorem discardFormed_firm (h : Firm b s t) : Firm b s (discardFormed t) := Firm.put (approvedOver_firm (forEach_firm h (fun _ _ => eaOver_firm))) rfl

theorem placeJournal_firm {r' : Region} (h : Firm b s t) : Firm b s (placeJournal t r') := Firm.put (apRequest_firm h) rfl

theorem formJournal_firm {f : Furnish} (h : Firm false s t) : Firm false s (formJournal t f) := by
  unfold formJournal
  split
  · exact h
  · exact forEach_firm (h.trans ⟨nofun, id, fun hs => ⟨hs, fun _ => rfl⟩, rfl, id, id⟩) fun _ _ h => placeJournal_firm h

theorem formStart_firm {f : Furnish} (h : Firm false s t) : Firm false s (formStart t f) :=
  Firm.ite (apBulk_firm (formJournal_firm (Firm.put (discardFormed_firm h) rfl)))
    (apBulk_firm (formJournal_firm (Firm.put (discardFormed_firm h) rfl)))

theorem validate_firm (h : Firm false s t) : Firm false s (validate t) := by
  unfold validate
  dsimp only
  split
  · split
    · exact opFail_firm h
    · split
      · exact drainStart_firm h
      · exact formStart_firm h
  · exact opFail_firm h
  · exact h

theorem drainForm_firm {old new : Furnish} {t' : ℕ} (h : Firm b s t) : Firm b s (drainForm t old new t') := apBulk_firm (apBulk_firm (h.put rfl))

theorem drainChanges_firm {e : Slice} (h : Firm b s t) : Firm b s (drainChanges t e) :=
  forEach_firm (forEach_firm (forEach_firm (forEach_firm h (fun _ _ h => Firm.ite (inputRound_firm h) (vteTry_firm h))) (fun _ _ => tdBoundary_firm))
    (fun _ _ => groupSettle_firm)) (fun _ _ => couchBoundary_firm)

theorem drainMessages_firm {e : Slice} (h : Firm b s t) : Firm b s (drainMessages t e) := Firm.ite (forEach_firm h (fun _ _ => inputRound_firm)) h

theorem drainRefuse_firm {h' : ℕ} (h : Firm b s t) : Firm b s (drainRefuse t h') := forEach_firm (vecPut_firm h) (fun _ _ => changeRefused_firm)

theorem drainWindow_firm {old new : Furnish} {g : ℕ} (h : Firm b s t) : Firm b s (drainWindow old new t g) :=
  Firm.ite (couchPut_firm (couchRelease_firm h)) h

theorem drainEnd_firm (h : Firm b s t) : Firm b s (drainEnd t) := by
  unfold drainEnd
  split
  · refine Firm.ite h ?_
    split
    · exact drainForm_firm h
    · exact Firm.ite (drainChanges_firm (drainMessages_firm h)) (Firm.ite
        (drainForm_firm (forEach_firm (forEach_firm (drainChanges_firm (drainMessages_firm h)) (fun _ _ => drainRefuse_firm))
        (fun _ _ => drainWindow_firm))) (forEach_firm (drainChanges_firm (drainMessages_firm h)) (fun _ _ => drainRefuse_firm)))
  · exact h

theorem drainReturn_firm {t' : ℕ} {e : BitVec 8 × EgWrite} (h : Firm b s t) : Firm b s (drainReturn t' t e) :=
  Firm.ite (tgtPut_firm (Firm.put (forEach_firm h (fun _ _ => refuseOne_firm)) rfl)) h

theorem warmVte_firm {p : ℕ → Purpose} {e : ℕ × Words8} (h : Firm b s t) : Firm b s (warmVte p t e) :=
  Firm.ite (Firm.ite h (apRequest_firm h)) (deferred_firm (apRequest_firm h))

theorem warmEnd_firm {f : Furnish} {stored : List (ℕ × Words8)} (h : Firm b s t) : Firm b s (warmEnd t f stored) := by
  unfold warmEnd
  extract_lets l c s0 s1 c1 s1'
  have h0 : Firm b s s0 := h.put rfl
  have h1 : Firm b s s1 := forEach_firm h0 fun _ _ h => warmVte_firm h
  have h1' : Firm b s s1' := forEach_firm h0 fun _ _ h => warmVte_firm h
  exact Firm.ite (opFail_firm (h1.put rfl)) (warmGo_firm (h1'.put rfl))

theorem reformVoid_firm {a : Slice} {kept : ℕ} {moved : Bool} {goneTd : ℕ → Bool} (h : Firm b s t) : Firm b s (reformVoid t a kept moved goneTd) :=
  h.put rfl

theorem reformRemove_firm {h' : ℕ} (h : Firm b s t) : Firm b s (reformRemove t h').1 := by
  unfold reformRemove
  refine Firm.put (forEach_firm ?_ (fun _ _ => changeForeign_firm)) rfl
  split
  · exact tgtPut_firm (calLeave_firm (dropEv_firm h))
  · exact calLeave_firm (dropEv_firm h)

theorem reformRemoveAll_firm {lo hi : ℕ} (h : Firm b s t) : Firm b s (reformRemoveAll t lo hi) :=
  forEach_firm h (fun _ _ h => Firm.put (reformRemove_firm h) rfl)

theorem reformCouches_firm {oldIn newIn : ℕ → Bool} {l : List ℕ} (h : Firm b s t) : Firm b s (reformCouches t oldIn newIn l) :=
  forEach_firm h (fun _ _ h => Firm.put (calLeave_firm (couchRelease_firm h)) rfl)

theorem reformGroups_firm {oldIn newIn newTarget : ℕ → Bool} (h : Firm b s t) : Firm b s (reformGroups t oldIn newIn newTarget) := h.put rfl

theorem reformTargets_firm {oldIn newIn : ℕ → Bool} (h : Firm b s t) : Firm b s (reformTargets t oldIn newIn) := h.put rfl

theorem reformJournal_firm {old new : Furnish} {t' : ℕ} (h : Firm b s t) : Firm b s (reformJournal t old new t') := by
  unfold reformJournal
  split
  · exact Firm.ite h (placeJournal_firm h)
  · exact h.put rfl

theorem groupStore_firm {old : List (ℕ × Group)} {g : ℕ} (h : Firm b s t) : Firm b s (groupStore old t g) :=
  Firm.ite h (forEach_firm h (fun _ _ => apRequest_firm))

theorem reformDirty_firm {a b' : Slice} {moved : Bool} (h : Firm b s t) : Firm b s (reformDirty t a b' moved) := Firm.ite (h.put rfl) h

theorem keptFix_firm {e : Slice} {h' : ℕ} {v : Vte} (h : Firm b s t) : Firm b s (keptFix e t h' v) :=
  Firm.ite (Firm.put (Firm.ite (vteStore_firm (vteDiscard_firm (vtePut_firm h))) (apRequest_firm (awayPut_firm (vteDiscard_firm h)))) rfl) h

theorem reformKept_firm {e : Slice} {stored : List (ℕ × Words8)} {h' : ℕ} (h : Firm b s t) : Firm b s (reformKept e stored t h') := by
  unfold reformKept
  split
  · exact keptFix_firm h
  · split
    · exact h
    · exact Firm.ite (keptFix_firm h) (deferred_firm h)

theorem reformCouch_firm {f : Furnish} {g : ℕ} (h : Firm b s t) : Firm b s (reformCouch f t g) :=
  Firm.ite (Firm.ite (couchPut_firm h) (jnlCfgReject_firm (couchCalendar_firm (couchRelease_firm (couchChange_firm h)))))
    (apRequest_firm (Firm.ite (couchPut_firm h) (jnlCfgReject_firm (couchCalendar_firm (couchRelease_firm (couchChange_firm h))))))

theorem reformFetch_firm {a : Slice} (h : Firm b s t) : Firm b s (reformFetch t a) :=
  forEach_firm (forEach_firm h (fun _ _ => fetchAgain_firm)) (fun _ _ => checkedAgain_firm)

theorem reformUnit_firm {u : EaId} (h : Firm b s t) : Firm b s (reformUnit t u) := by
  unfold reformUnit
  dsimp only
  split
  · exact Firm.ite (eaRaise_firm (eaPut_firm h)) h
  · exact Firm.ite h (readEnd_firm h)
  · exact h

theorem reformEnd_firm {old new : Furnish} {t' : ℕ} {stored : List (ℕ × Words8)} (h : Firm b s t) : Firm b s (reformEnd t old new t' stored) :=
  settleAll_firm (jnl_firm (lgCopy_firm (apBulk_firm (releaseAll_firm
    (reformFetch_firm (forEach_firm (Firm.ite (fillBucket_firm (forEach_firm
    (Firm.put (reformDirty_firm (forEach_firm (forEach_firm (formCopies_firm
    (opCommit_firm (reformJournal_firm (reformCouches_firm (reformGroups_firm (reformTargets_firm (reformVoid_firm (reformRemoveAll_firm h))))))))
    (fun _ _ => groupStore_firm)) (fun _ _ => reformKept_firm))) rfl) (fun _ _ => reformCouch_firm)))
    (forEach_firm (Firm.put (reformDirty_firm (forEach_firm (forEach_firm
    (formCopies_firm (opCommit_firm (reformJournal_firm (reformCouches_firm
    (reformGroups_firm (reformTargets_firm (reformVoid_firm (reformRemoveAll_firm h)))))))) (fun _ _ => groupStore_firm))
    (fun _ _ => reformKept_firm))) rfl) (fun _ _ => reformCouch_firm))) (fun _ _ => reformUnit_firm)))))))

theorem formDone_firm {stored : List (ℕ × Words8)} (h : Firm b s t) : Firm b s (formDone t stored) := by
  unfold formDone
  split
  · exact formEnd_firm h
  · exact warmEnd_firm h
  · exact reformEnd_firm h
  · exact h

theorem formCommit_firm {stored : List (ℕ × Words8)} (h : Firm b s t) : Firm b s (formCommit t stored) :=
  Firm.ite (Firm.ite (formDone_firm (apDrop_firm (failover_firm (injectSpent_firm h)))) (opFail_firm (apDrop_firm (injectSpent_firm h))))
    (formDone_firm (apDrop_firm h))

theorem unitWrite_firm {p : Port} {u : EaId} {off : ℕ} {f : State → State} (h : Firm b s t) (hf : ∀ u, Firm b s u → Firm b s (f u)) : Firm b s
    (unitWrite t p u off f) :=
  portWrite_firm h (fun _ h => hf _ h)

/-! ### Reads and registers -/

theorem injectWrite_firm {what : ℕ} {key : BitVec 16} (h : Firm b s t) : Firm b s (injectWrite t what key) :=
  writeAt_firm h (fun _ h => portWrite_firm h (fun _ h2 => inject_firm h2))

theorem seqClear_firm {p : Port} {r' : ScReg} {w : Word} (h : Firm b s t) : Firm b s (seqClear t p r' w) := by
  unfold seqClear
  split
  · exact Firm.ite (partyWrite_firm h (fun _ h => scClear_firm h)) h
  · exact portWrite_firm h (fun _ h => scClear_firm h)

theorem timeLatch_firm {p : Port} (h : Firm b s t) : Firm b s (timeLatch t p) := by
  unfold timeLatch
  refine Firm.ite ?_ (portAnswer_firm h)
  split
  · exact portAnswer_firm (h.put rfl)
  · exact portAnswer_firm (h.put rfl)
  · exact portAnswer_firm (denied_firm h)

theorem sleepElapsedRead_firm {p : Port} (h : Firm b s t) : Firm b s (sleepElapsedRead t p) := by
  unfold sleepElapsedRead
  split
  · exact Firm.ite (portAnswer_firm h) (portAnswer_firm (h.put rfl))
  · exact portAnswer_firm h
  · exact portAnswer_firm (Firm.ite (denied_firm h) h)

theorem amaskRead_firm {p : Port} {t' : ℕ} (h : Firm b s t) : Firm b s (amaskRead t p t') := by
  unfold amaskRead
  refine Firm.ite (portAnswer_firm (h.put rfl)) ?_
  split
  · exact portAnswer_firm (denied_firm h)
  · exact portAnswer_firm h

theorem alignedRead_firm {p : Port} {addr : BitVec 22} (h : Firm b s t) : Firm b s (alignedRead t p addr) := by
  unfold alignedRead
  split
  · exact Firm.ite (timeLatch_firm h) (portAnswer_firm h)
  · exact Firm.ite (timeLatch_firm h) (Firm.ite (sleepElapsedRead_firm h) (Firm.ite (amaskRead_firm h) (portAnswer_firm h)))
  · exact Firm.ite (portAnswer_firm h) (Firm.ite (portAnswer_firm (denied_firm h)) (Firm.ite (amaskRead_firm h) (portAnswer_firm h)))

theorem regRead_firm {p : Port} {addr : BitVec 22} (h : Firm b s t) : Firm b s (regRead t p addr) := by
  unfold regRead
  refine Firm.ite (alignedRead_firm h) ?_
  split
  · exact portAnswer_firm (Firm.ite (denied_firm h) h)
  · exact portAnswer_firm h

theorem queuedAt_firm {p : Port} {f : State → State} (h : Firm b s t) (hf : ∀ u, Firm b s u → Firm b s (f u)) : Firm b s (queuedAt t p f) :=
  portServe_firm h fun _ h => doneUnlessHeld_firm (hf _ h)

/-! ### The self-test -/

theorem selfTestEnd_firm {aPass bPass third : Bool} (h : Firm false s t) : Firm false s (selfTestEnd t aPass bPass third) := by
  unfold selfTestEnd
  split
  · exact h
  · next hr =>
    extract_lets inj a b' n c s1 s2
    have h1 : Firm false s s1 := h.trans ⟨nofun, id, fun hs => ⟨fun _ => rfl, fun _ => rfl⟩, rfl, id, id⟩
    have hn : FenceSettled s → s1.flt.fenced = 0 ∧ s1.flt.selfTest = none := fun hs =>
      ⟨not_not.mp fun hx => absurd (hr.symm.trans ((h.settled hs).1 hx)) nofun, rfl⟩
    have h2 : Firm false s s2 := fencePlane_firm hn h1
    exact Firm.ite (Firm.ite (laneRounds_firm (corrected_firm h1)) (fatalFault_firm h1))
      (Firm.ite (fatalFault_firm h1) (Firm.ite h2 (laneRounds_firm h2)))

/-! ### The arbiter -/

theorem pruneStream_firm {t' : ℕ} (h : Firm b s t) : Firm b s (pruneStream t t') :=
  forEach_firm h (fun _ _ h => Firm.ite h (vecCalendar_firm (leaveStream_firm h)))

theorem headFetch_firm {t' : ℕ} (h : Firm b s t) : Firm b s (headFetch t t') := by
  unfold headFetch
  split
  · exact h
  · exact Firm.ite h (Firm.ite (fetchVte_firm h) (spillFetch_firm h))

theorem countWaits_firm {req : List ℕ} {win : ℕ} (h : Firm b s t) : Firm b s (countWaits t req win) := forEach_firm h (fun _ _ => tgtPut_firm)

theorem charge_firm {t' h' : ℕ} {ev : Ev} (h : Firm b s t) : Firm b s (charge t t' h' ev) :=
  Firm.ite (tgtPut_firm (Firm.ite (tnPut_firm h) (jnlRated_firm (h.put rfl)))) h

theorem openAdd_firm {t' : ℕ} {o : Out} (h : Firm b s t) : Firm b s (openAdd t t' o) := by
  unfold openAdd
  extract_lets g x s1 w
  have h1 : Firm b s s1 := tgtPut_firm h
  exact h1.put rfl

theorem grantOne_firm {t' h' : ℕ} {ev : Ev} (h : Firm b s t) : Firm b s (grantOne t t' h' ev) :=
  vecPut_firm (tgtPut_firm (openAdd_firm (charge_firm h)))

theorem roundGrant_firm {req : List ℕ} {t' : ℕ} (h : Firm b s t) : Firm b s (roundGrant t req t') := by
  unfold roundGrant
  dsimp only
  split
  · exact Firm.ite (countWaits_firm (noteBusy_firm h)) (closeWrite_firm (countWaits_firm (noteBusy_firm h)))
  · exact settleStream_firm (Firm.ite (batchEnd_firm (Firm.ite (closeWriteOf_firm
      (grantOne_firm (Firm.ite (countWaits_firm (noteBusy_firm h)) (closeWrite_firm (countWaits_firm (noteBusy_firm h))))))
      (grantOne_firm (Firm.ite (countWaits_firm (noteBusy_firm h)) (closeWrite_firm (countWaits_firm (noteBusy_firm h)))))))
      (Firm.ite (closeWriteOf_firm (grantOne_firm (Firm.ite (countWaits_firm (noteBusy_firm h))
      (closeWrite_firm (countWaits_firm (noteBusy_firm h)))))) (grantOne_firm
      (Firm.ite (countWaits_firm (noteBusy_firm h)) (closeWrite_firm (countWaits_firm (noteBusy_firm h)))))))

theorem arbiterStep_firm (h : Firm b s t) : Firm b s (arbiterStep t) := by
  unfold arbiterStep
  dsimp only
  split
  · exact settleAll_firm (forEach_firm (forEach_firm h (fun _ _ => pruneStream_firm)) (fun _ _ => headFetch_firm))
  · exact settleAll_firm (roundGrant_firm (forEach_firm (forEach_firm h (fun _ _ => pruneStream_firm)) (fun _ _ => headFetch_firm)))

/-! ### Timers -/

theorem holdoffEnd_firm {g : ℕ} (h : Firm b s t) : Firm b s (holdoffEnd t g) :=
  unlessFatal_firm h (fun _ h => Firm.ite (couchDecision_firm (activity_firm h)) h)

theorem timeLimit_firm {g : ℕ} (h : Firm b s t) : Firm b s (timeLimit t g) :=
  unlessFatal_firm h (fun _ h => Firm.ite (couchDecision_firm (activity_firm h)) h)

theorem sweepTick_firm (h : Firm b s t) : Firm b s (sweepTick t) :=
  Firm.ite h (Firm.ite (h.put rfl) (forEach_firm (activity_firm (h.put rfl)) (fun _ _ => calendarAct_firm)))

theorem aliveToggle_firm (h : Firm b s t) : Firm b s (aliveToggle t) := Firm.ite (h.put rfl) h

theorem pollRefresh_firm (h : Firm b s t) : Firm b s (pollRefresh t) := h.put rfl

theorem regStop_firm (h : Firm b s t) : Firm b s (regStop t) := whenLive_firm (h.put rfl) (fun _ h => fatalFault_firm h)

theorem aoStop_firm (h : Firm b s t) : Firm b s (aoStop t) := Firm.ite h (Firm.put (faultFound_firm h) rfl)

/-! ### Refresh -/

theorem lmemCorrupt_firm {row : BitVec 16} (h : Firm b s t) : Firm b s (lmemCorrupt t row) := by
  unfold lmemCorrupt
  generalize Memory.writeBytes _ _ _ = m
  exact Firm.ite (h.put rfl) h

theorem rowReload_firm {array : BitVec 8} {row : BitVec 16} (h : Firm b s t) : Firm b s (rowReload t array row) := by
  unfold rowReload
  refine Firm.ite h ?_
  split
  · exact vteReload_firm h
  · exact Firm.ite (tdReload_firm h) h

theorem eccDouble_firm {array : BitVec 8} {row : BitVec 16} {copied inj : Bool} (h : Firm b s t) : Firm b s (eccDouble t array row copied inj) :=
  Firm.ite (faultFound_firm (lmemCorrupt_firm h)) (Firm.ite (rowReload_firm (faultFound_firm h)) (fatalFault_firm h))

theorem refreshRow_firm {array : BitVec 8} {row : BitVec 16} {copied : Bool} {ecc : Ecc} (h : Firm b s t) : Firm b s
    (refreshRow t array row copied ecc) := by
  unfold refreshRow
  refine Firm.ite (faultFound_firm (injectSpent_firm h)) (Firm.ite (eccDouble_firm (injectSpent_firm h)) ?_)
  split
  · exact h
  · exact faultFound_firm h
  · exact eccDouble_firm h

/-! ### IDLE and entry -/

theorem idleEnter_firm (h : Firm b s t) : Firm b s (idleEnter t) := by
  unfold idleEnter
  extract_lets s1
  have h1 : Firm b s s1 := setMode_firm nofun nofun h
  exact h1.put rfl

theorem execEntryRetry_firm (s : State) : ∃ x, execEntryRetry s = .next x ∧ Firm b s x := by
  have h := Firm.refl (b := b) s
  refine ⟨_, rfl, ?_⟩
  split
  · exact Firm.ite (tryAttempt_firm h) h
  · exact h

theorem copiesTake_firm (h : Firm b s t) : Firm b s (copiesTake t) := Firm.put (pollRefresh_firm h) rfl

theorem entryArm_firm (h : Firm b s t) : Firm b s (entryArm t) := by
  unfold entryArm
  extract_lets s1
  have h1 : Firm b s s1 := entryTo_firm nofun (copiesTake_firm h)
  refine entry_firm (t := s1) rfl (fun x hx => ?_) h1
  obtain ⟨y, hy, rfl⟩ := Option.map_eq_some_iff.mp hx
  obtain ⟨z, -, rfl⟩ := Option.map_eq_some_iff.mp hy
  exact nofun

theorem execEntryDeliveryTimeout_firm (s : State) : ∃ x, execEntryDeliveryTimeout s = .next x ∧ Firm b s x := by
  have h := Firm.refl (b := b) s
  refine ⟨_, rfl, ?_⟩
  split
  · exact Firm.ite (refuse_firm h) h
  · exact h

theorem jnlSleep_firm {from_ : Mode} {t' : SleepTarget} (h : Firm b s t) : Firm b s (jnlSleep t from_ t') := jnlPut_firm h

theorem entryPass_firm {e : Entry} (h : Firm b s t) : Firm b s (entryPass t e) := entryGo_firm (jnlSleep_firm (entryTo_firm nofun (h.put rfl)))

theorem entryCapture_firm {e : Entry} (hn : ¬ DormantAsked s) (h : Firm b s t) : Firm b s (entryCapture t e) := by
  unfold entryCapture
  extract_lets s0
  have h0 : Firm b s s0 := Firm.ite (writeback_firm h) h
  clear_value s0
  exact h0.trans ⟨fun _ => ⟨rfl, rfl, rfl, rfl⟩, id, fun hs => ⟨hs, fun _ => rfl⟩, rfl, fun hx => hx.elim nofun fun e => absurd (h0.asked e.2) hn, id⟩

theorem entryCommit_firm {e : Entry} (hn : ¬ DormantAsked s) (h : Firm b s t) : Firm b s (entryCommit t e) := by
  unfold entryCommit
  extract_lets s0
  have h0 : Firm b s s0 := lastRounds_firm h
  exact Firm.ite (entryPass_firm h) (Firm.ite h0 (Firm.ite (refuse_firm h0) (Firm.ite (refuse_firm h0) (entryPass_firm (entryCapture_firm hn h0)))))

theorem execEntryCommit_firm (s : State) : ∃ x, execEntryCommit s = .next x ∧ Firm b s x := by
  have h := Firm.refl (b := b) s
  refine ⟨_, rfl, ?_⟩
  split
  · next e he =>
    split
    · next hc =>
      have hn : ¬ DormantAsked s := fun ⟨e', h1, h2⟩ => by
        obtain rfl := Option.some.inj (he.symm.trans h1)
        simp [h2] at hc
      exact Firm.ite (refuse_firm h) (entryCommit_firm hn h)
    · exact h
  · exact h

/-! ### The clocks -/

theorem aoHeldAct_firm (h : Firm b s t) : Firm b s (aoHeldAct t) := Firm.ite (h.put rfl) (forEach_firm (h.put rfl) (fun _ _ => aoAct_firm))

theorem regAgree_firm (h : Firm b s t) : Firm b s (regAgree t) := cdcClear_firm (cdcClear_firm (cdcClear_firm h))

theorem sbQuiet_firm (h : Firm b s t) : Firm b s (sbQuiet t) := h.put rfl

theorem beatSample_firm (h : Firm b s t) : Firm b s (beatSample t) := Firm.ite (h.put rfl) (h.put rfl)

theorem estimateTick_firm (h : Firm b s t) : Firm b s (estimateTick t) := Firm.ite (h.put rfl) h

theorem aoEdge_firm (h : Firm b s t) : Firm b s (aoEdge t) :=
  Firm.ite h (estimateTick_firm (Firm.put (regAgree_firm (sbQuiet_firm (beatSample_firm h))) rfl))

theorem aoClock_firm (h : Firm b s t) : Firm b s (aoClock t) := Firm.ite h (aoHeldAct_firm (aoEdge_firm h))

theorem interpolate_firm (h : Firm b s t) : Firm b s (interpolate t) := Firm.ite (h.put rfl) h

theorem fabCycle_firm (h : Firm b s t) : Firm b s (fabCycle t) := Firm.ite (interpolate_firm (h.put rfl)) h

end Sys2Proof.Machine
end

section
/-! PROOF. What every command and every clock edge leaves of what a fence and the retention set rest on (R165, R288, R292, R319, R322). -/

namespace Sys2Proof.Machine

/-- The commands that may set the journal's place, a lock bit or FENCED, where the core runs (R165, R275, R278, R335). -/
def places (i : Instr) : Bool :=
  match i with
  | .regWrite .. | .engineEnSet | .engineEnClear | .ingressEnClear | .ingressEnSet | .deliverEnClear | .deliverEnSet | .lockSet _
  | .validateComplete | .selfTest .. => true
  | _ => false

variable {b : Bool} {s t : State}

/-- Every command but resets, a power-up and the power controller's acknowledge. -/
theorem exec_firm (s : State) {i : Instr} (hb : places i = true → b = false) (ha : acknowledges i = false) (hr : resets i = false)
    (hp : powersUp i s = false) : ∃ t, exec i s = .next t ∧ Firm b s t := by
  have h := Firm.refl (b := b) s
  cases i with
  | regWrite _ _ _ =>
    obtain rfl := hb rfl
    exact ⟨_, rfl, portServe_firm h (fun _ => regWrite_firm)⟩
  | accessGuardTimeout _ => exact ⟨_, rfl, portServe_firm h (fun _ h => Firm.ite h (noteHung_firm (portAnswer_firm h)))⟩
  | memoryWriteBeat _ _ => exact ⟨_, rfl, present_firm h⟩
  | assertIntx _ _ => exact ⟨_, rfl, present_firm h⟩
  | deassertIntx _ _ => exact ⟨_, rfl, present_firm h⟩
  | rouse _ _ => exact ⟨_, rfl, present_firm h⟩
  | wakeBeat _ => exact ⟨_, rfl, Firm.ite (wakeBeat_firm h) h⟩
  | vteReadReturn _ _ => exact ⟨_, rfl, onTag_firm h (fun _ => Firm.ite h (readArrive_firm h))⟩
  | apertureReadError _ => exact ⟨_, rfl, onTag_firm h (fun _ => Firm.ite (readError_firm h) h)⟩
  | apertureReadTimeout _ => exact ⟨_, rfl, onTag_firm h (fun _ => Firm.ite (readError_firm h) h)⟩
  | apertureWriteAck _ _ => exact ⟨_, rfl, onWrite_firm h (fun _ => writeAck_firm h)⟩
  | apertureWriteError _ _ => exact ⟨_, rfl, onWrite_firm h (fun _ => writeError_firm h)⟩
  | egressAccept _ => exact ⟨_, rfl, egressOutcome_firm h (fun _ _ _ h => accepted_firm h)⟩
  | egressReject _ => exact ⟨_, rfl, egressOutcome_firm h (fun _ _ _ h => refused_firm h)⟩
  | levelLineChange _ _ => exact ⟨_, rfl, lineMoves_firm h⟩
  | sampledEdge _ => exact ⟨_, rfl, edgeLine_firm h⟩
  | countedStep _ _ => exact ⟨_, rfl, countedLine_firm h⟩
  | cdcRetry _ _ => exact ⟨_, rfl, whenLive_firm h (fun _ h => stirring_firm h (fun _ => cdcRetry_firm))⟩
  | cdcDeferred _ _ => exact ⟨_, rfl, whenLive_firm h (fun _ h => stirring_firm h (fun _ => cdcDeferred_firm))⟩
  | timeValidLoss => exact ⟨_, rfl, Firm.ite (stirring_firm h (fun _ h => startEstimate_firm (h.put rfl))) h⟩
  | throttleChange _ => exact ⟨_, rfl, Firm.ite (h.put rfl) (cdcClear_firm (throttleTake_firm (h.put rfl)))⟩
  | vddOkFall => exact ⟨_, rfl, whenLive_firm h (fun _ h => Firm.ite h (Firm.ite (h.put rfl) (fatalFault_firm h)))⟩
  | linkUp _ _ => exact ⟨_, rfl, hostEvent_firm h⟩
  | linkDown _ _ => exact ⟨_, rfl, hostEvent_firm h⟩
  | lowPower _ _ => exact ⟨_, rfl, hostEvent_firm h⟩
  | hostReset _ _ => exact ⟨_, rfl, hostEvent_firm h⟩
  | quarAck => exact ⟨_, rfl, Firm.ite (h.put rfl) h⟩
  | wiredLevelWake _ => exact ⟨_, rfl, Firm.ite (edgeLine_firm h) h⟩
  | aoWakeComparator => exact ⟨_, rfl, Firm.ite (wakeSource_firm h) h⟩
  | ping _ => exact ⟨_, rfl, sbExchange_firm h⟩
  | sbWake _ => exact ⟨_, rfl, sbExchange_firm h⟩
  | readPoll _ _ => exact ⟨_, rfl, sbExchange_firm h⟩
  | readAo _ _ => exact ⟨_, rfl, sbExchange_firm h⟩
  | sbReset _ _ => exact ⟨_, rfl, sbExchange_firm h⟩
  | badCmd _ _ => exact ⟨_, rfl, sbExchange_firm h⟩
  | sbFrameTimeout => exact ⟨_, rfl, Firm.ite (sbAbandon_firm h) h⟩
  | resetCmd _ _ => exact ⟨_, rfl, writeAt_firm h (fun _ => resetCmd_firm)⟩
  | modeReqWrite _ _ => exact ⟨_, rfl, writeAt_firm h (fun _ => modeReqWrite_firm)⟩
  | engineEnSet =>
    obtain rfl := hb rfl
    exact ⟨_, rfl, writeAt_firm h (fun _ => ctlBit_firm)⟩
  | engineEnClear =>
    obtain rfl := hb rfl
    exact ⟨_, rfl, writeAt_firm h (fun _ => ctlBit_firm)⟩
  | ingressEnClear =>
    obtain rfl := hb rfl
    exact ⟨_, rfl, writeAt_firm h (fun _ => ctlBit_firm)⟩
  | ingressEnSet =>
    obtain rfl := hb rfl
    exact ⟨_, rfl, writeAt_firm h (fun _ => ctlBit_firm)⟩
  | deliverEnClear =>
    obtain rfl := hb rfl
    exact ⟨_, rfl, writeAt_firm h (fun _ => ctlBit_firm)⟩
  | deliverEnSet =>
    obtain rfl := hb rfl
    exact ⟨_, rfl, writeAt_firm h (fun _ => ctlBit_firm)⟩
  | freezeSet => exact ⟨_, rfl, writeAt_firm h (fun _ => freezeBit_firm)⟩
  | freezeClear => exact ⟨_, rfl, writeAt_firm h (fun _ => freezeBit_firm)⟩
  | lockSet _ =>
    obtain rfl := hb rfl
    exact ⟨_, rfl, writeAt_firm h (fun _ h => portWrite_firm h (fun _ => lockPut_firm))⟩
  | load => exact ⟨_, rfl, writeAt_firm h (fun _ h => furnCmd_firm h (fun _ => opStart_firm))⟩
  | reform _ => exact ⟨_, rfl, writeAt_firm h (fun _ h => furnCmd_firm h (fun _ => opStart_firm))⟩
  | abandon => exact ⟨_, rfl, writeAt_firm h (fun _ h => furnCmd_firm h (fun _ => abandon_firm))⟩
  | warmForm => exact ⟨_, rfl, writeAt_firm h (fun _ h => furnCmd_firm h (fun _ => opStart_firm))⟩
  | fetchComplete _ => exact ⟨_, rfl, Firm.ite (imageReturn_firm h) h⟩
  | approvalTimeout => exact ⟨_, rfl, Firm.ite (opFail_firm h) h⟩
  | validateComplete =>
    obtain rfl := hb rfl
    exact ⟨_, rfl, Firm.ite (validate_firm h) h⟩
  | reformDrainComplete => exact ⟨_, rfl, Firm.ite (drainEnd_firm h) h⟩
  | reformAcceptTimeout _ => exact ⟨_, rfl, Firm.ite (egressSettle_firm (forEach_firm h (fun _ _ h => drainReturn_firm h))) h⟩
  | formCommit _ => exact ⟨_, rfl, Firm.ite (formCommit_firm h) h⟩
  | acquire _ _ _ => exact ⟨_, rfl, writeAt_firm h (fun _ h => unitWrite_firm h (fun _ => acquire_firm))⟩
  | read _ _ => exact ⟨_, rfl, writeAt_firm h (fun _ h => unitWrite_firm h (fun _ => eaRead_firm))⟩
  | stage _ _ => exact ⟨_, rfl, writeAt_firm h (fun _ h => unitWrite_firm h (fun _ => eaStage_firm))⟩
  | apply _ _ => exact ⟨_, rfl, writeAt_firm h (fun _ h => unitWrite_firm h (fun _ => eaApply_firm))⟩
  | release _ _ => exact ⟨_, rfl, writeAt_firm h (fun _ h => unitWrite_firm h (fun _ => eaRelease_firm))⟩
  | fence _ _ => exact ⟨_, rfl, writeAt_firm h (fun _ h => unitWrite_firm h (fun _ => eaFence_firm))⟩
  | leaseExpiry _ =>
    refine ⟨_, rfl, Firm.ite ?_ h⟩
    split
    · exact lockBreak_firm (activity_firm h)
    · exact h
  | propose _ => exact ⟨_, rfl, writeAt_firm h (fun _ h => partyWrite_firm h (fun _ => propose_firm))⟩
  | withdraw _ => exact ⟨_, rfl, writeAt_firm h (fun _ h => partyWrite_firm h (fun _ => withdraw_firm))⟩
  | veto _ _ => exact ⟨_, rfl, writeAt_firm h (fun _ h => partyWrite_firm h (fun _ => veto_firm))⟩
  | approve _ _ => exact ⟨_, rfl, writeAt_firm h (fun _ h => partyWrite_firm h (fun _ => approve_firm))⟩
  | dcStageWrite _ _ _ _ => exact ⟨_, rfl, writeAt_firm h (fun _ h => partyWrite_firm h (fun _ => stageWrite_firm))⟩
  | dcWindowExpiry _ => exact ⟨_, rfl, Firm.ite (stirring_firm h (fun _ => propClose_firm)) h⟩
  | injectPlaneAMismatch _ => exact ⟨_, rfl, injectWrite_firm h⟩
  | injectFenceA _ => exact ⟨_, rfl, injectWrite_firm h⟩
  | injectFenceB _ => exact ⟨_, rfl, injectWrite_firm h⟩
  | injectEccSingle _ => exact ⟨_, rfl, injectWrite_firm h⟩
  | injectEccDouble _ => exact ⟨_, rfl, injectWrite_firm h⟩
  | injectCdcDisagree _ => exact ⟨_, rfl, injectWrite_firm h⟩
  | injectApertureReadError _ => exact ⟨_, rfl, injectWrite_firm h⟩
  | injectHeartbeatStop _ => exact ⟨_, rfl, injectWrite_firm h⟩
  | injectCollectorParity _ => exact ⟨_, rfl, injectWrite_firm h⟩
  | resync => exact ⟨_, rfl, writeAt_firm h (fun _ h => portWrite_firm h (fun _ => resync_firm))⟩
  | resyncComplete => exact ⟨_, rfl, Firm.ite (h.put rfl) h⟩
  | jnlHeadWrite _ _ => exact ⟨_, rfl, writeAt_firm h (fun _ h => portWrite_firm h (fun _ => jnlHeadPut_firm))⟩
  | seqClear _ _ _ => exact ⟨_, rfl, writeAt_firm h (fun _ => seqClear_firm)⟩
  | timeLoRead _ => exact ⟨_, rfl, portServe_firm h (fun _ => regRead_firm)⟩
  | sleepElapsedLoRead _ => exact ⟨_, rfl, portServe_firm h (fun _ => sleepElapsedRead_firm)⟩
  | amaskLoRead _ _ => exact ⟨_, rfl, portServe_firm h (fun _ => amaskRead_firm)⟩
  | tEoi _ _ _ => exact ⟨_, rfl, queuedAt_firm h (fun _ => queuedWrite_firm)⟩
  | tHead _ _ _ => exact ⟨_, rfl, queuedAt_firm h (fun _ => queuedWrite_firm)⟩
  | tRearm _ _ _ => exact ⟨_, rfl, queuedAt_firm h (fun _ => queuedWrite_firm)⟩
  | tHint _ _ _ => exact ⟨_, rfl, queuedAt_firm h (fun _ => queuedWrite_firm)⟩
  | tCprio _ _ _ => exact ⟨_, rfl, writeAt_firm h (fun _ h => portWrite_firm h (fun _ => applyCprio_firm))⟩
  | rankingRound _ _ => exact ⟨_, rfl, Firm.ite (rankRound_firm h) h⟩
  | selfTest _ _ _ =>
    obtain rfl := hb rfl
    exact ⟨_, rfl, Firm.ite (selfTestEnd_firm h) h⟩
  | arbiterRound => exact ⟨_, rfl, Firm.ite (arbiterStep_firm h) h⟩
  | holdoffWindowEnd _ => exact ⟨_, rfl, Firm.ite (holdoffEnd_firm h) h⟩
  | deadlineArrival _ => exact ⟨_, rfl, Firm.ite (deadlineAct_firm (activity_firm h)) h⟩
  | couchTimeLimit _ => exact ⟨_, rfl, Firm.ite (timeLimit_firm h) h⟩
  | sweep => exact ⟨_, rfl, Firm.ite (sweepTick_firm h) h⟩
  | batchTimeout _ => exact ⟨_, rfl, Firm.ite (engineSettle_firm (settleAll_firm (batchEnd_firm h))) h⟩
  | watchdogExpiry _ => exact ⟨_, rfl, Firm.ite (wdogExpire_firm (activity_firm h)) h⟩
  | creditRefill => exact ⟨_, rfl, Firm.ite (stirring_firm h (fun _ => creditTick_firm)) h⟩
  | strangerWindowEnd => exact ⟨_, rfl, Firm.ite (strangerTick_firm h) h⟩
  | journalBucketRefill => exact ⟨_, rfl, Firm.ite (bucketTick_firm h) h⟩
  | hwFieldWriteback => exact ⟨_, rfl, Firm.ite (stirring_firm h (fun _ => writebackTick_firm)) h⟩
  | aliveToggle => exact ⟨_, rfl, Firm.ite h (aliveToggle_firm h)⟩
  | heartbeat => exact ⟨_, rfl, Firm.ite (h.put rfl) h⟩
  | wedged => exact ⟨_, rfl, Firm.ite (fatalFault_firm h) h⟩
  | pollRefresh => exact ⟨_, rfl, Firm.ite (pollRefresh_firm h) h⟩
  | clkFabLoss => exact ⟨_, rfl, Firm.ite (fatalFault_firm h) h⟩
  | clkRegLoss => exact ⟨_, rfl, Firm.ite h (regStop_firm h)⟩
  | aoClockStop => exact ⟨_, rfl, whenLive_firm h (fun _ h => stirring_firm h (fun _ => aoStop_firm))⟩
  | refresh _ _ _ _ _ => exact ⟨_, rfl, whenLive_firm h (fun _ h => stirring_firm h (fun _ h2 => refreshRow_firm (h2.put rfl)))⟩
  | lastGasp => exact ⟨_, rfl, Firm.ite h (lastGaspWrite_firm h)⟩
  | idleEntry => exact ⟨_, rfl, Firm.ite (idleEnter_firm h) h⟩
  | entryAttempt => exact ⟨_, rfl, Firm.ite (tryAttempt_firm h) h⟩
  | entryRetry => exact execEntryRetry_firm s
  | entryDrainComplete => exact ⟨_, rfl, Firm.ite (entryArm_firm h) h⟩
  | entryDeliveryTimeout => exact execEntryDeliveryTimeout_firm s
  | sbFrameAbandonBothRails => exact ⟨_, rfl, Firm.ite (sbAbandon_firm h) h⟩
  | aoEdgeSeenAgain => exact ⟨_, rfl, Firm.ite h (aoHeldAct_firm (h.put rfl))⟩
  | timeAccept _ => exact ⟨_, rfl, Firm.ite (timeTake_firm h) h⟩
  | safeEntry _ _ => exact ⟨_, rfl, whenLive_firm h (fun _ h => safeEnter_firm (Firm.ite (collectorFault_firm h) h))⟩
  | entryCommit => exact execEntryCommit_firm s
  | wakePin =>
    have ho : s.md.mode ≠ .off := of_decide_eq_false hp
    refine ⟨_, rfl, Firm.ite h ?_⟩
    rw [if_neg ho]
    exact Firm.ite (h.put rfl) (Firm.ite (wakeSource_firm h) h)
  | pwrAck _ => exact absurd ha nofun
  | porstFall => exact absurd hr nofun
  | porstRelease _ _ => exact absurd hr nofun
  | blockResetComplete _ _ => exact absurd hr nofun

/-! ### In sleep -/

theorem portWrite_firm_asleep {p : Port} {reach : Bool} {addr : BitVec 22} {f : State → State} (hs : sleeping t = true) (h : Firm b s t) :
    Firm b s (portWrite t p reach addr f) := by
  unfold portWrite
  refine Firm.ite ?_ h
  split
  · rw [if_pos hs]
    exact Firm.ite (sleepIgnore_firm h) h
  · rw [if_pos hs]
    exact Firm.ite (deniedWrite_firm h) h
  · exact h

theorem mode_ne_safe_of_sleeping (hs : sleeping s = true) : s.md.mode ≠ .safe := fun h => by simp [sleeping, h] at hs

theorem classMWrite_firm_asleep {form : Form} {a : ℕ} {w : Word} {addr : BitVec 22} (hs : sleeping t = true) (h : Firm b s t) :
    Firm b s (classMWrite t form a w addr) := by
  unfold classMWrite
  rw [if_neg (c := (decide (t.md.mode = .safe) && safeLocation a) = true) (by simp [mode_ne_safe_of_sleeping hs])]
  exact Firm.ite h (Firm.ite (aoPut_firm h) (Firm.ite (furnCmdPut_firm h) (portWrite_firm_asleep hs h)))

theorem registerWrite_firm_asleep {p : Port} {addr : BitVec 22} {w : Word} (hs : sleeping t = true) (h : Firm b s t) :
    Firm b s (registerWrite t p addr w) := by
  unfold registerWrite
  refine Firm.ite (targetPut_firm h) (Firm.ite (portWrite_firm_asleep hs h) ?_)
  split
  · exact classMWrite_firm_asleep hs h
  · exact portWrite_firm_asleep hs h

theorem regWrite_firm_asleep {p : Port} {addr : BitVec 22} {w : Word} (hs : sleeping t = true) (h : Firm b s t) : Firm b s (regWrite t p addr w) := by
  unfold regWrite
  split
  · split
    · exact portDone_firm (Firm.ite (deniedWrite_firm h) h)
    · exact portAnswer_firm h
  · split
    · exact portDone_firm (securityWrite_firm h)
    · exact doneUnlessHeld_firm (registerWrite_firm_asleep hs h)

theorem writeAt_firm_asleep {p q : Port} {reach : Bool} {addr : BitVec 22} {f : State → State} (hs : sleeping t = true) (h : Firm b s t) :
    Firm b s (writeAt t q fun x => portWrite x p reach addr f) := Firm.ite h (portDone_firm (portWrite_firm_asleep hs h))

/-- In sleep no write acts on them (R290), and neither VALIDATE nor a self-test ends. -/
theorem exec_firm_asleep {i : Instr} (hi : places i = true) (hs : sleeping s = true) : ∃ t, exec i s = .next t ∧ Firm b s t := by
  have h := Firm.refl (b := b) s
  have hw : awake s = false := by simp [awake, hs]
  have hr : rounding s = false := by
    rcases (by simpa [sleeping] using hs : s.md.mode = .rest ∨ s.md.mode = .dormant) with hm | hm <;> simp [rounding, ranking, hm]
  cases i with
  | regWrite _ _ _ => exact ⟨_, rfl, Firm.ite h (regWrite_firm_asleep hs h)⟩
  | engineEnSet => exact ⟨_, rfl, writeAt_firm_asleep hs h⟩
  | engineEnClear => exact ⟨_, rfl, writeAt_firm_asleep hs h⟩
  | ingressEnClear => exact ⟨_, rfl, writeAt_firm_asleep hs h⟩
  | ingressEnSet => exact ⟨_, rfl, writeAt_firm_asleep hs h⟩
  | deliverEnClear => exact ⟨_, rfl, writeAt_firm_asleep hs h⟩
  | deliverEnSet => exact ⟨_, rfl, writeAt_firm_asleep hs h⟩
  | lockSet _ => exact ⟨_, rfl, writeAt_firm_asleep hs h⟩
  | validateComplete =>
    refine ⟨_, rfl, ?_⟩
    rw [hw]
    exact h
  | selfTest _ _ _ =>
    refine ⟨_, rfl, ?_⟩
    rw [hr]
    exact h
  | _ => exact absurd hi nofun

/-- Every such command, with the journal's place, the lock bits and FENCED as they are wherever Ivsyn sleeps. -/
theorem exec_firm_both (s : State) {i : Instr} (ha : acknowledges i = false) (hr : resets i = false) (hp : powersUp i s = false) :
    ∃ t, exec i s = .next t ∧ Firm false s t ∧ (sleeping s = true → Firm true s t) := by
  obtain ⟨t, ht, h⟩ := exec_firm (b := false) s (fun _ => rfl) ha hr hp
  refine ⟨t, ht, h, fun hs => ?_⟩
  cases hi : places i with
  | true =>
    obtain ⟨u, hu, k⟩ := exec_firm_asleep (b := true) hi hs
    exact Host.Outcome.next.inj (ht.symm.trans hu) ▸ k
  | false =>
    obtain ⟨u, hu, k⟩ := exec_firm (b := true) s (fun e => absurd (hi.symm.trans e) nofun) ha hr hp
    exact Host.Outcome.next.inj (ht.symm.trans hu) ▸ k

theorem clockEdge_firm (s : State) : Firm b s (clockEdge s) := by
  have h : Firm b s { s with free := s.free + 1 } := .of_view rfl
  exact Firm.ite (aoClock_firm h) (fabCycle_firm h)

end Sys2Proof.Machine
end

section
/-! PROOF. The retention set shows the fence and the lock bits in force, and no round waits for a self-test of both planes while one is fenced: what every
step keeps, resets and the power controller's acknowledges among them (R165, R287, R288, R292, R293, R322). -/

namespace Sys2Proof.Machine

variable {s t u : State}

/-- What a step carries over of the retention set and of the fence. -/
structure Truthful (s t : State) : Prop where
  retention : RetentionTrue s → RetentionTrue t
  settled : RetentionTrue s → FenceSettled s → FenceSettled t

theorem Truthful.trans (h : Truthful s t) (k : Truthful t u) : Truthful s u where
  retention := k.retention ∘ h.retention
  settled hr hs := k.settled (h.retention hr) (h.settled hr hs)

theorem sleeping_of_saved (h : RetentionSaved s) : sleeping s = true := by
  rcases h with h | ⟨h, -⟩ <;> simp [sleeping, h]

/-- An operation that leaves what they rest on, and the fence and the lock bits wherever the retention set is saved. -/
theorem Firm.truthful (h : Firm false s t) (hk : RetentionSaved s → Firm true s t) : Truthful s t where
  retention := fun ⟨hf, hr⟩ => ⟨h.free hf, fun ht => by
    have hs : RetentionSaved s := h.saved ht
    obtain ⟨-, -, hl, hx⟩ := (hk hs).stay rfl
    rw [h.ret, hl, hx]
    exact hr hs⟩
  settled _ hs := (h.settled hs).1

/-- Nothing is fenced, and no retention set is saved: what a reset leaves, and OFF. -/
structure Unfenced (s : State) : Prop where
  free : fld s.flt.sum.flags 14 2 = (0 : BitVec 2)
  saved : ¬ RetentionSaved s
  fenced : s.flt.fenced = 0
  selfTest : s.flt.selfTest = none

theorem Unfenced.truthful (h : Unfenced t) : Truthful s t :=
  ⟨fun _ => ⟨h.free, fun hs => absurd hs h.saved⟩, fun _ _ _ => h.selfTest⟩

/-- What follows, the fence of the planes' self-test among it. -/
theorem Unfenced.then (h : Unfenced t) (k : Firm false t u) : Truthful s u :=
  h.truthful.trans (k.truthful fun hs => absurd hs h.saved)

/-! ### Resets -/

/-- The fault collector after a reset, in a mode that is not a sleep. -/
theorem Unfenced.of_reset (hx : s.flt.sum = State.scReset) (hf : s.flt.fenced = 0) (ht : s.flt.selfTest = none)
    (hm : s.md.mode = .unformed ∨ s.md.mode = .off) : Unfenced s where
  free := by
    rw [hx]
    decide
  saved hs := by
    have hn := sleeping_of_saved hs
    rcases hm with hm | hm <;> simp [sleeping, hm] at hn
  fenced := hf
  selfTest := ht

theorem Unfenced.wakeThrottle (h : Unfenced s) : Unfenced (Machine.wakeThrottle s) where
  free := (wakeThrottle_firm (Firm.refl (b := true) s)).free h.free
  saved hs := h.saved ((wakeThrottle_firm (Firm.refl (b := true) s)).saved hs)
  fenced := ((wakeThrottle_firm (Firm.refl (b := true) s)).stay rfl).2.2.2.trans h.fenced
  selfTest := by
    refine Eq.trans ?_ h.selfTest
    show (if s.pw.thrPin = s.pw.throttle then s else throttleTake s s.pw.thrPin).flt.selfTest = _
    split <;> rfl

theorem planeTest_firm {a b : Bool} (h : Unfenced s) : Firm false s (planeTest s a b) :=
  Firm.ite (Firm.refl s) (Firm.ite (fatalFault_firm (Firm.refl s)) (fencePlane_firm (fun _ => ⟨h.fenced, h.selfTest⟩) (Firm.refl s)))

theorem porstFall_truthful (s : State) : Truthful s (porstFall s) := (Unfenced.of_reset rfl rfl rfl (.inl rfl)).truthful

theorem porstRelease_truthful (s : State) (a b : Bool) : Truthful s (porstRelease s a b) :=
  (Unfenced.of_reset rfl rfl rfl (.inl rfl)).wakeThrottle.then (planeTest_firm (Unfenced.of_reset rfl rfl rfl (.inl rfl)).wakeThrottle)

theorem blockReset_truthful (s : State) (a b : Bool) : Truthful s (blockReset s a b) := by
  have h : Unfenced (wakeThrottle { resetCore (resetOwed s) (resetTime s) with md := State.mdReset }) :=
    (Unfenced.of_reset rfl rfl rfl (.inl rfl)).wakeThrottle
  exact h.then (planeTest_firm h)

/-! ### The save and the restore of the retention set -/

theorem retentionSet_getD {i : Nat} (hi : i < 52) : (retentionSet s).getD i 0 = retentionWord s i := by
  simp [retentionSet, List.getD, hi]

/-- IV_FLT_SUM in the retention set shows FENCED (R288, R319). -/
theorem fld_retentionSet_fenced (hf : fld s.flt.sum.flags 14 2 = (0 : BitVec 2)) : fld ((retentionSet s).getD 26 0) 14 2 = s.flt.fenced := by
  have hflags : fld (at_ 32 0 s.flt.sum.flags) 14 2 = (0 : BitVec 2) := by
    rw [← hf]
    refine BitVec.eq_of_getLsbD_eq fun i hi => ?_
    simp [fld, at_, hi, show 14 + i < 32 by omega]
  rw [retentionSet_getD (by decide)]
  show fld (fltSumWord s) 14 2 = s.flt.fenced
  rw [fltSumWord, Sc.word, fld_or, fld_or, fld_at_apart _ _ _ _ _ (by decide), hflags, fld_at_same _ _ _ (by decide)]
  exact (congrArg (· ||| _) BitVec.zero_or).trans BitVec.zero_or

/-- And IV_LOCK the lock bits (R275, R288). -/
theorem fld_retentionSet_lock : fld ((retentionSet s).getD 3 0) 0 8 = s.md.lock := by
  rw [retentionSet_getD (by decide)]
  exact fld_at_same _ _ _ (by decide)

/-- A wake restores the fence and the lock bits that stand. -/
theorem wakeRestore_stays (h : RetentionTrue s) : (wakeRestore s).md.lock = s.md.lock ∧ (wakeRestore s).flt.fenced = s.flt.fenced := by
  unfold wakeRestore
  split
  · next hm =>
    obtain ⟨hf, hl⟩ := h.2 (.inl hm)
    exact ⟨hl, hf⟩
  · exact ⟨rfl, rfl⟩

theorem wakeRestore_truthful (s : State) : Truthful s (wakeRestore s) where
  retention h := by
    obtain ⟨hl, hf⟩ := wakeRestore_stays h
    refine ⟨?_, fun hs => ?_⟩
    · unfold wakeRestore
      split
      · show fld (fld (s.pw.ret.getD 26 0) 0 24 &&& 0xFF3FFF : BitVec 24) 14 2 = (0 : BitVec 2)
        unfold fld
        rw [BitVec.extractLsb'_and]
        exact BitVec.and_zero
      · exact h.1
    · have hv : (wakeRestore s).pw.ret = s.pw.ret ∧ (RetentionSaved (wakeRestore s) → RetentionSaved s) := by
        unfold wakeRestore
        split
        · exact ⟨rfl, id⟩
        · exact ⟨rfl, id⟩
      rw [hf, hl, hv.1]
      exact h.2 (hv.2 hs)
  settled h hs := by
    have ht : (wakeRestore s).flt.selfTest = s.flt.selfTest := by
      unfold wakeRestore
      split <;> rfl
    rw [FenceSettled, ht, (wakeRestore_stays h).2]
    exact hs

/-! ### The power controller's acknowledges -/

/-- What an acknowledge carries over, and that one that leaves retention whole leaves the lock bits and FENCED. -/
structure Acknowledged (s t : State) : Prop extends Truthful s t where
  stay : keepsRetention s = true → RetentionTrue s → t.md.lock = s.md.lock ∧ t.flt.fenced = s.flt.fenced

theorem Firm.acknowledged (h : Firm true s t) : Acknowledged s t where
  toTruthful := Firm.truthful ⟨nofun, h.free, h.settled, h.ret, h.saved, h.asked⟩ fun _ => h
  stay _ _ := (h.stay rfl).2.2

/-- Where retention is not kept. -/
theorem Truthful.acknowledged (h : Truthful s t) (hk : keepsRetention s = false) : Acknowledged s t :=
  ⟨h, fun hn => absurd (hk.symm.trans hn) nofun⟩

/-- The acknowledge of REST saves the retention set, and DORMANT is asked for (R287). -/
theorem retentionSave_acknowledged (h : Firm true s t) (origin : Mode) :
    Acknowledged s (pwrAsk (entryTo (retentionSave t origin) .askedDormant) 3) where
  retention hs := ⟨h.free hs.1, fun _ => ⟨fld_retentionSet_fenced (h.free hs.1), fld_retentionSet_lock⟩⟩
  settled _ hs := (h.settled hs).1
  stay _ _ := (h.stay rfl).2.2

/-- Where the retention set is saved, MODE may become DORMANT. -/
theorem Firm.setDormant {b : Bool} (hs : RetentionSaved s) (h : Firm b s t) : Firm b s (setMode t .dormant) :=
  ⟨h.stay, h.free, h.settled, h.ret, fun _ => hs, h.asked⟩

theorem offReached_acknowledged (s : State) (hk : keepsRetention s = false) : Acknowledged s (offReached s) := by
  refine Truthful.acknowledged ?_ hk
  unfold offReached
  split
  · exact (Unfenced.of_reset rfl rfl rfl (.inl rfl)).truthful
  · exact (Unfenced.of_reset rfl rfl rfl (.inr rfl)).truthful

theorem keepsRetention_askedOff {e : Entry} (he : s.pw.entry = some e) (ho : e.step = .askedOff) : keepsRetention s = false := by
  simp [keepsRetention, he, ho]

theorem entryAck_acknowledged {e : Entry} (he : s.pw.entry = some e) : Acknowledged s (entryAck s e) := by
  have h := Firm.refl (b := true) s
  unfold entryAck
  split
  · extract_lets _ s1
    have h1 : Firm true s s1 := h.put rfl
    split
    · exact (wakeStart_firm h1).acknowledged
    · split
      · exact (entry_firm (t := s1) (pw := { s1.pw with entry := none }) rfl nofun h1).acknowledged
      · exact retentionSave_acknowledged h1 e.origin
  · next hd =>
    extract_lets _ s0 s1
    have h0 : Firm true s s0 := h.put rfl
    have h1 : Firm true s s1 := by
      unfold s1
      split
      · next hs =>
        rcases (by simpa [sleeping] using hs : s.md.mode = .rest ∨ s.md.mode = .dormant) with hm | hm
        · exact h0.setDormant (.inr ⟨hm, e, he, hd⟩)
        · exact h0.setDormant (.inl hm)
      · exact h0
    clear_value s1
    split
    · exact (wakeStart_firm h1).acknowledged
    · split
      · exact (pwrAsk_firm (entryTo_firm (e := .askedOff) nofun h1)).acknowledged
      · exact (entry_firm (t := s1) (pw := { s1.pw with entry := none }) rfl nofun h1).acknowledged
  · next ho => exact offReached_acknowledged s (keepsRetention_askedOff he ho)
  · exact h.acknowledged

theorem wakeTimed_firm (s : State) (cause : BitVec 4) (iv : Option DWord) : Firm true (wakeRestore s) (wakeTimed s cause iv) := by
  unfold wakeTimed
  generalize wakeRestore s = s0
  exact entry_firm (t := wakeTime s0 iv) rfl nofun (wakeTime_firm (.refl _))

theorem wakeCaught_firm {b : Bool} {iv : Option DWord} (h : Firm b s t) : Firm b s (wakeCaught t iv) :=
  ticksAct_firm (wakeGroups_firm (duesAct_firm (wakeQueues_firm (wakeThrottle_firm (wakeTimeAgree_firm (wakeTimeReport_firm h))))))

theorem wakeServing_firm {b : Bool} (h : Firm b s t) : Firm b s (wakeServing t) :=
  setMode_firm (by split <;> decide) (by split <;> decide) h

theorem showRun_firm {b : Bool} (h : Firm b s t) : Firm b s (showRun t) := h.put rfl

theorem wakeReported_firm {b : Bool} (h : Firm b s t) : Firm b s (wakeReported t) :=
  reportFaults_firm (reportIgnored_firm (showRun_firm (wakeMerge_firm h)))

/-- From local time on a wake leaves what the fence and the retention set rest on (R246, R292 steps 5 to 8). -/
theorem wakeRun_firm (s : State) (cause : BitVec 4) (iv : Option DWord) : Firm true (wakeRestore s) (wakeRun s cause iv) := by
  rw [wakeRun_eq]
  exact releaseAll_firm (wakeHeld_firm (jnlPut_firm (wakeReported_firm (wakeServing_firm (wakeCaught_firm (wakeTimed_firm s cause iv))))))

theorem wakeRun_acknowledged (s : State) (cause : BitVec 4) (iv : Option DWord) : Acknowledged s (wakeRun s cause iv) where
  toTruthful := (wakeRestore_truthful s).trans (wakeRun_firm s cause iv).acknowledged.toTruthful
  stay _ h := by
    obtain ⟨h1, h2⟩ := wakeRestore_stays h
    obtain ⟨-, -, k1, k2⟩ := (wakeRun_firm s cause iv).stay rfl
    exact ⟨k1.trans h1, k2.trans h2⟩

/-- A wake that finds retention lost comes up like after a reset (R326). -/
theorem wakeLost_truthful (s : State) (cause : BitVec 4) (iv : Option DWord) : Truthful s (wakeLost s cause iv) := by
  unfold wakeLost
  exact (Unfenced.of_reset rfl rfl rfl (.inl rfl)).wakeThrottle.truthful

theorem wakeDone_acknowledged (s : State) (cause : BitVec 4) (iv : Option DWord) : Acknowledged s (wakeDone s cause iv) := by
  unfold wakeDone
  split
  · next hl => exact (wakeLost_truthful s cause iv).acknowledged (by simp [keepsRetention, hl])
  · exact wakeRun_acknowledged s cause iv

theorem resetAck_firm {b : Bool} (h : Firm b s t) : Firm b s (resetAck t) := Firm.ite (h.put rfl) (pwrAsk_firm h)

theorem execPwrAck_acknowledged (iv : Option DWord) (s : State) : ∃ t, execPwrAck iv s = .next t ∧ Acknowledged s t := by
  have h := Firm.refl (b := true) s
  have hf : Firm true s { s with pw := { s.pw with ackWait := false } } := .of_view rfl
  have hw := hf.acknowledged
  refine ⟨_, rfl, ?_⟩
  split
  · exact h.acknowledged
  · split
    · exact (resetAck_firm h).acknowledged
    · split
      · exact hw
      · split
        · next e he => exact entryAck_acknowledged he
        · split
          · split
            · exact wakeDone_acknowledged ..
            · exact hw
          · exact hw

/-! ### Every command and every clock edge -/

theorem exec_truthful (i : Instr) (s : State) : ∃ t, exec i s = .next t ∧ Truthful s t := by
  have hfirm (ha : acknowledges i = false) (hr : resets i = false) (hp : powersUp i s = false) : ∃ t, exec i s = .next t ∧ Truthful s t := by
    obtain ⟨t, ht, h, hk⟩ := exec_firm_both s ha hr hp
    exact ⟨t, ht, h.truthful fun hs => hk (sleeping_of_saved hs)⟩
  cases i with
  | pwrAck iv =>
    obtain ⟨t, ht, h⟩ := execPwrAck_acknowledged iv s
    exact ⟨t, ht, h.toTruthful⟩
  | porstFall => exact ⟨_, rfl, porstFall_truthful s⟩
  | porstRelease a b =>
    refine ⟨_, rfl, ?_⟩
    split
    · exact porstRelease_truthful s a b
    · exact (Firm.refl s).truthful fun _ => .refl s
  | blockResetComplete a b =>
    refine ⟨_, rfl, ?_⟩
    split
    · exact blockReset_truthful s a b
    · exact (Firm.refl s).truthful fun _ => .refl s
  | wakePin =>
    by_cases ho : s.md.mode = .off
    · refine ⟨_, rfl, ?_⟩
      rw [if_pos ho]
      split
      · exact (Firm.refl s).truthful fun _ => .refl s
      · exact porstFall_truthful s
    · exact hfirm rfl rfl (decide_eq_false ho)
  | _ => exact hfirm rfl rfl rfl

theorem places_of_turnsOver {i : Instr} (h : turnsOver i = true) : places i = false := by
  cases i with
  | timeAccept _ => rfl
  | pwrAck _ => rfl
  | porstFall => rfl
  | porstRelease _ _ => rfl
  | blockResetComplete _ _ => rfl
  | safeEntry _ _ => rfl
  | entryCommit => rfl
  | wakePin => rfl
  | _ => exact absurd h nofun

/-- Without a reset or an acknowledge a lock bit that is set stays set (R275). -/
theorem exec_lock {i : Instr} (ht : exec i s = .next t) (ha : acknowledges i = false) (hr : resets i = false) (hp : powersUp i s = false) :
    s.md.lock &&& t.md.lock = s.md.lock := by
  cases hn : turnsOver i with
  | false =>
    obtain ⟨u, hu, k⟩ := exec_keeps s hn
    exact Host.Outcome.next.inj (ht.symm.trans hu) ▸ k.lock
  | true =>
    obtain ⟨u, hu, k⟩ := exec_firm (b := true) s (fun e => absurd ((places_of_turnsOver hn).symm.trans e) nofun) ha hr hp
    obtain rfl := Host.Outcome.next.inj (ht.symm.trans hu)
    rw [(k.stay rfl).2.2.1]
    exact BitVec.and_self

theorem step_truthful {s t : State} (h : step s = .next t) : Truthful s t := by
  unfold step at h
  split at h
  · exact Host.Outcome.next.inj h ▸ (clockEdge_firm s).truthful fun _ => clockEdge_firm s
  · next c q _ =>
    obtain ⟨u, hu, k⟩ := exec_truthful c (s.withPending q)
    obtain rfl := Host.Outcome.next.inj (h.symm.trans hu)
    exact ⟨k.retention, k.settled⟩

end Sys2Proof.Machine

namespace Sys2Proof

open Sys2Proof.Machine

/-- Settles O8, by what a step carries over: of SAFE and of sleep, and of the retention set and of the fence. -/
theorem stepKeepsSafeAndSleep : Obligations.StepKeepsSafeAndSleep := by
  intro s t h
  obtain ⟨-, -, hcleared, hheld⟩ := step_carries h
  have hk := step_truthful h
  exact ⟨hcleared, hheld, hk.retention, hk.settled⟩

/-- Settles O9: only a reset leaves SAFE; an acknowledge that keeps retention leaves the lock bits and FENCED, and any other command sets lock bits alone
and leaves a fence that is settled. -/
theorem onlyResetsUndo : Obligations.OnlyResetsUndo := by
  intro i s t ht hr hp
  refine ⟨fun hs => exec_safe hs hr ht, fun hk hret => ?_⟩
  cases ha : acknowledges i with
  | true =>
    cases i with
    | pwrAck iv =>
      obtain ⟨u, hu, k⟩ := execPwrAck_acknowledged iv s
      obtain rfl := Host.Outcome.next.inj (ht.symm.trans hu)
      obtain ⟨hl, hf⟩ := k.stay (hk rfl) hret
      exact ⟨by rw [hl]; exact BitVec.and_self, fun _ _ => hf⟩
    | _ => exact absurd ha nofun
  | false =>
    obtain ⟨u, hu, h, -⟩ := exec_firm_both s ha hr hp
    obtain rfl := Host.Outcome.next.inj (ht.symm.trans hu)
    exact ⟨exec_lock ht ha hr hp, fun hn hs => (h.settled hs).2 hn⟩

end Sys2Proof
end

section
/-! PROOF. The wake: local time, the mode and the settings that it leaves (R245, R246, R288, R292, R326). -/

namespace Sys2Proof.Machine

/-- What a wake's catching up leaves: the mode unit, the settings, local time, the loader's error and length, and what sleep ignored. -/
def wakeView (s : State) : ModeUnit × CtlRegs × Nat × BitVec 8 × BitVec 21 × List (BitVec 18) :=
  (s.md, s.ctl, s.tm.now, s.fu.err, s.fu.len, s.pw.ignored)

theorem Steady.wakeView {s t : State} (h : Steady s t) : wakeView t = wakeView s := by
  simp only [Machine.wakeView, h.md, h.ctl, h.tm, h.fu, h.ignored]

theorem Inner.wakeView {d : Fin 4 → Int} {s t : State} (h : Inner d s t) : wakeView t = wakeView s := (Steady.of_inner h).wakeView

theorem unlessFatal_wakeView {s : State} {f : State → State} (h : wakeView (f s) = wakeView s) : wakeView (unlessFatal s f) = wakeView s := by
  unfold unlessFatal
  split
  · rfl
  · exact h

theorem ranking_of_wakeView {s t : State} (h : wakeView t = wakeView s) : ranking t = ranking s := by
  have hm : t.md = s.md := (congrArg (fun v => v.1) h :)
  rw [ranking, ranking, hm]

/-! ### Queued writes and host events -/

theorem applyQueued_wakeView (s : State) (q : Queued) : wakeView (applyQueued s q) = wakeView s := (applyQueued_inner (δ := noGain) q (.refl s)).wakeView

theorem wakeEoi_wakeView (s : State) (q : Queued) : wakeView (wakeEoi s q) = wakeView s := by
  unfold wakeEoi
  split
  · exact (inputRound_steady _ _).wakeView.trans (applyEoi_inner (δ := noGain) _ _ (.refl s)).wakeView
  · exact applyQueued_wakeView s q

/-- In sleep no clear of ENGINE_EN completes (R278). -/
theorem engineSettle_of_not_ranking {s : State} (h : ranking s = false) : engineSettle s = s := by simp [engineSettle, h]

theorem engineSettle_wakeView {s t : State} (hr : ranking s = false) (h : wakeView t = wakeView s) : wakeView (engineSettle t) = wakeView s := by
  rw [engineSettle_of_not_ranking ((ranking_of_wakeView h).trans hr)]
  exact h

theorem applyHost_wakeView {s : State} (hr : ranking s = false) (e : HostEvt) : wakeView (applyHost s e) = wakeView s := by
  unfold applyHost
  dsimp only
  split
  · rfl
  · refine engineSettle_wakeView hr ((settleAll_inner (δ := noGain) (.refl _)).wakeView.trans ((forEach_view (fun t x => ?_) _ _).trans
      (hostLocks_inner (δ := noGain) e.tenant e.kind (.refl s)).wakeView))
    split
    · exact (clearUnreach_inner (δ := noGain) x true (.refl t)).wakeView
    · exact (setUnreach_inner (δ := noGain) x _ _ (.refl t)).wakeView

theorem hostTake_wakeView {s : State} (hr : ranking s = false) (e : HostEvt) : wakeView (hostTake s e) = wakeView s := applyHost_wakeView hr e

theorem wakeQueues_wakeView {s : State} (hr : ranking s = false) : wakeView (wakeQueues s) = wakeView s := by
  have hhost (t : State) (e : HostEvt) (h : wakeView t = wakeView s) : wakeView (hostTake t e) = wakeView s :=
    (hostTake_wakeView ((ranking_of_wakeView h).trans hr) e).trans h
  exact (forEach_view applyQueued_wakeView _ _).trans ((forEach_view wakeEoi_wakeView _ _).trans
    (forEach_preserves (P := fun t => wakeView t = wakeView s) hhost _ rfl))

/-! ### Expiries and ticks -/

theorem deadlineAct_wakeView (s : State) (h : Nat) : wakeView (deadlineAct s h) = wakeView s :=
  unlessFatal_wakeView ((inputRound_steady _ _).wakeView.trans (enqueue_inner (δ := noGain) h (calLeave_inner h (.refl s))).wakeView)

theorem couchDecision_wakeView (s : State) (g : Nat) : wakeView (couchDecision s g none) = wakeView s :=
  (couchDecision_inner (δ := noGain) g none (.refl s)).wakeView

theorem calendarAct_wakeView (s : State) (id : Nat) : wakeView (calendarAct s id) = wakeView s := by
  refine unlessFatal_wakeView ?_
  split
  · split
    · exact deadlineAct_wakeView s id
    · exact couchDecision_wakeView s _
  · rfl

theorem dueAct_wakeView (s : State) (d : Due) : wakeView (dueAct s d) = wakeView s := by
  unfold dueAct
  split
  · split
    · exact (lockBreak_inner (δ := noGain) _ 1 (.refl s)).wakeView
    · rfl
  · split
    · exact unlessFatal_wakeView (couchDecision_wakeView s _)
    · split
      · exact calendarAct_wakeView s d.index
      · split
        · split
          · exact (wdogExpire_inner (δ := noGain) d.index (.refl s)).wakeView
          · rfl
        · exact (propClose_inner (δ := noGain) _ _ _ _ (.refl s)).wakeView

theorem duesAct_wakeView (s : State) : wakeView (duesAct s).1 = wakeView s := by
  unfold duesAct
  extract_lets l s1 m
  have h1 : wakeView s1 = wakeView s := forEach_view (v := wakeView) dueAct_wakeView l s
  clear_value s1 m
  exact (forEach_view (v := wakeView) dueAct_wakeView m s1).trans h1

theorem wakeGroup_wakeView (s : State) (g : Nat) : wakeView (wakeGroup s g) = wakeView s := by
  unfold wakeGroup
  split
  · exact (couchTry_inner (δ := noGain) g (couchCalendar_inner g (couchRelease_inner g (.refl s)))).wakeView
  · rfl

theorem wakeGroups_wakeView (s : State) : wakeView (wakeGroups s) = wakeView s := unlessFatal_wakeView (forEach_view wakeGroup_wakeView _ s)

theorem creditTick_wakeView (s : State) : wakeView (creditTick s) = wakeView s := by
  unfold creditTick
  dsimp only
  split
  · rfl
  · exact (creditRefill_inner (δ := noGain) _ (.refl _)).wakeView

theorem strangerTick_wakeView (s : State) : wakeView (strangerTick s) = wakeView s := by
  unfold strangerTick
  split
  · rfl
  · exact (windowsEnd_inner (δ := noGain) (.refl _)).wakeView

theorem bucketTick_wakeView (s : State) : wakeView (bucketTick s) = wakeView s := by
  unfold bucketTick
  split <;> rfl

theorem writebackTick_wakeView (s : State) : wakeView (writebackTick s) = wakeView s := by
  unfold writebackTick
  dsimp only
  split
  · rfl
  · split
    · exact (writeback_inner (δ := noGain) (.refl _)).wakeView
    · rfl

theorem sweepMark_wakeView (s : State) : wakeView (sweepMark s) = wakeView s := rfl

theorem ticksAct_wakeView (s : State) : wakeView (ticksAct s) = wakeView s := by
  unfold ticksAct
  exact (sweepMark_wakeView _).trans ((writebackTick_wakeView _).trans ((bucketTick_wakeView _).trans ((strangerTick_wakeView _).trans (creditTick_wakeView s))))

/-! ### Before and after the change of mode -/

theorem wakeThrottle_wakeView (s : State) : wakeView (wakeThrottle s) = wakeView s := by
  show wakeView (if s.pw.thrPin = s.pw.throttle then s else throttleTake s s.pw.thrPin) = _
  split <;> rfl

theorem wakeTimeAgree_wakeView (s : State) (iv : Option DWord) : wakeView (wakeTimeAgree s iv) = wakeView s := by cases iv <;> rfl

theorem wakeTimeReport_wakeView (s : State) (iv : Option DWord) : wakeView (wakeTimeReport s iv) = wakeView s := by
  unfold wakeTimeReport
  split
  · split <;> rfl
  · exact (jnl_inner (δ := noGain) _ _ _ _ (.refl s)).wakeView

theorem wakeCaught_wakeView {s : State} (hr : ranking s = false) (iv : Option DWord) : wakeView (wakeCaught s iv) = wakeView s := by
  have h0 : wakeView (wakeThrottle (wakeTimeAgree (wakeTimeReport s iv) iv)) = wakeView s :=
    (wakeThrottle_wakeView _).trans ((wakeTimeAgree_wakeView _ iv).trans (wakeTimeReport_wakeView s iv))
  exact (ticksAct_wakeView _).trans ((wakeGroups_wakeView _).trans ((duesAct_wakeView _).trans
    ((wakeQueues_wakeView ((ranking_of_wakeView h0).trans hr)).trans h0)))

theorem wakeMerge_wakeView (s : State) : wakeView (wakeMerge s) = wakeView s :=
  (lastRounds_steady _).wakeView.trans (wiredRelease_steady s).wakeView

/-- What the report of ignored writes leaves; where sleep ignored none it leaves the settings too (R290, R357). -/
structure Reported (s t : State) : Prop where
  md : t.md = s.md
  now : t.tm.now = s.tm.now
  err : t.fu.err = s.fu.err
  len : t.fu.len = s.fu.len
  ctl : s.pw.ignored = [] → t.ctl = s.ctl

theorem Reported.of_wakeView {s t u : State} (h : Reported s t) (hv : wakeView u = wakeView t) : Reported s u := by
  simp only [wakeView, Prod.mk.injEq] at hv
  obtain ⟨h1, h2, h3, h4, h5, -⟩ := hv
  exact ⟨h1.trans h.md, h3.trans h.now, h4.trans h.err, h5.trans h.len, fun hi => h2.trans (h.ctl hi)⟩

theorem reportIgnored_reported (s : State) : Reported s (reportIgnored s) := by
  unfold reportIgnored
  extract_lets c s1
  have h1 : Reported s s1 := by
    have hv : (s1.md, s1.tm.now, s1.fu.err, s1.fu.len) = (s.md, s.tm.now, s.fu.err, s.fu.len) := by
      refine (forEach_view (v := fun x => (x.md, x.tm.now, x.fu.err, x.fu.len)) ?_ _ _).trans rfl
      exact fun _ _ => rfl
    simp only [Prod.mk.injEq] at hv
    obtain ⟨h1, h2, h3, h4⟩ := hv
    refine ⟨h1, h2, h3, h4, fun hi => ?_⟩
    unfold s1
    rw [hi]
    rfl
  clear_value s1
  refine h1.of_wakeView ((forEach_view (v := wakeView) ?_ _ _).trans rfl)
  exact fun _ _ => rfl

theorem reportFaults_wakeView (s : State) : wakeView (reportFaults s) = wakeView s :=
  (forEach_view (v := wakeView) (fun t _ => (faultAt_steady t ..).wakeView) _ _).trans rfl

theorem heldDone_wakeView (s : State) : wakeView (heldDone s) = wakeView s := by
  unfold heldDone
  split <;> rfl

theorem wakeHeld_wakeView (s : State) : wakeView (wakeHeld s) = wakeView s :=
  (forEach_view applyQueued_wakeView _ _).trans (heldDone_wakeView s)

theorem Reported.of_showRun {s t : State} (h : Reported (showRun s) t) : Reported s t := ⟨h.md, h.now, h.err, h.len, h.ctl⟩

theorem wakeReported_reported (s : State) : Reported (wakeMerge s) (wakeReported s) := by
  unfold wakeReported
  exact ((reportIgnored_reported (showRun (wakeMerge s))).of_wakeView (reportFaults_wakeView _)).of_showRun

/-- From the change of mode on. -/
theorem wakeRun_reported (s : State) (cause : BitVec 4) (iv : Option DWord) :
    Reported (wakeMerge (wakeServing (wakeCaught (wakeTimed s cause iv) iv))) (wakeRun s cause iv) := by
  rw [wakeRun_eq]
  generalize hu : wakeServing (wakeCaught (wakeTimed s cause iv) iv) = u
  have hr := wakeReported_reported u
  have hv (r : Rec) : wakeView (releaseAll (wakeHeld (jnlPut (wakeReported u) .journal r))) = wakeView (wakeReported u) :=
    (releaseAll_steady _).wakeView.trans ((wakeHeld_wakeView _).trans (jnlPut_inner (δ := noGain) .journal r (.refl _)).wakeView)
  exact hr.of_wakeView (hv _)

/-- What a wake shows of the state that the restored retention set leaves (R245, R292). -/
structure Woken (s0 : State) (now : Nat) (t : State) : Prop where
  ranking : ranking t = true
  now : t.tm.now = now
  lock : t.md.lock = s0.md.lock
  engineEn : t.md.engineEn = s0.md.engineEn
  err : t.fu.err = s0.fu.err
  len : t.fu.len = s0.fu.len
  ctl : s0.pw.ignored = [] → t.ctl = s0.ctl

theorem wakeRun_woken {s : State} (hs : sleeping s = true) (cause : BitVec 4) (iv : Option DWord) :
    Woken (wakeRestore s) (reconciled s iv) (wakeRun s cause iv) := by
  have hrun := wakeRun_reported s cause iv
  obtain ⟨-, hmode, -, -, -, hentry, hest⟩ := wakeRestore_rest s
  have hrank : ranking (wakeTimed s cause iv) = false := by
    show ranking (wakeRestore s) = false
    rw [ranking, hmode]
    rcases (by simpa [sleeping] using hs : s.md.mode = .rest ∨ s.md.mode = .dormant) with hm | hm <;> simp [hm]
  have hnow : (wakeTimed s cause iv).tm.now = reconciled s iv := by
    show reconciled (wakeRestore s) iv = reconciled s iv
    unfold reconciled
    split
    · rw [hentry]
    · exact hest
  have hv := wakeCaught_wakeView hrank iv
  have hmerge := wakeMerge_wakeView (wakeServing (wakeCaught (wakeTimed s cause iv) iv))
  generalize wakeCaught (wakeTimed s cause iv) iv = c at hrun hv hmerge
  simp only [wakeView, Prod.mk.injEq] at hv hmerge
  obtain ⟨v1, v2, v3, v4, v5, v6⟩ := hv
  obtain ⟨m1, m2, m3, m4, m5, m6⟩ := hmerge
  have hmd := hrun.md.trans m1
  refine ⟨?_, hrun.now.trans (m3.trans (v3.trans hnow)), ?_, ?_, hrun.err.trans (m4.trans v4), hrun.len.trans (m5.trans v5), fun hi => ?_⟩
  · rw [Machine.ranking, hmd]
    have hm : (wakeServing c).md.mode = if drainHeld c then .draining else .serving := rfl
    rw [hm]
    split <;> rfl
  · rw [hmd]
    exact (congrArg ModeUnit.lock v1 :)
  · rw [hmd]
    exact (congrArg ModeUnit.engineEn v1 :)
  · exact (hrun.ctl (m6.trans (v6.trans hi))).trans (m2.trans v2)

theorem wakeThrottle_leaves (x : State) : (wakeThrottle x).md = x.md ∧ (wakeThrottle x).pw.retLost = x.pw.retLost
    ∧ (wakeThrottle x).pw.wakes = x.pw.wakes ∧ (wakeThrottle x).pw.wakeCause = x.pw.wakeCause ∧ (wakeThrottle x).vat = x.vat ∧ (wakeThrottle x).ts = x.ts
    ∧ (wakeThrottle x).tm = x.tm ∧ (wakeThrottle x).ao = x.ao := by
  have hite : wakeThrottle x = cdcClear (if x.pw.thrPin = x.pw.throttle then x else throttleTake x x.pw.thrPin) .throttle 0 := rfl
  rw [hite]
  split <;> exact ⟨rfl, rfl, rfl, rfl, rfl, rfl, rfl, rfl⟩

/-- A wake that finds retention lost (R69, R288, R326). -/
theorem wakeLost_shows (s : State) (cause : BitVec 4) (iv : Option DWord) :
    (wakeLost s cause iv).md.mode = .unformed ∧ (wakeLost s cause iv).pw.retLost = true ∧ (wakeLost s cause iv).pw.wakes = s.pw.wakes + 1
      ∧ (wakeLost s cause iv).pw.wakeCause = cause ∧ (wakeLost s cause iv).vat = State.vatReset ∧ (wakeLost s cause iv).ts = State.tsReset
      ∧ (wakeLost s cause iv).tm.now = reconciled s iv
      ∧ ∃ r, (wakeLost s cause iv).ao.lgDue = some r ∧ fld (wd16 r 0) 0 8 = (0x2C : Byte) := by
  unfold wakeLost
  extract_lets first c1 s1 r s2
  obtain ⟨h1, h2, h3, h4, h5, h6, h7, h8⟩ := wakeThrottle_leaves { s2 with
    md := { s2.md with mode := .unformed, prev := s.md.mode, seq := s.md.seq + 1 },
    pw := { s2.pw with req := s.pw.req, retLost := true, wakes := s.pw.wakes + 1, wakeCause := cause, saveValid := false },
    flt := { s2.flt with first := first }, ao := { s2.ao with lgDue := some r } }
  exact ⟨(congrArg ModeUnit.mode h1 :), h2, h3, h4, h5, h6, (congrArg TimeUnit.now h7 :), r, (congrArg AoUnit.lgDue h8 :), lastGaspRec_source ..⟩

end Sys2Proof.Machine

namespace Sys2Proof

open Sys2Proof.Machine

/-- Settles O56, by whether retention is lost, and by the sleep that the wake ends. -/
theorem wakeSetsLocalTime : Obligations.WakeSetsLocalTime := by
  intro s v c hl ha he hw hs
  have hx := execPwrAck_of_wake hl ha he hw hs v
  refine ⟨fun hret => ?_, fun hret => ?_⟩
  · have ht : exec (.pwrAck v) s = .next (wakeRun s c v) := hx.trans (congrArg Host.Outcome.next (by simp [wakeDone, hret]))
    have hk := wakeRun_woken hs c v
    obtain ⟨hbase, hlog2, -, hfenced⟩ := (wakeRun_firm s c v).stay rfl
    refine ⟨_, ht, hk.ranking, hk.now, ?_, fun hm => ?_, fun hm => ?_⟩
    · rw [hk.now]
      cases v with
      | some v => exact Nat.le_max_right ..
      | none => exact Nat.le_add_right ..
    · have h0 : wakeRestore s = retentionLoad s s.pw.ret := if_pos hm
      rw [h0] at hk hbase hlog2 hfenced
      exact ⟨hk.lock, hk.engineEn, hfenced, hbase, hlog2, hk.err, hk.len, hk.ctl⟩
    · have h0 : wakeRestore s = s := if_neg (by simp [hm])
      rw [h0] at hk hbase hfenced
      exact ⟨hk.lock, hk.engineEn, hfenced, hbase, hk.ctl⟩
  · have ht : exec (.pwrAck v) s = .next (wakeLost s c v) := hx.trans (congrArg Host.Outcome.next (by simp [wakeDone, hret]))
    obtain ⟨h1, h2, h3, h4, h5, h6, h7, r, h8, h9⟩ := wakeLost_shows s c v
    exact ⟨_, r, ht, h1, h2, h3, h4, h8, h9, h5, h6, h7⟩

end Sys2Proof
end
